-- ==== Sys2Proof/Word.lean ====
section
/-!
DEFINITION. Words, bytes, keys and the sparse table type that every per-object store of the model uses.
-/
namespace Sys2Proof

/-- A 64-bit word: a BAR0 register, a Dexez register, an instruction word, a host-memory word (R3, R4). -/
abbrev Word := BitVec 64

/-- A byte of payload or of host memory. -/
abbrev Byte := BitVec 8

/-- A 256-bit AES key (R271, R436). -/
abbrev Key := BitVec 256

/-- A sparse table from object numbers to records. Its canonical form (Machine/Tab.lean) has rising keys and no entry equal to
what an unlisted key reads as, so equal tables are equal lists. -/
abbrev Tab (α : Type) := List (Nat × α)

end Sys2Proof
end

