-- ==== Sys2Proof/Syntax.lean ====
section
/-!
DEFINITION. The commands the block takes, one constructor per row of spec/opcode_table.json, and the plain data they carry: who writes a
register, what a host read returned, packets, control packets, link units, management messages and the readings of sensors and pins.
A docstring of a constructor names its row and the rule the row cites.
-/
namespace Sys2Proof

/-- Who makes a register access (R34, R37, R48): PF0 of a host port, a VF, the sideband interface, or an instruction. -/
inductive Origin where
  | pf0 (port : Nat)
  | vf (port fn : Nat)
  | sideband
  | instr
deriving DecidableEq, Repr

/-- What a host-memory read of structures returned: its 64-bit words in address order, or an error completion or none (R559). -/
inductive ReadRes where
  | ok (ws : List Word)
  | busErr
deriving DecidableEq, Repr

/-- What a host-memory access of payload returned: the bytes read (none for a write that is done), or a failure (R559). -/
inductive DataRes where
  | ok (bs : List Byte)
  | busErr
deriving DecidableEq, Repr

/-- What a read of a QCB or of PRODUCER inside a queue command returned (R190, R205, R560). -/
inductive QcbRes where
  | ok (ws : List Word)
  | busErr
  | xlate
deriving DecidableEq, Repr

/-- Packet opcodes without their channel (R383). -/
inductive PktOp where
  | put | get | amo | eager | rts | rget | getResp | amoResp | rgetResp | coll
deriving DecidableEq, Repr, Inhabited

/-- The protection of a packet, held symbolically: the key and the IV it was sealed under (R440), and whether the sealed bytes are
unaltered. The tag verifies exactly when the receiver uses that key and that IV on unaltered bytes. -/
structure Seal where
  key : Key
  iv : List Word
  intact : Bool
deriving DecidableEq, Repr, Inhabited

/-- A DATA packet: the header of R381, its plaintext payload, its protection and whether its CRC-32C passes (R386). -/
structure Packet where
  dstRouter : Nat
  dstNode : Nat
  dstFunc : Nat
  srcNode : Nat
  srcFunc : Nat
  domain : Nat
  inter : Nat
  psn : Nat
  srcInc : Nat
  dstInc : Nat
  birth : Nat
  op : PktOp
  chan : Nat
  first : Bool
  last : Bool
  scatter : Bool
  len : Nat
  raddr : Word
  rkey : Word
  opid : Word
  rctr : Nat
  sigr : Bool
  payload : List Byte
  sealed : Seal
  crcOk : Bool
deriving DecidableEq, Repr, Inhabited

/-- Kinds of control packet (R389). -/
inductive CtlKind where
  | ack | nackSeqGap | nackRnr | nackXlate | nackStale | refuse | refuseAck | sync | syncAck | cvyAck
deriving DecidableEq, Repr

/-- A CTL packet (R388, R389). `chan`: 0 REQA, 1 REQB, 2 RESP, 3 COLL. -/
structure Ctl where
  dstRouter : Nat
  dstNode : Nat
  dstFunc : Nat
  srcNode : Nat
  srcFunc : Nat
  domain : Nat
  inter : Nat
  psn : Nat
  srcInc : Nat
  dstInc : Nat
  birth : Nat
  kind : CtlKind
  chan : Nat
  status : Nat
  arg : Word
  body : List Word
  sealed : Seal
  crcOk : Bool
deriving DecidableEq, Repr

/-- A management message (R387, R431). `sigOk`: the P-384 signature verifies under the registered key (PROGRAM only). `formatOk`: MAGIC,
FORMAT and the lengths are as R431 gives. `crcOk`: the CRC-32C of R386 passes. -/
structure Mgmt where
  dstRouter : Nat
  birth : Nat
  kind : Nat
  target : Nat
  targetInc : Nat
  origin : Nat
  mtag : Nat
  seq : Nat
  prog : List Word
  param : List Word
  body : List Byte
  sigOk : Bool
  formatOk : Bool
  crcOk : Bool
deriving DecidableEq, Repr

/-- A convoy slot frame (R363). -/
structure Frame where
  convoy : Nat
  domain : Nat
  seq : Nat
  len : Nat
  srcInc : Nat
  srcRouter : Nat
  payload : List Byte
  sealed : Seal
  crcOk : Bool
deriving DecidableEq, Repr

/-- A link control flit (R378): freed flits per VC, for VC 0 to 31. -/
structure Lcf where
  lack : Nat
  nak : Bool
  freed : List Nat
  ok : Bool
deriving DecidableEq, Repr

/-- A gossip unit (R347, R380): the sender's router ID and one level per port. -/
structure Gossip where
  router : Nat
  levels : List Nat
  crcOk : Bool
deriving DecidableEq, Repr

/-- A time sync unit (R380). Timestamps count in 1/16 ns. -/
structure TimeSync where
  txTime : Nat
  rxTime : Nat
  stage : Nat
  period : Nat
  gmRouter : Nat
  sender : Nat
  crcOk : Bool
deriving DecidableEq, Repr

/-- A LINIT unit (R377). -/
structure Linit where
  router : Nat
  inc : Nat
  port : Nat
  period : Nat
deriving DecidableEq, Repr

/-- The body of a sequenced link unit (R373). -/
inductive UnitBody where
  | data (p : Packet)
  | ctl (c : Ctl)
  | mgmt (m : Mgmt)
deriving DecidableEq, Repr

/-- A sequenced link unit (R371): VC, LSEQ, length in flits, body. -/
structure LinkUnit where
  vc : Nat
  lseq : Nat
  flits : Nat
  body : UnitBody
deriving DecidableEq, Repr

/-- What the clock monitors saw when a reference failed (R62, R66): which references fail against the RC oscillator, whether they agree
with each other within 1 %, and which one's count lies further from nominal. -/
structure RefObs where
  aFails : Bool
  bFails : Bool
  agree : Bool
  aFurther : Bool
deriving DecidableEq, Repr

/-- Conditions that take sync from LOCKED to LOST (R56). -/
inductive SyncLoss where
  | linkDown | missedFrames | offset | period
deriving DecidableEq, Repr

/-- The timebase reading at a boundary, in 1/16 ns, and the passes that this boundary does not finish: pairs of a task number 5 to 10 and
the number of cycles that its pass runs before the next boundary abandons it (R60). -/
structure Boundary where
  now : Nat
  cut : List (Nat × Nat)
deriving DecidableEq, Repr

/-- SPDM transports (R428): MCTP over PCIe VDM through a host port's PF0, the sideband, or the fabric. -/
inductive Transport where
  | pcie (port : Nat)
  | sideband
  | fabric (origin mtag : Nat)
deriving DecidableEq, Repr

/-- Identity of a module as CMIS pages give it (R465, R467, R469), and the valid life-ledger slots. `ledger` lists (COUNT, WEAR, FLAGS); `apps`
the RATE codes that some application with 8 host lanes matches. -/
structure ModuleInfo where
  ready : Bool
  cmisRev : Nat
  oui : Nat
  part : List Word
  serial : List Word
  ratedH : Nat
  ledger : List (Nat × Nat × Nat)
  apps : List Nat
deriving DecidableEq, Repr

/-- A PCIe configuration write that reaches the device (CONFIGURATION_WRITE). -/
inductive CfgWrite where
  | busMaster (port fn : Nat) (on : Bool)
  | msixEnable (port fn : Nat) (on : Bool)
  | memSpace (port fn : Nat) (on : Bool)
  | vecMask (port fn vec : Nat)
  | numVfs (port n : Nat)
  | vfEnable (port : Nat) (on : Bool)
  | vfMemSpace (port : Nat) (on : Bool)
  | barBase (port : Nat) (ranges : List (Nat × Nat))
deriving DecidableEq, Repr

/-- The power domains of R535. -/
inductive PDom where
  | core | coll | mat
  | host (n : Nat)
  | quad (n : Nat)
deriving DecidableEq, Repr

/-- Hardware bring-up steps of R529. -/
inductive BringStep where
  | rails (ok : Bool) (rail mv : Nat)
  | fuses (ok : Bool) (targetMv : Nat)
  | plls
  | stores (failed : Option Nat)
  | lanes
  | identity (ok : Bool)
  | host (n : Nat)
  | sync
deriving DecidableEq, Repr

/-- What finds an error in a store (R26, R525): the fault source number, whether the error was corrected in place, the store and word (or
the syndrome of the source), for ECC_ERROR. -/
structure EccEvent where
  source : Nat
  syndrome : Word
deriving DecidableEq, Repr

/-- A write of a VF's doorbell page or a PF0's (R32): port, function, page of that function's BAR2, value, and whether it is a 32-bit write. -/
structure DbWrite where
  port : Nat
  fn : Nat
  page : Nat
  value : BitVec 32
  is32 : Bool
deriving DecidableEq, Repr

/-- The commands. Register-write rows carry the writer and the 64-bit value written; Dexez rows carry the context number of the run that
issues (8,192 names the sideband run); a return of a host access carries the access number the request bore. -/
inductive Instr where
  /-- REGISTER_WRITE (R8). -/ | registerWrite (o : Origin) (off size : Nat) (v : Word)
  /-- RC_READ (R7). -/ | rcRead (o : Origin) (off size : Nat)
  /-- STAGE_BOUNDARY (R58). -/ | stageBoundary (b : Boundary)
  /-- S_FIELD_COMMIT (R9). -/ | sFieldCommit
  /-- PERIOD_CHANGE (R51). -/ | periodChange
  /-- TIME_SYNC_RECEIVE (R52). -/ | timeSyncReceive (port : Nat) (u : TimeSync) (arrival : Nat)
  /-- SYNC_LOST (R57). -/ | syncLost (why : SyncLoss)
  /-- REFCLK_FAIL (R62). -/ | refclkFail (r : RefObs)
  /-- REFCLK_QUALIFIED (R63). -/ | refclkQualified (isB : Bool)
  /-- CORE_PLL_RELOCK (R65). -/ | corePllRelock
  /-- REVERT (R64). -/ | revert (o : Origin)
  /-- TB_PLL_UNLOCK (R67). -/ | tbPllUnlock
  /-- CORE_PLL_UNLOCK (R67). -/ | corePllUnlock
  /-- MGMT_PLL_UNLOCK (R67). -/ | mgmtPllUnlock
  /-- HOSTREF_FAIL (R67). -/ | hostrefFail (port : Nat)
  /-- CLKOUT_CONFIG_WRITE (R71). -/ | clkoutConfigWrite (o : Origin) (n : Nat) (v : Word)
  /-- CLKOUT_HOLD_END (R71). -/ | clkoutHoldEnd (n : Nat)
  /-- FMETER_START (R72). -/ | fmeterStart (o : Origin) (v : Word)
  /-- FMETER_DONE (R72). -/ | fmeterDone (edges : Nat)
  /-- WQ_TURN (R187). -/ | wqTurn (q : Nat)
  /-- PRODUCER_READ_RETURN (R172). -/ | producerReadReturn (id : Nat) (r : ReadRes)
  /-- ENTRY_READ_RETURN (R178). -/ | entryReadReturn (id : Nat) (r : ReadRes)
  /-- OWNERSHIP_POLL (R178). -/ | ownershipPoll (q : Nat)
  /-- RUN_RESTORE (R78). -/ | runRestore (cluster : Nat)
  /-- IMAGE_FETCH_RETURN (R92). -/ | imageFetchReturn (id : Nat) (r : ReadRes)
  /-- LD_RETURN (R93). -/ | ldReturn (id : Nat) (r : ReadRes)
  /-- DESCRIPTOR_READ_RETURN (R88). -/ | descriptorReadReturn (id : Nat) (r : ReadRes)
  /-- FRAGMENT_TABLE_READ_RETURN (R185). -/ | fragmentTableReadReturn (id : Nat) (r : ReadRes)
  /-- UNASSIGNED_OPCODE (R122). -/ | unassignedOpcode (run : Nat)
  /-- NOP (R130). -/ | nop (run : Nat)
  /-- END (R130). -/ | progEnd (run : Nat)
  /-- LDQ (R131). -/ | ldq (run : Nat)
  /-- LDI (R131). -/ | ldi (run : Nat)
  /-- LD (R132). -/ | ld (run : Nat)
  /-- ST (R132). -/ | st (run : Nat)
  /-- ADD (R133). -/ | add (run : Nat)
  /-- SUB (R133). -/ | sub (run : Nat)
  /-- AND (R133). -/ | and (run : Nat)
  /-- OR (R133). -/ | or (run : Nat)
  /-- XOR (R133). -/ | xor (run : Nat)
  /-- SHL (R133). -/ | shl (run : Nat)
  /-- SHR (R133). -/ | shr (run : Nat)
  /-- MOV (R133). -/ | mov (run : Nat)
  /-- BR (R134). -/ | br (run : Nat)
  /-- BRC (R134). -/ | brc (run : Nat)
  /-- BRS (R135). -/ | brs (run : Nat)
  /-- PUT (R137). -/ | put (run : Nat)
  /-- GET (R138). -/ | get (run : Nat)
  /-- PUTX (R139). -/ | putx (run : Nat)
  /-- GETX (R139). -/ | getx (run : Nat)
  /-- AMO (R141). -/ | amo (run : Nat)
  /-- AMOF (R142). -/ | amof (run : Nat)
  /-- COPY (R143). -/ | copy (run : Nat)
  /-- SEND (R145). -/ | send (run : Nat)
  /-- POST (R146). -/ | post (run : Nat)
  /-- CANCEL (R147). -/ | cancel (run : Nat)
  /-- WAIT (R100). -/ | wait (run : Nat)
  /-- SIGNAL (R149). -/ | signal (run : Nat)
  /-- CSET (R149). -/ | cset (run : Nat)
  /-- FENCE (R150). -/ | fence (run : Nat)
  /-- JOIN (R151). -/ | join (run : Nat)
  /-- REDUCE (R152). -/ | reduce (run : Nat)
  /-- BCAST (R153). -/ | bcast (run : Nat)
  /-- BARRIER (R151). -/ | barrier (run : Nat)
  /-- LOCK (R155). -/ | lock (run : Nat)
  /-- UNLOCK (R157). -/ | unlock (run : Nat)
  /-- EVENT (R158). -/ | event (run : Nat)
  /-- TRAP (R159). -/ | trap (run : Nat)
  /-- RTSET_WRITE (R340). -/ | rtsetWrite (run : Nat)
  /-- RTSET_SWAP (R340). -/ | rtsetSwap (run : Nat)
  /-- RTSET_COPY (R340). -/ | rtsetCopy (run : Nat)
  /-- CONVOY_SETUP (R164). -/ | convoySetup (run : Nat)
  /-- CONVOY_TEARDOWN (R369). -/ | convoyTeardown (run : Nat)
  /-- TOLLSET (R420). -/ | tollset (run : Nat)
  /-- DOMAIN_ACTIVATE (R435). -/ | domainActivate (run : Nat)
  /-- DOMAIN_RETIRE (R435). -/ | domainRetire (run : Nat)
  /-- BIND_FUNC (R161). -/ | bindFunc (run : Nat)
  /-- BIND_PASID (R208). -/ | bindPasid (run : Nat)
  /-- BIND_CTR (R203). -/ | bindCtr (run : Nat)
  /-- KEYOP_CREATE (R276). -/ | keyopCreate (run : Nat)
  /-- KEYOP_REVOKE (R276). -/ | keyopRevoke (run : Nat)
  /-- KEYOP_REBOUND (R276). -/ | keyopRebound (run : Nat)
  /-- CTXFLUSH_QUEUE (R161). -/ | ctxflushQueue (run : Nat)
  /-- CTXFLUSH_MATCH (R161). -/ | ctxflushMatch (run : Nat)
  /-- CTXFLUSH_DOMAIN (R161). -/ | ctxflushDomain (run : Nat)
  /-- TLBINV_ALL (R224). -/ | tlbinvAll (run : Nat)
  /-- TLBINV_PASID (R224). -/ | tlbinvPasid (run : Nat)
  /-- TLBINV_PAGE (R224). -/ | tlbinvPage (run : Nat)
  /-- TLBINV_RANGE (R224). -/ | tlbinvRange (run : Nat)
  /-- GROUPSET_CREATE (R313). -/ | groupsetCreate (run : Nat)
  /-- GROUPSET_DESTROY (R335). -/ | groupsetDestroy (run : Nat)
  /-- EPSET (R336). -/ | epset (run : Nat)
  /-- STAGECFG_PERIOD (R51). -/ | stagecfgPeriod (run : Nat)
  /-- STAGECFG_SYNC (R161). -/ | stagecfgSync (run : Nat)
  /-- OP_LOCAL_COMPLETION (R105). -/ | opLocalCompletion (run slot : Nat)
  /-- WAIT_TIMEOUT (R101). -/ | waitTimeout (run : Nat)
  /-- LOCK_TIMEOUT (R155). -/ | lockTimeout (run : Nat)
  /-- RUN_FREE (R105). -/ | runFree (run : Nat)
  /-- RUN_PARK (R111). -/ | runPark (run : Nat)
  /-- RUN_RESUME (R114). -/ | runResume (o : Origin) (handle : BitVec 32)
  /-- RUN_ABORT (R115). -/ | runAbort (o : Origin) (handle : BitVec 32)
  /-- PCACHE_INVALIDATE (R94). -/ | pcacheInvalidate (o : Origin) (v : Word)
  /-- SIDEBAND_RUN_START (R120). -/ | sidebandRunStart (o : Origin)
  /-- SEQ_CTX_ECC (R108). -/ | seqCtxEcc (run : Nat)
  /-- SEQ_CLUSTER_ECC (R108). -/ | seqClusterEcc (cluster : Nat)
  /-- CREATE_WQ (R190). -/ | createWq (set index : Nat) (qcb : QcbRes)
  /-- START_WQ (R190). -/ | startWq (set index : Nat) (qcb : QcbRes)
  /-- STOP_WQ (R190). -/ | stopWq (set index : Nat)
  /-- RESET_WQ (R190). -/ | resetWq (set index : Nat) (prod : QcbRes)
  /-- DESTROY_WQ (R190). -/ | destroyWq (set index : Nat) (prod : QcbRes)
  /-- CREATE_EQ (R205). -/ | createEq (set index vfslot : Nat)
  /-- DESTROY_EQ (R205). -/ | destroyEq (set index : Nat)
  /-- EQ_CONSUMER_WRITE (R201). -/ | eqConsumerWrite (o : Origin) (e : Nat) (v : Word)
  /-- EQ_ARM (R202). -/ | eqArm (o : Origin) (e : Nat)
  /-- EQ_MODERATION_TIMEOUT (R202). -/ | eqModerationTimeout (e : Nat)
  /-- COUNTER_WRITE (R204). -/ | counterWrite (o : Origin) (set : Nat) (v : Word)
  /-- DOORBELL (R32). -/ | doorbell (d : DbWrite)
  /-- MSIX_UNMASK (R36). -/ | msixUnmask (port fn vec : Nat)
  /-- HOST_LINK_UP (R28). -/ | hostLinkUp (port rate width : Nat) (flit : Bool)
  /-- HOST_LINK_DOWN (R29). -/ | hostLinkDown (port : Nat)
  /-- HOST_HOT_RESET (R29). -/ | hostHotReset (port : Nat)
  /-- FUNCTION_LEVEL_RESET (R31). -/ | functionLevelReset (port fn : Nat)
  /-- VF_ENABLE_CLEAR (R31). -/ | vfEnableClear (port : Nat)
  /-- WQ4_PROGRAM (R432). -/ | wq4Program (m : Mgmt)
  /-- FM_KEY_REGISTER (R40). -/ | fmKeyRegister (o : Origin)
  /-- MMU_CREATE (R238). -/ | mmuCreate (set : Nat)
  /-- MMU_DESTROY (R238). -/ | mmuDestroy (set : Nat)
  /-- MMU_CLEAR (R238). -/ | mmuClear (set : Nat)
  /-- MMU_QUERY (R238). -/ | mmuQuery (set : Nat)
  /-- SET_ROOT (R238). -/ | setRoot (set : Nat)
  /-- MMU_RETRY (R238). -/ | mmuRetry (set : Nat)
  /-- MMU_INV_ALL (R224). -/ | mmuInvAll (set : Nat)
  /-- MMU_INV_PASID (R224). -/ | mmuInvPasid (set : Nat)
  /-- MMU_INV_PAGE (R224). -/ | mmuInvPage (set : Nat)
  /-- MMU_INV_RANGE (R224). -/ | mmuInvRange (set : Nat)
  /-- INVALIDATION_DONE (R225). -/ | invalidationDone (id : Nat)
  /-- WALK_READ_RETURN (R212). -/ | walkReadReturn (id : Nat) (r : ReadRes)
  /-- AD_CAS_RETURN (R214). -/ | adCasReturn (id : Nat) (r : ReadRes)
  /-- MAT_CREATE (R269). -/ | matCreate (set : Nat)
  /-- MAT_DESTROY (R258). -/ | matDestroy (set : Nat)
  /-- MAT_CLEAR (R269). -/ | matClear (set : Nat)
  /-- MAT_QUERY (R269). -/ | matQuery (set : Nat)
  /-- EAGER_ARRIVAL (R252). -/ | eagerArrival (p : Packet)
  /-- RTS_ARRIVAL (R254). -/ | rtsArrival (p : Packet)
  /-- RGET_ARRIVAL (R254). -/ | rgetArrival (p : Packet)
  /-- RGET_RESP_ARRIVAL (R402). -/ | rgetRespArrival (p : Packet)
  /-- MATCH_WALK_DONE (R247). -/ | matchWalkDone (msg : Nat)
  /-- MATCH_CONFIRM (R262). -/ | matchConfirm (msg : Nat)
  /-- SPECULATION_EXPIRY (R263). -/ | speculationExpiry (msg : Nat)
  /-- SPILL_ACCESS_RETURN (R245). -/ | spillAccessReturn (ctx : Nat) (r : ReadRes)
  /-- PUT_ARRIVAL (R277). -/ | putArrival (p : Packet)
  /-- GET_ARRIVAL (R287). -/ | getArrival (p : Packet)
  /-- AMO_ARRIVAL (R289). -/ | amoArrival (p : Packet)
  /-- LINE_LOCK_GRANT (R290). -/ | lineLockGrant (line : Nat)
  /-- ATOMIC_READ_RETURN (R290). -/ | atomicReadReturn (line : Nat) (r : ReadRes)
  /-- ATOMICOP_COMPLETE (R291). -/ | atomicopComplete (line : Nat) (r : ReadRes)
  /-- AMO_RESULT_EXPIRY (R292). -/ | amoResultExpiry (key : Nat)
  /-- GET_RESP_ARRIVAL (R402). -/ | getRespArrival (p : Packet)
  /-- AMO_RESP_ARRIVAL (R402). -/ | amoRespArrival (p : Packet)
  /-- KEY_TABLE_READ_RETURN (R275). -/ | keyTableReadReturn (index : Nat) (r : ReadRes)
  /-- KEY_TABLE_ENABLE_WRITE (R275). -/ | keyTableEnableWrite (o : Origin) (v : Word)
  /-- BURST_GRANT (R299). -/ | burstGrant (ch : Nat)
  /-- BURST_COMPLETE (R297). -/ | burstComplete (ch burst : Nat) (r : DataRes)
  /-- CHANNEL_PARK (R302). -/ | channelPark (ch : Nat)
  /-- OPERATION_BIND (R303). -/ | operationBind
  /-- RF_GO (R306). -/ | rfGo (o : Origin) (ch : Nat)
  /-- RF_RESUME (R311). -/ | rfResume (o : Origin) (ch : Nat)
  /-- RF_ABORT (R311). -/ | rfAbort (o : Origin) (ch : Nat)
  /-- RF_ABORT_ALL (R311). -/ | rfAbortAll (o : Origin) (ch : Nat)
  /-- RF_CONTINUE (R311). -/ | rfContinue (o : Origin) (ch : Nat)
  /-- RF_TRANSFER_COMPLETE (R308). -/ | rfTransferComplete (ch : Nat)
  /-- GRANT_ARRIVAL (R315). -/ | grantArrival (port : Nat) (p : Packet)
  /-- COLL_UP_ARRIVAL (R322). -/ | collUpArrival (port : Nat) (p : Packet)
  /-- SEGMENT_COMBINE (R322). -/ | segmentCombine (group seq seg : Nat)
  /-- COLL_DOWN_ARRIVAL (R327). -/ | collDownArrival (port : Nat) (p : Packet)
  /-- BREAK_ARRIVAL (R333). -/ | breakArrival (port : Nat) (p : Packet)
  /-- COLL_STALL_TIMEOUT (R331). -/ | collStallTimeout (group : Nat)
  /-- BANK_SWAP_ARM (R340). -/ | bankSwapArm (o : Origin)
  /-- BANK_COPY (R340). -/ | bankCopy (o : Origin)
  /-- BANK_COPY_DONE (R340). -/ | bankCopyDone
  /-- ROUTE_BANK_SWAP (R340). -/ | routeBankSwap
  /-- ROUTE_RAW_WRITE (R341). -/ | routeRawWrite (o : Origin) (bank router size : Nat) (v : Word)
  /-- EP_RAW_WRITE (R342). -/ | epRawWrite (o : Origin) (i : Nat) (v : BitVec 32)
  /-- DOMAIN_DRR_VISIT (R421). -/ | domainDrrVisit (domain : Nat) (scav : Bool)
  /-- PACKET_ROUTE (R343). -/ | packetRoute (port : Nat)
  /-- PORT_TRANSMIT (R423). -/ | portTransmit (port : Nat) (slotClear : Nat)
  /-- GOSSIP_RECEIVE (R347). -/ | gossipReceive (port : Nat) (g : Gossip)
  /-- GOSSIP_TIMEOUT (R347). -/ | gossipTimeout (port : Nat)
  /-- LINK_DOWN (R357). -/ | linkDown (port cause : Nat)
  /-- CONVOY_ACTIVATE (R360). -/ | convoyActivate (convoy : Nat)
  /-- CONVOY_SLOT (R364). -/ | convoySlot (convoy : Nat)
  /-- CONVOY_FRAME_FORWARD (R365). -/ | convoyFrameForward (port : Nat) (f : Frame)
  /-- CONVOY_FRAME_RECEIVE (R366). -/ | convoyFrameReceive (port : Nat) (f : Frame)
  /-- CVY_ACK (R367). -/ | cvyAck (c : Ctl)
  /-- CONVOY_FRAME_TIMEOUT (R367). -/ | convoyFrameTimeout (convoy seq : Nat)
  /-- CONVOY_SOURCE_RETRY (R364). -/ | convoySourceRetry (convoy : Nat)
  /-- CONVOY_RELEASE (R369). -/ | convoyRelease (convoy : Nat)
  /-- CONVOY_BROKEN_RELEASE (R370). -/ | convoyBrokenRelease (convoy : Nat)
  /-- LINK_UNIT_RECEIVE (R374). -/ | linkUnitReceive (port : Nat) (u : LinkUnit) (decoded : Bool)
  /-- LCF_RECEIVE (R378). -/ | lcfReceive (port : Nat) (l : Lcf)
  /-- REPLAY_TIMEOUT (R375). -/ | replayTimeout (port : Nat)
  /-- LCF_SEND (R378). -/ | lcfSend (port : Nat)
  /-- LINIT_SEND (R377). -/ | linitSend (port : Nat)
  /-- LINIT_RECEIVE (R377). -/ | linitReceive (port : Nat) (l : Linit)
  /-- LINK_RETRAIN (R377). -/ | linkRetrain (o : Origin) (port : Nat)
  /-- ACK (R398). -/ | ack (c : Ctl)
  /-- NACK_SEQ_GAP (R398). -/ | nackSeqGap (c : Ctl)
  /-- NACK_RNR (R398). -/ | nackRnr (c : Ctl)
  /-- NACK_XLATE (R398). -/ | nackXlate (c : Ctl)
  /-- NACK_STALE (R407). -/ | nackStale (c : Ctl)
  /-- REFUSE (R397). -/ | refuse (c : Ctl)
  /-- REFUSE_ACK (R396). -/ | refuseAck (c : Ctl)
  /-- SYNC (R401). -/ | sync (c : Ctl)
  /-- SYNC_ACK (R400). -/ | syncAck (c : Ctl)
  /-- PACKET_TIMEOUT (R399). -/ | packetTimeout (pair psn : Nat)
  /-- RETRY_AFTER_EXPIRY (R398). -/ | retryAfterExpiry (pair psn : Nat)
  /-- SEQ_GAP_REPORT (R398). -/ | seqGapReport (pair : Nat)
  /-- REFUSE_RESEND (R396). -/ | refuseResend (pair num : Nat)
  /-- REFUSAL_WAIT_EXPIRY (R397). -/ | refusalWaitExpiry (pair : Nat)
  /-- SYNC_RESEND (R400). -/ | syncResend (pair : Nat)
  /-- SYNC_ABANDON (R400). -/ | syncAbandon (pair : Nat)
  /-- ACK_TIMER (R395). -/ | ackTimer (pair : Nat)
  /-- LIFETIME_EXPIRY (R403). -/ | lifetimeExpiry (pair psn : Nat)
  /-- RECEIVE_RECORD_EXPIRY (R404). -/ | receiveRecordExpiry (pair : Nat)
  /-- SEND_RECORD_EXPIRY (R404). -/ | sendRecordExpiry (pair : Nat)
  /-- INCARNATION_QUIET_END (R408). -/ | incarnationQuietEnd
  /-- MGMT_FORWARD (R433). -/ | mgmtForward (m : Mgmt) (storeFull : Bool)
  /-- SPDM_FABRIC_REQUEST (R433). -/ | spdmFabricRequest (m : Mgmt) (answer : List Byte)
  /-- SPDM_FABRIC_RESPONSE (R434). -/ | spdmFabricResponse (m : Mgmt)
  /-- MAILBOX_SEND (R434). -/ | mailboxSend (o : Origin) (v : Word)
  /-- MAILBOX_TIMEOUT (R434). -/ | mailboxTimeout
  /-- GET_VERSION (R429). -/ | getVersion (t : Transport)
  /-- GET_CAPABILITIES (R429). -/ | getCapabilities (t : Transport)
  /-- NEGOTIATE_ALGORITHMS (R429). -/ | negotiateAlgorithms (t : Transport) (oneSet : Bool)
  /-- GET_DIGESTS (R429). -/ | getDigests (t : Transport)
  /-- GET_CERTIFICATE (R426). -/ | getCertificate (t : Transport) (slot : Nat)
  /-- CHALLENGE (R429). -/ | challenge (t : Transport)
  /-- GET_MEASUREMENTS (R430). -/ | getMeasurements (t : Transport) (index : Nat)
  /-- KEY_EXCHANGE (R429). -/ | keyExchange (t : Transport)
  /-- FINISH (R429). -/ | finish (t : Transport) (session : Nat) (macOk : Bool)
  /-- HEARTBEAT (R429). -/ | heartbeat (t : Transport) (session : Nat)
  /-- KEY_UPDATE (R429). -/ | keyUpdate (t : Transport) (session : Nat)
  /-- END_SESSION (R429). -/ | endSession (t : Transport) (session : Nat)
  /-- SPDM_UNSUPPORTED_REQUEST (R429). -/ | spdmUnsupportedRequest (t : Transport) (code : Nat)
  /-- INSTALL (R437). -/ | install (t : Transport) (session domain : Nat) (key : Key)
  /-- STAGE (R437). -/ | stage (t : Transport) (session domain : Nat) (key : Key) (proof : BitVec 128)
  /-- SWITCH (R437). -/ | switch (t : Transport) (session domain : Nat) (proof : BitVec 128)
  /-- DROP_ALT (R437). -/ | dropAlt (t : Transport) (session domain : Nat) (proof : BitVec 128)
  /-- REMOVE (R438). -/ | remove (t : Transport) (session domain : Nat) (proof : BitVec 128)
  /-- KEY_QUERY (R436). -/ | keyQuery (t : Transport) (session domain : Nat)
  /-- LOCK_INTERFACE_REQUEST (R447). -/ | lockInterfaceRequest (port vf stream : Nat)
  /-- IDE_STREAM_INSECURE (R445). -/ | ideStreamInsecure (port stream : Nat)
  /-- BILLING_PERIOD_CLOSE (R449). -/ | billingPeriodClose (writesOk : Bool)
  /-- SEAL_REQUEST (R452). -/ | sealRequest (o : Origin) (v : Word)
  /-- SIDEBAND_SEAL_COMMAND (R452). -/ | sidebandSealCommand
  /-- KEYSTORE_ECC (R525). -/ | keystoreEcc (store : Nat)
  /-- LANE_POWER_WRITE (R456). -/ | lanePowerWrite (o : Origin) (lane : Nat) (v : Word)
  /-- LANE_WAKE_DONE (R456). -/ | laneWakeDone (lane : Nat) (tx : Bool)
  /-- LANE_RETRAIN (R462). -/ | laneRetrain (o : Origin) (lane : Nat)
  /-- TRAINING_STEP_ADVANCE (R462): the adapted peaking of each lane, then its two LAN_DFE words, then the LAN_FFE word link training left. -/ | trainingStepAdvance (port : Nat) (peaks : List Nat) (taps : List Word)
  /-- TRAINING_GATE_END (R462). -/ | trainingGateEnd (port uncorr : Nat)
  /-- TRAINING_TIMEOUT (R463). -/ | trainingTimeout (port : Nat)
  /-- LOS_ASSERT (R460). -/ | losAssert (lane : Nat)
  /-- LOS_DEASSERT (R460). -/ | losDeassert (lane : Nat)
  /-- LOL_ASSERT (R460). -/ | lolAssert (lane : Nat)
  /-- LOL_DEASSERT (R460). -/ | lolDeassert (lane : Nat)
  /-- MODULE_IDENTIFY (R465). -/ | moduleIdentify (cage : Nat) (m : ModuleInfo)
  /-- MODULE_READY_TIMEOUT (R465). -/ | moduleReadyTimeout (cage : Nat)
  /-- MODULE_AUTH_DONE (R467). -/ | moduleAuthDone (cage : Nat) (verified : Bool)
  /-- MODULE_RESCAN (R465). -/ | moduleRescan (o : Origin) (cage : Nat)
  /-- CMIS_TRANSACTION (R464). -/ | cmisTransaction (o : Origin) (cage : Nat) (v : Word)
  /-- CMIS_TRANSACTION_DONE (R464). -/ | cmisTransactionDone (cage : Nat) (acked : Bool) (data : List Byte)
  /-- WEAR_ACCRUAL (R470): the temperature in 1/256 °C, none if unreadable. -/ | wearAccrual (cage : Nat) (active : Bool) (temp : Option Int)
  /-- LIFE_LEDGER_WRITE (R471). -/ | lifeLedgerWrite (cage : Nat) (ok : Bool)
  /-- CAGE_PRESENT (R475). -/ | cagePresent (cage : Nat)
  /-- CAGE_ABSENT (R475). -/ | cageAbsent (cage : Nat)
  /-- ABSENCE_CLEAR (R483). -/ | absenceClear (cage : Nat)
  /-- FEED_GOOD (R474). -/ | feedGood (cage : Nat) (isB : Bool)
  /-- FEED_BAD (R474). -/ | feedBad (cage : Nat) (isB : Bool)
  /-- CAGE_EN_WRITE (R478). -/ | cageEnWrite (o : Origin) (cage : Nat) (en : Bool)
  /-- CAGE_FEED_CONFIG_WRITE (R485). -/ | cageFeedConfigWrite (o : Origin) (cage : Nat) (v : Word)
  /-- CAGE_QUALIFIED (R478). -/ | cageQualified (cage : Nat)
  /-- POWER_GOOD (R476). -/ | powerGood (cage : Nat)
  /-- POWER_GOOD_LOST (R476). -/ | powerGoodLost (cage : Nat)
  /-- RAMP_TIMEOUT (R480). -/ | rampTimeout (cage onMs : Nat)
  /-- FAST_TRIP (R480). -/ | fastTrip (cage onMs : Nat)
  /-- OVERCURRENT (R481). -/ | overcurrent (cage onMs : Nat)
  /-- RETRY_WAIT_END (R483). -/ | retryWaitEnd (cage : Nat)
  /-- SWAP_DEAD_TIME_END (R484). -/ | swapDeadTimeEnd (cage : Nat)
  /-- FEED_REVERT (R485). -/ | feedRevert (cage : Nat)
  /-- LOCK_ACQUIRE_READ (R488). -/ | lockAcquireRead (o : Origin) (n : Nat)
  /-- LOCK_RELEASE_WRITE (R490). -/ | lockReleaseWrite (o : Origin) (n : Nat)
  /-- LOCK_FORCE (R493). -/ | lockForce (o : Origin) (n : Nat)
  /-- LOCK_RESERVATION_EXPIRY (R491). -/ | lockReservationExpiry (n : Nat)
  /-- SUPERVISOR_LOCK_TICK (R495). -/ | supervisorLockTick
  /-- SNAPSHOT (R502). -/ | snapshot (written : Bool)
  /-- BW_METER_START (R509). -/ | bwMeterStart (o : Origin) (v : Word)
  /-- BW_METER_DONE (R509). -/ | bwMeterDone
  /-- FAULT_FORCE (R516). -/ | faultForce (o : Origin) (src : Nat)
  /-- FAULT_CLEAR (R521). -/ | faultClear (o : Origin) (k : Nat) (v : Word)
  /-- FIRST_CLR (R513). -/ | firstClr (o : Origin)
  /-- FABRIC_WEDGE (R523). -/ | fabricWedge
  /-- ECC_ERROR (R26). -/ | eccError (e : EccEvent)
  /-- TEMPERATURE_SAMPLE (R558). -/ | temperatureSample (sensor : Nat) (value : Int)
  /-- RAIL_CHECK (R546). -/ | railCheck (rail mv : Nat)
  /-- REQUEST_OPERATIONAL (R528). -/ | requestOperational (o : Origin)
  /-- REQUEST_DRAIN (R528). -/ | requestDrain (o : Origin)
  /-- MODE_CHANGE (R527). -/ | modeChange
  /-- COMMIT (R530). -/ | commit (o : Origin)
  /-- COMMIT_TAKE_EFFECT (R531). -/ | commitTakeEffect
  /-- DEGRADED_RETURN (R527). -/ | degradedReturn
  /-- DRAIN_TIMEOUT (R533). -/ | drainTimeout
  /-- GATE_HOST_PORT (R536). -/ | gateHostPort (o : Origin) (n : Nat)
  /-- WAKE_HOST_PORT (R538). -/ | wakeHostPort (o : Origin) (n : Nat)
  /-- GATE_MATCHING (R536). -/ | gateMatching (o : Origin)
  /-- WAKE_MATCHING (R538). -/ | wakeMatching (o : Origin)
  /-- GATE_COLLECTIVES (R536). -/ | gateCollectives (o : Origin)
  /-- WAKE_COLLECTIVES (R538). -/ | wakeCollectives (o : Origin)
  /-- GATE_CORE (R539). -/ | gateCore (o : Origin)
  /-- GATE_LANE_QUAD (R536). -/ | gateLaneQuad (o : Origin) (n : Nat)
  /-- WAKE_LANE_QUAD (R538). -/ | wakeLaneQuad (o : Origin) (n : Nat)
  /-- DOMAIN_DRAINED (R536). -/ | domainDrained (d : PDom)
  /-- PD_DRAIN_TIMEOUT (R536). -/ | pdDrainTimeout (d : PDom)
  /-- DOMAIN_WAKE_DONE (R538). -/ | domainWakeDone (d : PDom)
  /-- POWER_ON (R541). -/ | powerOn
  /-- VAO_LOSS (R545). -/ | vaoLoss
  /-- RESET_N_ASSERT (R542). -/ | resetNAssert
  /-- RESET_N_RELEASE (R529). -/ | resetNRelease (straps : BitVec 2) (inc : BitVec 16) (secret : Key)
  /-- COLD_RESET (R541). -/ | coldReset (o : Origin) (v : Word)
  /-- SIDEBAND_COLD_RESET (R524). -/ | sidebandColdReset
  /-- BRINGUP_STEP (R529). -/ | bringupStep (b : BringStep)
  /-- AVS_RETRY (R548). -/ | avsRetry (acked : Bool)
  /-- COMPLETION_TIMEOUT (R559). -/ | completionTimeout (id : Nat)
  /-- MGMT_PLL_LOCK (R464). -/ | mgmtPllLock
  /-- HOSTREF_OK (R540). -/ | hostrefOk (port : Nat)
  /-- CONFIGURATION_WRITE (R36). -/ | configurationWrite (w : CfgWrite)
  /-- START_INTERFACE_REQUEST (R446). -/ | startInterfaceRequest (port vf : Nat)
  /-- STOP_INTERFACE_REQUEST (R446). -/ | stopInterfaceRequest (port vf : Nat)
  /-- IDE_KM (R445). -/ | ideKm (port stream : Nat) (keySet : Bool)
deriving DecidableEq, Repr

end Sys2Proof
end

