-- ==== Sys2Proof/Decode.lean ====
section
/-!
DEFINITION. Decoding of command words. The block takes commands, not instruction words: no row of the table gives bits, so no word spells a command. (The
instruction words of Dexez are decoded in Machine/Operands.lean, where a run fetches them.)
-/
namespace Sys2Proof

/-- The command that a word of `nbits` bits spells by the table's bits: none of its rows has any. -/
def decodeTableWord (nbits w : Nat) : Option Instr :=
  match nbits, w with
  | _, _ => none

end Sys2Proof
end

