-- ==== Sys2Proof/Config.lean ====
section
/-!
DEFINITION. The free values: what the spec leaves open, or computes by a cryptographic function whose result no rule of spec/ states. None has
a body, so no proof can see a value of it (notes/assumptions/5 and 6).
-/
namespace Sys2Proof.Config

/-- A fresh unstated value: the n-th draw. -/
opaque freeValue : Nat → Word

/-- AES-256-CMAC under a key over a byte string, as a 128-bit number: CHECK (R271), INTEG (R273) and the key proofs (R437). -/
opaque cmac : Key → List Byte → BitVec 128

/-- A SHA-384 value over a byte string, as six words (R41, R430). -/
opaque sha384 : List Byte → List Word

/-- A signature by the device's identity key over a byte string (R426, R449). -/
opaque deviceSign : List Byte → List Byte

/-- Response bytes of an SPDM message whose format the DMTF specification gives (R429): the request's code and a draw. -/
opaque spdmBody : Nat → Nat → List Byte

/-- The fuse configuration that measurement 2 hashes (R430). -/
opaque fuses : List Byte

end Sys2Proof.Config
end

