-- ==== Sys2Proof/Machine/Flags.lean ====
section
/-!
DEFINITION. Status codes (R11), bit fields, saturating counts and the G15 word (R81): the block's only status flags.
-/
namespace Sys2Proof.Machine

/-- Status codes of R11. -/
abbrev stOk : Nat := 0x00
abbrev stAborted : Nat := 0x01
abbrev stKeyInvalid : Nat := 0x02
abbrev stBounds : Nat := 0x03
abbrev stRights : Nat := 0x04
abbrev stXlate : Nat := 0x05
abbrev stTimeout : Nat := 0x06
abbrev stUnreach : Nat := 0x07
abbrev stDown : Nat := 0x08
abbrev stLoop : Nat := 0x09
abbrev stBus : Nat := 0x0A
abbrev stTrunc : Nat := 0x0B
abbrev stLockBusy : Nat := 0x0C
abbrev stLockAband : Nat := 0x0D
abbrev stCancelled : Nat := 0x0E
abbrev stPriv : Nat := 0x0F
abbrev stIllegal : Nat := 0x10
abbrev stStep : Nat := 0x11
abbrev stPeerReset : Nat := 0x12
abbrev stAuth : Nat := 0x13
abbrev stNoRes : Nat := 0x14
abbrev stParked : Nat := 0x15

/-- Bits [hi:lo] of a number. -/
def bitsOf (w hi lo : Nat) : Nat := (w >>> lo) % 2 ^ (hi + 1 - lo)

/-- Bits [hi:lo] of a word. -/
def wbits (w : Word) (hi lo : Nat) : Nat := bitsOf w.toNat hi lo

/-- One bit of a word. -/
def wbit (w : Word) (n : Nat) : Bool := w.getLsbD n

/-- A word from fields (lo, value), each value taken modulo 2^width by the caller. -/
def packW (fs : List (Nat × Nat)) : Word := BitVec.ofNat 64 (fs.foldl (fun a f => a + f.2 <<< f.1) 0)

/-- Adds and saturates at 2^w − 1 (RC counts). -/
def satAdd (w a b : Nat) : Nat := min (a + b) (2 ^ w - 1)

/-- A truth value as a bit. -/
def b2n (b : Bool) : Nat := if b then 1 else 0

/-- The G15 word of R81. -/
def g15 (status opcode bytes : Nat) : Word := packW [(32, min bytes (2 ^ 32 - 1)), (8, opcode % 256), (0, status % 256)]

/-- Forward distance from `a` to `b` modulo 2^w. -/
def fwd (w a b : Nat) : Nat := (b + 2 ^ w - a % 2 ^ w) % 2 ^ w

/-- PSN `p` is behind `e` (R390). -/
def psnBehind (p e : Nat) : Bool := let d := fwd 24 p e; decide (1 ≤ d ∧ d ≤ 2 ^ 23)

/-- PSN `p` is ahead of `e` (R390). -/
def psnAhead (p e : Nat) : Bool := let d := fwd 24 e p; decide (1 ≤ d ∧ d < 2 ^ 23)

/-- Little-endian bytes of a number. -/
def leBytes (n : Nat) : Nat → List Byte
  | 0 => []
  | k + 1 => BitVec.ofNat 8 (n % 256) :: leBytes (n / 256) k

/-- The number that little-endian bytes hold (R4). -/
def ofBytes : List Byte → Nat
  | [] => 0
  | b :: bs => b.toNat + 256 * ofBytes bs

/-- The 8 bytes of each word, in address order (R4). -/
def wordBytes (ws : List Word) : List Byte := ws.flatMap fun w => leBytes w.toNat 8

end Sys2Proof.Machine
end

