-- ==== Sys2Proof/Machine/RegMap.lean ====
section
/-!
DEFINITION. The BAR0 register map: every register heading of spec/02 to spec/22, its offset, its instances and the bits, access code (R7),
reset value and latch class (R8) of each named field, as the register tables print them. Bits that no row names are reserved (R5).
-/
namespace Sys2Proof.Machine

/-- Access codes of R7. -/
inductive Acc where | ro | rw | w1c | w1s | wo | rc
deriving DecidableEq, Repr

/-- Latch classes of R8; `none` for a read-only field. -/
inductive Latch where | none | live | stage | quiet
deriving DecidableEq, Repr

/-- One named field of a register table. -/
structure FieldRow where
  hi : Nat
  lo : Nat
  acc : Acc
  reset : Nat
  latch : Latch
deriving DecidableEq, Repr

/-- One register heading: its first BAR0 offset, its instances as (stride, count) pairs, outermost first, and its named fields. -/
structure RegRow where
  name : String
  base : Nat
  dims : List (Nat × Nat)
  fields : List FieldRow
deriving DecidableEq, Repr

/-- A named field at a BAR0 offset of a 64-bit register. -/
structure Fld where
  off : Nat
  hi : Nat
  lo : Nat
deriving DecidableEq, Repr

/-- Registers of block DEV. -/
def regRowsDev : List RegRow := [
  ⟨"DEV_AUTH", 0x10200, [], [⟨63, 2, .ro, 0, .none⟩, ⟨1, 0, .ro, 0, .none⟩]⟩,
  ⟨"DEV_HOSTPORT", 0x10220, [(0x8, 4)], [⟨15, 8, .ro, 0, .none⟩, ⟨7, 7, .ro, 0, .none⟩, ⟨6, 6, .ro, 0, .none⟩, ⟨5, 3, .ro, 0, .none⟩, ⟨2, 0, .ro, 0, .none⟩]⟩,
  ⟨"DEV_CFG_DROP", 0x10240, [], [⟨63, 63, .w1c, 0, .live⟩, ⟨57, 32, .ro, 0, .none⟩, ⟨31, 0, .ro, 0, .none⟩]⟩,
  ⟨"DEV_MODE", 0x10000, [], [⟨63, 16, .ro, 0, .none⟩, ⟨10, 10, .ro, 0, .none⟩, ⟨9, 9, .ro, 0, .none⟩, ⟨8, 8, .ro, 0, .none⟩, ⟨6, 4, .ro, 0, .none⟩, ⟨2, 0, .ro, 1, .none⟩]⟩,
  ⟨"DEV_MODE_REQ", 0x10008, [], [⟨63, 63, .wo, 0, .live⟩, ⟨9, 8, .ro, 0, .none⟩, ⟨2, 0, .wo, 0, .live⟩]⟩,
  ⟨"DEV_COMMIT", 0x10010, [], [⟨63, 63, .wo, 0, .live⟩, ⟨3, 0, .ro, 0, .none⟩]⟩,
  ⟨"DEV_BRINGUP", 0x10018, [], [⟨10, 7, .ro, 0, .none⟩, ⟨6, 6, .ro, 0, .none⟩, ⟨5, 5, .ro, 0, .none⟩, ⟨4, 4, .ro, 0, .none⟩, ⟨3, 3, .ro, 0, .none⟩, ⟨2, 2, .ro, 0, .none⟩, ⟨1, 1, .ro, 0, .none⟩, ⟨0, 0, .ro, 0, .none⟩]⟩,
  ⟨"DEV_DRAIN_CTRL", 0x10020, [], [⟨63, 48, .ro, 0, .none⟩, ⟨15, 0, .rw, 4096, .stage⟩]⟩,
  ⟨"DEV_RESET", 0x10028, [], [⟨63, 63, .wo, 0, .live⟩, ⟨47, 32, .wo, 0, .live⟩, ⟨1, 0, .ro, 0, .none⟩]⟩,
  ⟨"DEV_PD_CTRL", 0x10030, [], [⟨6, 3, .rw, 0, .live⟩, ⟨2, 2, .rw, 0, .live⟩, ⟨1, 1, .rw, 0, .live⟩, ⟨0, 0, .rw, 0, .live⟩]⟩,
  ⟨"DEV_PD_QUAD", 0x10038, [], [⟨63, 0, .rw, 0, .live⟩]⟩,
  ⟨"DEV_PD_STATUS", 0x10040, [], [⟨14, 14, .w1c, 0, .live⟩, ⟨13, 6, .ro, 0, .none⟩, ⟨5, 4, .ro, 0, .none⟩, ⟨3, 2, .ro, 0, .none⟩, ⟨1, 0, .ro, 0, .none⟩]⟩,
  ⟨"DEV_PD_QUAD_STATUS", 0x10048, [(0x8, 2)], [⟨1, 0, .ro, 0, .none⟩, ⟨3, 2, .ro, 0, .none⟩, ⟨5, 4, .ro, 0, .none⟩, ⟨7, 6, .ro, 0, .none⟩, ⟨9, 8, .ro, 0, .none⟩, ⟨11, 10, .ro, 0, .none⟩, ⟨13, 12, .ro, 0, .none⟩, ⟨15, 14, .ro, 0, .none⟩, ⟨17, 16, .ro, 0, .none⟩, ⟨19, 18, .ro, 0, .none⟩, ⟨21, 20, .ro, 0, .none⟩, ⟨23, 22, .ro, 0, .none⟩, ⟨25, 24, .ro, 0, .none⟩, ⟨27, 26, .ro, 0, .none⟩, ⟨29, 28, .ro, 0, .none⟩, ⟨31, 30, .ro, 0, .none⟩, ⟨33, 32, .ro, 0, .none⟩, ⟨35, 34, .ro, 0, .none⟩, ⟨37, 36, .ro, 0, .none⟩, ⟨39, 38, .ro, 0, .none⟩, ⟨41, 40, .ro, 0, .none⟩, ⟨43, 42, .ro, 0, .none⟩, ⟨45, 44, .ro, 0, .none⟩, ⟨47, 46, .ro, 0, .none⟩, ⟨49, 48, .ro, 0, .none⟩, ⟨51, 50, .ro, 0, .none⟩, ⟨53, 52, .ro, 0, .none⟩, ⟨55, 54, .ro, 0, .none⟩, ⟨57, 56, .ro, 0, .none⟩, ⟨59, 58, .ro, 0, .none⟩, ⟨61, 60, .ro, 0, .none⟩, ⟨63, 62, .ro, 0, .none⟩]⟩,
  ⟨"DEV_PD_DRAIN", 0x10058, [], [⟨63, 32, .rc, 0, .none⟩, ⟨15, 0, .rw, 256, .stage⟩]⟩,
  ⟨"DEV_AVS", 0x10300, [], [⟨63, 32, .ro, 0, .none⟩, ⟨17, 16, .ro, 0, .none⟩, ⟨15, 0, .ro, 800, .none⟩]⟩,
  ⟨"DEV_TEMP_CTRL", 0x10308, [], [⟨15, 0, .rw, 1000, .live⟩]⟩,
  ⟨"DEV_MON", 0x10400, [(0x8, 24)], [⟨63, 63, .ro, 0, .none⟩, ⟨47, 16, .ro, 0, .none⟩, ⟨15, 0, .ro, 0, .none⟩]⟩,
  ⟨"DEV_AUTH_SEQ", 0x10208, [], [⟨63, 0, .ro, 0, .none⟩]⟩]

/-- Registers of block CLK. -/
def regRowsClk : List RegRow := [
  ⟨"CLK_STATUS", 0x20000, [], [⟨15, 12, .ro, 0, .none⟩, ⟨11, 11, .ro, 1, .none⟩, ⟨10, 10, .ro, 0, .none⟩, ⟨9, 9, .ro, 0, .none⟩, ⟨8, 8, .ro, 0, .none⟩, ⟨7, 7, .ro, 0, .none⟩, ⟨6, 6, .ro, 0, .none⟩, ⟨5, 5, .ro, 0, .none⟩, ⟨4, 4, .ro, 0, .none⟩, ⟨3, 3, .ro, 0, .none⟩, ⟨2, 2, .ro, 0, .none⟩, ⟨1, 0, .ro, 0, .none⟩]⟩,
  ⟨"CLK_REF_CTRL", 0x20008, [], [⟨2, 2, .wo, 0, .live⟩, ⟨1, 1, .rw, 1, .live⟩]⟩,
  ⟨"CLK_QUAL", 0x20010, [], [⟨63, 32, .ro, 0, .none⟩, ⟨31, 0, .ro, 0, .none⟩]⟩,
  ⟨"CLK_SSC", 0x20018, [], [⟨15, 15, .rw, 0, .quiet⟩, ⟨13, 8, .rw, 31, .quiet⟩, ⟨3, 0, .rw, 0, .quiet⟩]⟩,
  ⟨"CLK_CLKOUT", 0x20020, [(0x8, 2)], [⟨2, 2, .rw, 0, .live⟩, ⟨1, 1, .rw, 0, .live⟩, ⟨0, 0, .rw, 0, .live⟩]⟩,
  ⟨"CLK_FMETER_CTRL", 0x20030, [], [⟨63, 63, .wo, 0, .live⟩, ⟨62, 62, .ro, 0, .none⟩, ⟨15, 8, .rw, 1, .live⟩, ⟨4, 0, .rw, 0, .live⟩]⟩,
  ⟨"CLK_FMETER_RESULT", 0x20038, [], [⟨63, 63, .ro, 0, .none⟩, ⟨62, 62, .ro, 0, .none⟩, ⟨47, 0, .ro, 0, .none⟩]⟩]

/-- Registers of block STG. -/
def regRowsStg : List RegRow := [
  ⟨"STG_NOW", 0x28000, [], [⟨57, 48, .ro, 0, .none⟩, ⟨47, 0, .ro, 0, .none⟩]⟩,
  ⟨"STG_PERIOD", 0x28008, [], [⟨1, 0, .ro, 1, .none⟩]⟩,
  ⟨"STG_PERIOD_NEXT", 0x28010, [], [⟨63, 63, .rw, 0, .stage⟩, ⟨62, 62, .ro, 0, .none⟩, ⟨49, 48, .rw, 1, .stage⟩, ⟨47, 0, .rw, 0, .stage⟩]⟩,
  ⟨"STG_SYNC_CTRL", 0x28018, [], [⟨31, 31, .rw, 0, .stage⟩, ⟨30, 30, .rw, 0, .stage⟩, ⟨21, 16, .rw, 0, .stage⟩, ⟨15, 8, .rw, 16, .stage⟩, ⟨3, 0, .rw, 4, .stage⟩]⟩,
  ⟨"STG_SYNC_STATUS", 0x28020, [], [⟨63, 48, .ro, 0, .none⟩, ⟨34, 34, .ro, 0, .none⟩, ⟨33, 32, .ro, 0, .none⟩, ⟨31, 0, .ro, 0, .none⟩]⟩,
  ⟨"STG_OVERRUN", 0x28028, [], [⟨63, 60, .ro, 0, .none⟩, ⟨31, 0, .rc, 0, .none⟩]⟩,
  ⟨"STG_SKIPPED", 0x28030, [], [⟨47, 0, .ro, 0, .none⟩]⟩]

/-- Registers of block SEQ. -/
def regRowsSeq : List RegRow := [
  ⟨"SEQ_STATUS", 0x200000, [], [⟨63, 48, .ro, 0, .none⟩, ⟨45, 32, .ro, 0, .none⟩, ⟨29, 16, .ro, 0, .none⟩, ⟨11, 0, .ro, 0, .none⟩]⟩,
  ⟨"SEQ_CLUSTER", 0x200100, [(0x8, 16)], [⟨45, 32, .ro, 0, .none⟩, ⟨8, 8, .ro, 0, .none⟩, ⟨7, 0, .ro, 0, .none⟩]⟩,
  ⟨"SEQ_PREEMPT", 0x200200, [], [⟨31, 31, .rw, 1, .stage⟩, ⟨15, 8, .rw, 16, .stage⟩, ⟨7, 0, .rw, 1, .stage⟩]⟩,
  ⟨"SEQ_PREEMPT_COUNT", 0x200208, [], [⟨31, 0, .rc, 0, .none⟩]⟩,
  ⟨"SEQ_PCACHE_INV", 0x200210, [], [⟨63, 63, .wo, 0, .live⟩, ⟨62, 62, .ro, 0, .none⟩, ⟨61, 61, .rw, 0, .live⟩, ⟨19, 0, .rw, 0, .live⟩]⟩,
  ⟨"SEQ_RUN_RESUME", 0x200300, [], [⟨31, 0, .wo, 0, .live⟩]⟩,
  ⟨"SEQ_RUN_ABORT", 0x200308, [], [⟨31, 0, .wo, 0, .live⟩]⟩,
  ⟨"SEQ_RUN_CMD_RESULT", 0x200310, [], [⟨40, 40, .ro, 0, .none⟩, ⟨39, 32, .ro, 0, .none⟩, ⟨31, 0, .ro, 0, .none⟩]⟩,
  ⟨"SEQ_RUN_SELECT", 0x200400, [], [⟨31, 0, .rw, 0, .live⟩]⟩,
  ⟨"SEQ_SB_PROG", 0x201000, [(0x8, 8)], [⟨63, 0, .rw, 0, .quiet⟩]⟩,
  ⟨"SEQ_SB_G", 0x201040, [(0x8, 14)], [⟨63, 0, .rw, 0, .quiet⟩]⟩,
  ⟨"SEQ_SB_CTRL", 0x2010C0, [], [⟨63, 63, .wo, 0, .live⟩, ⟨8, 8, .ro, 0, .none⟩, ⟨7, 0, .ro, 0, .none⟩]⟩,
  ⟨"SEQ_QCFG", 0x280000, [(0x8, 65536)], [⟨47, 32, .rw, 65535, .stage⟩, ⟨31, 0, .rw, 65536, .stage⟩]⟩]

/-- Registers of block QUE. -/
def regRowsQue : List RegRow := [
  ⟨"QUE_CMD_ARG0", 0x100000, [(0x40, 5)], [⟨63, 0, .rw, 0, .live⟩]⟩,
  ⟨"QUE_CMD_ARG1", 0x100008, [(0x40, 5)], [⟨63, 56, .rw, 0, .live⟩, ⟨55, 48, .rw, 1, .live⟩, ⟨47, 37, .rw, 0, .live⟩, ⟨36, 32, .rw, 6, .live⟩, ⟨31, 24, .rw, 0, .live⟩, ⟨21, 20, .rw, 0, .live⟩, ⟨19, 0, .rw, 0, .live⟩]⟩,
  ⟨"QUE_CMD", 0x100010, [(0x40, 5)], [⟨63, 63, .wo, 0, .live⟩, ⟨62, 62, .ro, 0, .none⟩, ⟨47, 40, .ro, 0, .none⟩, ⟨35, 32, .rw, 0, .live⟩, ⟨24, 16, .rw, 0, .live⟩, ⟨15, 0, .rw, 0, .live⟩]⟩,
  ⟨"QUE_CTR_SEL", 0x100018, [(0x40, 5)], [⟨15, 0, .rw, 0, .live⟩]⟩,
  ⟨"QUE_CTR_VAL", 0x100020, [(0x40, 5)], [⟨63, 0, .rw, 0, .live⟩]⟩,
  ⟨"QUE_CTR_INFO", 0x100028, [(0x40, 5)], [⟨16, 16, .ro, 0, .none⟩, ⟨15, 0, .ro, 0, .none⟩]⟩,
  ⟨"QUE_VFDB", 0x110000, [(0x8, 8192)], [⟨63, 63, .rw, 0, .live⟩, ⟨59, 48, .rw, 0, .live⟩, ⟨47, 47, .rw, 0, .live⟩, ⟨43, 32, .rw, 0, .live⟩, ⟨31, 31, .rw, 0, .live⟩, ⟨27, 16, .rw, 0, .live⟩, ⟨15, 15, .rw, 0, .live⟩, ⟨11, 0, .rw, 0, .live⟩]⟩,
  ⟨"QUE_EQ_CONS", 0x120000, [(0x8, 16384)], [⟨63, 63, .w1s, 0, .live⟩, ⟨31, 0, .rw, 0, .live⟩]⟩,
  ⟨"QUE_EQ_STATUS", 0x140000, [(0x8, 16384)], [⟨63, 32, .ro, 0, .none⟩, ⟨3, 3, .ro, 0, .none⟩, ⟨2, 0, .ro, 0, .none⟩]⟩,
  ⟨"QUE_QSTATE", 0x160000, [(0x8, 65536)], [⟨63, 32, .ro, 0, .none⟩, ⟨24, 18, .ro, 0, .none⟩, ⟨17, 17, .ro, 0, .none⟩, ⟨16, 16, .ro, 0, .none⟩, ⟨15, 8, .ro, 0, .none⟩, ⟨2, 0, .ro, 0, .none⟩]⟩]

/-- Registers of block MMU. -/
def regRowsMmu : List RegRow := [
  ⟨"MMU_WALK_WINDOW_BASE", 0x300000, [(0x10, 8)], [⟨63, 63, .rw, 0, .stage⟩, ⟨57, 56, .rw, 0, .stage⟩, ⟨51, 12, .rw, 0, .stage⟩]⟩,
  ⟨"MMU_WALK_WINDOW_LIMIT", 0x300008, [(0x10, 8)], [⟨51, 12, .rw, 0, .stage⟩]⟩,
  ⟨"MMU_AD_CTRL", 0x300080, [], [⟨7, 0, .rw, 16, .stage⟩]⟩,
  ⟨"MMU_TLB_LFSR", 0x300088, [], [⟨15, 0, .rw, 44257, .live⟩]⟩,
  ⟨"MMU_TLB_STATUS", 0x300090, [], [⟨22, 16, .ro, 0, .none⟩, ⟨12, 0, .ro, 0, .none⟩]⟩,
  ⟨"MMU_FAULT_COUNT", 0x300098, [], [⟨31, 0, .rc, 0, .none⟩]⟩,
  ⟨"MMU_AS_ARG0", 0x300100, [(0x40, 5)], [⟨63, 63, .rw, 0, .live⟩, ⟨62, 62, .rw, 0, .live⟩, ⟨51, 12, .rw, 0, .live⟩]⟩,
  ⟨"MMU_AS_ARG1", 0x300108, [(0x40, 5)], [⟨63, 56, .rw, 8, .live⟩, ⟨45, 32, .rw, 0, .live⟩, ⟨31, 24, .rw, 0, .live⟩, ⟨21, 20, .rw, 0, .live⟩, ⟨19, 0, .rw, 0, .live⟩]⟩,
  ⟨"MMU_AS_CMD", 0x300110, [(0x40, 5)], [⟨63, 63, .wo, 0, .live⟩, ⟨62, 62, .ro, 0, .none⟩, ⟨47, 40, .ro, 0, .none⟩, ⟨34, 32, .rw, 0, .live⟩]⟩,
  ⟨"MMU_AS_INFO", 0x300118, [(0x40, 5)], [⟨44, 32, .ro, 0, .none⟩, ⟨31, 16, .ro, 0, .none⟩, ⟨2, 2, .ro, 0, .none⟩, ⟨1, 0, .ro, 0, .none⟩]⟩,
  ⟨"MMU_INV_ADDR", 0x300120, [(0x40, 5)], [⟨63, 0, .rw, 0, .live⟩]⟩,
  ⟨"MMU_INV_LEN", 0x300128, [(0x40, 5)], [⟨63, 0, .rw, 0, .live⟩]⟩,
  ⟨"MMU_INV", 0x300130, [(0x40, 5)], [⟨63, 63, .wo, 0, .live⟩, ⟨62, 62, .ro, 0, .none⟩, ⟨33, 32, .rw, 0, .live⟩, ⟨19, 0, .rw, 0, .live⟩]⟩]

/-- Registers of block MAT. -/
def regRowsMat : List RegRow := [
  ⟨"MAT_CTRL", 0x400000, [], [⟨63, 63, .rw, 1, .stage⟩, ⟨23, 16, .rw, 16, .stage⟩, ⟨6, 0, .rw, 8, .stage⟩]⟩,
  ⟨"MAT_STATUS", 0x400008, [], [⟨63, 47, .ro, 0, .none⟩, ⟨43, 32, .ro, 0, .none⟩, ⟨18, 0, .ro, 0, .none⟩]⟩,
  ⟨"MAT_SPEC_COUNT", 0x400010, [], [⟨63, 32, .rc, 0, .none⟩, ⟨31, 0, .rc, 0, .none⟩]⟩,
  ⟨"MAT_SPEC_OTHER", 0x400018, [], [⟨63, 32, .rc, 0, .none⟩, ⟨31, 0, .rc, 0, .none⟩]⟩,
  ⟨"MAT_CTX_ARG0", 0x401000, [(0x40, 5)], [⟨63, 0, .rw, 0, .live⟩]⟩,
  ⟨"MAT_CTX_ARG1", 0x401008, [(0x40, 5)], [⟨63, 0, .rw, 0, .live⟩]⟩,
  ⟨"MAT_CTX_ARG2", 0x401010, [(0x40, 5)], [⟨63, 63, .rw, 1, .live⟩, ⟨47, 32, .rw, 64, .live⟩, ⟨28, 24, .rw, 10, .live⟩, ⟨20, 16, .rw, 6, .live⟩, ⟨4, 0, .rw, 13, .live⟩]⟩,
  ⟨"MAT_CTX_ARG3", 0x401018, [(0x40, 5)], [⟨31, 24, .rw, 0, .live⟩, ⟨21, 20, .rw, 0, .live⟩, ⟨19, 0, .rw, 0, .live⟩]⟩,
  ⟨"MAT_CTX_CMD", 0x401020, [(0x40, 5)], [⟨63, 63, .wo, 0, .live⟩, ⟨62, 62, .ro, 0, .none⟩, ⟨47, 40, .ro, 0, .none⟩, ⟨34, 32, .rw, 0, .live⟩, ⟨15, 0, .rw, 0, .live⟩]⟩,
  ⟨"MAT_CTX_INFO", 0x401028, [(0x40, 5)], [⟨63, 48, .ro, 0, .none⟩, ⟨43, 24, .ro, 0, .none⟩, ⟨23, 4, .ro, 0, .none⟩, ⟨1, 0, .ro, 0, .none⟩]⟩]

/-- Registers of block RMA. -/
def regRowsRma : List RegRow := [
  ⟨"RMA_KTAB_CTRL", 0x500000, [], [⟨0, 0, .rw, 0, .live⟩]⟩,
  ⟨"RMA_KTAB_BASE", 0x500008, [], [⟨57, 56, .rw, 0, .quiet⟩, ⟨51, 12, .rw, 0, .quiet⟩, ⟨4, 0, .rw, 10, .quiet⟩]⟩,
  ⟨"RMA_KTAB_STATUS", 0x500010, [], [⟨56, 32, .ro, 0, .none⟩, ⟨18, 2, .ro, 0, .none⟩, ⟨1, 0, .ro, 0, .none⟩]⟩,
  ⟨"RMA_ATOMIC_CTRL", 0x500020, [], [⟨3, 0, .rw, 0, .stage⟩]⟩,
  ⟨"RMA_AMO_STATUS", 0x500028, [], [⟨63, 32, .rc, 0, .none⟩, ⟨14, 0, .ro, 0, .none⟩]⟩,
  ⟨"RMA_KEY_FAIL_A", 0x500030, [], [⟨63, 32, .rc, 0, .none⟩, ⟨31, 0, .rc, 0, .none⟩]⟩,
  ⟨"RMA_KEY_FAIL_B", 0x500038, [], [⟨63, 32, .rc, 0, .none⟩, ⟨31, 0, .rc, 0, .none⟩]⟩,
  ⟨"RMA_TAMPER_INDEX", 0x500040, [], [⟨63, 63, .w1c, 0, .live⟩, ⟨23, 0, .ro, 0, .none⟩]⟩]

/-- Registers of block BLK. -/
def regRowsBlk : List RegRow := [
  ⟨"BLK_CH_CFG", 0x580100, [(0x8, 128)], [⟨63, 63, .rw, 1, .live⟩, ⟨62, 62, .rw, 0, .quiet⟩, ⟨10, 8, .rw, 3, .stage⟩, ⟨2, 0, .rw, 0, .stage⟩]⟩,
  ⟨"BLK_CH_STATUS", 0x580800, [(0x8, 128)], [⟨63, 48, .rc, 0, .none⟩, ⟨47, 16, .ro, 0, .none⟩, ⟨15, 8, .ro, 0, .none⟩, ⟨7, 2, .ro, 0, .none⟩, ⟨1, 0, .ro, 0, .none⟩]⟩,
  ⟨"BLK_QPRIO", 0x590000, [(0x8, 4096)], [⟨2, 0, .rw, 0, .stage⟩, ⟨6, 4, .rw, 0, .stage⟩, ⟨10, 8, .rw, 0, .stage⟩, ⟨14, 12, .rw, 0, .stage⟩, ⟨18, 16, .rw, 0, .stage⟩, ⟨22, 20, .rw, 0, .stage⟩, ⟨26, 24, .rw, 0, .stage⟩, ⟨30, 28, .rw, 0, .stage⟩, ⟨34, 32, .rw, 0, .stage⟩, ⟨38, 36, .rw, 0, .stage⟩, ⟨42, 40, .rw, 0, .stage⟩, ⟨46, 44, .rw, 0, .stage⟩, ⟨50, 48, .rw, 0, .stage⟩, ⟨54, 52, .rw, 0, .stage⟩, ⟨58, 56, .rw, 0, .stage⟩, ⟨62, 60, .rw, 0, .stage⟩]⟩,
  ⟨"BLK_SH_SRC", 0x581000, [(0x80, 16)], [⟨63, 0, .rw, 0, .quiet⟩]⟩,
  ⟨"BLK_SH_DST", 0x581008, [(0x80, 16)], [⟨63, 0, .rw, 0, .quiet⟩]⟩,
  ⟨"BLK_SH_COUNT", 0x581010, [(0x80, 16)], [⟨31, 0, .rw, 0, .quiet⟩]⟩,
  ⟨"BLK_SH_IDX", 0x581018, [(0x80, 16)], [⟨63, 0, .rw, 0, .quiet⟩]⟩,
  ⟨"BLK_SH_CTRL", 0x581020, [(0x80, 16)], [⟨63, 63, .rw, 0, .quiet⟩, ⟨58, 48, .rw, 0, .quiet⟩, ⟨44, 32, .rw, 0, .quiet⟩, ⟨29, 28, .rw, 0, .quiet⟩, ⟨19, 0, .rw, 0, .quiet⟩]⟩,
  ⟨"BLK_RF_STATUS", 0x581028, [(0x80, 16)], [⟨63, 48, .ro, 0, .none⟩, ⟨47, 40, .ro, 0, .none⟩, ⟨35, 34, .ro, 0, .none⟩, ⟨32, 32, .ro, 0, .none⟩, ⟨31, 0, .ro, 0, .none⟩]⟩,
  ⟨"BLK_RF_CMD", 0x581030, [(0x80, 16)], [⟨63, 63, .wo, 0, .live⟩, ⟨2, 0, .wo, 0, .live⟩]⟩,
  ⟨"BLK_ACT_SRC", 0x581040, [(0x80, 16)], [⟨63, 0, .ro, 0, .none⟩]⟩,
  ⟨"BLK_ACT_DST", 0x581048, [(0x80, 16)], [⟨63, 0, .ro, 0, .none⟩]⟩,
  ⟨"BLK_ACT_COUNT", 0x581050, [(0x80, 16)], [⟨63, 0, .ro, 0, .none⟩]⟩,
  ⟨"BLK_ACT_IDX", 0x581058, [(0x80, 16)], [⟨63, 0, .ro, 0, .none⟩]⟩,
  ⟨"BLK_ACT_CTRL", 0x581060, [(0x80, 16)], [⟨63, 0, .ro, 0, .none⟩]⟩]

/-- Registers of block COL. -/
def regRowsCol : List RegRow := [
  ⟨"COL_CTRL", 0x600000, [], [⟨55, 32, .rw, 1048576, .stage⟩, ⟨6, 0, .rw, 16, .stage⟩]⟩,
  ⟨"COL_STATUS", 0x600008, [], [⟨28, 16, .ro, 0, .none⟩, ⟨10, 0, .ro, 0, .none⟩]⟩,
  ⟨"COL_GRP_SEL", 0x600010, [], [⟨11, 0, .rw, 0, .live⟩]⟩,
  ⟨"COL_GRP_INFO", 0x600018, [], [⟨63, 60, .ro, 0, .none⟩, ⟨58, 48, .ro, 0, .none⟩, ⟨47, 32, .ro, 0, .none⟩, ⟨31, 16, .ro, 0, .none⟩, ⟨8, 8, .ro, 0, .none⟩, ⟨7, 4, .ro, 0, .none⟩, ⟨2, 0, .ro, 0, .none⟩]⟩,
  ⟨"COL_GRP_LINKS", 0x600020, [], [⟨38, 32, .ro, 0, .none⟩, ⟨30, 24, .ro, 0, .none⟩, ⟨22, 16, .ro, 0, .none⟩, ⟨11, 8, .ro, 0, .none⟩, ⟨6, 6, .ro, 0, .none⟩, ⟨5, 0, .ro, 0, .none⟩]⟩,
  ⟨"COL_BREAKS", 0x600028, [], [⟨63, 48, .rc, 0, .none⟩, ⟨47, 32, .rc, 0, .none⟩, ⟨31, 0, .rc, 0, .none⟩]⟩]

/-- Registers of block RTC. -/
def regRowsRtc : List RegRow := [
  ⟨"RTC_SELF", 0x1400000, [], [⟨25, 16, .rw, 0, .quiet⟩, ⟨15, 0, .rw, 0, .quiet⟩]⟩,
  ⟨"RTC_BANK", 0x1400008, [], [⟨63, 63, .w1s, 0, .live⟩, ⟨62, 62, .wo, 0, .live⟩, ⟨61, 61, .ro, 0, .none⟩, ⟨32, 32, .ro, 0, .none⟩, ⟨31, 0, .ro, 0, .none⟩]⟩,
  ⟨"RTC_ADAPT", 0x1400010, [], [⟨63, 63, .rw, 1, .stage⟩, ⟨56, 48, .rw, 0, .stage⟩, ⟨47, 32, .rw, 64, .stage⟩, ⟨31, 16, .rw, 128, .stage⟩, ⟨15, 8, .rw, 64, .stage⟩]⟩,
  ⟨"RTC_PORT_HEALTH", 0x1400018, [], [⟨63, 0, .rw, 0, .live⟩]⟩,
  ⟨"RTC_WAY_CTRL", 0x1400020, [], [⟨15, 0, .rw, 128, .stage⟩]⟩,
  ⟨"RTC_WAY_STATUS", 0x1400028, [], [⟨47, 32, .ro, 0, .none⟩, ⟨15, 0, .ro, 0, .none⟩]⟩,
  ⟨"RTC_DROP", 0x1400030, [], [⟨63, 32, .rc, 0, .none⟩, ⟨31, 0, .rc, 0, .none⟩]⟩,
  ⟨"RTC_DROP_B", 0x1400038, [], [⟨63, 32, .rc, 0, .none⟩, ⟨31, 0, .rc, 0, .none⟩]⟩,
  ⟨"RTC_EP_PAGE", 0x1400040, [], [⟨1, 0, .rw, 0, .live⟩]⟩,
  ⟨"RTC_CVY_CTRL", 0x1400048, [], [⟨18, 16, .rw, 7, .stage⟩, ⟨15, 8, .rw, 8, .stage⟩, ⟨7, 0, .rw, 4, .stage⟩]⟩,
  ⟨"RTC_CVY_SEL", 0x1400050, [], [⟨9, 0, .rw, 0, .live⟩]⟩,
  ⟨"RTC_CVY_INFO", 0x1400058, [], [⟨63, 48, .ro, 0, .none⟩, ⟨47, 32, .ro, 0, .none⟩, ⟨29, 24, .ro, 0, .none⟩, ⟨21, 16, .ro, 0, .none⟩, ⟨15, 14, .ro, 0, .none⟩, ⟨10, 8, .ro, 0, .none⟩, ⟨2, 0, .ro, 0, .none⟩]⟩,
  ⟨"RTC_CVY_PROGRESS", 0x1400060, [], [⟨63, 32, .ro, 0, .none⟩, ⟨31, 0, .ro, 0, .none⟩]⟩,
  ⟨"RTC_CVY_COUNT", 0x1400068, [], [⟨63, 32, .rc, 0, .none⟩, ⟨31, 0, .rc, 0, .none⟩]⟩,
  ⟨"RTC_VALIANT", 0x1400100, [(0x8, 64)], [⟨63, 48, .rw, 0, .stage⟩, ⟨47, 32, .rw, 0, .stage⟩, ⟨31, 16, .rw, 0, .stage⟩, ⟨15, 0, .rw, 0, .stage⟩]⟩]

/-- Registers of block RTP. -/
def regRowsRtp : List RegRow := [
  ⟨"RTP_CTRL", 0x1000000, [(0x10000, 64)], [⟨63, 63, .rw, 1, .live⟩, ⟨7, 0, .rw, 72, .quiet⟩]⟩,
  ⟨"RTP_STATUS", 0x1000008, [(0x10000, 64)], [⟨63, 48, .ro, 0, .none⟩, ⟨47, 32, .ro, 0, .none⟩, ⟨20, 8, .ro, 0, .none⟩, ⟨7, 4, .ro, 0, .none⟩, ⟨2, 2, .ro, 0, .none⟩, ⟨1, 0, .ro, 0, .none⟩]⟩,
  ⟨"RTP_GOSSIP", 0x1000010, [(0x10000, 64), (0x8, 4)], [⟨3, 0, .ro, 0, .none⟩, ⟨7, 4, .ro, 0, .none⟩, ⟨11, 8, .ro, 0, .none⟩, ⟨15, 12, .ro, 0, .none⟩, ⟨19, 16, .ro, 0, .none⟩, ⟨23, 20, .ro, 0, .none⟩, ⟨27, 24, .ro, 0, .none⟩, ⟨31, 28, .ro, 0, .none⟩, ⟨35, 32, .ro, 0, .none⟩, ⟨39, 36, .ro, 0, .none⟩, ⟨43, 40, .ro, 0, .none⟩, ⟨47, 44, .ro, 0, .none⟩, ⟨51, 48, .ro, 0, .none⟩, ⟨55, 52, .ro, 0, .none⟩, ⟨59, 56, .ro, 0, .none⟩, ⟨63, 60, .ro, 0, .none⟩]⟩,
  ⟨"RTP_LOAD", 0x1000030, [(0x10000, 64)], [⟨35, 32, .ro, 0, .none⟩, ⟨31, 0, .ro, 0, .none⟩]⟩]

/-- Registers of block WPR. -/
def regRowsWpr : List RegRow := [
  ⟨"WPR_E2E_CTRL", 0x700000, [], [⟨63, 56, .rw, 4, .stage⟩, ⟨55, 52, .rw, 2, .stage⟩, ⟨51, 48, .rw, 7, .stage⟩, ⟨43, 32, .rw, 256, .stage⟩, ⟨26, 16, .rw, 128, .stage⟩, ⟨7, 0, .rw, 64, .stage⟩]⟩,
  ⟨"WPR_INCARNATION", 0x700008, [], [⟨15, 0, .ro, 0, .none⟩]⟩,
  ⟨"WPR_E2E_COUNT_A", 0x700010, [], [⟨63, 32, .rc, 0, .none⟩, ⟨31, 0, .rc, 0, .none⟩]⟩,
  ⟨"WPR_E2E_COUNT_B", 0x700018, [], [⟨63, 32, .rc, 0, .none⟩, ⟨31, 0, .rc, 0, .none⟩]⟩,
  ⟨"WPR_E2E_COUNT_C", 0x700020, [], [⟨63, 32, .rc, 0, .none⟩, ⟨31, 0, .rc, 0, .none⟩]⟩,
  ⟨"WPR_NACK_SENT", 0x700028, [], [⟨63, 48, .rc, 0, .none⟩, ⟨47, 32, .rc, 0, .none⟩, ⟨31, 16, .rc, 0, .none⟩, ⟨15, 0, .rc, 0, .none⟩]⟩,
  ⟨"WPR_PAIR_STATUS", 0x700030, [], [⟨52, 32, .ro, 0, .none⟩, ⟨20, 0, .ro, 0, .none⟩]⟩,
  ⟨"WPR_LINK_CTRL", 0x701000, [(0x20, 64)], [⟨63, 63, .wo, 0, .live⟩, ⟨15, 0, .rw, 8192, .live⟩]⟩,
  ⟨"WPR_LINK_STATUS", 0x701008, [(0x20, 64)], [⟨63, 60, .ro, 0, .none⟩, ⟨59, 56, .ro, 0, .none⟩, ⟨55, 44, .ro, 0, .none⟩, ⟨43, 32, .ro, 0, .none⟩, ⟨31, 16, .ro, 0, .none⟩, ⟨1, 0, .ro, 0, .none⟩]⟩,
  ⟨"WPR_LINK_COUNT", 0x701010, [(0x20, 64)], [⟨63, 32, .rc, 0, .none⟩, ⟨31, 0, .rc, 0, .none⟩]⟩,
  ⟨"WPR_LINK_COUNT_B", 0x701018, [(0x20, 64)], [⟨63, 32, .rc, 0, .none⟩, ⟨31, 0, .rc, 0, .none⟩]⟩]

/-- Registers of block TOL. -/
def regRowsTol : List RegRow := [
  ⟨"TOL_CTRL", 0x780000, [], [⟨63, 63, .rw, 1, .stage⟩]⟩,
  ⟨"TOL_STATUS", 0x780008, [], [⟨46, 32, .ro, 0, .none⟩, ⟨7, 0, .ro, 0, .none⟩]⟩,
  ⟨"TOL_TOLL_SEL", 0x780010, [], [⟨13, 0, .rw, 0, .live⟩]⟩,
  ⟨"TOL_TOLL_CFG", 0x780018, [], [⟨40, 40, .ro, 0, .none⟩, ⟨39, 38, .ro, 0, .none⟩, ⟨37, 37, .ro, 0, .none⟩, ⟨36, 36, .ro, 0, .none⟩, ⟨34, 32, .ro, 0, .none⟩, ⟨31, 16, .ro, 0, .none⟩, ⟨13, 0, .ro, 0, .none⟩]⟩,
  ⟨"TOL_TOLL_RATE", 0x780020, [], [⟨63, 32, .ro, 0, .none⟩, ⟨31, 0, .ro, 0, .none⟩]⟩,
  ⟨"TOL_TOLL_BURST", 0x780028, [], [⟨63, 32, .ro, 0, .none⟩, ⟨31, 0, .ro, 0, .none⟩]⟩,
  ⟨"TOL_TOLL_TOKENS", 0x780030, [], [⟨63, 32, .ro, 0, .none⟩, ⟨31, 0, .ro, 0, .none⟩]⟩,
  ⟨"TOL_TOLL_COUNT", 0x780038, [], [⟨63, 32, .rc, 0, .none⟩, ⟨31, 0, .rc, 0, .none⟩]⟩,
  ⟨"TOL_SAMP_SEL", 0x780040, [], [⟨32, 32, .rw, 0, .live⟩, ⟨16, 16, .rw, 0, .live⟩, ⟨15, 0, .rw, 0, .live⟩]⟩,
  ⟨"TOL_SAMP_VIEW", 0x780048, [], [⟨63, 48, .ro, 0, .none⟩, ⟨47, 32, .ro, 0, .none⟩, ⟨31, 0, .ro, 0, .none⟩]⟩,
  ⟨"TOL_SAMP_PEAK", 0x780050, [], [⟨63, 48, .rc, 0, .none⟩, ⟨47, 32, .rc, 0, .none⟩]⟩,
  ⟨"TOL_PORT_QUANT", 0x780100, [(0x8, 64)], [⟨59, 48, .rw, 66, .stage⟩, ⟨47, 36, .rw, 66, .stage⟩, ⟨35, 24, .rw, 132, .stage⟩, ⟨23, 12, .rw, 132, .stage⟩, ⟨11, 0, .rw, 132, .stage⟩]⟩,
  ⟨"TOL_DQUANT", 0x790000, [(0x8, 16384)], [⟨15, 0, .rw, 8192, .stage⟩, ⟨31, 16, .rw, 8192, .stage⟩, ⟨47, 32, .rw, 8192, .stage⟩, ⟨63, 48, .rw, 8192, .stage⟩]⟩,
  ⟨"TOL_PRECOLOUR", 0x7B0000, [(0x8, 2048)], [⟨1, 0, .rw, 0, .stage⟩, ⟨3, 2, .rw, 0, .stage⟩, ⟨5, 4, .rw, 0, .stage⟩, ⟨7, 6, .rw, 0, .stage⟩, ⟨9, 8, .rw, 0, .stage⟩, ⟨11, 10, .rw, 0, .stage⟩, ⟨13, 12, .rw, 0, .stage⟩, ⟨15, 14, .rw, 0, .stage⟩, ⟨17, 16, .rw, 0, .stage⟩, ⟨19, 18, .rw, 0, .stage⟩, ⟨21, 20, .rw, 0, .stage⟩, ⟨23, 22, .rw, 0, .stage⟩, ⟨25, 24, .rw, 0, .stage⟩, ⟨27, 26, .rw, 0, .stage⟩, ⟨29, 28, .rw, 0, .stage⟩, ⟨31, 30, .rw, 0, .stage⟩, ⟨33, 32, .rw, 0, .stage⟩, ⟨35, 34, .rw, 0, .stage⟩, ⟨37, 36, .rw, 0, .stage⟩, ⟨39, 38, .rw, 0, .stage⟩, ⟨41, 40, .rw, 0, .stage⟩, ⟨43, 42, .rw, 0, .stage⟩, ⟨45, 44, .rw, 0, .stage⟩, ⟨47, 46, .rw, 0, .stage⟩, ⟨49, 48, .rw, 0, .stage⟩, ⟨51, 50, .rw, 0, .stage⟩, ⟨53, 52, .rw, 0, .stage⟩, ⟨55, 54, .rw, 0, .stage⟩, ⟨57, 56, .rw, 0, .stage⟩, ⟨59, 58, .rw, 0, .stage⟩, ⟨61, 60, .rw, 0, .stage⟩, ⟨63, 62, .rw, 0, .stage⟩]⟩]

/-- Registers of block SEC. -/
def regRowsSec : List RegRow := [
  ⟨"SEC_STATUS", 0x60000, [], [⟨58, 53, .ro, 0, .none⟩, ⟨44, 32, .ro, 0, .none⟩, ⟨31, 16, .rc, 0, .none⟩, ⟨15, 12, .ro, 0, .none⟩, ⟨3, 3, .ro, 0, .none⟩, ⟨2, 2, .ro, 0, .none⟩, ⟨1, 1, .ro, 0, .none⟩, ⟨0, 0, .ro, 0, .none⟩]⟩,
  ⟨"SEC_POLICY", 0x60008, [], [⟨63, 63, .ro, 0, .none⟩, ⟨2, 2, .rw, 1, .quiet⟩, ⟨1, 1, .rw, 1, .quiet⟩, ⟨0, 0, .rw, 0, .quiet⟩]⟩,
  ⟨"SEC_SEAL", 0x60010, [], [⟨63, 48, .wo, 0, .live⟩, ⟨0, 0, .wo, 0, .live⟩]⟩,
  ⟨"SEC_FM_KEY_CTRL", 0x60018, [], [⟨63, 63, .wo, 0, .live⟩, ⟨1, 1, .ro, 0, .none⟩, ⟨0, 0, .ro, 0, .none⟩]⟩,
  ⟨"SEC_FM_KEY", 0x60020, [(0x8, 12)], [⟨63, 0, .rw, 0, .quiet⟩]⟩,
  ⟨"SEC_LEDGER_BASE", 0x60080, [], [⟨57, 56, .rw, 0, .quiet⟩, ⟨51, 12, .rw, 0, .quiet⟩]⟩,
  ⟨"SEC_LEDGER_CTRL", 0x60088, [], [⟨63, 63, .rw, 0, .live⟩, ⟨62, 61, .ro, 0, .none⟩, ⟨60, 56, .rw, 10, .quiet⟩, ⟨47, 0, .rw, 58593750, .stage⟩]⟩,
  ⟨"SEC_LEDGER_IDX", 0x60090, [], [⟨63, 32, .rw, 0, .live⟩, ⟨31, 0, .ro, 0, .none⟩]⟩,
  ⟨"SEC_DOMAIN_SEL", 0x60098, [], [⟨15, 0, .rw, 0, .live⟩]⟩,
  ⟨"SEC_DOMAIN_INFO", 0x600A0, [], [⟨63, 32, .rc, 0, .none⟩, ⟨3, 3, .ro, 0, .none⟩, ⟨2, 0, .ro, 0, .none⟩]⟩,
  ⟨"SEC_MBX_CTRL", 0x60100, [], [⟨63, 63, .wo, 0, .live⟩, ⟨62, 62, .ro, 0, .none⟩, ⟨61, 60, .ro, 0, .none⟩, ⟨47, 32, .rw, 0, .live⟩, ⟨27, 16, .rw, 0, .live⟩, ⟨11, 0, .ro, 0, .none⟩]⟩,
  ⟨"SEC_MBX_TX", 0x61000, [(0x8, 512)], [⟨63, 32, .rw, 0, .live⟩, ⟨31, 0, .rw, 0, .live⟩]⟩,
  ⟨"SEC_MBX_RX", 0x62000, [(0x8, 512)], [⟨63, 32, .ro, 0, .none⟩, ⟨31, 0, .ro, 0, .none⟩]⟩]

/-- Registers of block LAN. -/
def regRowsLan : List RegRow := [
  ⟨"LAN_CTRL", 0x2000000, [(0x4000, 256)], [⟨63, 62, .rw, 3, .live⟩, ⟨61, 60, .rw, 3, .live⟩, ⟨56, 56, .rw, 0, .quiet⟩, ⟨53, 52, .rw, 0, .quiet⟩, ⟨39, 32, .rw, 50, .live⟩, ⟨0, 0, .wo, 0, .live⟩]⟩,
  ⟨"LAN_EQ", 0x2000008, [(0x4000, 256)], [⟨63, 63, .rw, 1, .quiet⟩, ⟨62, 62, .rw, 1, .quiet⟩, ⟨5, 0, .rw, 16, .quiet⟩]⟩,
  ⟨"LAN_DFE", 0x2000010, [(0x4000, 256), (0x8, 2)], [⟨7, 0, .ro, 0, .none⟩, ⟨15, 8, .ro, 0, .none⟩, ⟨23, 16, .ro, 0, .none⟩, ⟨31, 24, .ro, 0, .none⟩, ⟨39, 32, .ro, 0, .none⟩, ⟨47, 40, .ro, 0, .none⟩]⟩,
  ⟨"LAN_FFE", 0x2000020, [(0x4000, 256)], [⟨47, 40, .rw, 0, .live⟩, ⟨39, 32, .rw, 0, .live⟩, ⟨31, 24, .rw, 244, .live⟩, ⟨23, 16, .rw, 107, .live⟩, ⟨15, 8, .rw, 248, .live⟩, ⟨7, 0, .rw, 0, .live⟩]⟩,
  ⟨"LAN_FFE_NOW", 0x2000028, [(0x4000, 256)], [⟨47, 40, .ro, 0, .none⟩, ⟨39, 32, .ro, 0, .none⟩, ⟨31, 24, .ro, 244, .none⟩, ⟨23, 16, .ro, 107, .none⟩, ⟨15, 8, .ro, 248, .none⟩, ⟨7, 0, .ro, 0, .none⟩]⟩,
  ⟨"LAN_DET", 0x2000030, [(0x4000, 256)], [⟨39, 32, .rw, 2, .live⟩, ⟨31, 24, .rw, 20, .live⟩, ⟨23, 16, .rw, 100, .live⟩, ⟨15, 8, .rw, 4, .live⟩, ⟨7, 0, .rw, 60, .live⟩]⟩,
  ⟨"LAN_STATUS", 0x2000038, [(0x4000, 256)], [⟨63, 48, .rc, 0, .none⟩, ⟨37, 32, .ro, 0, .none⟩, ⟨17, 17, .w1c, 0, .live⟩, ⟨16, 16, .w1c, 0, .live⟩, ⟨15, 15, .ro, 1, .none⟩, ⟨14, 14, .ro, 1, .none⟩, ⟨13, 12, .ro, 3, .none⟩, ⟨11, 10, .ro, 3, .none⟩, ⟨6, 4, .ro, 0, .none⟩, ⟨1, 0, .ro, 0, .none⟩]⟩,
  ⟨"LAN_FEC_COUNT", 0x2000040, [(0x4000, 256)], [⟨63, 32, .rc, 0, .none⟩, ⟨31, 0, .rc, 0, .none⟩]⟩]

/-- Registers of block MOD. -/
def regRowsMod : List RegRow := [
  ⟨"MOD_CTRL", 0x2400000, [(0x1000, 32)], [⟨47, 24, .rw, 50000, .live⟩, ⟨12, 12, .wo, 0, .live⟩, ⟨11, 11, .rw, 1, .live⟩, ⟨10, 9, .rw, 1, .live⟩, ⟨8, 8, .rw, 1, .live⟩, ⟨1, 0, .rw, 0, .live⟩]⟩,
  ⟨"MOD_STATUS", 0x2400008, [(0x1000, 32)], [⟨39, 32, .ro, 0, .none⟩, ⟨31, 8, .ro, 0, .none⟩, ⟨7, 7, .ro, 0, .none⟩, ⟨6, 6, .ro, 0, .none⟩, ⟨5, 5, .ro, 0, .none⟩, ⟨4, 4, .ro, 0, .none⟩, ⟨3, 3, .ro, 0, .none⟩, ⟨2, 0, .ro, 0, .none⟩]⟩,
  ⟨"MOD_STRING", 0x2400010, [(0x1000, 32), (0x8, 4)], [⟨63, 0, .ro, 0, .none⟩]⟩,
  ⟨"MOD_LIFE", 0x2400030, [(0x1000, 32)], [⟨55, 32, .ro, 0, .none⟩, ⟨31, 0, .ro, 0, .none⟩]⟩,
  ⟨"MOD_CMIS_CMD", 0x2400038, [(0x1000, 32)], [⟨63, 63, .wo, 0, .live⟩, ⟨62, 62, .ro, 0, .none⟩, ⟨61, 61, .rw, 0, .live⟩, ⟨58, 56, .ro, 0, .none⟩, ⟨39, 32, .rw, 1, .live⟩, ⟨31, 24, .rw, 0, .live⟩, ⟨23, 16, .rw, 0, .live⟩, ⟨7, 0, .rw, 0, .live⟩]⟩,
  ⟨"MOD_DATA", 0x2400800, [(0x1000, 32), (0x8, 16)], [⟨63, 32, .rw, 0, .live⟩, ⟨31, 0, .rw, 0, .live⟩]⟩]

/-- Registers of block CPW. -/
def regRowsCpw : List RegRow := [
  ⟨"CPW_CTRL", 0x80000, [(0x40, 32)], [⟨63, 63, .rw, 0, .live⟩, ⟨62, 62, .rw, 0, .live⟩, ⟨61, 61, .rw, 1, .live⟩, ⟨60, 60, .rw, 1, .live⟩]⟩,
  ⟨"CPW_CFG", 0x80008, [(0x40, 32)], [⟨47, 40, .rw, 10, .quiet⟩, ⟨39, 32, .rw, 20, .quiet⟩, ⟨20, 16, .rw, 10, .quiet⟩, ⟨9, 0, .rw, 200, .quiet⟩]⟩,
  ⟨"CPW_LIMIT", 0x80010, [(0x40, 32)], [⟨47, 32, .rw, 500, .quiet⟩, ⟨15, 8, .rw, 16, .quiet⟩, ⟨7, 0, .rw, 64, .quiet⟩]⟩,
  ⟨"CPW_WINDOW", 0x80018, [(0x40, 32)], [⟨31, 16, .rw, 3550, .quiet⟩, ⟨15, 0, .rw, 3050, .quiet⟩]⟩,
  ⟨"CPW_STATUS", 0x80020, [(0x40, 32)], [⟨47, 32, .ro, 0, .none⟩, ⟨31, 28, .ro, 0, .none⟩, ⟨26, 24, .ro, 0, .none⟩, ⟨11, 11, .ro, 0, .none⟩, ⟨10, 10, .ro, 0, .none⟩, ⟨9, 9, .ro, 0, .none⟩, ⟨8, 8, .ro, 0, .none⟩, ⟨5, 4, .ro, 0, .none⟩, ⟨2, 0, .ro, 0, .none⟩]⟩,
  ⟨"CPW_MEAS", 0x80028, [(0x40, 32)], [⟨63, 48, .ro, 0, .none⟩, ⟨47, 32, .ro, 0, .none⟩, ⟨31, 16, .ro, 0, .none⟩, ⟨15, 0, .ro, 0, .none⟩]⟩,
  ⟨"CPW_LAST_ON", 0x80030, [(0x40, 32)], [⟨31, 0, .ro, 0, .none⟩]⟩,
  ⟨"CPW_COUNT", 0x80038, [(0x40, 32)], [⟨63, 32, .rc, 0, .none⟩, ⟨31, 16, .rc, 0, .none⟩]⟩]

/-- Registers of block LCK. -/
def regRowsLck : List RegRow := [
  ⟨"LCK_ACQ", 0x40000, [(0x8, 64)], [⟨31, 31, .rw, 0, .live⟩, ⟨30, 30, .ro, 0, .none⟩, ⟨29, 29, .ro, 0, .none⟩, ⟨15, 0, .ro, 0, .none⟩]⟩,
  ⟨"LCK_STATE", 0x40200, [(0x8, 64)], [⟨63, 63, .ro, 0, .none⟩, ⟨62, 62, .ro, 0, .none⟩, ⟨61, 61, .ro, 0, .none⟩, ⟨60, 60, .ro, 0, .none⟩, ⟨59, 57, .ro, 0, .none⟩, ⟨56, 54, .ro, 0, .none⟩, ⟨53, 51, .ro, 0, .none⟩, ⟨50, 50, .ro, 0, .none⟩, ⟨47, 32, .ro, 0, .none⟩, ⟨31, 16, .ro, 0, .none⟩]⟩,
  ⟨"LCK_CAND", 0x40400, [(0x8, 64)], [⟨31, 16, .ro, 0, .none⟩, ⟨15, 0, .ro, 0, .none⟩]⟩,
  ⟨"LCK_FORCE", 0x40600, [], [⟨63, 63, .wo, 0, .live⟩, ⟨5, 0, .wo, 0, .live⟩]⟩,
  ⟨"LCK_MPRIO", 0x40608, [], [⟨18, 16, .rw, 0, .live⟩, ⟨2, 0, .rw, 0, .live⟩, ⟨6, 4, .rw, 0, .live⟩, ⟨10, 8, .rw, 0, .live⟩, ⟨14, 12, .rw, 0, .live⟩]⟩,
  ⟨"LCK_NOTICE", 0x40610, [(0x8, 4)], [⟨63, 0, .w1c, 0, .live⟩]⟩,
  ⟨"LCK_COUNT", 0x40630, [], [⟨63, 32, .rc, 0, .none⟩, ⟨31, 0, .rc, 0, .none⟩]⟩]

/-- Registers of block TEL. -/
def regRowsTel : List RegRow := [
  ⟨"TEL_CTRL", 0x50000, [], [⟨63, 63, .rw, 0, .stage⟩]⟩,
  ⟨"TEL_SNAP_CFG", 0x50008, [], [⟨63, 63, .rw, 0, .live⟩, ⟨59, 56, .rw, 15, .quiet⟩, ⟨47, 32, .rw, 0, .stage⟩, ⟨15, 0, .rw, 1, .stage⟩]⟩,
  ⟨"TEL_SNAP_STATUS", 0x50010, [], [⟨63, 32, .rc, 0, .none⟩, ⟨17, 9, .ro, 289, .none⟩, ⟨0, 0, .ro, 0, .none⟩]⟩,
  ⟨"TEL_RING_BASE", 0x50018, [], [⟨57, 56, .rw, 0, .quiet⟩, ⟨51, 12, .rw, 0, .quiet⟩, ⟨3, 0, .rw, 6, .quiet⟩]⟩,
  ⟨"TEL_RING_IDX", 0x50020, [], [⟨63, 32, .rw, 0, .live⟩, ⟨31, 0, .ro, 0, .none⟩]⟩,
  ⟨"TEL_BW_CTRL", 0x50028, [], [⟨63, 63, .wo, 0, .live⟩, ⟨62, 62, .ro, 0, .none⟩, ⟨61, 61, .ro, 0, .none⟩, ⟨60, 60, .ro, 0, .none⟩, ⟨15, 0, .rw, 1, .live⟩]⟩,
  ⟨"TEL_BW_RESULT", 0x50100, [(0x8, 64)], [⟨63, 32, .ro, 0, .none⟩, ⟨31, 0, .ro, 0, .none⟩]⟩,
  ⟨"TEL_CTR_CFG", 0x51000, [(0x8, 256)], [⟨63, 63, .rw, 0, .stage⟩, ⟨62, 62, .rw, 0, .stage⟩, ⟨61, 61, .rw, 0, .stage⟩, ⟨47, 32, .rw, 0, .stage⟩, ⟨31, 16, .rw, 0, .stage⟩, ⟨15, 0, .rw, 0, .stage⟩]⟩,
  ⟨"TEL_CTR_VAL", 0x52000, [(0x8, 256)], [⟨63, 0, .rw, 0, .live⟩]⟩]

/-- Registers of block FLT. -/
def regRowsFlt : List RegRow := [
  ⟨"FLT_STATUS", 0x30000, [], [⟨63, 32, .ro, 0, .none⟩, ⟨18, 16, .ro, 0, .none⟩, ⟨14, 12, .ro, 0, .none⟩, ⟨11, 11, .ro, 0, .none⟩, ⟨10, 10, .ro, 0, .none⟩, ⟨9, 9, .ro, 0, .none⟩, ⟨8, 8, .ro, 0, .none⟩]⟩,
  ⟨"FLT_CTRL", 0x30008, [], [⟨63, 63, .wo, 0, .live⟩, ⟨15, 12, .rw, 15, .live⟩, ⟨10, 8, .rw, 1, .live⟩]⟩,
  ⟨"FLT_ERRPIN_MIN", 0x30010, [], [⟨2, 0, .rw, 1, .live⟩]⟩,
  ⟨"FLT_FORCE_SYN", 0x30018, [], [⟨63, 0, .rw, 0, .live⟩]⟩,
  ⟨"FLT_PENDING", 0x30100, [(0x8, 8)], [⟨63, 0, .w1c, 0, .live⟩]⟩,
  ⟨"FLT_SRC", 0x32000, [(0x8, 512)], [⟨63, 63, .wo, 0, .live⟩, ⟨62, 62, .rw, 1, .live⟩, ⟨61, 61, .rw, 1, .live⟩, ⟨34, 32, .ro, 0, .none⟩, ⟨31, 0, .rc, 0, .none⟩]⟩]

/-- The whole map. -/
def regRows : List RegRow :=
  regRowsDev ++ regRowsClk ++ regRowsStg ++ regRowsSeq ++ regRowsQue ++ regRowsMmu ++ regRowsMat ++ regRowsRma ++ regRowsBlk ++ regRowsCol ++ regRowsRtc ++ regRowsRtp ++ regRowsWpr ++ regRowsTol ++ regRowsSec ++ regRowsLan ++ regRowsMod ++ regRowsCpw ++ regRowsLck ++ regRowsTel ++ regRowsFlt

namespace F

/-- DEV_AUTH.FM_SEQ (spec/02). -/ abbrev DEV_AUTH_FM_SEQ : Fld := ⟨0x10200, 63, 2⟩
/-- DEV_AUTH.STRAP (spec/02). -/ abbrev DEV_AUTH_STRAP : Fld := ⟨0x10200, 1, 0⟩
/-- DEV_HOSTPORT.NUMVF (spec/02). -/ abbrev DEV_HOSTPORT_NUMVF (i : Nat) : Fld := ⟨0x10220 + i * 0x8, 15, 8⟩
/-- DEV_HOSTPORT.FLIT (spec/02). -/ abbrev DEV_HOSTPORT_FLIT (i : Nat) : Fld := ⟨0x10220 + i * 0x8, 7, 7⟩
/-- DEV_HOSTPORT.LINK_LOW (spec/02). -/ abbrev DEV_HOSTPORT_LINK_LOW (i : Nat) : Fld := ⟨0x10220 + i * 0x8, 6, 6⟩
/-- DEV_HOSTPORT.WIDTH (spec/02). -/ abbrev DEV_HOSTPORT_WIDTH (i : Nat) : Fld := ⟨0x10220 + i * 0x8, 5, 3⟩
/-- DEV_HOSTPORT.RATE (spec/02). -/ abbrev DEV_HOSTPORT_RATE (i : Nat) : Fld := ⟨0x10220 + i * 0x8, 2, 0⟩
/-- DEV_CFG_DROP.VALID (spec/02). -/ abbrev DEV_CFG_DROP_VALID : Fld := ⟨0x10240, 63, 63⟩
/-- DEV_CFG_DROP.FIRST_ADDR (spec/02). -/ abbrev DEV_CFG_DROP_FIRST_ADDR : Fld := ⟨0x10240, 57, 32⟩
/-- DEV_CFG_DROP.COUNT (spec/02). -/ abbrev DEV_CFG_DROP_COUNT : Fld := ⟨0x10240, 31, 0⟩
/-- CLK_STATUS.HOSTREF_OK (spec/03). -/ abbrev CLK_STATUS_HOSTREF_OK : Fld := ⟨0x20000, 15, 12⟩
/-- CLK_STATUS.RC_OK (spec/03). -/ abbrev CLK_STATUS_RC_OK : Fld := ⟨0x20000, 11, 11⟩
/-- CLK_STATUS.MGMT_LOCK (spec/03). -/ abbrev CLK_STATUS_MGMT_LOCK : Fld := ⟨0x20000, 10, 10⟩
/-- CLK_STATUS.CORE_LOCK (spec/03). -/ abbrev CLK_STATUS_CORE_LOCK : Fld := ⟨0x20000, 9, 9⟩
/-- CLK_STATUS.TB_LOCK (spec/03). -/ abbrev CLK_STATUS_TB_LOCK : Fld := ⟨0x20000, 8, 8⟩
/-- CLK_STATUS.HOLDOVER (spec/03). -/ abbrev CLK_STATUS_HOLDOVER : Fld := ⟨0x20000, 7, 7⟩
/-- CLK_STATUS.COAST (spec/03). -/ abbrev CLK_STATUS_COAST : Fld := ⟨0x20000, 6, 6⟩
/-- CLK_STATUS.B_FAIL (spec/03). -/ abbrev CLK_STATUS_B_FAIL : Fld := ⟨0x20000, 5, 5⟩
/-- CLK_STATUS.A_FAIL (spec/03). -/ abbrev CLK_STATUS_A_FAIL : Fld := ⟨0x20000, 4, 4⟩
/-- CLK_STATUS.B_QUAL (spec/03). -/ abbrev CLK_STATUS_B_QUAL : Fld := ⟨0x20000, 3, 3⟩
/-- CLK_STATUS.A_QUAL (spec/03). -/ abbrev CLK_STATUS_A_QUAL : Fld := ⟨0x20000, 2, 2⟩
/-- CLK_STATUS.REF_SEL (spec/03). -/ abbrev CLK_STATUS_REF_SEL : Fld := ⟨0x20000, 1, 0⟩
/-- CLK_REF_CTRL.REVERT (spec/03). -/ abbrev CLK_REF_CTRL_REVERT : Fld := ⟨0x20008, 2, 2⟩
/-- CLK_REF_CTRL.B_PRESENT (spec/03). -/ abbrev CLK_REF_CTRL_B_PRESENT : Fld := ⟨0x20008, 1, 1⟩
/-- CLK_QUAL.B_CYCLES (spec/03). -/ abbrev CLK_QUAL_B_CYCLES : Fld := ⟨0x20010, 63, 32⟩
/-- CLK_QUAL.A_CYCLES (spec/03). -/ abbrev CLK_QUAL_A_CYCLES : Fld := ⟨0x20010, 31, 0⟩
/-- CLK_SSC.EN (spec/03). -/ abbrev CLK_SSC_EN : Fld := ⟨0x20018, 15, 15⟩
/-- CLK_SSC.FREQ (spec/03). -/ abbrev CLK_SSC_FREQ : Fld := ⟨0x20018, 13, 8⟩
/-- CLK_SSC.DEPTH (spec/03). -/ abbrev CLK_SSC_DEPTH : Fld := ⟨0x20018, 3, 0⟩
/-- CLK_CLKOUT.SSC (spec/03). -/ abbrev CLK_CLKOUT_SSC (i : Nat) : Fld := ⟨0x20020 + i * 0x8, 2, 2⟩
/-- CLK_CLKOUT.FREQ (spec/03). -/ abbrev CLK_CLKOUT_FREQ (i : Nat) : Fld := ⟨0x20020 + i * 0x8, 1, 1⟩
/-- CLK_CLKOUT.EN (spec/03). -/ abbrev CLK_CLKOUT_EN (i : Nat) : Fld := ⟨0x20020 + i * 0x8, 0, 0⟩
/-- CLK_FMETER_CTRL.START (spec/03). -/ abbrev CLK_FMETER_CTRL_START : Fld := ⟨0x20030, 63, 63⟩
/-- CLK_FMETER_CTRL.BUSY (spec/03). -/ abbrev CLK_FMETER_CTRL_BUSY : Fld := ⟨0x20030, 62, 62⟩
/-- CLK_FMETER_CTRL.WINDOW (spec/03). -/ abbrev CLK_FMETER_CTRL_WINDOW : Fld := ⟨0x20030, 15, 8⟩
/-- CLK_FMETER_CTRL.SRC (spec/03). -/ abbrev CLK_FMETER_CTRL_SRC : Fld := ⟨0x20030, 4, 0⟩
/-- CLK_FMETER_RESULT.VALID (spec/03). -/ abbrev CLK_FMETER_RESULT_VALID : Fld := ⟨0x20038, 63, 63⟩
/-- CLK_FMETER_RESULT.DISTURBED (spec/03). -/ abbrev CLK_FMETER_RESULT_DISTURBED : Fld := ⟨0x20038, 62, 62⟩
/-- CLK_FMETER_RESULT.COUNT (spec/03). -/ abbrev CLK_FMETER_RESULT_COUNT : Fld := ⟨0x20038, 47, 0⟩
/-- STG_NOW.FRAC (spec/03). -/ abbrev STG_NOW_FRAC : Fld := ⟨0x28000, 57, 48⟩
/-- STG_NOW.STAGE (spec/03). -/ abbrev STG_NOW_STAGE : Fld := ⟨0x28000, 47, 0⟩
/-- STG_PERIOD.CODE (spec/03). -/ abbrev STG_PERIOD_CODE : Fld := ⟨0x28008, 1, 0⟩
/-- STG_PERIOD_NEXT.ARM (spec/03). -/ abbrev STG_PERIOD_NEXT_ARM : Fld := ⟨0x28010, 63, 63⟩
/-- STG_PERIOD_NEXT.REJECT (spec/03). -/ abbrev STG_PERIOD_NEXT_REJECT : Fld := ⟨0x28010, 62, 62⟩
/-- STG_PERIOD_NEXT.CODE (spec/03). -/ abbrev STG_PERIOD_NEXT_CODE : Fld := ⟨0x28010, 49, 48⟩
/-- STG_PERIOD_NEXT.AT_STAGE (spec/03). -/ abbrev STG_PERIOD_NEXT_AT_STAGE : Fld := ⟨0x28010, 47, 0⟩
/-- STG_SYNC_CTRL.GM (spec/03). -/ abbrev STG_SYNC_CTRL_GM : Fld := ⟨0x28018, 31, 31⟩
/-- STG_SYNC_CTRL.PARENT_EN (spec/03). -/ abbrev STG_SYNC_CTRL_PARENT_EN : Fld := ⟨0x28018, 30, 30⟩
/-- STG_SYNC_CTRL.PARENT_PORT (spec/03). -/ abbrev STG_SYNC_CTRL_PARENT_PORT : Fld := ⟨0x28018, 21, 16⟩
/-- STG_SYNC_CTRL.OFFSET_LIMIT (spec/03). -/ abbrev STG_SYNC_CTRL_OFFSET_LIMIT : Fld := ⟨0x28018, 15, 8⟩
/-- STG_SYNC_CTRL.LOSS_STAGES (spec/03). -/ abbrev STG_SYNC_CTRL_LOSS_STAGES : Fld := ⟨0x28018, 3, 0⟩
/-- STG_SYNC_STATUS.GM_ROUTER (spec/03). -/ abbrev STG_SYNC_STATUS_GM_ROUTER : Fld := ⟨0x28020, 63, 48⟩
/-- STG_SYNC_STATUS.STEP_REFUSED (spec/03). -/ abbrev STG_SYNC_STATUS_STEP_REFUSED : Fld := ⟨0x28020, 34, 34⟩
/-- STG_SYNC_STATUS.STATE (spec/03). -/ abbrev STG_SYNC_STATUS_STATE : Fld := ⟨0x28020, 33, 32⟩
/-- STG_SYNC_STATUS.OFFSET (spec/03). -/ abbrev STG_SYNC_STATUS_OFFSET : Fld := ⟨0x28020, 31, 0⟩
/-- STG_OVERRUN.LAST_TASK (spec/03). -/ abbrev STG_OVERRUN_LAST_TASK : Fld := ⟨0x28028, 63, 60⟩
/-- STG_OVERRUN.COUNT (spec/03). -/ abbrev STG_OVERRUN_COUNT : Fld := ⟨0x28028, 31, 0⟩
/-- STG_SKIPPED.COUNT (spec/03). -/ abbrev STG_SKIPPED_COUNT : Fld := ⟨0x28030, 47, 0⟩
/-- SEQ_STATUS.FENCED (spec/04). -/ abbrev SEQ_STATUS_FENCED : Fld := ⟨0x200000, 63, 48⟩
/-- SEQ_STATUS.LIVE (spec/04). -/ abbrev SEQ_STATUS_LIVE : Fld := ⟨0x200000, 45, 32⟩
/-- SEQ_STATUS.PARKED (spec/04). -/ abbrev SEQ_STATUS_PARKED : Fld := ⟨0x200000, 29, 16⟩
/-- SEQ_STATUS.RESIDENT (spec/04). -/ abbrev SEQ_STATUS_RESIDENT : Fld := ⟨0x200000, 11, 0⟩
/-- SEQ_CLUSTER.READY_SAVED (spec/04). -/ abbrev SEQ_CLUSTER_READY_SAVED (i : Nat) : Fld := ⟨0x200100 + i * 0x8, 45, 32⟩
/-- SEQ_CLUSTER.FENCE (spec/04). -/ abbrev SEQ_CLUSTER_FENCE (i : Nat) : Fld := ⟨0x200100 + i * 0x8, 8, 8⟩
/-- SEQ_CLUSTER.RESIDENT (spec/04). -/ abbrev SEQ_CLUSTER_RESIDENT (i : Nat) : Fld := ⟨0x200100 + i * 0x8, 7, 0⟩
/-- SEQ_PREEMPT.EN (spec/04). -/ abbrev SEQ_PREEMPT_EN : Fld := ⟨0x200200, 31, 31⟩
/-- SEQ_PREEMPT.MAX_PER_STAGE (spec/04). -/ abbrev SEQ_PREEMPT_MAX_PER_STAGE : Fld := ⟨0x200200, 15, 8⟩
/-- SEQ_PREEMPT.MIN_STAGES (spec/04). -/ abbrev SEQ_PREEMPT_MIN_STAGES : Fld := ⟨0x200200, 7, 0⟩
/-- SEQ_PREEMPT_COUNT.COUNT (spec/04). -/ abbrev SEQ_PREEMPT_COUNT_COUNT : Fld := ⟨0x200208, 31, 0⟩
/-- SEQ_PCACHE_INV.GO (spec/04). -/ abbrev SEQ_PCACHE_INV_GO : Fld := ⟨0x200210, 63, 63⟩
/-- SEQ_PCACHE_INV.BUSY (spec/04). -/ abbrev SEQ_PCACHE_INV_BUSY : Fld := ⟨0x200210, 62, 62⟩
/-- SEQ_PCACHE_INV.ALL (spec/04). -/ abbrev SEQ_PCACHE_INV_ALL : Fld := ⟨0x200210, 61, 61⟩
/-- SEQ_PCACHE_INV.PASID (spec/04). -/ abbrev SEQ_PCACHE_INV_PASID : Fld := ⟨0x200210, 19, 0⟩
/-- SEQ_RUN_RESUME.HANDLE (spec/04). -/ abbrev SEQ_RUN_RESUME_HANDLE : Fld := ⟨0x200300, 31, 0⟩
/-- SEQ_RUN_ABORT.HANDLE (spec/04). -/ abbrev SEQ_RUN_ABORT_HANDLE : Fld := ⟨0x200308, 31, 0⟩
/-- SEQ_RUN_CMD_RESULT.CMD (spec/04). -/ abbrev SEQ_RUN_CMD_RESULT_CMD : Fld := ⟨0x200310, 40, 40⟩
/-- SEQ_RUN_CMD_RESULT.RESULT (spec/04). -/ abbrev SEQ_RUN_CMD_RESULT_RESULT : Fld := ⟨0x200310, 39, 32⟩
/-- SEQ_RUN_CMD_RESULT.HANDLE (spec/04). -/ abbrev SEQ_RUN_CMD_RESULT_HANDLE : Fld := ⟨0x200310, 31, 0⟩
/-- SEQ_RUN_SELECT.HANDLE (spec/04). -/ abbrev SEQ_RUN_SELECT_HANDLE : Fld := ⟨0x200400, 31, 0⟩
/-- SEQ_SB_PROG.WORD (spec/04). -/ abbrev SEQ_SB_PROG_WORD (i : Nat) : Fld := ⟨0x201000 + i * 0x8, 63, 0⟩
/-- SEQ_SB_G.VALUE (spec/04). -/ abbrev SEQ_SB_G_VALUE (i : Nat) : Fld := ⟨0x201040 + i * 0x8, 63, 0⟩
/-- SEQ_SB_CTRL.GO (spec/04). -/ abbrev SEQ_SB_CTRL_GO : Fld := ⟨0x2010C0, 63, 63⟩
/-- SEQ_SB_CTRL.STATE (spec/04). -/ abbrev SEQ_SB_CTRL_STATE : Fld := ⟨0x2010C0, 8, 8⟩
/-- SEQ_SB_CTRL.STATUS (spec/04). -/ abbrev SEQ_SB_CTRL_STATUS : Fld := ⟨0x2010C0, 7, 0⟩
/-- SEQ_QCFG.CLUSTER_MASK (spec/04). -/ abbrev SEQ_QCFG_CLUSTER_MASK (i : Nat) : Fld := ⟨0x280000 + i * 0x8, 47, 32⟩
/-- SEQ_QCFG.STEP_LIMIT (spec/04). -/ abbrev SEQ_QCFG_STEP_LIMIT (i : Nat) : Fld := ⟨0x280000 + i * 0x8, 31, 0⟩
/-- QUE_CMD_ARG0.ADDR (spec/06). -/ abbrev QUE_CMD_ARG0_ADDR (i : Nat) : Fld := ⟨0x100000 + i * 0x40, 63, 0⟩
/-- QUE_CMD_ARG1.MOD_STAGES (spec/06). -/ abbrev QUE_CMD_ARG1_MOD_STAGES (i : Nat) : Fld := ⟨0x100008 + i * 0x40, 63, 56⟩
/-- QUE_CMD_ARG1.MOD_COUNT (spec/06). -/ abbrev QUE_CMD_ARG1_MOD_COUNT (i : Nat) : Fld := ⟨0x100008 + i * 0x40, 55, 48⟩
/-- QUE_CMD_ARG1.VECTOR (spec/06). -/ abbrev QUE_CMD_ARG1_VECTOR (i : Nat) : Fld := ⟨0x100008 + i * 0x40, 47, 37⟩
/-- QUE_CMD_ARG1.LOG2_SIZE (spec/06). -/ abbrev QUE_CMD_ARG1_LOG2_SIZE (i : Nat) : Fld := ⟨0x100008 + i * 0x40, 36, 32⟩
/-- QUE_CMD_ARG1.FUNCTION (spec/06). -/ abbrev QUE_CMD_ARG1_FUNCTION (i : Nat) : Fld := ⟨0x100008 + i * 0x40, 31, 24⟩
/-- QUE_CMD_ARG1.PORT (spec/06). -/ abbrev QUE_CMD_ARG1_PORT (i : Nat) : Fld := ⟨0x100008 + i * 0x40, 21, 20⟩
/-- QUE_CMD_ARG1.PASID (spec/06). -/ abbrev QUE_CMD_ARG1_PASID (i : Nat) : Fld := ⟨0x100008 + i * 0x40, 19, 0⟩
/-- QUE_CMD.GO (spec/06). -/ abbrev QUE_CMD_GO (i : Nat) : Fld := ⟨0x100010 + i * 0x40, 63, 63⟩
/-- QUE_CMD.BUSY (spec/06). -/ abbrev QUE_CMD_BUSY (i : Nat) : Fld := ⟨0x100010 + i * 0x40, 62, 62⟩
/-- QUE_CMD.RESULT (spec/06). -/ abbrev QUE_CMD_RESULT (i : Nat) : Fld := ⟨0x100010 + i * 0x40, 47, 40⟩
/-- QUE_CMD.OP (spec/06). -/ abbrev QUE_CMD_OP (i : Nat) : Fld := ⟨0x100010 + i * 0x40, 35, 32⟩
/-- QUE_CMD.VFSLOT (spec/06). -/ abbrev QUE_CMD_VFSLOT (i : Nat) : Fld := ⟨0x100010 + i * 0x40, 24, 16⟩
/-- QUE_CMD.INDEX (spec/06). -/ abbrev QUE_CMD_INDEX (i : Nat) : Fld := ⟨0x100010 + i * 0x40, 15, 0⟩
/-- QUE_CTR_SEL.COUNTER (spec/06). -/ abbrev QUE_CTR_SEL_COUNTER (i : Nat) : Fld := ⟨0x100018 + i * 0x40, 15, 0⟩
/-- QUE_CTR_VAL.VALUE (spec/06). -/ abbrev QUE_CTR_VAL_VALUE (i : Nat) : Fld := ⟨0x100020 + i * 0x40, 63, 0⟩
/-- QUE_CTR_INFO.BOUND (spec/06). -/ abbrev QUE_CTR_INFO_BOUND (i : Nat) : Fld := ⟨0x100028 + i * 0x40, 16, 16⟩
/-- QUE_CTR_INFO.DOMAIN (spec/06). -/ abbrev QUE_CTR_INFO_DOMAIN (i : Nat) : Fld := ⟨0x100028 + i * 0x40, 15, 0⟩
/-- QUE_VFDB.VALID3 (spec/06). -/ abbrev QUE_VFDB_VALID3 (i : Nat) : Fld := ⟨0x110000 + i * 0x8, 63, 63⟩
/-- QUE_VFDB.PAGE3 (spec/06). -/ abbrev QUE_VFDB_PAGE3 (i : Nat) : Fld := ⟨0x110000 + i * 0x8, 59, 48⟩
/-- QUE_VFDB.VALID2 (spec/06). -/ abbrev QUE_VFDB_VALID2 (i : Nat) : Fld := ⟨0x110000 + i * 0x8, 47, 47⟩
/-- QUE_VFDB.PAGE2 (spec/06). -/ abbrev QUE_VFDB_PAGE2 (i : Nat) : Fld := ⟨0x110000 + i * 0x8, 43, 32⟩
/-- QUE_VFDB.VALID1 (spec/06). -/ abbrev QUE_VFDB_VALID1 (i : Nat) : Fld := ⟨0x110000 + i * 0x8, 31, 31⟩
/-- QUE_VFDB.PAGE1 (spec/06). -/ abbrev QUE_VFDB_PAGE1 (i : Nat) : Fld := ⟨0x110000 + i * 0x8, 27, 16⟩
/-- QUE_VFDB.VALID0 (spec/06). -/ abbrev QUE_VFDB_VALID0 (i : Nat) : Fld := ⟨0x110000 + i * 0x8, 15, 15⟩
/-- QUE_VFDB.PAGE0 (spec/06). -/ abbrev QUE_VFDB_PAGE0 (i : Nat) : Fld := ⟨0x110000 + i * 0x8, 11, 0⟩
/-- QUE_EQ_CONS.ARM (spec/06). -/ abbrev QUE_EQ_CONS_ARM (i : Nat) : Fld := ⟨0x120000 + i * 0x8, 63, 63⟩
/-- QUE_EQ_CONS.CONSUMER (spec/06). -/ abbrev QUE_EQ_CONS_CONSUMER (i : Nat) : Fld := ⟨0x120000 + i * 0x8, 31, 0⟩
/-- QUE_EQ_STATUS.PRODUCER (spec/06). -/ abbrev QUE_EQ_STATUS_PRODUCER (i : Nat) : Fld := ⟨0x140000 + i * 0x8, 63, 32⟩
/-- QUE_EQ_STATUS.FULL (spec/06). -/ abbrev QUE_EQ_STATUS_FULL (i : Nat) : Fld := ⟨0x140000 + i * 0x8, 3, 3⟩
/-- QUE_EQ_STATUS.STATE (spec/06). -/ abbrev QUE_EQ_STATUS_STATE (i : Nat) : Fld := ⟨0x140000 + i * 0x8, 2, 0⟩
/-- QUE_QSTATE.CONSUMER (spec/06). -/ abbrev QUE_QSTATE_CONSUMER (i : Nat) : Fld := ⟨0x160000 + i * 0x8, 63, 32⟩
/-- QUE_QSTATE.LIVE (spec/06). -/ abbrev QUE_QSTATE_LIVE (i : Nat) : Fld := ⟨0x160000 + i * 0x8, 24, 18⟩
/-- QUE_QSTATE.SCHED (spec/06). -/ abbrev QUE_QSTATE_SCHED (i : Nat) : Fld := ⟨0x160000 + i * 0x8, 17, 17⟩
/-- QUE_QSTATE.OWN (spec/06). -/ abbrev QUE_QSTATE_OWN (i : Nat) : Fld := ⟨0x160000 + i * 0x8, 16, 16⟩
/-- QUE_QSTATE.ERR (spec/06). -/ abbrev QUE_QSTATE_ERR (i : Nat) : Fld := ⟨0x160000 + i * 0x8, 15, 8⟩
/-- QUE_QSTATE.STATE (spec/06). -/ abbrev QUE_QSTATE_STATE (i : Nat) : Fld := ⟨0x160000 + i * 0x8, 2, 0⟩
/-- MMU_WALK_WINDOW_BASE.EN (spec/07). -/ abbrev MMU_WALK_WINDOW_BASE_EN (i : Nat) : Fld := ⟨0x300000 + i * 0x10, 63, 63⟩
/-- MMU_WALK_WINDOW_BASE.PORT (spec/07). -/ abbrev MMU_WALK_WINDOW_BASE_PORT (i : Nat) : Fld := ⟨0x300000 + i * 0x10, 57, 56⟩
/-- MMU_WALK_WINDOW_BASE.BASE (spec/07). -/ abbrev MMU_WALK_WINDOW_BASE_BASE (i : Nat) : Fld := ⟨0x300000 + i * 0x10, 51, 12⟩
/-- MMU_WALK_WINDOW_LIMIT.LIMIT (spec/07). -/ abbrev MMU_WALK_WINDOW_LIMIT_LIMIT (i : Nat) : Fld := ⟨0x300008 + i * 0x10, 51, 12⟩
/-- MMU_AD_CTRL.RETRY_LIMIT (spec/07). -/ abbrev MMU_AD_CTRL_RETRY_LIMIT : Fld := ⟨0x300080, 7, 0⟩
/-- MMU_TLB_LFSR.VALUE (spec/07). -/ abbrev MMU_TLB_LFSR_VALUE : Fld := ⟨0x300088, 15, 0⟩
/-- MMU_TLB_STATUS.WALKS (spec/07). -/ abbrev MMU_TLB_STATUS_WALKS : Fld := ⟨0x300090, 22, 16⟩
/-- MMU_TLB_STATUS.VALID (spec/07). -/ abbrev MMU_TLB_STATUS_VALID : Fld := ⟨0x300090, 12, 0⟩
/-- MMU_FAULT_COUNT.COUNT (spec/07). -/ abbrev MMU_FAULT_COUNT_COUNT : Fld := ⟨0x300098, 31, 0⟩
/-- MMU_AS_ARG0.PRESET (spec/07). -/ abbrev MMU_AS_ARG0_PRESET (i : Nat) : Fld := ⟨0x300100 + i * 0x40, 63, 63⟩
/-- MMU_AS_ARG0.LEVELS5 (spec/07). -/ abbrev MMU_AS_ARG0_LEVELS5 (i : Nat) : Fld := ⟨0x300100 + i * 0x40, 62, 62⟩
/-- MMU_AS_ARG0.ROOT (spec/07). -/ abbrev MMU_AS_ARG0_ROOT (i : Nat) : Fld := ⟨0x300100 + i * 0x40, 51, 12⟩
/-- MMU_AS_ARG1.RETRY_AFTER (spec/07). -/ abbrev MMU_AS_ARG1_RETRY_AFTER (i : Nat) : Fld := ⟨0x300108 + i * 0x40, 63, 56⟩
/-- MMU_AS_ARG1.FAULT_EQ (spec/07). -/ abbrev MMU_AS_ARG1_FAULT_EQ (i : Nat) : Fld := ⟨0x300108 + i * 0x40, 45, 32⟩
/-- MMU_AS_ARG1.FUNCTION (spec/07). -/ abbrev MMU_AS_ARG1_FUNCTION (i : Nat) : Fld := ⟨0x300108 + i * 0x40, 31, 24⟩
/-- MMU_AS_ARG1.PORT (spec/07). -/ abbrev MMU_AS_ARG1_PORT (i : Nat) : Fld := ⟨0x300108 + i * 0x40, 21, 20⟩
/-- MMU_AS_ARG1.PASID (spec/07). -/ abbrev MMU_AS_ARG1_PASID (i : Nat) : Fld := ⟨0x300108 + i * 0x40, 19, 0⟩
/-- MMU_AS_CMD.GO (spec/07). -/ abbrev MMU_AS_CMD_GO (i : Nat) : Fld := ⟨0x300110 + i * 0x40, 63, 63⟩
/-- MMU_AS_CMD.BUSY (spec/07). -/ abbrev MMU_AS_CMD_BUSY (i : Nat) : Fld := ⟨0x300110 + i * 0x40, 62, 62⟩
/-- MMU_AS_CMD.RESULT (spec/07). -/ abbrev MMU_AS_CMD_RESULT (i : Nat) : Fld := ⟨0x300110 + i * 0x40, 47, 40⟩
/-- MMU_AS_CMD.OP (spec/07). -/ abbrev MMU_AS_CMD_OP (i : Nat) : Fld := ⟨0x300110 + i * 0x40, 34, 32⟩
/-- MMU_AS_INFO.TLB_ENTRIES (spec/07). -/ abbrev MMU_AS_INFO_TLB_ENTRIES (i : Nat) : Fld := ⟨0x300118 + i * 0x40, 44, 32⟩
/-- MMU_AS_INFO.DOMAIN (spec/07). -/ abbrev MMU_AS_INFO_DOMAIN (i : Nat) : Fld := ⟨0x300118 + i * 0x40, 31, 16⟩
/-- MMU_AS_INFO.BOUND (spec/07). -/ abbrev MMU_AS_INFO_BOUND (i : Nat) : Fld := ⟨0x300118 + i * 0x40, 2, 2⟩
/-- MMU_AS_INFO.STATE (spec/07). -/ abbrev MMU_AS_INFO_STATE (i : Nat) : Fld := ⟨0x300118 + i * 0x40, 1, 0⟩
/-- MMU_INV_ADDR.ADDR (spec/07). -/ abbrev MMU_INV_ADDR_ADDR (i : Nat) : Fld := ⟨0x300120 + i * 0x40, 63, 0⟩
/-- MMU_INV_LEN.LEN (spec/07). -/ abbrev MMU_INV_LEN_LEN (i : Nat) : Fld := ⟨0x300128 + i * 0x40, 63, 0⟩
/-- MMU_INV.GO (spec/07). -/ abbrev MMU_INV_GO (i : Nat) : Fld := ⟨0x300130 + i * 0x40, 63, 63⟩
/-- MMU_INV.BUSY (spec/07). -/ abbrev MMU_INV_BUSY (i : Nat) : Fld := ⟨0x300130 + i * 0x40, 62, 62⟩
/-- MMU_INV.SCOPE (spec/07). -/ abbrev MMU_INV_SCOPE (i : Nat) : Fld := ⟨0x300130 + i * 0x40, 33, 32⟩
/-- MMU_INV.PASID (spec/07). -/ abbrev MMU_INV_PASID (i : Nat) : Fld := ⟨0x300130 + i * 0x40, 19, 0⟩
/-- MAT_CTRL.SPEC_EN (spec/08). -/ abbrev MAT_CTRL_SPEC_EN : Fld := ⟨0x400000, 63, 63⟩
/-- MAT_CTRL.RNR_STAGES (spec/08). -/ abbrev MAT_CTRL_RNR_STAGES : Fld := ⟨0x400000, 23, 16⟩
/-- MAT_CTRL.EAGER_KIB (spec/08). -/ abbrev MAT_CTRL_EAGER_KIB : Fld := ⟨0x400000, 6, 0⟩
/-- MAT_STATUS.CTX_ACTIVE (spec/08). -/ abbrev MAT_STATUS_CTX_ACTIVE : Fld := ⟨0x400008, 63, 47⟩
/-- MAT_STATUS.RETAIN_KIB (spec/08). -/ abbrev MAT_STATUS_RETAIN_KIB : Fld := ⟨0x400008, 43, 32⟩
/-- MAT_STATUS.RESERVED_ENTRIES (spec/08). -/ abbrev MAT_STATUS_RESERVED_ENTRIES : Fld := ⟨0x400008, 18, 0⟩
/-- MAT_SPEC_COUNT.ATTEMPTS (spec/08). -/ abbrev MAT_SPEC_COUNT_ATTEMPTS : Fld := ⟨0x400010, 63, 32⟩
/-- MAT_SPEC_COUNT.MISPREDICT (spec/08). -/ abbrev MAT_SPEC_COUNT_MISPREDICT : Fld := ⟨0x400010, 31, 0⟩
/-- MAT_SPEC_OTHER.EXPIRED (spec/08). -/ abbrev MAT_SPEC_OTHER_EXPIRED : Fld := ⟨0x400018, 63, 32⟩
/-- MAT_SPEC_OTHER.CHECK_FAIL (spec/08). -/ abbrev MAT_SPEC_OTHER_CHECK_FAIL : Fld := ⟨0x400018, 31, 0⟩
/-- MAT_CTX_ARG0.POOL_BASE (spec/08). -/ abbrev MAT_CTX_ARG0_POOL_BASE (i : Nat) : Fld := ⟨0x401000 + i * 0x40, 63, 0⟩
/-- MAT_CTX_ARG1.SPILL_BASE (spec/08). -/ abbrev MAT_CTX_ARG1_SPILL_BASE (i : Nat) : Fld := ⟨0x401008 + i * 0x40, 63, 0⟩
/-- MAT_CTX_ARG2.SPEC (spec/08). -/ abbrev MAT_CTX_ARG2_SPEC (i : Nat) : Fld := ⟨0x401010 + i * 0x40, 63, 63⟩
/-- MAT_CTX_ARG2.ONCHIP_RES (spec/08). -/ abbrev MAT_CTX_ARG2_ONCHIP_RES (i : Nat) : Fld := ⟨0x401010 + i * 0x40, 47, 32⟩
/-- MAT_CTX_ARG2.SPILL_LOG2 (spec/08). -/ abbrev MAT_CTX_ARG2_SPILL_LOG2 (i : Nat) : Fld := ⟨0x401010 + i * 0x40, 28, 24⟩
/-- MAT_CTX_ARG2.POOL_LOG2 (spec/08). -/ abbrev MAT_CTX_ARG2_POOL_LOG2 (i : Nat) : Fld := ⟨0x401010 + i * 0x40, 20, 16⟩
/-- MAT_CTX_ARG2.SLOT_LOG2 (spec/08). -/ abbrev MAT_CTX_ARG2_SLOT_LOG2 (i : Nat) : Fld := ⟨0x401010 + i * 0x40, 4, 0⟩
/-- MAT_CTX_ARG3.FUNCTION (spec/08). -/ abbrev MAT_CTX_ARG3_FUNCTION (i : Nat) : Fld := ⟨0x401018 + i * 0x40, 31, 24⟩
/-- MAT_CTX_ARG3.PORT (spec/08). -/ abbrev MAT_CTX_ARG3_PORT (i : Nat) : Fld := ⟨0x401018 + i * 0x40, 21, 20⟩
/-- MAT_CTX_ARG3.PASID (spec/08). -/ abbrev MAT_CTX_ARG3_PASID (i : Nat) : Fld := ⟨0x401018 + i * 0x40, 19, 0⟩
/-- MAT_CTX_CMD.GO (spec/08). -/ abbrev MAT_CTX_CMD_GO (i : Nat) : Fld := ⟨0x401020 + i * 0x40, 63, 63⟩
/-- MAT_CTX_CMD.BUSY (spec/08). -/ abbrev MAT_CTX_CMD_BUSY (i : Nat) : Fld := ⟨0x401020 + i * 0x40, 62, 62⟩
/-- MAT_CTX_CMD.RESULT (spec/08). -/ abbrev MAT_CTX_CMD_RESULT (i : Nat) : Fld := ⟨0x401020 + i * 0x40, 47, 40⟩
/-- MAT_CTX_CMD.OP (spec/08). -/ abbrev MAT_CTX_CMD_OP (i : Nat) : Fld := ⟨0x401020 + i * 0x40, 34, 32⟩
/-- MAT_CTX_CMD.CONTEXT (spec/08). -/ abbrev MAT_CTX_CMD_CONTEXT (i : Nat) : Fld := ⟨0x401020 + i * 0x40, 15, 0⟩
/-- MAT_CTX_INFO.DOMAIN (spec/08). -/ abbrev MAT_CTX_INFO_DOMAIN (i : Nat) : Fld := ⟨0x401028 + i * 0x40, 63, 48⟩
/-- MAT_CTX_INFO.POSTED (spec/08). -/ abbrev MAT_CTX_INFO_POSTED (i : Nat) : Fld := ⟨0x401028 + i * 0x40, 43, 24⟩
/-- MAT_CTX_INFO.UNEXPECTED (spec/08). -/ abbrev MAT_CTX_INFO_UNEXPECTED (i : Nat) : Fld := ⟨0x401028 + i * 0x40, 23, 4⟩
/-- MAT_CTX_INFO.STATE (spec/08). -/ abbrev MAT_CTX_INFO_STATE (i : Nat) : Fld := ⟨0x401028 + i * 0x40, 1, 0⟩
/-- RMA_KTAB_CTRL.EN (spec/09). -/ abbrev RMA_KTAB_CTRL_EN : Fld := ⟨0x500000, 0, 0⟩
/-- RMA_KTAB_BASE.PORT (spec/09). -/ abbrev RMA_KTAB_BASE_PORT : Fld := ⟨0x500008, 57, 56⟩
/-- RMA_KTAB_BASE.BASE (spec/09). -/ abbrev RMA_KTAB_BASE_BASE : Fld := ⟨0x500008, 51, 12⟩
/-- RMA_KTAB_BASE.LOG2 (spec/09). -/ abbrev RMA_KTAB_BASE_LOG2 : Fld := ⟨0x500008, 4, 0⟩
/-- RMA_KTAB_STATUS.LIVE_KEYS (spec/09). -/ abbrev RMA_KTAB_STATUS_LIVE_KEYS : Fld := ⟨0x500010, 56, 32⟩
/-- RMA_KTAB_STATUS.CACHED (spec/09). -/ abbrev RMA_KTAB_STATUS_CACHED : Fld := ⟨0x500010, 18, 2⟩
/-- RMA_KTAB_STATUS.STATE (spec/09). -/ abbrev RMA_KTAB_STATUS_STATE : Fld := ⟨0x500010, 1, 0⟩
/-- RMA_ATOMIC_CTRL.ATOMICOP (spec/09). -/ abbrev RMA_ATOMIC_CTRL_ATOMICOP : Fld := ⟨0x500020, 3, 0⟩
/-- RMA_AMO_STATUS.RNR (spec/09). -/ abbrev RMA_AMO_STATUS_RNR : Fld := ⟨0x500028, 63, 32⟩
/-- RMA_AMO_STATUS.IN_USE (spec/09). -/ abbrev RMA_AMO_STATUS_IN_USE : Fld := ⟨0x500028, 14, 0⟩
/-- RMA_KEY_FAIL_A.KEY_INVALID (spec/09). -/ abbrev RMA_KEY_FAIL_A_KEY_INVALID : Fld := ⟨0x500030, 63, 32⟩
/-- RMA_KEY_FAIL_A.BOUNDS (spec/09). -/ abbrev RMA_KEY_FAIL_A_BOUNDS : Fld := ⟨0x500030, 31, 0⟩
/-- RMA_KEY_FAIL_B.RIGHTS (spec/09). -/ abbrev RMA_KEY_FAIL_B_RIGHTS : Fld := ⟨0x500038, 63, 32⟩
/-- RMA_KEY_FAIL_B.TAMPER (spec/09). -/ abbrev RMA_KEY_FAIL_B_TAMPER : Fld := ⟨0x500038, 31, 0⟩
/-- RMA_TAMPER_INDEX.VALID (spec/09). -/ abbrev RMA_TAMPER_INDEX_VALID : Fld := ⟨0x500040, 63, 63⟩
/-- RMA_TAMPER_INDEX.INDEX (spec/09). -/ abbrev RMA_TAMPER_INDEX_INDEX : Fld := ⟨0x500040, 23, 0⟩
/-- BLK_CH_CFG.EN (spec/10). -/ abbrev BLK_CH_CFG_EN (i : Nat) : Fld := ⟨0x580100 + i * 0x8, 63, 63⟩
/-- BLK_CH_CFG.REGFORM (spec/10). -/ abbrev BLK_CH_CFG_REGFORM (i : Nat) : Fld := ⟨0x580100 + i * 0x8, 62, 62⟩
/-- BLK_CH_CFG.BURST (spec/10). -/ abbrev BLK_CH_CFG_BURST (i : Nat) : Fld := ⟨0x580100 + i * 0x8, 10, 8⟩
/-- BLK_CH_CFG.PRIO (spec/10). -/ abbrev BLK_CH_CFG_PRIO (i : Nat) : Fld := ⟨0x580100 + i * 0x8, 2, 0⟩
/-- BLK_CH_STATUS.CMD_IGNORED (spec/10). -/ abbrev BLK_CH_STATUS_CMD_IGNORED (i : Nat) : Fld := ⟨0x580800 + i * 0x8, 63, 48⟩
/-- BLK_CH_STATUS.PARKED_OP (spec/10). -/ abbrev BLK_CH_STATUS_PARKED_OP (i : Nat) : Fld := ⟨0x580800 + i * 0x8, 47, 16⟩
/-- BLK_CH_STATUS.BOUND (spec/10). -/ abbrev BLK_CH_STATUS_BOUND (i : Nat) : Fld := ⟨0x580800 + i * 0x8, 15, 8⟩
/-- BLK_CH_STATUS.INFLIGHT (spec/10). -/ abbrev BLK_CH_STATUS_INFLIGHT (i : Nat) : Fld := ⟨0x580800 + i * 0x8, 7, 2⟩
/-- BLK_CH_STATUS.STATE (spec/10). -/ abbrev BLK_CH_STATUS_STATE (i : Nat) : Fld := ⟨0x580800 + i * 0x8, 1, 0⟩
/-- BLK_QPRIO.PRIO0 (spec/10). -/ abbrev BLK_QPRIO_PRIO0 (i : Nat) : Fld := ⟨0x590000 + i * 0x8, 2, 0⟩
/-- BLK_QPRIO.PRIO1 (spec/10). -/ abbrev BLK_QPRIO_PRIO1 (i : Nat) : Fld := ⟨0x590000 + i * 0x8, 6, 4⟩
/-- BLK_QPRIO.PRIO2 (spec/10). -/ abbrev BLK_QPRIO_PRIO2 (i : Nat) : Fld := ⟨0x590000 + i * 0x8, 10, 8⟩
/-- BLK_QPRIO.PRIO3 (spec/10). -/ abbrev BLK_QPRIO_PRIO3 (i : Nat) : Fld := ⟨0x590000 + i * 0x8, 14, 12⟩
/-- BLK_QPRIO.PRIO4 (spec/10). -/ abbrev BLK_QPRIO_PRIO4 (i : Nat) : Fld := ⟨0x590000 + i * 0x8, 18, 16⟩
/-- BLK_QPRIO.PRIO5 (spec/10). -/ abbrev BLK_QPRIO_PRIO5 (i : Nat) : Fld := ⟨0x590000 + i * 0x8, 22, 20⟩
/-- BLK_QPRIO.PRIO6 (spec/10). -/ abbrev BLK_QPRIO_PRIO6 (i : Nat) : Fld := ⟨0x590000 + i * 0x8, 26, 24⟩
/-- BLK_QPRIO.PRIO7 (spec/10). -/ abbrev BLK_QPRIO_PRIO7 (i : Nat) : Fld := ⟨0x590000 + i * 0x8, 30, 28⟩
/-- BLK_QPRIO.PRIO8 (spec/10). -/ abbrev BLK_QPRIO_PRIO8 (i : Nat) : Fld := ⟨0x590000 + i * 0x8, 34, 32⟩
/-- BLK_QPRIO.PRIO9 (spec/10). -/ abbrev BLK_QPRIO_PRIO9 (i : Nat) : Fld := ⟨0x590000 + i * 0x8, 38, 36⟩
/-- BLK_QPRIO.PRIO10 (spec/10). -/ abbrev BLK_QPRIO_PRIO10 (i : Nat) : Fld := ⟨0x590000 + i * 0x8, 42, 40⟩
/-- BLK_QPRIO.PRIO11 (spec/10). -/ abbrev BLK_QPRIO_PRIO11 (i : Nat) : Fld := ⟨0x590000 + i * 0x8, 46, 44⟩
/-- BLK_QPRIO.PRIO12 (spec/10). -/ abbrev BLK_QPRIO_PRIO12 (i : Nat) : Fld := ⟨0x590000 + i * 0x8, 50, 48⟩
/-- BLK_QPRIO.PRIO13 (spec/10). -/ abbrev BLK_QPRIO_PRIO13 (i : Nat) : Fld := ⟨0x590000 + i * 0x8, 54, 52⟩
/-- BLK_QPRIO.PRIO14 (spec/10). -/ abbrev BLK_QPRIO_PRIO14 (i : Nat) : Fld := ⟨0x590000 + i * 0x8, 58, 56⟩
/-- BLK_QPRIO.PRIO15 (spec/10). -/ abbrev BLK_QPRIO_PRIO15 (i : Nat) : Fld := ⟨0x590000 + i * 0x8, 62, 60⟩
/-- BLK_SH_SRC.SRC (spec/10). -/ abbrev BLK_SH_SRC_SRC (i : Nat) : Fld := ⟨0x581000 + i * 0x80, 63, 0⟩
/-- BLK_SH_DST.DST (spec/10). -/ abbrev BLK_SH_DST_DST (i : Nat) : Fld := ⟨0x581008 + i * 0x80, 63, 0⟩
/-- BLK_SH_COUNT.COUNT (spec/10). -/ abbrev BLK_SH_COUNT_COUNT (i : Nat) : Fld := ⟨0x581010 + i * 0x80, 31, 0⟩
/-- BLK_SH_IDX.IDX (spec/10). -/ abbrev BLK_SH_IDX_IDX (i : Nat) : Fld := ⟨0x581018 + i * 0x80, 63, 0⟩
/-- BLK_SH_CTRL.IRQ_EN (spec/10). -/ abbrev BLK_SH_CTRL_IRQ_EN (i : Nat) : Fld := ⟨0x581020 + i * 0x80, 63, 63⟩
/-- BLK_SH_CTRL.VECTOR (spec/10). -/ abbrev BLK_SH_CTRL_VECTOR (i : Nat) : Fld := ⟨0x581020 + i * 0x80, 58, 48⟩
/-- BLK_SH_CTRL.ESIZE (spec/10). -/ abbrev BLK_SH_CTRL_ESIZE (i : Nat) : Fld := ⟨0x581020 + i * 0x80, 44, 32⟩
/-- BLK_SH_CTRL.MODE (spec/10). -/ abbrev BLK_SH_CTRL_MODE (i : Nat) : Fld := ⟨0x581020 + i * 0x80, 29, 28⟩
/-- BLK_SH_CTRL.PASID (spec/10). -/ abbrev BLK_SH_CTRL_PASID (i : Nat) : Fld := ⟨0x581020 + i * 0x80, 19, 0⟩
/-- BLK_RF_STATUS.HANDOVER_SEQ (spec/10). -/ abbrev BLK_RF_STATUS_HANDOVER_SEQ (i : Nat) : Fld := ⟨0x581028 + i * 0x80, 63, 48⟩
/-- BLK_RF_STATUS.LAST_STATUS (spec/10). -/ abbrev BLK_RF_STATUS_LAST_STATUS (i : Nat) : Fld := ⟨0x581028 + i * 0x80, 47, 40⟩
/-- BLK_RF_STATUS.ACT_STATE (spec/10). -/ abbrev BLK_RF_STATUS_ACT_STATE (i : Nat) : Fld := ⟨0x581028 + i * 0x80, 35, 34⟩
/-- BLK_RF_STATUS.SHADOW_ARMED (spec/10). -/ abbrev BLK_RF_STATUS_SHADOW_ARMED (i : Nat) : Fld := ⟨0x581028 + i * 0x80, 32, 32⟩
/-- BLK_RF_STATUS.BYTES (spec/10). -/ abbrev BLK_RF_STATUS_BYTES (i : Nat) : Fld := ⟨0x581028 + i * 0x80, 31, 0⟩
/-- BLK_RF_CMD.GO (spec/10). -/ abbrev BLK_RF_CMD_GO (i : Nat) : Fld := ⟨0x581030 + i * 0x80, 63, 63⟩
/-- BLK_RF_CMD.OP (spec/10). -/ abbrev BLK_RF_CMD_OP (i : Nat) : Fld := ⟨0x581030 + i * 0x80, 2, 0⟩
/-- COL_CTRL.STALL_STAGES (spec/11). -/ abbrev COL_CTRL_STALL_STAGES : Fld := ⟨0x600000, 55, 32⟩
/-- COL_CTRL.BUF_SEGS (spec/11). -/ abbrev COL_CTRL_BUF_SEGS : Fld := ⟨0x600000, 6, 0⟩
/-- COL_STATUS.GROUPS (spec/11). -/ abbrev COL_STATUS_GROUPS : Fld := ⟨0x600008, 28, 16⟩
/-- COL_STATUS.UNITS_USED (spec/11). -/ abbrev COL_STATUS_UNITS_USED : Fld := ⟨0x600008, 10, 0⟩
/-- COL_GRP_SEL.GROUP (spec/11). -/ abbrev COL_GRP_SEL_GROUP : Fld := ⟨0x600010, 11, 0⟩
/-- COL_GRP_INFO.JOINED (spec/11). -/ abbrev COL_GRP_INFO_JOINED : Fld := ⟨0x600018, 63, 60⟩
/-- COL_GRP_INFO.UNITS (spec/11). -/ abbrev COL_GRP_INFO_UNITS : Fld := ⟨0x600018, 58, 48⟩
/-- COL_GRP_INFO.SEQ (spec/11). -/ abbrev COL_GRP_INFO_SEQ : Fld := ⟨0x600018, 47, 32⟩
/-- COL_GRP_INFO.DOMAIN (spec/11). -/ abbrev COL_GRP_INFO_DOMAIN : Fld := ⟨0x600018, 31, 16⟩
/-- COL_GRP_INFO.REMOTE (spec/11). -/ abbrev COL_GRP_INFO_REMOTE : Fld := ⟨0x600018, 8, 8⟩
/-- COL_GRP_INFO.CAUSE (spec/11). -/ abbrev COL_GRP_INFO_CAUSE : Fld := ⟨0x600018, 7, 4⟩
/-- COL_GRP_INFO.STATE (spec/11). -/ abbrev COL_GRP_INFO_STATE : Fld := ⟨0x600018, 2, 0⟩
/-- COL_GRP_LINKS.BUF_SEGS (spec/11). -/ abbrev COL_GRP_LINKS_BUF_SEGS : Fld := ⟨0x600020, 38, 32⟩
/-- COL_GRP_LINKS.GRANTS_PENDING (spec/11). -/ abbrev COL_GRP_LINKS_GRANTS_PENDING : Fld := ⟨0x600020, 30, 24⟩
/-- COL_GRP_LINKS.NFABRIC (spec/11). -/ abbrev COL_GRP_LINKS_NFABRIC : Fld := ⟨0x600020, 22, 16⟩
/-- COL_GRP_LINKS.NLOCAL (spec/11). -/ abbrev COL_GRP_LINKS_NLOCAL : Fld := ⟨0x600020, 11, 8⟩
/-- COL_GRP_LINKS.ROOT (spec/11). -/ abbrev COL_GRP_LINKS_ROOT : Fld := ⟨0x600020, 6, 6⟩
/-- COL_GRP_LINKS.PARENT (spec/11). -/ abbrev COL_GRP_LINKS_PARENT : Fld := ⟨0x600020, 5, 0⟩
/-- COL_BREAKS.STRAY (spec/11). -/ abbrev COL_BREAKS_STRAY : Fld := ⟨0x600028, 63, 48⟩
/-- COL_BREAKS.MISMATCH (spec/11). -/ abbrev COL_BREAKS_MISMATCH : Fld := ⟨0x600028, 47, 32⟩
/-- COL_BREAKS.BREAKS (spec/11). -/ abbrev COL_BREAKS_BREAKS : Fld := ⟨0x600028, 31, 0⟩
/-- RTC_SELF.GROUP (spec/12). -/ abbrev RTC_SELF_GROUP : Fld := ⟨0x1400000, 25, 16⟩
/-- RTC_SELF.ROUTER_ID (spec/12). -/ abbrev RTC_SELF_ROUTER_ID : Fld := ⟨0x1400000, 15, 0⟩
/-- RTC_BANK.SWAP (spec/12). -/ abbrev RTC_BANK_SWAP : Fld := ⟨0x1400008, 63, 63⟩
/-- RTC_BANK.COPY (spec/12). -/ abbrev RTC_BANK_COPY : Fld := ⟨0x1400008, 62, 62⟩
/-- RTC_BANK.COPY_BUSY (spec/12). -/ abbrev RTC_BANK_COPY_BUSY : Fld := ⟨0x1400008, 61, 61⟩
/-- RTC_BANK.ACTIVE (spec/12). -/ abbrev RTC_BANK_ACTIVE : Fld := ⟨0x1400008, 32, 32⟩
/-- RTC_BANK.SWAPS (spec/12). -/ abbrev RTC_BANK_SWAPS : Fld := ⟨0x1400008, 31, 0⟩
/-- RTC_ADAPT.MODE (spec/12). -/ abbrev RTC_ADAPT_MODE : Fld := ⟨0x1400010, 63, 63⟩
/-- RTC_ADAPT.VCOUNT (spec/12). -/ abbrev RTC_ADAPT_VCOUNT : Fld := ⟨0x1400010, 56, 48⟩
/-- RTC_ADAPT.BIAS (spec/12). -/ abbrev RTC_ADAPT_BIAS : Fld := ⟨0x1400010, 47, 32⟩
/-- RTC_ADAPT.THRESHOLD (spec/12). -/ abbrev RTC_ADAPT_THRESHOLD : Fld := ⟨0x1400010, 31, 16⟩
/-- RTC_ADAPT.GOSSIP_WEIGHT (spec/12). -/ abbrev RTC_ADAPT_GOSSIP_WEIGHT : Fld := ⟨0x1400010, 15, 8⟩
/-- RTC_PORT_HEALTH.HEALTH (spec/12). -/ abbrev RTC_PORT_HEALTH_HEALTH : Fld := ⟨0x1400018, 63, 0⟩
/-- RTC_WAY_CTRL.PAIR_SHARE_KIB (spec/12). -/ abbrev RTC_WAY_CTRL_PAIR_SHARE_KIB : Fld := ⟨0x1400020, 15, 0⟩
/-- RTC_WAY_STATUS.PAIRS_HOLDING (spec/12). -/ abbrev RTC_WAY_STATUS_PAIRS_HOLDING : Fld := ⟨0x1400028, 47, 32⟩
/-- RTC_WAY_STATUS.USED_KIB (spec/12). -/ abbrev RTC_WAY_STATUS_USED_KIB : Fld := ⟨0x1400028, 15, 0⟩
/-- RTC_DROP.HOP_LIMIT (spec/12). -/ abbrev RTC_DROP_HOP_LIMIT : Fld := ⟨0x1400030, 63, 32⟩
/-- RTC_DROP.NO_PATH (spec/12). -/ abbrev RTC_DROP_NO_PATH : Fld := ⟨0x1400030, 31, 0⟩
/-- RTC_DROP_B.EP_MISMATCH (spec/12). -/ abbrev RTC_DROP_B_EP_MISMATCH : Fld := ⟨0x1400038, 63, 32⟩
/-- RTC_DROP_B.LINK_DOWN (spec/12). -/ abbrev RTC_DROP_B_LINK_DOWN : Fld := ⟨0x1400038, 31, 0⟩
/-- RTC_EP_PAGE.PAGE (spec/12). -/ abbrev RTC_EP_PAGE_PAGE : Fld := ⟨0x1400040, 1, 0⟩
/-- RTC_CVY_CTRL.PRIO (spec/12). -/ abbrev RTC_CVY_CTRL_PRIO : Fld := ⟨0x1400048, 18, 16⟩
/-- RTC_CVY_CTRL.RESEND_LIMIT (spec/12). -/ abbrev RTC_CVY_CTRL_RESEND_LIMIT : Fld := ⟨0x1400048, 15, 8⟩
/-- RTC_CVY_CTRL.RTO_STAGES (spec/12). -/ abbrev RTC_CVY_CTRL_RTO_STAGES : Fld := ⟨0x1400048, 7, 0⟩
/-- RTC_CVY_SEL.CONVOY (spec/12). -/ abbrev RTC_CVY_SEL_CONVOY : Fld := ⟨0x1400050, 9, 0⟩
/-- RTC_CVY_INFO.DOMAIN (spec/12). -/ abbrev RTC_CVY_INFO_DOMAIN : Fld := ⟨0x1400058, 63, 48⟩
/-- RTC_CVY_INFO.SLOTS (spec/12). -/ abbrev RTC_CVY_INFO_SLOTS : Fld := ⟨0x1400058, 47, 32⟩
/-- RTC_CVY_INFO.OUT_PORT (spec/12). -/ abbrev RTC_CVY_INFO_OUT_PORT : Fld := ⟨0x1400058, 29, 24⟩
/-- RTC_CVY_INFO.IN_PORT (spec/12). -/ abbrev RTC_CVY_INFO_IN_PORT : Fld := ⟨0x1400058, 21, 16⟩
/-- RTC_CVY_INFO.ROLE (spec/12). -/ abbrev RTC_CVY_INFO_ROLE : Fld := ⟨0x1400058, 15, 14⟩
/-- RTC_CVY_INFO.CAUSE (spec/12). -/ abbrev RTC_CVY_INFO_CAUSE : Fld := ⟨0x1400058, 10, 8⟩
/-- RTC_CVY_INFO.STATE (spec/12). -/ abbrev RTC_CVY_INFO_STATE : Fld := ⟨0x1400058, 2, 0⟩
/-- RTC_CVY_PROGRESS.CUM (spec/12). -/ abbrev RTC_CVY_PROGRESS_CUM : Fld := ⟨0x1400060, 63, 32⟩
/-- RTC_CVY_PROGRESS.TOTAL (spec/12). -/ abbrev RTC_CVY_PROGRESS_TOTAL : Fld := ⟨0x1400060, 31, 0⟩
/-- RTC_CVY_COUNT.STRAY (spec/12). -/ abbrev RTC_CVY_COUNT_STRAY : Fld := ⟨0x1400068, 63, 32⟩
/-- RTC_CVY_COUNT.OVERFLOW (spec/12). -/ abbrev RTC_CVY_COUNT_OVERFLOW : Fld := ⟨0x1400068, 31, 0⟩
/-- RTC_VALIANT.ROUTER3 (spec/12). -/ abbrev RTC_VALIANT_ROUTER3 (i : Nat) : Fld := ⟨0x1400100 + i * 0x8, 63, 48⟩
/-- RTC_VALIANT.ROUTER2 (spec/12). -/ abbrev RTC_VALIANT_ROUTER2 (i : Nat) : Fld := ⟨0x1400100 + i * 0x8, 47, 32⟩
/-- RTC_VALIANT.ROUTER1 (spec/12). -/ abbrev RTC_VALIANT_ROUTER1 (i : Nat) : Fld := ⟨0x1400100 + i * 0x8, 31, 16⟩
/-- RTC_VALIANT.ROUTER0 (spec/12). -/ abbrev RTC_VALIANT_ROUTER0 (i : Nat) : Fld := ⟨0x1400100 + i * 0x8, 15, 0⟩
/-- RTP_CTRL.EN (spec/12). -/ abbrev RTP_CTRL_EN (i : Nat) : Fld := ⟨0x1000000 + i * 0x10000, 63, 63⟩
/-- RTP_CTRL.VC_MIN (spec/12). -/ abbrev RTP_CTRL_VC_MIN (i : Nat) : Fld := ⟨0x1000000 + i * 0x10000, 7, 0⟩
/-- RTP_STATUS.NEIGHBOUR (spec/12). -/ abbrev RTP_STATUS_NEIGHBOUR (i : Nat) : Fld := ⟨0x1000008 + i * 0x10000, 63, 48⟩
/-- RTP_STATUS.CVY_SLOTS (spec/12). -/ abbrev RTP_STATUS_CVY_SLOTS (i : Nat) : Fld := ⟨0x1000008 + i * 0x10000, 47, 32⟩
/-- RTP_STATUS.SHARED_FREE (spec/12). -/ abbrev RTP_STATUS_SHARED_FREE (i : Nat) : Fld := ⟨0x1000008 + i * 0x10000, 20, 8⟩
/-- RTP_STATUS.GOSSIP_AGE (spec/12). -/ abbrev RTP_STATUS_GOSSIP_AGE (i : Nat) : Fld := ⟨0x1000008 + i * 0x10000, 7, 4⟩
/-- RTP_STATUS.LINK_UP (spec/12). -/ abbrev RTP_STATUS_LINK_UP (i : Nat) : Fld := ⟨0x1000008 + i * 0x10000, 2, 2⟩
/-- RTP_STATUS.STATE (spec/12). -/ abbrev RTP_STATUS_STATE (i : Nat) : Fld := ⟨0x1000008 + i * 0x10000, 1, 0⟩
/-- RTP_GOSSIP.LEVEL0 (spec/12). -/ abbrev RTP_GOSSIP_LEVEL0 (i : Nat) (j : Nat) : Fld := ⟨0x1000010 + i * 0x10000 + j * 0x8, 3, 0⟩
/-- RTP_GOSSIP.LEVEL1 (spec/12). -/ abbrev RTP_GOSSIP_LEVEL1 (i : Nat) (j : Nat) : Fld := ⟨0x1000010 + i * 0x10000 + j * 0x8, 7, 4⟩
/-- RTP_GOSSIP.LEVEL2 (spec/12). -/ abbrev RTP_GOSSIP_LEVEL2 (i : Nat) (j : Nat) : Fld := ⟨0x1000010 + i * 0x10000 + j * 0x8, 11, 8⟩
/-- RTP_GOSSIP.LEVEL3 (spec/12). -/ abbrev RTP_GOSSIP_LEVEL3 (i : Nat) (j : Nat) : Fld := ⟨0x1000010 + i * 0x10000 + j * 0x8, 15, 12⟩
/-- RTP_GOSSIP.LEVEL4 (spec/12). -/ abbrev RTP_GOSSIP_LEVEL4 (i : Nat) (j : Nat) : Fld := ⟨0x1000010 + i * 0x10000 + j * 0x8, 19, 16⟩
/-- RTP_GOSSIP.LEVEL5 (spec/12). -/ abbrev RTP_GOSSIP_LEVEL5 (i : Nat) (j : Nat) : Fld := ⟨0x1000010 + i * 0x10000 + j * 0x8, 23, 20⟩
/-- RTP_GOSSIP.LEVEL6 (spec/12). -/ abbrev RTP_GOSSIP_LEVEL6 (i : Nat) (j : Nat) : Fld := ⟨0x1000010 + i * 0x10000 + j * 0x8, 27, 24⟩
/-- RTP_GOSSIP.LEVEL7 (spec/12). -/ abbrev RTP_GOSSIP_LEVEL7 (i : Nat) (j : Nat) : Fld := ⟨0x1000010 + i * 0x10000 + j * 0x8, 31, 28⟩
/-- RTP_GOSSIP.LEVEL8 (spec/12). -/ abbrev RTP_GOSSIP_LEVEL8 (i : Nat) (j : Nat) : Fld := ⟨0x1000010 + i * 0x10000 + j * 0x8, 35, 32⟩
/-- RTP_GOSSIP.LEVEL9 (spec/12). -/ abbrev RTP_GOSSIP_LEVEL9 (i : Nat) (j : Nat) : Fld := ⟨0x1000010 + i * 0x10000 + j * 0x8, 39, 36⟩
/-- RTP_GOSSIP.LEVEL10 (spec/12). -/ abbrev RTP_GOSSIP_LEVEL10 (i : Nat) (j : Nat) : Fld := ⟨0x1000010 + i * 0x10000 + j * 0x8, 43, 40⟩
/-- RTP_GOSSIP.LEVEL11 (spec/12). -/ abbrev RTP_GOSSIP_LEVEL11 (i : Nat) (j : Nat) : Fld := ⟨0x1000010 + i * 0x10000 + j * 0x8, 47, 44⟩
/-- RTP_GOSSIP.LEVEL12 (spec/12). -/ abbrev RTP_GOSSIP_LEVEL12 (i : Nat) (j : Nat) : Fld := ⟨0x1000010 + i * 0x10000 + j * 0x8, 51, 48⟩
/-- RTP_GOSSIP.LEVEL13 (spec/12). -/ abbrev RTP_GOSSIP_LEVEL13 (i : Nat) (j : Nat) : Fld := ⟨0x1000010 + i * 0x10000 + j * 0x8, 55, 52⟩
/-- RTP_GOSSIP.LEVEL14 (spec/12). -/ abbrev RTP_GOSSIP_LEVEL14 (i : Nat) (j : Nat) : Fld := ⟨0x1000010 + i * 0x10000 + j * 0x8, 59, 56⟩
/-- RTP_GOSSIP.LEVEL15 (spec/12). -/ abbrev RTP_GOSSIP_LEVEL15 (i : Nat) (j : Nat) : Fld := ⟨0x1000010 + i * 0x10000 + j * 0x8, 63, 60⟩
/-- RTP_LOAD.LEVEL (spec/12). -/ abbrev RTP_LOAD_LEVEL (i : Nat) : Fld := ⟨0x1000030 + i * 0x10000, 35, 32⟩
/-- RTP_LOAD.DEPTH (spec/12). -/ abbrev RTP_LOAD_DEPTH (i : Nat) : Fld := ⟨0x1000030 + i * 0x10000, 31, 0⟩
/-- WPR_E2E_CTRL.RNR_STAGES (spec/13). -/ abbrev WPR_E2E_CTRL_RNR_STAGES : Fld := ⟨0x700000, 63, 56⟩
/-- WPR_E2E_CTRL.GAP_STAGES (spec/13). -/ abbrev WPR_E2E_CTRL_GAP_STAGES : Fld := ⟨0x700000, 55, 52⟩
/-- WPR_E2E_CTRL.RESEND_LIMIT (spec/13). -/ abbrev WPR_E2E_CTRL_RESEND_LIMIT : Fld := ⟨0x700000, 51, 48⟩
/-- WPR_E2E_CTRL.RETAIN (spec/13). -/ abbrev WPR_E2E_CTRL_RETAIN : Fld := ⟨0x700000, 43, 32⟩
/-- WPR_E2E_CTRL.LIFETIME (spec/13). -/ abbrev WPR_E2E_CTRL_LIFETIME : Fld := ⟨0x700000, 26, 16⟩
/-- WPR_E2E_CTRL.TIMEOUT (spec/13). -/ abbrev WPR_E2E_CTRL_TIMEOUT : Fld := ⟨0x700000, 7, 0⟩
/-- WPR_INCARNATION.VALUE (spec/13). -/ abbrev WPR_INCARNATION_VALUE : Fld := ⟨0x700008, 15, 0⟩
/-- WPR_E2E_COUNT_A.RESENDS (spec/13). -/ abbrev WPR_E2E_COUNT_A_RESENDS : Fld := ⟨0x700010, 63, 32⟩
/-- WPR_E2E_COUNT_A.ABANDONED (spec/13). -/ abbrev WPR_E2E_COUNT_A_ABANDONED : Fld := ⟨0x700010, 31, 0⟩
/-- WPR_E2E_COUNT_B.DUPLICATES (spec/13). -/ abbrev WPR_E2E_COUNT_B_DUPLICATES : Fld := ⟨0x700018, 63, 32⟩
/-- WPR_E2E_COUNT_B.LIFETIME_DROPS (spec/13). -/ abbrev WPR_E2E_COUNT_B_LIFETIME_DROPS : Fld := ⟨0x700018, 31, 0⟩
/-- WPR_E2E_COUNT_C.CRC_FAIL (spec/13). -/ abbrev WPR_E2E_COUNT_C_CRC_FAIL : Fld := ⟨0x700020, 63, 32⟩
/-- WPR_E2E_COUNT_C.TAG_FAIL (spec/13). -/ abbrev WPR_E2E_COUNT_C_TAG_FAIL : Fld := ⟨0x700020, 31, 0⟩
/-- WPR_NACK_SENT.SEQ_GAP (spec/13). -/ abbrev WPR_NACK_SENT_SEQ_GAP : Fld := ⟨0x700028, 63, 48⟩
/-- WPR_NACK_SENT.RNR (spec/13). -/ abbrev WPR_NACK_SENT_RNR : Fld := ⟨0x700028, 47, 32⟩
/-- WPR_NACK_SENT.XLATE (spec/13). -/ abbrev WPR_NACK_SENT_XLATE : Fld := ⟨0x700028, 31, 16⟩
/-- WPR_NACK_SENT.STALE (spec/13). -/ abbrev WPR_NACK_SENT_STALE : Fld := ⟨0x700028, 15, 0⟩
/-- WPR_PAIR_STATUS.RX_RECORDS (spec/13). -/ abbrev WPR_PAIR_STATUS_RX_RECORDS : Fld := ⟨0x700030, 52, 32⟩
/-- WPR_PAIR_STATUS.TX_RECORDS (spec/13). -/ abbrev WPR_PAIR_STATUS_TX_RECORDS : Fld := ⟨0x700030, 20, 0⟩
/-- WPR_LINK_CTRL.RETRAIN (spec/13). -/ abbrev WPR_LINK_CTRL_RETRAIN (i : Nat) : Fld := ⟨0x701000 + i * 0x20, 63, 63⟩
/-- WPR_LINK_CTRL.REPLAY_TO (spec/13). -/ abbrev WPR_LINK_CTRL_REPLAY_TO (i : Nat) : Fld := ⟨0x701000 + i * 0x20, 15, 0⟩
/-- WPR_LINK_STATUS.DOWN_CAUSE (spec/13). -/ abbrev WPR_LINK_STATUS_DOWN_CAUSE (i : Nat) : Fld := ⟨0x701008 + i * 0x20, 63, 60⟩
/-- WPR_LINK_STATUS.FAILED_REPLAYS (spec/13). -/ abbrev WPR_LINK_STATUS_FAILED_REPLAYS (i : Nat) : Fld := ⟨0x701008 + i * 0x20, 59, 56⟩
/-- WPR_LINK_STATUS.RX_NEXT (spec/13). -/ abbrev WPR_LINK_STATUS_RX_NEXT (i : Nat) : Fld := ⟨0x701008 + i * 0x20, 55, 44⟩
/-- WPR_LINK_STATUS.TX_NEXT (spec/13). -/ abbrev WPR_LINK_STATUS_TX_NEXT (i : Nat) : Fld := ⟨0x701008 + i * 0x20, 43, 32⟩
/-- WPR_LINK_STATUS.PEER_INC (spec/13). -/ abbrev WPR_LINK_STATUS_PEER_INC (i : Nat) : Fld := ⟨0x701008 + i * 0x20, 31, 16⟩
/-- WPR_LINK_STATUS.STATE (spec/13). -/ abbrev WPR_LINK_STATUS_STATE (i : Nat) : Fld := ⟨0x701008 + i * 0x20, 1, 0⟩
/-- WPR_LINK_COUNT.REPLAYS (spec/13). -/ abbrev WPR_LINK_COUNT_REPLAYS (i : Nat) : Fld := ⟨0x701010 + i * 0x20, 63, 32⟩
/-- WPR_LINK_COUNT.UNCORR (spec/13). -/ abbrev WPR_LINK_COUNT_UNCORR (i : Nat) : Fld := ⟨0x701010 + i * 0x20, 31, 0⟩
/-- WPR_LINK_COUNT_B.DOWNS (spec/13). -/ abbrev WPR_LINK_COUNT_B_DOWNS (i : Nat) : Fld := ⟨0x701018 + i * 0x20, 63, 32⟩
/-- WPR_LINK_COUNT_B.OUT_OF_SEQ (spec/13). -/ abbrev WPR_LINK_COUNT_B_OUT_OF_SEQ (i : Nat) : Fld := ⟨0x701018 + i * 0x20, 31, 0⟩
/-- TOL_CTRL.METER_EN (spec/14). -/ abbrev TOL_CTRL_METER_EN : Fld := ⟨0x780000, 63, 63⟩
/-- TOL_STATUS.ENABLED (spec/14). -/ abbrev TOL_STATUS_ENABLED : Fld := ⟨0x780008, 46, 32⟩
/-- TOL_STATUS.DEFERRED (spec/14). -/ abbrev TOL_STATUS_DEFERRED : Fld := ⟨0x780008, 7, 0⟩
/-- TOL_TOLL_SEL.TOLL (spec/14). -/ abbrev TOL_TOLL_SEL_TOLL : Fld := ⟨0x780010, 13, 0⟩
/-- TOL_TOLL_CFG.EN (spec/14). -/ abbrev TOL_TOLL_CFG_EN : Fld := ⟨0x780018, 40, 40⟩
/-- TOL_TOLL_CFG.RED (spec/14). -/ abbrev TOL_TOLL_CFG_RED : Fld := ⟨0x780018, 39, 38⟩
/-- TOL_TOLL_CFG.DEMOTE (spec/14). -/ abbrev TOL_TOLL_CFG_DEMOTE : Fld := ⟨0x780018, 37, 37⟩
/-- TOL_TOLL_CFG.AWARE (spec/14). -/ abbrev TOL_TOLL_CFG_AWARE : Fld := ⟨0x780018, 36, 36⟩
/-- TOL_TOLL_CFG.CLASS (spec/14). -/ abbrev TOL_TOLL_CFG_CLASS : Fld := ⟨0x780018, 34, 32⟩
/-- TOL_TOLL_CFG.DOMAIN (spec/14). -/ abbrev TOL_TOLL_CFG_DOMAIN : Fld := ⟨0x780018, 31, 16⟩
/-- TOL_TOLL_CFG.TOLL (spec/14). -/ abbrev TOL_TOLL_CFG_TOLL : Fld := ⟨0x780018, 13, 0⟩
/-- TOL_TOLL_RATE.PIR (spec/14). -/ abbrev TOL_TOLL_RATE_PIR : Fld := ⟨0x780020, 63, 32⟩
/-- TOL_TOLL_RATE.CIR (spec/14). -/ abbrev TOL_TOLL_RATE_CIR : Fld := ⟨0x780020, 31, 0⟩
/-- TOL_TOLL_BURST.PBS (spec/14). -/ abbrev TOL_TOLL_BURST_PBS : Fld := ⟨0x780028, 63, 32⟩
/-- TOL_TOLL_BURST.CBS (spec/14). -/ abbrev TOL_TOLL_BURST_CBS : Fld := ⟨0x780028, 31, 0⟩
/-- TOL_TOLL_TOKENS.TP (spec/14). -/ abbrev TOL_TOLL_TOKENS_TP : Fld := ⟨0x780030, 63, 32⟩
/-- TOL_TOLL_TOKENS.TC (spec/14). -/ abbrev TOL_TOLL_TOKENS_TC : Fld := ⟨0x780030, 31, 0⟩
/-- TOL_TOLL_COUNT.YELLOW (spec/14). -/ abbrev TOL_TOLL_COUNT_YELLOW : Fld := ⟨0x780038, 63, 32⟩
/-- TOL_TOLL_COUNT.RED (spec/14). -/ abbrev TOL_TOLL_COUNT_RED : Fld := ⟨0x780038, 31, 0⟩
/-- TOL_SAMP_SEL.KIND (spec/14). -/ abbrev TOL_SAMP_SEL_KIND : Fld := ⟨0x780040, 32, 32⟩
/-- TOL_SAMP_SEL.SCAV (spec/14). -/ abbrev TOL_SAMP_SEL_SCAV : Fld := ⟨0x780040, 16, 16⟩
/-- TOL_SAMP_SEL.INDEX (spec/14). -/ abbrev TOL_SAMP_SEL_INDEX : Fld := ⟨0x780040, 15, 0⟩
/-- TOL_SAMP_VIEW.DELAY (spec/14). -/ abbrev TOL_SAMP_VIEW_DELAY : Fld := ⟨0x780048, 63, 48⟩
/-- TOL_SAMP_VIEW.DEPTH (spec/14). -/ abbrev TOL_SAMP_VIEW_DEPTH : Fld := ⟨0x780048, 47, 32⟩
/-- TOL_SAMP_VIEW.STAGE (spec/14). -/ abbrev TOL_SAMP_VIEW_STAGE : Fld := ⟨0x780048, 31, 0⟩
/-- TOL_SAMP_PEAK.PEAK_DELAY (spec/14). -/ abbrev TOL_SAMP_PEAK_PEAK_DELAY : Fld := ⟨0x780050, 63, 48⟩
/-- TOL_SAMP_PEAK.PEAK_DEPTH (spec/14). -/ abbrev TOL_SAMP_PEAK_PEAK_DEPTH : Fld := ⟨0x780050, 47, 32⟩
/-- TOL_PORT_QUANT.SCAV (spec/14). -/ abbrev TOL_PORT_QUANT_SCAV (i : Nat) : Fld := ⟨0x780100 + i * 0x8, 59, 48⟩
/-- TOL_PORT_QUANT.MGMT (spec/14). -/ abbrev TOL_PORT_QUANT_MGMT (i : Nat) : Fld := ⟨0x780100 + i * 0x8, 47, 36⟩
/-- TOL_PORT_QUANT.COLL (spec/14). -/ abbrev TOL_PORT_QUANT_COLL (i : Nat) : Fld := ⟨0x780100 + i * 0x8, 35, 24⟩
/-- TOL_PORT_QUANT.RESP (spec/14). -/ abbrev TOL_PORT_QUANT_RESP (i : Nat) : Fld := ⟨0x780100 + i * 0x8, 23, 12⟩
/-- TOL_PORT_QUANT.REQ (spec/14). -/ abbrev TOL_PORT_QUANT_REQ (i : Nat) : Fld := ⟨0x780100 + i * 0x8, 11, 0⟩
/-- TOL_DQUANT.QUANT0 (spec/14). -/ abbrev TOL_DQUANT_QUANT0 (i : Nat) : Fld := ⟨0x790000 + i * 0x8, 15, 0⟩
/-- TOL_DQUANT.QUANT1 (spec/14). -/ abbrev TOL_DQUANT_QUANT1 (i : Nat) : Fld := ⟨0x790000 + i * 0x8, 31, 16⟩
/-- TOL_DQUANT.QUANT2 (spec/14). -/ abbrev TOL_DQUANT_QUANT2 (i : Nat) : Fld := ⟨0x790000 + i * 0x8, 47, 32⟩
/-- TOL_DQUANT.QUANT3 (spec/14). -/ abbrev TOL_DQUANT_QUANT3 (i : Nat) : Fld := ⟨0x790000 + i * 0x8, 63, 48⟩
/-- TOL_PRECOLOUR.PRE0 (spec/14). -/ abbrev TOL_PRECOLOUR_PRE0 (i : Nat) : Fld := ⟨0x7B0000 + i * 0x8, 1, 0⟩
/-- TOL_PRECOLOUR.PRE1 (spec/14). -/ abbrev TOL_PRECOLOUR_PRE1 (i : Nat) : Fld := ⟨0x7B0000 + i * 0x8, 3, 2⟩
/-- TOL_PRECOLOUR.PRE2 (spec/14). -/ abbrev TOL_PRECOLOUR_PRE2 (i : Nat) : Fld := ⟨0x7B0000 + i * 0x8, 5, 4⟩
/-- TOL_PRECOLOUR.PRE3 (spec/14). -/ abbrev TOL_PRECOLOUR_PRE3 (i : Nat) : Fld := ⟨0x7B0000 + i * 0x8, 7, 6⟩
/-- TOL_PRECOLOUR.PRE4 (spec/14). -/ abbrev TOL_PRECOLOUR_PRE4 (i : Nat) : Fld := ⟨0x7B0000 + i * 0x8, 9, 8⟩
/-- TOL_PRECOLOUR.PRE5 (spec/14). -/ abbrev TOL_PRECOLOUR_PRE5 (i : Nat) : Fld := ⟨0x7B0000 + i * 0x8, 11, 10⟩
/-- TOL_PRECOLOUR.PRE6 (spec/14). -/ abbrev TOL_PRECOLOUR_PRE6 (i : Nat) : Fld := ⟨0x7B0000 + i * 0x8, 13, 12⟩
/-- TOL_PRECOLOUR.PRE7 (spec/14). -/ abbrev TOL_PRECOLOUR_PRE7 (i : Nat) : Fld := ⟨0x7B0000 + i * 0x8, 15, 14⟩
/-- TOL_PRECOLOUR.PRE8 (spec/14). -/ abbrev TOL_PRECOLOUR_PRE8 (i : Nat) : Fld := ⟨0x7B0000 + i * 0x8, 17, 16⟩
/-- TOL_PRECOLOUR.PRE9 (spec/14). -/ abbrev TOL_PRECOLOUR_PRE9 (i : Nat) : Fld := ⟨0x7B0000 + i * 0x8, 19, 18⟩
/-- TOL_PRECOLOUR.PRE10 (spec/14). -/ abbrev TOL_PRECOLOUR_PRE10 (i : Nat) : Fld := ⟨0x7B0000 + i * 0x8, 21, 20⟩
/-- TOL_PRECOLOUR.PRE11 (spec/14). -/ abbrev TOL_PRECOLOUR_PRE11 (i : Nat) : Fld := ⟨0x7B0000 + i * 0x8, 23, 22⟩
/-- TOL_PRECOLOUR.PRE12 (spec/14). -/ abbrev TOL_PRECOLOUR_PRE12 (i : Nat) : Fld := ⟨0x7B0000 + i * 0x8, 25, 24⟩
/-- TOL_PRECOLOUR.PRE13 (spec/14). -/ abbrev TOL_PRECOLOUR_PRE13 (i : Nat) : Fld := ⟨0x7B0000 + i * 0x8, 27, 26⟩
/-- TOL_PRECOLOUR.PRE14 (spec/14). -/ abbrev TOL_PRECOLOUR_PRE14 (i : Nat) : Fld := ⟨0x7B0000 + i * 0x8, 29, 28⟩
/-- TOL_PRECOLOUR.PRE15 (spec/14). -/ abbrev TOL_PRECOLOUR_PRE15 (i : Nat) : Fld := ⟨0x7B0000 + i * 0x8, 31, 30⟩
/-- TOL_PRECOLOUR.PRE16 (spec/14). -/ abbrev TOL_PRECOLOUR_PRE16 (i : Nat) : Fld := ⟨0x7B0000 + i * 0x8, 33, 32⟩
/-- TOL_PRECOLOUR.PRE17 (spec/14). -/ abbrev TOL_PRECOLOUR_PRE17 (i : Nat) : Fld := ⟨0x7B0000 + i * 0x8, 35, 34⟩
/-- TOL_PRECOLOUR.PRE18 (spec/14). -/ abbrev TOL_PRECOLOUR_PRE18 (i : Nat) : Fld := ⟨0x7B0000 + i * 0x8, 37, 36⟩
/-- TOL_PRECOLOUR.PRE19 (spec/14). -/ abbrev TOL_PRECOLOUR_PRE19 (i : Nat) : Fld := ⟨0x7B0000 + i * 0x8, 39, 38⟩
/-- TOL_PRECOLOUR.PRE20 (spec/14). -/ abbrev TOL_PRECOLOUR_PRE20 (i : Nat) : Fld := ⟨0x7B0000 + i * 0x8, 41, 40⟩
/-- TOL_PRECOLOUR.PRE21 (spec/14). -/ abbrev TOL_PRECOLOUR_PRE21 (i : Nat) : Fld := ⟨0x7B0000 + i * 0x8, 43, 42⟩
/-- TOL_PRECOLOUR.PRE22 (spec/14). -/ abbrev TOL_PRECOLOUR_PRE22 (i : Nat) : Fld := ⟨0x7B0000 + i * 0x8, 45, 44⟩
/-- TOL_PRECOLOUR.PRE23 (spec/14). -/ abbrev TOL_PRECOLOUR_PRE23 (i : Nat) : Fld := ⟨0x7B0000 + i * 0x8, 47, 46⟩
/-- TOL_PRECOLOUR.PRE24 (spec/14). -/ abbrev TOL_PRECOLOUR_PRE24 (i : Nat) : Fld := ⟨0x7B0000 + i * 0x8, 49, 48⟩
/-- TOL_PRECOLOUR.PRE25 (spec/14). -/ abbrev TOL_PRECOLOUR_PRE25 (i : Nat) : Fld := ⟨0x7B0000 + i * 0x8, 51, 50⟩
/-- TOL_PRECOLOUR.PRE26 (spec/14). -/ abbrev TOL_PRECOLOUR_PRE26 (i : Nat) : Fld := ⟨0x7B0000 + i * 0x8, 53, 52⟩
/-- TOL_PRECOLOUR.PRE27 (spec/14). -/ abbrev TOL_PRECOLOUR_PRE27 (i : Nat) : Fld := ⟨0x7B0000 + i * 0x8, 55, 54⟩
/-- TOL_PRECOLOUR.PRE28 (spec/14). -/ abbrev TOL_PRECOLOUR_PRE28 (i : Nat) : Fld := ⟨0x7B0000 + i * 0x8, 57, 56⟩
/-- TOL_PRECOLOUR.PRE29 (spec/14). -/ abbrev TOL_PRECOLOUR_PRE29 (i : Nat) : Fld := ⟨0x7B0000 + i * 0x8, 59, 58⟩
/-- TOL_PRECOLOUR.PRE30 (spec/14). -/ abbrev TOL_PRECOLOUR_PRE30 (i : Nat) : Fld := ⟨0x7B0000 + i * 0x8, 61, 60⟩
/-- TOL_PRECOLOUR.PRE31 (spec/14). -/ abbrev TOL_PRECOLOUR_PRE31 (i : Nat) : Fld := ⟨0x7B0000 + i * 0x8, 63, 62⟩
/-- SEC_STATUS.SESSIONS (spec/15). -/ abbrev SEC_STATUS_SESSIONS : Fld := ⟨0x60000, 58, 53⟩
/-- SEC_STATUS.KEYED (spec/15). -/ abbrev SEC_STATUS_KEYED : Fld := ⟨0x60000, 44, 32⟩
/-- SEC_STATUS.CVY_WITHHELD (spec/15). -/ abbrev SEC_STATUS_CVY_WITHHELD : Fld := ⟨0x60000, 31, 16⟩
/-- SEC_STATUS.SEAL_CAUSE (spec/15). -/ abbrev SEC_STATUS_SEAL_CAUSE : Fld := ⟨0x60000, 15, 12⟩
/-- SEC_STATUS.FMKEY_LOCKED (spec/15). -/ abbrev SEC_STATUS_FMKEY_LOCKED : Fld := ⟨0x60000, 3, 3⟩
/-- SEC_STATUS.FMKEY_VALID (spec/15). -/ abbrev SEC_STATUS_FMKEY_VALID : Fld := ⟨0x60000, 2, 2⟩
/-- SEC_STATUS.IDENTITY_OK (spec/15). -/ abbrev SEC_STATUS_IDENTITY_OK : Fld := ⟨0x60000, 1, 1⟩
/-- SEC_STATUS.SEALED (spec/15). -/ abbrev SEC_STATUS_SEALED : Fld := ⟨0x60000, 0, 0⟩
/-- SEC_POLICY.LOCKED (spec/15). -/ abbrev SEC_POLICY_LOCKED : Fld := ⟨0x60008, 63, 63⟩
/-- SEC_POLICY.SB_SEAL_EN (spec/15). -/ abbrev SEC_POLICY_SB_SEAL_EN : Fld := ⟨0x60008, 2, 2⟩
/-- SEC_POLICY.TDISP_EN (spec/15). -/ abbrev SEC_POLICY_TDISP_EN : Fld := ⟨0x60008, 1, 1⟩
/-- SEC_POLICY.SB_KEYS (spec/15). -/ abbrev SEC_POLICY_SB_KEYS : Fld := ⟨0x60008, 0, 0⟩
/-- SEC_SEAL.CONFIRM (spec/15). -/ abbrev SEC_SEAL_CONFIRM : Fld := ⟨0x60010, 63, 48⟩
/-- SEC_SEAL.GO (spec/15). -/ abbrev SEC_SEAL_GO : Fld := ⟨0x60010, 0, 0⟩
/-- SEC_FM_KEY_CTRL.REGISTER (spec/15). -/ abbrev SEC_FM_KEY_CTRL_REGISTER : Fld := ⟨0x60018, 63, 63⟩
/-- SEC_FM_KEY_CTRL.INVALID (spec/15). -/ abbrev SEC_FM_KEY_CTRL_INVALID : Fld := ⟨0x60018, 1, 1⟩
/-- SEC_FM_KEY_CTRL.VALID (spec/15). -/ abbrev SEC_FM_KEY_CTRL_VALID : Fld := ⟨0x60018, 0, 0⟩
/-- SEC_FM_KEY.COORD (spec/15). -/ abbrev SEC_FM_KEY_COORD (i : Nat) : Fld := ⟨0x60020 + i * 0x8, 63, 0⟩
/-- SEC_LEDGER_BASE.PORT (spec/15). -/ abbrev SEC_LEDGER_BASE_PORT : Fld := ⟨0x60080, 57, 56⟩
/-- SEC_LEDGER_BASE.BASE (spec/15). -/ abbrev SEC_LEDGER_BASE_BASE : Fld := ⟨0x60080, 51, 12⟩
/-- SEC_LEDGER_CTRL.EN (spec/15). -/ abbrev SEC_LEDGER_CTRL_EN : Fld := ⟨0x60088, 63, 63⟩
/-- SEC_LEDGER_CTRL.STATE (spec/15). -/ abbrev SEC_LEDGER_CTRL_STATE : Fld := ⟨0x60088, 62, 61⟩
/-- SEC_LEDGER_CTRL.LOG2 (spec/15). -/ abbrev SEC_LEDGER_CTRL_LOG2 : Fld := ⟨0x60088, 60, 56⟩
/-- SEC_LEDGER_CTRL.PERIOD_STAGES (spec/15). -/ abbrev SEC_LEDGER_CTRL_PERIOD_STAGES : Fld := ⟨0x60088, 47, 0⟩
/-- SEC_LEDGER_IDX.CONSUMER (spec/15). -/ abbrev SEC_LEDGER_IDX_CONSUMER : Fld := ⟨0x60090, 63, 32⟩
/-- SEC_LEDGER_IDX.PRODUCER (spec/15). -/ abbrev SEC_LEDGER_IDX_PRODUCER : Fld := ⟨0x60090, 31, 0⟩
/-- SEC_DOMAIN_SEL.DOMAIN (spec/15). -/ abbrev SEC_DOMAIN_SEL_DOMAIN : Fld := ⟨0x60098, 15, 0⟩
/-- SEC_DOMAIN_INFO.AUTH_FAILS (spec/15). -/ abbrev SEC_DOMAIN_INFO_AUTH_FAILS : Fld := ⟨0x600A0, 63, 32⟩
/-- SEC_DOMAIN_INFO.ALT (spec/15). -/ abbrev SEC_DOMAIN_INFO_ALT : Fld := ⟨0x600A0, 3, 3⟩
/-- SEC_DOMAIN_INFO.STATE (spec/15). -/ abbrev SEC_DOMAIN_INFO_STATE : Fld := ⟨0x600A0, 2, 0⟩
/-- SEC_MBX_CTRL.GO (spec/15). -/ abbrev SEC_MBX_CTRL_GO : Fld := ⟨0x60100, 63, 63⟩
/-- SEC_MBX_CTRL.BUSY (spec/15). -/ abbrev SEC_MBX_CTRL_BUSY : Fld := ⟨0x60100, 62, 62⟩
/-- SEC_MBX_CTRL.RESULT (spec/15). -/ abbrev SEC_MBX_CTRL_RESULT : Fld := ⟨0x60100, 61, 60⟩
/-- SEC_MBX_CTRL.TARGET (spec/15). -/ abbrev SEC_MBX_CTRL_TARGET : Fld := ⟨0x60100, 47, 32⟩
/-- SEC_MBX_CTRL.TX_LEN (spec/15). -/ abbrev SEC_MBX_CTRL_TX_LEN : Fld := ⟨0x60100, 27, 16⟩
/-- SEC_MBX_CTRL.RX_LEN (spec/15). -/ abbrev SEC_MBX_CTRL_RX_LEN : Fld := ⟨0x60100, 11, 0⟩
/-- LAN_CTRL.TX_PWR (spec/16). -/ abbrev LAN_CTRL_TX_PWR (i : Nat) : Fld := ⟨0x2000000 + i * 0x4000, 63, 62⟩
/-- LAN_CTRL.RX_PWR (spec/16). -/ abbrev LAN_CTRL_RX_PWR (i : Nat) : Fld := ⟨0x2000000 + i * 0x4000, 61, 60⟩
/-- LAN_CTRL.MEDIA (spec/16). -/ abbrev LAN_CTRL_MEDIA (i : Nat) : Fld := ⟨0x2000000 + i * 0x4000, 56, 56⟩
/-- LAN_CTRL.RATE (spec/16). -/ abbrev LAN_CTRL_RATE (i : Nat) : Fld := ⟨0x2000000 + i * 0x4000, 53, 52⟩
/-- LAN_CTRL.TRAIN_TIMEOUT (spec/16). -/ abbrev LAN_CTRL_TRAIN_TIMEOUT (i : Nat) : Fld := ⟨0x2000000 + i * 0x4000, 39, 32⟩
/-- LAN_CTRL.RETRAIN (spec/16). -/ abbrev LAN_CTRL_RETRAIN (i : Nat) : Fld := ⟨0x2000000 + i * 0x4000, 0, 0⟩
/-- LAN_EQ.DFE_EN (spec/16). -/ abbrev LAN_EQ_DFE_EN (i : Nat) : Fld := ⟨0x2000008 + i * 0x4000, 63, 63⟩
/-- LAN_EQ.CTLE_ADAPT (spec/16). -/ abbrev LAN_EQ_CTLE_ADAPT (i : Nat) : Fld := ⟨0x2000008 + i * 0x4000, 62, 62⟩
/-- LAN_EQ.PEAK (spec/16). -/ abbrev LAN_EQ_PEAK (i : Nat) : Fld := ⟨0x2000008 + i * 0x4000, 5, 0⟩
/-- LAN_DFE.TAP0 (spec/16). -/ abbrev LAN_DFE_TAP0 (i : Nat) (j : Nat) : Fld := ⟨0x2000010 + i * 0x4000 + j * 0x8, 7, 0⟩
/-- LAN_DFE.TAP1 (spec/16). -/ abbrev LAN_DFE_TAP1 (i : Nat) (j : Nat) : Fld := ⟨0x2000010 + i * 0x4000 + j * 0x8, 15, 8⟩
/-- LAN_DFE.TAP2 (spec/16). -/ abbrev LAN_DFE_TAP2 (i : Nat) (j : Nat) : Fld := ⟨0x2000010 + i * 0x4000 + j * 0x8, 23, 16⟩
/-- LAN_DFE.TAP3 (spec/16). -/ abbrev LAN_DFE_TAP3 (i : Nat) (j : Nat) : Fld := ⟨0x2000010 + i * 0x4000 + j * 0x8, 31, 24⟩
/-- LAN_DFE.TAP4 (spec/16). -/ abbrev LAN_DFE_TAP4 (i : Nat) (j : Nat) : Fld := ⟨0x2000010 + i * 0x4000 + j * 0x8, 39, 32⟩
/-- LAN_DFE.TAP5 (spec/16). -/ abbrev LAN_DFE_TAP5 (i : Nat) (j : Nat) : Fld := ⟨0x2000010 + i * 0x4000 + j * 0x8, 47, 40⟩
/-- LAN_FFE.POST3 (spec/16). -/ abbrev LAN_FFE_POST3 (i : Nat) : Fld := ⟨0x2000020 + i * 0x4000, 47, 40⟩
/-- LAN_FFE.POST2 (spec/16). -/ abbrev LAN_FFE_POST2 (i : Nat) : Fld := ⟨0x2000020 + i * 0x4000, 39, 32⟩
/-- LAN_FFE.POST1 (spec/16). -/ abbrev LAN_FFE_POST1 (i : Nat) : Fld := ⟨0x2000020 + i * 0x4000, 31, 24⟩
/-- LAN_FFE.MAIN (spec/16). -/ abbrev LAN_FFE_MAIN (i : Nat) : Fld := ⟨0x2000020 + i * 0x4000, 23, 16⟩
/-- LAN_FFE.PRE1 (spec/16). -/ abbrev LAN_FFE_PRE1 (i : Nat) : Fld := ⟨0x2000020 + i * 0x4000, 15, 8⟩
/-- LAN_FFE.PRE2 (spec/16). -/ abbrev LAN_FFE_PRE2 (i : Nat) : Fld := ⟨0x2000020 + i * 0x4000, 7, 0⟩
/-- LAN_FFE_NOW.POST3 (spec/16). -/ abbrev LAN_FFE_NOW_POST3 (i : Nat) : Fld := ⟨0x2000028 + i * 0x4000, 47, 40⟩
/-- LAN_FFE_NOW.POST2 (spec/16). -/ abbrev LAN_FFE_NOW_POST2 (i : Nat) : Fld := ⟨0x2000028 + i * 0x4000, 39, 32⟩
/-- LAN_FFE_NOW.POST1 (spec/16). -/ abbrev LAN_FFE_NOW_POST1 (i : Nat) : Fld := ⟨0x2000028 + i * 0x4000, 31, 24⟩
/-- LAN_FFE_NOW.MAIN (spec/16). -/ abbrev LAN_FFE_NOW_MAIN (i : Nat) : Fld := ⟨0x2000028 + i * 0x4000, 23, 16⟩
/-- LAN_FFE_NOW.PRE1 (spec/16). -/ abbrev LAN_FFE_NOW_PRE1 (i : Nat) : Fld := ⟨0x2000028 + i * 0x4000, 15, 8⟩
/-- LAN_FFE_NOW.PRE2 (spec/16). -/ abbrev LAN_FFE_NOW_PRE2 (i : Nat) : Fld := ⟨0x2000028 + i * 0x4000, 7, 0⟩
/-- LAN_DET.LOL_US (spec/16). -/ abbrev LAN_DET_LOL_US (i : Nat) : Fld := ⟨0x2000030 + i * 0x4000, 39, 32⟩
/-- LAN_DET.LOL_PPM10 (spec/16). -/ abbrev LAN_DET_LOL_PPM10 (i : Nat) : Fld := ⟨0x2000030 + i * 0x4000, 31, 24⟩
/-- LAN_DET.LOS_CLEAR_US (spec/16). -/ abbrev LAN_DET_LOS_CLEAR_US (i : Nat) : Fld := ⟨0x2000030 + i * 0x4000, 23, 16⟩
/-- LAN_DET.LOS_ASSERT_US (spec/16). -/ abbrev LAN_DET_LOS_ASSERT_US (i : Nat) : Fld := ⟨0x2000030 + i * 0x4000, 15, 8⟩
/-- LAN_DET.LOS_MV (spec/16). -/ abbrev LAN_DET_LOS_MV (i : Nat) : Fld := ⟨0x2000030 + i * 0x4000, 7, 0⟩
/-- LAN_STATUS.TRAIN_FAILS (spec/16). -/ abbrev LAN_STATUS_TRAIN_FAILS (i : Nat) : Fld := ⟨0x2000038 + i * 0x4000, 63, 48⟩
/-- LAN_STATUS.PEAK_NOW (spec/16). -/ abbrev LAN_STATUS_PEAK_NOW (i : Nat) : Fld := ⟨0x2000038 + i * 0x4000, 37, 32⟩
/-- LAN_STATUS.LOL_SEEN (spec/16). -/ abbrev LAN_STATUS_LOL_SEEN (i : Nat) : Fld := ⟨0x2000038 + i * 0x4000, 17, 17⟩
/-- LAN_STATUS.LOS_SEEN (spec/16). -/ abbrev LAN_STATUS_LOS_SEEN (i : Nat) : Fld := ⟨0x2000038 + i * 0x4000, 16, 16⟩
/-- LAN_STATUS.LOL (spec/16). -/ abbrev LAN_STATUS_LOL (i : Nat) : Fld := ⟨0x2000038 + i * 0x4000, 15, 15⟩
/-- LAN_STATUS.LOS (spec/16). -/ abbrev LAN_STATUS_LOS (i : Nat) : Fld := ⟨0x2000038 + i * 0x4000, 14, 14⟩
/-- LAN_STATUS.TX_STATE (spec/16). -/ abbrev LAN_STATUS_TX_STATE (i : Nat) : Fld := ⟨0x2000038 + i * 0x4000, 13, 12⟩
/-- LAN_STATUS.RX_STATE (spec/16). -/ abbrev LAN_STATUS_RX_STATE (i : Nat) : Fld := ⟨0x2000038 + i * 0x4000, 11, 10⟩
/-- LAN_STATUS.TRAIN_STEP (spec/16). -/ abbrev LAN_STATUS_TRAIN_STEP (i : Nat) : Fld := ⟨0x2000038 + i * 0x4000, 6, 4⟩
/-- LAN_STATUS.STATE (spec/16). -/ abbrev LAN_STATUS_STATE (i : Nat) : Fld := ⟨0x2000038 + i * 0x4000, 1, 0⟩
/-- LAN_FEC_COUNT.CORR_SYMBOLS (spec/16). -/ abbrev LAN_FEC_COUNT_CORR_SYMBOLS (i : Nat) : Fld := ⟨0x2000040 + i * 0x4000, 63, 32⟩
/-- LAN_FEC_COUNT.UNCORR_CW (spec/16). -/ abbrev LAN_FEC_COUNT_UNCORR_CW (i : Nat) : Fld := ⟨0x2000040 + i * 0x4000, 31, 0⟩
/-- MOD_CTRL.RATED_DEFAULT_H (spec/16). -/ abbrev MOD_CTRL_RATED_DEFAULT_H (i : Nat) : Fld := ⟨0x2400000 + i * 0x1000, 47, 24⟩
/-- MOD_CTRL.RESCAN (spec/16). -/ abbrev MOD_CTRL_RESCAN (i : Nat) : Fld := ⟨0x2400000 + i * 0x1000, 12, 12⟩
/-- MOD_CTRL.AUTH_EN (spec/16). -/ abbrev MOD_CTRL_AUTH_EN (i : Nat) : Fld := ⟨0x2400000 + i * 0x1000, 11, 11⟩
/-- MOD_CTRL.EOL_ACTION (spec/16). -/ abbrev MOD_CTRL_EOL_ACTION (i : Nat) : Fld := ⟨0x2400000 + i * 0x1000, 10, 9⟩
/-- MOD_CTRL.USE_UNVERIFIED (spec/16). -/ abbrev MOD_CTRL_USE_UNVERIFIED (i : Nat) : Fld := ⟨0x2400000 + i * 0x1000, 8, 8⟩
/-- MOD_CTRL.BUS (spec/16). -/ abbrev MOD_CTRL_BUS (i : Nat) : Fld := ⟨0x2400000 + i * 0x1000, 1, 0⟩
/-- MOD_STATUS.CMIS_REV (spec/16). -/ abbrev MOD_STATUS_CMIS_REV (i : Nat) : Fld := ⟨0x2400008 + i * 0x1000, 39, 32⟩
/-- MOD_STATUS.OUI (spec/16). -/ abbrev MOD_STATUS_OUI (i : Nat) : Fld := ⟨0x2400008 + i * 0x1000, 31, 8⟩
/-- MOD_STATUS.LEDGER_NEW (spec/16). -/ abbrev MOD_STATUS_LEDGER_NEW (i : Nat) : Fld := ⟨0x2400008 + i * 0x1000, 7, 7⟩
/-- MOD_STATUS.DERATED (spec/16). -/ abbrev MOD_STATUS_DERATED (i : Nat) : Fld := ⟨0x2400008 + i * 0x1000, 6, 6⟩
/-- MOD_STATUS.LIFE_END (spec/16). -/ abbrev MOD_STATUS_LIFE_END (i : Nat) : Fld := ⟨0x2400008 + i * 0x1000, 5, 5⟩
/-- MOD_STATUS.LIFE_WARN (spec/16). -/ abbrev MOD_STATUS_LIFE_WARN (i : Nat) : Fld := ⟨0x2400008 + i * 0x1000, 4, 4⟩
/-- MOD_STATUS.VERIFIED (spec/16). -/ abbrev MOD_STATUS_VERIFIED (i : Nat) : Fld := ⟨0x2400008 + i * 0x1000, 3, 3⟩
/-- MOD_STATUS.STATE (spec/16). -/ abbrev MOD_STATUS_STATE (i : Nat) : Fld := ⟨0x2400008 + i * 0x1000, 2, 0⟩
/-- MOD_STRING.ASCII (spec/16). -/ abbrev MOD_STRING_ASCII (i : Nat) (j : Nat) : Fld := ⟨0x2400010 + i * 0x1000 + j * 0x8, 63, 0⟩
/-- MOD_LIFE.RATED_H (spec/16). -/ abbrev MOD_LIFE_RATED_H (i : Nat) : Fld := ⟨0x2400030 + i * 0x1000, 55, 32⟩
/-- MOD_LIFE.WEAR (spec/16). -/ abbrev MOD_LIFE_WEAR (i : Nat) : Fld := ⟨0x2400030 + i * 0x1000, 31, 0⟩
/-- MOD_CMIS_CMD.GO (spec/16). -/ abbrev MOD_CMIS_CMD_GO (i : Nat) : Fld := ⟨0x2400038 + i * 0x1000, 63, 63⟩
/-- MOD_CMIS_CMD.BUSY (spec/16). -/ abbrev MOD_CMIS_CMD_BUSY (i : Nat) : Fld := ⟨0x2400038 + i * 0x1000, 62, 62⟩
/-- MOD_CMIS_CMD.WRITE (spec/16). -/ abbrev MOD_CMIS_CMD_WRITE (i : Nat) : Fld := ⟨0x2400038 + i * 0x1000, 61, 61⟩
/-- MOD_CMIS_CMD.RESULT (spec/16). -/ abbrev MOD_CMIS_CMD_RESULT (i : Nat) : Fld := ⟨0x2400038 + i * 0x1000, 58, 56⟩
/-- MOD_CMIS_CMD.LEN (spec/16). -/ abbrev MOD_CMIS_CMD_LEN (i : Nat) : Fld := ⟨0x2400038 + i * 0x1000, 39, 32⟩
/-- MOD_CMIS_CMD.BANK (spec/16). -/ abbrev MOD_CMIS_CMD_BANK (i : Nat) : Fld := ⟨0x2400038 + i * 0x1000, 31, 24⟩
/-- MOD_CMIS_CMD.PAGE (spec/16). -/ abbrev MOD_CMIS_CMD_PAGE (i : Nat) : Fld := ⟨0x2400038 + i * 0x1000, 23, 16⟩
/-- MOD_CMIS_CMD.ADDR (spec/16). -/ abbrev MOD_CMIS_CMD_ADDR (i : Nat) : Fld := ⟨0x2400038 + i * 0x1000, 7, 0⟩
/-- CPW_CTRL.EN (spec/17). -/ abbrev CPW_CTRL_EN (i : Nat) : Fld := ⟨0x80000 + i * 0x40, 63, 63⟩
/-- CPW_CTRL.PREFER (spec/17). -/ abbrev CPW_CTRL_PREFER (i : Nat) : Fld := ⟨0x80000 + i * 0x40, 62, 62⟩
/-- CPW_CTRL.A_EN (spec/17). -/ abbrev CPW_CTRL_A_EN (i : Nat) : Fld := ⟨0x80000 + i * 0x40, 61, 61⟩
/-- CPW_CTRL.B_EN (spec/17). -/ abbrev CPW_CTRL_B_EN (i : Nat) : Fld := ⟨0x80000 + i * 0x40, 60, 60⟩
/-- CPW_CFG.DEAD_US (spec/17). -/ abbrev CPW_CFG_DEAD_US (i : Nat) : Fld := ⟨0x80008 + i * 0x40, 47, 40⟩
/-- CPW_CFG.RAMP_MS (spec/17). -/ abbrev CPW_CFG_RAMP_MS (i : Nat) : Fld := ⟨0x80008 + i * 0x40, 39, 32⟩
/-- CPW_CFG.DVDT (spec/17). -/ abbrev CPW_CFG_DVDT (i : Nat) : Fld := ⟨0x80008 + i * 0x40, 20, 16⟩
/-- CPW_CFG.INSERT_MS (spec/17). -/ abbrev CPW_CFG_INSERT_MS (i : Nat) : Fld := ⟨0x80008 + i * 0x40, 9, 0⟩
/-- CPW_LIMIT.OC_US (spec/17). -/ abbrev CPW_LIMIT_OC_US (i : Nat) : Fld := ⟨0x80010 + i * 0x40, 47, 32⟩
/-- CPW_LIMIT.INRUSH (spec/17). -/ abbrev CPW_LIMIT_INRUSH (i : Nat) : Fld := ⟨0x80010 + i * 0x40, 15, 8⟩
/-- CPW_LIMIT.LIMIT (spec/17). -/ abbrev CPW_LIMIT_LIMIT (i : Nat) : Fld := ⟨0x80010 + i * 0x40, 7, 0⟩
/-- CPW_WINDOW.OV_MV (spec/17). -/ abbrev CPW_WINDOW_OV_MV (i : Nat) : Fld := ⟨0x80018 + i * 0x40, 31, 16⟩
/-- CPW_WINDOW.UV_MV (spec/17). -/ abbrev CPW_WINDOW_UV_MV (i : Nat) : Fld := ⟨0x80018 + i * 0x40, 15, 0⟩
/-- CPW_STATUS.WAIT_MS (spec/17). -/ abbrev CPW_STATUS_WAIT_MS (i : Nat) : Fld := ⟨0x80020 + i * 0x40, 47, 32⟩
/-- CPW_STATUS.RETRIES (spec/17). -/ abbrev CPW_STATUS_RETRIES (i : Nat) : Fld := ⟨0x80020 + i * 0x40, 31, 28⟩
/-- CPW_STATUS.CAUSE (spec/17). -/ abbrev CPW_STATUS_CAUSE (i : Nat) : Fld := ⟨0x80020 + i * 0x40, 26, 24⟩
/-- CPW_STATUS.PG (spec/17). -/ abbrev CPW_STATUS_PG (i : Nat) : Fld := ⟨0x80020 + i * 0x40, 11, 11⟩
/-- CPW_STATUS.PRESENT (spec/17). -/ abbrev CPW_STATUS_PRESENT (i : Nat) : Fld := ⟨0x80020 + i * 0x40, 10, 10⟩
/-- CPW_STATUS.B_GOOD (spec/17). -/ abbrev CPW_STATUS_B_GOOD (i : Nat) : Fld := ⟨0x80020 + i * 0x40, 9, 9⟩
/-- CPW_STATUS.A_GOOD (spec/17). -/ abbrev CPW_STATUS_A_GOOD (i : Nat) : Fld := ⟨0x80020 + i * 0x40, 8, 8⟩
/-- CPW_STATUS.FEED (spec/17). -/ abbrev CPW_STATUS_FEED (i : Nat) : Fld := ⟨0x80020 + i * 0x40, 5, 4⟩
/-- CPW_STATUS.STATE (spec/17). -/ abbrev CPW_STATUS_STATE (i : Nat) : Fld := ⟨0x80020 + i * 0x40, 2, 0⟩
/-- CPW_MEAS.V_B_MV (spec/17). -/ abbrev CPW_MEAS_V_B_MV (i : Nat) : Fld := ⟨0x80028 + i * 0x40, 63, 48⟩
/-- CPW_MEAS.V_A_MV (spec/17). -/ abbrev CPW_MEAS_V_A_MV (i : Nat) : Fld := ⟨0x80028 + i * 0x40, 47, 32⟩
/-- CPW_MEAS.V_OUT_MV (spec/17). -/ abbrev CPW_MEAS_V_OUT_MV (i : Nat) : Fld := ⟨0x80028 + i * 0x40, 31, 16⟩
/-- CPW_MEAS.I_MA (spec/17). -/ abbrev CPW_MEAS_I_MA (i : Nat) : Fld := ⟨0x80028 + i * 0x40, 15, 0⟩
/-- CPW_LAST_ON.LAST_ON_MS (spec/17). -/ abbrev CPW_LAST_ON_LAST_ON_MS (i : Nat) : Fld := ⟨0x80030 + i * 0x40, 31, 0⟩
/-- CPW_COUNT.TRIPS (spec/17). -/ abbrev CPW_COUNT_TRIPS (i : Nat) : Fld := ⟨0x80038 + i * 0x40, 63, 32⟩
/-- CPW_COUNT.SWAPS (spec/17). -/ abbrev CPW_COUNT_SWAPS (i : Nat) : Fld := ⟨0x80038 + i * 0x40, 31, 16⟩
/-- LCK_ACQ.BUSY (spec/18). -/ abbrev LCK_ACQ_BUSY (i : Nat) : Fld := ⟨0x40000 + i * 0x8, 31, 31⟩
/-- LCK_ACQ.ABANDONED (spec/18). -/ abbrev LCK_ACQ_ABANDONED (i : Nat) : Fld := ⟨0x40000 + i * 0x8, 30, 30⟩
/-- LCK_ACQ.RESV (spec/18). -/ abbrev LCK_ACQ_RESV (i : Nat) : Fld := ⟨0x40000 + i * 0x8, 29, 29⟩
/-- LCK_ACQ.OWNER (spec/18). -/ abbrev LCK_ACQ_OWNER (i : Nat) : Fld := ⟨0x40000 + i * 0x8, 15, 0⟩
/-- LCK_STATE.HELD (spec/18). -/ abbrev LCK_STATE_HELD (i : Nat) : Fld := ⟨0x40200 + i * 0x8, 63, 63⟩
/-- LCK_STATE.ABANDONED (spec/18). -/ abbrev LCK_STATE_ABANDONED (i : Nat) : Fld := ⟨0x40200 + i * 0x8, 62, 62⟩
/-- LCK_STATE.RESV (spec/18). -/ abbrev LCK_STATE_RESV (i : Nat) : Fld := ⟨0x40200 + i * 0x8, 61, 61⟩
/-- LCK_STATE.WAITING (spec/18). -/ abbrev LCK_STATE_WAITING (i : Nat) : Fld := ⟨0x40200 + i * 0x8, 60, 60⟩
/-- LCK_STATE.WAITPRI (spec/18). -/ abbrev LCK_STATE_WAITPRI (i : Nat) : Fld := ⟨0x40200 + i * 0x8, 59, 57⟩
/-- LCK_STATE.OWNPRI (spec/18). -/ abbrev LCK_STATE_OWNPRI (i : Nat) : Fld := ⟨0x40200 + i * 0x8, 56, 54⟩
/-- LCK_STATE.NOTIFIED (spec/18). -/ abbrev LCK_STATE_NOTIFIED (i : Nat) : Fld := ⟨0x40200 + i * 0x8, 53, 51⟩
/-- LCK_STATE.BOOST (spec/18). -/ abbrev LCK_STATE_BOOST (i : Nat) : Fld := ⟨0x40200 + i * 0x8, 50, 50⟩
/-- LCK_STATE.OWNER (spec/18). -/ abbrev LCK_STATE_OWNER (i : Nat) : Fld := ⟨0x40200 + i * 0x8, 47, 32⟩
/-- LCK_STATE.OWNER_WQ (spec/18). -/ abbrev LCK_STATE_OWNER_WQ (i : Nat) : Fld := ⟨0x40200 + i * 0x8, 31, 16⟩
/-- LCK_CAND.WQ (spec/18). -/ abbrev LCK_CAND_WQ (i : Nat) : Fld := ⟨0x40400 + i * 0x8, 31, 16⟩
/-- LCK_CAND.MASTER (spec/18). -/ abbrev LCK_CAND_MASTER (i : Nat) : Fld := ⟨0x40400 + i * 0x8, 15, 0⟩
/-- LCK_FORCE.GO (spec/18). -/ abbrev LCK_FORCE_GO : Fld := ⟨0x40600, 63, 63⟩
/-- LCK_FORCE.LOCK (spec/18). -/ abbrev LCK_FORCE_LOCK : Fld := ⟨0x40600, 5, 0⟩
/-- LCK_MPRIO.SB (spec/18). -/ abbrev LCK_MPRIO_SB : Fld := ⟨0x40608, 18, 16⟩
/-- LCK_MPRIO.PF0 (spec/18). -/ abbrev LCK_MPRIO_PF0 : Fld := ⟨0x40608, 2, 0⟩
/-- LCK_MPRIO.PF1 (spec/18). -/ abbrev LCK_MPRIO_PF1 : Fld := ⟨0x40608, 6, 4⟩
/-- LCK_MPRIO.PF2 (spec/18). -/ abbrev LCK_MPRIO_PF2 : Fld := ⟨0x40608, 10, 8⟩
/-- LCK_MPRIO.PF3 (spec/18). -/ abbrev LCK_MPRIO_PF3 : Fld := ⟨0x40608, 14, 12⟩
/-- LCK_NOTICE.PENDING (spec/18). -/ abbrev LCK_NOTICE_PENDING (i : Nat) : Fld := ⟨0x40610 + i * 0x8, 63, 0⟩
/-- LCK_COUNT.ABANDONS (spec/18). -/ abbrev LCK_COUNT_ABANDONS : Fld := ⟨0x40630, 63, 32⟩
/-- LCK_COUNT.REL_BAD (spec/18). -/ abbrev LCK_COUNT_REL_BAD : Fld := ⟨0x40630, 31, 0⟩
/-- TEL_CTRL.FREEZE (spec/19). -/ abbrev TEL_CTRL_FREEZE : Fld := ⟨0x50000, 63, 63⟩
/-- TEL_SNAP_CFG.EN (spec/19). -/ abbrev TEL_SNAP_CFG_EN : Fld := ⟨0x50008, 63, 63⟩
/-- TEL_SNAP_CFG.SECTIONS (spec/19). -/ abbrev TEL_SNAP_CFG_SECTIONS : Fld := ⟨0x50008, 59, 56⟩
/-- TEL_SNAP_CFG.DOM_BASE (spec/19). -/ abbrev TEL_SNAP_CFG_DOM_BASE : Fld := ⟨0x50008, 47, 32⟩
/-- TEL_SNAP_CFG.EVERY (spec/19). -/ abbrev TEL_SNAP_CFG_EVERY : Fld := ⟨0x50008, 15, 0⟩
/-- TEL_SNAP_STATUS.RING_FULL (spec/19). -/ abbrev TEL_SNAP_STATUS_RING_FULL : Fld := ⟨0x50010, 63, 32⟩
/-- TEL_SNAP_STATUS.FLITS (spec/19). -/ abbrev TEL_SNAP_STATUS_FLITS : Fld := ⟨0x50010, 17, 9⟩
/-- TEL_SNAP_STATUS.STATE (spec/19). -/ abbrev TEL_SNAP_STATUS_STATE : Fld := ⟨0x50010, 0, 0⟩
/-- TEL_RING_BASE.PORT (spec/19). -/ abbrev TEL_RING_BASE_PORT : Fld := ⟨0x50018, 57, 56⟩
/-- TEL_RING_BASE.BASE (spec/19). -/ abbrev TEL_RING_BASE_BASE : Fld := ⟨0x50018, 51, 12⟩
/-- TEL_RING_BASE.LOG2 (spec/19). -/ abbrev TEL_RING_BASE_LOG2 : Fld := ⟨0x50018, 3, 0⟩
/-- TEL_RING_IDX.CONSUMER (spec/19). -/ abbrev TEL_RING_IDX_CONSUMER : Fld := ⟨0x50020, 63, 32⟩
/-- TEL_RING_IDX.PRODUCER (spec/19). -/ abbrev TEL_RING_IDX_PRODUCER : Fld := ⟨0x50020, 31, 0⟩
/-- TEL_BW_CTRL.START (spec/19). -/ abbrev TEL_BW_CTRL_START : Fld := ⟨0x50028, 63, 63⟩
/-- TEL_BW_CTRL.BUSY (spec/19). -/ abbrev TEL_BW_CTRL_BUSY : Fld := ⟨0x50028, 62, 62⟩
/-- TEL_BW_CTRL.VALID (spec/19). -/ abbrev TEL_BW_CTRL_VALID : Fld := ⟨0x50028, 61, 61⟩
/-- TEL_BW_CTRL.DISTURBED (spec/19). -/ abbrev TEL_BW_CTRL_DISTURBED : Fld := ⟨0x50028, 60, 60⟩
/-- TEL_BW_CTRL.WINDOW (spec/19). -/ abbrev TEL_BW_CTRL_WINDOW : Fld := ⟨0x50028, 15, 0⟩
/-- TEL_BW_RESULT.TX_FLITS (spec/19). -/ abbrev TEL_BW_RESULT_TX_FLITS (i : Nat) : Fld := ⟨0x50100 + i * 0x8, 63, 32⟩
/-- TEL_BW_RESULT.RX_FLITS (spec/19). -/ abbrev TEL_BW_RESULT_RX_FLITS (i : Nat) : Fld := ⟨0x50100 + i * 0x8, 31, 0⟩
/-- TEL_CTR_CFG.EN (spec/19). -/ abbrev TEL_CTR_CFG_EN (i : Nat) : Fld := ⟨0x51000 + i * 0x8, 63, 63⟩
/-- TEL_CTR_CFG.ALL (spec/19). -/ abbrev TEL_CTR_CFG_ALL (i : Nat) : Fld := ⟨0x51000 + i * 0x8, 62, 62⟩
/-- TEL_CTR_CFG.DOM_EN (spec/19). -/ abbrev TEL_CTR_CFG_DOM_EN (i : Nat) : Fld := ⟨0x51000 + i * 0x8, 61, 61⟩
/-- TEL_CTR_CFG.DOMAIN (spec/19). -/ abbrev TEL_CTR_CFG_DOMAIN (i : Nat) : Fld := ⟨0x51000 + i * 0x8, 47, 32⟩
/-- TEL_CTR_CFG.EVENT (spec/19). -/ abbrev TEL_CTR_CFG_EVENT (i : Nat) : Fld := ⟨0x51000 + i * 0x8, 31, 16⟩
/-- TEL_CTR_CFG.INSTANCE (spec/19). -/ abbrev TEL_CTR_CFG_INSTANCE (i : Nat) : Fld := ⟨0x51000 + i * 0x8, 15, 0⟩
/-- TEL_CTR_VAL.VALUE (spec/19). -/ abbrev TEL_CTR_VAL_VALUE (i : Nat) : Fld := ⟨0x52000 + i * 0x8, 63, 0⟩
/-- FLT_STATUS.TOTAL (spec/20). -/ abbrev FLT_STATUS_TOTAL : Fld := ⟨0x30000, 63, 32⟩
/-- FLT_STATUS.ACTIVE (spec/20). -/ abbrev FLT_STATUS_ACTIVE : Fld := ⟨0x30000, 18, 16⟩
/-- FLT_STATUS.PENDING_MAX (spec/20). -/ abbrev FLT_STATUS_PENDING_MAX : Fld := ⟨0x30000, 14, 12⟩
/-- FLT_STATUS.ANY (spec/20). -/ abbrev FLT_STATUS_ANY : Fld := ⟨0x30000, 11, 11⟩
/-- FLT_STATUS.HALTED (spec/20). -/ abbrev FLT_STATUS_HALTED : Fld := ⟨0x30000, 10, 10⟩
/-- FLT_STATUS.SEAL_N_LOW (spec/20). -/ abbrev FLT_STATUS_SEAL_N_LOW : Fld := ⟨0x30000, 9, 9⟩
/-- FLT_STATUS.ERR_N_LOW (spec/20). -/ abbrev FLT_STATUS_ERR_N_LOW : Fld := ⟨0x30000, 8, 8⟩
/-- FLT_CTRL.FIRST_CLR (spec/20). -/ abbrev FLT_CTRL_FIRST_CLR : Fld := ⟨0x30008, 63, 63⟩
/-- FLT_CTRL.IRQ_PORTS (spec/20). -/ abbrev FLT_CTRL_IRQ_PORTS : Fld := ⟨0x30008, 15, 12⟩
/-- FLT_CTRL.FIRST_MIN (spec/20). -/ abbrev FLT_CTRL_FIRST_MIN : Fld := ⟨0x30008, 10, 8⟩
/-- FLT_ERRPIN_MIN.MIN (spec/20). -/ abbrev FLT_ERRPIN_MIN_MIN : Fld := ⟨0x30010, 2, 0⟩
/-- FLT_FORCE_SYN.SYNDROME (spec/20). -/ abbrev FLT_FORCE_SYN_SYNDROME : Fld := ⟨0x30018, 63, 0⟩
/-- FLT_PENDING.PENDING (spec/20). -/ abbrev FLT_PENDING_PENDING (i : Nat) : Fld := ⟨0x30100 + i * 0x8, 63, 0⟩
/-- FLT_SRC.FORCE (spec/20). -/ abbrev FLT_SRC_FORCE (i : Nat) : Fld := ⟨0x32000 + i * 0x8, 63, 63⟩
/-- FLT_SRC.IRQ_EN (spec/20). -/ abbrev FLT_SRC_IRQ_EN (i : Nat) : Fld := ⟨0x32000 + i * 0x8, 62, 62⟩
/-- FLT_SRC.HIST_EN (spec/20). -/ abbrev FLT_SRC_HIST_EN (i : Nat) : Fld := ⟨0x32000 + i * 0x8, 61, 61⟩
/-- FLT_SRC.CLASS (spec/20). -/ abbrev FLT_SRC_CLASS (i : Nat) : Fld := ⟨0x32000 + i * 0x8, 34, 32⟩
/-- FLT_SRC.COUNT (spec/20). -/ abbrev FLT_SRC_COUNT (i : Nat) : Fld := ⟨0x32000 + i * 0x8, 31, 0⟩
/-- DEV_MODE.ENTERED (spec/21). -/ abbrev DEV_MODE_ENTERED : Fld := ⟨0x10000, 63, 16⟩
/-- DEV_MODE.FWD_ONLY (spec/21). -/ abbrev DEV_MODE_FWD_ONLY : Fld := ⟨0x10000, 10, 10⟩
/-- DEV_MODE.DRAINED (spec/21). -/ abbrev DEV_MODE_DRAINED : Fld := ⟨0x10000, 9, 9⟩
/-- DEV_MODE.COMMITTED (spec/21). -/ abbrev DEV_MODE_COMMITTED : Fld := ⟨0x10000, 8, 8⟩
/-- DEV_MODE.RETURN (spec/21). -/ abbrev DEV_MODE_RETURN : Fld := ⟨0x10000, 6, 4⟩
/-- DEV_MODE.MODE (spec/21). -/ abbrev DEV_MODE_MODE : Fld := ⟨0x10000, 2, 0⟩
/-- DEV_MODE_REQ.GO (spec/21). -/ abbrev DEV_MODE_REQ_GO : Fld := ⟨0x10008, 63, 63⟩
/-- DEV_MODE_REQ.RESULT (spec/21). -/ abbrev DEV_MODE_REQ_RESULT : Fld := ⟨0x10008, 9, 8⟩
/-- DEV_MODE_REQ.TARGET (spec/21). -/ abbrev DEV_MODE_REQ_TARGET : Fld := ⟨0x10008, 2, 0⟩
/-- DEV_COMMIT.GO (spec/21). -/ abbrev DEV_COMMIT_GO : Fld := ⟨0x10010, 63, 63⟩
/-- DEV_COMMIT.RESULT (spec/21). -/ abbrev DEV_COMMIT_RESULT : Fld := ⟨0x10010, 3, 0⟩
/-- DEV_BRINGUP.HOSTS (spec/21). -/ abbrev DEV_BRINGUP_HOSTS : Fld := ⟨0x10018, 10, 7⟩
/-- DEV_BRINGUP.SYNC (spec/21). -/ abbrev DEV_BRINGUP_SYNC : Fld := ⟨0x10018, 6, 6⟩
/-- DEV_BRINGUP.IDENTITY (spec/21). -/ abbrev DEV_BRINGUP_IDENTITY : Fld := ⟨0x10018, 5, 5⟩
/-- DEV_BRINGUP.LANES (spec/21). -/ abbrev DEV_BRINGUP_LANES : Fld := ⟨0x10018, 4, 4⟩
/-- DEV_BRINGUP.SRAM (spec/21). -/ abbrev DEV_BRINGUP_SRAM : Fld := ⟨0x10018, 3, 3⟩
/-- DEV_BRINGUP.PLLS (spec/21). -/ abbrev DEV_BRINGUP_PLLS : Fld := ⟨0x10018, 2, 2⟩
/-- DEV_BRINGUP.FUSES (spec/21). -/ abbrev DEV_BRINGUP_FUSES : Fld := ⟨0x10018, 1, 1⟩
/-- DEV_BRINGUP.RAILS (spec/21). -/ abbrev DEV_BRINGUP_RAILS : Fld := ⟨0x10018, 0, 0⟩
/-- DEV_DRAIN_CTRL.LEFT (spec/21). -/ abbrev DEV_DRAIN_CTRL_LEFT : Fld := ⟨0x10020, 63, 48⟩
/-- DEV_DRAIN_CTRL.STAGES (spec/21). -/ abbrev DEV_DRAIN_CTRL_STAGES : Fld := ⟨0x10020, 15, 0⟩
/-- DEV_RESET.COLD (spec/21). -/ abbrev DEV_RESET_COLD : Fld := ⟨0x10028, 63, 63⟩
/-- DEV_RESET.CONFIRM (spec/21). -/ abbrev DEV_RESET_CONFIRM : Fld := ⟨0x10028, 47, 32⟩
/-- DEV_RESET.LAST (spec/21). -/ abbrev DEV_RESET_LAST : Fld := ⟨0x10028, 1, 0⟩
/-- DEV_PD_CTRL.HOST (spec/21). -/ abbrev DEV_PD_CTRL_HOST : Fld := ⟨0x10030, 6, 3⟩
/-- DEV_PD_CTRL.MAT (spec/21). -/ abbrev DEV_PD_CTRL_MAT : Fld := ⟨0x10030, 2, 2⟩
/-- DEV_PD_CTRL.COL (spec/21). -/ abbrev DEV_PD_CTRL_COL : Fld := ⟨0x10030, 1, 1⟩
/-- DEV_PD_CTRL.CORE (spec/21). -/ abbrev DEV_PD_CTRL_CORE : Fld := ⟨0x10030, 0, 0⟩
/-- DEV_PD_QUAD.GATE (spec/21). -/ abbrev DEV_PD_QUAD_GATE : Fld := ⟨0x10038, 63, 0⟩
/-- DEV_PD_STATUS.CORE_REJECT (spec/21). -/ abbrev DEV_PD_STATUS_CORE_REJECT : Fld := ⟨0x10040, 14, 14⟩
/-- DEV_PD_STATUS.HOST (spec/21). -/ abbrev DEV_PD_STATUS_HOST : Fld := ⟨0x10040, 13, 6⟩
/-- DEV_PD_STATUS.MAT (spec/21). -/ abbrev DEV_PD_STATUS_MAT : Fld := ⟨0x10040, 5, 4⟩
/-- DEV_PD_STATUS.COL (spec/21). -/ abbrev DEV_PD_STATUS_COL : Fld := ⟨0x10040, 3, 2⟩
/-- DEV_PD_STATUS.CORE (spec/21). -/ abbrev DEV_PD_STATUS_CORE : Fld := ⟨0x10040, 1, 0⟩
/-- DEV_PD_QUAD_STATUS.Q0 (spec/21). -/ abbrev DEV_PD_QUAD_STATUS_Q0 (i : Nat) : Fld := ⟨0x10048 + i * 0x8, 1, 0⟩
/-- DEV_PD_QUAD_STATUS.Q1 (spec/21). -/ abbrev DEV_PD_QUAD_STATUS_Q1 (i : Nat) : Fld := ⟨0x10048 + i * 0x8, 3, 2⟩
/-- DEV_PD_QUAD_STATUS.Q2 (spec/21). -/ abbrev DEV_PD_QUAD_STATUS_Q2 (i : Nat) : Fld := ⟨0x10048 + i * 0x8, 5, 4⟩
/-- DEV_PD_QUAD_STATUS.Q3 (spec/21). -/ abbrev DEV_PD_QUAD_STATUS_Q3 (i : Nat) : Fld := ⟨0x10048 + i * 0x8, 7, 6⟩
/-- DEV_PD_QUAD_STATUS.Q4 (spec/21). -/ abbrev DEV_PD_QUAD_STATUS_Q4 (i : Nat) : Fld := ⟨0x10048 + i * 0x8, 9, 8⟩
/-- DEV_PD_QUAD_STATUS.Q5 (spec/21). -/ abbrev DEV_PD_QUAD_STATUS_Q5 (i : Nat) : Fld := ⟨0x10048 + i * 0x8, 11, 10⟩
/-- DEV_PD_QUAD_STATUS.Q6 (spec/21). -/ abbrev DEV_PD_QUAD_STATUS_Q6 (i : Nat) : Fld := ⟨0x10048 + i * 0x8, 13, 12⟩
/-- DEV_PD_QUAD_STATUS.Q7 (spec/21). -/ abbrev DEV_PD_QUAD_STATUS_Q7 (i : Nat) : Fld := ⟨0x10048 + i * 0x8, 15, 14⟩
/-- DEV_PD_QUAD_STATUS.Q8 (spec/21). -/ abbrev DEV_PD_QUAD_STATUS_Q8 (i : Nat) : Fld := ⟨0x10048 + i * 0x8, 17, 16⟩
/-- DEV_PD_QUAD_STATUS.Q9 (spec/21). -/ abbrev DEV_PD_QUAD_STATUS_Q9 (i : Nat) : Fld := ⟨0x10048 + i * 0x8, 19, 18⟩
/-- DEV_PD_QUAD_STATUS.Q10 (spec/21). -/ abbrev DEV_PD_QUAD_STATUS_Q10 (i : Nat) : Fld := ⟨0x10048 + i * 0x8, 21, 20⟩
/-- DEV_PD_QUAD_STATUS.Q11 (spec/21). -/ abbrev DEV_PD_QUAD_STATUS_Q11 (i : Nat) : Fld := ⟨0x10048 + i * 0x8, 23, 22⟩
/-- DEV_PD_QUAD_STATUS.Q12 (spec/21). -/ abbrev DEV_PD_QUAD_STATUS_Q12 (i : Nat) : Fld := ⟨0x10048 + i * 0x8, 25, 24⟩
/-- DEV_PD_QUAD_STATUS.Q13 (spec/21). -/ abbrev DEV_PD_QUAD_STATUS_Q13 (i : Nat) : Fld := ⟨0x10048 + i * 0x8, 27, 26⟩
/-- DEV_PD_QUAD_STATUS.Q14 (spec/21). -/ abbrev DEV_PD_QUAD_STATUS_Q14 (i : Nat) : Fld := ⟨0x10048 + i * 0x8, 29, 28⟩
/-- DEV_PD_QUAD_STATUS.Q15 (spec/21). -/ abbrev DEV_PD_QUAD_STATUS_Q15 (i : Nat) : Fld := ⟨0x10048 + i * 0x8, 31, 30⟩
/-- DEV_PD_QUAD_STATUS.Q16 (spec/21). -/ abbrev DEV_PD_QUAD_STATUS_Q16 (i : Nat) : Fld := ⟨0x10048 + i * 0x8, 33, 32⟩
/-- DEV_PD_QUAD_STATUS.Q17 (spec/21). -/ abbrev DEV_PD_QUAD_STATUS_Q17 (i : Nat) : Fld := ⟨0x10048 + i * 0x8, 35, 34⟩
/-- DEV_PD_QUAD_STATUS.Q18 (spec/21). -/ abbrev DEV_PD_QUAD_STATUS_Q18 (i : Nat) : Fld := ⟨0x10048 + i * 0x8, 37, 36⟩
/-- DEV_PD_QUAD_STATUS.Q19 (spec/21). -/ abbrev DEV_PD_QUAD_STATUS_Q19 (i : Nat) : Fld := ⟨0x10048 + i * 0x8, 39, 38⟩
/-- DEV_PD_QUAD_STATUS.Q20 (spec/21). -/ abbrev DEV_PD_QUAD_STATUS_Q20 (i : Nat) : Fld := ⟨0x10048 + i * 0x8, 41, 40⟩
/-- DEV_PD_QUAD_STATUS.Q21 (spec/21). -/ abbrev DEV_PD_QUAD_STATUS_Q21 (i : Nat) : Fld := ⟨0x10048 + i * 0x8, 43, 42⟩
/-- DEV_PD_QUAD_STATUS.Q22 (spec/21). -/ abbrev DEV_PD_QUAD_STATUS_Q22 (i : Nat) : Fld := ⟨0x10048 + i * 0x8, 45, 44⟩
/-- DEV_PD_QUAD_STATUS.Q23 (spec/21). -/ abbrev DEV_PD_QUAD_STATUS_Q23 (i : Nat) : Fld := ⟨0x10048 + i * 0x8, 47, 46⟩
/-- DEV_PD_QUAD_STATUS.Q24 (spec/21). -/ abbrev DEV_PD_QUAD_STATUS_Q24 (i : Nat) : Fld := ⟨0x10048 + i * 0x8, 49, 48⟩
/-- DEV_PD_QUAD_STATUS.Q25 (spec/21). -/ abbrev DEV_PD_QUAD_STATUS_Q25 (i : Nat) : Fld := ⟨0x10048 + i * 0x8, 51, 50⟩
/-- DEV_PD_QUAD_STATUS.Q26 (spec/21). -/ abbrev DEV_PD_QUAD_STATUS_Q26 (i : Nat) : Fld := ⟨0x10048 + i * 0x8, 53, 52⟩
/-- DEV_PD_QUAD_STATUS.Q27 (spec/21). -/ abbrev DEV_PD_QUAD_STATUS_Q27 (i : Nat) : Fld := ⟨0x10048 + i * 0x8, 55, 54⟩
/-- DEV_PD_QUAD_STATUS.Q28 (spec/21). -/ abbrev DEV_PD_QUAD_STATUS_Q28 (i : Nat) : Fld := ⟨0x10048 + i * 0x8, 57, 56⟩
/-- DEV_PD_QUAD_STATUS.Q29 (spec/21). -/ abbrev DEV_PD_QUAD_STATUS_Q29 (i : Nat) : Fld := ⟨0x10048 + i * 0x8, 59, 58⟩
/-- DEV_PD_QUAD_STATUS.Q30 (spec/21). -/ abbrev DEV_PD_QUAD_STATUS_Q30 (i : Nat) : Fld := ⟨0x10048 + i * 0x8, 61, 60⟩
/-- DEV_PD_QUAD_STATUS.Q31 (spec/21). -/ abbrev DEV_PD_QUAD_STATUS_Q31 (i : Nat) : Fld := ⟨0x10048 + i * 0x8, 63, 62⟩
/-- DEV_PD_DRAIN.ABORTED (spec/21). -/ abbrev DEV_PD_DRAIN_ABORTED : Fld := ⟨0x10058, 63, 32⟩
/-- DEV_PD_DRAIN.STAGES (spec/21). -/ abbrev DEV_PD_DRAIN_STAGES : Fld := ⟨0x10058, 15, 0⟩
/-- DEV_AVS.RETRIES (spec/22). -/ abbrev DEV_AVS_RETRIES : Fld := ⟨0x10300, 63, 32⟩
/-- DEV_AVS.STATE (spec/22). -/ abbrev DEV_AVS_STATE : Fld := ⟨0x10300, 17, 16⟩
/-- DEV_AVS.TARGET_MV (spec/22). -/ abbrev DEV_AVS_TARGET_MV : Fld := ⟨0x10300, 15, 0⟩
/-- DEV_TEMP_CTRL.WARN (spec/22). -/ abbrev DEV_TEMP_CTRL_WARN : Fld := ⟨0x10308, 15, 0⟩
/-- DEV_MON.VALID (spec/22). -/ abbrev DEV_MON_VALID (i : Nat) : Fld := ⟨0x10400 + i * 0x8, 63, 63⟩
/-- DEV_MON.AGE_US (spec/22). -/ abbrev DEV_MON_AGE_US (i : Nat) : Fld := ⟨0x10400 + i * 0x8, 47, 16⟩
/-- DEV_MON.VALUE (spec/22). -/ abbrev DEV_MON_VALUE (i : Nat) : Fld := ⟨0x10400 + i * 0x8, 15, 0⟩
/-- DEV_AUTH_SEQ.SEQ (spec/02). -/ abbrev DEV_AUTH_SEQ_SEQ : Fld := ⟨0x10208, 63, 0⟩
/-- BLK_ACT_SRC.V (spec/10). -/ abbrev BLK_ACT_SRC_V (i : Nat) : Fld := ⟨0x581040 + i * 0x80, 63, 0⟩
/-- BLK_ACT_DST.V (spec/10). -/ abbrev BLK_ACT_DST_V (i : Nat) : Fld := ⟨0x581048 + i * 0x80, 63, 0⟩
/-- BLK_ACT_COUNT.V (spec/10). -/ abbrev BLK_ACT_COUNT_V (i : Nat) : Fld := ⟨0x581050 + i * 0x80, 63, 0⟩
/-- BLK_ACT_IDX.V (spec/10). -/ abbrev BLK_ACT_IDX_V (i : Nat) : Fld := ⟨0x581058 + i * 0x80, 63, 0⟩
/-- BLK_ACT_CTRL.V (spec/10). -/ abbrev BLK_ACT_CTRL_V (i : Nat) : Fld := ⟨0x581060 + i * 0x80, 63, 0⟩
/-- SEC_MBX_TX.HI (spec/15). -/ abbrev SEC_MBX_TX_HI (i : Nat) : Fld := ⟨0x61000 + i * 0x8, 63, 32⟩
/-- SEC_MBX_TX.LO (spec/15). -/ abbrev SEC_MBX_TX_LO (i : Nat) : Fld := ⟨0x61000 + i * 0x8, 31, 0⟩
/-- SEC_MBX_RX.HI (spec/15). -/ abbrev SEC_MBX_RX_HI (i : Nat) : Fld := ⟨0x62000 + i * 0x8, 63, 32⟩
/-- SEC_MBX_RX.LO (spec/15). -/ abbrev SEC_MBX_RX_LO (i : Nat) : Fld := ⟨0x62000 + i * 0x8, 31, 0⟩
/-- MOD_DATA.HI (spec/16). -/ abbrev MOD_DATA_HI (i : Nat) (j : Nat) : Fld := ⟨0x2400800 + i * 0x1000 + j * 0x8, 63, 32⟩
/-- MOD_DATA.LO (spec/16). -/ abbrev MOD_DATA_LO (i : Nat) (j : Nat) : Fld := ⟨0x2400800 + i * 0x1000 + j * 0x8, 31, 0⟩

end F

end Sys2Proof.Machine
end

