-- ==== Sys2Proof/Machine/Tab.lean ====
section
/-!
DEFINITION. Sparse tables in canonical form: keys strictly rising and no entry equal to what an unlisted key reads as, so that equal
tables are equal lists. Every per-object store of State is one; the register file is one over the reset word of each offset.
-/
namespace Sys2Proof

/-- Reads key `k`; an unlisted key reads as `d k`. -/
def Tab.lookD {α : Type} (d : Nat → α) : Tab α → Nat → α
  | [], k => d k
  | (j, a) :: t, k => if j = k then a else Tab.lookD d t k

/-- Removes key `k`. -/
def Tab.drop {α : Type} (t : Tab α) (k : Nat) : Tab α := t.filter fun e => e.1 != k

/-- Lists `v` under `k`, in rising order. -/
def Tab.ins {α : Type} : Tab α → Nat → α → Tab α
  | [], k, v => [(k, v)]
  | (j, a) :: t, k, v => if k < j then (k, v) :: (j, a) :: t else if k = j then (k, v) :: t else (j, a) :: Tab.ins t k v

/-- Writes key `k`: a value equal to what the unlisted key reads as removes the entry. -/
def Tab.putD {α : Type} [DecidableEq α] (d : Nat → α) (t : Tab α) (k : Nat) (v : α) : Tab α :=
  if v = d k then Tab.drop t k else Tab.ins t k v

/-- Canonical form: keys strictly rising, every entry differs from what its key reads as when unlisted. -/
def Tab.wfD {α : Type} [DecidableEq α] (d : Nat → α) : Tab α → Bool
  | [] => true
  | [(k, v)] => decide (v ≠ d k)
  | (k, v) :: (j, w) :: t => decide (v ≠ d k) && decide (k < j) && Tab.wfD d ((j, w) :: t)

section
variable {α : Type} [DecidableEq α] [Inhabited α]

/-- A table whose unlisted keys read as the default record. -/
def Tab.look (t : Tab α) (k : Nat) : α := Tab.lookD (fun _ => default) t k

/-- Writes one record. -/
def Tab.put (t : Tab α) (k : Nat) (v : α) : Tab α := Tab.putD (fun _ => default) t k v

/-- Changes one record. -/
def Tab.upd (t : Tab α) (k : Nat) (f : α → α) : Tab α := Tab.put t k (f (Tab.look t k))

/-- Forgets one record. -/
def Tab.del (t : Tab α) (k : Nat) : Tab α := Tab.put t k default

/-- Changes every listed record; records that become the default are unlisted. -/
def Tab.mapAll (t : Tab α) (f : α → α) : Tab α := (t.map fun e => (e.1, f e.2)).filter fun e => decide (e.2 ≠ default)

/-- Changes every listed record by its key. -/
def Tab.mapKeys (t : Tab α) (f : Nat → α → α) : Tab α := (t.map fun e => (e.1, f e.1 e.2)).filter fun e => decide (e.2 ≠ default)

/-- Canonical form over the default record. -/
def Tab.wf (t : Tab α) : Bool := Tab.wfD (fun _ => (default : α)) t

end

/-- The keys listed. -/
def Tab.keys {α : Type} (t : Tab α) : List Nat := t.map (·.1)

/-- The records listed. -/
def Tab.vals {α : Type} (t : Tab α) : List α := t.map (·.2)

/-- Keys of the listed records that satisfy `p`, in rising order. -/
def Tab.keysOf {α : Type} (t : Tab α) (p : α → Bool) : List Nat := (t.filter fun e => p e.2).map (·.1)

/-- How many listed records satisfy `p`. -/
def Tab.count {α : Type} (t : Tab α) (p : α → Bool) : Nat := (t.filter fun e => p e.2).length

/-- The least key from `lo` up to `hi` (exclusive) that is not listed. -/
def Tab.free {α : Type} (t : Tab α) (lo hi : Nat) : Option Nat :=
  (List.range (min (hi - lo) (t.length + 1))).findSome? fun i => if t.any (fun e => e.1 == lo + i) then none else some (lo + i)

end Sys2Proof
end

