-- ==== Sys2Proof/Machine/State.lean ====
section
/-!
DEFINITION. State: everything the spec gives the block, as plain data, the queue of waiting commands, and State.reset. The register file
holds every BAR0 register by offset; objects that many registers show (queues, runs, address spaces, tolls, locks ...) are records in
sparse tables, and their registers are views of them.
-/
namespace Sys2Proof.Machine

/-! ### Faults (spec/20) -/

/-- A fault history record (R519). -/
structure FltRec where
  stage : Nat
  frac : Nat
  source : Nat
  cls : Nat
  forced : Bool
  nested : Bool
  escalated : Bool
  stale : Bool
  mode : Nat
  count : Nat
  syn : Word
  seq : Nat
  valid : Bool
deriving DecidableEq, Repr, Inhabited

/-- The scope of a reaction (R511): an object of a class 1 source, a fenced instance, or the device. -/
inductive Scope where
  | none
  | object (src : Nat) (syn : Word) (port : Option Nat)
  | host (port : Nat)
  | block (src : Nat) (n : Nat)
  | device
deriving DecidableEq, Repr, Inhabited

/-! ### Host ports and functions (spec/02) -/

/-- TDISP states of a function (R446). -/
inductive Tdi where | unlocked | locked | run | error
deriving DecidableEq, Repr, Inhabited

/-- A host function: its configuration bits, its MSI-X table (the vectors unmasked, and the address and data of vector n at 2n and 2n + 1) and its trust
state. -/
structure HostFn where
  bme : Bool
  msixEn : Bool
  mse : Bool
  unmasked : List Nat
  msixTab : Tab Nat
  pend : List Nat
  dom : Option Nat
  tdi : Tdi
  stream : Option Nat
deriving DecidableEq, Repr, Inhabited

/-- A host port: link, SR-IOV state and the BAR ranges its functions decode. -/
structure HostPort where
  up : Bool
  numVf : Nat
  vfEn : Bool
  vfMse : Bool
  bars : List (Nat × Nat)
  refQualified : Bool
  fenced : Bool
deriving DecidableEq, Repr, Inhabited

/-! ### Runs (spec/04) -/

/-- Run states (R76). -/
inductive RunSt where | free | ready | running | blocked | waiting | parked | ending
deriving DecidableEq, Repr, Inhabited

/-- A run's program (R89, R119, R120). -/
inductive Prog where
  | inline (ws : List Word)
  | image (ptr words : Nat)
  | message (ws : List Word)
  | sideband
deriving DecidableEq, Repr, Inhabited

/-- A run's parameter block (R91, R119). -/
inductive Params where
  | none
  | host (ptr words : Nat)
  | msg (ws : List Word)
deriving DecidableEq, Repr, Inhabited

/-- What a BLOCKED run waits for (R76, R97, R126, R155). -/
inductive Block where
  | none
  | op (slot : Nat)
  | ld (rd : Nat)
  | room
  | slots
  | reg (r : Nat)
deriving DecidableEq, Repr, Inhabited

/-- A translation fault that a run has met and not yet parked for: ENGINE, CAUSE, LEVEL and ACCESS of R236, the address, the program counter. -/
structure RunFault where
  eng : Nat
  cause : Nat
  level : Nat
  acc : Nat
  va : Nat
  pc : Nat
deriving DecidableEq, Repr, Inhabited

/-- A live run and its context (R79 to R81, R101 to R103, R111 to R113). `image`: the context image at its last save (SEQ_RUN_VIEW). -/
structure Run where
  st : RunSt
  wq : Nat
  idx : Nat
  port : Nat
  fn : Nat
  pasid : Option Nat
  dom : Nat
  cluster : Nat
  resid : Nat
  readySeq : Nat
  preempt : Bool
  pc : Nat
  nextPc : Nat
  g : Tab Word
  rdPend : List (Nat × Nat)
  steps : Nat
  limit : Nat
  prog : Prog
  params : Params
  fragPtr : Nat
  fragCount : Nat
  frags : List (Nat × List Word)
  await : Option Nat
  desc : Option (List Word)
  block : Block
  waitOn : Option (Nat × Nat × Nat)
  endSt : Nat
  outside : Bool
  reported : Bool
  prev : RunSt
  prevBlock : Block
  faultPc : Nat
  faultVa : Nat
  parks : Nat
  faults : List RunFault
  parkedOps : List Nat
  deferred : List (Nat × Word)
  doneParked : Bool
  etag : Nat
  evmode : Nat
  ctrEn : Bool
  ctr : Nat
  opSeq : Nat
  image : List Word
deriving DecidableEq, Repr, Inhabited

/-! ### Operations (spec/05) -/

/-- The data side of an operation: target endpoint, key and offset, local addresses, lengths and elements, inline bytes, atomic operands. -/
structure Xfer where
  node : Nat
  func : Nat
  chan : Nat
  key : Word
  roff : Nat
  la : Nat
  dst : Nat
  total : Nat
  esize : Nat
  count : Nat
  itab : Nat
  mode : Nat
  inl : Option (List Byte)
  sub : Nat
  w32 : Bool
  fetch : Bool
  operand : Word
  cmp : Word
  ctx : Nat
  tag : Word
  frs : List (Nat × Nat)
  frs2 : List (Nat × Nat)
deriving DecidableEq, Repr, Inhabited

/-- Engines that carry operations (R97, R125). -/
inductive Engine where
  | none | bulk | coll | mat | lock | boundary | inval | event | ctr | fence
deriving DecidableEq, Repr, Inhabited

/-- An outstanding operation of a run. `fin`: final status, bytes and value for RD, recorded by its engine. -/
structure Op where
  live : Bool
  opcode : Nat
  opf : Nat
  pc : Nat
  nb : Bool
  sigl : Bool
  lctr : Nat
  sigr : Bool
  rctr : Nat
  tag : Nat
  rd : Option Nat
  fin : Option (Nat × Nat × Option Word)
  reporting : Bool
  noCtr : Bool
  seq : Nat
  eng : Engine
  x : Xfer
  idx : List Nat
  idxAsked : Nat
  asked : Nat
  inBytes : Nat
  acc : List Byte
  formed : Nat
  done : Nat
  acked : Nat
  allFormed : Bool
  failSt : Option Nat
  firstPsn : Nat
  respLeft : Nat
  got : List (Nat × Nat)
  arg : Nat
  due : Nat
  src : Nat × Nat
  matchTag : Word
  bound : Option Nat
  opid : Nat
  quota : Nat
deriving DecidableEq, Repr, Inhabited

/-! ### Queues, events, counters (spec/06) -/

/-- Work queue states (R189). -/
inductive WqSt where | free | stopped | running | stopping | error
deriving DecidableEq, Repr, Inhabited

/-- An entry whose completion a STOPPING queue still owes (R191). -/
structure Owed where
  idx : Nat
  ctx : Option Nat
  status : Nat
  pc : Nat
  etag : Nat
  event : Bool
  ctr : Option Nat
  ready : Bool
  posted : Bool
deriving DecidableEq, Repr, Inhabited

/-- A work queue: the cached configuration of R169, its indices, and what a stop leaves to do. -/
structure Wq where
  st : WqSt
  qcb : Nat
  pasid : Nat
  port : Nat
  fn : Nat
  base : Nat
  log2 : Nat
  own : Bool
  weight : Nat
  burst : Nat
  conc : Nat
  poll : Nat
  lockPrio : Nat
  eq : Nat
  eqEn : Bool
  c : Nat
  prod : Nat
  sched : Bool
  rang : Bool
  found : Option Word
  turn : Nat
  used : Nat
  took : Bool
  reading : Bool
  err : Nat
  owed : List Owed
  after : WqSt
  byCmd : Option Nat
  busLogged : Bool
  pollLeft : Nat
  boost : Bool
deriving DecidableEq, Repr, Inhabited

/-- Event queue states (QUE_EQ_STATUS.STATE). -/
inductive EqSt where | free | active | error
deriving DecidableEq, Repr, Inhabited

/-- What follows once an event is visible (R197, R199). -/
inductive EvCont where
  | none
  | op (key : Nat)
  | entry (ctx : Nat)
  | owed (wq : Nat)
deriving DecidableEq, Repr, Inhabited

/-- An event that fell due: its four words without PHASE, and what it releases (R195). -/
structure Ev where
  w0 : Word
  w1 : Word
  w2 : Word
  w3 : Word
  cont : EvCont
deriving DecidableEq, Repr, Inhabited

/-- An event queue (R198 to R202). -/
structure Evq where
  st : EqSt
  pasid : Nat
  port : Nat
  fn : Nat
  dom : Nat
  base : Nat
  log2 : Nat
  vector : Nat
  modCount : Nat
  modStages : Nat
  vfslot : Option Nat
  prod : Nat
  cons : Nat
  arm : Bool
  since : Nat
  sinceStages : Nat
  held : List Ev
  writing : Bool
  full : Bool
deriving DecidableEq, Repr, Inhabited

/-- A completion counter (R203). -/
structure Ctr where
  val : Word
  dom : Option Nat
deriving DecidableEq, Repr, Inhabited

/-! ### Address translation (spec/07) -/

/-- Address space states (R207). -/
inductive PasSt where | free | active | error
deriving DecidableEq, Repr, Inhabited

/-- An address space (R206 to R216, R234). `seen`: fault events written lately, as (page, ACCESS, stages left). -/
structure Pas where
  st : PasSt
  port : Nat
  fn : Nat
  root : Nat
  lv5 : Bool
  preset : Bool
  retryAfter : Nat
  faultEq : Nat
  dom : Option Nat
  seen : List (Nat × Nat × Nat)
deriving DecidableEq, Repr, Inhabited

/-- A TLB entry (R218): page number in units of 4 KiB, size code, frame, rights. -/
structure Tlbe where
  valid : Bool
  pasid : Nat
  page : Nat
  size : Nat
  frame : Nat
  rd : Bool
  wr : Bool
  dirty : Bool
  nospec : Bool
deriving DecidableEq, Repr, Inhabited

/-- Access kinds, with the ACCESS codes of R236. -/
inductive AccKind where | read | write | atomic | fetch
deriving DecidableEq, Repr, Inhabited

/-- Whose access it is: what its outcome reaches. -/
inductive Client where
  | none
  | prod (wq : Nat)
  | hdr (wq : Nat)
  | entry (wq : Nat)
  | qcbWr (wq : Nat)
  | eq (e : Nat)
  | fetch (ctx : Nat)
  | ld (ctx : Nat)
  | st (ctx : Nat)
  | desc (ctx : Nat)
  | frag (ctx va : Nat)
  | burst (ch bid : Nat)
  | place (pair : Nat)
  | spec (pair : Nat)
  | msg (pair : Nat)
  | spill (ctx : Nat)
  | pool (pair : Nat)
  | cvySink (convoy seq : Nat)
deriving DecidableEq, Repr, Inhabited

/-- Where an access stands. -/
inductive AccSt where
  | idle
  | needWalk
  | walking (w : Nat)
  | issued
deriving DecidableEq, Repr, Inhabited

/-- How an access ended (R231 to R233). -/
inductive AccRes where
  | ok (ws : List Word)
  | bytes (bs : List Byte)
  | busErr
  | xlate (cause level va : Nat)
  | refused
deriving DecidableEq, Repr, Inhabited

/-- A host-memory access under an address space: the pieces still to translate and the physical chunks translated so far. -/
structure Access where
  client : Client
  pasid : Nat
  dom : Nat
  kind : AccKind
  spec : Bool
  pieces : List (Nat × Nat)
  orig : List (Nat × Nat)
  chunks : List (Nat × Nat)
  wdata : List Byte
  st : AccSt
deriving DecidableEq, Repr, Inhabited

/-- A page-table walk (R212 to R217). `leaf`: the leaf read, while its CAS is in flight. -/
structure Walk where
  live : Bool
  pasid : Nat
  va : Nat
  kind : AccKind
  spec : Bool
  level : Nat
  table : Nat
  leaf : Option Word
  fails : Nat
  starter : Nat
deriving DecidableEq, Repr, Inhabited

/-- An invalidation in progress (R224, R225): accesses it waits for, and who asked; `cmd`: 0 a plain invalidation, 1 DESTROY, 2 SET_ROOT. -/
structure Inval where
  live : Bool
  waits : List Nat
  byOp : Option Nat
  bySet : Option Nat
  cmd : Nat
  pasid : Nat
deriving DecidableEq, Repr, Inhabited

/-! ### Bulk mover (spec/10) -/

/-- What a burst is for. -/
inductive BurstKind where
  | read
  | itab (first n : Nat)
  | copyRd (dst : Nat)
  | copyWr
  | placeResp (psn : Nat)
  | resend (pair psn : Nat)
  | pool (pair : Nat)
  | rfRd (dst : Nat)
  | rfWr
  | rfItab (first n : Nat)
  | collRd (seg : Nat)
  | collWr (seg : Nat)
  | readout
  | cvyRd (convoy seq : Nat)
deriving DecidableEq, Repr, Inhabited

/-- A burst: its operation, where its bytes lie in the operation, its local pieces, its data, and its state. -/
structure Burst where
  id : Nat
  op : Nat
  kind : BurstKind
  off : Nat
  len : Nat
  pieces : List (Nat × Nat)
  data : List Byte
  toll : Option Nat
  scav : Bool
  issued : Bool
  finished : Bool
  faulted : Option (Nat × Nat × Nat)
deriving DecidableEq, Repr, Inhabited

/-- A register-form set (R305). -/
structure RfSet where
  src : Nat
  dst : Nat
  count : Nat
  idx : Nat
  irqEn : Bool
  vector : Nat
  esize : Nat
  mode : Nat
  pasid : Nat
deriving DecidableEq, Repr, Inhabited

/-- Register-form activity (BLK_RF_STATUS.ACT_STATE). -/
inductive RfAct where | idle | busy | parked | halted
deriving DecidableEq, Repr, Inhabited

/-- A channel (R294 to R311). `jumped`: bursts that go ahead of those not yet issued. -/
structure Chan where
  ops : List Nat
  bursts : List Burst
  jumped : List Burst
  nextId : Nat
  parked : Bool
  parkOp : Nat
  deferred : Option Nat
  cmdIgnored : Nat
  act : RfAct
  set : RfSet
  armed : Bool
  handSeq : Nat
  lastSt : Nat
  bytes : Nat
  asked : Nat
  rfIdx : List Nat
  rfIdxAsked : Nat
deriving DecidableEq, Repr, Inhabited

/-! ### Tolls and injection queues (spec/14) -/

/-- A toll (R163, R414, R420) and a TOLLSET that waits for its boundary. -/
structure Toll where
  dom : Nat
  cls : Nat
  aware : Bool
  demote : Bool
  red : Nat
  en : Bool
  cir : Nat
  pir : Nat
  cbs : Nat
  pbs : Nat
  tc : Nat
  tp : Nat
  yellow : Nat
  reds : Nat
  next : Option (List Word)
deriving DecidableEq, Repr, Inhabited

/-- A unit waiting in the router or an injection queue: its VC class, the level it arrived on or leaves on, whether it was demoted (R417), the fabric port and VC whose
input buffer it occupies, the stage it was queued in, and its body. -/
structure RUnit where
  cls : Nat
  level : Nat
  scav : Bool
  home : Option (Nat × Nat)
  since : Nat
  body : UnitBody
deriving DecidableEq, Repr

/-- The injection queues of a domain and their DRR state (R421), latest samples and peaks (R425). -/
structure Inj where
  q : List RUnit
  scav : List RUnit
  deficit : Nat
  scavDeficit : Nat
deriving DecidableEq, Repr, Inhabited

/-- A queue sample (R425). -/
structure Samp where
  depth : Nat
  delay : Nat
  stage : Nat
  peakDepth : Nat
  peakDelay : Nat
deriving DecidableEq, Repr, Inhabited

/-! ### Pair channels (spec/13) -/

/-- A packet the source has formed and not yet seen acknowledged: its header fields, where its payload is read from, and its timers. -/
structure TxPkt where
  psn : Nat
  op : Nat
  dom : Nat
  pop : PktOp
  first : Bool
  last : Bool
  scatter : Bool
  len : Nat
  raddr : Word
  rkey : Word
  opid : Word
  rctr : Nat
  sigr : Bool
  pieces : List (Nat × Nat)
  inl : List Byte
  acked : Bool
  resends : Nat
  sentAt : Nat
  age : Nat
  retryIn : Option Nat
  afterAck : Bool
  reading : Bool
  loff : Nat
deriving DecidableEq, Repr, Inhabited

/-- A send record (R390 to R400). `syncPsn`: the SYNC in force, with its age and the stages since it was last sent. -/
structure PairTx where
  live : Bool
  port : Nat
  fn : Nat
  node : Nat
  func : Nat
  chan : Nat
  router : Nat
  nextPsn : Nat
  pkts : List TxPkt
  refusalsApplied : Nat
  refusalsSeen : Nat
  heldAge : Nat
  idle : Nat
  sync : Option (Nat × Nat × Nat)
  abandoned : Bool
deriving DecidableEq, Repr, Inhabited

/-- An unconfirmed refusal (R396). -/
structure Rfsl where
  num : Nat
  opid : Nat
  status : Nat
  firstPsn : Nat
  lastPsn : Nat
  sent : Bool
  age : Nat
  resends : Nat
deriving DecidableEq, Repr, Inhabited

/-- Where the packet at the expected PSN stands in its engine (R277 to R293, R252). -/
inductive TgtSt where
  | idle
  | key
  | place (acc : Nat)
  | readout (left : Nat)
  | lineWait (line pa : Nat)
  | line (line pa : Nat)
  | msg
deriving DecidableEq, Repr, Inhabited

/-- A receive record (R392 to R396). `cur`: the packet at the expected PSN being handled. -/
structure PairRx where
  live : Bool
  node : Nat
  func : Nat
  port : Nat
  fn : Nat
  chan : Nat
  dom : Nat
  router : Nat
  expected : Nat
  srcInc : Nat
  held : List Packet
  heldAge : Nat
  cur : Option Packet
  st : TgtSt
  keyVer : Option (Nat × Nat)
  refusals : List Rfsl
  refusing : Option Rfsl
  nextRef : Nat
  owedAcks : Nat
  idle : Nat
  curDup : Bool
  dups : List Packet
  taken : Nat
  gets : List (Nat × Nat × Nat)
deriving DecidableEq, Repr, Inhabited

/-- A cached region key (R273, R275). -/
structure KeyEnt where
  valid : Bool
  gen : Nat
  dom : Nat
  pasid : Nat
  rights : Nat
  base : Nat
  len : Nat
  epoch : Nat
  used : Nat
deriving DecidableEq, Repr, Inhabited

/-- Who waits for a key table read (R275). -/
inductive KeyWait where
  | pair (k : Nat)
  | op (k : Nat)
deriving DecidableEq, Repr, Inhabited

/-- A line lock (R290): the pair channels that hold it and wait for it, in order; the address, path and expected reply of the holder. -/
structure Line where
  q : List Nat
  granted : Bool
  pa : Nat
  atomicOp : Bool
deriving DecidableEq, Repr, Inhabited

/-- A kept AMOF result or AMO execution (R292), with the stages left. -/
structure AmoRes where
  pair : Nat
  psn : Nat
  old : Word
  left : Nat
  acked : Bool
deriving DecidableEq, Repr, Inhabited

/-! ### Tag matching (spec/08) -/

/-- Context states (R239). -/
inductive MctxSt where | free | enabled | error
deriving DecidableEq, Repr, Inhabited

/-- A posted receive (R146, R243): its operation, criteria and buffer. -/
structure Recv where
  op : Nat
  node : Nat
  func : Nat
  anyNode : Bool
  anyFunc : Bool
  tag : Word
  ignore : Word
  buf : Nat
  len : Nat
  seq : Nat
deriving DecidableEq, Repr, Inhabited

/-- An unexpected member (R243): an eager message in a pool slot, or a rendezvous request. -/
structure Unexp where
  rts : Bool
  node : Nat
  func : Nat
  chan : Nat
  tag : Word
  opid : Nat
  slot : Nat
  len : Nat
  rctr : Nat
  sigr : Bool
  pair : Nat
  msg : Option Nat
deriving DecidableEq, Repr, Inhabited

/-- A match context (R239 to R245, R256): its configuration and its two lists, each an on-chip prefix followed by the spilled part. -/
structure Mctx where
  st : MctxSt
  port : Nat
  fn : Nat
  pasid : Nat
  dom : Nat
  poolBase : Nat
  spillBase : Nat
  spec : Bool
  res : Nat
  spillLog2 : Nat
  poolLog2 : Nat
  slotLog2 : Nat
  posted : List Recv
  postedSpill : List (Option Recv)
  unexp : List Unexp
  unexpSpill : List (Option Unexp)
  pheads : Nat
  uheads : Nat
  slots : List Nat
  loading : Option Bool
  posts : Nat
deriving DecidableEq, Repr, Inhabited

/-- Where an eager message or a matched rendezvous stands. -/
inductive MsgSt where
  | waiting
  | speculating
  | placing
  | slotted
  | pooling
  | reading
  | refused
deriving DecidableEq, Repr, Inhabited

/-- A message under matching (R252, R260 to R264): keyed by its receive pair and first PSN. -/
structure Msg where
  live : Bool
  pair : Nat
  ctx : Nat
  dom : Nat
  node : Nat
  func : Nat
  chan : Nat
  tag : Word
  opid : Nat
  len : Nat
  rctr : Nat
  sigr : Bool
  firstPsn : Nat
  rts : Bool
  st : MsgSt
  walked : Bool
  recv : Option Recv
  predicted : Option Recv
  parts : List (Nat × List Byte)
  got : Nat
  placed : Nat
  slot : Nat
  begun : Bool
  specLeft : Nat
  retain : Nat
  retryIn : Nat
deriving DecidableEq, Repr, Inhabited

/-- A predictor entry (R259). -/
structure Pred where
  valid : Bool
  ctx : Nat
  node : Nat
  func : Nat
  tag : Word
  recv : Recv
deriving DecidableEq, Repr, Inhabited

/-! ### Domains (spec/15) -/

/-- Domain states (R435). -/
inductive DomSt where | inactive | active | keyed
deriving DecidableEq, Repr, Inhabited

/-- A tenant domain (R435, R436, R444): its keys and the counts its ledger record carries, by count number. -/
structure Dom where
  st : DomSt
  cur : Option Key
  alt : Option Key
  authFails : Nat
  acc : Tab Nat
  led : Tab Nat
deriving DecidableEq, Repr, Inhabited

/-- A response the target re-sends until it is acknowledged (R402): the last RGET_RESP of a FIN read, or an AMO_RESP. -/
structure RespTx where
  pair : Nat
  psn : Nat
  opid : Nat
  off : Nat
  len : Nat
  op : Nat
  age : Nat
  resends : Nat
deriving DecidableEq, Repr, Inhabited

/-! ### Fabric ports (spec/12, spec/13) -/

/-- A fabric port: units routed to it, its class DRR, its replay buffer, its credits as flits counted per VC since link-up, the router of the link's
LINIT, and the LSEQ of the first unit of the replay that has not yet succeeded (R352, R373 to R378, R423, R440). -/
structure FPort where
  oq : List RUnit
  deficit : List Nat
  cur : Nat
  sent : List Nat
  peerFreed : List Nat
  freed : List Nat
  replay : List LinkUnit
  nak : Bool
  nakSent : Bool
  replayFrom : Option Nat
  trained : Bool
  linitTx : Bool
  linitRx : Bool
  peerRouter : Nat
  mark : Option Nat
deriving DecidableEq, Repr, Inhabited

/-! ### Collectives (spec/11) -/

/-- A packet of an edge stream that is not yet acknowledged (R320, R410). -/
structure CTx where
  psn : Nat
  pkt : Packet
  age : Nat
  resends : Nat
  nacked : Bool
deriving DecidableEq, Repr, Inhabited

/-- An edge of a group: the streams in both directions and the credits held (R315, R320, R321). -/
structure CEdge where
  port : Nat
  up : Bool
  txPsn : Nat
  tx : List CTx
  credit : Nat
  rxExp : Nat
  held : List Packet
  heldAge : Nat
  granted : Bool
deriving DecidableEq, Repr, Inhabited

/-- A local member (R316). `placed`: segments of its outstanding operation delivered; `given`: segments it has contributed. -/
structure CMem where
  port : Nat
  fn : Nat
  joined : Bool
  seq : Nat
  op : Option Nat
  given : Nat
  placed : Nat
deriving DecidableEq, Repr, Inhabited

/-- The inputs of one segment position, by child index (R322). -/
structure CSlot where
  seq : Nat
  seg : Nat
  ins : List (Nat × Packet)
deriving DecidableEq, Repr, Inhabited

/-- A down buffer: its packet, the child ports it has still to be sent to, and the members it has still to be delivered to (R321, R327). -/
structure CDown where
  pkt : Packet
  ports : List Nat
  mems : List Nat
deriving DecidableEq, Repr, Inhabited

/-- A collective group (R312 to R314). -/
structure Cgrp where
  st : Nat
  dom : Nat
  parent : Nat
  root : Bool
  children : List Nat
  mems : List CMem
  edges : List CEdge
  bufSegs : Nat
  units : Nat
  cause : Nat
  remote : Bool
  hiSeq : Nat
  upSeq : Nat
  upSeg : Nat
  slots : List CSlot
  downs : List CDown
  stall : Nat
  moved : Bool
  destroyOp : Option Nat
deriving DecidableEq, Repr, Inhabited

/-! ### Convoys (spec/12) -/

/-- A frame the source has sent and not yet seen acknowledged (R367); its tag is held as the bytes first encrypted (R442), `ord` its place in the order of sends. -/
structure CvyTx where
  seq : Nat
  sentAt : Nat
  resends : Nat
  due : Bool
  tag : List Byte
  ord : Nat
deriving DecidableEq, Repr, Inhabited

/-- A convoy record (R359 to R370). `got`: source bytes read, by offset; `buf`: frames in the slot buffer; `seen`: frames written above CUM;
`forwarded`: frames a transit has forwarded, or the source's sends so far. -/
structure Cvy where
  st : Nat
  role : Nat
  inPort : Nat
  outPort : Nat
  dom : Nat
  start : Nat
  slots : Nat
  va : Nat
  len : Nat
  pasid : Nat
  cause : Nat
  n : Nat
  cum : Nat
  seen : List Nat
  pend : List Nat
  buf : List Frame
  chan : Option Nat
  asked : Nat
  got : List (Nat × List Byte)
  nextSeq : Nat
  tx : List CvyTx
  teardown : Option Nat
  left : Nat
  srcInc : Nat
  srcRouter : Nat
  retryIn : Nat
  forwarded : Nat
deriving DecidableEq, Repr, Inhabited
/-! ### Time sync and meters (spec/03) -/

/-- What the device knows of its parent (R52 to R56): the last exchange's offset in 1/16 ns, whether it has been applied, runs of good and bad exchanges, stages without a
frame, and the stage, timestamp and period code of the parent's last frame. -/
structure SyncSt where
  off : Int
  fresh : Bool
  good : Nat
  badOff : Nat
  badCode : Nat
  missed : Nat
  pStage : Nat
  pTx : Nat
  pCode : Nat
deriving DecidableEq, Repr, Inhabited


/-! ### Hardware locks (spec/18) -/

/-- A lock owner: master ID and WQ (R486). -/
structure Owner where
  master : Nat
  wq : Nat
deriving DecidableEq, Repr, Inhabited

/-- A hardware lock (R488 to R495). `run`: the context whose LOCK acquired it (R106); `resvLeft`: boundaries until a reservation ends;
`waiters`: blocked LOCK operations in arrival order (R155). -/
structure HLock where
  owner : Option Owner
  run : Option Nat
  aband : Bool
  resv : Option Owner
  resvLeft : Nat
  waiting : Bool
  waitPri : Nat
  cand : Owner
  notified : Nat
  boost : Bool
  waiters : List Nat
deriving DecidableEq, Repr, Inhabited

/-! ### Trust (spec/15) -/

/-- An SPDM session (R429): its transport (0 to 3 host port, 4 sideband, 5 fabric), and whether FINISH has completed. -/
structure Sess where
  live : Bool
  via : Nat
  ready : Bool
deriving DecidableEq, Repr, Inhabited

/-- Selective IDE stream states, with the key set in use (R445): K1 or K0. -/
inductive Ide where
  | none
  | secure (k1 : Bool)
  | insecure
deriving DecidableEq, Repr, Inhabited

/-! ### Lanes, modules and cages (spec/16, spec/17) -/

/-- What a port's training remembers (R457, R462, R463): equaliser values are kept, and no attempt has failed since the last success. -/
structure Train where
  kept : Bool
  ok : Bool
deriving DecidableEq, Repr, Inhabited

/-- What the device holds of a module beside its registers (R469 to R472): the ledger's COUNT and FLAGS, powered minutes since the last write,
a write that is due or is tried again, the RATE codes its applications match, its rated life, and the LIFE crossings raised in this powered period. -/
structure Modl where
  ident : Bool
  count : Nat
  flags : Nat
  minutes : Nat
  writeDue : Bool
  again : Bool
  apps : List Nat
  rated : Nat
  raised : Nat
deriving DecidableEq, Repr, Inhabited

/-- What the supervisor holds of a cage beside its registers (R478 to R484): the latch, whether the running delay follows a retry wait, and the
feed selected when the delay began or toward which a swap goes (0 none, 1 A, 2 B). -/
structure Cage where
  latched : Bool
  retry : Bool
  feed : Nat
deriving DecidableEq, Repr, Inhabited

/-! ### Reset (spec/21) -/

/-- What holds the device in Reset (R541), or its always-on supply is lost (R545). -/
inductive Hold where | none | resetN | wedge | gated | off
deriving DecidableEq, Repr, Inhabited

/-- A snapshot captured and not yet written (R502). -/
structure Snap where
  stage : Nat
  sections : Nat
  domBase : Nat
  period : Nat
  words : List Word
deriving DecidableEq, Repr, Inhabited


/-! ### Outputs, deferred happenings, and State -/

/-- What the block puts out: the model's own record, newest first (notes/assumptions/3). -/
inductive Out where
  | regData (o : Origin) (off : Nat) (v : Word)
  | msix (port fn vec : Nat)
  | hostRead (id port fn : Nat) (chunks : List (Nat × Nat))
  | hostWrite (port fn : Nat) (chunks : List (Nat × Nat)) (bs : List Byte)
  | hostAtomic (id port fn pa sub size : Nat) (operand cmp : Word)
  | linkUnit (port : Nat) (u : LinkUnit)
  | frame (port : Nat) (f : Frame)
  | lcf (port : Nat) (l : Lcf)
  | gossip (port : Nat) (g : Gossip)
  | timeSync (port : Nat) (u : TimeSync)
  | linit (port : Nat) (l : Linit)
  | ejected (p : Packet)
  | ctlIn (c : Ctl)
  | mgmtIn (m : Mgmt)
  | collIn (port : Nat) (p : Packet)
  | spdm (t : Transport) (code : Nat) (body : List Byte)
  | cmis (cage : Nat) (write : Bool) (page addr : Nat) (data : List Byte)
  | avs (rail mv : Nat)
  | pin (name : String) (level : Bool)
deriving DecidableEq, Repr

/-- Happenings inside a command that later rules of the same command act on (Machine/Settle.lean). -/
inductive Work where
  | acc (id : Nat) (r : AccRes)
  | evSeen (c : EvCont)
  | eqPump (e : Nat)
  | wqPump (q : Nat)
  | room (e : Engine)
  | form (ch : Nat)
  | pairNext (k : Nat)
  | msgStale (k : Nat)
  | pairResend (k : Nat)
  | opCut (k : Nat)
  | readoutDone (pair : Nat) (fault : Option (Nat × Nat × Nat)) (bus : Bool)
  | collData (k : Nat)
  | cvyData (convoy off : Nat) (bs : List Byte)
  | collBurst (k seg : Nat) (ok : Bool)
  | pooled (k : Nat) (ok : Bool)
  | invalCheck
  | runEnded (ctx : Nat)
  | wqReset (q : Nat)
deriving DecidableEq, Repr

/-- Why a step stops. -/
inductive Fault where
  /-- Raised by a meaning whose operand names an instance the device does not have (a WQ at or above 65,536, a lane at or above 256, a cage at
  or above 32 ...): no such command can reach the device. Safe. -/
  | noSuchInstance
deriving DecidableEq, Repr

/-- Why a step is refused. -/
inductive Refusal where
  /-- Raised by exec's arm of a command that has no meaning yet. Safe. -/
  | notModelled (mnemonic : String)
deriving DecidableEq, Repr

/-- The block's whole state. -/
structure State where
  /-- BAR0 registers by offset (R3): a listed value replaces the reset word of Machine/RegMap.lean -/
  regs : Tab Word
  /-- Stage-latched values that wait for boundary task 2, by offset (R9) -/
  spend : Tab Word
  /-- Which bits of each waiting word were written (R9, R45) -/
  smask : Tab Word
  /-- Fault history slots 0 to 31 (R520) -/
  hist : Tab FltRec
  /-- FLT_FIRST (R513) -/
  first : FltRec
  /-- Reactions under way, as class and scope (R514) -/
  active : List (Nat × Scope)
  /-- Sources that have sent a vector 1 message in this stage (R518) -/
  fltIrq : List Nat
  /-- Sources with further occurrences in this stage, whose message waits for the next boundary (R518) -/
  fltDefer : List Nat
  /-- Host functions by port × 129 + function (R30) -/
  fns : Tab HostFn
  /-- Host ports (R27) -/
  ports : Tab HostPort
  /-- Contexts 0 to 8,191, and 8,192 for the sideband run (R73, R120) -/
  runs : Tab Run
  /-- Generation of each context (R117) -/
  gens : Tab Nat
  /-- The model's own order of becoming READY (R78) -/
  readyCtr : Nat
  /-- Program cache lines: PASID, virtual address, eight words (R94) -/
  pcache : List (Nat × Nat × List Word)
  /-- Fenced clusters (R108) -/
  fenced : List Nat
  /-- Outstanding operations by context × 64 + slot (R97) -/
  ops : Tab Op
  /-- Work queues (R189) -/
  wqs : Tab Wq
  /-- Event queues (R198) -/
  eqs : Tab Evq
  /-- Completion counters (R203) -/
  ctrs : Tab Ctr
  /-- Address spaces (R206) -/
  pas : Tab Pas
  /-- TLB entries 0 to 4,095 (R218) -/
  tlb : Tab Tlbe
  /-- Walks in flight by request number (R213) -/
  walks : Tab Walk
  /-- Accesses in flight by request number (R222) -/
  accs : Tab Access
  /-- Invalidations in progress (R225) -/
  invals : Tab Inval
  /-- The model's own next request number -/
  nextId : Nat
  /-- Bulk mover channels 0 to 127, and 128 for the target's responder (R294, R300) -/
  chans : Tab Chan
  /-- Displaced operations that hold no channel, in binding order (R303) -/
  unbound : List Nat
  /-- Tolls (R413) -/
  tolls : Tab Toll
  /-- Injection queues by domain (R421) -/
  inj : Tab Inj
  /-- Latest samples by queue number (R425) -/
  samp : Tab Samp
  /-- Send records by pair channel (R390) -/
  ptx : Tab PairTx
  /-- Receive records by pair channel (R392) -/
  prx : Tab PairRx
  /-- Recorded incarnation of each router (R406) -/
  peerInc : Tab Nat
  /-- Region key cache by INDEX (R275) -/
  kcache : Tab KeyEnt
  /-- Order of key cache use (R275) -/
  kuse : Nat
  /-- Key table reads awaited, by INDEX (R275) -/
  kwait : List (Nat × KeyWait)
  /-- Line locks (R290) -/
  lines : Tab Line
  /-- Atomic result store by pair and PSN number (R292) -/
  amoRes : Tab AmoRes
  /-- Match contexts (R239) -/
  mctx : Tab Mctx
  /-- Messages under matching (R252) -/
  msgs : Tab Msg
  /-- Match predictor (R259) -/
  preds : Tab Pred
  /-- The key secret (R271) -/
  secret : Key
  /-- The model's own count of free values drawn -/
  freeCtr : Nat
  /-- The model's own record of outputs, newest first -/
  outs : List Out
  /-- The model's own deferred happenings of the command in progress -/
  work : List Work
  /-- The model's own queue of waiting commands, first in first out -/
  pending : List Instr
  /-- Endpoint table entries (R336) -/
  eps : Tab Nat
  /-- Route table entries by bank × 65,536 + router (R339) -/
  routes : Tab Word
  /-- Domains (R435) -/
  doms : Tab Dom
  /-- Responses awaiting an acknowledgement on CHAN RESP (R402) -/
  resps : List RespTx
  /-- Units held at each router input: fabric ports 0 to 63, and 64 for the device's own (R343) -/
  rin : Tab (List RUnit)
  /-- The device sends no packet of its own yet (R408) -/
  quiet : Bool
  /-- Stages left of R408 once the first boundary has occurred -/
  quietLeft : Nat
  /-- A stage boundary has occurred since reset (R408) -/
  firstBnd : Bool
  /-- CTL packets sent in this stage: pair, KIND, PSN (R442) -/
  ctlSent : List (Nat × Nat × Nat)
  /-- CTL packets that wait for the next boundary (R442) -/
  ctlWait : List Ctl
  /-- Fabric ports (R339 to R352, R371 to R378) -/
  fports : Tab FPort
  /-- The LFSR of the choice of an intermediate router (R345) -/
  vlfsr : Nat
  /-- The route bank copy under way: entries copied so far, and the RTSET COPY that makes it (R340) -/
  bankCopy : Option (Nat × Option Nat)
  /-- RTSET COPY operations that wait for a copy to end, in order (R340) -/
  copyQ : List Nat
  /-- Collective groups (R314) -/
  grps : Tab Cgrp
  /-- Convoy records (R359) -/
  cvys : Tab Cvy
  /-- Since-reset counts of port p at 4p: TX_FLITS, RX_FLITS, REPLAYS, UNCORR_CW (R505) -/
  portCnt : Tab Nat
  /-- Runs that wait for room in an engine, with the room they wait for, in the order in which they blocked (R97) -/
  roomQ : List (Nat × Nat)
  /-- The parent's exchanges (R52 to R56) -/
  sync : SyncSt
  /-- Transmit times of the last 16 time sync units on each port, newest first: the first timestamps of round trips not yet ended (R52) -/
  syncTx : Tab (List Nat)
  /-- Arrival time of the last time sync unit on each port (R52) -/
  syncRx : Tab Nat
  /-- The timebase at the last boundary, in 1/16 ns (R50, R380) -/
  tb : Nat
  /-- Boundaries the frequency meter has still to count, its first included (R72) -/
  fmLeft : Option Nat
  /-- Boundaries the bandwidth meter has still to count, its first included (R509) -/
  bwLeft : Option Nat
  /-- Port counts at the start of the meter's window (R509) -/
  bwBase : Tab Nat
  /-- CLKOUT pins held low after a change (R71) -/
  clkHold : List Nat
  /-- Hardware locks 0 to 63 (R486) -/
  locks : Tab HLock
  /-- SPDM sessions 1 to 32 (R429) -/
  sess : Tab Sess
  /-- Selective IDE streams by port × 256 + stream (R445) -/
  ide : Tab Ide
  /-- The registered fabric manager key, twelve words, or none (R40) -/
  fmKey : List Word
  /-- Tag of the mailbox request that awaits its response, and the tag last used (R434) -/
  mbxTag : Nat
  /-- Stages until the mailbox request times out (R434) -/
  mbxLeft : Nat
  /-- First stage of the earliest unwritten billing period (R451) -/
  ledStart : Nat
  /-- The next records cover more than one period (R451) -/
  ledMerged : Bool
  /-- A billing period closed at this boundary and awaits its records (R449) -/
  ledDue : Option Nat
  /-- RSEQ of the next ledger record (R450) -/
  ledSeq : Nat
  /-- Domains active at some time since the last written period, ascending (R449) -/
  ledDoms : List Nat
  /-- Training history of the fabric ports (R463) -/
  train : Tab Train
  /-- Modules by cage (R469) -/
  mods : Tab Modl
  /-- Software transactions of each module controller by cage, in arrival order (R464) -/
  cmisQ : Tab (List Nat)
  /-- Cages (R477) -/
  cages : Tab Cage
  /-- The snapshot captured by the last boundary (R502) -/
  snap : Option Snap
  /-- Records written since TEL_SNAP_CFG.EN was last set (R504) -/
  snapSeq : Nat
  /-- Snapshots due and not written since the previous record (R507) -/
  snapSkip : Nat
  /-- One of them was abandoned (R507) -/
  snapOver : Bool
  /-- Mode requested for the next boundary (R528) -/
  modeReq : Option Nat
  /-- A commit waits for the next boundary (R530) -/
  commitReq : Bool
  /-- The return from Degraded waits for the next boundary (R527) -/
  retDue : Bool
  /-- Boundaries left of each power domain's drain, plus one, by domain number (R536) -/
  pdLeft : Tab Nat
  /-- Power domains whose drain has timed out and which power off once the completions it caused are written (R536) -/
  pdOver : List Nat
  /-- What holds the device in Reset (R541) -/
  hold : Hold
  /-- Rails whose last comparison was outside their range (R546) -/
  railBad : List Nat
  /-- What task 1 lengthens the coming stage by, in 1/16 ns (R55) -/
  slew : Int
  /-- The last stage the fabric die reported before it was held (R519) -/
  stageSeen : Nat
  /-- Passes of the current stage, by task number, that the next boundary abandons (R60) -/
  overruns : List Nat
deriving DecidableEq, Repr

/-- The machine right after power-on reset as R529 and R542 leave it before any bring-up step: every register at its reset value, every store
empty, sync FREE, stage 0. The drawn values stand at values the model names (notes/assumptions/4). -/
def State.reset : State :=
  { regs := [(0x700008, 1)],
    spend := [],
    smask := [],
    hist := [],
    first := default,
    active := [],
    fltIrq := [],
    fltDefer := [],
    fns := [],
    ports := [],
    runs := [],
    gens := [],
    readyCtr := 0,
    pcache := [],
    fenced := [],
    ops := [],
    wqs := [],
    eqs := [],
    ctrs := [],
    pas := [],
    tlb := [],
    walks := [],
    accs := [],
    invals := [],
    nextId := 1,
    chans := [],
    unbound := [],
    tolls := [],
    inj := [],
    samp := [],
    ptx := [],
    prx := [],
    peerInc := [],
    kcache := [],
    kuse := 0,
    kwait := [],
    lines := [],
    amoRes := [],
    mctx := [],
    msgs := [],
    preds := [],
    secret := 0,
    freeCtr := 0,
    outs := [],
    work := [],
    pending := [],
    eps := [],
    routes := [],
    doms := [],
    resps := [],
    rin := [],
    quiet := true,
    quietLeft := 256,
    firstBnd := false,
    ctlSent := [],
    ctlWait := [],
    fports := [],
    vlfsr := 44257,
    bankCopy := none,
    copyQ := [],
    grps := [],
    cvys := [],
    portCnt := [],
    roomQ := [],
    sync := default,
    syncTx := [],
    syncRx := [],
    tb := 0,
    fmLeft := none,
    bwLeft := none,
    bwBase := [],
    clkHold := [],
    locks := [],
    sess := [],
    ide := [],
    fmKey := [],
    mbxTag := 0,
    mbxLeft := 0,
    ledStart := 0,
    ledMerged := false,
    ledDue := none,
    ledSeq := 0,
    ledDoms := [],
    train := [],
    mods := [],
    cmisQ := [],
    cages := [],
    snap := none,
    snapSeq := 0,
    snapSkip := 0,
    snapOver := false,
    modeReq := none,
    commitReq := false,
    retDue := false,
    pdLeft := [],
    pdOver := [],
    hold := .none,
    railBad := [],
    slew := 0,
    stageSeen := 0,
    overruns := [] }

end Sys2Proof.Machine
end

