-- ==== Sys2Proof/Machine/Ops.lean ====
section
/-!
DEFINITION. The named operations every meaning is written over: the register file, free values, outputs, MSI-X messages (R35, R36), the
fault collector's occurrence (R513 to R519), modes, and the range check of operands.
-/
namespace Sys2Proof.Machine

/-- What a meaning answers. -/
abbrev Res := Host.Outcome State Fault Refusal

/-- A meaning whose operands name existing instances completes; another names no instance (Fault.noSuchInstance). -/
def ranged (ok : Bool) (s : State) : Res := if ok then .next s else .fault .noSuchInstance

/-! ### Registers -/

/-- The reset word of a heading (R3): its fields' reset values. -/
def rowReset (r : RegRow) : Nat := r.fields.foldl (fun a f => a + (f.reset % 2 ^ (f.hi + 1 - f.lo)) <<< f.lo) 0

/-- The index of an offset in nested strides, outermost first. -/
def inDims : List (Nat × Nat) → Nat → Bool
  | [], d => d == 0
  | (st, n) :: ds, d => if ds.isEmpty then d % st == 0 && d / st < n else d / st < n && inDims ds (d % st)

/-- The heading that holds a 64-bit register offset. -/
def rowAt (off : Nat) : Option RegRow :=
  let rows :=
    if off < 0x30000 then (if off < 0x20000 then regRowsDev else if off < 0x28000 then regRowsClk else regRowsStg)
    else if off < 0x100000 then
      (if off < 0x40000 then regRowsFlt else if off < 0x50000 then regRowsLck else if off < 0x60000 then regRowsTel
       else if off < 0x80000 then regRowsSec else regRowsCpw)
    else if off < 0x600000 then
      (if off < 0x200000 then regRowsQue else if off < 0x300000 then regRowsSeq else if off < 0x400000 then regRowsMmu
       else if off < 0x500000 then regRowsMat else if off < 0x580000 then regRowsRma else regRowsBlk)
    else if off < 0x1000000 then (if off < 0x700000 then regRowsCol else if off < 0x780000 then regRowsWpr else regRowsTol)
    else if off < 0x1400000 then regRowsRtp else if off < 0x2000000 then regRowsRtc else if off < 0x2400000 then regRowsLan else regRowsMod
  rows.find? fun r => decide (r.base ≤ off) && inDims r.dims (off - r.base)

/-- Class of a fault source, none if unassigned (R510, R525). -/
def fltClass (s : Nat) : Option Nat :=
  if s ∈ [0x000, 0x001, 0x002, 0x004, 0x00C, 0x00F, 0x010, 0x040, 0x043, 0x045, 0x046, 0x082, 0x088, 0x089, 0x0C0, 0x0C3, 0x0C4, 0x0C5, 0x0C6,
      0x100, 0x101, 0x102, 0x103, 0x104, 0x105, 0x106, 0x107, 0x140, 0x141, 0x142, 0x143, 0x146, 0x147, 0x149, 0x14A, 0x14B, 0x14C] then some 0
  else if s ∈ [0x041, 0x042, 0x044, 0x047, 0x048, 0x080, 0x081, 0x083, 0x084, 0x085, 0x086, 0x087, 0x0C1, 0x0C2, 0x145] then some 1
  else if s ∈ [0x003, 0x005, 0x009, 0x00A, 0x013, 0x049, 0x148] then some 2
  else if s ∈ [0x006, 0x007, 0x008, 0x00B, 0x00D, 0x00E, 0x144, 0x14D] then some 3
  else if s ∈ [0x011, 0x012] then some 4
  else none

/-- The reset word at an offset: BLK_CH_CFG.PRIO resets to c mod 8 and FLT_SRC.CLASS to the source's class; the rest as its heading gives. -/
def regReset (off : Nat) : Word :=
  match rowAt off with
  | none => 0
  | some r =>
    let extra := if r.base = 0x580100 then (off - 0x580100) / 8 % 8
      else if r.base = 0x32000 then (fltClass ((off - 0x32000) / 8)).getD 0 <<< 32 else 0
    BitVec.ofNat 64 (rowReset r + extra)

/-- The word in force at an offset. -/
def State.reg (s : State) (off : Nat) : Word := Tab.lookD regReset s.regs off

/-- Sets the word in force at an offset. -/
def State.setReg (s : State) (off : Nat) (w : Word) : State := { s with regs := Tab.putD regReset s.regs off w }

/-- A field of a word. -/
def Fld.of (f : Fld) (w : Word) : Nat := wbits w f.hi f.lo

/-- A word with a field replaced. -/
def Fld.into (f : Fld) (w : Word) (n : Nat) : Word :=
  BitVec.ofNat 64 (w.toNat / 2 ^ (f.hi + 1) * 2 ^ (f.hi + 1) + n % 2 ^ (f.hi + 1 - f.lo) * 2 ^ f.lo + w.toNat % 2 ^ f.lo)

/-- Reads a field in force. -/
def State.get (s : State) (f : Fld) : Nat := f.of (s.reg f.off)

/-- Reads a one-bit field in force. -/
def State.flag (s : State) (f : Fld) : Bool := s.get f != 0

/-- Sets a field. -/
def State.put (s : State) (f : Fld) (n : Nat) : State := s.setReg f.off (f.into (s.reg f.off) n)

/-- Adds to a count field and saturates. -/
def State.bump (s : State) (f : Fld) (n : Nat) : State := s.put f (satAdd (f.hi + 1 - f.lo) (s.get f) n)

/-- A field whose value below `lo` is taken as `lo`. -/
def State.atLeast (s : State) (f : Fld) (lo : Nat) : Nat := max (s.get f) lo

/-! ### Time, free values, outputs -/

/-- The current stage number (R50). -/
def State.now (s : State) : Nat := s.get F.STG_NOW_STAGE

/-- The current stage fraction (R50). -/
def State.frac (s : State) : Nat := s.get F.STG_NOW_FRAC

/-- The current time in units of 1/1,024 of a stage. -/
def State.tick (s : State) : Nat := s.now * 1024 + s.frac

/-- Draws a free value. -/
def State.fresh (s : State) : Word × State := (Config.freeValue s.freeCtr, { s with freeCtr := s.freeCtr + 1 })

/-- Adds occurrences of an event to the gatherer counters that count it (R496 to R500); `dom` is given for the events marked D. -/
def State.count (s : State) (ev inst n : Nat) (dom : Option Nat) : State :=
  if n = 0 ∨ s.flag F.TEL_CTRL_FREEZE then s
  else (s.regs.filter fun e => decide (0x51000 ≤ e.1 ∧ e.1 < 0x51800)).foldl (fun s e =>
    let w := e.2
    if wbit w 63 && wbits w 31 16 == ev && (wbit w 62 || wbits w 15 0 == inst) && (!wbit w 61 || dom.isNone || dom == some (wbits w 47 32)) then
      s.setReg (e.1 + 0x1000) (s.reg (e.1 + 0x1000) + BitVec.ofNat 64 n)
    else s) s

/-- Bytes of a list of chunks. -/
def chunkLen (cs : List (Nat × Nat)) : Nat := cs.foldl (fun n c => n + c.2) 0

/-- Puts something out; host reads and writes count their bytes (R500). -/
def State.out (s : State) (o : Out) : State :=
  let s := { s with outs := o :: s.outs }
  match o with
  | .hostRead _ port _ cs => s.count 0x0B00 port (chunkLen cs) none
  | .hostWrite port _ _ bs => s.count 0x0B01 port bs.length none
  | _ => s

/-- Leaves a happening for later rules of this command. -/
def State.later (s : State) (w : Work) : State := { s with work := s.work ++ [w] }

/-- Takes the next request number. -/
def State.newId (s : State) : Nat × State := (s.nextId, { s with nextId := s.nextId + 1 })

/-- Request numbers of line reads and of key table reads, apart from those of accesses and walks. -/
def lineReq (line : Nat) : Nat := 2 ^ 60 + line
def keyReq (index : Nat) : Nat := 2 ^ 59 + index

/-- The time word of an event (R195). -/
def State.timeWord (s : State) : Word := packW [(48, s.frac), (0, s.now)]

/-- Counts of the usage ledger (R448), by number. -/
abbrev ldTx : Nat := 0
abbrev ldRx : Nat := 1
abbrev ldOps : Nat := 2
abbrev ldMatched : Nat := 3
abbrev ldSlots : Nat := 4
abbrev ldRed : Nat := 5
abbrev ldFwd : Nat := 6

/-- Adds to a count of the usage ledger of a domain (R448). -/
def State.ledger (s : State) (dom n amount : Nat) : State :=
  if amount = 0 ∨ ((s.doms.look dom).st = .inactive ∧ dom ≠ 0) then s else
  { s with doms := s.doms.upd dom fun d => { d with acc := d.acc.upd n (· + amount) } }

/-! ### Modes -/

/-- DEV_MODE.MODE, 0 while the device is in Reset (R526). -/
def State.mode (s : State) : Nat := s.get F.DEV_MODE_MODE

/-- The device is halted under R512. -/
def State.halted (s : State) : Bool := s.flag F.FLT_STATUS_HALTED

/-- The device is sealed (R453). -/
def State.sealed (s : State) : Bool := s.flag F.SEC_STATUS_SEALED

/-- Enters a mode at the current stage (DEV_MODE.ENTERED). -/
def State.enter (s : State) (m : Nat) : State := (s.put F.DEV_MODE_MODE m).put F.DEV_MODE_ENTERED s.now

/-- Every field counts as quiescent in Bring-up (R46, R529). -/
def State.bringup (s : State) : Bool := s.mode == 1

/-- Enters Degraded on a class 2 fault or a halt, with RETURN set to the mode left (R527); Sealed and Reset do not change, and Degraded stays. A
drain timer stops with Drain, and DRAINED clears (R532). -/
def State.degrade (s : State) : State :=
  let m := s.mode
  if m = 1 ∨ m = 2 ∨ m = 3 then
    ((((s.enter 4).put F.DEV_MODE_RETURN m).put F.DEV_MODE_DRAINED 0).put F.DEV_DRAIN_CTRL_LEFT 0)
  else s

/-! ### Host functions and MSI-X -/

/-- Functions are numbered port × 129 + function (R30). -/
def fnKey (port fn : Nat) : Nat := port * 129 + fn

/-- A function's record. -/
def State.fnOf (s : State) (port fn : Nat) : HostFn := s.fns.look (fnKey port fn)

/-- Changes a function's record. -/
def State.updFn (s : State) (port fn : Nat) (f : HostFn → HostFn) : State := { s with fns := s.fns.upd (fnKey port fn) f }

/-- A host port can carry requests: its link is up, its domain is not gated or waking, and it is not fenced (R559). -/
def State.portUp (s : State) (port : Nat) : Bool :=
  let h := s.ports.look port
  h.up && !h.fenced && !s.sealed && decide (s.mode ≠ 0)

/-- Sends a message on a vector, or sets its pending bit (R36). A port whose link is down carries nothing. -/
def State.msix (s : State) (port fn vec : Nat) : State :=
  let h := s.fnOf port fn
  if !(s.ports.look port).up || s.sealed then s
  else if h.msixEn && h.bme && h.unmasked.contains vec then s.out (.msix port fn vec)
  else if h.pend.contains vec then s
  else s.updFn port fn fun h => { h with pend := vec :: h.pend }

/-! ### The fault collector -/

/-- A pending bit (FLT_PENDING_k). -/
def fltPend (src : Nat) : Fld := ⟨0x30100 + src / 64 * 8, src % 64, src % 64⟩

/-- Some class c source is pending. -/
def State.anyPending (s : State) (p : Nat → Bool) : Bool :=
  (List.range 8).any fun k =>
    let w := s.reg (0x30100 + k * 8)
    w != 0 && (List.range 64).any fun j => w.getLsbD j && (match fltClass (64 * k + j) with | some c => p c | none => false)

/-- The highest class of a pending source, 0 if none above class 0 is (FLT_STATUS.PENDING_MAX). -/
def State.pendingMax (s : State) : Nat :=
  if s.anyPending (· == 4) then 4 else if s.anyPending (· == 3) then 3 else if s.anyPending (· == 2) then 2
  else if s.anyPending (· == 1) then 1 else 0

/-- ERR_N is driven low: some source pends, and its class reaches FLT_ERRPIN_MIN (R517). -/
def State.errLow (s : State) : Bool := s.anyPending (fun _ => true) && decide (s.pendingMax ≥ min (s.get F.FLT_ERRPIN_MIN_MIN) 4)

/-- Recomputes FLT_STATUS.ANY, PENDING_MAX and ERR_N (R517), and drives the pin when it changes. -/
def State.errPin (s : State) : State :=
  let s' := ((s.put F.FLT_STATUS_ANY (b2n (s.anyPending fun _ => true))).put F.FLT_STATUS_PENDING_MAX s.pendingMax).put F.FLT_STATUS_ERR_N_LOW (b2n s.errLow)
  if s.errLow = s.flag F.FLT_STATUS_ERR_N_LOW then s' else s'.out (.pin "ERR_N" (!s.errLow))

/-- One scope lies within another (R514). -/
def Scope.within : Scope → Scope → Bool
  | _, .device => true
  | .none, _ => false
  | .object _ _ (some p), .host q => p == q
  | .host p, .host q => p == q
  | .object a x p, .object b y q => a == b && x == y && p == q
  | .block a n, .block b m => a == b && n == m
  | _, _ => false

/-- The scope a source's fault has (R511, R525). -/
def fltScope (src : Nat) (syn : Word) (port : Option Nat) : Scope :=
  match fltClass src with
  | some 1 => .object (if src = 0x042 then 0x041 else if src = 0x145 then 0x081 else src) syn port
  | some 2 => if src = 0x00A then .host (wbits syn 1 0) else .block src (wbits syn 3 0)
  | some 3 => .device
  | some 4 => .device
  | _ => .none

/-- The record's mode: 0 in Reset, and 4 while halted (R519, R526). -/
def State.recMode (s : State) : Nat := if s.halted && s.mode != 0 && s.mode != 5 then 4 else s.mode

/-- Sends vector 1 to PF0 of each port that IRQ_PORTS names (R518). -/
def State.fltMsg (s : State) : State :=
  (List.range 4).foldl (fun s p => if (s.get F.FLT_CTRL_IRQ_PORTS).testBit p then s.msix p 0 1 else s) s

/-- One occurrence: count, pending bit, record, FLT_FIRST, ERR_N and interrupt (R513, R518, R519). The reaction is the caller's. Answers whether the
occurrence is nested (R514). -/
def State.occur (s : State) (src : Nat) (syn : Word) (forced : Bool) (port : Option Nat) : State × Bool :=
  match fltClass src with
  | none => (s, true)
  | some c =>
    let sc := fltScope src syn port
    let nested := s.active.any (fun a => (c == 0 && decide (a.1 ≥ 3)) || (sc.within a.2 && decide (c ≤ a.1)))
    let esc := s.active.any (fun a => a.2.within sc && decide (c > a.1))
    let s := (s.bump (F.FLT_SRC_COUNT src) 1).put (fltPend src) 1
    let histEn := s.flag (F.FLT_SRC_HIST_EN src)
    let toFirst := !s.first.valid && decide (c ≥ min (s.get F.FLT_CTRL_FIRST_MIN) 4)
    let total := s.get F.FLT_STATUS_TOTAL
    let stale := decide (s.hold ≠ .none)
    let r : FltRec := ⟨if stale then s.stageSeen else s.now, if stale then 0x3FF else s.frac, src, c, forced, nested, esc, stale, s.recMode, s.get (F.FLT_SRC_COUNT src), syn, total, true⟩
    let s := if histEn || toFirst then s.put F.FLT_STATUS_TOTAL (total + 1) else s
    let s := if histEn then { s with hist := s.hist.put (total % 32) r } else s
    let s := if toFirst then { s with first := r } else s
    let s := s.errPin
    let s := if s.flag (F.FLT_SRC_IRQ_EN src) then
        (if s.fltIrq.contains src then (if s.fltDefer.contains src then s else { s with fltDefer := s.fltDefer ++ [src] })
         else { s.fltMsg with fltIrq := src :: s.fltIrq }) else s
    (s, nested)

/-- An occurrence of a class 0 or 1 source, whose reaction is the owning rule's, or of a class 2 source, which also enters Degraded unless the device is
sealed or halted (R511). The reactions of a queue, a run and a cluster last beyond the command (R514; State.reactionsEnd). -/
def State.fltAt (s : State) (src : Nat) (syn : Word) (port : Option Nat) : State :=
  let (s, nested) := s.occur src syn false port
  let s := if nested || !(src == 0x041 || src == 0x042 || src == 0x048 || src == 0x049) then s
    else { s with active := ((fltClass src).getD 0, fltScope src syn port) :: s.active }
  if fltClass src = some 2 && !nested && !s.sealed && !s.halted then s.degrade else s

/-- An occurrence whose object lies on no host port. -/
def State.flt (s : State) (src : Nat) (syn : Word) : State := s.fltAt src syn none

/-- Begins and ends a reaction whose steps run inside the command (R514). -/
def State.reacting (s : State) (cls : Nat) (sc : Scope) (f : State → State) : State :=
  let t := f { s with active := (cls, sc) :: s.active }
  { t with active := t.active.erase (cls, sc) }

end Sys2Proof.Machine
end

