-- ==== Sys2Proof/Machine/Translate.lean ====
section
/-!
DEFINITION. Address translation (spec/07): the TLB (R218 to R221), walks (R209 to R217, R229 to R231), accesses under an address space, and
invalidation (R224, R225). An access that ends leaves Work.acc for the engine it serves.
-/
namespace Sys2Proof.Machine

/-- Pages of 4 KiB in a page of a size code (R209). -/
def pagesOf (size : Nat) : Nat := if size = 2 then 262144 else if size = 1 then 512 else 1

/-- An entry's page contains a 4 KiB page (R218). -/
def Tlbe.hits (t : Tlbe) (pasid page : Nat) : Bool := t.valid && t.pasid == pasid && page / pagesOf t.size == t.page / pagesOf t.size

/-- One step of the replacement LFSR (R219). -/
def lfsrStep (v : Nat) : Nat :=
  let b := (b2n (v.testBit 15) + b2n (v.testBit 13) + b2n (v.testBit 12) + b2n (v.testBit 10)) % 2
  (v * 2 + b) % 65536

/-- Removes the TLB entries that a predicate names. -/
def State.tlbDrop (s : State) (p : Tlbe → Bool) : State := { s with tlb := s.tlb.filter fun e => !p e.2 }

/-- The invalid TLB entry with the lowest index, none if every entry is valid. -/
def State.tlbFree (s : State) : Option Nat := (List.range (min 4096 (s.tlb.length + 1))).find? fun i => !(s.tlb.look i).valid

/-- Fills an entry (R219). -/
def State.tlbFill (s : State) (e : Tlbe) : State :=
  match s.tlbFree with
  | some i => { s with tlb := s.tlb.put i e }
  | none =>
    let v := s.get F.MMU_TLB_LFSR_VALUE
    { s with tlb := s.tlb.put (v % 4096) e }.put F.MMU_TLB_LFSR_VALUE (lfsrStep v)

/-- What a lookup answers. -/
inductive Look where
  | hit (pa : Nat) (nospec : Bool)
  | miss
  | perm (cause : Nat)
deriving DecidableEq, Repr

/-- A lookup: rights of the entry (R212), D = 0 as a miss for a write (R217), two hits invalidated (R220). -/
def State.tlbLook (s : State) (pasid : Nat) (kind : AccKind) (va : Nat) : State × Look :=
  let page := va / 4096
  match s.tlb.vals.filter (·.hits pasid page) with
  | [] => (s, .miss)
  | [t] =>
    let needR := kind != .write
    let needW := kind == .write || kind == .atomic
    if needR && !t.rd then (s, .perm 2)
    else if needW && !t.wr then (s, .perm 3)
    else if needW && !t.dirty then (s, .miss)
    else (s, .hit ((t.frame + page % pagesOf t.size) * 4096 + va % 4096) t.nospec)
  | _ => (s.tlbDrop (·.hits pasid page), .miss)

/-- Levels of an address space's tables (R209). -/
def Pas.levels (p : Pas) : Nat := if p.lv5 then 5 else 4

/-- Every bit above the top index bits equals the top bit (R210). -/
def Pas.canonical (p : Pas) (va : Nat) : Bool :=
  let top := 12 + 9 * p.levels
  let hi := va / 2 ^ (top - 1)
  hi == 0 || hi == 2 ^ (65 - top) - 1

/-- The 8 B of a walk request lie in an enabled window of the port and in no BAR of its functions (R229). -/
def State.walkAllowed (s : State) (port pa : Nat) : Bool :=
  let page := pa / 4096
  let inWin := (List.range 8).any fun w =>
    s.flag (F.MMU_WALK_WINDOW_BASE_EN w) && s.get (F.MMU_WALK_WINDOW_BASE_PORT w) == port &&
    decide (s.get (F.MMU_WALK_WINDOW_BASE_BASE w) ≤ page ∧ page ≤ s.get (F.MMU_WALK_WINDOW_LIMIT_LIMIT w))
  let h := s.ports.look port
  let bars := h.bars.take 2 ++ (if h.vfEn && h.vfMse then h.bars.drop 2 else [])
  inWin && !(bars.any fun b => decide (b.1 < pa + 8 ∧ pa < b.1 + b.2))

/-- The physical address of the entry a walk reads next. -/
def Walk.entryAt (w : Walk) : Nat := w.table + (w.va / 2 ^ (12 + 9 * (w.level - 1))) % 512 * 8

/-- A walk at its root. -/
def State.atRoot (s : State) (w : Walk) : Walk :=
  let p := s.pas.look w.pasid
  { w with level := p.levels, table := p.root, leaf := none }

/-- Ends an access: its outcome goes to its engine. -/
def State.accEnd (s : State) (id : Nat) (r : AccRes) : State := s.later (.acc id r)

/-- A translation fault of an access: counted unless speculative (MMU_FAULT_COUNT, R227), and handed to the engine. -/
def State.accFault (s : State) (id cause level : Nat) : State :=
  let a := s.accs.look id
  let va := (a.pieces.head?.getD (0, 0)).1
  (if a.spec then s else (s.bump F.MMU_FAULT_COUNT_COUNT 1).count 0x0304 (s.pas.look a.pasid).port 1 (some a.dom)).accEnd id (.xlate cause level va)

/-- Issues a walk's read, or answers that the windows forbid it (R229). -/
def State.walkRead (s : State) (id : Nat) (w : Walk) : Option State :=
  let p := s.pas.look w.pasid
  if s.walkAllowed p.port w.entryAt then
    some (({ s with walks := s.walks.put id w }.count 0x0302 p.port 1 p.dom).out (.hostRead id p.port p.fn [(w.entryAt, 8)]))
  else none

/-- Issues an access whose pieces are all translated: a write is posted (R559), a read waits for its return, an atomic hands its address over. -/
def State.accIssue (s : State) (id : Nat) : State :=
  let a := s.accs.look id
  let p := s.pas.look a.pasid
  match a.kind with
  | .write =>
    if s.portUp p.port && (s.fnOf p.port p.fn).bme then
      (s.out (.hostWrite p.port p.fn a.chunks a.wdata)).accEnd id (.ok [])
    else s.accEnd id .busErr
  | .atomic => s.accEnd id (.ok [BitVec.ofNat 64 (a.chunks.head?.getD (0, 0)).1])
  | _ => { s with accs := s.accs.put id { a with st := .issued } }.out (.hostRead id p.port p.fn a.chunks)

/-- Translates an access page by page from where it stands (R213, R222); a miss joins the walk of its page, starts one, or waits for one of
the 64 walks to end. -/
def State.accGo (fuel : Nat) (s : State) (id : Nat) : State :=
  match fuel with
  | 0 => s
  | fuel + 1 =>
    let a := s.accs.look id
    let p := s.pas.look a.pasid
    if p.st = .error then s.accEnd id .busErr
    else if p.st = .free || p.dom != some a.dom then s.accEnd id .refused
    else match a.pieces with
    | [] => s.accIssue id
    | (va, 0) :: rest => State.accGo fuel { s with accs := s.accs.put id { a with pieces := rest, chunks := a.chunks ++ [(va, 0)] } } id
    | (va, n + 1) :: rest =>
      if !p.canonical va then s.accFault id 7 0
      else
        let (s, l) := s.tlbLook a.pasid a.kind va
        let s := if a.spec then s else (s.count 0x0300 p.port 1 (some a.dom)).count 0x0301 p.port (b2n (l == .miss)) (some a.dom)
        match l with
        | .perm c => s.accFault id c 0
        | .hit pa ns =>
          if a.spec && ns && a.kind == .write then s.accFault id 0 0
          else
            let m := min (n + 1) (4096 - va % 4096)
            let rest' := if m = n + 1 then rest else (va + m, n + 1 - m) :: rest
            State.accGo fuel { s with accs := s.accs.put id { a with pieces := rest', chunks := a.chunks ++ [(pa, m)] } } id
        | .miss =>
          match s.walks.keysOf (fun w => w.live && w.pasid == a.pasid && w.va / 4096 == va / 4096) with
          | w :: _ => { s with accs := s.accs.put id { a with st := .walking w } }
          | [] =>
            if s.walks.count (·.live) ≥ 64 then { s with accs := s.accs.put id { a with st := .needWalk } }
            else
              let (wid, s) := s.newId
              let w := s.atRoot ⟨true, a.pasid, va, a.kind, a.spec, 0, 0, none, 0, id⟩
              match s.walkRead wid w with
              | some s => { s with accs := s.accs.put id { a with st := .walking wid } }
              | none => s.accFault id 8 0

/-- Pages a list of pieces can touch, as fuel. -/
def pieceFuel (ps : List (Nat × Nat)) : Nat := ps.foldl (fun n p => n + p.2 / 4096 + 3) 2

/-- Goes on with an access. -/
def State.accResume (s : State) (id : Nat) : State := State.accGo (pieceFuel (s.accs.look id).pieces) s id

/-- Starts an access of an engine under an address space. Answers its number. -/
def State.access (s : State) (c : Client) (pasid dom : Nat) (kind : AccKind) (spec : Bool) (pieces : List (Nat × Nat)) (wdata : List Byte) :
    Nat × State :=
  let (id, s) := s.newId
  let a : Access := ⟨c, pasid, dom, kind, spec, pieces, pieces, [], wdata, .idle⟩
  (id, State.accGo (pieceFuel pieces) { s with accs := s.accs.put id a } id)

/-- Forgets an access. -/
def State.accDrop (s : State) (id : Nat) : State := { s with accs := s.accs.del id }

/-- Accesses that stand in a walk. -/
def State.waiters (s : State) (w : Nat) : List Nat := s.accs.keysOf fun a => a.st == .walking w

/-- A walk is over: its waiters translate again, and accesses that waited for a free walk go on. -/
def State.walkOver (s : State) (id : Nat) : State :=
  let ws := s.waiters id
  let s := { s with walks := s.walks.del id }
  let s := ws.foldl (fun s a => s.accResume a) s
  (s.accs.keysOf fun a => a.st == .needWalk).foldl (fun s a => s.accResume a) s

/-- A walk ends in a fault: its starter meets it, unless the walk was speculative and is dropped (R227); the others walk for themselves. -/
def State.walkFault (s : State) (id cause level : Nat) : State :=
  let w := s.walks.look id
  let s := if (s.accs.look w.starter).st == .walking id then
      let s := s.accFault w.starter cause level
      { s with accs := s.accs.upd w.starter fun a => { a with st := .idle } } else s
  s.walkOver id

/-- A walk ends in a leaf: fill, and translate again (R218). -/
def State.walkLeaf (s : State) (id : Nat) (e : Word) : State :=
  let w := s.walks.look id
  let size := w.level - 1
  let frame := wbits e 51 12
  let page := w.va / 4096 / pagesOf size * pagesOf size
  (s.tlbFill ⟨true, w.pasid, page, size, frame, wbit e 1, wbit e 2, wbit e 4, wbit e 8⟩).walkOver id

/-- An address space enters ERROR (R231). -/
def State.pasError (s : State) (pasid : Nat) : State :=
  { s with pas := s.pas.upd pasid fun p => { p with st := .error } }.tlbDrop (·.pasid == pasid)

/-- A walk read or CAS failed on the bus (R231). -/
def State.walkBus (s : State) (id : Nat) : State :=
  let w := s.walks.look id
  let p := s.pas.look w.pasid
  let s := s.fltAt 0x080 (packW [(0, w.pasid), (20, bitsOf w.entryAt 51 8)]) (some p.port)
  (s.pasError w.pasid).walkOver id

/-- The leaf checks of R212, R214 and R216 on an entry a walk read. -/
def State.walkLeafCheck (s : State) (id : Nat) (e : Word) : State :=
  let w := s.walks.look id
  let p := s.pas.look w.pasid
  let needR := w.kind != .write
  let needW := w.kind == .write || w.kind == .atomic
  let low := if w.level = 3 then wbits e 29 12 else if w.level = 2 then wbits e 20 12 else 0
  if wbits e 7 6 ≠ w.level - 1 || low != 0 then s.walkFault id 6 w.level
  else if needR && !wbit e 1 then s.walkFault id 2 w.level
  else if needW && !wbit e 2 then s.walkFault id 3 w.level
  else
    let noA := !wbit e 3
    let noD := needW && !wbit e 4
    if !noA && !noD then s.walkLeaf id e
    else if w.spec then s.walkFault id 0 w.level
    else if p.preset then (if noA then s.walkFault id 4 w.level else s.walkFault id 5 w.level)
    else if s.walkAllowed p.port w.entryAt then
      let mark := e ||| 8 ||| (if needW then 16 else 0)
      ({ s with walks := s.walks.put id { w with leaf := some e } }.count 0x0303 p.port 1 p.dom).out (.hostAtomic id p.port p.fn w.entryAt 11 8 mark e)
    else s.walkFault id 8 w.level

/-- The step of a walk when an entry read returns (R212). -/
def State.walkEntry (s : State) (id : Nat) (e : Word) : State :=
  let w := s.walks.look id
  if !wbit e 0 then s.walkFault id 1 w.level
  else if wbit e 5 then
    if w.level ≥ 4 then s.walkFault id 6 w.level else s.walkLeafCheck id e
  else if w.level = 1 then s.walkFault id 6 w.level
  else
    let w' := { w with level := w.level - 1, table := wbits e 51 12 * 4096 }
    match s.walkRead id w' with
    | some s => s
    | none => { s with walks := s.walks.put id w' }.walkFault id 8 w'.level

/-- WALK_READ_RETURN's operation: nothing for a walk that is not waiting for a read. -/
def State.walkReturn (s : State) (id : Nat) (r : ReadRes) : State :=
  let w := s.walks.look id
  if !w.live || w.leaf.isSome then s
  else if (s.pas.look w.pasid).st != .active then s.walkOver id
  else match r with
    | .busErr => s.walkBus id
    | .ok ws => s.walkEntry id (ws.headD 0)

/-- AD_CAS_RETURN's operation (R214, R215). -/
def State.casReturn (s : State) (id : Nat) (r : ReadRes) : State :=
  let w := s.walks.look id
  match w.leaf with
  | none => s
  | some e =>
    if !w.live then s
    else if (s.pas.look w.pasid).st != .active then s.walkOver id
    else match r with
      | .busErr => s.walkBus id
      | .ok ws =>
        let needW := w.kind == .write || w.kind == .atomic
        if ws.headD 0 = e then s.walkLeaf id (e ||| 8 ||| (if needW then 16 else 0))
        else if w.fails + 1 ≥ s.atLeast F.MMU_AD_CTRL_RETRY_LIMIT 1 then s.walkFault id 9 w.level
        else
          let w' := s.atRoot { w with fails := w.fails + 1 }
          match s.walkRead id w' with
          | some s => s
          | none => s.walkFault id 8 w'.level

/-! ### Invalidation -/

/-- The scope of an invalidation (R224): an address space, and a range of 4 KiB pages of it. -/
inductive InvScope where
  | all
  | pasid (p : Nat)
  | range (p first last : Nat)
deriving DecidableEq, Repr

/-- A run of pages of an address space overlaps the scope. -/
def InvScope.covers (i : InvScope) (pasid first last : Nat) : Bool :=
  match i with
  | .all => true
  | .pasid p => p == pasid
  | .range p a b => p == pasid && decide (first ≤ b ∧ a ≤ last)

/-- The scope of a range of bytes; none for an empty one. -/
def rangeScope (p addr len : Nat) : Option InvScope := if len = 0 then none else some (.range p (addr / 4096) ((addr + len - 1) / 4096))

/-- Restarts a walk under a new request number, so that its read in flight is discarded (R225). -/
def State.walkRestart (s : State) (id : Nat) : State :=
  let w := s.walks.look id
  let (nid, s) := s.newId
  let ws := s.waiters id
  let s := { s with walks := s.walks.del id }
  let s := ws.foldl (fun s a => { s with accs := s.accs.upd a fun x => { x with st := .walking nid } }) s
  let w' := s.atRoot w
  match s.walkRead nid w' with
  | some s => s
  | none => { s with walks := s.walks.put nid w' }.walkFault nid 8 0

/-- An access uses a translation that the scope invalidates. -/
def Access.uses (a : Access) (i : InvScope) : Bool :=
  !a.chunks.isEmpty && a.orig.any fun p => i.covers a.pasid (p.1 / 4096) ((p.1 + p.2 - 1) / 4096)

/-- Begins an invalidation (R224, R225): TLB entries and program cache lines go, walks in the scope restart, and INVALIDATION_DONE waits for the
accesses that use an invalidated entry. Answers its number. -/
def State.invalidate (s : State) (i : InvScope) (v : Inval) : State × Nat :=
  let s := s.tlbDrop fun t => i.covers t.pasid (t.page / pagesOf t.size * pagesOf t.size) (t.page / pagesOf t.size * pagesOf t.size + pagesOf t.size - 1)
  let s := { s with pcache := s.pcache.filter fun l => !i.covers l.1 (l.2.1 / 4096) (l.2.1 / 4096) }
  let s := (s.walks.keysOf fun w => w.live && i.covers w.pasid (w.va / 4096) (w.va / 4096)).foldl (fun s w => s.walkRestart w) s
  let waits := s.accs.keysOf (·.uses i)
  let (id, s) := s.newId
  ({ s with invals := s.invals.put id { v with live := true, waits := waits } }, id)

/-- The invalidation's accesses have all finished. -/
def State.invalReady (s : State) (id : Nat) : Bool :=
  let v := s.invals.look id
  v.live && v.waits.all fun a => !(s.accs.any fun e => e.1 == a)

end Sys2Proof.Machine
end

