-- ==== Sys2Proof/Machine/Events.lean ====
section
/-!
DEFINITION. Event queues (R195 to R202), completion counters and WAIT (R98 to R101, R203), operation completion and G15 (R81, R82, R105, R126),
and the end of runs and entries (R104 to R107, R189 to R193).
-/
namespace Sys2Proof.Machine

/-! ### Event queues -/

/-- Sends the event queue's moderated message (R202). -/
def State.eqMessage (s : State) (e : Nat) : State :=
  let q := s.eqs.look e
  ({ s with eqs := s.eqs.put e { q with arm := false } }).msix q.port q.fn q.vector

/-- Space is left in the ring (R198). -/
def Evq.room (q : Evq) : Bool := decide (fwd 32 q.cons q.prod < 2 ^ q.log2)

/-- Writes the head event if the ring has space, else holds it and logs EQ_FULL once (R199). -/
def State.eqPump (s : State) (e : Nat) : State :=
  let q := s.eqs.look e
  match q.held with
  | [] => s
  | ev :: _ =>
    if q.st != .active || q.writing then s
    else if !q.room then
      if q.full then s else ({ s with eqs := s.eqs.put e { q with full := true } }).fltAt 0x043 (BitVec.ofNat 64 e) (some q.port)
    else
      let phase := b2n (q.prod / 2 ^ q.log2 % 2 == 0)
      let w0 := ev.w0 ||| packW [(31, phase)]
      let s := { s with eqs := s.eqs.put e { q with writing := true, full := false } }
      (s.access (.eq e) q.pasid q.dom .write false [(q.base + q.prod % 2 ^ q.log2 * 32, 32)] (wordBytes [w0, ev.w1, ev.w2, ev.w3])).2

/-- An event falls due on an event queue (R199, R200). -/
def State.evPost (s : State) (e : Nat) (ev : Ev) : State :=
  let q := s.eqs.look e
  if q.st = .active then { s with eqs := s.eqs.put e { q with held := q.held ++ [ev] } }.later (.eqPump e)
  else s.later (.evSeen ev.cont)

/-- The head event is visible: the index moves, moderation counts (R202), and what it releases follows. -/
def State.eqWrote (s : State) (e : Nat) : State :=
  let q := s.eqs.look e
  match q.held with
  | [] => s
  | ev :: rest =>
    let q := { q with held := rest, writing := false, prod := (q.prod + 1) % 2 ^ 32, since := if q.arm then q.since + 1 else q.since }
    let s := { s with eqs := s.eqs.put e q }.count 0x0102 e 1 (some q.dom)
    let s := if q.arm && decide (q.since ≥ q.modCount) then s.eqMessage e else s
    (s.later (.evSeen ev.cont)).later (.eqPump e)

/-- An event queue enters ERROR, and every held event is discarded as if written (R200). -/
def State.eqError (s : State) (e : Nat) : State :=
  let q := s.eqs.look e
  let s := { s with eqs := s.eqs.put e { q with st := .error, held := [], writing := false, full := false } }
  q.held.foldl (fun s ev => s.later (.evSeen ev.cont)) s

/-- An event write failed (R200). -/
def State.eqFailed (s : State) (e : Nat) : State := (s.fltAt 0x044 (BitVec.ofNat 64 e) (some (s.eqs.look e).port)).eqError e

/-- An event of R195. -/
def mkEv (s : State) (type status opcode wq pc bytes aux : Nat) (tag : Word) (cont : EvCont) : Ev :=
  ⟨packW [(0, type), (8, status % 256), (16, opcode % 256), (32, wq % 65536), (48, pc % 4096)],
   packW [(0, min bytes (2 ^ 32 - 1)), (32, aux % 2 ^ 32)], tag, s.timeWord, cont⟩

/-- Writes an event of a work queue to its event queue; a queue without one (EQ_EN = 0, WQ 4) discards it. -/
def State.wqEvent (s : State) (wq : Nat) (ev : Ev) : State :=
  let q := s.wqs.look wq
  if q.eqEn && wq != 4 then s.evPost q.eq ev else s.later (.evSeen ev.cont)

/-- A translation fault event (R236). -/
def State.faultEvent (s : State) (pasid cause engine access level source pc va : Nat) : State :=
  let p := s.pas.look pasid
  s.evPost p.faultEq
    ⟨packW [(0, 6), (8, stXlate), (16, cause), (32, pasid), (52, engine), (56, access), (58, level)],
     packW [(0, source % 2 ^ 32), (32, pc % 4096), (48, p.dom.getD 0)], BitVec.ofNat 64 va, s.timeWord, .none⟩

/-- ACCESS codes of R236. -/
def AccKind.code : AccKind → Nat
  | .read => 0
  | .write => 1
  | .atomic => 2
  | .fetch => 3

/-- A fault at a target, in placement or in a convoy: one event per PASID, page and ACCESS in RETRY_AFTER stages (R234). -/
def State.faultOnce (s : State) (pasid cause engine level source va : Nat) (k : AccKind) : State :=
  let p := s.pas.look pasid
  if p.seen.any fun e => e.1 == va / 4096 && e.2.1 == k.code then s
  else
    let s := { s with pas := s.pas.put pasid { p with seen := (va / 4096, k.code, p.retryAfter) :: p.seen } }
    s.faultEvent pasid cause engine k.code level source 0 va

/-! ### Runs: registers, states -/

/-- The sideband run's context number. -/
abbrev sbCtx : Nat := 8192

/-- A run's handle (R117). -/
def State.handle (s : State) (ctx : Nat) : Nat := s.gens.look ctx % 65536 * 65536 + ctx % 8192

/-- Changes a run. -/
def State.updRun (s : State) (ctx : Nat) (f : Run → Run) : State := { s with runs := s.runs.upd ctx f }

/-- Changes an operation. -/
def State.updOp (s : State) (k : Nat) (f : Op → Op) : State := { s with ops := s.ops.upd k f }

/-- Reads a general register; G0 reads zero (R79). -/
def Run.rg (r : Run) (n : Nat) : Word := if n = 0 then 0 else r.g.look n

/-- Writes a general register; a write to G0 is discarded (R79); while parked it is recorded for the resume (R113). -/
def Run.setG (r : Run) (n : Nat) (v : Word) : Run :=
  if n = 0 then r else if r.st = .parked then { r with deferred := r.deferred ++ [(n, v)] } else { r with g := r.g.put n v }

/-- A blocked or waiting run becomes READY (R77), or is recorded so while parked (R113). -/
def State.unblock (s : State) (ctx : Nat) : State :=
  let r := s.runs.look ctx
  if r.st = .blocked ∨ r.st = .waiting then
    { s with runs := s.runs.put ctx { r with st := .ready, block := .none, waitOn := none, readySeq := s.readyCtr }, readyCtr := s.readyCtr + 1 }
  else if r.st = .parked then
    { s with runs := s.runs.put ctx { r with doneParked := true, prev := .ready, prevBlock := .none } }
  else s

/-- State codes of R76. -/
def RunSt.code : RunSt → Nat
  | .free => 0
  | .ready => 1
  | .running => 2
  | .blocked => 3
  | .waiting => 4
  | .parked => 5
  | .ending => 6

/-- The 256 B context image of a run as 32 words (SEQ_RUN_VIEW). -/
def State.runImage (s : State) (ctx : Nat) : List Word :=
  let r := s.runs.look ctx
  let (ptr, words) := match r.params with | .none => (0, 0) | .host p n => (p, n) | .msg ws => (0, ws.length)
  let (c, target, expiry) := r.waitOn.getD (0, 0, 0)
  let busy := ((s.ops.keysOf (·.live)).filter fun k => k / 64 == ctx).length
  (List.range 16).map (fun n => r.rg n) ++
  [packW [(0, s.handle ctx), (32, r.wq % 65536), (48, r.cluster % 16), (52, r.st.code), (56, if r.st = .parked then stParked else 0)],
   packW [(0, r.pc % 4096), (16, r.faultPc % 4096), (32, min r.steps (2 ^ 32 - 1))],
   BitVec.ofNat 64 ptr,
   packW [(0, words % 8192), (16, min r.parks 255), (24, busy), (31, b2n r.doneParked), (32, r.limit % 2 ^ 32)],
   BitVec.ofNat 64 r.faultVa,
   packW [(0, r.pasid.getD 0 % 2 ^ 20), (32, r.dom % 65536)],
   BitVec.ofNat 64 target,
   packW [(0, c % 65536), (16, expiry % 2 ^ 48)]] ++ List.replicate 8 0

/-- The run is resident from now on: its context keeps what was last saved. -/
def State.runSaved (s : State) (ctx : Nat) : State := s.updRun ctx fun r => { r with image := s.runImage ctx }

/-- Live operations of a run. -/
def State.opsOf (s : State) (ctx : Nat) : List Nat := (s.ops.keysOf (·.live)).filter fun k => k / 64 == ctx

/-- Records an operation's outcome; the first one stands. -/
def State.opFin (s : State) (k : Nat) (st bytes : Nat) (val : Option Word) : State :=
  let o := s.ops.look k
  if o.live && o.fin.isNone then
    let s := { s with ops := s.ops.put k { o with fin := some (st, bytes, val) } }
    if o.eng = .bulk then s.later (.room .bulk) else s
  else s

/-- Reports an operation's local completion: its event if it has one (R85, R196), then R98's counter and G15 (OP_LOCAL_COMPLETION). An operation of a
run that ended with a status other than OK is reported ABORTED (R105). -/
def State.opReport (s : State) (k : Nat) : State :=
  let o := s.ops.look k
  let ctx := k / 64
  let r := s.runs.look ctx
  match o.fin with
  | none => s
  | some (st, bytes, _) =>
    if !o.live || o.reporting then s
    else
      let ended := r.st = .ending ∨ (r.st = .parked ∧ r.prev = .ending)
      let st := if (ended ∧ r.endSt ≠ stOk) ∨ o.noCtr then stAborted else st
      let s := { s with ops := s.ops.put k { o with reporting := true, fin := some (st, bytes, (o.fin.getD (0, 0, none)).2.2) } }
      let aux := if o.opcode = 0x31 then (if st = stCancelled then 0 else o.x.node % 2 ^ 20 + o.x.func % 256 * 2 ^ 20) else r.idx
      if o.opcode = 0x31 then
        if o.tag = 0 then s.later (.evSeen (.op k))
        else
          let e := mkEv s 3 st o.opcode r.wq o.pc bytes aux o.matchTag (.op k)
          s.wqEvent r.wq { e with w3 := packW [(0, o.tag), (32, s.now % 2 ^ 32)] }
      else if o.opcode = 0x70 ∨ o.opcode = 0x71 then
        s.wqEvent r.wq (mkEv s (if o.opcode = 0x70 then 4 else 5) stOk o.opcode r.wq o.pc bytes r.idx (o.x.tag) (.op k))
      else if o.tag = 0 then s.later (.evSeen (.op k))
      else s.wqEvent r.wq (mkEv s 2 st o.opcode r.wq o.pc bytes aux (BitVec.ofNat 64 o.tag) (.op k))

/-- Finishes and reports at once. -/
def State.opDone (s : State) (k : Nat) (st bytes : Nat) (val : Option Word) : State := (s.opFin k st bytes val).opReport k

/-! ### Counters and WAIT -/

/-- Every WAIT on a counter is evaluated after each update (R100, R149); one on a counter outside its domain completes RIGHTS (R203). -/
def State.waitEval (s : State) (c : Nat) : State :=
  let v := s.ctrs.look c
  (s.ops.keysOf fun o => o.live && o.opcode == 0x40 && o.fin.isNone && o.arg == c).foldl
    (fun s k =>
      let r := s.runs.look (k / 64)
      if v.dom != some r.dom then s.opDone k stRights 0 none
      else if (s.ops.look k).x.operand.toNat ≤ v.val.toNat then s.opDone k stOk 0 none else s) s

/-- Sets a counter. -/
def State.ctrPut (s : State) (c : Nat) (v : Ctr) : State := { s with ctrs := s.ctrs.put c v }.waitEval c

/-- Advances a counter modulo 2^64 (R149). -/
def State.ctrAdd (s : State) (c : Nat) (n : Word) : State :=
  let v := s.ctrs.look c
  s.ctrPut c { v with val := v.val + n }

/-- Advances a counter of a domain (R99); another domain's is left. -/
def State.ctrSignal (s : State) (c dom : Nat) : State := if (s.ctrs.look c).dom = some dom then s.ctrAdd c 1 else s

/-! ### The end of runs -/

/-- Ends a run (R104, R107): its WAIT and LOCK complete, and what it holds is looked at afterwards (Work.runEnded). -/
def State.endRun (s : State) (ctx st : Nat) (outside : Bool) : State :=
  let r := s.runs.look ctx
  if r.st = .free ∨ r.st = .ending ∨ (r.st = .parked ∧ r.prev = .ending ∧ !outside) then s
  else
    let st' := if r.st = .parked ∧ r.prev = .ending then (if outside then stAborted else r.endSt) else st
    let s := s.updRun ctx fun r => { r with st := .ending, endSt := st', outside := outside, block := .none, waitOn := none, await := none, desc := none, rdPend := [] }
    let s := ((s.opsOf ctx).filter fun k => let o := s.ops.look k; o.opcode == 0x40 || o.opcode == 0x60 || o.opcode == 0x43).foldl
      (fun s k => s.opDone k stAborted 0 none) s
    s.later (.runEnded ctx)

/-- FENCE completes when no operation issued before it is outstanding (R150). -/
def State.fenceEval (s : State) (ctx : Nat) : State :=
  let ks := s.opsOf ctx
  (ks.filter fun k => let o := s.ops.look k; o.opcode == 0x43 && o.fin.isNone).foldl
    (fun s k => if ks.all fun j => decide ((s.ops.look j).seq ≥ (s.ops.look k).seq) then s.opDone k stOk 0 none else s) s

/-- An operation's event is visible, or it has none: its counter advances (R98, R197), G15 and RD are written (R81, R82, R126), the run goes on. -/
def State.opSeen (s : State) (k : Nat) : State :=
  let o := s.ops.look k
  let ctx := k / 64
  match o.fin with
  | none => s
  | some (st, bytes, val) =>
    if !o.live then s
    else
      let r := s.runs.look ctx
      let ended := r.st = .ending ∨ (r.st = .parked ∧ r.prev = .ending)
      let s := { s with ops := s.ops.del k }.ledger r.dom ldOps 1
      let s := s.ledger r.dom ldMatched (b2n (o.opcode = 0x31 ∧ (st = stOk ∨ st = stTrunc)))
      let s := if o.sigl && !o.noCtr then s.ctrSignal o.lctr r.dom else s
      let s := if ended then s
        else
          let blocking : Prop := r.block = .op (k % 64) ∨ (r.st = .parked ∧ r.prevBlock = .op (k % 64))
          let s := s.updRun ctx fun r =>
            let r := match o.rd with | some d => (if d = 0 then r else { (r.setG d (val.getD 0)) with rdPend := r.rdPend.filter (·.2 != k % 64) }) | none => r
            if blocking then (let r := r.setG 15 (g15 st o.opcode bytes); if r.st = .parked then r else { r with pc := r.nextPc }) else r
          let r := s.runs.look ctx
          let wake := decide blocking || r.block == .slots || (match r.block with | .reg n => !(r.rdPend.any (·.1 == n)) | _ => false)
          let s := if wake then s.unblock ctx else s
          if o.opcode = 0x71 && o.opf % 2 == 1 then s.endRun ctx stAborted false else s
      (s.fenceEval ctx).later (.room o.eng)

/-- Frees a context: its generation advances (R117). -/
def State.freeCtx (s : State) (ctx : Nat) : State :=
  { s with runs := s.runs.del ctx, gens := s.gens.put ctx ((s.gens.look ctx + 1) % 65536) }

/-- An ENTRY event (R195, R196). -/
def entryEv (s : State) (wq st pc idx etag : Nat) (c : EvCont) : Ev := mkEv s 1 st 0 wq pc 0 idx (BitVec.ofNat 64 etag) c

/-- The entry's event is visible: CTR advances on OK and the context is freed (R180, R197). -/
def State.entrySeen (s : State) (ctx : Nat) : State :=
  let r := s.runs.look ctx
  let s := if r.ctrEn && r.endSt == stOk then s.ctrSignal r.ctr r.dom else s
  s.freeCtx ctx

/-- The queue owes completions in ring order (R191). -/
def Wq.stopping (q : Wq) : Bool := q.st == .stopping

/-- Reports the entry of a run that is ENDING with nothing outstanding (R105, RUN_FREE). The sideband run's end is R120's. -/
def State.runFree (s : State) (ctx : Nat) : State :=
  let r := s.runs.look ctx
  if r.st != .ending || r.reported || !(s.opsOf ctx).isEmpty then s
  else
    let s := s.updRun ctx fun r => { r with reported := true }
    if ctx = sbCtx then
      let s := (List.range 14).foldl (fun s i => s.put (F.SEQ_SB_G_VALUE i) (r.rg (i + 1)).toNat) s
      ((s.put F.SEQ_SB_CTRL_STATE 0).put F.SEQ_SB_CTRL_STATUS r.endSt).freeCtx ctx
    else if r.wq = 4 then s.freeCtx ctx
    else
      let q := s.wqs.look r.wq
      if q.stopping then
        let s := { s with wqs := s.wqs.upd r.wq fun (q : Wq) =>
          { q with owed := q.owed.map fun (e : Owed) => if e.ctx = some ctx then { e with ready := true, status := r.endSt, pc := r.pc } else e } }
        s.later (.wqPump r.wq)
      else if r.evmode = 2 ∨ (r.evmode = 1 ∧ r.endSt ≠ stOk) then s.wqEvent r.wq (entryEv s r.wq r.endSt r.pc r.idx r.etag (.entry ctx))
      else s.later (.evSeen (.entry ctx))

/-! ### Stopping queues -/

/-- Inserts by a rank. -/
def insRank (f : Nat → Nat) (x : Nat) : List Nat → List Nat
  | [] => [x]
  | y :: ys => if f x ≤ f y then x :: y :: ys else y :: insRank f x ys

/-- Sorts by a rank. -/
def sortRank (f : Nat → Nat) (xs : List Nat) : List Nat := xs.foldr (insRank f) []

/-- Contexts of a queue's live runs in ring order. -/
def State.liveOf (s : State) (q : Nat) : List Nat :=
  let c := (s.wqs.look q).c
  sortRank (fun k => fwd 32 (c + 2 ^ 31) (s.runs.look k).idx) ((s.runs.keysOf fun r => r.st != .free && r.wq == q).filter (· < 8192))

/-- Live runs counted against CONC (R188). -/
def State.liveCount (s : State) (q : Nat) : Nat := (s.liveOf q).length

/-- A queue stops (R189 to R191): live runs end ABORTED (R107), started entries are owed, then `skip` unread ones from C, which C passes. -/
def State.wqStop (s : State) (q : Nat) (after : WqSt) (skip : Nat) (firstSt firstTag : Nat) (byCmd : Option Nat) : State :=
  let w := s.wqs.look q
  let started := (s.liveOf q).map fun k =>
    let r := s.runs.look k
    (⟨r.idx, some k, stAborted, r.pc, r.etag, decide (r.evmode = 2), if r.ctrEn then some r.ctr else none, false, r.reported⟩ : Owed)
  let unread := (List.range skip).map fun i =>
    (⟨(w.c + i) % 2 ^ 32, none, if i = 0 then firstSt else stAborted, 0, if i = 0 then firstTag else 0, true, none, true, false⟩ : Owed)
  let w' := { w with
    st := .stopping, owed := started ++ unread, after := after, byCmd := byCmd, c := (w.c + skip) % 2 ^ 32, sched := false, found := none, turn := 0, reading := false, busLogged := decide (after = .error ∧ w.err = stBus) }
  let s := { s with wqs := s.wqs.put q w' }
  let s := (s.liveOf q).foldl (fun s k => s.endRun k stAborted true) s
  s.later (.wqPump q)

/-- A queue meets an error (R172, R192): `err` is the status ERR shows. -/
def State.wqError (s : State) (q err skip firstSt firstTag : Nat) : State :=
  ({ s with wqs := s.wqs.upd q fun w => { w with err := err } }).wqStop q .error skip firstSt firstTag none

/-- Clears BUSY and sets RESULT of a queue command set. -/
def State.queResult (s : State) (r res : Nat) : State := (s.put (F.QUE_CMD_BUSY r) 0).put (F.QUE_CMD_RESULT r) res

/-- Writes CONSUMER to the QCB (R173). -/
def State.writeConsumer (s : State) (q : Nat) : State :=
  let w := s.wqs.look q
  (s.access (.qcbWr q) w.pasid ((s.pas.look w.pasid).dom.getD 0) .write false [(w.qcb + 8, 4)] (leBytes w.c 4)).2

/-- The queue has reported its last completion: CONSUMER write, end state, command result, QUEUE event (R191, R196). -/
def State.wqStopped (s : State) (q : Nat) : State :=
  let s := s.writeConsumer q
  let w := s.wqs.look q
  let s := { s with wqs := s.wqs.put q { w with st := w.after, byCmd := none } }
  let s := if w.after = .error then s.wqEvent q (mkEv s 7 w.err 0 q 0 0 4 0 .none) else s
  let s := match w.byCmd with | some r => s.queResult r 0 | none => s
  if w.after = .free then { s with wqs := s.wqs.del q } else s

/-- Goes on with the completions a STOPPING queue owes (R191). -/
def State.wqPump (s : State) (q : Nat) : State :=
  let w := s.wqs.look q
  if w.st != .stopping then s
  else match w.owed with
    | [] => s.wqStopped q
    | e :: rest =>
      if !e.ready || e.posted then s
      else
        let s := { s with wqs := s.wqs.put q { w with owed := { e with posted := true } :: rest } }
        let r := s.runs.look (e.ctx.getD sbCtx)
        let want := if e.ctx.isSome then decide (r.evmode = 2 ∨ (r.evmode = 1 ∧ e.status ≠ stOk)) else true
        if want then s.wqEvent q (entryEv s q e.status e.pc e.idx e.etag (.owed q)) else s.later (.evSeen (.owed q))

/-- The owed entry's event is visible. -/
def State.owedSeen (s : State) (q : Nat) : State :=
  let w := s.wqs.look q
  match w.owed with
  | [] => s
  | e :: rest =>
    let s := { s with wqs := s.wqs.put q { w with owed := rest } }
    let s := match e.ctx with | some c => s.entrySeen c | none => s
    s.later (.wqPump q)

/-- What a visible event releases. -/
def State.evSeen (s : State) (c : EvCont) : State :=
  match c with
  | .none => s
  | .op k => s.opSeen k
  | .entry ctx => s.entrySeen ctx
  | .owed q => s.owedSeen q

end Sys2Proof.Machine
end

