-- ==== Sys2Proof/Machine/Operands.lean ====
section
/-!
DEFINITION. Operand forms: the instruction word and extension word (R84, R85), the opcode map with its flags (R122, R129), registers an
instruction names (R126), program fetch (R89, R90), authority (R37, R118), issue (R121, R125), and the local addresses of an operation.
-/
namespace Sys2Proof.Machine

/-- A decoded instruction (R84, R85). -/
structure Ins where
  w : Word
  opcode : Nat
  ext : Bool
  nb : Bool
  sigl : Bool
  sigr : Bool
  opf : Nat
  ra : Nat
  rb : Nat
  rc : Nat
  rd : Nat
  imm : Nat
  w2 : Word
  size : Nat
deriving DecidableEq, Repr, Inhabited

/-- Splits an instruction word; `w2` is its extension or literal word. -/
def Ins.of (w w2 : Word) : Ins :=
  let oc := wbits w 63 56
  { w := w, opcode := oc, ext := wbit w 55, nb := wbit w 54, sigl := wbit w 53, sigr := wbit w 52, opf := wbits w 51 48, ra := wbits w 47 44,
    rb := wbits w 43 40, rc := wbits w 39 36, rd := wbits w 35 32, imm := wbits w 31 0, w2 := w2,
    size := if wbit w 55 || oc == 2 then 2 else 1 }

/-- IMM32 sign-extended to 64 bits. -/
def Ins.simm (i : Ins) : Word := (BitVec.ofNat 32 i.imm).signExtend 64

/-- LCTR, RCTR and TAG of the extension word (R85). -/
def Ins.lctr (i : Ins) : Nat := wbits i.w2 63 48
def Ins.rctr (i : Ins) : Nat := wbits i.w2 47 32
def Ins.tag (i : Ins) : Nat := if i.ext then wbits i.w2 31 0 else 0

/-- An opcode is unassigned (R122). -/
def unassigned (o : Nat) : Bool :=
  (0x0E ≤ o && o ≤ 0x0F) || (0x13 ≤ o && o ≤ 0x1F) || (0x27 ≤ o && o ≤ 0x2F) || (0x33 ≤ o && o ≤ 0x3F) || (0x44 ≤ o && o ≤ 0x4F) ||
  (0x54 ≤ o && o ≤ 0x5F) || (0x62 ≤ o && o ≤ 0x6F) || (0x72 ≤ o && o ≤ 0x7F) || 0x8A ≤ o

/-- Privileged opcodes (R129). -/
def privileged (o : Nat) : Bool := 0x80 ≤ o && o ≤ 0x89

/-- The flags an opcode allows: EXT with SIGL, NB, SIGR (R129). -/
def allowExt (o : Nat) : Bool := (0x20 ≤ o && o ≤ 0x26) || o == 0x30 || o == 0x31 || (0x50 ≤ o && o ≤ 0x53) || privileged o
def allowNb (o : Nat) : Bool := allowExt o || o == 0x41 || o == 0x42 || o == 0x70
def allowSigr (o : Nat) : Bool := (0x20 ≤ o && o ≤ 0x25) || o == 0x30

/-- OPF values an opcode defines (R129); NOP and END ignore OPF (R130). -/
def allowOpf (o opf : Nat) : Bool :=
  if o = 0x00 ∨ o = 0x01 then true
  else if (0x06 ≤ o ∧ o ≤ 0x0C) ∨ o = 0x20 ∨ o = 0x22 ∨ o = 0x23 ∨ o = 0x40 ∨ o = 0x41 ∨ o = 0x60 ∨ o = 0x71 then opf ≤ 1
  else if o = 0x11 ∨ o = 0x51 then opf ≤ 5
  else if o = 0x12 ∨ o = 0x80 ∨ o = 0x84 ∨ o = 0x85 then opf ≤ 2
  else if o = 0x24 ∨ o = 0x25 then opf ≤ 11
  else if o = 0x81 ∨ o = 0x87 ∨ o = 0x89 then opf ≤ 1
  else if o = 0x83 then opf ≤ 4
  else if o = 0x86 then opf ≤ 3
  else opf == 0

/-- The flags and OPF are allowed (R86). -/
def Ins.flagsOk (i : Ins) : Bool :=
  (!i.ext || allowExt i.opcode) && (!i.nb || allowNb i.opcode) && (!i.sigl || (allowExt i.opcode && i.ext)) &&
  (!i.sigr || (allowSigr i.opcode && i.ext)) && allowOpf i.opcode i.opf

/-- General registers an instruction names as source or destination (R126, R129, R161). -/
def Ins.regs (i : Ins) : List Nat :=
  let o := i.opcode
  if o ≤ 0x01 ∨ o = 0x10 ∨ o = 0x43 ∨ o = 0x50 ∨ o = 0x53 ∨ o = 0x61 then []
  else if o = 0x02 ∨ o = 0x03 then [i.rd]
  else if o = 0x04 ∨ o = 0x0D ∨ o = 0x32 ∨ o = 0x60 then [i.ra, i.rd]
  else if o = 0x05 ∨ o = 0x11 ∨ o = 0x70 then [i.ra, i.rb]
  else if 0x06 ≤ o ∧ o ≤ 0x0C then (if i.opf = 1 then [i.ra, i.rd] else [i.ra, i.rb, i.rd])
  else if o = 0x12 then [15]
  else if o = 0x20 then (if i.opf = 1 then [i.ra, i.rb] else [i.ra])
  else if o = 0x24 then [i.ra, i.rb, i.rc]
  else if o = 0x25 then [i.ra, i.rb, i.rc, i.rd]
  else if o = 0x31 then [i.ra, i.rd]
  else if o = 0x40 then (if i.opf = 1 then [i.rb] else [i.ra, i.rb])
  else if o = 0x41 then (if i.opf = 1 then [i.ra] else [])
  else if o = 0x84 then [i.ra, i.rd]
  else if o = 0x86 then [i.ra, i.rb, i.rc]
  else if o = 0x80 ∨ o = 0x83 ∨ o = 0x88 ∨ o = 0x89 then [i.ra, i.rb]
  else if o = 0x81 then (if i.opf = 1 then [i.ra, i.rb] else [i.ra])
  else [i.ra]

/-! ### Fetch -/

/-- A program's length (R89, R120). -/
def Prog.len : Prog → Nat
  | .inline ws => ws.length
  | .image _ n => n
  | .message ws => ws.length
  | .sideband => 8

/-- What a fetch finds. -/
inductive Fetch where
  | word (w : Word)
  | over
  | miss (va : Nat)
deriving DecidableEq, Repr

/-- The word at a program counter (R89, R90, R94). -/
def State.fetchAt (s : State) (r : Run) (pc : Nat) : Fetch :=
  if pc ≥ r.prog.len then .over
  else match r.prog with
    | .inline ws => .word (ws.getD pc 0)
    | .message ws => .word (ws.getD pc 0)
    | .sideband => .word (s.reg (0x201000 + pc * 8))
    | .image ptr _ =>
      let va := ptr + pc / 8 * 64
      match s.pcache.find? fun l => l.1 == r.pasid.getD 0 && l.2.1 == va with
      | some l => .word (l.2.2.getD (pc % 8) 0)
      | none => .miss va

/-- Starts an access of the run itself; the run waits for it at this instruction. -/
def State.runAccess (s : State) (ctx : Nat) (c : Client) (k : AccKind) (va len : Nat) (data : List Byte) : State :=
  let r := s.runs.look ctx
  let (id, s) := s.access c (r.pasid.getD 0) r.dom k false [(va, len)] data
  s.updRun ctx fun r => { r with await := some id }

/-- The queue of a run holds fabric authority (R37, R118, R120). -/
def State.authority (s : State) (ctx : Nat) (r : Run) : Bool :=
  let strap := s.get F.DEV_AUTH_STRAP
  if ctx = sbCtx then strap == 3
  else if r.wq = 4 then strap != 3
  else if r.wq = 0 then strap == 1 || strap == 2
  else decide (r.wq ≤ 3) && strap == 2

/-- A PF0 of a host port, or the sideband, holds fabric authority for register commands (R37, R528, R541). -/
def State.originAuth (s : State) : Origin → Bool
  | .pf0 p => let strap := s.get F.DEV_AUTH_STRAP; (strap == 1 && p == 0) || strap == 2
  | .sideband => true
  | _ => false

/-- A run preempted at a stage boundary leaves its slot at an instruction boundary (R110). -/
def State.yieldRun (s : State) (ctx : Nat) : State :=
  let r := s.runs.look ctx
  if r.preempt && r.st == .running then
    { s with runs := s.runs.put ctx { r with preempt := false, st := .ready, readySeq := s.readyCtr }, readyCtr := s.readyCtr + 1 }
  else s

/-- The run retires an instruction: step count, program counter, and a preemption that waited for it (R102, R110). -/
def State.retire (s : State) (ctx pc : Nat) : State :=
  ((s.count 0x0200 (s.runs.look ctx).cluster 1 (some (s.runs.look ctx).dom)).updRun ctx fun r => { r with pc := pc, steps := r.steps + 1, desc := none }).yieldRun ctx

/-- A run falls due to issue: steps 1 to 5 of R121, and R126's wait for a pending register. A command that names another opcode than the word's, or a run that
is not at an instruction boundary in a slot, changes nothing. -/
def State.issue (s : State) (ctx : Nat) (mine : Nat → Bool) (k : State → Run → Ins → State) : State :=
  let r := s.runs.look ctx
  if r.st != .running || r.await.isSome || !r.faults.isEmpty then s
  else match s.fetchAt r r.pc with
    | .over => s.endRun ctx stIllegal false
    | .miss va => s.runAccess ctx (.fetch ctx) .fetch va 64 []
    | .word w =>
      let oc := wbits w 63 56
      if !mine oc then s
      else if r.steps = r.limit && oc != 1 then s.endRun ctx stStep false
      else if unassigned oc then s.endRun ctx stIllegal false
      else if privileged oc && !s.authority ctx r then s.endRun ctx stPriv false
      else if !(Ins.of w 0).flagsOk then s.endRun ctx stIllegal false
      else
        let two := (Ins.of w 0).size = 2
        match (if two then s.fetchAt r (r.pc + 1) else .word 0) with
        | .over => s.endRun ctx stIllegal false
        | .miss va => s.runAccess ctx (.fetch ctx) .fetch va 64 []
        | .word w2 =>
          let i := Ins.of w w2
          match i.regs.find? fun n => n != 0 && r.rdPend.any (·.1 == n) with
          | some n => s.updRun ctx fun r => { r with st := .blocked, block := .reg n, nextPc := r.pc }
          | none => k s r i

/-- Step 6 of R121: the descriptor's words, once they have been read (R88, R91, R123). -/
def State.withDesc (s : State) (ctx : Nat) (r : Run) (i : Ins) (n : Nat) (k : State → List Word → State) : State :=
  match r.desc with
  | some ws => k s ws
  | none =>
    let at' := (r.rg i.ra).toNat
    match r.params with
    | .none => s.endRun ctx stBounds false
    | .msg ws => if at' + n ≤ ws.length then k s ((ws.drop at').take n) else s.endRun ctx stBounds false
    | .host ptr words => if at' + n ≤ words then s.runAccess ctx (.desc ctx) .read (ptr + at' * 8) (n * 8) [] else s.endRun ctx stBounds false

/-- A local counter the operation names belongs to the run's domain (R99, R125). -/
def State.lctrOk (s : State) (r : Run) (i : Ins) : Bool := !i.sigl || (s.ctrs.look i.lctr).dom == some r.dom

/-- The least free operation slot of a run (R97). -/
def State.freeSlot (s : State) (ctx : Nat) : Option Nat := (List.range 64).find? fun n => !(s.ops.look (ctx * 64 + n)).live

/-- A blank operation record of an instruction. -/
def mkOp (r : Run) (i : Ins) (e : Engine) : Op :=
  { (default : Op) with
    live := true, opcode := i.opcode, opf := i.opf, pc := r.pc, nb := i.nb, sigl := i.sigl, lctr := i.lctr, sigr := i.sigr, rctr := i.rctr,
    tag := i.tag, seq := r.opSeq, eng := e }

/-- An operation is accepted and retires (R75, R82, R96, R97): a blocking one blocks its run, a non-blocking one writes G15 with the issue status. With 64
outstanding the run blocks before it retires. Answers the operation's number. -/
def State.opIssue (s : State) (ctx : Nat) (i : Ins) (o : Op) (chk : Nat) : Option Nat × State :=
  match s.freeSlot ctx with
  | none => (none, s.updRun ctx fun r => { r with st := .blocked, block := .slots, nextPc := r.pc })
  | some n =>
    let k := ctx * 64 + n
    let s := { s with ops := s.ops.put k o }
    let s := s.updRun ctx fun r => { r with opSeq := r.opSeq + 1 }
    let r := s.runs.look ctx
    if o.nb then
      let s := s.retire ctx (r.pc + i.size)
      let s := s.updRun ctx fun r =>
        let r := r.setG 15 (g15 chk i.opcode 0)
        match o.rd with | some d => (if d = 0 then r else { r with rdPend := r.rdPend ++ [(d, n)] }) | none => r
      (some k, s)
    else
      (some k, (s.count 0x0200 r.cluster 1 (some r.dom)).updRun ctx fun r => { r with
        st := if o.opcode = 0x40 then .waiting else .blocked, block := .op n, nextPc := r.pc + i.size, steps := r.steps + 1, desc := none, preempt := false })

/-- An operation that completes at issue with a status (R125, R160): `bytes` moved and value for RD. -/
def State.opInstant (s : State) (ctx : Nat) (i : Ins) (o : Op) (st bytes : Nat) (val : Option Word) : State :=
  let r := s.runs.look ctx
  match s.opIssue ctx i o st with
  | (none, s) => s
  | (some k, s) =>
    -- an operation without an event goes on in its slot: the run never leaves RUNNING (R100)
    let hasEvent := o.tag != 0 || o.opcode == 0x70 || o.opcode == 0x71
    if hasEvent then s.opDone k st bytes val
    else
      let s := { s with ops := s.ops.del k }.ledger r.dom ldOps 1
      let s := if o.sigl then s.ctrSignal o.lctr r.dom else s
      let s := s.updRun ctx fun x =>
        let x := match o.rd with
          | some d => { (x.setG d (val.getD 0)) with rdPend := x.rdPend.filter (·.2 != k % 64) }
          | none => x
        if o.nb then x
        else { (x.setG 15 (g15 st o.opcode bytes)) with pc := x.nextPc, st := r.st, block := .none, preempt := r.preempt }
      s.yieldRun ctx

/-! ### Local addresses -/

/-- A local address field is a job reference (R183). -/
def isJob (a : Word) : Bool := wbits a 63 62 == 2

/-- Pieces of [off, off + len) within a list of fragments (R183, R185). -/
def fragPieces : List (Nat × Nat) → Nat → Nat → List (Nat × Nat)
  | [], _, _ => []
  | (va, n) :: fs, off, len =>
    if len = 0 then []
    else if off ≥ n then fragPieces fs (off - n) len
    else
      let m := min (n - off) len
      (va + off, m) :: fragPieces fs 0 (len - m)

/-- Bytes in a list of pieces. -/
def pieceLen (ps : List (Nat × Nat)) : Nat := ps.foldl (fun n p => n + p.2) 0

/-- Local pieces of a range at a base address or job offset (`frs` empty: an address). Addresses wrap modulo 2^64. -/
def localPieces (frs : List (Nat × Nat)) (base off len : Nat) : List (Nat × Nat) :=
  if frs.isEmpty then (if len = 0 then [] else [((base + off) % 2 ^ 64, len)]) else fragPieces frs (base + off) len

/-- Ranges of [off, off + len) of an operation's data in element order, on the side that the index table addresses. -/
def elemRanges (esize : Nat) (idx : List Nat) (fuel off len : Nat) : List (Nat × Nat) :=
  match fuel with
  | 0 => []
  | fuel + 1 =>
    if len = 0 ∨ esize = 0 then []
    else
      let m := min (esize - off % esize) len
      (idx.getD (off / esize) 0 + off % esize, m) :: elemRanges esize idx fuel (off + m) (len - m)

/-- Joins pieces that touch. -/
def joinPieces : List (Nat × Nat) → List (Nat × Nat)
  | [] => []
  | (a, n) :: ps =>
    match joinPieces ps with
    | (b, m) :: qs => if a + n = b then (a, n + m) :: qs else (a, n) :: (b, m) :: qs
    | [] => [(a, n)]

/-- Local pieces of a range that an index table addresses: elements that touch share a piece (R297). -/
def idxPieces (frs : List (Nat × Nat)) (base esize : Nat) (idx : List Nat) (off len : Nat) : List (Nat × Nat) :=
  (joinPieces (elemRanges esize idx (len + 1) off len)).flatMap fun p => localPieces frs base p.1 p.2

/-- The index table addresses the local side (R139, R143). -/
def Xfer.localIdx (x : Xfer) : Bool := x.mode == 1

/-- Local pieces of a range of the operation's data: source of a put or COPY, destination of a get. -/
def Op.localAt (o : Op) (off len : Nat) : List (Nat × Nat) :=
  if o.x.localIdx then idxPieces o.x.frs o.x.la o.x.esize o.idx off len else localPieces o.x.frs o.x.la off len

/-- Destination pieces of a COPY (R143): MODE 2 addresses the destination by the index table. -/
def Op.dstAt (o : Op) (off len : Nat) : List (Nat × Nat) :=
  if o.x.mode = 2 then idxPieces o.x.frs2 o.x.dst o.x.esize o.idx off len else localPieces o.x.frs2 o.x.dst off len

/-- The operation needs a local host-memory access (R119). -/
def Op.needsLocal (o : Op) : Bool :=
  match o.opcode with
  | 0x20 => o.x.inl.isNone && decide (o.x.total > 0)
  | 0x21 => decide (o.x.total > 0)
  | 0x22 => decide (o.x.count > 0)
  | 0x23 => decide (o.x.count > 0)
  | 0x26 => true
  | 0x30 => decide (o.x.total > 0)
  | 0x31 => true
  | 0x51 => decide (o.x.count > 0)
  | 0x52 => decide (o.x.total > 0)
  | _ => false

end Sys2Proof.Machine
end

