-- ==== Sys2Proof/Machine/Queues.lean ====
section
/-!
DEFINITION. The work queue engine (R168 to R194): turns, PRODUCER and entry reads, the start of runs, and the queue and event queue commands
of R205 and R561.
-/
namespace Sys2Proof.Machine

/-- State code of a host port's power domain (R535). -/
def State.pdHost (s : State) (p : Nat) : Nat := bitsOf (s.get F.DEV_PD_STATUS_HOST) (2 * p + 1) (2 * p)

/-- The mode whose rules govern work: RETURN while Degraded (R534). -/
def State.workMode (s : State) : Nat := if s.mode = 4 then s.get F.DEV_MODE_RETURN else s.mode

/-- Entries of a queue may start: the mode (R529, R532), a halt or seal, the host link (R28), its power domain (R537). -/
def State.mayStart (s : State) (q : Nat) : Bool :=
  let w := s.wqs.look q
  !s.halted && !s.sealed && (s.workMode == 2 || (decide (q ≤ 4) && (s.workMode == 1 || s.workMode == 3))) &&
  s.get (F.DEV_HOSTPORT_LINK_LOW w.port) == 0 && s.pdHost w.port == 0 && s.portUp w.port

/-- Slots of a cluster in use (R74). -/
def State.residents (s : State) (c : Nat) : Nat := s.runs.count fun r => r.st == .running && r.cluster == c && r.wq != 65536

/-- Clusters a queue's runs may use: CLUSTER_MASK, 0 taken as all (SEQ_QCFG), less fenced ones (R108). -/
def State.clusterOk (s : State) (q c : Nat) : Bool :=
  let m := if q ≥ 65536 then 0 else s.get (F.SEQ_QCFG_CLUSTER_MASK q)
  (m == 0 || m.testBit c) && !s.fenced.contains c

/-- Saved READY runs that may use a cluster. -/
def State.readyFor (s : State) (c : Nat) : List Nat :=
  (s.runs.keysOf (·.st == .ready)).filter fun k => s.clusterOk (s.runs.look k).wq c

/-- A cluster for a new run: one with a free slot that no saved READY run may use (R77, R78). -/
def State.pickCluster (s : State) (q : Nat) : Option Nat :=
  (List.range 16).find? fun c => s.clusterOk q c && decide (s.residents c < 128) && (s.readyFor c).isEmpty

/-- A free context (R73): the model takes the lowest. -/
def State.freeContext (s : State) : Option Nat := s.runs.free 0 8192

/-- Puts a run into a context, RUNNING if a cluster takes it, otherwise READY (R77). -/
def State.startRun (s : State) (ctx : Nat) (r : Run) : State :=
  match s.pickCluster r.wq with
  | some c => ({ s with runs := s.runs.put ctx { r with st := .running, cluster := c, resid := 0 } }.count 0x0201 c 1 (some r.dom)).runSaved ctx
  | none => { s with runs := s.runs.put ctx { r with st := .ready, readySeq := s.readyCtr }, readyCtr := s.readyCtr + 1 }

/-- The step limit in force for a new run (R103). -/
def State.stepLimit (s : State) (q : Nat) : Nat := let n := s.get (F.SEQ_QCFG_STEP_LIMIT q); if n = 0 then 65536 else n

/-- An entry is well formed (R180 to R182). -/
def State.entryOk (s : State) (dom : Nat) (ws : List Word) : Bool :=
  let h := ws.getD 0 0
  let form := wbits h 62 61
  let iw := wbits h 60 58
  let pw := wbits h 54 42
  let fc := wbits h 41 33
  let w n := (ws.getD n 0).toNat
  decide (form ≤ 1) && wbits h 57 56 != 3 && decide (pw ≤ 4096) && decide (fc ≤ 256) &&
  (!wbit h 55 || (s.ctrs.look (wbits h 31 16)).dom == some dom) &&
  (if form = 0 then
    decide (1 ≤ iw) && (fc == 0 || (decide (iw ≤ 5) && w 6 % 16 == 0)) && (pw == 0 || (decide (iw ≤ 6) && w 7 % 8 == 0))
   else
    w 1 % 64 == 0 && decide (1 ≤ w 2 % 8192 ∧ w 2 % 8192 ≤ 4096) && (pw == 0 || w 3 % 8 == 0) && (fc == 0 || w 4 % 16 == 0))

/-- The run of an entry at its start (R79, R89, R91, R180, R181). -/
def State.entryRun (s : State) (q idx : Nat) (ws : List Word) : Run :=
  let w := s.wqs.look q
  let h := ws.getD 0 0
  let inl := wbits h 62 61 == 0
  let pw := wbits h 54 42
  let fc := wbits h 41 33
  { (default : Run) with
    wq := q, idx := idx, port := w.port, fn := w.fn, pasid := some w.pasid, dom := (s.pas.look w.pasid).dom.getD 0, limit := s.stepLimit q,
    prog := if inl then .inline ((ws.drop 1).take (wbits h 60 58)) else .image (ws.getD 1 0).toNat ((ws.getD 2 0).toNat % 8192),
    params := if pw = 0 then .none else .host (ws.getD (if inl then 7 else 3) 0).toNat pw,
    fragPtr := (ws.getD (if inl then 6 else 4) 0).toNat, fragCount := fc,
    etag := wbits h 15 0, evmode := wbits h 57 56 % 3, ctrEn := wbit h 55, ctr := wbits h 31 16 }

/-- The slot of an index (R171). -/
def Wq.slotVa (w : Wq) (i : Nat) : Nat := w.base + i % 2 ^ w.log2 * 64

/-- A ring or QCB access of a queue. -/
def State.qRead (s : State) (q : Nat) (c : Client) (va len : Nat) : State :=
  let w := s.wqs.look q
  let s := { s with wqs := s.wqs.put q { w with reading := true } }
  (s.access c w.pasid ((s.pas.look w.pasid).dom.getD 0) .read false [(va, len)] []).2

/-- A turn ends: CONSUMER is written if entries were taken (R173). -/
def State.turnEnd (s : State) (q : Nat) : State :=
  let w := s.wqs.look q
  let s := { s with wqs := s.wqs.put q { w with turn := 0, took := false } }
  if w.took then s.writeConsumer q else s

/-- A turn goes on with its next entry, or ends (R178, R187). -/
def State.turnNext (s : State) (q : Nat) : State :=
  let w := s.wqs.look q
  if w.st != .running || w.turn == 0 || decide (s.liveCount q ≥ w.conc) || s.freeContext.isNone then s.turnEnd q
  else if w.own then
    match w.found with
    | some _ => s.qRead q (.entry q) (w.slotVa w.c + 8) 56
    | none => s.qRead q (.hdr q) (w.slotVa w.c) 8
  else if w.c = w.prod then s.turnEnd q
  else s.qRead q (.entry q) (w.slotVa w.c) 64

/-- A queue is eligible for service (R187). -/
def State.eligible (s : State) (q : Nat) : Bool :=
  let w := s.wqs.look q
  w.st == .running && w.turn == 0 && !w.reading && (if w.own then w.found.isSome else w.sched) && decide (s.liveCount q < w.conc) &&
  s.freeContext.isSome && s.mayStart q

/-- WQ_TURN's operation: a turn of an eligible queue, boosted ones strictly first, WEIGHT turns a round (R187). -/
def State.wqTurn (s : State) (q : Nat) : State :=
  let cls := (s.wqs.keys.filter fun j => (s.wqs.look j).boost == (s.wqs.look q).boost && s.eligible j)
  let higher := !(s.wqs.look q).boost && s.wqs.keys.any fun j => (s.wqs.look j).boost && s.eligible j
  if !s.eligible q || higher then s
  else
    let spent := cls.all fun j => decide ((s.wqs.look j).used ≥ max (s.wqs.look j).weight 1)
    let s := if spent then cls.foldl (fun s j => { s with wqs := s.wqs.upd j fun w => { w with used := 0 } }) s else s
    let w := s.wqs.look q
    if w.used ≥ max w.weight 1 then s
    else
      let s := { s with wqs := s.wqs.put q { w with used := w.used + 1, turn := w.burst, took := false } }
      if !w.own && w.c == w.prod then
        ({ s with wqs := s.wqs.upd q fun w => { w with rang := false } }).qRead q (.prod q) w.qcb 4
      else s.turnNext q

/-- A PRODUCER value has been read in doorbell mode (R172, R174). -/
def State.prodSeen (s : State) (q p : Nat) : State :=
  let w := s.wqs.look q
  let d := fwd 32 w.c p
  if d > 2 ^ w.log2 then
    (s.fltAt 0x041 (BitVec.ofNat 64 q) (some w.port)).wqError q stAborted (2 ^ w.log2) stAborted 0
  else
    { s with wqs := s.wqs.put q { w with prod := p, sched := decide (d ≠ 0) || w.rang } }

/-- A failed access of a running queue (R192): `tag` is ETAG if the header at C was read; `atC` the entry at C was being read. -/
def State.queueFault (s : State) (q : Nat) (r : AccRes) (atC : Bool) (tag : Nat) : State :=
  let w := s.wqs.look q
  let err := match r with | .busErr => stBus | _ => stXlate
  let s := if err = stBus then s.fltAt 0x042 (BitVec.ofNat 64 q) (some w.port) else s
  let left := if w.own then (if atC then 1 else 0) else fwd 32 w.c w.prod
  s.wqError q err left (if atC then err else stAborted) tag

/-- PRODUCER has returned. -/
def State.prodDone (s : State) (q : Nat) (r : AccRes) : State :=
  let s := { s with wqs := s.wqs.upd q fun w => { w with reading := false } }
  let w := s.wqs.look q
  if w.st != .running then s
  else match r with
    | .ok ws =>
      let s := s.prodSeen q ((ws.headD 0).toNat % 2 ^ 32)
      if (s.wqs.look q).st = .running then s.turnNext q else s
    | r => s.queueFault q r false 0

/-- The expected phase of an index (R177). -/
def Wq.phase (w : Wq) (i : Nat) : Bool := i / 2 ^ w.log2 % 2 == 0

/-- A header has returned in ownership-bit mode (R177, R178): an invalid phase ends the turn and polling goes on. -/
def State.hdrDone (s : State) (q : Nat) (r : AccRes) : State :=
  let s := { s with wqs := s.wqs.upd q fun w => { w with reading := false } }
  let w := s.wqs.look q
  if w.st != .running then s
  else match r with
    | .ok ws =>
      let h := ws.headD 0
      if wbit h 63 == w.phase w.c then
        let s := { s with wqs := s.wqs.put q { w with found := some h } }
        if w.turn > 0 then s.turnNext q else s
      else ({ s with wqs := s.wqs.put q { w with found := none } }).turnEnd q
    | r => s.queueFault q r true 0

/-- An entry has returned: it is checked and taken, and its run starts (R173, R182, R188). -/
def State.entryDone (s : State) (q : Nat) (r : AccRes) : State :=
  let s := { s with wqs := s.wqs.upd q fun w => { w with reading := false } }
  let w := s.wqs.look q
  if w.st != .running then s
  else match r with
    | .ok ws0 =>
      let ws := if w.own then w.found.getD 0 :: ws0 else ws0
      match s.freeContext with
      | none => s.turnEnd q
      | some ctx =>
        let run := s.entryRun q w.c ws
        let ok := s.entryOk run.dom ws
        let s := { s with wqs := s.wqs.put q { w with c := (w.c + 1) % 2 ^ 32, turn := w.turn - 1, took := true, found := none } }
        let s := (s.startRun ctx run).count 0x0100 q 1 (some run.dom)
        let s := if (s.pas.look w.pasid).st != .active || (s.pas.look w.pasid).dom.isNone then s.endRun ctx stAborted true
          else if ok then s else s.endRun ctx stIllegal false
        s.turnNext q
    | r => s.queueFault q r true (match w.found with | some h => wbits h 15 0 | none => 0)

/-- A CONSUMER write ended (R191, R192). -/
def State.qcbWrDone (s : State) (q : Nat) (r : AccRes) : State :=
  let w := s.wqs.look q
  match r with
  | .ok _ => s
  | r =>
    if w.st = .running then s.queueFault q r false 0
    else if r == .busErr && !w.busLogged && w.st != .free then
      let s := { s with wqs := s.wqs.put q { w with busLogged := true } }
      if (s.ports.look w.port).up then s.fltAt 0x042 (BitVec.ofNat 64 q) (some w.port) else s
    else s

/-- A read of the engine in flight returned: it is one a return command may name. -/
def State.accReturn (s : State) (id : Nat) (mine : Client → Bool) (r : AccRes) : State :=
  let a := s.accs.look id
  if a.st = .issued && mine a.client then s.accEnd id r else s

/-- The outcome of a returned read. -/
def resAcc : ReadRes → AccRes
  | .ok ws => .ok ws
  | .busErr => .busErr

/-! ### Queue commands -/

/-- The QCB fields are in range and aligned (R168, R169, R205). -/
def qcbFieldsOk (ws : List Word) : Bool :=
  let b := (ws.getD 2 0).toNat
  let c := ws.getD 3 0
  b % 4096 == 0 && decide (6 ≤ wbits c 4 0 ∧ wbits c 4 0 ≤ 16) && decide (1 ≤ wbits c 15 8) && decide (1 ≤ wbits c 22 16 ∧ wbits c 22 16 ≤ 64) &&
  decide (1 ≤ wbits c 30 24 ∧ wbits c 30 24 ≤ 64) && decide (1 ≤ wbits c 38 32 ∧ wbits c 38 32 ≤ 64)

/-- Takes the configuration fields (R170). -/
def Wq.config (w : Wq) (ws : List Word) : Wq :=
  let c := ws.getD 3 0
  { w with
    base := (ws.getD 2 0).toNat, log2 := wbits c 4 0, own := wbit c 5, weight := wbits c 15 8, burst := wbits c 22 16, conc := wbits c 30 24,
    poll := wbits c 38 32, lockPrio := wbits c 42 40, eq := wbits c 61 48, eqEn := wbit c 62, pollLeft := wbits c 38 32 }

/-- Records OP, INDEX and the set's BUSY as the command's write left them; ignored while BUSY = 1. A WQ or EQ on which another set's command runs
answers BUSY (R205). -/
def State.queueCmd (s : State) (r op index : Nat) (k : State → State) : State :=
  if s.flag (F.QUE_CMD_BUSY r) then s
  else if s.halted then s.put (F.QUE_CMD_RESULT r) 1 -- R512: no queue's state changes again until reset
  else
    let s := (s.put (F.QUE_CMD_OP r) op).put (F.QUE_CMD_INDEX r) index
    let other := (List.range 5).any fun j =>
      j != r && s.flag (F.QUE_CMD_BUSY j) && s.get (F.QUE_CMD_INDEX j) == index && (decide (op ≤ 4) == decide (s.get (F.QUE_CMD_OP j) ≤ 4))
    if other then s.queResult r 6 else k s

/-- The domain of a function: D0000 for PF0, else what BIND_FUNC bound (R561). -/
def State.fnDom (s : State) (port fn : Nat) : Option Nat := if fn = 0 then some 0 else (s.fnOf port fn).dom

/-- FUNCTION names a VF above NumVFs of PORT (R30, R205). -/
def State.fnBad (s : State) (port fn : Nat) : Bool := decide (fn > s.get (F.DEV_HOSTPORT_NUMVF port))

/-- CREATE_WQ (R190, R194, R561). -/
def State.createWq (s : State) (r index : Nat) (q : QcbRes) : State :=
  s.queueCmd r 0 index fun s =>
    let adr := s.get (F.QUE_CMD_ARG0_ADDR r)
    let pasid := s.get (F.QUE_CMD_ARG1_PASID r)
    let port := s.get (F.QUE_CMD_ARG1_PORT r)
    let fn := s.get (F.QUE_CMD_ARG1_FUNCTION r)
    let p := s.pas.look pasid
    if (s.wqs.look index).st != .free || index == 4 then s.queResult r 1
    else if adr % 64 != 0 || s.fnBad port fn then s.queResult r 2
    else if (index ≤ 3 && !(fn == 0 && port == index && p.dom == some 0)) || p.dom.isNone || s.fnDom port fn != p.dom then s.queResult r 5
    else match q with
      | .busErr => s.queResult r 3
      | .xlate => s.queResult r 4
      | .ok ws =>
        let w : Wq := { (default : Wq) with qcb := adr, pasid := pasid, port := port, fn := fn, st := .stopped, c := (ws.getD 1 0).toNat % 2 ^ 32 }
        let w := { w.config ws with prod := w.c }
        let e := s.eqs.look w.eq
        if !qcbFieldsOk ws || (w.eqEn && e.st != .active) then s.queResult r 2
        else if w.eqEn && some e.dom != p.dom then s.queResult r 5
        else { s with wqs := s.wqs.put index w }.queResult r 0

/-- START_WQ (R170, R176, R190). -/
def State.startWq (s : State) (r index : Nat) (q : QcbRes) : State :=
  s.queueCmd r 1 index fun s =>
    let w := s.wqs.look index
    if w.st != .stopped || index == 4 then s.queResult r 1
    else match q with
      | .busErr => s.queResult r 3
      | .xlate => s.queResult r 4
      | .ok ws =>
        let w' := w.config ws
        if !qcbFieldsOk ws || (w'.eqEn && (s.eqs.look w'.eq).st != .active) then s.queResult r 2
        else
          let s := { s with wqs := s.wqs.put index { w' with st := .running, sched := false, found := none } }
          let s := s.queResult r 0
          if w'.own then s else s.prodSeen index ((ws.getD 0 0).toNat % 2 ^ 32)

/-- STOP_WQ (R190): live runs end, unread entries stay. -/
def State.stopWq (s : State) (r index : Nat) : State :=
  s.queueCmd r 2 index fun s =>
    if (s.wqs.look index).st != .running || index == 4 then s.queResult r 1
    else (s.put (F.QUE_CMD_BUSY r) 1).wqStop index .stopped 0 0 0 (some r)

/-- RESET_WQ and DESTROY_WQ (R190, R560): entries from C to the PRODUCER read complete ABORTED, at most size entries. -/
def State.resetWq (s : State) (r index : Nat) (prod : QcbRes) (destroy : Bool) : State :=
  s.queueCmd r (if destroy then 4 else 3) index fun s =>
    let w := s.wqs.look index
    if !(w.st == .stopped || w.st == .running || w.st == .error) || index == 4 then s.queResult r 1
    else
      let s := match prod with | .busErr => s.fltAt 0x042 (BitVec.ofNat 64 index) (some w.port) | _ => s
      let p := match prod with | .ok ws => (ws.headD 0).toNat % 2 ^ 32 | _ => w.prod
      let n := min (fwd 32 w.c p) (2 ^ w.log2)
      let s := { s with wqs := s.wqs.put index { w with prod := p } }
      ((s.put (F.QUE_CMD_BUSY r) 1).later (.wqReset index)).wqStop index (if destroy then .free else .stopped) n stAborted 0 (some r)

/-- What a reset of a function does to a queue it owns (R193): as RESET_WQ, left STOPPED. Events and QCB writes that the port cannot carry are
discarded without a fault; behind a fence of the port (R67) a failed CONSUMER write is logged, as the example of spec/20 has it. -/
def State.wqFnReset (s : State) (q : Nat) (faults : Bool) : State :=
  let w := s.wqs.look q
  if w.st = .free then s
  else
    let e := s.eqs.look w.eq
    let carried := s.portUp e.port && (s.fnOf e.port e.fn).bme
    let n := min (fwd 32 w.c w.prod) (2 ^ w.log2)
    let s := s.later (.wqReset q)
    let s :=
      if w.st = .stopping then
        let unread := (List.range n).map fun i => (⟨(w.c + i) % 2 ^ 32, none, stAborted, 0, 0, true, none, true, false⟩ : Owed)
        ({ s with wqs := s.wqs.put q { w with owed := w.owed ++ unread, c := (w.c + n) % 2 ^ 32, after := if w.after = WqSt.free then WqSt.free else WqSt.stopped } }).later (.wqPump q)
      else s.wqStop q .stopped n stAborted 0 none
    { s with wqs := s.wqs.upd q fun w => { w with busLogged := w.busLogged || !faults, eqEn := w.eqEn && carried } }

/-- CREATE_EQ (R198, R205, R561). -/
def State.createEq (s : State) (r e vfslot : Nat) : State :=
  s.queueCmd r 5 e fun s =>
    let s := s.put (F.QUE_CMD_VFSLOT r) vfslot
    let adr := s.get (F.QUE_CMD_ARG0_ADDR r)
    let log2 := s.get (F.QUE_CMD_ARG1_LOG2_SIZE r)
    let port := s.get (F.QUE_CMD_ARG1_PORT r)
    let fn := s.get (F.QUE_CMD_ARG1_FUNCTION r)
    let vec := s.get (F.QUE_CMD_ARG1_VECTOR r)
    let cnt := s.get (F.QUE_CMD_ARG1_MOD_COUNT r)
    let used := s.eqs.vals.any fun q => q.st != .free && q.port == port && q.fn == fn && q.vfslot == some vfslot
    if e ≥ 16384 then s.queResult r 2
    else if (s.eqs.look e).st != .free then s.queResult r 1
    else if adr % 4096 != 0 || log2 < 6 || log2 > 20 || s.fnBad port fn || cnt == 0 || vec ≥ (if fn = 0 then 2048 else 64) || (fn != 0 && used) then
      s.queResult r 2
    else match s.fnDom port fn with
      | none => s.queResult r 5
      | some d =>
        let q : Evq := { (default : Evq) with
          st := .active, pasid := s.get (F.QUE_CMD_ARG1_PASID r), port := port, fn := fn, dom := d, base := adr, log2 := log2, vector := vec,
          modCount := cnt, modStages := s.get (F.QUE_CMD_ARG1_MOD_STAGES r), vfslot := if fn = 0 then none else some vfslot }
        { s with eqs := s.eqs.put e q }.queResult r 0

/-- DESTROY_EQ (R205): BAD_STATE while a queue or address space names it, or an event is held for it. -/
def State.destroyEq (s : State) (r e : Nat) : State :=
  s.queueCmd r 6 e fun s =>
    let q := s.eqs.look e
    let named := s.wqs.vals.any (fun w => w.st != .free && w.eqEn && w.eq == e) || s.pas.vals.any fun p => p.st != .free && p.faultEq == e
    if e ≥ 16384 then s.queResult r 2
    else if q.st = .free || named || !q.held.isEmpty then s.queResult r 1
    else { s with eqs := s.eqs.del e }.queResult r 0

/-- A write of QUE_EQ_CONS: CONSUMER under R201, then ARM under R202. `arm`: the write sets ARM. -/
def State.eqConsume (s : State) (e v : Nat) : State :=
  let q := s.eqs.look e
  let v := v % 2 ^ 32
  let bad := fun (s : State) => s.fltAt 0x045 (packW [(0, e), (32, v)]) (if q.st = .free then none else some q.port)
  if q.st = .free then bad s
  else if fwd 32 q.cons v ≤ fwd 32 q.cons q.prod then { s with eqs := s.eqs.put e { q with cons := v } }.later (.eqPump e)
  else bad s

/-- ARM set (R202): a message at once if events wait. -/
def State.eqArm (s : State) (e : Nat) : State :=
  let q := s.eqs.look e
  if q.st = .free then s
  else
    let s := { s with eqs := s.eqs.put e { q with arm := true, since := 0, sinceStages := 0 } }
    if q.prod ≠ q.cons then s.eqMessage e else s

/-- The moderation time is over (R202). -/
def State.eqModerate (s : State) (e : Nat) : State :=
  let q := s.eqs.look e
  if q.arm && decide (q.since ≥ 1 ∧ q.modStages ≥ 1 ∧ q.sinceStages ≥ q.modStages) then s.eqMessage e else s

/-- A doorbell (R32, R33, R175, R176): accepted only for a queue of the page's group, through its owner's BAR2 or PF0 of its port. -/
def State.doorbell (s : State) (d : DbWrite) : State :=
  let v := d.value.toNat
  let w := s.wqs.look v
  let j := d.page / 4
  let slot := s.reg (0x110000 + (d.port * 128 + (d.fn - 1)) * 0x80 + j * 8)
  let k := d.page % 4
  let page := if d.fn = 0 then some d.page else if wbit slot (16 * k + 15) then some (wbits slot (16 * k + 11) (16 * k)) else none
  let exists' := v == 4 || (v < 65536 && w.st != .free)
  let owner := if v = 4 then false else d.port == w.port && (d.fn == 0 || d.fn == w.fn)
  if s.halted || s.sealed then s
  else if d.is32 && page == some (v / 16) && exists' && owner then
    let s := s.count 0x0101 v 1 (some ((s.pas.look w.pasid).dom.getD 0))
    if w.st != .running || s.workMode == 3 && v > 4 then
      if w.st = .running then { s with wqs := s.wqs.put v { w with sched := true, rang := true } } else s
    else if w.own then
      if w.reading || w.found.isSome then s else s.qRead v (.hdr v) (w.slotVa w.c) 8
    else { s with wqs := s.wqs.put v { w with sched := true, rang := true } }
  else s.fltAt 0x040 (packW [(0, v), (34, d.fn), (42, d.port)]) (some d.port)

/-- OWNERSHIP_POLL's operation (R178). -/
def State.ownPoll (s : State) (q : Nat) : State :=
  let w := s.wqs.look q
  if w.st = .running && w.own && !w.reading && w.found.isNone && w.turn == 0 && decide (w.pollLeft = 0) && s.mayStart q then
    ({ s with wqs := s.wqs.put q { w with pollLeft := w.poll } }).qRead q (.hdr q) (w.slotVa w.c) 8
  else s

end Sys2Proof.Machine
end

