-- ==== Sys2Proof/Machine/Wire.lean ====
section
/-!
DEFINITION. The end-to-end layer (R381 to R410): headers, protection (R440 to R444), pair channels, acknowledgement, refusal and re-send.
-/
namespace Sys2Proof.Machine

/-! ### Endpoints, routers, keys -/

/-- The device's router ID. -/
def State.self (s : State) : Nat := s.get F.RTC_SELF_ROUTER_ID

/-- The router and host port an endpoint entry names (R336, R337). -/
def State.endpoint (s : State) (node : Nat) : Option (Nat × Nat) :=
  let e := s.eps.look node
  if e.testBit 31 then some (bitsOf e 15 0, bitsOf e 17 16) else none

/-- The node ID of a host port: the lowest node whose entry names this router and the port. -/
def State.nodeOf (s : State) (port : Nat) : Nat :=
  (s.eps.find? fun e => e.2.testBit 31 && bitsOf e.2 15 0 == s.self && bitsOf e.2 17 16 == port).elim 0 (·.1)

/-- The device's incarnation (R406). -/
def State.inc (s : State) : Nat := s.get F.WPR_INCARNATION_VALUE

/-- Lifetime in stages (WPR_E2E_CTRL). -/
def State.lifetime (s : State) : Nat := s.atLeast F.WPR_E2E_CTRL_LIFETIME 16
def State.timeout (s : State) : Nat := s.atLeast F.WPR_E2E_CTRL_TIMEOUT 1
def State.resendLimit (s : State) : Nat := s.atLeast F.WPR_E2E_CTRL_RESEND_LIMIT 1
def State.gapStages (s : State) : Nat := s.atLeast F.WPR_E2E_CTRL_GAP_STAGES 1
def State.rnrStages (s : State) : Nat := s.atLeast F.WPR_E2E_CTRL_RNR_STAGES 1
def State.retain (s : State) : Nat := max (s.get F.WPR_E2E_CTRL_RETAIN) (2 * s.lifetime)

/-- The current key of a domain (R436). -/
def State.key (s : State) (d : Nat) : Option Key := (s.doms.look d).cur

/-- The age of a packet (R403). -/
def State.age (s : State) (birth : Nat) : Nat := fwd 12 birth s.now

/-- The birth stage a receiver forms (R440). -/
def State.birthStage (s : State) (birth : Nat) : Nat := s.now - s.age birth

/-- Opcode values (R383), without the channel bit. -/
def pktCode (o : PktOp) (chan : Nat) : Nat :=
  match o with
  | .put => 0 + chan | .get => 2 + chan | .amo => 4 + chan | .eager => 6 + chan | .rts => 8 + chan | .rget => 10 + chan
  | .getResp => 12 | .amoResp => 13 | .rgetResp => 14 | .coll => 15

/-- The IV of a DATA packet (R440). -/
def dataIv (srcNode srcFunc dstNode dstFunc code psn srcInc birth : Nat) (lo : Nat) : List Word :=
  [packW [(0, srcNode), (20, srcFunc), (28, dstNode), (48, dstFunc), (56, code)],
   packW [(0, psn % 2 ^ 24), (24, srcInc), (40, birth % 2 ^ 24)],
   packW [(0, birth / 2 ^ 24 % 2 ^ 24), (24, lo % 2 ^ 32)]]

/-- The IV of a CTL packet (R440). -/
def ctlIv (srcNode srcFunc dstNode dstFunc kind chan psn srcInc birth : Nat) : List Word :=
  [packW [(0, srcNode), (20, srcFunc), (28, dstNode), (48, dstFunc), (56, kind), (60, 1), (61, chan)],
   packW [(0, psn % 2 ^ 24), (24, srcInc), (40, birth % 2 ^ 24)], packW [(0, birth / 2 ^ 24 % 2 ^ 24)]]

/-- CTL KIND codes (R389). -/
def ctlCode : CtlKind → Nat
  | .ack => 0 | .nackSeqGap => 1 | .nackRnr => 2 | .nackXlate => 3 | .nackStale => 4 | .refuse => 5 | .refuseAck => 6 | .sync => 7
  | .syncAck => 8 | .cvyAck => 9

/-- The REMOTE_ADDR part of word 2: GET_RESP and RGET_RESP only. -/
def ivLo (o : PktOp) (raddr : Word) : Nat := if o = .getResp ∨ o = .rgetResp then wbits raddr 31 0 else 0

/-- A DATA packet's IV as its receiver forms it. -/
def State.pktIv (s : State) (p : Packet) : List Word :=
  dataIv p.srcNode p.srcFunc p.dstNode p.dstFunc (pktCode p.op p.chan) p.psn p.srcInc (s.birthStage p.birth) (ivLo p.op p.raddr)

/-- The tag of a DATA packet verifies under the domain's current or alternate key (R436). -/
def State.tagOk (s : State) (p : Packet) : Bool :=
  let d := s.doms.look p.domain
  p.sealed.intact && p.sealed.iv == s.pktIv p && (d.cur == some p.sealed.key || d.alt == some p.sealed.key)

/-- A CTL packet's tag verifies; under D0000 only a REFUSE AUTH_FAIL or a NACK_STALE is taken (R443). -/
def State.ctlOk (s : State) (c : Ctl) : Bool :=
  let iv := ctlIv c.srcNode c.srcFunc c.dstNode c.dstFunc (ctlCode c.kind) c.chan c.psn c.srcInc (s.birthStage c.birth)
  let d := s.doms.look c.domain
  let d0 := s.doms.look 0
  c.crcOk && c.sealed.intact && c.sealed.iv == iv &&
  (d.cur == some c.sealed.key || d.alt == some c.sealed.key ||
    ((d0.cur == some c.sealed.key || d0.alt == some c.sealed.key) && ((c.kind == .refuse && c.status == stAuth) || c.kind == .nackStale)))

/-- AUTH_FAIL: the packet is discarded and counted in the domain (R444, R515). -/
def State.authFail (s : State) (dom node : Nat) : State :=
  let s := { s with doms := s.doms.upd dom fun d => { d with authFails := satAdd 32 d.authFails 1 } }
  (s.bump F.WPR_E2E_COUNT_C_TAG_FAIL 1).flt 0x083 (packW [(0, dom), (16, node)])

/-! ### Sending -/

/-- Pair channel numbers: local function, remote node and function, channel. -/
def pairKey (port fn node func chan : Nat) : Nat := (((fnKey port fn + 1) * 2 ^ 20 + node) * 2 ^ 8 + func) * 4 + chan

/-- Flits of a DATA unit (R372). -/
def dataFlits (len : Nat) : Nat := (8 + 56 + len + 20 + 63) / 64

/-- Flits of a unit body (R372, R389); an MGMT unit carries its message as payload. -/
def bodyFlits : UnitBody → Nat
  | .data p => dataFlits p.payload.length
  | .ctl c => if c.kind = .cvyAck then 2 else 1
  | .mgmt m => dataFlits (104 + 8 * (m.prog.length + m.param.length) + m.body.length)

/-- Puts a unit of the device's own into its router (R343). -/
def State.toRouter (s : State) (cls : Nat) (b : UnitBody) : State :=
  { s with rin := s.rin.upd 64 fun l => l ++ [⟨cls, 0, false, none, s.tick, b⟩] }

/-- Two packets belong to one pair channel. -/
def samePair (a b : Packet) : Bool :=
  a.srcNode == b.srcNode && a.srcFunc == b.srcFunc && a.dstNode == b.dstNode && a.dstFunc == b.dstFunc && a.chan == b.chan

/-- A DATA packet enters an injection queue of its domain (R417, R421). -/
def State.inject (s : State) (p : Packet) (cls : Nat) (scav : Bool) : State :=
  let q := s.inj.look p.domain
  let mine := fun (u : RUnit) => match u.body with | .data x => samePair x p | _ => false
  let sc := scav || q.scav.any mine
  let u : RUnit := ⟨cls, 0, sc, none, s.tick, .data p⟩
  { s with inj := s.inj.put p.domain (if sc then { q with scav := q.scav ++ [u] } else { q with q := q.q ++ [u] }) }

/-- Sends a CTL packet to an endpoint, at most one per pair, KIND and PSN in a stage (R388, R442, R443); nothing while R408 holds, without an
endpoint entry, or without a key that may authenticate it. -/
def State.sendCtl (s : State) (port fn node func chan dom : Nat) (kind : CtlKind) (psn status : Nat) (arg : Word) (body : List Word)
    (dstInc : Nat) : State :=
  let key := match s.key dom with
    | some k => some k
    | none => if (kind == .refuse && status == stAuth) || kind == .nackStale then s.key 0 else none
  match s.endpoint node, key with
  | some (router, _), some key =>
    if s.quiet then s
    else
      let tag := (pairKey port fn node func chan, (ctlCode kind), psn)
      let c : Ctl := ⟨router, node, func, s.nodeOf port, fn, dom, router, psn, s.inc, dstInc, s.now % 4096, kind, chan, status, arg, body,
        ⟨key, ctlIv (s.nodeOf port) fn node func (ctlCode kind) chan psn s.inc s.now, true⟩, true⟩
      if s.ctlSent.contains tag then { s with ctlWait := s.ctlWait ++ [c] }
      else (({ s with ctlSent := tag :: s.ctlSent }).count 0x0902 0 (b2n (1 ≤ ctlCode kind ∧ ctlCode kind ≤ 4)) (some dom)).toRouter 1 (.ctl c)
  | _, _ => s

/-- The packet of a send record as it goes out now (R381, R390): current router, birth stage, incarnation and key. -/
def State.mkPkt (s : State) (t : PairTx) (x : TxPkt) (router : Nat) (key : Key) (payload : List Byte) : Packet :=
  let src := s.nodeOf t.port
  { dstRouter := router, dstNode := t.node, dstFunc := t.func, srcNode := src, srcFunc := t.fn, domain := x.dom, inter := router, psn := x.psn,
    srcInc := s.inc, dstInc := s.peerInc.look router, birth := s.now % 4096, op := x.pop, chan := t.chan, first := x.first, last := x.last,
    scatter := x.scatter, len := if x.pop = .get then 0 else x.len, raddr := x.raddr, rkey := x.rkey, opid := x.opid, rctr := x.rctr, sigr := x.sigr, payload := payload,
    sealed := ⟨key, dataIv src t.fn t.node t.func (pktCode x.pop t.chan) x.psn s.inc s.now (ivLo x.pop x.raddr), true⟩, crcOk := true }

/-- Changes a send record. -/
def State.updTx (s : State) (k : Nat) (f : PairTx → PairTx) : State := { s with ptx := s.ptx.upd k f }

/-- Changes one packet of a send record. -/
def State.updPkt (s : State) (k psn : Nat) (f : TxPkt → TxPkt) : State :=
  s.updTx k fun t => { t with pkts := t.pkts.map fun (x : TxPkt) => if x.psn = psn then f x else x }

/-- Finds a packet of a send record. -/
def PairTx.pkt (t : PairTx) (psn : Nat) : Option TxPkt := t.pkts.find? (·.psn == psn)

/-- A new PSN may be assigned (R391): it lies less than 2^23 ahead of the oldest packet unacknowledged or sent within LIFETIME. -/
def State.psnRoom (s : State) (t : PairTx) : Bool :=
  match t.pkts.find? fun x => !x.acked || decide (s.now ≤ x.sentAt + s.lifetime) with
  | some x => decide (fwd 24 x.psn t.nextPsn < 2 ^ 23)
  | none => true

/-- The operation number of a packet whose operation has completed. -/
abbrev noOp : Nat := 2 ^ 40

/-- Finds or makes the send record of a pair channel (R390). -/
def State.txRecord (s : State) (port fn node func chan : Nat) : State × Nat :=
  let k := pairKey port fn node func chan
  let t := s.ptx.look k
  if t.live then (s, k)
  else ({ s with ptx := s.ptx.put k { (default : PairTx) with live := true, port := port, fn := fn, node := node, func := func, chan := chan } }, k)

/-- Sends a packet now: new BIRTH, endpoint looked up again (R337, R399). A send without an endpoint entry or key does not leave. -/
def State.txSend (s : State) (k : Nat) (x : TxPkt) (payload : List Byte) (scav : Bool) : State :=
  let t := s.ptx.look k
  let s := s.updPkt k x.psn fun y => { y with sentAt := s.now, age := 0, retryIn := none, afterAck := false, reading := false }
  match s.endpoint t.node, s.key x.dom with
  | some (r, _), some key => (s.updTx k fun t => { t with idle := 0, router := r }).inject (s.mkPkt t x r key payload) 0 scav
  | _, _ => s

/-- Forms a packet's first send with the next PSN (R390, DATA_PACKET_FORM). -/
def State.txForm (s : State) (k : Nat) (x : TxPkt) (payload : List Byte) (scav : Bool) : State :=
  let t := s.ptx.look k
  let x := { x with psn := t.nextPsn }
  let s := s.updTx k fun t => { t with nextPsn := (t.nextPsn + 1) % 2 ^ 24, pkts := t.pkts ++ [x] }
  s.txSend k x payload scav

/-! ### The source: outcomes of operations -/

/-- Every packet of the operation has been acknowledged. -/
def PairTx.clear (t : PairTx) (op : Nat) : Bool := !(t.pkts.any fun x => x.op == op && !x.acked)

/-- An operation completes by acknowledgement alone: PUT, PUTX, AMO and eager SEND (R137, R145, R282). -/
def Op.byAck (o : Op) : Bool := o.opcode == 0x20 || o.opcode == 0x22 || o.opcode == 0x24 || (o.opcode == 0x30 && o.arg == 0)

/-- Bytes from 0 that a list of ranges covers without a gap. -/
def leading (got : List (Nat × Nat)) : Nat :=
  let idx := sortRank (fun i => (got.getD i (0, 0)).1) (List.range got.length)
  idx.foldl (fun n i => let g := got.getD i (0, 0); if g.1 ≤ n then max n (g.1 + g.2) else n) 0

/-- Ranges cover [off, off + len). -/
def covered (got : List (Nat × Nat)) (off len : Nat) : Bool :=
  let idx := sortRank (fun i => (got.getD i (0, 0)).1) (List.range got.length)
  decide (off + len ≤ idx.foldl (fun n i => let g := got.getD i (0, 0); if g.1 ≤ n then max n (g.1 + g.2) else n) off)

/-- A read request, which its responses answer. -/
def TxPkt.isReq (x : TxPkt) : Bool := x.pop == .get || x.pop == .rget

/-- A packet still has a timer running: it is unacknowledged, or its responses are not all there (R398, R402). -/
def State.txOpen (s : State) (x : TxPkt) : Bool :=
  let o := s.ops.look x.op
  !x.acked || (x.pop == .amo && o.opcode == 0x25 && x.op != noOp && o.live && o.fin.isNone && o.failSt.isNone) || (x.isReq && x.op != noOp && o.live && o.fin.isNone && o.failSt.isNone && !covered o.got x.loff x.len)

/-- BYTES of an operation that fails (R128). -/
def Op.failBytes (o : Op) : Nat := if o.byAck then min o.acked o.quota else if o.opcode = 0x25 then 0 else min (leading o.got) o.quota

/-- The operation's packets no longer name it. -/
def State.txForget (s : State) (k op : Nat) : State :=
  s.updTx k fun t => { t with pkts := t.pkts.map fun (x : TxPkt) => if x.op = op then { x with op := noOp } else x }

/-- Completes operations of a pair channel whose packets are all acknowledged while R equals the REFUSALS of the latest ACK (R397). -/
def State.txSettle (s : State) (k : Nat) : State :=
  let t := s.ptx.look k
  if t.refusalsApplied != t.refusalsSeen then s
  else
    ((s.ops.keysOf fun o => o.live && o.fin.isNone && o.allFormed && o.eng == .bulk && o.src.1 == k).filter fun j => t.clear j).foldl
      (fun s j =>
        let o := s.ops.look j
        match o.failSt with
        | some st => if o.byAck || o.opcode == 0x25 || decide (o.quota ≤ leading o.got) || o.opcode == 0x30 then
            (s.opFin j st o.failBytes none).txForget k j else s
        | none => if o.byAck then (s.opFin j stOk o.x.total none).txForget k j else s) s

/-- Ends an operation of a pair channel with a status, BYTES under R128. A rendezvous read that fails leaves the POST NO_RESOURCE (R254). -/
def State.txFail (s : State) (k op st : Nat) : State :=
  let o := s.ops.look op
  let st := if o.opcode = 0x31 ∧ (st = stUnreach ∨ st = stPeerReset) then stNoRes else st
  (s.opFin op st o.failBytes none).txForget k op

/-- Operations outstanding on a pair channel. -/
def State.txOps (s : State) (k : Nat) : List Nat := s.ops.keysOf fun o => o.live && o.fin.isNone && o.src.1 == k && o.eng == .bulk

/-- An ACK covers packets up to a PSN (R398). -/
def State.txAck (s : State) (k psn refusals : Nat) : State :=
  let t := s.ptx.look k
  if !t.live then s
  else
    let got := t.pkts.filter fun x => !x.acked && !psnAhead x.psn psn
    let s := s.updTx k fun t => { t with
      pkts := t.pkts.map fun (x : TxPkt) => if psnAhead x.psn psn then x else { x with acked := true, retryIn := none, afterAck := false }
      refusalsSeen := refusals, idle := 0, heldAge := if refusals = t.refusalsApplied then 0 else t.heldAge }
    let s := got.foldl (fun s x => s.ledger x.dom ldTx (if x.isReq then 0 else x.len)) s
    let s := got.foldl (fun s x => if x.op = noOp then s else s.updOp x.op fun o => if o.live then { o with acked := o.acked + x.len } else o) s
    -- R398: a packet that waited for the ACKs to reach its predecessor goes again
    (s.txSettle k).later (.pairResend k)

/-- Sends a packet again (R398): its source is read again by a burst, or it leaves at once if its bytes are its own. -/
def State.txResend (s : State) (k psn : Nat) (counted : Bool) : State :=
  let t := s.ptx.look k
  match t.pkt psn with
  | none => s
  | some x =>
    if x.reading then s
    else
      let s := if counted then (s.updPkt k psn fun x => { x with resends := x.resends + 1 }).bump F.WPR_E2E_COUNT_A_RESENDS 1 |>.count 0x0900 0 1 (some x.dom) else s
      let s := s.updPkt k psn fun x => { x with age := 0, retryIn := none, afterAck := false }
      let o := s.ops.look x.op
      match (if x.pieces.isEmpty then none else o.bound) with
      | none => s.txSend k x x.inl false
      | some ch =>
        let s := s.updPkt k psn fun x => { x with reading := true }
        { s with chans := s.chans.upd ch fun c =>
          { c with
            jumped := c.jumped ++ [{ (default : Burst) with id := c.nextId, op := x.op, kind := .resend k psn, len := x.len, pieces := x.pieces }],
            nextId := c.nextId + 1 } }

/-- A counted re-send falls due (R398 to R400): at the limit the pair channel is abandoned. -/
def State.txDue (s : State) (k psn : Nat) : State :=
  let t := s.ptx.look k
  match t.pkt psn with
  | none => s
  | some x =>
    if x.resends < s.resendLimit then s.txResend k psn true
    else
      let n := (t.pkts.filter (!·.acked)).length
      let s := (s.txOps k).foldl (fun s j => s.txFail k j stUnreach) (s.bump F.WPR_E2E_COUNT_A_ABANDONED n)
      let s := s.updTx k fun t => { t with pkts := t.pkts.map fun (x : TxPkt) => { x with acked := true }, sync := some (t.nextPsn, 0, 0) }
      s.sendCtl t.port t.fn t.node t.func t.chan x.dom .sync t.nextPsn 0 0 [] (s.peerInc.look t.router)

/-- The pair channel a CTL packet answers, at its source. -/
def State.ctlPair (s : State) (c : Ctl) : Nat :=
  match s.endpoint c.dstNode with
  | some (_, port) => pairKey port c.dstFunc c.srcNode c.srcFunc c.chan
  | none => 0

/-- A CTL packet for a send record has been received (R404). -/
def State.ctlHeard (s : State) (c : Ctl) : State :=
  let k := s.ctlPair c
  match c.kind with
  | .sync => s
  | .refuseAck => s
  | .cvyAck => s
  | _ => if (s.ptx.look k).live then s.updTx k fun t => { t with idle := 0 } else s

/-- A CTL packet is taken: age, incarnations, tag (R403, R406 to R408). Learns the peer's incarnation, and acts on its reset (R407). -/
def State.ctlTake (s : State) (c : Ctl) (k : State → State) : State :=
  if s.age c.birth > s.lifetime || s.quiet then s.bump F.WPR_E2E_COUNT_B_LIFETIME_DROPS 1
  else if c.dstInc != 0 && c.dstInc != s.inc then s
  else if !c.crcOk then s.bump F.WPR_E2E_COUNT_C_CRC_FAIL 1
  else if !s.ctlOk c then s.authFail c.domain c.srcNode
  else
    let s := s.ctlHeard c
    match s.endpoint c.srcNode with
    | none => k s
    | some (router, _) =>
      let known := s.peerInc.look router
      if known = 0 then k { s with peerInc := s.peerInc.put router c.srcInc }
      else if known = c.srcInc && c.kind != .nackStale then k s
      else if known = c.srcInc then s
      else
        -- R407: the router has been reset
        let ks := s.ptx.keysOf fun t => t.live && (match s.endpoint t.node with | some (r, _) => r == router | none => t.router == router)
        let s := ks.foldl (fun s j => (s.txOps j).foldl (fun s o => s.txFail j o stPeerReset) s) s
        let s := ks.foldl (fun s j => { s with ptx := s.ptx.del j }) s
        { s with peerInc := s.peerInc.put router c.srcInc }

/-- A NACK for one packet (R398): it goes again after the retry-after. -/
def State.txRetry (s : State) (k psn stages : Nat) : State :=
  match (s.ptx.look k).pkt psn with
  | some x => if s.txOpen x then s.updPkt k psn fun x => { x with retryIn := some stages } else s
  | none => s

/-- NACK_SEQ_GAP (R398). -/
def State.txGap (s : State) (k psn e : Nat) : State :=
  let t := s.ptx.look k
  let wait := fun (x : TxPkt) => x.retryIn.isSome
  let s := match t.pkt psn with
    | some x => if psn != e && s.txOpen x && !wait x then (s.updPkt k psn fun x => { x with afterAck := true }).later (.pairResend k) else s
    | none => s
  match t.pkt e with
  | some x => if !x.acked && !wait x && decide (x.sentAt + s.gapStages ≤ s.now) then s.txDue k e else s
  | none => s

/-- Packets held back by NACK_SEQ_GAP whose predecessors are all acknowledged go again, uncounted (R398). -/
def State.txAfterAck (s : State) (k : Nat) : State :=
  let t := s.ptx.look k
  (t.pkts.filter fun x => x.afterAck && !(t.pkts.any fun y => !y.acked && psnAhead x.psn y.psn)).foldl (fun s x => s.txResend k x.psn false) s

/-- REFUSE at the source (R397): applied in refusal order; it also acknowledges. -/
def State.txRefuse (s : State) (k : Nat) (c : Ctl) : State :=
  let t := s.ptx.look k
  if !t.live then s
  else
    let num := wbits c.arg 39 32
    let first := wbits c.arg 63 40
    let opid := wbits c.arg 31 0
    let reply := fun (s : State) => s.sendCtl t.port t.fn t.node t.func t.chan c.domain .refuseAck 0 0 (packW [(32, num)]) [] (s.peerInc.look t.router)
    let next := (t.refusalsApplied + 1) % 256
    if num = next then
      let off := ((t.pkt first).map (·.loff)).getD 0
      let js := s.ops.keysOf fun o => o.live && o.fin.isNone && o.src.1 == k && o.opid == opid && o.eng == .bulk
      let s := js.foldl (fun s j => s.updOp j fun o =>
        { o with failSt := some (o.failSt.getD c.status), quota := min o.quota off, allFormed := true }) s
      let s := js.foldl (fun s j => s.later (.opCut j)) s
      let s := s.updTx k fun t => { t with refusalsApplied := num, heldAge := 0 }
      reply (s.txAck k c.psn (if fwd 8 num t.refusalsSeen < 128 then t.refusalsSeen else num))
    else if fwd 8 num t.refusalsApplied < 128 then reply s
    else s

/-- SYNC_ACK (R400). -/
def State.txSynced (s : State) (k psn : Nat) : State :=
  let t := s.ptx.look k
  match t.sync with
  | some (p, _, _) => if p = psn then (s.updTx k fun t => { t with sync := none, abandoned := false }).later (.room .bulk) else s
  | none => s

/-- SYNC_RESEND: the SYNC in force goes again every TIMEOUT stages (R400). -/
def State.syncAgain (s : State) (k : Nat) : State :=
  let t := s.ptx.look k
  match t.sync with
  | some (p, age, since) =>
    if since < s.timeout then s
    else
      let dom := ((t.pkts.getLast?).map (·.dom)).getD 0
      (s.updTx k fun t => { t with sync := some (p, age, 0) }).sendCtl t.port t.fn t.node t.func t.chan dom .sync p 0 0 [] (s.peerInc.look t.router)
  | none => s

/-- SYNC_ABANDON (R400). -/
def State.syncGiveUp (s : State) (k : Nat) : State :=
  match (s.ptx.look k).sync with
  | some (_, age, _) => if age ≥ 8 * s.timeout then (s.updTx k fun t => { t with abandoned := true }).later (.room .bulk) else s
  | none => s

/-- REFUSAL_WAIT_EXPIRY (R397): operations held while REFUSALS exceeds R complete REMOTE_UNREACHABLE. -/
def State.refusalExpiry (s : State) (k : Nat) : State :=
  let t := s.ptx.look k
  if t.live && t.refusalsApplied != t.refusalsSeen && decide (t.heldAge ≥ (s.resendLimit + 1) * s.timeout) then
    let s := ((s.txOps k).filter fun j => (s.ops.look j).allFormed && t.clear j).foldl (fun s j => s.txFail k j stUnreach) s
    s.updTx k fun t => { t with refusalsApplied := t.refusalsSeen, heldAge := 0 }
  else s

/-- SEND_RECORD_EXPIRY (R404). -/
def State.txExpire (s : State) (k : Nat) : State :=
  let t := s.ptx.look k
  if t.live && (s.txOps k).isEmpty && t.sync.isNone && decide (t.idle ≥ s.retain + s.lifetime + 1) then { s with ptx := s.ptx.del k } else s

/-! ### The target -/

/-- Changes a receive record. -/
def State.updRx (s : State) (k : Nat) (f : PairRx → PairRx) : State := { s with prx := s.prx.upd k f }

/-- The number of the latest refusal. -/
def PairRx.refNum (r : PairRx) : Nat := (r.nextRef + 255) % 256

/-- Answers a pair channel with a CTL packet. -/
def State.rxCtl (s : State) (k : Nat) (kind : CtlKind) (psn status : Nat) (arg : Word) : State :=
  let r := s.prx.look k
  s.sendCtl r.port r.fn r.node r.func r.chan r.dom kind psn status arg [] r.srcInc

/-- Sends the cumulative ACK (R395, R396). -/
def State.rxAck (s : State) (k : Nat) : State :=
  let r := s.prx.look k
  (s.updRx k fun r => { r with owedAcks := 0 }).rxCtl k .ack ((r.expected + 2 ^ 24 - 1) % 2 ^ 24) 0 (BitVec.ofNat 64 r.refNum)

/-- The ARG of a REFUSE (R389). -/
def Rfsl.arg (f : Rfsl) : Word := packW [(0, f.opid), (32, f.num), (40, f.firstPsn)]

/-- The PSN of the next packet to hand to an engine: it leads the expected PSN by the packets of a message taken and not yet settled. -/
def PairRx.pos (r : PairRx) : Nat := (r.expected + r.taken) % 2 ^ 24

/-- Answers a duplicate (R394): the REFUSE whose last PSN it is, otherwise the current ACK. -/
def State.dupAnswer (s : State) (k psn : Nat) : State :=
  match (s.prx.look k).refusals.find? fun f => f.lastPsn == psn with
  | some f => s.rxCtl k .refuse psn f.status f.arg
  | none => s.rxAck k

/-- A packet handed to an engine has been handled: the next is looked at, and acknowledgement follows R395. A duplicate moves nothing. -/
def State.rxHandled (s : State) (k : Nat) (last : Bool) : State :=
  let r := s.prx.look k
  if r.curDup then
    let psn := (r.cur.map (·.psn)).getD 0
    ((s.updRx k fun r => { r with cur := none, st := .idle, curDup := false, keyVer := none }).dupAnswer k psn).later (.pairNext k)
  else
    let s := if r.refusing.isSome then s else s.ledger r.dom ldRx ((r.cur.map (·.payload.length)).getD 0)
    let s := s.updRx k fun r => { r with
      expected := (r.expected + 1) % 2 ^ 24, cur := none, st := .idle, heldAge := 0, owedAcks := r.owedAcks + 1, keyVer := none }
    (if last || r.owedAcks + 1 ≥ 8 then s.rxAck k else s).later (.pairNext k)

/-- The message engine takes a packet whose handling is settled later (R255). -/
def State.rxTake (s : State) (k : Nat) : State :=
  (s.updRx k fun r => { r with cur := none, st := .idle, taken := r.taken + 1, keyVer := none }).later (.pairNext k)

/-- The packets taken, with their payload bytes, have all been handled (R262). -/
def State.rxConfirm (s : State) (k bytes : Nat) : State :=
  let s := s.ledger (s.prx.look k).dom ldRx bytes
  let s := s.updRx k fun r => { r with expected := (r.expected + r.taken) % 2 ^ 24, taken := 0, heldAge := 0 }
  (s.rxAck k).later (.pairNext k)

/-- The packet in hand, or the packets taken, are refused with a NACK: they are not handled, and their source sends them again. -/
def State.rxNack (s : State) (k : Nat) (kind : CtlKind) (retry : Nat) : State :=
  let r := s.prx.look k
  let f := match kind with | .nackRnr => F.WPR_NACK_SENT_RNR | .nackXlate => F.WPR_NACK_SENT_XLATE | _ => F.WPR_NACK_SENT_SEQ_GAP
  let psns := (if r.curDup then [] else (List.range r.taken).map fun i => (r.expected + i) % 2 ^ 24) ++ (match r.cur with | some p => [p.psn] | none => [])
  let s := s.updRx k fun r => { r with cur := none, st := .idle, curDup := false, keyVer := none, taken := if r.curDup then r.taken else 0 }
  (psns.foldl (fun s psn => (s.bump f 1).rxCtl k kind psn 0 (BitVec.ofNat 64 retry)) s).later (.pairNext k)

/-- The packet in hand is dropped without acknowledgement (R267). -/
def State.rxDrop (s : State) (k : Nat) : State :=
  (s.updRx k fun r => { r with cur := none, st := .idle, curDup := false, keyVer := none }).later (.pairNext k)

/-- The operation of the packet in hand is refused with a status (R281, R396); the packets of a message taken go with it. -/
def State.rxRefuse (s : State) (k status : Nat) : State :=
  let r := s.prx.look k
  match r.cur with
  | none => s
  | some p =>
    let opid := wbits p.opid 31 0
    if r.curDup then
      let f : Rfsl := { (default : Rfsl) with num := r.nextRef, opid := opid, status := status, firstPsn := p.psn, lastPsn := p.psn, sent := true }
      let s := s.updRx k fun r => { r with cur := none, curDup := false, st := .idle, keyVer := none, refusals := r.refusals ++ [f], nextRef := (f.num + 1) % 256 }
      (s.rxCtl k .refuse p.psn f.status f.arg).later (.pairNext k)
    else
      let open' := match r.refusing with | some f => f.opid == opid | none => false
      if !open' && r.refusals.length ≥ 4 then s.rxNack k .nackRnr s.rnrStages
      else
        let f := if open' then r.refusing.getD default else
          { (default : Rfsl) with opid := opid, status := status, firstPsn := if r.taken > 0 then r.expected else p.psn }
        if p.last then
          let f := { f with num := r.nextRef, lastPsn := p.psn, sent := true }
          let s := s.updRx k fun r => { r with
            refusing := none, refusals := r.refusals ++ [f], nextRef := (f.num + 1) % 256, expected := (p.psn + 1) % 2 ^ 24, taken := 0, cur := none,
            st := .idle, heldAge := 0, owedAcks := 0, keyVer := none }
          (s.rxCtl k .refuse p.psn f.status f.arg).later (.pairNext k)
        else
          (s.updRx k fun r => { r with refusing := some f, expected := (r.expected + r.taken) % 2 ^ 24, taken := 0 }).rxHandled k false

/-- Waystation bytes held for order (R356). -/
def PairRx.charge (r : PairRx) : Nat := r.held.foldl (fun n p => n + dataFlits p.payload.length * 64) 0

/-- Bytes of the waystation in use: held packets, and 32 B for each record (R356, R392). -/
def State.wayUsed (s : State) : Nat := s.prx.vals.foldl (fun n r => n + r.charge) 0 + 32 * (s.prx.count (·.live) + s.ptx.count (·.live))

/-- The waystation has room for more bytes. -/
def State.wayRoom (s : State) (bytes : Nat) : Bool := decide (s.wayUsed + bytes ≤ 33554432)

/-- RTC_WAY_CTRL.PAIR_SHARE_KIB in force, 4 to 32,768. -/
def State.pairShare (s : State) : Nat := min (s.atLeast F.RTC_WAY_CTRL_PAIR_SHARE_KIB 4) 32768 * 1024

/-- A duplicate is executed again, or answered by its engine (R394). -/
def pktAgain (p : Packet) : Bool := p.op == .get || p.op == .rget || p.op == .amo

/-- Answers a packet that has no record (R392, R393). -/
def State.rxBare (s : State) (p : Packet) (port : Nat) (kind : CtlKind) (arg : Nat) : State :=
  s.sendCtl port p.dstFunc p.srcNode p.srcFunc p.chan p.domain kind p.psn 0 (BitVec.ofNat 64 arg) [] p.srcInc

/-- A packet of a message under speculation fails its CRC-32C or tag (R267, MAT_SPEC_OTHER.CHECK_FAIL). -/
def State.specFail (s : State) (k : Nat) (p : Packet) : State :=
  if p.op == .eager && s.msgs.vals.any fun (m : Msg) => m.live && m.pair == k && m.st == MsgSt.speculating then s.bump F.MAT_SPEC_OTHER_CHECK_FAIL 1 else s

/-- Steps 1 to 5 of R393 for a request packet that reached the device's endpoint; the packet to hand over is left to its engine (Work.pairNext). -/
def State.rxArrive (s : State) (p : Packet) : State :=
  match s.endpoint p.dstNode with
  | none => s.bump F.RTC_DROP_B_EP_MISMATCH 1
  | some (router, port) =>
    let crc := fun (s : State) => s.bump F.WPR_E2E_COUNT_C_CRC_FAIL 1
    if router != s.self then s.bump F.RTC_DROP_B_EP_MISMATCH 1
    else if s.age p.birth > s.lifetime || s.quiet then s.bump F.WPR_E2E_COUNT_B_LIFETIME_DROPS 1
    else if p.dstInc != 0 && p.dstInc != s.inc then
      if p.crcOk then (s.bump F.WPR_NACK_SENT_STALE 1).rxBare p port .nackStale s.inc else crc s
    else
      let k := pairKey port p.dstFunc p.srcNode p.srcFunc p.chan
      let r0 := s.prx.look k
      let s := if r0.live && r0.srcInc != p.srcInc then { s with prx := s.prx.del k }.later (.msgStale k) else s
      let fresh := !(s.prx.look k).live
      if fresh && !s.wayRoom 32 then
        if p.crcOk then (s.bump F.WPR_NACK_SENT_RNR 1).rxBare p port .nackRnr s.rnrStages else crc s
      else
        let s := if fresh then { s with prx := s.prx.put k { (default : PairRx) with
            live := true, node := p.srcNode, func := p.srcFunc, port := port, fn := p.dstFunc, chan := p.chan, dom := p.domain, srcInc := p.srcInc,
            nextRef := 1 } } else s
        let s := s.updRx k fun r => { r with idle := 0, dom := p.domain }
        let r := s.prx.look k
        if !p.crcOk then (crc s).specFail k p
        else if psnBehind p.psn r.expected then
          let s := (s.bump F.WPR_E2E_COUNT_B_DUPLICATES 1).count 0x0901 0 1 (some p.domain)
          if pktAgain p && !(r.refusals.any fun f => f.lastPsn == p.psn) then (s.updRx k fun r => { r with dups := r.dups ++ [p] }).later (.pairNext k)
          else s.dupAnswer k p.psn
        else if fwd 24 r.expected p.psn < r.taken then s
        else if p.psn != r.pos then
          let w := dataFlits p.payload.length * 64
          if r.held.any (·.psn == p.psn) then s
          else if r.charge + w ≤ s.pairShare && s.wayRoom w then s.updRx k fun r => { r with held := r.held ++ [p] }
          else (s.bump F.WPR_NACK_SENT_SEQ_GAP 1).rxCtl k .nackSeqGap p.psn 0 (BitVec.ofNat 64 r.expected)
        else if r.cur.isSome && !r.curDup then s
        else if r.held.any (·.psn == p.psn) then s.later (.pairNext k)
        else (s.updRx k fun r => { r with held := p :: r.held }).later (.pairNext k)

/-- The next packet of a pair channel to hand to its engine: a duplicate to execute again, or the held packet at the position; aged ones are dropped
(R403). -/
def State.rxPop (s : State) (k : Nat) : State × Option Packet :=
  let r := s.prx.look k
  if !r.live || r.cur.isSome then (s, none)
  else match r.dups with
    | d :: ds => (s.updRx k fun r => { r with dups := ds, cur := some d, curDup := true, st := .idle }, some d)
    | [] =>
      match r.held.find? fun p => p.psn == r.pos with
      | none => (s, none)
      | some p =>
        let s := s.updRx k fun r => { r with held := r.held.filter (·.psn != p.psn) }
        if s.age p.birth > s.lifetime then (s.bump F.WPR_E2E_COUNT_B_LIFETIME_DROPS 1, none)
        else (s.updRx k fun r => { r with cur := some p, curDup := false, st := .idle }, some p)

/-- SYNC at the target (R401). -/
def State.rxSync (s : State) (c : Ctl) : State :=
  match s.endpoint c.dstNode with
  | none => s
  | some (_, port) =>
    let k := pairKey port c.dstFunc c.srcNode c.srcFunc c.chan
    let r := s.prx.look k
    let base : PairRx := if r.live && r.srcInc == c.srcInc then r else { (default : PairRx) with nextRef := 1 }
    let s := { s with prx := s.prx.put k { base with
      live := true, node := c.srcNode, func := c.srcFunc, port := port, fn := c.dstFunc, chan := c.chan, dom := c.domain, srcInc := c.srcInc,
      expected := c.psn, taken := 0, held := [], cur := none, curDup := false, st := .idle, refusing := none, idle := 0 } }
    (s.rxCtl k .syncAck c.psn 0 0).later (.msgStale k)

/-- REFUSE_ACK (R396). -/
def State.rxRefuseAck (s : State) (c : Ctl) : State :=
  match s.endpoint c.dstNode with
  | none => s
  | some (_, port) =>
    let k := pairKey port c.dstFunc c.srcNode c.srcFunc c.chan
    s.updRx k fun r => { r with refusals := r.refusals.filter (·.num != wbits c.arg 39 32) }

/-- REFUSE_RESEND (R396). -/
def State.refuseAgain (s : State) (k num : Nat) : State :=
  let r := s.prx.look k
  match r.refusals.find? (·.num == num) with
  | none => s
  | some f =>
    if f.age < s.timeout then s
    else if f.resends ≥ s.resendLimit then s.updRx k fun r => { r with refusals := r.refusals.filter (·.num != num) }
    else
      let s := s.updRx k fun r => { r with refusals := r.refusals.map fun (g : Rfsl) => if g.num = num then { g with age := 0, resends := g.resends + 1 } else g }
      s.rxCtl k .refuse f.lastPsn f.status f.arg

/-- ACK_TIMER (R395): handled packets await acknowledgement. -/
def State.ackTimer (s : State) (k : Nat) : State := if (s.prx.look k).live && (s.prx.look k).owedAcks > 0 then s.rxAck k else s

/-- SEQ_GAP_REPORT (R398): packets held for GAP_STAGES stages. -/
def State.gapReport (s : State) (k : Nat) : State :=
  let r := s.prx.look k
  if r.live && !r.held.isEmpty && r.cur.isNone && decide (r.heldAge ≥ s.gapStages) then
    ((s.updRx k fun r => { r with heldAge := 0 }).bump F.WPR_NACK_SENT_SEQ_GAP 1).rxCtl k .nackSeqGap r.expected 0 (BitVec.ofNat 64 r.expected)
  else s

/-- RECEIVE_RECORD_EXPIRY (R404). -/
def State.rxExpire (s : State) (k : Nat) : State :=
  let r := s.prx.look k
  if r.live && r.held.isEmpty && r.cur.isNone && r.taken == 0 && r.refusals.isEmpty && r.refusing.isNone && decide (r.idle ≥ s.retain) then
    { s with prx := s.prx.del k } else s

/-- LIFETIME_EXPIRY (R403): an aged packet held in the waystation is dropped. -/
def State.heldExpire (s : State) (k psn : Nat) : State :=
  match (s.prx.look k).held.find? fun p => p.psn == psn && decide (s.age p.birth > s.lifetime) with
  | none => s
  | some _ => (s.updRx k fun r => { r with held := r.held.filter (·.psn != psn) }).bump F.WPR_E2E_COUNT_B_LIFETIME_DROPS 1

/-- Responses the target re-sends are acknowledged (R402). -/
def State.respAck (s : State) (c : Ctl) : State × List RespTx :=
  match s.endpoint c.dstNode with
  | none => (s, [])
  | some (_, port) =>
    let mine := fun (r : RespTx) => r.psn == c.psn && r.pair / 4 == pairKey port c.dstFunc c.srcNode c.srcFunc 0 / 4
    ({ s with resps := s.resps.filter fun r => !mine r }, s.resps.filter mine)

end Sys2Proof.Machine
end

