-- ==== Sys2Proof/Machine/Bulk.lean ====
section
/-!
DEFINITION. The bulk mover (spec/10) and the tolls that meter its bursts (R411 to R420): binding, bursts, packet formation (R283), placement,
parking, the target's responder, and the register form.
-/
namespace Sys2Proof.Machine

/-! ### Tolls -/

/-- TOL_PRECOLOUR of a work queue: 3 taken as green (R416). -/
def State.precolour (s : State) (wq : Nat) : Nat := s.get ⟨0x7B0000 + wq / 32 * 8, 2 * (wq % 32) + 1, 2 * (wq % 32)⟩ % 3

/-- The toll bound to a domain and class: the lowest-numbered enabled one (R413). -/
def State.tollOf (s : State) (dom cls : Nat) : Option Nat := (s.tolls.find? fun e => e.2.en && e.2.dom == dom && e.2.cls == cls).map (·.1)

/-- Colours of R415. -/
inductive Colour where | green | yellow | red
deriving DecidableEq, Repr

/-- Metering (R415). -/
def Toll.meter (t : Toll) (b : Nat) (pre : Colour) : Colour × Toll :=
  if pre = .red ∨ t.tp < b then (.red, t)
  else if pre = .yellow ∨ t.tc < b then (.yellow, { t with tp := t.tp - b })
  else (.green, { t with tp := t.tp - b, tc := t.tc - b })

/-- A toll's refill of boundary task 5 (R414). -/
def Toll.refill (t : Toll) : Toll := if t.en then { t with tc := min t.cbs (t.tc + t.cir), tp := min t.pbs (t.tp + t.pir) } else t

/-- A TOLLSET takes effect (R420). -/
def Toll.commit (t : Toll) : Toll :=
  match t.next with
  | none => t
  | some ws =>
    let w0 := ws.getD 0 0
    let cir := wbits (ws.getD 1 0) 31 0
    let cbs := max (wbits (ws.getD 2 0) 31 0) 4096
    let pbs := max (max (wbits (ws.getD 2 0) 63 32) 4096) cbs
    let en := wbit w0 40
    let n := { t with
      dom := wbits w0 31 16, cls := wbits w0 34 32, aware := wbit w0 36, demote := wbit w0 37, red := wbits w0 39 38, en := en, cir := cir,
      pir := max (wbits (ws.getD 1 0) 63 32) cir, cbs := cbs, pbs := pbs, tc := min t.tc cbs, tp := min t.tp pbs, next := none }
    if en && !t.en then { n with tc := cbs, tp := pbs } else n

/-- Meters a burst of a domain and class: its colour, demotion, and the toll met (R413 to R417). -/
def State.metered (s : State) (dom cls bytes pre : Nat) : State × Colour × Option Nat :=
  match (if s.flag F.TOL_CTRL_METER_EN then s.tollOf dom cls else none) with
  | none => (s, .green, none)
  | some n =>
    let t := s.tolls.look n
    let p : Colour := if t.aware then (if pre = 1 then .yellow else if pre = 2 then .red else .green) else .green
    let (c, t) := t.meter bytes p
    let t := match c with
      | .yellow => { t with yellow := satAdd 32 t.yellow 1 }
      | .red => { t with reds := satAdd 32 t.reds 1 }
      | .green => t
    let s := match c with
      | .green => s.count 0x0A00 n bytes (some dom)
      | .yellow => s.count 0x0A01 n bytes (some dom)
      | .red => s.count 0x0A02 n 1 (some dom)
    ({ s with tolls := s.tolls.put n t }, c, some n)

/-! ### Channels and binding -/

/-- The target's responder (R300). -/
abbrev respChan : Nat := 128

/-- Changes a channel. -/
def State.updChan (s : State) (c : Nat) (f : Chan → Chan) : State := { s with chans := s.chans.upd c f }

/-- A channel serves the register form. -/
def State.regform (s : State) (c : Nat) : Bool := decide (c < 16) && s.flag (F.BLK_CH_CFG_REGFORM c)

/-- An enabled, unparked operation channel (R295). -/
def State.opChan (s : State) (c : Nat) : Bool := s.flag (F.BLK_CH_CFG_EN c) && !(s.chans.look c).parked && !s.regform c

/-- Burst size in bytes. -/
def State.burstSize (s : State) (c : Nat) : Nat := if c = respChan then 4096 else 256 * 2 ^ min (s.get (F.BLK_CH_CFG_BURST c)) 4

/-- The bulk mover priority of a work queue. -/
def State.qprio (s : State) (wq : Nat) : Nat := s.get ⟨0x590000 + wq / 16 * 8, 4 * (wq % 16) + 2, 4 * (wq % 16)⟩

/-- Priorities in the order R295 tries them: the queue's own, nearest lower, then nearest higher. -/
def prioOrder (p : Nat) : List Nat := (List.range (p + 1)).reverse ++ (List.range (7 - p)).map (p + 1 + ·)

/-- The channel with the fewest bound operations, lowest number on a tie. -/
def State.fewest (s : State) : List Nat → Option Nat
  | [] => none
  | c :: cs =>
    match s.fewest cs with
    | none => some c
    | some d => if (s.chans.look c).ops.length ≤ (s.chans.look d).ops.length then some c else some d

/-- The channel R295 chooses, if it has room (R296). -/
def State.pickChan (s : State) (wq : Nat) (pair : Option Nat) : Option Nat :=
  let same := pair.bind fun p => (List.range 128).find? fun c => (s.chans.look c).ops.any fun k => let o := s.ops.look k; o.src.1 == p && o.opcode != 0x26 && o.eng == .bulk
  let c := match same with
    | some c => some c
    | none => ((prioOrder (s.qprio wq)).findSome? fun p =>
        s.fewest ((List.range 128).filter fun c => s.opChan c && s.get (F.BLK_CH_CFG_PRIO c) == p))
  match c with
  | some c => if (s.chans.look c).ops.length < 64 then some c else none
  | none => none

/-- The endpoint pair of an operation, none for COPY, REDUCE and BCAST (R295). -/
def Op.pair (o : Op) : Option Nat := if o.opcode = 0x26 ∨ o.opcode = 0x51 ∨ o.opcode = 0x52 then none else if o.src.1 = 0 then none else some o.src.1

/-- Binds an operation to a channel. -/
def State.bindTo (s : State) (k c : Nat) : State :=
  ((s.updOp k fun o => { o with bound := some c }).updChan c fun ch => { ch with ops := ch.ops ++ [k] }).later (.form c)

/-! ### Data and packets of an operation -/

/-- The operation reads local memory in bursts for packets, for a copy or for a collective. -/
def Op.reads (o : Op) : Bool :=
  o.x.inl.isNone && (o.opcode == 0x20 || o.opcode == 0x22 || o.opcode == 0x26 || (o.opcode == 0x30 && o.arg == 0) || o.opcode == 0x51 ||
    (o.opcode == 0x52 && o.x.mode == 3))

/-- The operation uses an index table of `count` entries. -/
def Op.indexed (o : Op) : Bool := (o.opcode == 0x22 || o.opcode == 0x23 || o.opcode == 0x26) && o.x.mode != 0 && decide (o.x.count > 0)

/-- The operation forms packets. -/
def Op.sends (o : Op) : Bool := o.opcode != 0x26 && o.opcode != 0x51 && o.opcode != 0x52 && !(o.opcode == 0x31 && o.arg == 0)

/-- Bytes that may be read so far: all that the index table read so far covers; a collective up to its credit. -/
def Op.readable (o : Op) : Nat :=
  if o.opcode = 0x51 ∨ o.opcode = 0x52 then min o.quota o.x.total
  else if o.indexed && (o.opcode == 0x26 || o.x.mode == 1) then min o.x.total (o.idx.length * o.x.esize) else o.x.total

/-- The next index table read (R288, R301): up to 1,024 entries, one at a time, ahead of the elements that need them. -/
def Op.nextTable (o : Op) : Option (Nat × Nat) :=
  let pos := max o.asked o.formed
  if o.indexed && decide (o.idxAsked = o.idx.length ∧ o.idxAsked < o.x.count ∧ o.idxAsked ≤ pos / max o.x.esize 1 + 1) then
    some (o.idxAsked, min (min 1024 (o.x.count - o.idxAsked)) ((4096 - (o.x.itab + o.idxAsked * 4) % 4096) / 4))
  else none

/-- The next read of an operation's data (R297): one local piece within the burst size and the 4 KiB page, of both addresses for COPY. -/
def Op.nextRead (o : Op) (size : Nat) : Option (Nat × Nat × Nat) :=
  if !o.reads || decide (o.asked ≥ o.readable) then none
  else
    let n := min size (o.readable - o.asked)
    match o.localAt o.asked n with
    | [] => none
    | (va, m) :: _ =>
      let m := min m (4096 - va % 4096)
      if o.opcode = 0x26 then
        match o.dstAt o.asked m with
        | [] => none
        | (d, q) :: _ => some (va, d, min (min m q) (4096 - d % 4096))
      else some (va, 0, m)

/-- Every burst of the operation has been issued, as far as its own reads go (R298). -/
def Op.allIssued (o : Op) : Bool := o.failSt.isSome || !o.reads || decide (o.asked ≥ o.x.total)

/-- Maximal run of contiguous elements from element `i`, at most 4,096 B (R283); none while the table has not reached its end. -/
def elemRun (idx : List Nat) (count esize : Nat) : Nat → Nat → Nat → Option Nat
  | 0, _, n => some n
  | fuel + 1, i, n =>
    if i + n ≥ count ∨ (n + 1) * esize > 4096 then some n
    else if i + n ≥ idx.length then none
    else if n > 0 ∧ idx.getD (i + n) 0 ≠ idx.getD (i + n - 1) 0 + esize then some n
    else elemRun idx count esize fuel i (n + 1)

/-- A packet to form next, and the bytes of the operation it stands for. -/
def Op.nextPkt (o : Op) : Option (TxPkt × Nat) :=
  let x := o.x
  let base : TxPkt := { (default : TxPkt) with op := 0, rctr := if o.sigr then o.rctr else 0, sigr := o.sigr, opid := BitVec.ofNat 64 o.opid, loff := o.formed }
  let first := decide (o.formed = 0)
  if o.allFormed then none
  else match o.opcode with
  | 0x24 | 0x25 =>
    some ({ base with
      pop := .amo, first := true, last := true, raddr := BitVec.ofNat 64 x.roff, rkey := x.key, len := 16, inl := leBytes x.operand.toNat 8 ++ leBytes x.cmp.toNat 8
      opid := BitVec.ofNat 64 (o.opid + (x.sub + 16 * b2n x.w32 + 32 * b2n x.fetch) * 2 ^ 32) }, if x.w32 then 4 else 8)
  | 0x30 =>
    let ra := fun i => packW [(0, x.total), (32, x.ctx), (48, i)]
    if o.arg ≠ 0 then some ({ base with pop := .rts, first := true, last := true, raddr := ra 0, rkey := x.tag, len := 0 }, x.total)
    else
      let n := min 4096 (x.total - o.formed)
      if o.acc.length < n then none
      else some ({ base with
        pop := .eager, first := first, last := decide (o.formed + n = x.total), raddr := ra (o.formed / 4096), rkey := x.tag, len := n
        pieces := o.localAt o.formed n, inl := if x.inl.isSome || n = 0 then o.acc.take n else [] }, n)
  | 0x31 =>
    let n := min 4096 (x.total - o.formed)
    some ({ base with
      pop := .rget, first := first, last := decide (o.formed + n = x.total), raddr := BitVec.ofNat 64 o.formed, len := n, opid := BitVec.ofNat 64 x.sub }, n)
  | 0x21 | 0x23 =>
    if x.mode = 2 ∧ x.count > 0 then
      let i := o.formed / max x.esize 1
      match elemRun o.idx x.count x.esize 4097 i 0 with
      | none => none
      | some m =>
        let n := m * x.esize
        some ({ base with
          pop := .get, first := first, last := decide (o.formed + n = x.total), raddr := BitVec.ofNat 64 (x.roff + o.idx.getD i 0), rkey := x.key, len := n
          opid := BitVec.ofNat 64 (o.opid + n * 2 ^ 32) }, n)
    else
      some ({ base with
        pop := .get, first := true, last := true, raddr := BitVec.ofNat 64 x.roff, rkey := x.key, len := x.total
        opid := BitVec.ofNat 64 (o.opid + x.total * 2 ^ 32) }, x.total)
  | _ =>
    let scatter := decide (o.opcode = 0x22 ∧ x.mode = 2)
    let i := o.formed / max x.esize 1
    let n := if scatter ∧ x.count > 0 then (elemRun o.idx x.count x.esize 4097 i 0).map (· * x.esize) else some (min 4096 (x.total - o.formed))
    match n with
    | none => none
    | some n =>
      if o.acc.length < n then none
      else some ({ base with
        pop := .put, first := first, last := decide (o.formed + n = x.total), scatter := scatter, len := n,
        raddr := BitVec.ofNat 64 (if scatter ∧ x.count > 0 then x.roff + o.idx.getD i 0 else x.roff + o.formed), rkey := x.key,
        opid := BitVec.ofNat 64 (o.opid + if first && !scatter then x.total * 2 ^ 32 else 0),
        pieces := if x.inl.isSome then [] else o.localAt o.formed n, inl := if x.inl.isSome || n = 0 then o.acc.take n else [] }, n)

/-- Forms the packets of an operation that its data allows, while the pair channel's PSN limit does (R391). -/
def State.opForm (fuel : Nat) (s : State) (k : Nat) (scav : Bool) : State :=
  match fuel with
  | 0 => s
  | fuel + 1 =>
    let o := s.ops.look k
    let r := s.runs.look (k / 64)
    if !o.live || o.fin.isSome then s
    else if !s.psnRoom (s.ptx.look o.src.1) then s
    else match o.nextPkt with
    | none => s
    | some (x, n) =>
      let payload := if x.isReq then [] else if x.pieces.isEmpty then x.inl else o.acc.take n
      let s := s.updOp k fun o => { o with
        formed := o.formed + n, acc := if o.sends && !x.isReq && o.opcode != 0x24 && o.opcode != 0x25 && o.arg = 0 then o.acc.drop n else o.acc, allFormed := x.last,
        firstPsn := if x.first then (s.ptx.look o.src.1).nextPsn else o.firstPsn }
      let s := s.txForm o.src.1 { x with op := k, dom := r.dom } payload scav
      State.opForm fuel s k scav

/-- Ends an operation's part in its channel from byte `off` on; its bursts of earlier bytes go on. -/
def State.opCutFrom (s : State) (k off : Nat) : State :=
  let o := s.ops.look k
  match o.bound with
  | none => s
  | some c =>
    let mine := fun (b : Burst) => b.op == k && (match b.kind with
      | .resend _ _ => false | .placeResp _ => false | .read => decide (off ≤ b.off) | .copyRd _ => decide (off ≤ b.off) | .copyWr => decide (off ≤ b.off) | _ => true)
    let gone := (s.chans.look c).bursts.filter mine
    let s := gone.foldl (fun s b => (s.accs.keysOf fun a => a.client == .burst c b.id).foldl (fun s i => s.accDrop i) s) s
    s.updChan c fun ch => { ch with bursts := ch.bursts.filter (!mine ·), jumped := ch.jumped.filter (!mine ·) }

/-- Ends an operation's part in its channel: nothing more is read or formed (R419, R304). -/
def State.opCut (s : State) (k : Nat) : State := s.opCutFrom k 0

/-- An operation of a channel fails before its end; if it has sent packets it completes once they are acknowledged or refused. -/
def State.bulkFail (s : State) (k st : Nat) : State :=
  let o := s.ops.look k
  if !o.live || o.fin.isSome then s
  else
    let s := s.opCut k
    if o.byAck then
      let s := s.updOp k fun o => { o with failSt := some (o.failSt.getD st), quota := min o.quota o.formed, allFormed := true }
      s.txSettle o.src.1
    else
      let s := s.opFin k (o.failSt.getD st) (leading o.got) none
      if o.pair.isSome then s.txForget o.src.1 k else s

/-- The burst of byte `off` has failed (R128): later bytes are given up, the bursts before it complete, and then the operation fails. -/
def State.failFrom (s : State) (k off st : Nat) : State :=
  let o := s.ops.look k
  if !o.live || o.fin.isSome then s
  else match o.bound with
    | some c =>
      if o.allFormed then s.bulkFail k st
      else ((s.opCutFrom k off).updOp k fun o => { o with failSt := some (o.failSt.getD st), quota := min o.quota off }).later (.form c)
    | none => s.bulkFail k st

/-- The bursts before the failing one have completed: the operation fails now. -/
def State.failEnd (s : State) (c k : Nat) : State :=
  let o := s.ops.look k
  let ch := s.chans.look c
  match o.failSt with
  | some st => if o.live && o.fin.isNone && !o.allFormed && !(ch.bursts ++ ch.jumped).any (·.op == k) && o.nextPkt.isNone then s.bulkFail k st else s
  | none => s

/-- Packets of the operations of a channel are formed in binding order (R298). -/
def State.chanForm (s : State) (c : Nat) (scav : Bool) : State :=
  let rec go : List Nat → State → State
    | [], s => s
    | k :: ks, s =>
      let o := s.ops.look k
      if !o.live || o.fin.isSome then go ks s
      else
        let s := (if o.sends then s.opForm (o.x.total + 3) k scav else s).failEnd c k
        let o := s.ops.look k
        if !o.sends || o.allFormed || o.fin.isSome then go ks s else s
  go (s.chans.look c).ops s

/-! ### Granting bursts -/

/-- Where a burst's run stands: port, function, PASID, domain, work queue. -/
def State.opRun (s : State) (k : Nat) : Run := s.runs.look (k / 64)

/-- The first operation with bursts still to issue (R298). -/
def State.headOp (s : State) (c : Nat) : Option Nat :=
  (s.chans.look c).ops.find? fun k => let o := s.ops.look k; o.live && o.fin.isNone && o.failSt.isNone && (!o.allIssued || o.nextTable.isSome)

/-- Destination pieces cut into placement bursts, each with its own data (R297). -/
def cutBursts (size : Nat) (mk : Nat → Nat → Nat → List Byte → Burst) : Nat → List (Nat × Nat) → Nat → List Byte → List Burst
  | 0, _, _, _ => []
  | _ + 1, [], _, _ => []
  | fuel + 1, (va, n) :: ps, off, data =>
    if n = 0 then cutBursts size mk fuel ps off data
    else
      let m := min (min size n) (4096 - va % 4096)
      mk off va m (data.take m) :: cutBursts size mk fuel ((va + m, n - m) :: ps) (off + m) (data.drop m)

/-- Puts bursts in front of those a channel has not issued (R298), numbering them. -/
def State.jump (s : State) (c : Nat) (bs : List Burst) : State :=
  bs.foldl (fun s b => s.updChan c fun ch => { ch with jumped := ch.jumped ++ [{ b with id := ch.nextId }], nextId := ch.nextId + 1 }) s

/-- The register-form burst a channel issues next: index table, then data. -/
def Chan.rfNext (ch : Chan) (size : Nat) : Option Burst :=
  let x := ch.set
  let total := if x.mode = 0 then x.count else x.count * x.esize
  let es := if x.mode = 0 then 1 else max x.esize 1
  if ch.act != .busy then none
  else if x.mode != 0 && decide (ch.rfIdxAsked = ch.rfIdx.length ∧ ch.rfIdxAsked < x.count ∧ ch.rfIdxAsked ≤ ch.asked / es + 1) then
    let n := min (min 1024 (x.count - ch.rfIdxAsked)) ((4096 - (x.idx + ch.rfIdxAsked * 4) % 4096) / 4)
    some { (default : Burst) with kind := .rfItab ch.rfIdxAsked n, len := 4 * n, pieces := [(x.idx + ch.rfIdxAsked * 4, 4 * n)] }
  else
    let readable := if x.mode = 0 then total else min total (ch.rfIdx.length * x.esize)
    if ch.asked ≥ readable then none
    else
      let n := min size (readable - ch.asked)
      let src := if x.mode = 1 then idxPieces [] x.src x.esize ch.rfIdx ch.asked n else [((x.src + ch.asked) % 2 ^ 64, n)]
      let dst := if x.mode = 2 then idxPieces [] x.dst x.esize ch.rfIdx ch.asked n else [((x.dst + ch.asked) % 2 ^ 64, n)]
      match src, dst with
      | (a, m) :: _, (d, q) :: _ =>
        let l := min (min (min m q) (4096 - a % 4096)) (4096 - d % 4096)
        some { (default : Burst) with kind := .rfRd d, off := ch.asked, len := l, pieces := [(a, l)] }
      | _, _ => none

/-- A response of a GETX with a local index table waits until every lower element is in place: where elements overlap, the higher one is written last
(R140). -/
def State.jumpHeld (s : State) (b : Burst) : Bool :=
  match b.kind with
  | .placeResp _ => let o := s.ops.look b.op; o.x.localIdx && decide (leading o.got < b.off)
  | _ => false

/-- The burst a channel issues next (R297, R298, R301). -/
def State.nextBurst (s : State) (c : Nat) : Option Burst :=
  let ch := s.chans.look c
  match ch.jumped.find? fun b => !s.jumpHeld b with
  | some b => some b
  | none =>
    if s.regform c then ch.rfNext (s.burstSize c)
    else match s.headOp c with
    | none => none
    | some k =>
      let o := s.ops.look k
      match o.nextTable with
      | some (i, n) => some { (default : Burst) with op := k, kind := .itab i n, len := 4 * n, pieces := [(o.x.itab + 4 * i, 4 * n)] }
      | none =>
        match o.nextRead (s.burstSize c) with
        | none => none
        | some (va, d, n) =>
          let kind := if o.opcode = 0x26 then BurstKind.copyRd d else if o.opcode = 0x51 ∨ o.opcode = 0x52 then .collRd 0 else .read
          some { (default : Burst) with op := k, kind := kind, off := o.asked, len := n, pieces := [(va, n)] }

/-- The class under which a burst is metered, none if it does not leave as packets (R413). -/
def BurstKind.tollClass : BurstKind → Option Nat
  | .read => some 0
  | .resend _ _ => some 0
  | .readout => some 1
  | .collRd _ => some 2
  | _ => none

/-- The burst writes local memory. -/
def BurstKind.writes : BurstKind → Bool
  | .copyWr => true
  | .placeResp _ => true
  | .rfWr => true
  | .collWr _ => true
  | _ => false

/-- The host port a burst goes through, its address space and its domain. -/
def State.burstHome (s : State) (c : Nat) (b : Burst) : Nat × Nat × Nat :=
  if c = respChan then
    let r := s.prx.look b.op
    match b.kind with
    | .readout => (r.port, (b.faulted.getD (0, 0, 0)).1, r.dom)
    | _ => (r.port, 0, r.dom)
  else if s.regform c then
    let p := (s.chans.look c).set.pasid
    ((s.pas.look p).port, p, (s.pas.look p).dom.getD 0)
  else match b.kind with
    | .cvyRd v _ => let g := s.cvys.look v; ((s.pas.look g.pasid).port, g.pasid, g.dom)
    | _ => let r := s.opRun b.op; (r.port, r.pasid.getD 0, r.dom)

/-- A channel is ready to be granted, tolls apart (R299). -/
def State.chanReady (s : State) (c : Nat) : Option Burst :=
  let ch := s.chans.look c
  if ch.parked || ch.deferred.isSome || decide (ch.bursts.length ≥ 32) || (ch.bursts.any fun b => b.faulted.isSome && !b.issued) ||
    ((s.regform c) && (ch.act == .parked || ch.act == .halted)) then none
  else s.nextBurst c

/-- The arbiter's priority of a channel; the responder goes with the highest (R299). -/
def State.chanPrio (s : State) (c : Nat) : Nat := if c = respChan then 7 else s.get (F.BLK_CH_CFG_PRIO c)

/-- A higher-priority ready channel competes for the same port (R299). -/
def State.outranked (s : State) (c port : Nat) : Bool :=
  (List.range 128).any fun d => d != c && decide (s.chanPrio d > s.chanPrio c) &&
    (match s.chanReady d with | some b => (s.burstHome d b).1 == port | none => false)

/-- Issues a burst: it is translated page by page and read or written (R222, R297). -/
def State.burstIssue (s : State) (c : Nat) (b : Burst) (scav : Bool) : State :=
  let ch := s.chans.look c
  let own := ch.jumped.any fun j => j.id == b.id && j.kind == b.kind && j.op == b.op
  let bid := if own then b.id else ch.nextId
  let (_, pasid, dom) := s.burstHome c b
  let b := { b with id := bid, issued := true, scav := scav, faulted := none }
  let s := (s.count 0x0600 c 1 (some dom)).count 0x0601 c b.len (some dom)
  let s := s.updChan c fun ch => { ch with
    bursts := ch.bursts ++ [b], jumped := if own then ch.jumped.filter (·.id != b.id) else ch.jumped, nextId := if own then ch.nextId else ch.nextId + 1
    asked := (match b.kind with | .rfRd _ => ch.asked + b.len | _ => ch.asked), rfIdxAsked := (match b.kind with | .rfItab i n => i + n | _ => ch.rfIdxAsked) }
  let s := match b.kind with
    | .itab i n => s.updOp b.op fun o => { o with idxAsked := i + n }
    | .read => s.updOp b.op fun o => { o with asked := o.asked + b.len }
    | .copyRd _ => s.updOp b.op fun o => { o with asked := o.asked + b.len }
    | .collRd _ => s.updOp b.op fun o => { o with asked := o.asked + b.len }
    | _ => s
  (s.access (.burst c bid) pasid dom (if b.kind.writes then .write else .read) false b.pieces b.data).2

/-- BURST_GRANT's operation: the arbiter grants a ready channel's next burst under its toll (R299, R413 to R419). -/
def State.burstGrant (s : State) (c : Nat) : State :=
  match s.chanReady c with
  | none => s
  | some b =>
    let (port, _, dom) := s.burstHome c b
    if s.outranked c port then s
    else match b.kind.tollClass with
    | none => s.burstIssue c b false
    | some cls =>
      let pre := if cls = 0 then s.precolour (s.opRun b.op).wq else 0
      let (s, col, toll) := s.metered dom cls b.len pre
      let t := match toll with | some n => s.tolls.look n | none => default
      match col with
      | .green => s.burstIssue c b false
      | .yellow => s.burstIssue c b t.demote
      | .red =>
        if t.red = 1 && cls == 0 then s.failFrom b.op b.off stNoRes
        else (s.updChan c fun ch => { ch with deferred := toll }).ledger dom ldRed 1

/-! ### Completing bursts -/

/-- Bursts read in order join the operation's data; packets form (R298). A burst leaves the channel once its packets are queued (R412). -/
def State.drainRead (fuel : Nat) (s : State) (c k : Nat) : State :=
  match fuel with
  | 0 => s
  | fuel + 1 =>
    let o := s.ops.look k
    let ready := fun (b : Burst) => b.op == k && b.finished && b.off == o.inBytes && (match b.kind with | .read => true | .collRd _ => true | _ => false)
    match (s.chans.look c).bursts.find? ready with
    | none => s
    | some b =>
      if o.sends && decide (o.acc.length ≥ 4096) then s
      else
        let s := s.updChan c fun ch => { ch with bursts := ch.bursts.filter (·.id != b.id) }
        let s := s.updOp k fun o => { o with acc := o.acc ++ b.data, inBytes := o.inBytes + b.len }
        let s := if o.sends then s.chanForm c b.scav else s.later (.collData k)
        State.drainRead fuel s c k

/-- A transfer of the register form completes (R308, R309): status, message, and the hand-over or HALTED. -/
def State.rfStart (s : State) (c : Nat) : State :=
  let set : RfSet := ⟨s.get (F.BLK_SH_SRC_SRC c), s.get (F.BLK_SH_DST_DST c), s.get (F.BLK_SH_COUNT_COUNT c), s.get (F.BLK_SH_IDX_IDX c),
    s.flag (F.BLK_SH_CTRL_IRQ_EN c), s.get (F.BLK_SH_CTRL_VECTOR c), s.get (F.BLK_SH_CTRL_ESIZE c), s.get (F.BLK_SH_CTRL_MODE c), s.get (F.BLK_SH_CTRL_PASID c)⟩
  s.updChan c fun ch => { ch with
    set := set, armed := false, handSeq := (ch.handSeq + 1) % 65536, bytes := 0, act := .busy, asked := 0, rfIdx := [], rfIdxAsked := 0, bursts := [], jumped := [] }

/-- Ends the active transfer with a status. -/
def State.rfEnd (s : State) (c st : Nat) : State :=
  let ch := s.chans.look c
  let gone := s.accs.keysOf fun a => match a.client with | .burst d _ => d == c | _ => false
  let s := gone.foldl (fun s i => s.accDrop i) s
  let p := s.pas.look ch.set.pasid
  let s := s.updChan c fun ch => { ch with lastSt := st, bursts := [], jumped := [], parked := false, act := .idle }
  if ch.set.irqEn && p.st != .free then s.msix p.port p.fn ch.set.vector else s

/-- The hand-over of R307, with the checks of R309 on the set it takes; transfers of COUNT 0 complete at once. -/
def State.rfHand (s : State) (c : Nat) : State :=
  if !(s.chans.look c).armed then s.updChan c fun ch => { ch with act := .idle }
  else
    let s := s.rfStart c
    let x := (s.chans.look c).set
    let p := s.pas.look x.pasid
    if p.st != .active || p.dom.isNone || x.mode = 3 then (s.rfEnd c stAborted).updChan c fun ch => { ch with act := .halted }
    else if x.count = 0 || (x.mode != 0 && x.esize = 0) then s.rfEnd c stOk
    else s

/-- RF_TRANSFER_COMPLETE's operation: every byte has been written (R308). -/
def State.rfComplete (s : State) (c : Nat) : State :=
  let ch := s.chans.look c
  let total := if ch.set.mode = 0 then ch.set.count else ch.set.count * ch.set.esize
  if s.regform c && ch.act == .busy && decide (ch.bytes ≥ total) && ch.bursts.isEmpty then (s.rfEnd c stOk).rfHand c else s

/-- The burst of the register form at byte `off` has failed on the bus: BUS_ERROR with BYTES the leading completed bursts, HALTED, the hand-over held
(R309). -/
def State.rfBus (s : State) (c off : Nat) : State :=
  let ch := s.chans.look c
  let data := fun (b : Burst) => match b.kind with | .rfItab _ _ => false | _ => true
  let first := ((ch.bursts ++ ch.jumped).filter data).foldl (fun (n : Nat) (b : Burst) => min n b.off) off
  ((s.updChan c fun ch => { ch with bytes := min ch.bytes first }).rfEnd c stBus).updChan c fun ch => { ch with act := .halted }

/-- Removes a burst from its channel. -/
def State.burstDrop (s : State) (c bid : Nat) : State := s.updChan c fun ch => { ch with bursts := ch.bursts.filter (·.id != bid) }

/-- An operation whose local data is all in place completes (R138, R143). -/
def State.localDone (s : State) (k off len : Nat) : State :=
  let s := s.updOp k fun o => let g := (off, len) :: o.got; { o with got := g, done := leading g }
  let o := s.ops.look k
  if o.opcode = 0x31 ∧ o.arg = 0 then (if leading o.got ≥ o.x.total then s.later (.pooled k true) else s)
  else if o.failSt.isSome then s.txSettle o.src.1
  else if leading o.got ≥ o.x.total ∧ (o.allFormed ∨ !o.sends) then
    let s := if o.opcode = 0x31 ∧ o.sigr then s.ctrSignal o.rctr (s.runs.look (k / 64)).dom else s
    let s := s.opFin k (if o.opcode = 0x31 ∧ o.x.mode = 7 then stTrunc else stOk) o.x.total none
    if o.pair.isSome then s.txForget o.src.1 k else s
  else s

/-- 32-bit index entries of little-endian bytes (R139). -/
def entries : Nat → List Byte → List Nat
  | 0, _ => []
  | n + 1, bs => ofBytes (bs.take 4) :: entries n (bs.drop 4)

/-- An index entry addresses bytes past the end of the job's data (R183). -/
def Op.overJob (o : Op) (xs : List Nat) : Bool :=
  (o.x.localIdx && !o.x.frs.isEmpty && xs.any fun v => decide (o.x.la + v + o.x.esize > pieceLen o.x.frs)) ||
  (o.x.mode == 2 && o.opcode == 0x26 && !o.x.frs2.isEmpty && xs.any fun v => decide (o.x.dst + v + o.x.esize > pieceLen o.x.frs2))

/-- A burst has completed with its bytes. -/
def State.burstOk (s : State) (c : Nat) (b : Burst) (bs : List Byte) : State :=
  match b.kind with
  | .read => (s.updChan c fun ch => { ch with bursts := ch.bursts.map fun (x : Burst) => if x.id = b.id then { x with finished := true, data := bs } else x }).drainRead 33 c b.op
  | .collRd _ => (s.updChan c fun ch => { ch with bursts := ch.bursts.map fun (x : Burst) => if x.id = b.id then { x with finished := true, data := bs } else x }).drainRead 33 c b.op
  | .itab _ n =>
    let s := (s.burstDrop c b.id).updOp b.op fun o => { o with idx := o.idx ++ entries n bs }
    if (s.ops.look b.op).overJob (entries n bs) then ((s.opCut b.op).opFin b.op stAborted 0 none).endRun (b.op / 64) stIllegal false else s.later (.form c)
  | .copyRd d => (s.burstDrop c b.id).jump c [{ b with kind := .copyWr, pieces := [(d, b.len)], data := bs, issued := false }]
  | .copyWr => ((s.burstDrop c b.id).localDone b.op b.off b.len).later (.form c)
  | .placeResp _ => ((s.burstDrop c b.id).localDone b.op b.off b.len).ledger (s.opRun b.op).dom ldRx b.len
  | .resend k psn =>
    let s := s.burstDrop c b.id
    match (s.ptx.look k).pkt psn with
    | some x => if x.acked then s else s.txSend k x bs b.scav
    | none => s
  | .pool _ =>
    let o := s.ops.look b.op
    let mk := fun off va m data => { (default : Burst) with op := b.op, kind := .copyWr, off := off, len := m, pieces := [(va, m)], data := data }
    (s.burstDrop c b.id).jump c (cutBursts (s.burstSize c) mk (b.len + 1) (o.localAt b.off b.len) b.off bs)
  | .rfRd d => (s.burstDrop c b.id).jump c [{ b with kind := .rfWr, pieces := [(d, b.len)], data := bs, issued := false }]
  | .rfWr => (s.burstDrop c b.id).updChan c fun ch => { ch with bytes := ch.bytes + b.len }
  | .rfItab _ n => (s.burstDrop c b.id).updChan c fun ch => { ch with rfIdx := ch.rfIdx ++ entries n bs }
  | .collWr seg => (s.burstDrop c b.id).later (.collBurst b.op seg true)
  | .cvyRd v off => (s.burstDrop c b.id).later (.cvyData v off bs)
  | .readout =>
    let s := s.updChan c fun ch => { ch with bursts := ch.bursts.map fun (x : Burst) => if x.id = b.id then { x with finished := true, data := bs } else x }
    let ch := s.chans.look c
    if (ch.bursts.all fun x => x.op != b.op || x.finished) && !(ch.jumped.any (·.op == b.op)) then s.later (.readoutDone b.op none false) else s

/-- A burst has failed on the bus (R128, R232). -/
def State.burstBus (s : State) (c : Nat) (b : Burst) : State :=
  let s := s.burstDrop c b.id
  match b.kind with
  | .rfRd _ => s.rfBus c b.off
  | .rfWr => s.rfBus c b.off
  | .rfItab _ _ => s.rfBus c (s.chans.look c).asked
  | .readout => s.later (.readoutDone b.op none true)
  | .pool _ => s.later (.pooled b.op false)
  | .cvyRd _ _ => s.updChan c fun ch => { ch with jumped := ch.jumped ++ [{ b with issued := false }] }
  | .collWr seg => s.later (.collBurst b.op seg false)
  | .collRd seg => s.later (.collBurst b.op seg false)
  | .resend k psn => (s.updPkt k psn fun x => { x with reading := false }).bulkFail b.op stBus
  | .itab _ _ => s.failFrom b.op (s.ops.look b.op).asked stBus
  | .placeResp _ => s.bulkFail b.op stBus
  | _ => s.failFrom b.op b.off stBus

/-- In place of a fault cause: the translation was refused without a walk (R208). -/
abbrev xRefused : Nat := 255

/-- A burst's access has ended (R208, R302, R309 and the kinds above). -/
def State.burstDone (s : State) (c bid : Nat) (r : AccRes) : State :=
  match (s.chans.look c).bursts.find? (·.id == bid) with
  | none => s
  | some b =>
    match r with
    | .bytes bs => s.burstOk c b bs
    | .ok ws => s.burstOk c b (wordBytes ws)
    | .busErr => s.burstBus c b
    | .refused => (match b.kind with
      | .readout => (s.burstDrop c bid).later (.readoutDone b.op (some (xRefused, 0, 0)) false)
      | .pool _ | .cvyRd _ _ | .rfRd _ | .rfWr | .rfItab _ _ => s.burstBus c b
      | _ => (s.bulkFail b.op stAborted).endRun (b.op / 64) stAborted false)
    | .xlate cause level va =>
      match b.kind with
      | .readout => (s.burstDrop c bid).later (.readoutDone b.op (some (cause, level, va)) false)
      | .pool _ => (s.burstDrop c bid).later (.pooled b.op false)
      | _ => s.updChan c fun ch => { ch with bursts := ch.bursts.map fun (x : Burst) => if x.id = bid then { x with faulted := some (cause, level, va), issued := false } else x }

/-! ### Parking -/

/-- Rebinds the operations displaced behind a parked one, or leaves them unbound in order (R303). -/
def State.displace (s : State) (c k : Nat) : State :=
  let ch := s.chans.look c
  let behind := ((ch.ops.dropWhile (· != k)).drop 1).filter fun j =>
    let o := s.ops.look j
    o.live && o.asked == 0 && o.formed == 0 && o.idxAsked == 0 && o.got.isEmpty && o.pair != (s.ops.look k).pair && !(ch.bursts.any (·.op == j)) && !(ch.jumped.any (·.op == j))
  let s := s.updChan c fun ch => { ch with ops := ch.ops.filter (!behind.contains ·) }
  behind.foldl (fun s j =>
    match s.pickChan (s.opRun j).wq (s.ops.look j).pair with
    | some d => s.bindTo j d
    | none => { (s.updOp j fun o => { o with bound := none }) with unbound := s.unbound ++ [j] }) s

/-- CHANNEL_PARK's operation (R302, R303, R310): every earlier burst has completed. -/
def State.chanPark (s : State) (c : Nat) : State :=
  let ch := s.chans.look c
  match ch.bursts.find? (·.faulted.isSome) with
  | none => s
  | some b =>
    let earlier := ch.bursts.takeWhile (·.id != b.id)
    if ch.parked || earlier.any (fun x => !x.finished && x.faulted.isNone) then s
    else
      let (cause, level, va) := b.faulted.getD (0, 0, 0)
      let acc := if b.kind.writes then 1 else 0
      if s.regform c then
        let s := s.updChan c fun ch => { ch with parked := true, act := .parked, parkOp := 0 }
        s.faultEvent ch.set.pasid cause 2 acc level c 0 va
      else match b.kind with
      | .cvyRd v _ =>
        let g := s.cvys.look v
        let s := s.updChan c fun ch => { ch with parked := true, parkOp := 0 }
        ({ s with cvys := s.cvys.put v { g with retryIn := (s.pas.look g.pasid).retryAfter } }).faultOnce g.pasid cause 5 level v va .read
      | _ =>
        let ctx := b.op / 64
        let s := s.updChan c fun ch => { ch with parked := true, parkOp := s.handle ctx }
        let s := s.updRun ctx fun r => { r with parkedOps := r.parkedOps ++ [b.op], faults := r.faults ++ [⟨1, cause, level, acc, va, (s.ops.look b.op).pc⟩] }
        s.displace c b.op

/-- The faulting bursts of a channel are translated afresh (R304). -/
def State.chanResume (s : State) (c : Nat) : State :=
  let ch := s.chans.look c
  let again := ch.bursts.filter (·.faulted.isSome)
  let s := s.updChan c fun ch => { ch with
    parked := false, parkOp := 0, bursts := ch.bursts.map fun (b : Burst) => if b.faulted.isSome then { b with faulted := none, issued := true } else b }
  again.foldl (fun s b =>
    let (_, pasid, dom) := s.burstHome c b
    (s.access (.burst c b.id) pasid dom (if b.kind.writes then .write else .read) false b.pieces b.data).2) s

/-- A parked operation is cancelled at its faulting burst and its channel goes on (R304, R115). -/
def State.opCancelParked (s : State) (k : Nat) : State :=
  let o := s.ops.look k
  let s := match o.bound with | some c => (s.opCut k).updChan c fun ch => { ch with parked := false, parkOp := 0, bursts := ch.bursts.filter (·.op != k), jumped := ch.jumped.filter (·.op != k) } | none => s
  let s := (s.updOp k fun o => { o with noCtr := true }).opFin k stAborted o.failBytes none
  if o.pair.isSome then s.txForget o.src.1 k else s

/-- Operations that have completed leave their channels (R295); a channel parked on one of them goes on. -/
def State.sweep (s : State) : State :=
  let gone := fun k => let o := s.ops.look k; !o.live || o.fin.isSome
  let s := { s with unbound := s.unbound.filter (!gone ·) }
  (s.chans.keys.filter (· < 128)).foldl (fun s c =>
    let ch := s.chans.look c
    let dead := ch.ops.filter gone
    if dead.isEmpty then s
    else
      let out := fun (b : Burst) => dead.contains b.op && (match b.kind with | .resend _ _ => false | _ => true)
      let s := (ch.bursts.filter out).foldl (fun s b => (s.accs.keysOf fun a => a.client == .burst c b.id).foldl (fun s i => s.accDrop i) s) s
      let wasFault := ch.parked && ch.bursts.any fun b => b.faulted.isSome && out b
      let s := s.updChan c fun ch => { ch with
        ops := ch.ops.filter (!dead.contains ·), bursts := ch.bursts.filter (!out ·), jumped := ch.jumped.filter (!out ·), parked := ch.parked && !wasFault,
        parkOp := if wasFault then 0 else ch.parkOp }
      s.later (.form c)) s

/-- OPERATION_BIND's operation: displaced operations take channels in binding order as room appears (R303). -/
def State.operationBind (s : State) : State :=
  match s.unbound with
  | [] => s
  | k :: ks =>
    match s.pickChan (s.opRun k).wq (s.ops.look k).pair with
    | some c => ({ s with unbound := ks }).bindTo k c
    | none => s

/-! ### Register form commands (R306, R307, R311) -/

/-- GO arms the shadow set, and hands over at once on an idle channel. -/
def State.rfGo (s : State) (c : Nat) : State :=
  let ch := s.chans.look c
  if !s.regform c || ch.armed || !s.flag (F.BLK_CH_CFG_EN c) then s
  else
    let s := s.updChan c fun ch => { ch with armed := true }
    if ch.act = .idle then s.rfHand c else s

/-- An OP outside its states counts (R311). -/
def State.rfIgnored (s : State) (c : Nat) : State := s.updChan c fun ch => { ch with cmdIgnored := satAdd 16 ch.cmdIgnored 1 }

/-- OP RESUME. -/
def State.rfResume (s : State) (c : Nat) : State :=
  if s.regform c && (s.chans.look c).act == .parked then (s.updChan c fun ch => { ch with act := .busy }).chanResume c else s.rfIgnored c

/-- OP ABORT. -/
def State.rfAbort (s : State) (c : Nat) : State :=
  let a := (s.chans.look c).act
  if s.regform c && (a == .busy || a == .parked) then (s.rfEnd c stAborted).rfHand c else s.rfIgnored c

/-- OP ABORT_ALL. -/
def State.rfAbortAll (s : State) (c : Nat) : State :=
  let a := (s.chans.look c).act
  if s.regform c && (a == .busy || a == .parked) then (s.rfEnd c stAborted).updChan c fun ch => { ch with armed := false, act := .idle }
  else if s.regform c && a == .halted then s.updChan c fun ch => { ch with armed := false, act := .idle }
  else s.rfIgnored c

/-- OP CONTINUE. -/
def State.rfContinue (s : State) (c : Nat) : State :=
  if s.regform c && (s.chans.look c).act == .halted then s.rfHand c else s.rfIgnored c

/-! ### Responses at the requester (R402) and read-out at the target (R300) -/

/-- A GET_RESP or RGET_RESP whose checks have passed is cut into placement bursts of its operation's channel (R298). -/
def State.placeResp (s : State) (k : Nat) (p : Packet) (off : Nat) : State :=
  let o := s.ops.look k
  match o.bound with
  | none => s
  | some c =>
    if p.payload.isEmpty then s.localDone k off 0
    else
      let mk := fun o' va m data => { (default : Burst) with op := k, kind := .placeResp p.psn, off := o', len := m, pieces := [(va, m)], data := data }
      s.jump c (cutBursts (s.burstSize c) mk (p.payload.length + 1) (o.localAt off p.payload.length) off p.payload)

/-- Starts a read-out of local pieces for a pair channel's request under an address space (R300). -/
def State.readout (s : State) (k pasid : Nat) (pieces : List (Nat × Nat)) : State :=
  let mk := fun off va m _ => { (default : Burst) with op := k, kind := .readout, off := off, len := m, pieces := [(va, m)], faulted := some (pasid, 0, 0) }
  let bs := cutBursts 4096 mk (pieceLen pieces + 1) pieces 0 []
  if bs.isEmpty then s.later (.readoutDone k none false) else s.jump respChan bs

/-- The data read out for a pair channel, in order; its bursts are forgotten. -/
def State.takeReadout (s : State) (k : Nat) : State × List Byte :=
  let bs := (s.chans.look respChan).bursts.filter (·.op == k)
  let order := sortRank (fun i => (bs.getD i default).off) (List.range bs.length)
  let data := order.flatMap fun i => (bs.getD i default).data
  (s.updChan respChan fun ch => { ch with bursts := ch.bursts.filter (·.op != k), jumped := ch.jumped.filter (·.op != k) }, data)

/-- A response packet of a pair channel's request (R282, R402), metered class RESP at its read. -/
def State.respond (s : State) (k : Nat) (req : Packet) (op : PktOp) (raddr : Nat) (payload : List Byte) (last : Bool) : State :=
  let r := s.prx.look k
  match s.endpoint r.node, s.key req.domain with
  | some (router, _), some key =>
    if s.quiet then s
    else
      let p : Packet := {
        dstRouter := router, dstNode := r.node, dstFunc := r.func, srcNode := s.nodeOf r.port, srcFunc := r.fn, domain := req.domain,
        inter := router, psn := req.psn, srcInc := s.inc, dstInc := req.srcInc, birth := s.now % 4096, op := op, chan := 2, first := false, last := last,
        scatter := false, len := payload.length, raddr := BitVec.ofNat 64 raddr, rkey := 0, opid := BitVec.ofNat 64 (wbits req.opid 31 0), rctr := 0, sigr := false,
        payload := payload, crcOk := true,
        sealed := ⟨key, dataIv (s.nodeOf r.port) r.fn r.node r.func (pktCode op 2) req.psn s.inc s.now (if op = .amoResp then 0 else raddr % 2 ^ 32), true⟩ }
      s.inject p 1 false
  | _, _ => s

/-- Pieces of at most 4,096 B of a response (R283). -/
def chunk4k : Nat → List Byte → List (List Byte)
  | 0, _ => []
  | n + 1, bs => if bs.length ≤ 4096 then [bs] else bs.take 4096 :: chunk4k n (bs.drop 4096)

end Sys2Proof.Machine
end

