-- ==== Sys2Proof/Machine/Float.lean ====
section
/-!
DEFINITION. Floating-point sums, minima and maxima of R141 and R323 over any binary interchange format: exact integers in units of the smallest
subnormal, one rounding to nearest even, subnormals kept, and the canonical quiet NaN.
-/
namespace Sys2Proof.Machine

/-- A binary format: exponent and fraction bits. -/
structure Fmt where
  eb : Nat
  mb : Nat
deriving DecidableEq, Repr

abbrev fp64 : Fmt := ⟨11, 52⟩
abbrev fp32 : Fmt := ⟨8, 23⟩
abbrev bf16 : Fmt := ⟨8, 7⟩
abbrev fp16 : Fmt := ⟨5, 10⟩

/-- Fields of an encoding. -/
def Fmt.neg (f : Fmt) (x : Nat) : Bool := x.testBit (f.eb + f.mb)
def Fmt.ex (f : Fmt) (x : Nat) : Nat := bitsOf x (f.eb + f.mb - 1) f.mb
def Fmt.man (f : Fmt) (x : Nat) : Nat := x % 2 ^ f.mb
def Fmt.isNan (f : Fmt) (x : Nat) : Bool := f.ex x == 2 ^ f.eb - 1 && f.man x != 0
def Fmt.isInf (f : Fmt) (x : Nat) : Bool := f.ex x == 2 ^ f.eb - 1 && f.man x == 0

/-- The canonical quiet NaN and an infinity. -/
def Fmt.qnan (f : Fmt) : Nat := (2 ^ f.eb - 1) * 2 ^ f.mb + 2 ^ (f.mb - 1)
def Fmt.inf (f : Fmt) (neg : Bool) : Nat := b2n neg * 2 ^ (f.eb + f.mb) + (2 ^ f.eb - 1) * 2 ^ f.mb

/-- The magnitude of a finite number in units of the smallest subnormal. -/
def Fmt.mag (f : Fmt) (x : Nat) : Nat := if f.ex x = 0 then f.man x else (2 ^ f.mb + f.man x) * 2 ^ (f.ex x - 1)

/-- The signed value in those units. -/
def Fmt.val (f : Fmt) (x : Nat) : Int := if f.neg x then -(f.mag x : Int) else f.mag x

/-- Rounds n × 2^−sh units to nearest even (R141). -/
def Fmt.round (f : Fmt) (neg : Bool) (n sh : Nat) : Nat :=
  let shift := max (n.log2 - f.mb) sh
  let q := n / 2 ^ shift
  let r := n % 2 ^ shift
  let half := if shift = 0 then 0 else 2 ^ (shift - 1)
  let q := if shift ≠ 0 ∧ (r > half ∨ (r = half ∧ q % 2 = 1)) then q + 1 else q
  let e := (shift - sh) * 2 ^ f.mb + q
  if e ≥ (2 ^ f.eb - 1) * 2 ^ f.mb then f.inf neg else b2n neg * 2 ^ (f.eb + f.mb) + e

/-- a + b. -/
def Fmt.add (f : Fmt) (a b : Nat) : Nat :=
  if f.isNan a || f.isNan b then f.qnan
  else if f.isInf a then (if f.isInf b && f.neg a != f.neg b then f.qnan else f.inf (f.neg a))
  else if f.isInf b then f.inf (f.neg b)
  else
    let v := f.val a + f.val b
    if v = 0 then b2n (f.neg a && f.neg b) * 2 ^ (f.eb + f.mb) else f.round (decide (v < 0)) v.natAbs 0

/-- A format's number in a wider or narrower format, rounded to nearest even. -/
def Fmt.conv (f g : Fmt) (x : Nat) : Nat :=
  if f.isNan x then g.qnan
  else if f.isInf x then g.inf (f.neg x)
  else
    -- exponents of the smallest subnormals: 2 − 2^(eb−1) − mb
    let uf : Int := 2 - 2 ^ (f.eb - 1) - f.mb
    let ug : Int := 2 - 2 ^ (g.eb - 1) - g.mb
    let m := f.mag x
    if m = 0 then b2n (f.neg x) * 2 ^ (g.eb + g.mb)
    else if uf ≥ ug then g.round (f.neg x) (m * 2 ^ (uf - ug).toNat) 0 else g.round (f.neg x) m (ug - uf).toNat

/-- a is less than b, −0 before +0. -/
def Fmt.lt (f : Fmt) (a b : Nat) : Bool :=
  let key := fun x => if f.isInf x then (if f.neg x then -(2 ^ (2 ^ f.eb + f.mb) : Int) else 2 ^ (2 ^ f.eb + f.mb)) else f.val x
  decide (key a < key b) || (key a == key b && f.neg a && !f.neg b)

/-- Two's complement value of a width. -/
def sval (w n : Nat) : Int := if n % 2 ^ w ≥ 2 ^ (w - 1) then (n % 2 ^ w : Int) - 2 ^ w else n % 2 ^ w

/-- The result of an atomic (R141) at a width of 32 or 64 bits. -/
def amoResult (sub w old opnd cmp : Nat) : Nat :=
  let old := old % 2 ^ w
  let x := opnd % 2 ^ w
  match sub with
  | 0 => (old + x) % 2 ^ w
  | 1 => fp64.add old x
  | 2 => fp32.add old x
  | 3 => old &&& x
  | 4 => old ||| x
  | 5 => old ^^^ x
  | 6 => if sval w x < sval w old then x else old
  | 7 => if sval w x > sval w old then x else old
  | 8 => min old x
  | 9 => max old x
  | 10 => x
  | _ => if old = cmp % 2 ^ w then x else old

end Sys2Proof.Machine
end

