-- ==== Sys2Proof/Machine/Rma.lean ====
section
/-!
DEFINITION. Remote memory access and atomics at the target (spec/09): region keys, their table and cache, the ten checks, puts, read-out for
gets, atomics under line locks, the result store, and responses at the requester (R402).
-/
namespace Sys2Proof.Machine

/-! ### Keys -/

/-- GEN, INDEX and CHECK of a key (R270). -/
def keyGen (k : Word) : Nat := wbits k 63 48
def keyIndex (k : Word) : Nat := wbits k 47 24
def keyCheck (k : Word) : Nat := wbits k 23 0

/-- The check value of a key (R271). -/
def State.checkOf (s : State) (index gen dom : Nat) : Nat :=
  wbits (BitVec.ofNat 64 (Config.cmac s.secret (leBytes (index + gen * 2 ^ 24 + dom * 2 ^ 40) 8)).toNat) 23 0

/-- A whole key. -/
def State.keyOf (s : State) (index gen dom : Nat) : Word := packW [(48, gen), (24, index), (0, s.checkOf index gen dom)]

/-- LOG2 of the key table in force. -/
def State.ktabLog2 (s : State) : Nat := min (s.atLeast F.RMA_KTAB_BASE_LOG2 10) 24

/-- The physical address of an entry (R272). -/
def State.ktabAt (s : State) (index : Nat) : Nat := s.get F.RMA_KTAB_BASE_BASE * 4096 + index * 64

/-- Words 0 to 3 of an entry (R273). -/
def KeyEnt.head (e : KeyEnt) : List Word :=
  [packW [(0, e.gen), (16, e.dom), (32, e.pasid), (52, e.rights), (63, b2n e.valid)], BitVec.ofNat 64 e.base, BitVec.ofNat 64 e.len, BitVec.ofNat 64 e.epoch]

/-- The integrity tag of an entry (R273). -/
def State.integ (s : State) (index : Nat) (head : List Word) : Nat := (Config.cmac s.secret (wordBytes head ++ leBytes index 8)).toNat

/-- Words of an entry as the device writes them. -/
def State.entryWords (s : State) (index : Nat) (e : KeyEnt) : List Word :=
  let t := s.integ index e.head
  e.head ++ [BitVec.ofNat 64 t, BitVec.ofNat 64 (t / 2 ^ 64), 0, 0]

/-- An entry as read from the table. -/
def KeyEnt.ofWords (ws : List Word) : KeyEnt :=
  let w0 := ws.getD 0 0
  ⟨wbit w0 63, wbits w0 15 0, wbits w0 31 16, wbits w0 51 32, wbits w0 55 52, (ws.getD 1 0).toNat, (ws.getD 2 0).toNat, wbits (ws.getD 3 0) 15 0, 0⟩

/-- The integrity tag an entry holds. -/
def tagOfWords (ws : List Word) : Nat := (ws.getD 4 0).toNat + (ws.getD 5 0).toNat * 2 ^ 64

/-- Puts an entry into the cache, replacing the least recently used of its set (R275). -/
def State.kfill (s : State) (index : Nat) (e : KeyEnt) : State :=
  let e := { e with used := s.kuse }
  let s := { s with kuse := s.kuse + 1 }
  let mates : List (Nat × KeyEnt) := s.kcache.filter fun x => x.1 % 4096 == index % 4096 && x.1 != index
  let s := if mates.length < 16 then s
    else match sortRank (fun i => (s.kcache.look i).used) (mates.map (·.1)) with
      | v :: _ => { s with kcache := s.kcache.del v }
      | [] => s
  { s with kcache := s.kcache.put index e }

/-- Writes an entry into the cache and the table together (R275, R276). -/
def State.kwrite (s : State) (index : Nat) (e : KeyEnt) : State :=
  (s.kfill index e).out (.hostWrite (s.get F.RMA_KTAB_BASE_PORT) 0 [(s.ktabAt index, 64)] (wordBytes (s.entryWords index e)))

/-- What RMA_TAMPER_INDEX and the count of tampered entries show of one (R274). -/
def State.tamperMark (s : State) (index : Nat) : State :=
  let s := s.bump F.RMA_KEY_FAIL_B_TAMPER 1
  if s.flag F.RMA_TAMPER_INDEX_VALID then s else (s.put F.RMA_TAMPER_INDEX_VALID 1).put F.RMA_TAMPER_INDEX_INDEX index

/-- An entry that fails INTEG (R274). -/
def State.tamper (s : State) (index : Nat) : State := (s.flt 0x084 (BitVec.ofNat 64 index)).tamperMark index

/-- A waiter asks for an entry that is not cached: the table read starts unless one is under way. -/
def State.kask (s : State) (index : Nat) (w : KeyWait) : State :=
  let busy := s.kwait.any (·.1 == index)
  let s := { s with kwait := s.kwait ++ [(index, w)] }.count 0x0500 0 1 none
  if busy then s else s.out (.hostRead (keyReq index) (s.get F.RMA_KTAB_BASE_PORT) 0 [(s.ktabAt index, 64)])

/-- Counts a failed check (RMA_KEY_FAIL). -/
def State.keyFail (s : State) (st : Nat) : State :=
  if st = stKeyInvalid then s.bump F.RMA_KEY_FAIL_A_KEY_INVALID 1
  else if st = stBounds then s.bump F.RMA_KEY_FAIL_A_BOUNDS 1
  else if st = stRights then s.bump F.RMA_KEY_FAIL_B_RIGHTS 1 else s

/-! ### The ten checks -/

/-- Sub-operation, width and fetch of an AMO packet (R282). -/
def amoSub (p : Packet) : Nat := wbits p.opid 35 32
def amoW32 (p : Packet) : Bool := wbit p.opid 36
def amoFetch (p : Packet) : Bool := wbit p.opid 37
def amoBytes (p : Packet) : Nat := if amoW32 p then 4 else 8

/-- The range within the region (R278). -/
def inRegion (off n len : Nat) : Bool := decide (off + n ≤ len)

/-- The rights an operation needs (R279). -/
def rightsOk (e : KeyEnt) (p : Packet) : Bool :=
  (match p.op with | .put => e.rights.testBit 1 | .get => e.rights.testBit 0 | _ => e.rights.testBit 2) && (!p.sigr || e.rights.testBit 3)

/-- Bounds of R280 and alignment of check 7. -/
def boundsOk (e : KeyEnt) (p : Packet) : Bool :=
  let off := p.raddr.toNat
  match p.op with
  | .put => inRegion off p.payload.length e.len && (!(p.first && !p.scatter) || inRegion off (wbits p.opid 63 32) e.len)
  | .get => inRegion off (wbits p.opid 63 32) e.len
  | _ => inRegion off (amoBytes p) e.len && (e.base + off) % amoBytes p == 0

/-- Checks 2 to 10 of R277 on the entry found: the status of the first that fails. -/
def State.keyChecks (s : State) (e : KeyEnt) (p : Packet) : Option Nat :=
  let a := s.pas.look e.pasid
  if !(e.valid && e.epoch == s.inc) then some stKeyInvalid
  else if e.dom ≠ p.domain then some stKeyInvalid
  else if e.gen ≠ keyGen p.rkey then some stKeyInvalid
  else if s.checkOf (keyIndex p.rkey) e.gen e.dom ≠ keyCheck p.rkey then some stKeyInvalid
  else if !boundsOk e p then some stBounds
  else if !rightsOk e p then some stRights
  else if p.sigr && (s.ctrs.look p.rctr).dom != some p.domain then some stRights
  else if a.st != .active || a.dom != some e.dom then some stKeyInvalid
  else none

/-- The AMO result store's key of a pair channel and PSN (R292). -/
def amoKey (k psn : Nat) : Nat := k * 2 ^ 24 + psn

/-- The local offset of a GET request within its operation (R282): requests are handled in PSN order, so it is the sum of those before it. -/
def PairRx.getOff (r : PairRx) (p : Packet) : Nat :=
  match r.gets.find? fun g => g.1 == p.psn with
  | some g => g.2.1
  | none =>
    if p.first then 0 else match r.gets.find? fun g => g.1 == (p.psn + 2 ^ 24 - 1) % 2 ^ 24 with
      | some g => g.2.1 + g.2.2
      | none => 0

/-- Advances the remote counter when the operation's last packet has been handled (R293). -/
def State.remoteSignal (s : State) (k : Nat) (p : Packet) : State :=
  let r := s.prx.look k
  if p.sigr && p.last && !r.curDup then s.ctrSignal p.rctr p.domain else s

/-- An accepted packet is acted on. -/
def State.rmaAct (s : State) (k : Nat) (p : Packet) (e : KeyEnt) : State :=
  let off := p.raddr.toNat
  let s := s.updRx k fun r => { r with keyVer := some (keyIndex p.rkey, e.gen) }
  match p.op with
  | .put =>
    if p.payload.isEmpty then (s.remoteSignal k p).rxHandled k p.last
    else
      let s := s.updRx k fun r => { r with st := .place 0 }
      (s.access (.place k) e.pasid e.dom .write false [((e.base + off) % 2 ^ 64, p.payload.length)] p.payload).2
  | .get =>
    let n := wbits p.opid 63 32
    let lo := (s.prx.look k).getOff p
    let s := s.updRx k fun r => { r with st := .readout 0, gets := if r.gets.any (·.1 == p.psn) then r.gets else (p.psn, lo, n) :: r.gets }
    s.readout k e.pasid (if n = 0 then [] else [((e.base + off) % 2 ^ 64, n)])
  | _ =>
    if amoFetch p && decide (s.amoRes.length ≥ 16384) then (s.bump F.RMA_AMO_STATUS_RNR 1).rxNack k .nackRnr 1
    else
      let s := s.updRx k fun r => { r with st := .place 0 }
      (s.access (.place k) e.pasid e.dom .atomic false [((e.base + off) % 2 ^ 64, amoBytes p)] []).2

/-- The packet in hand is checked against its key (R277), reading the key table if its entry is not cached. -/
def State.rmaStep (s : State) (k : Nat) : State :=
  let r := s.prx.look k
  match r.cur with
  | none => s
  | some p =>
    let i := keyIndex p.rkey
    let fail := fun (s : State) (st : Nat) => (s.keyFail st).rxRefuse k st
    if p.op = .amo && r.curDup then
      match s.amoRes.find? fun e => e.1 == amoKey k p.psn with
      | some (_, a) => (s.respond k p .amoResp 0 (leBytes a.old.toNat 8) true).rxHandled k true
      | none => s.rxHandled k true
    else if !s.flag F.RMA_KTAB_CTRL_EN || decide (i ≥ 2 ^ s.ktabLog2) then fail s stKeyInvalid
    else match s.kcache.find? fun e => e.1 == i with
      | none => (s.updRx k fun r => { r with st := .key }).kask i (.pair k)
      | some (_, e) =>
        let s := { s with kcache := s.kcache.upd i fun e => { e with used := s.kuse }, kuse := s.kuse + 1 }
        match s.keyChecks e p with
        | some st => fail s st
        | none => s.rmaAct k p e

/-- A host access of the packet in hand has ended: a put's write, or an atomic's translation. -/
def State.placeDone (s : State) (k : Nat) (res : AccRes) : State :=
  let r := s.prx.look k
  match r.cur with
  | none => s
  | some p =>
    let kind : AccKind := if p.op = .amo then .atomic else .write
    match res with
    | .xlate cause level va =>
      let e := s.kcache.look (keyIndex p.rkey)
      let s := s.faultOnce e.pasid cause 3 level (r.node + r.func * 2 ^ 20) va kind
      s.rxNack k .nackXlate (s.pas.look e.pasid).retryAfter
    | .busErr => s.rxRefuse k stBus
    | .refused => (s.keyFail stKeyInvalid).rxRefuse k stKeyInvalid
    | .ok ws =>
      if p.op = .amo then
        let pa := (ws.headD 0).toNat
        let line := (bitsOf pa 17 6) ^^^ (bitsOf pa 29 18) ^^^ (bitsOf pa 41 30) ^^^ (bitsOf pa 51 42)
        { (s.updRx k fun r => { r with st := .lineWait line pa }) with lines := s.lines.upd line fun l => { l with q := l.q ++ [k] } }
      else (s.remoteSignal k p).rxHandled k p.last
    | .bytes _ => s

/-- Read-out of a GET has ended (R285, R287, R300). -/
def State.getDone (s : State) (k : Nat) (fault : Option (Nat × Nat × Nat)) (bus : Bool) : State :=
  let (s, data) := s.takeReadout k
  let r := s.prx.look k
  match r.cur with
  | none => s
  | some p =>
    let e := s.kcache.look (keyIndex p.rkey)
    match fault with
    | some (cause, level, va) =>
      if cause = xRefused then (s.keyFail stKeyInvalid).rxRefuse k stKeyInvalid
      else (s.faultOnce e.pasid cause 3 level (r.node + r.func * 2 ^ 20) va .read).rxNack k .nackXlate (s.pas.look e.pasid).retryAfter
    | none =>
      if bus then s.rxRefuse k stBus
      else
        let lo := r.getOff p
        let parts := chunk4k (data.length / 4096 + 1) data
        let s := (List.range parts.length).foldl (fun s i => s.respond k p .getResp (lo + i * 4096) (parts.getD i []) false) s
        (s.remoteSignal k p).rxHandled k p.last

/-! ### Atomics (R289 to R292) -/

/-- The atomic holding a line lock. -/
def State.lineHolder (s : State) (line : Nat) : Option (Nat × Packet × Nat) :=
  match (s.lines.look line).q with
  | [] => none
  | k :: _ =>
    let r := s.prx.look k
    match r.cur, r.st with
    | some p, .lineWait _ pa => some (k, p, pa)
    | some p, .line _ pa => some (k, p, pa)
    | _, _ => none

/-- Lets a line lock go to the next in order. -/
def State.lineFree (s : State) (line : Nat) : State :=
  { s with lines := s.lines.upd line fun l => { l with q := l.q.drop 1, granted := false } }

/-- LINE_LOCK_GRANT's operation: the head takes the lock and its path (R289 to R291). A head that is gone is passed over. -/
def State.lineGrant (s : State) (line : Nat) : State :=
  let l := s.lines.look line
  if l.granted || l.q.isEmpty then s
  else match s.lineHolder line with
  | none => s.lineFree line
  | some (k, p, pa) =>
    let r := s.prx.look k
    let sub := amoSub p
    let native := (s.get F.RMA_ATOMIC_CTRL_ATOMICOP).testBit r.port && (sub == 0 || sub == 10 || (sub == 11 && !amoW32 p))
    let opnd := ofBytes (p.payload.take 8)
    let cmp := ofBytes ((p.payload.drop 8).take 8)
    let s := s.updRx k fun r => { r with st := .line line pa }
    let s := { s with lines := s.lines.put line { l with granted := true, pa := pa, atomicOp := native } }
    let s := s.count (if native then 0x0501 else 0x0502) r.port 1 (some r.dom)
    if native then s.out (.hostAtomic (lineReq line) r.port r.fn pa sub (amoBytes p) (BitVec.ofNat 64 opnd) (BitVec.ofNat 64 cmp))
    else s.out (.hostRead (lineReq line) r.port r.fn [(pa / 8 * 8, 8)])

/-- An atomic's result is visible: the result is kept and answered, the counter advances, the lock is free (R292, R293). -/
def State.amoFinish (s : State) (line k : Nat) (p : Packet) (old : Nat) : State :=
  let s := s.lineFree line
  let s := if amoFetch p then
      { s with amoRes := s.amoRes.put (amoKey k p.psn) ⟨k, p.psn, BitVec.ofNat 64 old, 2 * s.lifetime, false⟩ }.respond k p .amoResp 0 (leBytes old 8) true
    else s
  (s.remoteSignal k p).rxHandled k p.last

/-- ATOMIC_READ_RETURN's operation (R290). -/
def State.amoRead (s : State) (line : Nat) (res : ReadRes) : State :=
  let l := s.lines.look line
  if !l.granted || l.atomicOp then s
  else match s.lineHolder line with
  | none => s.lineFree line
  | some (k, p, pa) =>
    match res with
    | .busErr => (s.lineFree line).rxRefuse k stBus
    | .ok ws =>
      let r := s.prx.look k
      let w := amoBytes p * 8
      let word := (ws.headD 0).toNat
      let old := (if amoW32 p && pa / 4 % 2 = 1 then word / 2 ^ 32 else word) % 2 ^ w
      let new := amoResult (amoSub p) w old (ofBytes (p.payload.take 8)) (ofBytes ((p.payload.drop 8).take 8))
      (s.out (.hostWrite r.port r.fn [(pa, amoBytes p)] (leBytes new (amoBytes p)))).amoFinish line k p old

/-- ATOMICOP_COMPLETE's operation (R291). -/
def State.amoNative (s : State) (line : Nat) (res : ReadRes) : State :=
  let l := s.lines.look line
  if !l.granted || !l.atomicOp then s
  else match s.lineHolder line with
  | none => s.lineFree line
  | some (k, p, _) =>
    match res with
    | .busErr =>
      let r := s.prx.look k
      ((s.lineFree line).fltAt 0x086 (packW [(0, p.domain), (16, r.port)]) (some r.port)).rxRefuse k stBus
    | .ok ws => s.amoFinish line k p ((ws.headD 0).toNat % 2 ^ (amoBytes p * 8))

/-- AMO_RESULT_EXPIRY's operation: twice the lifetime is over, or the response is acknowledged (R292). -/
def State.amoExpire (s : State) (key : Nat) : State :=
  match s.amoRes.find? fun e => e.1 == key with
  | some (_, a) => if a.left = 0 ∨ a.acked then { s with amoRes := s.amoRes.del key } else s
  | none => s

/-! ### Responses at the requester (R402) -/

/-- A response whose age, CRC and tag pass, with the operation it matches by pair, OP_ID and range. -/
def State.respMatch (s : State) (p : Packet) (k : State → Nat → Nat → State) : State :=
  match s.endpoint p.dstNode with
  | none => s.bump F.RTC_DROP_B_EP_MISMATCH 1
  | some (router, port) =>
    if router != s.self then s.bump F.RTC_DROP_B_EP_MISMATCH 1
    else if s.age p.birth > s.lifetime || s.quiet then s.bump F.WPR_E2E_COUNT_B_LIFETIME_DROPS 1
    else if !p.crcOk then s.bump F.WPR_E2E_COUNT_C_CRC_FAIL 1
    else if !s.tagOk p then s.authFail p.domain p.srcNode
    else
      let base := pairKey port p.dstFunc p.srcNode p.srcFunc 0
      let opid := wbits p.opid 31 0
      let mine := fun (o : Op) => o.live && o.fin.isNone && o.eng == .bulk && o.src.1 / 4 * 4 == base &&
        (if p.op = .rgetResp then o.opcode == 0x31 && o.x.sub == opid else o.opid == opid && (if p.op = .amoResp then o.opcode == 0x25 else o.opcode == 0x21 || o.opcode == 0x23))
      match s.ops.keysOf mine with
      | j :: _ =>
        let o := s.ops.look j
        match (s.ptx.look o.src.1).pkts.find? fun x => x.op == j && x.psn == p.psn with
        | some x => k s j x.loff
        | none => s
      | [] => s

/-- Acknowledges a response on CHAN RESP (R402). -/
def State.ackResp (s : State) (p : Packet) : State :=
  match s.endpoint p.dstNode with
  | some (_, port) => s.sendCtl port p.dstFunc p.srcNode p.srcFunc 2 p.domain .ack p.psn 0 0 [] p.srcInc
  | none => s

/-- GET_RESP_ARRIVAL's operation: data within its request's range goes to its offset; what has been placed is not placed again. -/
def State.getResp (s : State) (p : Packet) : State :=
  s.respMatch p fun s j lo =>
    let o := s.ops.look j
    let off := wbits p.raddr 31 0
    let len := p.payload.length
    let pend := match o.bound with
      | some c => (s.chans.look c).bursts.any (fun b => b.op == j && b.kind == .placeResp p.psn && decide (off ≤ b.off ∧ b.off < off + max len 1)) ||
          (s.chans.look c).jumped.any fun b => b.op == j && b.kind == .placeResp p.psn && decide (off ≤ b.off ∧ b.off < off + max len 1)
      | none => true
    if lo ≤ off && decide (off + len ≤ o.x.total) && !pend && (len == 0 || !covered o.got off len) then s.placeResp j p off else s

/-- AMO_RESP_ARRIVAL's operation: the old value completes the AMOF. -/
def State.amoRespIn (s : State) (p : Packet) : State :=
  let t := s.respMatch p fun s j _ =>
    let o := s.ops.look j
    let w := if o.x.w32 then 4 else 8
    (s.opFin j stOk w (some (BitVec.ofNat 64 (ofBytes (p.payload.take w))))).txForget o.src.1 j
  if s.tagOk p && p.crcOk && !s.quiet && decide (s.age p.birth ≤ s.lifetime) then t.ackResp p else t

/-! ### KEYOP (R276) -/

/-- What a KEYOP does once it knows the entry: `stored`, whether it is live. -/
def State.keyopDo (s : State) (k : Nat) (e : KeyEnt) : State :=
  let o := s.ops.look k
  let live := e.valid && e.epoch == s.inc
  let w0 := o.x.key
  match o.opf with
  | 0 =>
    let index := wbits w0 23 0
    if live then s.opDone k stNoRes 0 none
    else
      let dom := wbits w0 39 24
      let n : KeyEnt := ⟨true, (e.gen + 1) % 65536, dom, wbits w0 63 44, wbits w0 43 40, o.x.roff, o.x.la, s.inc, 0⟩
      let s := (s.kwrite index n).put F.RMA_KTAB_STATUS_LIVE_KEYS (s.get F.RMA_KTAB_STATUS_LIVE_KEYS + 1)
      s.opDone k stOk 0 (some (s.keyOf index n.gen dom))
  | _ =>
    let index := keyIndex w0
    let ok := live && e.gen == keyGen w0 && s.checkOf index e.gen e.dom == keyCheck w0
    if !ok then s.opDone k stKeyInvalid 0 none
    else if o.opf = 1 then
      let s := (s.kwrite index { e with valid := false }).put F.RMA_KTAB_STATUS_LIVE_KEYS (s.get F.RMA_KTAB_STATUS_LIVE_KEYS - 1)
      (s.updOp k fun o => { o with arg := index + 1, due := e.gen }).later .invalCheck
    else (s.kwrite index { e with base := o.x.roff, len := o.x.la }).opDone k stOk 0 none

/-- A KEYOP begins: EN and the range of INDEX are checked, and its entry is found or read (R161, R276). -/
def State.keyopStart (s : State) (k : Nat) : State :=
  let o := s.ops.look k
  let index := if o.opf = 0 then wbits o.x.key 23 0 else keyIndex o.x.key
  let inTab := decide (index < 2 ^ s.ktabLog2)
  if !s.flag F.RMA_KTAB_CTRL_EN then s.opDone k (if o.opf = 0 then stNoRes else stKeyInvalid) 0 none
  else if !inTab then s.opDone k (if o.opf = 0 then stBounds else stKeyInvalid) 0 none
  else if o.opf = 0 && (s.pas.look (wbits o.x.key 63 44)).dom != some (wbits o.x.key 39 24) then s.opDone k stRights 0 none
  else match s.kcache.find? fun e => e.1 == index with
    | some (_, e) => s.keyopDo k e
    | none => s.kask index (.op k)

/-- REVOKEs that wait for packets in flight (R276). -/
def State.revoking (s : State) : List Nat := s.ops.keysOf fun o => o.live && o.fin.isNone && o.opcode == 0x84 && o.opf == 1 && decide (o.arg > 0)

/-- A REVOKE completes once no packet checked under the key is in flight (R276). -/
def State.revokeCheck (s : State) : State :=
  s.revoking.foldl
    (fun s k =>
      let o := s.ops.look k
      if s.prx.vals.any fun r => r.keyVer == some (o.arg - 1, o.due) then s else s.opDone k stOk 0 none) s

/-- KEY_TABLE_READ_RETURN's operation: the entry is verified and fills the cache, and those who wait for it go on (R274, R275). -/
def State.ktabReturn (s : State) (index : Nat) (res : ReadRes) : State :=
  let ws : List KeyWait := (s.kwait.filter (·.1 == index)).map (·.2)
  if ws.isEmpty then s
  else
    let s := { s with kwait := s.kwait.filter (·.1 != index) }
    match res with
    | .busErr =>
      let s := s.flt 0x085 (BitVec.ofNat 64 index)
      ws.foldl (fun s w => match w with
        | .pair k => if (s.prx.look k).st = .key then s.rxRefuse k stBus else s
        | .op k => s.opDone k (if (s.ops.look k).opf = 0 then stNoRes else stKeyInvalid) 0 none) s
    | .ok words =>
      let e := KeyEnt.ofWords words
      let bad := e.epoch == s.inc && s.integ index e.head != tagOfWords words
      let s := if bad then s.tamper index else s
      let e := if bad then { e with valid := false } else e
      let s := if s.flag F.RMA_KTAB_CTRL_EN then s.kfill index e else s
      ws.foldl (fun s w => match w with
        | .pair k => if (s.prx.look k).st = .key then (s.updRx k fun r => { r with st := .idle }).rmaStep k else s
        | .op k => s.keyopDo k e) s

/-- KEY_TABLE_ENABLE_WRITE's operation: a write of 0 empties the cache (R275). -/
def State.ktabEnable (s : State) (en : Bool) : State :=
  if en then (if s.flag F.RMA_KTAB_CTRL_EN then s else (s.put F.RMA_KTAB_CTRL_EN 1).put F.RMA_KTAB_STATUS_LIVE_KEYS 0)
  else ({ s with kcache := [] }).put F.RMA_KTAB_CTRL_EN 0

end Sys2Proof.Machine
end

