-- ==== Sys2Proof/Machine/Match.lean ====
section
/-!
DEFINITION. Tag matching and speculative placement (spec/08): match contexts, the posted and unexpected lists with their spill rings, walks,
eager placement, pools, rendezvous reads, the predictor, and the context commands of R269.
-/
namespace Sys2Proof.Machine

/-- Changes a context, a message. -/
def State.updCtx (s : State) (c : Nat) (f : Mctx → Mctx) : State := { s with mctx := s.mctx.upd c f }
def State.updMsg (s : State) (m : Nat) (f : Msg → Msg) : State := { s with msgs := s.msgs.upd m f }

/-- The matching engine's power domain state (R535). -/
def State.pdMat (s : State) : Nat := s.get F.DEV_PD_STATUS_MAT

/-- MAT_CTRL values in force. -/
def State.matRnr (s : State) : Nat := s.atLeast F.MAT_CTRL_RNR_STAGES 1
def State.eagerLimit (s : State) : Nat := min (s.get F.MAT_CTRL_EAGER_KIB) 64 * 1024

/-- A receive matches a source and tag (R246). -/
def Recv.matches (r : Recv) (node func : Nat) (tag : Word) : Bool :=
  (r.anyNode || r.node == node) && (r.anyFunc || r.func == func) && ((tag ^^^ r.tag) &&& ~~~r.ignore) == 0

/-- On-chip entries a context uses (R241). -/
def Mctx.used (c : Mctx) : Nat := 2 * c.posted.length + c.unexp.length

/-- Records in a spill ring. -/
def Mctx.ringSize (c : Mctx) : Nat := 2 ^ c.spillLog2

/-- Retention in use (R261). -/
def State.retained (s : State) : Nat := s.msgs.vals.foldl (fun n m => n + m.retain) 0

/-! ### Spill rings (R242 to R245) -/

/-- The handle of a POST's receive (R257). -/
def State.postHandle (s : State) (ctx op : Nat) : Word := packW [(0, s.handle (op / 64)), (32, op % 64), (48, ctx)]

/-- The operation of the receive a handle names: posted, or matched and not yet confirmed (R257). -/
def State.handleOp (s : State) (h : Word) : Option Nat :=
  let k := wbits h 12 0 * 64 + wbits h 37 32
  let o := s.ops.look k
  if (s.runs.look (k / 64)).st != .free && o.live && o.fin.isNone && o.opcode == 0x31 && s.postHandle o.x.ctx k == h then some k else none

/-- A 64-B spill record (R243). -/
def postedRec (s : State) (ctx : Nat) (r : Recv) : List Word :=
  [packW [(0, 1), (16, r.node), (36, r.func), (44, b2n r.anyNode), (45, b2n r.anyFunc)], r.tag, r.ignore, BitVec.ofNat 64 r.buf, packW [(0, r.len)],
   s.postHandle ctx r.op, 0, 0]

def unexpRec (u : Unexp) : List Word :=
  [packW [(0, if u.rts then 3 else 2), (16, u.node), (36, u.func), (46, u.chan)], u.tag, packW [(0, if u.rts then u.opid else 0)],
   packW [(0, if u.rts then 0 else u.slot)], packW [(0, u.len)], 0, 0, 0]

/-- Address of record `i` of the posted or unexpected ring. -/
def Mctx.recAt (c : Mctx) (unexpected : Bool) (i : Nat) : Nat :=
  c.spillBase + (if unexpected then 64 * c.ringSize else 0) + i % c.ringSize * 64

/-- A spill write (R245, R559). -/
def State.spillWrite (s : State) (ctx va : Nat) (ws : List Word) : State :=
  let c := s.mctx.look ctx
  ((s.count 0x0401 0 1 (some c.dom)).access (.spill ctx) c.pasid c.dom .write false [(va, 8 * ws.length)] (wordBytes ws)).2

/-- Ring heads advance over holes (R244). -/
def dropHoles {α : Type} : List (Option α) → Nat → List (Option α) × Nat
  | none :: t, h => dropHoles t (h + 1)
  | l, h => (l, h)

def Mctx.trim (c : Mctx) : Mctx :=
  let (p, ph) := dropHoles c.postedSpill c.pheads
  let (u, uh) := dropHoles c.unexpSpill c.uheads
  { c with postedSpill := p, pheads := ph, unexpSpill := u, uheads := uh }

/-- Members move from the spill ring heads to the on-chip tails while the reservation has room (R242). -/
def Mctx.refill : Nat → Mctx → Mctx
  | 0, c => c
  | n + 1, c =>
    let c := c.trim
    match c.postedSpill, c.unexpSpill with
    | some r :: t, _ =>
      if c.used + 2 ≤ c.res then Mctx.refill n { c with posted := c.posted ++ [r], postedSpill := t, pheads := c.pheads + 1 }
      else match c.unexpSpill with
        | some u :: v => if c.used + 1 ≤ c.res then Mctx.refill n { c with unexp := c.unexp ++ [u], unexpSpill := v, uheads := c.uheads + 1 } else c
        | _ => c
    | _, some u :: v => if c.used + 1 ≤ c.res then Mctx.refill n { c with unexp := c.unexp ++ [u], unexpSpill := v, uheads := c.uheads + 1 } else c
    | _, _ => c

/-- Starts reading the spill rings, so that a walk or a move may go through them. -/
def State.spillRead (s : State) (ctx : Nat) : State :=
  let c := s.mctx.look ctx
  if c.loading.isSome then s
  else
    let s := s.updCtx ctx fun c => { c with loading := some false }
    let a := if c.postedSpill.isEmpty then [] else [(c.recAt false c.pheads, 64)]
    let b := if c.unexpSpill.isEmpty then [] else [(c.recAt true c.uheads, 64)]
    (s.access (.spill ctx) c.pasid c.dom .read false (a ++ b) []).2

/-- List operations of the context wait: a spill read or a pool write is under way (R249). -/
def State.ctxBusy (s : State) (ctx : Nat) : Bool :=
  (s.mctx.look ctx).loading == some false || s.msgs.vals.any fun m => m.live && m.ctx == ctx && m.st == .pooling

/-- The rings may be walked: nothing is spilled, or they have been read. -/
def Mctx.ready (c : Mctx) : Bool := (c.postedSpill.isEmpty && c.unexpSpill.isEmpty) || c.loading == some true

/-- Every receive in post order. -/
def Mctx.allPosted (c : Mctx) : List Recv := c.posted ++ c.postedSpill.filterMap id

/-- Removes a receive by its operation: on chip, or as a hole of the ring (R244). -/
def State.dropRecv (s : State) (ctx op : Nat) : State :=
  let c := s.mctx.look ctx
  let s := match c.postedSpill.findIdx? fun r => r.any (·.op == op) with
    | some i => if i = 0 then s else s.spillWrite ctx (c.recAt false (c.pheads + i)) [0, 0, 0, 0, 0, 0, 0, 0]
    | none => s
  s.updCtx ctx fun c => ({ c with
    posted := c.posted.filter (·.op != op), postedSpill := c.postedSpill.map fun r => if r.any (·.op == op) then none else r } : Mctx).trim

/-- Removes the i-th unexpected member in order. -/
def State.dropUnexp (s : State) (ctx i : Nat) : State :=
  let c := s.mctx.look ctx
  if i < c.unexp.length then s.updCtx ctx fun c => { c with unexp := c.unexp.eraseIdx i }
  else
    -- the (i − on-chip)-th listed record of the ring
    let live := (List.range c.unexpSpill.length).filter fun j => (c.unexpSpill.getD j none).isSome
    let j := live.getD (i - c.unexp.length) 0
    let s := if j = 0 then s else s.spillWrite ctx (c.recAt true (c.uheads + j)) [0, 0, 0, 0, 0, 0, 0, 0]
    s.updCtx ctx fun c => ({ c with unexpSpill := c.unexpSpill.set j none } : Mctx).trim

/-- Every unexpected member in order. -/
def Mctx.allUnexp (c : Mctx) : List Unexp := c.unexp ++ c.unexpSpill.filterMap id

/-- Adds a receive at the end of the posted list (R242); none if the ring is full. -/
def State.addRecv (s : State) (ctx : Nat) (r : Recv) : Option State :=
  let c := s.mctx.look ctx
  if c.postedSpill.isEmpty && decide (c.used + 2 ≤ c.res) then some (s.updCtx ctx fun c => { c with posted := c.posted ++ [r], posts := c.posts + 1 })
  else if c.postedSpill.length ≥ c.ringSize then none
  else
    let s := s.spillWrite ctx (c.recAt false (c.pheads + c.postedSpill.length)) (postedRec s ctx r)
    some (s.updCtx ctx fun c => { c with postedSpill := c.postedSpill ++ [some r], posts := c.posts + 1 })

/-- Room for an unexpected member. -/
def Mctx.unexpRoom (c : Mctx) : Bool :=
  (c.unexpSpill.isEmpty && decide (c.used + 1 ≤ c.res)) || decide (c.unexpSpill.length < c.ringSize)

/-- Adds an unexpected member at the end (R242). -/
def State.addUnexp (s : State) (ctx : Nat) (u : Unexp) : State :=
  let c := s.mctx.look ctx
  if c.unexpSpill.isEmpty && decide (c.used + 1 ≤ c.res) then s.updCtx ctx fun c => { c with unexp := c.unexp ++ [u] }
  else
    let s := s.spillWrite ctx (c.recAt true (c.uheads + c.unexpSpill.length)) (unexpRec u)
    s.updCtx ctx fun c => { c with unexpSpill := c.unexpSpill ++ [some u] }

/-! ### The predictor (R259) -/

/-- The entry number of a key. -/
def predIdx (ctx node func : Nat) (tag : Word) : Nat :=
  (ctx % 2 ^ 14) ^^^ (node % 2 ^ 14) ^^^ (func * 64 % 2 ^ 14) ^^^ (wbits tag 13 0) ^^^ (wbits tag 27 14) ^^^ (wbits tag 41 28) ^^^ (wbits tag 55 42)

/-- A POST of an exact receive writes its entry. -/
def State.predPut (s : State) (ctx : Nat) (r : Recv) : State :=
  if r.anyNode || r.anyFunc || r.ignore != 0 then s
  else
    let i := predIdx ctx r.node r.func r.tag
    let e := s.preds.look i
    let stale := !e.valid || !((s.mctx.look e.ctx).allPosted.any fun q => q.op == e.recv.op)
    if stale then { s with preds := s.preds.put i ⟨true, ctx, r.node, r.func, r.tag, r⟩ } else s

/-- The entries that name a receive are invalidated. -/
def State.predDrop (s : State) (op : Nat) : State := { s with preds := s.preds.filter fun e => e.2.recv.op != op }

/-- A lookup by the whole key. -/
def State.predGet (s : State) (ctx node func : Nat) (tag : Word) : Option Recv :=
  let e := s.preds.look (predIdx ctx node func tag)
  if e.valid && e.ctx == ctx && e.node == node && e.func == func && e.tag == tag && (s.mctx.look ctx).allPosted.any (·.op == e.recv.op) &&
      !(s.msgs.vals.any fun m => m.live && (m.predicted.any fun p => p.op == e.recv.op)) then some e.recv else none

/-! ### Completion of receives -/

/-- A POST completes (R146, R253): its event carries the source and tag. -/
def State.postDone (s : State) (op node func : Nat) (tag : Word) (st bytes : Nat) : State :=
  let s := s.predDrop op
  let s := s.updOp op fun o => { o with matchTag := tag, x := { o.x with node := node, func := func } }
  s.opDone op st bytes none

/-- Answers a rendezvous request by a read of 0 bytes (R245). -/
def State.rgetZero (s : State) (ctx : Nat) (u : Unexp) : State :=
  let c := s.mctx.look ctx
  let (s, k) := s.txRecord c.port c.fn u.node u.func u.chan
  s.txForm k { (default : TxPkt) with op := noOp, dom := c.dom, pop := .rget, first := true, last := true, opid := BitVec.ofNat 64 u.opid } [] false

/-- Every unexpected member is discarded (R245). -/
def State.dropAllUnexp (s : State) (ctx : Nat) : State :=
  let us := ((s.mctx.look ctx).allUnexp).filter (·.rts)
  let s := us.foldl (fun s u => s.rgetZero ctx u) s
  s.updCtx ctx fun c => { c with unexp := [], unexpSpill := [], uheads := 0, slots := [] }

/-- Every posted receive completes with a status. -/
def State.dropAllPosted (s : State) (ctx st : Nat) : State :=
  let ps := (s.mctx.look ctx).allPosted
  let s := s.updCtx ctx fun c => { c with posted := [], postedSpill := [], pheads := 0 }
  ps.foldl (fun s r => s.postDone r.op 0 0 0 st 0) s

/-- A message's packets have all arrived and passed their checks. -/
def Msg.whole (m : Msg) : Bool := m.rts || (decide (m.got ≥ m.len) && !m.parts.isEmpty)

/-- A message not yet confirmed is forgotten: the receive it matched goes back to its place in post order, and its unexpected member and pool slot
are given up. -/
def State.msgDrop (s : State) (key : Nat) : State :=
  let m := s.msgs.look key
  let mine := fun (u : Unexp) => u.msg == some key
  let s := { s with msgs := s.msgs.del key }
  s.updCtx m.ctx fun c =>
    let c := match m.recv with
      | some r => { c with posted := c.posted.filter (fun (q : Recv) => decide (q.seq < r.seq)) ++ r :: c.posted.filter (fun (q : Recv) => decide (r.seq < q.seq)) }
      | none => c
    if m.st = .slotted ∨ m.st = .pooling then
      ({ c with unexp := c.unexp.filter (!mine ·), unexpSpill := c.unexpSpill.map fun u => if u.any mine then none else u, slots := c.slots.erase m.slot } : Mctx).trim
    else c

/-- Messages of a context that are not settled are refused with NACK RNR and forgotten. -/
def State.nackMsgs (s : State) (p : Msg → Bool) : State :=
  (s.msgs.keysOf fun m => m.live && p m).foldl (fun s k => (s.msgDrop k).rxNack (s.msgs.look k).pair .nackRnr s.matRnr) s

/-- A pair channel starts afresh (R392, R401): the message it had taken packets of will not be whole. -/
def State.msgStale (s : State) (k : Nat) : State :=
  (s.msgs.keysOf fun m => m.live && m.pair == k && !m.whole).foldl (fun s j => s.msgDrop j) s

/-- The context enters ERROR (R245): posted receives and pool copies complete BUS_ERROR. -/
def State.ctxBroken (s : State) (ctx : Nat) : State :=
  if (s.mctx.look ctx).st != .enabled then s
  else
    let s := s.updCtx ctx fun c => { c with st := .error, loading := none }
    let copies := s.ops.keysOf fun o => o.live && o.fin.isNone && o.opcode == 0x31 && o.arg == 0 && o.eng == .bulk && o.x.ctx == ctx
    let s := copies.foldl (fun s k => (s.opCut k).opDone k stBus 0 none) s
    ((s.nackMsgs fun m => m.ctx == ctx).dropAllPosted ctx stBus).dropAllUnexp ctx

/-- A spill or pool access of the context failed (R245). -/
def State.ctxError (s : State) (ctx : Nat) : State :=
  let c := s.mctx.look ctx
  if c.st != .enabled then s else (s.fltAt 0x081 (BitVec.ofNat 64 ctx) (some c.port)).ctxBroken ctx

/-! ### Rendezvous reads and pool copies -/

/-- An operation of a run takes a channel, or waits for one in order (R295, R303). -/
def State.bindOrWait (s : State) (k : Nat) : State :=
  match s.pickChan (s.opRun k).wq (s.ops.look k).pair with
  | some c => s.bindTo k c
  | none => { s with unbound := s.unbound ++ [k] }

/-- A rendezvous request and a receive have met: the POST's operation reads the message (R254). -/
def State.rendezvous (s : State) (ctx : Nat) (r : Recv) (node func chan opid len rctr : Nat) (sigr : Bool) (tag : Word) : State :=
  let c := s.mctx.look ctx
  let (s, k) := s.txRecord c.port c.fn node func chan
  let n := min len r.len
  let s := s.predDrop r.op
  let s := s.updOp r.op fun o => { o with
    eng := .bulk, arg := 1, src := (k, 0), matchTag := tag, sigr := sigr, rctr := rctr, quota := 2 ^ 40
    x := { o.x with node := node, func := func, sub := opid, total := n, mode := if len > r.len then 7 else 0 } }
  s.bindOrWait r.op

/-- An unexpected eager member and a receive have met: the POST's operation copies from the pool slot (R256). -/
def State.poolCopy (s : State) (ctx : Nat) (r : Recv) (u : Unexp) : State :=
  let n := min u.len r.len
  let s := s.predDrop r.op
  let s := s.updOp r.op fun o => { o with
    eng := .bulk, arg := 0, src := (0, 0), matchTag := u.tag, sigr := u.sigr, rctr := u.rctr, quota := 2 ^ 40
    x := { o.x with node := u.node, func := u.func, ctx := ctx, sub := u.slot, total := n, mode := if u.len > r.len then 7 else 0 } }
  s.bindOrWait r.op

/-- The pool bursts of operations newly bound to a channel. -/
def State.poolStart (s : State) (c : Nat) : State :=
  ((s.chans.look c).ops.filter fun k => let o := s.ops.look k; o.live && o.fin.isNone && o.opcode == 0x31 && o.arg == 0 && !o.allFormed).foldl
    (fun s k =>
      let o := s.ops.look k
      let m := s.mctx.look o.x.ctx
      let va := m.poolBase + o.x.sub * 2 ^ m.slotLog2
      let s := s.updOp k fun o => { o with allFormed := true }
      if o.x.total = 0 then s.later (.pooled k true)
      else
        let mk := fun off va n _ => { (default : Burst) with op := k, kind := .pool 0, off := off, len := n, pieces := [(va, n)] }
        s.jump c (cutBursts (s.burstSize c) mk (o.x.total + 1) [(va, o.x.total)] 0 [])) s

/-- A pool copy has ended (R256). -/
def State.pooled (s : State) (k : Nat) (ok : Bool) : State :=
  let o := s.ops.look k
  if !o.live || o.fin.isSome then s
  else if !ok then s.ctxError o.x.ctx
  else
    let s := s.updCtx o.x.ctx fun c => { c with slots := c.slots.erase o.x.sub }
    let s := if o.sigr then s.ctrSignal o.rctr (s.opRun k).dom else s
    s.opDone k (if o.x.mode = 7 then stTrunc else stOk) o.x.total none

/-! ### Arrivals -/

/-- Messages are keyed by their receive pair channel and first PSN. -/
def msgKey (k psn : Nat) : Nat := k * 2 ^ 24 + psn

/-- The message a pair channel has taken packets of. -/
def State.msgOf (s : State) (k : Nat) : Nat := msgKey k (s.prx.look k).expected

/-- Bytes of a message in order. -/
def Msg.bytes (m : Msg) : List Byte :=
  (sortRank (fun i => (m.parts.getD i (0, [])).1) (List.range m.parts.length)).flatMap fun i => (m.parts.getD i (0, [])).2

/-- No page of a placement is known to bar it: each is in the TLB with the write right, D = 1 and NOSPEC = 0, or is still to be walked (R227, R228, R260). -/
def State.specPages (s : State) (pasid : Nat) (pieces : List (Nat × Nat)) : Bool :=
  pieces.all fun p => (List.range ((p.1 % 4096 + p.2 + 4095) / 4096)).all fun i =>
    match (s.tlbLook pasid .write (p.1 / 4096 * 4096 + i * 4096)).2 with
    | .hit _ ns => !ns
    | .miss => true
    | .perm _ => false

/-- The conditions of R260 at a message's first packet. -/
def State.speculate (s : State) (m : Msg) : Option Recv :=
  let c := s.mctx.look m.ctx
  if !s.flag F.MAT_CTRL_SPEC_EN || !c.spec || m.len = 0 then none
  else match s.predGet m.ctx m.node m.func m.tag with
  | none => none
  | some r =>
    let o := s.ops.look r.op
    if decide (m.len ≤ r.len) && decide (s.retained + m.len ≤ 2097152) && s.specPages c.pasid (o.localAt 0 m.len) then some r else none

/-- Places one packet of a speculative message (R261). -/
def State.specPlace (s : State) (key off : Nat) (bs : List Byte) : State :=
  let m := s.msgs.look key
  let c := s.mctx.look m.ctx
  match m.predicted with
  | none => s
  | some r => if bs.isEmpty then s else (s.access (.spec key) c.pasid c.dom .write true ((s.ops.look r.op).localAt off bs.length) bs).2

/-- A speculation ends as a misprediction (R264): its retained copy waits for the walk. One that had placed nothing yet is dropped. -/
def State.mispredict (s : State) (key : Nat) : State :=
  let m := s.msgs.look key
  let s := s.updMsg key fun m => { m with st := .waiting, predicted := none, placed := 0, begun := false, specLeft := 0, retain := if m.begun then m.retain else 0 }
  if m.begun then (s.bump F.MAT_SPEC_COUNT_MISPREDICT 1).count 0x0403 0 1 (some m.dom) else s

/-- The checks of R240 and R25 on a message's first packet: a status to refuse it with, or none. -/
def State.msgRefusal (s : State) (k : Nat) (p : Packet) : Option Nat :=
  let r := s.prx.look k
  let c := s.mctx.look (wbits p.raddr 47 32)
  if s.pdMat != 0 then some stDown
  else if c.st = .free || c.dom ≠ p.domain || c.port ≠ r.port || c.fn ≠ r.fn then some stRights
  else if p.sigr && (s.ctrs.look p.rctr).dom != some p.domain then some stRights
  else none

/-- The pair channel may hand over its next packet: none of a later message while one is not settled. -/
def State.matHold (s : State) (k : Nat) : Bool :=
  let r := s.prx.look k
  decide (r.taken > 0) && (s.msgs.look (s.msgOf k)).whole

/-- Places a matched message into its receive buffer as an ordinary write (R252, R253). -/
def State.msgPlace (s : State) (key : Nat) : State :=
  let m := s.msgs.look key
  let c := s.mctx.look m.ctx
  match m.recv with
  | none => s
  | some r =>
    let n := min m.len r.len
    if n = 0 then s.updMsg key fun m => { m with st := .reading }
    else
      let s := s.updMsg key fun m => { m with st := .placing, retryIn := 0 }
      (s.access (.msg key) c.pasid c.dom .write false ((s.ops.look r.op).localAt 0 n) (m.bytes.take n)).2

/-- A pool write has ended: the member is whole and the message is acknowledged (R252, R255). -/
def State.poolWritten (s : State) (key : Nat) : State :=
  let m := s.msgs.look key
  if !m.live then s
  else
    let s := { s with msgs := s.msgs.del key }
    let done := fun (u : Unexp) => if u.msg = some key then { u with msg := none } else u
    (s.updCtx m.ctx fun c => { c with unexp := c.unexp.map done, unexpSpill := c.unexpSpill.map (·.map done) }).rxConfirm m.pair m.len

/-- A message whose walk is over and whose packets have all arrived and passed their checks goes on: to its receive or to its pool slot. -/
def State.msgReady (s : State) (key : Nat) : State :=
  let m := s.msgs.look key
  let c := s.mctx.look m.ctx
  if !m.live || !m.walked || !m.whole then s
  else match m.st with
  | .speculating => if m.placed ≥ m.len then s.updMsg key fun m => { m with st := .reading } else s
  | .waiting => if m.recv.isSome && m.retryIn == 0 then s.msgPlace key else s
  | .slotted =>
    if m.len = 0 then s.poolWritten key
    else
      let s := s.updMsg key fun m => { m with st := .pooling }
      (s.access (.pool key) c.pasid c.dom .write false [(c.poolBase + m.slot * 2 ^ c.slotLog2, m.len)] m.bytes).2
  | _ => s

/-- The walk has found no receive (R252): the pool, or a refusal. -/
def State.msgUnexpected (s : State) (key : Nat) : State :=
  let m := s.msgs.look key
  let c := s.mctx.look m.ctx
  let refuse := fun (s : State) => ({ s with msgs := s.msgs.del key }).rxNack m.pair .nackRnr s.matRnr
  if m.rts then
    if !c.unexpRoom then refuse s
    else
      let s := s.addUnexp m.ctx ⟨true, m.node, m.func, m.chan, m.tag, m.opid, 0, m.len, m.rctr, m.sigr, m.pair, none⟩
      ({ s with msgs := s.msgs.del key }).rxConfirm m.pair 0
  else if m.len > 2 ^ c.slotLog2 then refuse (s.flt 0x082 (BitVec.ofNat 64 m.ctx))
  else match (List.range (2 ^ c.poolLog2)).find? fun i => !c.slots.contains i with
  | none => refuse s
  | some slot =>
    if !c.unexpRoom then refuse s
    else
      let s := s.updCtx m.ctx fun c => { c with slots := slot :: c.slots }
      let s := s.addUnexp m.ctx ⟨false, m.node, m.func, m.chan, m.tag, m.opid, slot, m.len, m.rctr, m.sigr, m.pair, some key⟩
      (s.updMsg key fun m => { m with st := .slotted, slot := slot }).msgReady key

/-- A message packet in hand goes to the matching engine (R252, R254). -/
def State.matStep (s : State) (k : Nat) : State :=
  let r := s.prx.look k
  match r.cur with
  | none => s
  | some p =>
    let key := s.msgOf k
    if r.taken = 0 then
      if !p.first then s.rxDrop k
      else match s.msgRefusal k p with
      | some st => s.rxRefuse k st
      | none =>
        let ctx := wbits p.raddr 47 32
        if (s.mctx.look ctx).st = .error then s.rxNack k .nackRnr s.matRnr
        else
          let m : Msg := { (default : Msg) with
            live := true, pair := k, ctx := ctx, dom := p.domain, node := r.node, func := r.func, chan := r.chan, tag := p.rkey, opid := wbits p.opid 31 0
            len := wbits p.raddr 31 0, rctr := p.rctr, sigr := p.sigr, firstPsn := p.psn, rts := p.op == .rts, parts := if p.op = .rts then [] else [(0, p.payload)]
            got := p.payload.length, st := .waiting }
          let s := { s with msgs := s.msgs.put key m }
          let s := if m.rts then s else match s.speculate m with
            | some rv =>
              (s.updMsg key fun m => { m with st := .speculating, predicted := some rv, retain := m.len }).specPlace key 0 p.payload
            | none => s
          s.rxTake k
    else
      let m := s.msgs.look key
      let off := wbits p.raddr 59 48 * 4096
      let s := s.updMsg key fun m => { m with parts := m.parts ++ [(off, p.payload)], got := m.got + p.payload.length }
      let s := if m.st = .speculating then s.specPlace key off p.payload else s
      (s.rxTake k).msgReady key

/-- MATCH_WALK_DONE's operation: the walk of a message whose first packet has arrived decides its match (R247 to R249, R252, R262, R264). -/
def State.matchWalk (s : State) (key : Nat) : State :=
  let m := s.msgs.look key
  if !m.live || m.walked || s.ctxBusy m.ctx then s
  else
    let c := s.mctx.look m.ctx
    match c.posted.find? fun r => r.matches m.node m.func m.tag with
    | none =>
      if !c.ready then s.spillRead m.ctx
      else match (c.allPosted).find? fun r => r.matches m.node m.func m.tag with
      | some r => found s key r
      | none =>
        let s := s.count 0x0400 0 1 (some m.dom)
        let s := if m.st = .speculating then s.mispredict key else s
        let s := s.updCtx m.ctx fun c => { c with loading := none }
        let s := s.updMsg key fun m => { m with walked := true }
        s.msgUnexpected key
    | some r => found s key r
where
  /-- The walk has found a receive. -/
  found (s : State) (key : Nat) (r : Recv) : State :=
    let m := s.msgs.look key
    let s := s.count 0x0400 0 1 (some m.dom)
    let s := s.updCtx m.ctx fun c => { c with loading := none }
    let s := s.dropRecv m.ctx r.op
    let same := m.st = .speculating ∧ m.predicted.any (·.op == r.op)
    let s := if m.st = .speculating ∧ !same then s.mispredict key else s
    let s := s.updMsg key fun m => { m with walked := true, recv := some r }
    if m.rts then
      let s := ({ s with msgs := s.msgs.del key }).rendezvous m.ctx r m.node m.func m.chan m.opid m.len m.rctr m.sigr m.tag
      s.rxConfirm m.pair 0
    else s.msgReady key

/-- MATCH_CONFIRM's operation (R262): retention, POST, event, counters and acknowledgement, in that order. -/
def State.matchConfirm (s : State) (key : Nat) : State :=
  let m := s.msgs.look key
  match m.recv with
  | none => s
  | some r =>
    if !m.live || m.st != .reading then s
    else
      let s := { s with msgs := s.msgs.del key }
      let s := s.postDone r.op m.node m.func m.tag (if m.len > r.len then stTrunc else stOk) (min m.len r.len)
      let s := if m.sigr then s.ctrSignal m.rctr m.dom else s
      s.rxConfirm m.pair m.len

/-- A placement's write has ended (R233, R262, R268). -/
def State.msgPlaced (s : State) (key : Nat) (res : AccRes) : State :=
  let m := s.msgs.look key
  if !m.live then s
  else match res with
    | .xlate cause level va =>
      let c := s.mctx.look m.ctx
      let s := s.faultOnce c.pasid cause 4 level (m.node + m.func * 2 ^ 20) va .write
      let after := (s.pas.look c.pasid).retryAfter
      if m.len ≤ s.pairShare then s.updMsg key fun m => { m with st := .waiting, retryIn := max after 1 }
      else
        -- the share cannot hold the message: it is refused, and its receive goes back to its place
        (s.msgDrop key).rxNack m.pair .nackXlate after
    | .ok _ => s.updMsg key fun m => { m with st := .reading }
    | .bytes _ => s
    | _ =>
      -- R232: the message is refused BUS_ERROR, and its POST ends with it
      let r := s.prx.look m.pair
      let f : Rfsl := { (default : Rfsl) with
        num := r.nextRef, opid := m.opid, status := stBus, firstPsn := r.expected, lastPsn := (r.expected + r.taken + 2 ^ 24 - 1) % 2 ^ 24, sent := true }
      let s := s.updRx m.pair fun r => { r with
        expected := (r.expected + r.taken) % 2 ^ 24, taken := 0, refusals := r.refusals ++ [f], nextRef := (f.num + 1) % 256, heldAge := 0 }
      let s := match m.recv with | some rv => s.postDone rv.op m.node m.func m.tag stBus 0 | none => s
      (({ s with msgs := s.msgs.del key }).rxCtl m.pair .refuse f.lastPsn stBus f.arg).later (.pairNext m.pair)

/-- A speculative write has ended: a dropped one leaves the message to its walk (R227, R268). -/
def State.specPlaced (s : State) (key : Nat) (n : Nat) (res : AccRes) : State :=
  let m := s.msgs.look key
  if !m.live || m.st != .speculating then s
  else match res with
    | .ok _ =>
      let s := if m.begun then s
        else ((s.updMsg key fun m => { m with begun := true, specLeft := 4 }).bump F.MAT_SPEC_COUNT_ATTEMPTS 1).count 0x0402 0 1 (some m.dom)
      (s.updMsg key fun m => { m with placed := m.placed + n }).msgReady key
    | _ => (s.updMsg key fun m => { m with st := .waiting, predicted := none, placed := 0, begun := false, specLeft := 0, retain := 0 }).msgReady key

/-- SPECULATION_EXPIRY's operation (R263). -/
def State.specExpire (s : State) (key : Nat) : State :=
  let m := s.msgs.look key
  if m.live && m.st == .speculating && m.begun && m.specLeft == 0 then ((s.mispredict key).bump F.MAT_SPEC_OTHER_EXPIRED 1).msgReady key else s

/-- A message whose placement met a translation fault is tried again (R233). -/
def State.msgRetry (s : State) (key : Nat) : State :=
  let m := s.msgs.look key
  if m.live && m.st == .waiting && m.walked && m.whole && m.recv.isSome then s.msgPlace key else s

/-- SPILL_ACCESS_RETURN's operation: the rings have been read, and members move on chip; a failure puts the context into ERROR (R245). -/
def State.spillDone (s : State) (ctx : Nat) (res : AccRes) : State :=
  let c := s.mctx.look ctx
  match res with
  | .ok ws =>
    if c.loading = some false && !ws.isEmpty then
      s.updCtx ctx fun c => { (c.refill (c.postedSpill.length + c.unexpSpill.length)) with loading := some true }
    else s
  | .bytes _ => s
  | _ => s.ctxError ctx

/-! ### RGET at the sender (R254) -/

/-- An RGET in hand: answered only for an outstanding rendezvous SEND of that endpoint and channel, within its length. -/
def State.rgetStep (s : State) (k : Nat) : State :=
  let r := s.prx.look k
  match r.cur with
  | none => s
  | some p =>
    let off := wbits p.raddr 31 0
    let mine := fun (o : Op) => o.live && o.fin.isNone && o.opcode == 0x30 && o.arg != 0 && o.opid == wbits p.opid 31 0 && o.x.node == r.node &&
      o.x.func == r.func && o.x.chan == r.chan && decide (off + p.len ≤ o.x.total)
    match (s.ops.keysOf mine).filter fun j => let q := s.opRun j; q.port == r.port && q.fn == r.fn with
    | [] => s.rxHandled k p.last
    | j :: _ =>
      let o := s.ops.look j
      let s := s.updRx k fun r => { r with st := .readout j }
      s.readout k ((s.opRun j).pasid.getD 0) (if p.len = 0 then [] else o.localAt off p.len)

/-- Read-out of an RGET has ended. -/
def State.rgetDone (s : State) (k : Nat) (fault : Option (Nat × Nat × Nat)) (bus : Bool) : State :=
  let (s, data) := s.takeReadout k
  let r := s.prx.look k
  match r.cur, r.st with
  | some p, .readout j =>
    let pasid := (s.opRun j).pasid.getD 0
    match fault with
    | some (cause, level, va) =>
      if cause = xRefused then s.rxRefuse k stKeyInvalid
      else (s.faultOnce pasid cause 3 level (r.node + r.func * 2 ^ 20) va .read).rxNack k .nackXlate (s.pas.look pasid).retryAfter
    | none =>
      if bus then s.rxRefuse k stBus
      else
        let off := wbits p.raddr 31 0
        let s := s.respond k p .rgetResp off data p.last
        let s := if p.last && !(s.resps.any fun x => x.pair == k && x.psn == p.psn) then
            { s with resps := s.resps ++ [⟨k, p.psn, wbits p.opid 31 0, off, data.length, j, 0, 0⟩] } else s
        s.rxHandled k p.last
  | _, _ => s

/-- The last RGET_RESP of a read is acknowledged: its SEND completes OK (R254). -/
def State.respAcked (s : State) (c : Ctl) : State :=
  let (s, rs) := s.respAck c
  let s := rs.foldl (fun s x => ((s.ledger (s.runs.look (x.op / 64)).dom ldTx (s.ops.look x.op).x.total).opDone x.op stOk (s.ops.look x.op).x.total none).later (.room .bulk)) s
  -- an acknowledged AMO_RESP frees its result (R292)
  match s.endpoint c.dstNode with
  | some (_, port) =>
    let base := pairKey port c.dstFunc c.srcNode c.srcFunc 0
    { s with amoRes := s.amoRes.filter fun e => !(e.2.psn == c.psn && e.2.pair / 4 * 4 == base) }
  | none => s

/-- The last RGET_RESP goes again at its timer, and at the limit the SEND completes REMOTE_UNREACHABLE (R402). -/
def State.respDue (s : State) (pair psn : Nat) : State :=
  match s.resps.find? fun x => x.pair == pair && x.psn == psn with
  | none => s
  | some x =>
    if x.age < s.timeout then s
    else if x.resends ≥ s.resendLimit then
      ({ s with resps := s.resps.filter fun y => !(y.pair == pair && y.psn == psn) }).opDone x.op stUnreach 0 none |>.later (.room .bulk)
    else
      let s := { s with resps := s.resps.map fun (y : RespTx) => if y.pair = pair ∧ y.psn = psn then { y with age := 0, resends := y.resends + 1 } else y }
      let r := s.prx.look pair
      let p : Packet := { (default : Packet) with
        op := .rget, psn := psn, chan := r.chan, domain := r.dom, srcInc := r.srcInc, raddr := BitVec.ofNat 64 x.off, len := x.len, opid := BitVec.ofNat 64 x.opid, last := true }
      (s.updRx pair fun r => { r with dups := r.dups ++ [p] }).later (.pairNext pair)

/-- RGET_RESP_ARRIVAL's operation: the data goes to its offset in the receive buffer; the last of a FIN read is acknowledged (R402). -/
def State.rgetRespIn (s : State) (p : Packet) : State :=
  let t := s.respMatch p fun s j _ =>
    let o := s.ops.look j
    let off := wbits p.raddr 31 0
    if decide (off + p.payload.length ≤ o.x.total) && (p.payload.isEmpty || !covered o.got off p.payload.length) then s.placeResp j p off else s
  if p.last && s.tagOk p && p.crcOk && !s.quiet && decide (s.age p.birth ≤ s.lifetime) then t.ackResp p else t

/-! ### Context commands (R269) -/

/-- Records OP and CONTEXT of a command set's write. -/
def State.matCmd (s : State) (r op : Nat) (k : State → Nat → Mctx → State) : State :=
  if s.flag (F.MAT_CTX_CMD_BUSY r) then s
  else
    let s := s.put (F.MAT_CTX_CMD_OP r) op
    let ctx := s.get (F.MAT_CTX_CMD_CONTEXT r)
    k s ctx (s.mctx.look ctx)

def State.matResult (s : State) (r res : Nat) : State := s.put (F.MAT_CTX_CMD_RESULT r) res

/-- CREATE (R241, R269). -/
def State.ctxCreate (s : State) (r : Nat) : State :=
  s.matCmd r 0 fun s ctx c =>
    let port := s.get (F.MAT_CTX_ARG3_PORT r)
    let fn := s.get (F.MAT_CTX_ARG3_FUNCTION r)
    let pasid := s.get (F.MAT_CTX_ARG3_PASID r)
    let p := s.pas.look pasid
    let pool := s.get (F.MAT_CTX_ARG0_POOL_BASE r)
    let spill := s.get (F.MAT_CTX_ARG1_SPILL_BASE r)
    let res := s.get (F.MAT_CTX_ARG2_ONCHIP_RES r)
    let sl := s.get (F.MAT_CTX_ARG2_SPILL_LOG2 r)
    let pl := s.get (F.MAT_CTX_ARG2_POOL_LOG2 r)
    let tl := s.get (F.MAT_CTX_ARG2_SLOT_LOG2 r)
    let total := s.mctx.vals.foldl (fun n c => if c.st = .free then n else n + c.res) 0
    if c.st != .free then s.matResult r 1
    else if pool % 4096 != 0 || spill % 4096 != 0 || res < 2 || sl < 6 || sl > 20 || pl > 16 || tl < 12 || tl > 16 || s.fnBad port fn then s.matResult r 2
    else if total + res > 262144 then s.matResult r 3
    else match (if p.port = port ∧ p.fn = fn ∧ p.st ≠ .free then p.dom else none) with
    | none => s.matResult r 5
    | some d =>
      let n : Mctx := { (default : Mctx) with
        st := .enabled, port := port, fn := fn, pasid := pasid, dom := d, poolBase := pool, spillBase := spill, spec := s.flag (F.MAT_CTX_ARG2_SPEC r)
        res := res, spillLog2 := sl, poolLog2 := pl, slotLog2 := tl }
      { s with mctx := s.mctx.put ctx n }.matResult r 0

/-- DESTROY (R258). -/
def State.ctxDestroy (s : State) (r : Nat) : State :=
  s.matCmd r 1 fun s ctx c =>
    if c.st = .free then s.matResult r 1
    else
      let s := ((s.nackMsgs fun m => m.ctx == ctx).dropAllPosted ctx stCancelled).dropAllUnexp ctx
      let s := { s with preds := s.preds.filter fun e => e.2.ctx != ctx, mctx := s.mctx.del ctx }
      s.matResult r 0

/-- CLEAR (R245). -/
def State.ctxClear (s : State) (r : Nat) : State :=
  s.matCmd r 2 fun s ctx c =>
    if c.st != .error then s.matResult r 1
    else (s.updCtx ctx fun c => { c with
      st := .enabled, posted := [], postedSpill := [], unexp := [], unexpSpill := [], pheads := 0, uheads := 0, slots := [], loading := none }).matResult r 0

/-- QUERY. -/
def State.ctxQuery (s : State) (r : Nat) : State :=
  s.matCmd r 3 fun s _ c =>
    let st := match c.st with | .free => 0 | .enabled => 1 | .error => 2
    let s := (s.put (F.MAT_CTX_INFO_DOMAIN r) (if c.st = .free then 0 else c.dom)).put (F.MAT_CTX_INFO_STATE r) st
    let s := (s.put (F.MAT_CTX_INFO_POSTED r) (min c.allPosted.length 0xFFFFF)).put (F.MAT_CTX_INFO_UNEXPECTED r) (min c.allUnexp.length 0xFFFFF)
    s.matResult r 0

/-! ### POST and CANCEL at the engine (R146, R147) -/

/-- A POST reaches its context: it matches an unexpected member, or joins the posted list. Answers NO_RESOURCE for a full ring. -/
def State.postIn (s : State) (ctx op : Nat) (r : Recv) : State :=
  let c := s.mctx.look ctx
  match c.allUnexp.findIdx? fun u => r.matches u.node u.func u.tag with
  | some i =>
    let u := c.allUnexp.getD i default
    let s := (s.dropUnexp ctx i).updCtx ctx fun c => { c with loading := none }
    match u.msg with
    | some key =>
      -- the message has not reached its slot: it goes to the receive instead
      let s := s.updCtx ctx fun c => { c with slots := c.slots.erase u.slot, posts := c.posts + 1 }
      (s.updMsg key fun m => { m with st := .waiting, recv := some r, slot := 0 }).msgReady key
    | none => if u.rts then s.rendezvous ctx r u.node u.func u.chan u.opid u.len u.rctr u.sigr u.tag else s.poolCopy ctx r u
  | none =>
    match s.addRecv ctx r with
    | some s => (s.updCtx ctx fun c => { c with loading := none }).predPut ctx r
    | none => s.opDone op stNoRes 0 none

/-- CANCEL of a handle: 1 if the receive was still posted. A speculation not yet confirmed counts as not matched. -/
def State.cancelIn (s : State) (ctx op : Nat) : State × Bool :=
  let c := s.mctx.look ctx
  let specs := s.msgs.keysOf fun m => m.live && (m.predicted.any (·.op == op)) && (m.st == .speculating || m.st == .reading)
  if c.allPosted.any (·.op == op) then
    let s := specs.foldl (fun s k => s.mispredict k) s
    ((s.dropRecv ctx op).postDone op 0 0 0 stCancelled 0, true)
  else match specs with
    | k :: _ =>
      let s := (s.mispredict k).updMsg k fun m => { m with walked := false, recv := none }
      (s.postDone op 0 0 0 stCancelled 0, true)
    | [] => (s, false)

/-- Gating of the matching engine (R537): posted receives complete DOMAIN_DOWN, unexpected members are discarded, retention is freed. -/
def State.matGated (s : State) : State :=
  let cs := s.mctx.keysOf fun c => c.st == .enabled
  { cs.foldl (fun s c => (s.dropAllPosted c stDown).dropAllUnexp c) (s.nackMsgs fun _ => true) with preds := [] }

end Sys2Proof.Machine
end

