-- ==== Sys2Proof/Machine/Route.lean ====
section
/-!
DEFINITION. The router core and the output ports (R336 to R352, R357, R421 to R425): endpoint and route tables, the choice of a path, injection, the
class DRR of a port, credits and queue samples.
-/
namespace Sys2Proof.Machine

/-! ### Tables -/

/-- Changes a fabric port. -/
def State.updPort (s : State) (p : Nat) (f : FPort → FPort) : State := { s with fports := s.fports.upd p f }

/-- Adds to a since-reset count of a port entry (R505): 0 TX_FLITS, 1 RX_FLITS, 2 REPLAYS, 3 UNCORR_CW. -/
def State.portAdd (s : State) (p i n : Nat) : State := { s with portCnt := s.portCnt.upd (p * 4 + i) fun v => (v + n) % 2 ^ 64 }

/-- A per-VC count. -/
def vcAt (l : List Nat) (v : Nat) : Nat := l.getD v 0

/-- Adds to a per-VC count modulo 4,096 (R378). -/
def vcAdd (l : List Nat) (v n : Nat) : List Nat := (List.range 25).map fun i => if i = v then (vcAt l i + n) % 4096 else vcAt l i

/-- The entry of the active bank for a router (R339, R340). -/
def State.route (s : State) (router : Nat) : Word := s.routes.look (s.get F.RTC_BANK_ACTIVE * 65536 + router)

/-- A fabric port's link is up and enabled (R343, RTP_CTRL.EN). -/
def State.portLive (s : State) (p : Nat) : Bool := s.flag (F.RTP_STATUS_LINK_UP p) && s.flag (F.RTP_CTRL_EN p)

/-- Candidates of an entry (R339): port and NEXT. -/
def candPort (e : Word) (c : Nat) : Nat := wbits e (6 * c + 5) (6 * c)
def candNext (e : Word) (c : Nat) : Nat := wbits e (24 + 6 * c + 5) (24 + 6 * c)

/-- State code of a lane quad's power domain (R535). -/
def State.pdQuad (s : State) (n : Nat) : Nat := s.get ⟨0x10048 + n / 32 * 8, 2 * (n % 32) + 1, 2 * (n % 32)⟩

/-- A candidate is usable (R343). -/
def State.usable (s : State) (e : Word) (c : Nat) : Bool :=
  wbit e (48 + c) && (s.get F.RTC_PORT_HEALTH_HEALTH).testBit (candPort e c) && s.portLive (candPort e c) && s.pdQuad (candPort e c) == 0

/-- Flits of a VC class routed to a port and not yet sent (R344). -/
def State.depth (s : State) (p : Nat) (mine : RUnit → Bool) : Nat :=
  (s.fports.look p).oq.foldl (fun n u => if mine u then n + bodyFlits u.body else n) 0

/-- The level a neighbour last reported for one of its ports; 0 once its frames have stayed away for 4 stages (R347). -/
def State.gossipOf (s : State) (p next : Nat) : Nat :=
  if s.get (F.RTP_STATUS_GOSSIP_AGE p) ≥ 4 then 0 else wbits (s.reg (0x1000010 + p * 0x10000 + next / 16 * 8)) (4 * (next % 16) + 3) (4 * (next % 16))

/-- The load of a candidate (R344). -/
def State.load (s : State) (e : Word) (c cls : Nat) : Nat :=
  s.depth (candPort e c) (·.cls == cls) +
    (if wbit e 62 then s.get F.RTC_ADAPT_GOSSIP_WEIGHT * s.gossipOf (candPort e c) (candNext e c) else 0)

/-- The usable candidate with the least load, the lowest on a tie: its load and its port (R343). -/
def State.best (s : State) (e : Word) (cls : Nat) : Option (Nat × Nat) :=
  (List.range 4).foldl (fun b c =>
    if s.usable e c then
      match b with
      | some (l, _) => if s.load e c cls < l then some (s.load e c cls, candPort e c) else b
      | none => some (s.load e c cls, candPort e c)
    else b) none

/-- Entry i of RTC_VALIANT. -/
def State.valiantAt (s : State) (i : Nat) : Nat := wbits (s.reg (0x1400100 + i / 4 * 8)) (16 * (i % 4) + 15) (16 * (i % 4))

/-- Tries of R345's choice of an intermediate router. -/
def State.valiantTry (fuel : Nat) (s : State) (e : Word) (cmin cls dst : Nat) : State × Nat :=
  match fuel with
  | 0 => (s, dst)
  | fuel + 1 =>
    let vcount := min (s.get F.RTC_ADAPT_VCOUNT) 256
    let i := s.valiantAt (s.vlfsr % vcount)
    let s := { s with vlfsr := lfsrStep s.vlfsr }
    let f := s.route i
    let g := wbits f 61 52
    match s.best f cls with
    | some (l, _) =>
      if i ≠ s.self ∧ g ≠ s.get F.RTC_SELF_GROUP ∧ g ≠ wbits e 61 52 then
        (s, if 2 * l + s.get F.RTC_ADAPT_BIAS < cmin then i else dst)
      else State.valiantTry fuel s e cmin cls dst
    | none => State.valiantTry fuel s e cmin cls dst

/-- The source's choice for one send of a packet (R345): the intermediate router, the destination itself in phase 1. -/
def State.valiant (s : State) (cls dst : Nat) : State × Nat :=
  if s.get F.RTC_ADAPT_MODE = 0 ∨ cls > 1 ∨ dst = s.self then (s, dst)
  else
    let e := s.route dst
    match s.best e cls with
    | some (cmin, _) =>
      if cmin > s.get F.RTC_ADAPT_THRESHOLD ∧ s.get F.RTC_ADAPT_VCOUNT > 0 then State.valiantTry 4 s e cmin cls dst else (s, dst)
    | none => (s, dst)

/-! ### Units -/

/-- Destination router, intermediate router and birth stage of a unit. -/
def unitDst : UnitBody → Nat
  | .data p => p.dstRouter
  | .ctl c => c.dstRouter
  | .mgmt m => m.dstRouter

/-- The intermediate router of a unit; MGMT packets take minimal candidates only (R348). -/
def unitInter : UnitBody → Nat
  | .data p => p.inter
  | .ctl c => c.inter
  | .mgmt m => m.dstRouter

/-- The birth stage of a unit (R403). -/
def unitBirth : UnitBody → Nat
  | .data p => p.birth
  | .ctl c => c.birth
  | .mgmt m => m.birth

/-- A unit with another intermediate router (R382, R384). -/
def unitVia (b : UnitBody) (i : Nat) : UnitBody :=
  match b with
  | .data p => .data { p with inter := i }
  | .ctl c => .ctl { c with inter := i }
  | .mgmt m => .mgmt m

/-- The domain of a unit's header. -/
def unitDom : UnitBody → Nat
  | .data p => p.domain
  | .ctl c => c.domain
  | .mgmt _ => 0

/-- A unit leaves the input buffer it occupied, whose credit returns (R352, R378). -/
def State.freeHome (s : State) (u : RUnit) : State :=
  match u.home with
  | some (p, v) => s.updPort p fun f => { f with freed := vcAdd f.freed v (bodyFlits u.body) }
  | none => s

/-! ### Injection (R421, R422) -/

/-- A domain's quantum (R421). -/
def State.dquant (s : State) (d : Nat) : Nat := max (wbits (s.reg (0x790000 + d / 4 * 8)) (16 * (d % 4) + 15) (16 * (d % 4))) 4224

/-- Sends packets of an injection queue while the deficit covers them. -/
def State.drrSend : Nat → State → List RUnit → Nat → State × List RUnit × Nat
  | 0, s, q, d => (s, q, d)
  | _ + 1, s, [], d => (s, [], d)
  | fuel + 1, s, u :: q, d =>
    let size := bodyFlits u.body * 64
    if size ≤ d then
      let (s, i) := s.valiant u.cls (unitDst u.body)
      let u := { u with body := unitVia u.body i, since := s.tick }
      State.drrSend fuel { s with rin := s.rin.upd 64 fun l => l ++ [u] } q (d - size)
    else (s, u :: q, d)

/-- DOMAIN_DRR_VISIT's operation: a visit to a domain's normal or scavenger queue; scavengers wait while a normal queue holds packets. -/
def State.drrVisit (s : State) (d : Nat) (scav : Bool) : State :=
  let q := s.inj.look d
  let units := if scav then q.scav else q.q
  if units.isEmpty || (scav && s.inj.vals.any fun j => !j.q.isEmpty) || s.quiet || s.halted then s
  else
    let quant := s.dquant d
    let (s, rest, left) := State.drrSend units.length s units (min ((if scav then q.scavDeficit else q.deficit) + quant) (2 * quant))
    let left := if rest.isEmpty then 0 else left
    { s with inj := s.inj.upd d fun j => if scav then { j with scav := rest, scavDeficit := left } else { j with q := rest, deficit := left } }

/-! ### Routing -/

/-- Ejects a unit at its destination (R338). CVY_ACK and COLL control packets name no node of an entry. -/
def State.eject (s : State) (b : UnitBody) : State :=
  match b with
  | .data p =>
    match s.endpoint p.dstNode with
    | some (r, _) => if r = s.self then s.out (.ejected p) else s.bump F.RTC_DROP_B_EP_MISMATCH 1
    | none => s.bump F.RTC_DROP_B_EP_MISMATCH 1
  | .ctl c =>
    if c.kind = .cvyAck ∨ c.chan = 3 then s.out (.ctlIn c)
    else match s.endpoint c.dstNode with
    | some (r, _) => if r = s.self then s.out (.ctlIn c) else s.bump F.RTC_DROP_B_EP_MISMATCH 1
    | none => s.bump F.RTC_DROP_B_EP_MISMATCH 1
  | .mgmt m => s.out (.mgmtIn m)

/-- PACKET_ROUTE's operation on the head of an input (64: the device's own units): age (R403), collective packets, which travel one link (R348), phase and target (R343), ejection (R338), hop limit (R351),
and the choice of a port (R343 to R349). -/
def State.packetRoute (s : State) (port : Nat) : State :=
  match s.rin.look port with
  | [] => s
  | u :: rest =>
    let s := { s with rin := s.rin.put port rest }
    if u.home.isSome && decide (s.age (unitBirth u.body) > s.lifetime) then (s.bump F.WPR_E2E_COUNT_B_LIFETIME_DROPS 1).freeHome u
    else match (match u.body, u.home with | .data p, some (q, _) => if p.op = .coll then some (p, q) else none | _, _ => none) with
    | some (p, q) => (s.out (.collIn q p)).freeHome u
    | none =>
      let dst := unitDst u.body
      -- the source's choice for its CTL packets; DATA packets have made it at their injection
      let (s, b) : State × UnitBody := match u.body with
        | .ctl c => if u.home.isNone then (let (s, i) := s.valiant u.cls c.dstRouter; (s, unitVia u.body i)) else (s, u.body)
        | b => (s, b)
      let b := if unitInter b = s.self then unitVia b dst else b
      let target := unitInter b
      if target = s.self then (s.eject b).freeHome u
      else if u.home.isSome && u.level = 4 then
        ((s.bump F.RTC_DROP_HOP_LIMIT 1).flt 0x0C4 (packW [(0, dst)])).freeHome u
      else match s.best (s.route target) u.cls with
        | none => ((s.bump F.RTC_DROP_NO_PATH 1).flt 0x0C3 (packW [(0, target)])).freeHome u
        | some (_, p) =>
          s.updPort p fun f => { f with oq := f.oq ++ [{ u with level := if u.home.isSome then u.level + 1 else 0, since := s.tick, body := b }] }

/-! ### Output ports -/

/-- The VC number of a unit (R350). -/
def RUnit.vc (u : RUnit) : Nat := u.cls * 5 + u.level

/-- The class of the port DRR (R411, R424): 0 REQ, 1 RESP, 2 COLL, 3 MGMT, 4 scavenger, which the device's own demoted packets alone take. -/
def RUnit.drrCls (u : RUnit) : Nat :=
  if u.scav && u.home.isNone then 4 else if u.cls = 2 ∨ u.cls = 3 then 2 else if u.cls = 4 then 3 else u.cls

/-- A port's class quantum in flits (R423). -/
def State.pquant (s : State) (p c : Nat) : Nat := max (wbits (s.reg (0x780100 + p * 8)) (12 * c + 11) (12 * c)) 66

/-- VC_MIN in force (RTP_CTRL). -/
def State.vcMin (s : State) (p : Nat) : Nat := min (s.atLeast (F.RTP_CTRL_VC_MIN p) 66) 160

/-- Flits of a VC sent and not yet freed downstream. -/
def FPort.flight (f : FPort) (v : Nat) : Nat := fwd 12 (vcAt f.peerFreed v) (vcAt f.sent v)

/-- The credits of a VC cover n flits (R352): its guarantee, then the shared part. -/
def State.credit (s : State) (p v n : Nat) : Bool :=
  let f := s.fports.look p
  let m := s.vcMin p
  let above := (List.range 25).foldl (fun a w => a + (f.flight w + (if w = v then n else 0) - m)) 0
  decide (f.flight v + n ≤ m ∨ above ≤ 4096 - 25 * m)

/-- Flits in a replay buffer. -/
def FPort.replayFlits (f : FPort) : Nat := f.replay.foldl (fun n u => n + u.flits) 0

/-- A new unit may start (R361, R373). `clear`: flits that end before the guard of the next reserved slot. -/
def State.canStart (s : State) (p clear : Nat) (u : RUnit) : Bool :=
  let f := s.fports.look p
  let n := bodyFlits u.body
  s.credit p u.vc n && decide (f.replayFlits + n ≤ 2048 ∧ f.replay.length < 2048) && (s.get (F.RTP_STATUS_CVY_SLOTS p) == 0 || decide (n ≤ clear))

/-- A unit leaves on a port (R371, R373). -/
def State.sendUnit (s : State) (p : Nat) (u : RUnit) : State :=
  let n := bodyFlits u.body
  let lu : LinkUnit := ⟨u.vc, s.get (F.WPR_LINK_STATUS_TX_NEXT p), n, u.body⟩
  let s := s.updPort p fun f => { f with replay := f.replay ++ [lu], sent := vcAdd f.sent u.vc n }
  let s := (s.put (F.WPR_LINK_STATUS_TX_NEXT p) ((lu.lseq + 1) % 4096)).freeHome u
  let s := (s.count (0x0800 + u.cls) p n (some (unitDom u.body))).count 0x0810 p 1 (some (unitDom u.body))
  let s := match u.home, u.body with
    | some _, .data x => s.ledger 0 ldFwd x.payload.length
    | _, _ => s
  (s.portAdd p 0 n).out (.linkUnit p lu)

/-- Removes the first unit that a predicate names from a list. -/
def takeFirst {α : Type} (p : α → Bool) : List α → Option (α × List α)
  | [] => none
  | x :: xs => if p x then some (x, xs) else (takeFirst p xs).map fun r => (r.1, x :: r.2)

/-- The port's class DRR up to the next unit it sends (R423): `cur` is the class to visit next, plus 8 while its visit is in progress. -/
def State.portDrr (fuel : Nat) (s : State) (p clear : Nat) : State :=
  match fuel with
  | 0 => s
  | fuel + 1 =>
    let f := s.fports.look p
    let c := f.cur % 8
    let q := s.pquant p c
    let d := if f.cur < 8 then min (vcAt f.deficit c + q) (2 * q) else vcAt f.deficit c
    let set := fun (n cur : Nat) (f : FPort) => { f with deficit := (List.range 5).map fun i => if i = c then n else vcAt f.deficit i, cur := cur }
    if !(f.oq.any fun u => u.drrCls == c) then State.portDrr fuel (s.updPort p (set 0 ((c + 1) % 5))) p clear
    else match takeFirst (fun u => u.drrCls == c && s.canStart p clear u) f.oq with
      | none => State.portDrr fuel (s.updPort p (set d ((c + 1) % 5))) p clear
      | some (u, rest) =>
        let n := bodyFlits u.body
        if n ≤ d then
          let more := rest.any fun u => u.drrCls == c
          (s.updPort p fun f => { (set (if more then d - n else 0) (if more then c + 8 else (c + 1) % 5) f) with oq := rest }).sendUnit p u
        else State.portDrr fuel (s.updPort p (set d ((c + 1) % 5))) p clear

/-- The link may carry units. -/
def State.linkOpen (s : State) (p : Nat) : Bool := s.portLive p && s.get (F.WPR_LINK_STATUS_STATE p) == 2 && !s.halted && !s.sealed

/-- PORT_TRANSMIT's operation: the replay of R375 first, then the class DRR. Units of an input buffer that have aged are dropped (R403). -/
def State.portTransmit (s : State) (p clear : Nat) : State :=
  if !s.linkOpen p then s
  else
    let old := fun (u : RUnit) => u.home.isSome && decide (s.age (unitBirth u.body) > s.lifetime)
    let gone := (s.fports.look p).oq.filter old
    let s := gone.foldl (fun s u => (s.bump F.WPR_E2E_COUNT_B_LIFETIME_DROPS 1).freeHome u) (s.updPort p fun f => { f with oq := f.oq.filter (!old ·) })
    match (s.fports.look p).replayFrom with
    | some i =>
      let f := s.fports.look p
      match f.replay[i]? with
      | some u =>
        let s := s.updPort p fun f => { f with replayFrom := if i + 1 < f.replay.length then some (i + 1) else none }
        (s.portAdd p 0 u.flits).out (.linkUnit p u)
      | none => s.updPort p fun f => { f with replayFrom := none }
    | none => s.portDrr 16 p clear

/-! ### Samples (R425) -/

/-- Sample numbers: injection queues by domain × 2 + scavenger, then port VCs. -/
def sampInj (d : Nat) (scav : Bool) : Nat := 2 * d + b2n scav
def sampVc (p v : Nat) : Nat := 131072 + p * 32 + v

/-- A sample of a list of units (R425). -/
def State.sampOf (s : State) (us : List RUnit) : Nat × Nat :=
  let ns := 512 * 2 ^ s.get F.STG_PERIOD_CODE
  (us.foldl (fun n u => n + bodyFlits u.body) 0, match us with | u :: _ => min ((s.tick - u.since) * ns / 1024) 65535 | [] => 0)

/-- Records a sample and its peaks. -/
def State.sampPut (s : State) (k : Nat) (v : Nat × Nat) : State :=
  let o := s.samp.look k
  { s with samp := s.samp.put k ⟨min v.1 65535, v.2, s.now % 2 ^ 32, max o.peakDepth (min v.1 65535), max o.peakDelay v.2⟩ }

/-- Samples every injection queue and every port VC that holds or held anything. -/
def State.sampleAll (s : State) : State :=
  let doms := s.inj.keys
  let s := doms.foldl (fun s d => (s.sampPut (sampInj d false) (s.sampOf (s.inj.look d).q)).sampPut (sampInj d true) (s.sampOf (s.inj.look d).scav)) s
  (s.fports.keys).foldl (fun s p => (List.range 25).foldl (fun s v => s.sampPut (sampVc p v) (s.sampOf ((s.fports.look p).oq.filter (·.vc == v)))) s) s

/-! ### Table writes (R340 to R342) -/

/-- The inactive bank. -/
def State.idleBank (s : State) : Nat := 1 - s.get F.RTC_BANK_ACTIVE

/-- Moves the copy on up to an entry: the active bank's entries replace the inactive bank's (R340). -/
def State.copyTo (s : State) (upto : Nat) : State :=
  match s.bankCopy with
  | none => s
  | some (pos, who) =>
    let a := s.get F.RTC_BANK_ACTIVE * 65536
    let b := s.idleBank * 65536
    let inR := fun (base k : Nat) => decide (base + pos ≤ k ∧ k < base + upto)
    let rs := (s.routes.filter fun e => inR b e.1).foldl (fun t e => Tab.del t e.1) s.routes
    let rs := (s.routes.filter fun e => inR a e.1).foldr (fun e t => Tab.put t (e.1 - a + b) e.2) rs
    { s with routes := rs, bankCopy := some (max pos upto, who) }

/-- A write during a copy meets it after some number of groups of 64 entries that the spec does not fix (a free value). -/
def State.copyRuns (s : State) : State :=
  match s.bankCopy with
  | none => s
  | some (pos, _) => let (v, s) := s.fresh; s.copyTo (min 65536 (pos + v.toNat % 1025 * 64))

/-- Writes a route entry of a bank. -/
def State.routeWrite (s : State) (bank router : Nat) (e : Word) : State :=
  let s := s.copyRuns
  { s with routes := s.routes.put (bank * 65536 + router) e }

/-- Writes an endpoint entry (R336). -/
def State.epWrite (s : State) (node e : Nat) : State := { s with eps := s.eps.put node (e % 2 ^ 18 + e / 2 ^ 31 % 2 * 2 ^ 31) }

/-- A copy of the banks begins, for an RTSET COPY operation or for RTC_BANK.COPY (R340). -/
def State.copyStart (s : State) (who : Option Nat) : State := { s with bankCopy := some (0, who) }.put F.RTC_BANK_COPY_BUSY 1

/-- BANK_COPY_DONE's operation: the copy ends; the RTSET COPY that made it completes, and the next one that waits starts its own. -/
def State.copyDone (s : State) : State :=
  match s.bankCopy with
  | none => s
  | some (_, who) =>
    let s := { s.copyTo 65536 with bankCopy := none }.put F.RTC_BANK_COPY_BUSY 0
    let s := match who with | some k => s.opDone k stOk 0 none | none => s
    match s.copyQ with
    | [] => s
    | k :: ks => { s with copyQ := ks }.copyStart (some k)

/-- ROUTE_BANK_SWAP's operation: an armed swap is performed unless a copy runs; RTSET SWAP operations complete (R340). -/
def State.bankSwap (s : State) : State :=
  if s.flag F.RTC_BANK_SWAP && s.bankCopy.isNone then
    let s := ((s.put F.RTC_BANK_SWAP 0).put F.RTC_BANK_ACTIVE s.idleBank).put F.RTC_BANK_SWAPS ((s.get F.RTC_BANK_SWAPS + 1) % 2 ^ 32)
    (s.ops.keysOf fun o => o.live && o.opcode == 0x80 && o.opf == 1 && o.fin.isNone).foldl (fun s k => s.opDone k stOk 0 none) s
  else s

end Sys2Proof.Machine
end

