-- ==== Sys2Proof/Machine/Coll.lean ====
section
/-!
DEFINITION. Collectives (spec/11): groups and their tree edges (R312 to R321), the numbered streams of the edges (R410), combining (R322 to R325), delivery
(R327, R328), breaking (R330 to R334) and the end of a group (R335).
-/
namespace Sys2Proof.Machine

/-! ### Fields (R319, R152) -/

/-- Kind, sequence number, segment index and group of a COLL packet. -/
def colGroup (p : Packet) : Nat := wbits p.raddr 11 0
def colKind (p : Packet) : Nat := wbits p.raddr 15 12
def colSeq (p : Packet) : Nat := wbits p.raddr 31 16
def colSeg (p : Packet) : Nat := wbits p.raddr 55 32
def colOpf (k : Word) : Nat := wbits k 2 0
def colType (k : Word) : Nat := wbits k 5 3
def colAcc32 (k : Word) : Bool := wbit k 6
def colPresent (k : Word) : Bool := wbit k 7
def colCount (k : Word) : Nat := wbits k 63 32

/-- The signature of R317: kind, and the region key without PRESENT. -/
def colSig (p : Packet) : Nat × Word := (colKind p, p.rkey &&& ~~~ (128 : Word))

/-- Element size of a TYPE (R152). -/
def typeSize (t : Nat) : Nat := match t with | 0 => 8 | 1 => 4 | 2 => 2 | 3 => 2 | 4 => 8 | 5 => 4 | 6 => 8 | _ => 4

/-- The floating-point format of a TYPE, if it is one. -/
def typeFmt (t : Nat) : Option Fmt := match t with | 0 => some fp64 | 1 => some fp32 | 2 => some bf16 | 3 => some fp16 | _ => none

/-- Element size on the up path (R318, R324). -/
def upSize (k : Word) : Nat := if colAcc32 k then 4 else typeSize (colType k)

/-- Elements of a full segment (R318). -/
def perSeg (k : Word) : Nat := 4096 / upSize k

/-- Segments of a collective (R318): kind 3 REDUCE, 4 BCAST; others one token. -/
def segCount (kind : Nat) (k : Word) : Nat :=
  if kind = 3 then max 1 ((colCount k + perSeg k - 1) / perSeg k) else if kind = 4 then max 1 ((colCount k + 4095) / 4096) else 1

/-- Offset and bytes of a segment's result at a member. -/
def segRange (kind : Nat) (k : Word) (seg : Nat) : Nat × Nat :=
  if kind = 3 then
    let n := typeSize (colType k)
    (seg * perSeg k * n, min (perSeg k) (colCount k - seg * perSeg k) * n)
  else if kind = 4 then (seg * 4096, min 4096 (colCount k - seg * 4096))
  else (0, 0)

/-- Splits bytes into elements. -/
def elemsOf (n : Nat) : Nat → List Byte → List Nat
  | 0, _ => []
  | f + 1, bs => if bs.isEmpty then [] else ofBytes (bs.take n) :: elemsOf n f (bs.drop n)

/-- Joins elements into bytes. -/
def elemBytes (n : Nat) (xs : List Nat) : List Byte := xs.flatMap fun x => leBytes x n

/-- One combine of two elements (R323). -/
def combine (opf t : Nat) (acc32 : Bool) (a b : Nat) : Nat :=
  match (if acc32 then some fp32 else typeFmt t) with
  | some f =>
    if opf = 0 then f.add a b
    else if f.isNan a || f.isNan b then f.qnan
    else if opf = 1 then (if f.lt b a then b else a) else (if f.lt a b then b else a)
  | none =>
    let w := 8 * typeSize t
    match opf with
    | 0 => (a + b) % 2 ^ w
    | 1 => if t = 4 ∨ t = 5 then (if sval w b < sval w a then b else a) else min a b
    | 2 => if t = 4 ∨ t = 5 then (if sval w a < sval w b then b else a) else max a b
    | 3 => a &&& b
    | 4 => a ||| b
    | _ => a ^^^ b

/-- The fold of R322 over whole segments. -/
def foldSegs (k : Word) (ins : List (List Byte)) : List Byte :=
  match ins with
  | [] => []
  | x :: xs =>
    let n := upSize k
    xs.foldl (fun r i => elemBytes n (List.zipWith (combine (colOpf k) (colType k) (colAcc32 k)) (elemsOf n r.length r) (elemsOf n i.length i))) x

/-- Elements converted between formats (R324). -/
def convElems (f g : Fmt) (n m : Nat) (bs : List Byte) : List Byte := elemBytes m ((elemsOf n bs.length bs).map (f.conv g))

/-! ### Groups and edges -/

/-- Changes a group. -/
def State.updGrp (s : State) (g : Nat) (f : Cgrp → Cgrp) : State := { s with grps := s.grps.upd g f }

/-- Changes an edge of a group. -/
def State.updEdge (s : State) (g port : Nat) (f : CEdge → CEdge) : State :=
  s.updGrp g fun r => { r with edges := r.edges.map fun (e : CEdge) => if e.port = port then f e else e }

/-- The edge of a group on a port. -/
def Cgrp.edge (g : Cgrp) (port : Nat) : Option CEdge := g.edges.find? (·.port == port)

/-- NCHILD (R313). -/
def Cgrp.nchild (g : Cgrp) : Nat := g.children.length + g.mems.length

/-- The numbers under which commands name edge streams. -/
def colKey (g port : Nat) : Nat := 2 ^ 60 + g * 64 + port

/-- The IV of a COLL packet (R440): `down` its direction. -/
def colIv (tx rx g : Nat) (down : Bool) (psn inc birth : Nat) : List Word :=
  [packW [(0, tx), (16, g), (28, b2n down), (29, rx), (56, 15)], packW [(0, psn % 2 ^ 24), (24, inc), (40, birth % 2 ^ 24)], packW [(0, birth / 2 ^ 24 % 2 ^ 24)]]

/-- The IV of a CTL packet of an edge stream, by the same fields (R440). -/
def colCtlIv (tx rx g : Nat) (down : Bool) (kind psn inc birth : Nat) : List Word :=
  [packW [(0, tx), (16, g), (28, b2n down), (29, rx), (56, kind), (60, 1), (61, 3)], packW [(0, psn % 2 ^ 24), (24, inc), (40, birth % 2 ^ 24)],
   packW [(0, birth / 2 ^ 24 % 2 ^ 24)]]

/-- The router at the other end of a port's link (R377, R440). -/
def State.peerOf (s : State) (port : Nat) : Nat := (s.fports.look port).peerRouter

/-- Puts a unit straight on an edge's port at level 0 (R348). -/
def State.toPort (s : State) (port cls : Nat) (b : UnitBody) : State :=
  s.updPort port fun f => { f with oq := f.oq ++ [⟨cls, 0, false, none, s.tick, b⟩] }

/-- Sends a packet of an edge stream now, with its stage, incarnations and key (R410). -/
def State.colEmit (s : State) (g port : Nat) (x : CTx) : State :=
  let r := s.grps.look g
  let up := decide (port = r.parent) && !r.root
  match s.key r.dom with
  | none => s
  | some key =>
    if s.quiet then s
    else
      let peer := s.peerOf port
      let p := { x.pkt with
        dstRouter := peer, inter := peer, domain := r.dom, psn := x.psn, srcInc := s.inc, dstInc := s.get (F.WPR_LINK_STATUS_PEER_INC port),
        birth := s.now % 4096, op := .coll, chan := 3, first := true, last := true, len := x.pkt.payload.length,
        sealed := ⟨key, colIv s.self peer g (!up) x.psn s.inc s.now, true⟩, crcOk := true }
      s.toPort port (if up then 2 else 3) (.data p)

/-- Sends the next packet of an edge stream (R320). -/
def State.colSend (s : State) (g port kind seq seg : Nat) (rkey opid : Word) (payload : List Byte) : State :=
  match (s.grps.look g).edge port with
  | none => s
  | some e =>
    let p : Packet := { (default : Packet) with
      op := .coll, raddr := packW [(0, g), (12, kind), (16, seq), (32, seg)], rkey := rkey, opid := opid, payload := payload }
    let x : CTx := ⟨e.txPsn, p, 0, 0, false⟩
    (s.updEdge g port fun e => { e with txPsn := (e.txPsn + 1) % 2 ^ 24, tx := e.tx ++ [x] }).colEmit g port x

/-- Returns credits on an edge by a GRANT (R315, R321). -/
def State.colCredit (s : State) (g port n : Nat) : State := s.colSend g port 0 0 0 0 (BitVec.ofNat 64 n) []

/-- A CTL packet of an edge stream (R388): `down` the direction of the stream it answers. -/
def State.colCtl (s : State) (g port : Nat) (kind : CtlKind) (psn : Nat) (down : Bool) : State :=
  let r := s.grps.look g
  match s.key r.dom with
  | none => s
  | some key =>
    if s.quiet then s
    else
      let peer := s.peerOf port
      let arg := packW [(0, g), (12, b2n down)]
      let tag := (colKey g port, ctlCode kind, psn)
      let c : Ctl := {
        dstRouter := peer, dstNode := 0, dstFunc := 0, srcNode := 0, srcFunc := 0, domain := r.dom, inter := peer, psn := psn, srcInc := s.inc
        dstInc := s.get (F.WPR_LINK_STATUS_PEER_INC port), birth := s.now % 4096, kind := kind, chan := 3, status := 0, arg := arg, body := []
        sealed := ⟨key, colCtlIv s.self peer g down (ctlCode kind) psn s.inc s.now, true⟩, crcOk := true }
      if s.ctlSent.contains tag then s else { s with ctlSent := tag :: s.ctlSent }.toPort port 1 (.ctl c)

/-! ### Breaking (R331 to R334) -/

/-- What a member has of its collective's result: the leading segments placed (R128, R334). -/
def CMem.bytes (m : CMem) (o : Op) : Nat :=
  if o.opcode = 0x51 then
    let n := typeSize o.x.sub
    min o.x.total (m.placed * (4096 / (if o.x.w32 then 4 else n)) * n)
  else if o.opcode = 0x52 then min o.x.total (m.placed * 4096) else 0

/-- Completes the collective of a member. -/
def State.memEnd (s : State) (g port fn st : Nat) : State :=
  let r := s.grps.look g
  match r.mems.find? fun m => m.port == port && m.fn == fn with
  | none => s
  | some m =>
    match m.op with
    | none => s
    | some k =>
      let o := s.ops.look k
      let s := s.opCut k
      let s := s.opFin k st (if st = stOk then o.x.total else m.bytes o) none
      let s := s.updGrp g fun r => { r with mems := r.mems.map fun (x : CMem) => if x.port = port ∧ x.fn = fn then { x with op := none, given := 0, placed := 0 } else x }
      s.later (.room .coll)

/-- A group becomes BROKEN (R333): `culprit` the member whose BUS_ERROR caused it, `from'` the edge that delivered a BREAK. -/
def State.grpBroken (s : State) (g cause : Nat) (remote : Bool) (culprit : Option (Nat × Nat)) (from' : Option Nat) : State :=
  let r := s.grps.look g
  if r.st ≠ 1 ∧ r.st ≠ 2 then s
  else
    let s := s.updGrp g fun r => { r with st := 3, cause := cause, remote := remote, slots := [], downs := [] }
    let s := s.bump F.COL_BREAKS_BREAKS 1
    let s := if cause = 5 ∧ !remote then s.bump F.COL_BREAKS_MISMATCH 1 else s
    let s := r.edges.foldl (fun s e => if some e.port = from' then s else s.colSend g e.port 5 0 0 0 (BitVec.ofNat 64 cause) []) s
    r.mems.foldl (fun s m =>
      s.memEnd g m.port m.fn (if culprit = some (m.port, m.fn) then stBus else if cause = 8 then stDown else stUnreach)) s

/-- Breaks a group, with COL_BROKEN (R333). -/
def State.grpBreak (s : State) (g cause : Nat) (remote : Bool) (culprit : Option (Nat × Nat)) (from' : Option Nat) : State :=
  if (s.grps.look g).st ≠ 1 ∧ (s.grps.look g).st ≠ 2 then s
  else (s.flt 0x0C2 (packW [(0, g), (12, cause)])).grpBroken g cause remote culprit from'

/-- COLL_STALL_TIMEOUT's operation (R331). -/
def State.grpStall (s : State) (g : Nat) : State :=
  let n := s.get F.COL_CTRL_STALL_STAGES
  if n > 0 ∧ (s.grps.look g).stall ≥ n then s.grpBreak g 6 false none none else s

/-- A group that is being destroyed is freed once no packet of it remains on the device, and its DESTROY completes (R335). -/
def State.grpFree (s : State) (g : Nat) : State :=
  match (s.grps.look g).destroyOp with
  | none => s
  | some k =>
    let mine := fun (u : RUnit) => match u.body with | .data p => p.op == .coll && colGroup p == g | _ => false
    if s.fports.vals.any (fun f => f.oq.any mine) || s.rin.vals.any (fun l => l.any mine) then s
    else { s with grps := s.grps.del g }.opDone k stOk 0 none

/-! ### Combining (R322 to R325) -/

/-- A packet of a local member's contribution. -/
def memPkt (g kind seq seg : Nat) (rkey : Word) (payload : List Byte) : Packet :=
  { (default : Packet) with op := .coll, raddr := packW [(0, g), (12, kind), (16, seq), (32, seg)], rkey := rkey, payload := payload, len := payload.length }

/-- Puts an input into its combining slot (R322). -/
def State.slotPut (s : State) (g child : Nat) (p : Packet) : State :=
  s.updGrp g fun r =>
    let mine := fun (x : CSlot) => x.seq == colSeq p && x.seg == colSeg p
    let slots := if r.slots.any mine then r.slots.map fun (x : CSlot) => if mine x then { x with ins := x.ins ++ [(child, p)] } else x
      else r.slots ++ [⟨colSeq p, colSeg p, [(child, p)]⟩]
    { r with slots := slots, moved := true }

/-- Kind code and region key of a member's collective (R319). -/
def Op.colOf (o : Op) : Nat × Word :=
  match o.opcode with
  | 0x50 => (1, 0)
  | 0x53 => (2, 0)
  | 0x51 => (3, packW [(0, o.opf), (3, o.x.sub), (6, b2n o.x.w32), (32, o.x.count)])
  | _ => (4, packW [(7, b2n (o.x.mode = 3)), (32, o.x.total)])

/-- A member gives what it can: tokens at once, data as it has been read, within the combining slots (R321, R322). -/
def State.memGive (fuel : Nat) (s : State) (g j : Nat) : State :=
  match fuel with
  | 0 => s
  | fuel + 1 =>
    let r := s.grps.look g
    match r.mems[j]? with
    | none => s
    | some m =>
      match m.op with
      | none => s
      | some k =>
        let o := s.ops.look k
        let (kind, rkey) := o.colOf
        let base := if r.upSeq = m.seq then r.upSeg else 0
        if m.given ≥ segCount kind rkey || decide (m.given ≥ base + r.bufSegs) || (r.st ≠ 1 && r.st ≠ 2) then s
        else
          let (_, n) := segRange kind rkey m.given
          let reads := kind = 3 ∨ (kind = 4 ∧ o.x.mode = 3)
          if reads ∧ o.acc.length < n then s
          else
            let data := if reads then o.acc.take n else []
            let data := if kind = 3 ∧ colAcc32 rkey then convElems ((typeFmt (colType rkey)).getD fp32) fp32 2 4 data else data
            let s := if reads then s.updOp k fun o => { o with acc := o.acc.drop n } else s
            let s := s.slotPut g (r.children.length + j) (memPkt g kind m.seq m.given rkey data)
            let s := s.updGrp g fun r => { r with mems := r.mems.mapIdx fun i (x : CMem) => if i = j then { x with given := x.given + 1 } else x }
            State.memGive fuel s g j

/-- Bytes a member's operation may read, so that no more segments wait than there are slots. -/
def State.memQuota (s : State) (g j : Nat) : State :=
  let r := s.grps.look g
  match r.mems[j]? with
  | none => s
  | some m =>
    match m.op with
    | none => s
    | some k =>
      let o := s.ops.look k
      let (kind, rkey) := o.colOf
      let base := if r.upSeq = m.seq then r.upSeg else 0
      let (off, n) := segRange kind rkey (base + r.bufSegs - 1)
      (s.updOp k fun o => { o with quota := off + n }).memGive (r.bufSegs + 1) g j

/-- Every member goes on. -/
def State.memsGo (s : State) (g : Nat) : State := (List.range (s.grps.look g).mems.length).foldl (fun s j => s.memQuota g j) s

/-! ### Delivery (R327, R328) -/

/-- A member has its whole result. -/
def State.memCheck (s : State) (g j : Nat) : State :=
  match (s.grps.look g).mems[j]? with
  | none => s
  | some m =>
    match m.op with
    | none => s
    | some k => let o := s.ops.look k; let (kind, rkey) := o.colOf; if m.placed ≥ segCount kind rkey then s.memEnd g m.port m.fn stOk else s

/-- A member's segment is delivered. -/
def State.memPlaced (s : State) (g j seq seg : Nat) : State :=
  let r := s.grps.look g
  let s := s.updGrp g fun r => { r with
    mems := r.mems.mapIdx fun i (x : CMem) => if i = j then { x with placed := x.placed + 1 } else x, moved := true
    downs := r.downs.map fun (d : CDown) => if colSeq d.pkt = seq ∧ colSeg d.pkt = seg then { d with mems := d.mems.filter (· ≠ j) } else d }
  (s.count 0x0701 g 1 (some r.dom)).memCheck g j

/-- A down segment reaches a local member: its bytes are cut into bursts of the member's channel; a token, and the data at a BCAST root, need no write. -/
def State.memDeliver (s : State) (g j : Nat) (p : Packet) : State :=
  let r := s.grps.look g
  match r.mems[j]? with
  | none => s
  | some m =>
    let drop := fun (s : State) => s.updGrp g fun r => { r with
      downs := r.downs.map fun (d : CDown) => if colSeq d.pkt = colSeq p ∧ colSeg d.pkt = colSeg p then { d with mems := d.mems.filter (· ≠ j) } else d }
    match m.op with
    | none => drop s
    | some k =>
      let o := s.ops.look k
      if m.seq ≠ colSeq p then drop s
      else
        let (kind, rkey) := o.colOf
        let (off, n) := segRange kind rkey (colSeg p)
        match (if n = 0 ∨ (kind = 4 ∧ o.x.mode = 3) then none else o.bound) with
        | none => s.memPlaced g j (colSeq p) (colSeg p)
        | some c =>
          let at' := if kind = 3 then o.dstAt off n else o.localAt off n
          let mk := fun _ va m data => { (default : Burst) with op := k, kind := .collWr (colSeg p), off := off, len := m, pieces := [(va, m)], data := data }
          s.jump c (cutBursts (s.burstSize c) mk (n + 1) at' 0 p.payload)

/-- Sends down buffers to child ports in order while credits last, and frees those that have reached everyone (R321). -/
def State.downPump (s : State) (g : Nat) : State :=
  let r := s.grps.look g
  let s := r.children.foldl (fun s port =>
    let send := fun (s : State) (d : CDown) =>
      let r := s.grps.look g
      match r.edge port, (r.downs.find? fun x => x.ports.contains port) with
      | some e, some x =>
        if colSeq x.pkt = colSeq d.pkt ∧ colSeg x.pkt = colSeg d.pkt ∧ e.credit > 0 then
          let s := s.updEdge g port fun e => { e with credit := e.credit - 1 }
          let s := s.updGrp g fun r => { r with
            moved := true
            downs := r.downs.map fun (y : CDown) => if colSeq y.pkt = colSeq d.pkt ∧ colSeg y.pkt = colSeg d.pkt then { y with ports := y.ports.filter (· ≠ port) } else y }
          s.colSend g port (colKind d.pkt) (colSeq d.pkt) (colSeg d.pkt) d.pkt.rkey 0 d.pkt.payload
        else s
      | _, _ => s
    (s.grps.look g).downs.foldl send s) s
  let done := ((s.grps.look g).downs.filter fun d => d.ports.isEmpty && d.mems.isEmpty).length
  let s := s.updGrp g fun r => { r with downs := r.downs.filter fun d => !(d.ports.isEmpty && d.mems.isEmpty) }
  if done = 0 ∨ r.root then s else s.colCredit g r.parent done

/-- A result goes down from this device (R327). -/
def State.downStart (s : State) (g : Nat) (p : Packet) : State :=
  let r := s.grps.look g
  let js := List.range r.mems.length
  let s := s.updGrp g fun r => { r with downs := r.downs ++ [⟨p, r.children, js⟩], moved := true }
  (js.foldl (fun s j => s.memDeliver g j p) s).downPump g

/-- SEGMENT_COMBINE's operation: the fold of a complete segment goes up, or at the root down (R317, R320 to R325). -/
def State.segCombine (s : State) (g seq seg : Nat) : State :=
  let r := s.grps.look g
  match r.slots.find? fun x => x.seq == seq && x.seg == seg with
  | none => s
  | some x =>
    let room := if r.root then decide (r.downs.length < r.bufSegs) else decide (((r.edge r.parent).map (·.credit)).getD 0 > 0)
    if r.st ≠ 2 || seq ≠ r.upSeq || seg ≠ r.upSeg || x.ins.length < r.nchild || !room then s
    else
      let ins := (List.range r.nchild).filterMap fun i => (x.ins.find? fun e => e.1 == i).map (·.2)
      match ins with
      | [] => s
      | p0 :: _ =>
        let kind := colKind p0
        let present := ins.filter fun p => colPresent p.rkey
        if ins.any fun p => colSig p ≠ colSig p0 then
          (s.flt 0x0C1 (packW [(0, g), (16, seq)])).reacting 1 (.object 0x0C2 (packW [(0, g), (12, 5)]) none) fun s => s.grpBreak g 5 false none none
        else if kind = 4 && (decide (present.length ≥ 2) || (r.root && present.isEmpty)) then s.grpBreak g 5 false none none
        else
          let rkey := if kind = 4 then (present.headD p0).rkey else p0.rkey
          let data := if kind = 3 then foldSegs rkey (ins.map (·.payload)) else (present.headD p0).payload
          let s := s.updGrp g fun r =>
            let last := decide (seg + 1 ≥ segCount kind rkey)
            { r with
              slots := r.slots.filter fun y => !(y.seq == seq && y.seg == seg), moved := true,
              upSeq := if last then (seq + 1) % 65536 else seq, upSeg := if last then 0 else seg + 1 }
          let s := s.count 0x0700 g 1 (some r.dom)
          let s := r.children.foldl (fun s port => s.colCredit g port 1) s
          let s := if r.root then
              let data := if kind = 3 ∧ colAcc32 rkey then convElems fp32 ((typeFmt (colType rkey)).getD fp32) 4 2 data else data
              s.downStart g (memPkt g kind seq seg rkey data)
            else
              (s.updEdge g r.parent fun e => { e with credit := e.credit - 1 }).colSend g r.parent kind seq seg rkey 0 data
          s.memsGo g

/-! ### Arrivals (R315, R410) -/

/-- A group becomes READY (R314). -/
def State.grpReady (s : State) (g : Nat) : State :=
  let r := s.grps.look g
  if r.st = 1 ∧ r.edges.all (·.granted) then s.updGrp g fun r => { r with st := 2 } else s

/-- A verified packet of an edge stream, in order. -/
def State.colHandle (s : State) (g port : Nat) (up : Bool) (p : Packet) : State :=
  let r := s.grps.look g
  match colKind p with
  | 0 => ((s.updEdge g port fun e => { e with credit := e.credit + wbits p.opid 15 0, granted := true }).grpReady g).downPump g
  | 5 => if r.st = 3 then s else s.grpBreak g (wbits p.opid 3 0) true none (some port)
  | _ =>
    if r.st = 3 then s
    else if up then s.slotPut g ((r.children.findIdx? (· == port)).getD 0) p
    else s.downStart g p

/-- The next packets of an edge stream, while they stand at its expected PSN: key and tag (R267, R393), then the engine. -/
def State.colNext (fuel : Nat) (s : State) (g port : Nat) (up : Bool) : State :=
  match fuel with
  | 0 => s
  | fuel + 1 =>
    match (s.grps.look g).edge port with
    | none => s
    | some e =>
      match e.held.find? fun p => p.psn == e.rxExp with
      | none => s
      | some p =>
        let s := s.updEdge g port fun e => { e with held := e.held.filter (·.psn != p.psn) }
        let d := s.doms.look p.domain
        let iv := colIv (s.peerOf port) s.self g (!up) p.psn p.srcInc (s.birthStage p.birth)
        if d.cur.isNone then s
        else if p.sealed.intact && p.sealed.iv == iv && (d.cur == some p.sealed.key || d.alt == some p.sealed.key) then
          let s := s.updEdge g port fun e => { e with rxExp := (e.rxExp + 1) % 2 ^ 24, heldAge := 0 }
          let s := s.ledger p.domain ldRx p.payload.length
          let s := s.colCtl g port .ack p.psn (!up)
          State.colNext fuel (s.colHandle g port up p) g port up
        else s.authFail p.domain 0

/-- A collective packet arrives on a port (R315, R393, R410). -/
def State.colRx (s : State) (port : Nat) (p : Packet) : State :=
  let g := colGroup p
  let r := s.grps.look g
  if s.age p.birth > s.lifetime || s.quiet then s.bump F.WPR_E2E_COUNT_B_LIFETIME_DROPS 1
  else if !p.crcOk then s.bump F.WPR_E2E_COUNT_C_CRC_FAIL 1
  else
    match (if r.st = 0 ∨ r.destroyOp.isSome ∨ r.dom ≠ p.domain then none else r.edge port) with
    | none =>
      if colKind p = 5 ∧ r.st = 0 then s
      else (s.bump F.COL_BREAKS_STRAY 1).flt 0x0C0 (packW [(0, port), (16, g)])
    | some e =>
      let up := !e.up
      if p.dstInc ≠ 0 ∧ p.dstInc ≠ s.inc then (s.bump F.WPR_NACK_SENT_STALE 1).colCtl g port .nackStale p.psn (!up)
      else if psnBehind p.psn e.rxExp then
        (s.bump F.WPR_E2E_COUNT_B_DUPLICATES 1).colCtl g port .ack ((e.rxExp + 2 ^ 24 - 1) % 2 ^ 24) (!up)
      else if p.psn ≠ e.rxExp then
        let w := fun (q : Packet) => dataFlits q.payload.length * 64
        if e.held.any (·.psn == p.psn) then s
        else if e.held.foldl (fun n q => n + w q) (w p) ≤ s.pairShare then s.updEdge g port fun e => { e with held := e.held ++ [p] }
        else (s.bump F.WPR_NACK_SENT_SEQ_GAP 1).colCtl g port .nackSeqGap p.psn (!up)
      else
        let s := s.updEdge g port fun e => { e with held := p :: e.held.filter (·.psn != p.psn) }
        s.colNext (e.held.length + 1) g port up

/-! ### Acknowledgement of edge streams -/

/-- The edge a CTL packet of CHAN COLL answers: its group and direction, and the port of the device that sent it. -/
def State.colEdgeOf (s : State) (c : Ctl) : Option (Nat × Nat) :=
  let g := wbits c.arg 11 0
  let down := wbit c.arg 12
  let r := s.grps.look g
  (r.edges.find? fun e => e.up == !down && s.get (F.WPR_LINK_STATUS_PEER_INC e.port) == c.srcInc).map fun e => (g, e.port)

/-- Sends a packet of an edge stream again (R399, R410); at the limit the group breaks. -/
def State.colAgain (s : State) (g port psn : Nat) (counted : Bool) : State :=
  match (s.grps.look g).edge port with
  | none => s
  | some e =>
    match e.tx.find? (·.psn == psn) with
    | none => s
    | some x =>
      if counted && decide (x.resends ≥ s.resendLimit) then s.grpBreak g 2 false none none
      else
        let s := if counted then (s.bump F.WPR_E2E_COUNT_A_RESENDS 1).count 0x0900 0 1 (some (s.grps.look g).dom) else s
        let s := s.updEdge g port fun e => { e with
          tx := e.tx.map fun (y : CTx) => if y.psn = psn then { y with age := 0, resends := if counted then y.resends + 1 else y.resends, nacked := false } else y }
        s.colEmit g port x

/-- A CTL packet of an edge stream (R410): ACK, NACK_SEQ_GAP and NACK_STALE. -/
def State.colCtlIn (s : State) (c : Ctl) : State :=
  match s.colEdgeOf c with
  | none => s
  | some (g, port) =>
    let r := s.grps.look g
    let d := s.doms.look c.domain
    let iv := colCtlIv (s.peerOf port) s.self g (wbit c.arg 12) (ctlCode c.kind) c.psn c.srcInc (s.birthStage c.birth)
    if s.age c.birth > s.lifetime || s.quiet then s.bump F.WPR_E2E_COUNT_B_LIFETIME_DROPS 1
    else if c.dstInc ≠ 0 ∧ c.dstInc ≠ s.inc then s
    else if !c.crcOk then s.bump F.WPR_E2E_COUNT_C_CRC_FAIL 1
    else if !(c.domain = r.dom && c.sealed.intact && c.sealed.iv == iv && (d.cur == some c.sealed.key || d.alt == some c.sealed.key)) then
      s.authFail c.domain 0
    else match c.kind with
      | .ack =>
        let out := ((r.edge port).map (·.tx)).getD []
        let s := (out.filter fun x => !psnAhead x.psn c.psn).foldl (fun s x => s.ledger r.dom ldTx x.pkt.payload.length) s
        let rest := out.filter fun x => psnAhead x.psn c.psn
        let s := s.updEdge g port fun e => { e with tx := rest }
        match rest with
        | x :: _ => if x.nacked then s.colAgain g port x.psn false else s
        | [] => s
      | .nackSeqGap =>
        match (r.edge port).map (·.tx) with
        | some (x :: _) =>
          if x.psn = c.psn then s.colAgain g port x.psn false
          else s.updEdge g port fun e => { e with tx := e.tx.map fun (y : CTx) => if y.psn = c.psn then { y with nacked := true } else y }
        | _ => s
      | .nackStale => s.grpBreak g 3 false none none
      | _ => s

/-- PACKET_TIMEOUT of an edge stream (R399, R410). -/
def State.colDue (s : State) (key psn : Nat) : State :=
  let g := (key - 2 ^ 60) / 64
  let port := (key - 2 ^ 60) % 64
  match ((s.grps.look g).edge port).bind fun e => e.tx.find? (·.psn == psn) with
  | some x => if x.age ≥ s.timeout then s.colAgain g port psn true else s
  | none => s

/-- SEQ_GAP_REPORT of an edge stream (R398, R410). -/
def State.colGap (s : State) (key : Nat) : State :=
  let g := (key - 2 ^ 60) / 64
  let port := (key - 2 ^ 60) % 64
  match (s.grps.look g).edge port with
  | some e =>
    if !e.held.isEmpty && decide (e.heldAge ≥ s.gapStages) then
      ((s.updEdge g port fun e => { e with heldAge := 0 }).bump F.WPR_NACK_SENT_SEQ_GAP 1).colCtl g port .nackSeqGap e.rxExp e.up
    else s
  | none => s

/-! ### Members' operations and group instructions -/

/-- The group and local member of an endpoint. -/
def State.memIdx (s : State) (g port fn : Nat) : Option Nat := (s.grps.look g).mems.findIdx? fun m => m.port == port && m.fn == fn

/-- A member's collective starts (R316): it takes the next sequence number; JOIN is operation 0. -/
def State.memStart (s : State) (g j k : Nat) (join : Bool) : State :=
  let s := s.updGrp g fun r =>
    let seq := if join then 0 else (((r.mems[j]?).map (·.seq)).getD 0 + 1) % 65536
    { r with
      mems := r.mems.mapIdx fun i (x : CMem) => if i = j then { x with joined := true, seq := seq, op := some k, given := 0, placed := 0 } else x
      hiSeq := max r.hiSeq seq, moved := true }
  s.memQuota g j

/-- Data of a member's operation has been read. -/
def State.collData (s : State) (k : Nat) : State :=
  match s.grps.find? fun e => e.2.mems.any fun m => m.op == some k with
  | none => s
  | some (g, r) => s.memGive (r.bufSegs + 1) g ((r.mems.findIdx? fun m => m.op == some k).getD 0)

/-- A burst of a member's operation has ended: a write of a result segment, or a failure (R328, R332). -/
def State.collBurst (s : State) (k seg : Nat) (ok : Bool) : State :=
  match s.grps.find? fun e => e.2.mems.any fun m => m.op == some k with
  | none => s
  | some (g, r) =>
    let j := (r.mems.findIdx? fun m => m.op == some k).getD 0
    let m := r.mems.getD j default
    if !ok then s.grpBreak g 4 false (some (m.port, m.fn)) none
    else
      let left : Bool := match (s.ops.look k).bound with
        | some c => let ch := s.chans.look c; (ch.bursts ++ ch.jumped).any fun b => b.op == k && b.kind == .collWr seg
        | none => false
      if left then s else (s.memPlaced g j m.seq seg).downPump g

/-- A member's operation ended ABORTED: its group breaks (R330, R332). -/
def State.memAborted (s : State) (k : Nat) : State :=
  match s.grps.find? fun e => e.2.mems.any fun m => m.op == some k with
  | none => s
  | some (g, r) =>
    match r.mems.find? fun m => m.op == some k with
    | some m => (s.memEnd g m.port m.fn stAborted).grpBreak g 4 false none none
    | none => s

/-- Units of reduction buffer in use (R313). -/
def State.colUnits (s : State) : Nat := s.grps.vals.foldl (fun n g => n + g.units) 0

/-- GROUPSET CREATE (R165, R313, R315): a status and the state. -/
def State.grpCreate (s : State) (ws : List Word) : State × Nat :=
  let w0 := ws.getD 0 0
  let g := wbits w0 11 0
  let dom := wbits w0 31 16
  let root := wbit w0 38
  let parent := wbits w0 37 32
  let nloc := wbits w0 43 40
  let kids := (List.range 64).filter fun p => wbit (ws.getD 1 0) p
  let mems := (List.range nloc).map fun i =>
    let h := wbits (ws.getD (2 + i / 4) 0) (16 * (i % 4) + 15) (16 * (i % 4))
    (⟨bitsOf h 9 8, bitsOf h 7 0, false, 0, none, 0, 0⟩ : CMem)
  let segs := min (s.atLeast F.COL_CTRL_BUF_SEGS 2) 64
  let units := segs * (kids.length + nloc + 1)
  if (s.grps.look g).st ≠ 0 || decide (s.colUnits + units > 1024) || (s.key dom).isNone then (s, stNoRes)
  else
    let mk := fun port up => (⟨port, up, 0, [], 0, 0, [], 0, false⟩ : CEdge)
    let edges := (if root then [] else [mk parent true]) ++ kids.map (mk · false)
    let r : Cgrp := { (default : Cgrp) with
      st := 1, dom := dom, parent := parent, root := root, children := kids, mems := mems, edges := edges, bufSegs := segs, units := units }
    let s := { s with grps := s.grps.put g r }
    let s := edges.foldl (fun s e => s.colCredit g e.port segs) s
    (s.grpReady g, stOk)

/-- GROUPSET DESTROY (R335). -/
def State.grpDestroy (s : State) (g k : Nat) : State :=
  let r := s.grps.look g
  let s := r.mems.foldl (fun s m => s.memEnd g m.port m.fn stAborted) s
  let s := r.edges.foldl (fun s e => s.colSend g e.port 5 0 0 0 9 []) s
  (s.updGrp g fun r => { r with destroyOp := some k, slots := [], downs := [] }).grpFree g

/-- Groups with work outstanding on the device (R331). -/
def Cgrp.busy (g : Cgrp) : Bool := g.mems.any (·.op.isSome) || !g.slots.isEmpty || !g.downs.isEmpty || g.edges.any fun e => e.tx.any fun x => 1 ≤ colKind x.pkt ∧ colKind x.pkt ≤ 4

/-- Boundary task 6 for groups: stall and stream timers (R331, R399, R410). -/
def State.grpTick (s : State) (ok : Nat → Bool) : State :=
  { s with grps := s.grps.mapKeys fun k (g : Cgrp) => if !ok k then g else { g with
      stall := if g.busy && !g.moved then g.stall + 1 else 0, moved := false
      edges := g.edges.map fun (d : CEdge) => { d with
        tx := d.tx.map fun (x : CTx) => { x with age := x.age + 1 }, heldAge := if d.held.isEmpty then 0 else d.heldAge + 1 } } }

end Sys2Proof.Machine
end

