-- ==== Sys2Proof/Machine/Convoy.lean ====
section
/-!
DEFINITION. Convoys (R359 to R370): records, slots, frames, acknowledgement, teardown and breaking.
-/
namespace Sys2Proof.Machine

/-- Changes a convoy record. -/
def State.updCvy (s : State) (v : Nat) (f : Cvy → Cvy) : State := { s with cvys := s.cvys.upd v f }

/-- Frame payload P and frame length in flits at a period code (R362). -/
def cvyP (code : Nat) : Nat := match code with | 0 => 2688 | 1 => 5888 | 2 => 12288 | _ => 25088
def cvyFlits (code : Nat) : Nat := match code with | 0 => 43 | 1 => 93 | 2 => 193 | _ => 393

/-- The slots a record reserves on its OUT_PORT (R361). -/
def Cvy.reserved (c : Cvy) (p : Nat) : Nat := if (c.st = 2 ∨ c.st = 3 ∨ c.st = 4) ∧ c.role ≠ 2 ∧ c.outPort = p then c.slots else 0

/-- The slots named for a port by every record that holds any, PENDING ones included (R164). -/
def State.cvyNamed (s : State) (p : Nat) : Nat :=
  s.cvys.vals.foldl (fun m c => if c.st ≠ 0 ∧ c.role ≠ 2 ∧ c.outPort = p then m ||| c.slots else m) 0

/-- Bits set in a 16-bit mask. -/
def pop16 (m : Nat) : Nat := (List.range 16).foldl (fun n i => n + b2n (m.testBit i)) 0

/-- Shows the reserved slots of a port (RTP_STATUS.CVY_SLOTS). -/
def State.cvyShow (s : State) (p : Nat) : State := s.put (F.RTP_STATUS_CVY_SLOTS p) (s.cvys.vals.foldl (fun m c => m ||| c.reserved p) 0)

/-- The sync state is LOCKED (R53). -/
def State.locked (s : State) : Bool := s.get F.STG_SYNC_STATUS_STATE == 2

/-- Convoy grants are fenced while SYNC_LOST is pending (R57, R525). -/
def State.cvyFenced (s : State) : Bool := s.flag (fltPend 0x003)

/-- CONVOY SETUP (R164, R362, R532): a status and the state; stIllegal for undefined descriptor values. -/
def State.cvySetup (s : State) (ws : List Word) : State × Nat :=
  let w0 := ws.getD 0 0
  let v := wbits w0 9 0
  let role := wbits w0 13 12
  let out := wbits w0 45 40
  let start := wbits (ws.getD 1 0) 47 0
  let slots := wbits (ws.getD 2 0) 15 0
  let len := (ws.getD 4 0).toNat
  let p := cvyP (s.get F.STG_PERIOD_CODE)
  if role = 3 ∨ len = 0 ∨ len > p * 0xFFFFFFFF then (s, stIllegal)
  else
    let named := s.cvyNamed out
    let bad := role ≠ 2 ∧ (pop16 (named ||| slots) > 12 ∨ named &&& slots ≠ 0 ∨ s.pdQuad out ≠ 0)
    if start < s.now + 16 ∨ bad ∨ (s.cvys.look v).st ≠ 0 ∨ !s.locked ∨ s.cvyFenced ∨ (s.workMode = 3 ∧ role ≠ 1) then (s, stNoRes)
    else
      let c : Cvy := { (default : Cvy) with
        st := 1, role := role, inPort := wbits w0 37 32, outPort := out, dom := wbits w0 63 48, start := start, slots := if role = 2 then 0 else slots
        va := (ws.getD 3 0).toNat, len := len, pasid := wbits (ws.getD 5 0) 19 0, n := (len + p - 1) / p }
      ({ s with cvys := s.cvys.put v c }, stOk)

/-- A device notice on vector 0 of the function that owns the convoy's PASID (R35, R368). -/
def State.cvyNotice (s : State) (v : Nat) : State :=
  let c := s.cvys.look v
  let p := s.pas.look c.pasid
  if c.role = 1 then s else s.msix p.port p.fn 0

/-- The bursts of a convoy leave its channel, which goes on if it was parked on one of them. -/
def State.cvyUnbind (s : State) (v : Nat) : State :=
  match (s.cvys.look v).chan with
  | none => s
  | some ch =>
    let mine := fun (b : Burst) => match b.kind with | .cvyRd w _ => w == v | _ => false
    let c := s.chans.look ch
    let s := (c.bursts.filter mine).foldl (fun s b => (s.accs.keysOf fun a => a.client == .burst ch b.id).foldl (fun s i => s.accDrop i) s) s
    let was := c.parked && c.bursts.any fun b => b.faulted.isSome && mine b
    (s.updChan ch fun c => { c with bursts := c.bursts.filter (!mine ·), jumped := c.jumped.filter (!mine ·), parked := c.parked && !was }).updCvy v fun r => { r with chan := none, asked := 0 }

/-- A convoy becomes BROKEN (R370): slots stay for at most 4 stages. -/
def State.cvyBreak (s : State) (v cause : Nat) : State :=
  let c := s.cvys.look v
  if c.st = 0 ∨ c.st = 4 then s
  else
    let s := s.cvyUnbind v
    let s := s.updCvy v fun r => { r with st := 4, cause := cause, left := 4, slots := if c.st = 1 then 0 else r.slots }
    (s.cvyShow c.outPort).cvyNotice v

/-- Breaks every convoy that a predicate names. -/
def State.cvyBreakAll (s : State) (p : Cvy → Bool) (cause : Nat) : State := (s.cvys.keysOf p).foldl (fun s v => s.cvyBreak v cause) s

/-- Convoys that use a port (R357). -/
def Cvy.onPort (c : Cvy) (p : Nat) : Bool := (c.role != 0 && c.inPort == p) || (c.role != 2 && c.outPort == p)

/-- The channel R364 binds: steps 2 and 3 of R295 with RTC_CVY_CTRL.PRIO. -/
def State.cvyChan (s : State) : Option Nat :=
  (prioOrder (s.get F.RTC_CVY_CTRL_PRIO)).findSome? fun p => s.fewest ((List.range 128).filter fun c => s.opChan c && s.get (F.BLK_CH_CFG_PRIO c) == p)

/-- Reads a range of the source buffer in bursts of the convoy's channel. -/
def State.cvyRead (s : State) (v off len : Nat) : State :=
  let c := s.cvys.look v
  match c.chan with
  | none => s
  | some ch =>
    let mk := fun o va m _ => { (default : Burst) with op := noOp, kind := .cvyRd v o, off := o, len := m, pieces := [(va, m)] }
    s.jump ch (cutBursts (s.burstSize ch) mk (len + 1) [((c.va + off) % 2 ^ 64, len)] off [])

/-- Bytes of frame q (R362). -/
def Cvy.frameLen (c : Cvy) (p q : Nat) : Nat := min p (c.len - q * p)

/-- Prepares frames up to 2 stages ahead (R364). -/
def State.cvyPump (fuel : Nat) (s : State) (v : Nat) : State :=
  match fuel with
  | 0 => s
  | fuel + 1 =>
    let c := s.cvys.look v
    let p := cvyP (s.get F.STG_PERIOD_CODE)
    if c.st ≠ 2 ∨ c.role ≠ 0 ∨ c.chan.isNone ∨ c.asked ≥ c.n ∨ c.asked ≥ c.nextSeq + 2 * pop16 c.slots then s
    else
      let s := s.cvyRead v (c.asked * p) (c.frameLen p c.asked)
      State.cvyPump fuel (s.updCvy v fun r => { r with asked := c.asked + 1 }) v

/-- Source bytes have been read (Work.cvyData). -/
def State.cvyData (s : State) (v off : Nat) (bs : List Byte) : State :=
  if (s.cvys.look v).st = 2 then s.updCvy v fun r => { r with got := (off, bs) :: r.got } else s

/-- The bytes of a frame, if all have been read. -/
def Cvy.frameData (c : Cvy) (p q : Nat) : Option (List Byte) :=
  let n := c.frameLen p q
  let mine := c.got.filter fun g => decide (q * p ≤ g.1 ∧ g.1 < q * p + n)
  if mine.foldl (fun a g => a + g.2.length) 0 < n then none
  else some ((sortRank (fun i => (mine.getD i (0, [])).1) (List.range mine.length)).flatMap fun i => (mine.getD i (0, [])).2)

/-- CONVOY_ACTIVATE's operation (R360), due once stage START has begun. -/
def State.cvyActivate (s : State) (v : Nat) : State :=
  let c := s.cvys.look v
  if c.st ≠ 1 ∨ s.now < c.start then s
  else if !s.locked then s.cvyBreak v 2
  else
    let p := s.pas.look c.pasid
    if c.role ≠ 1 ∧ (p.st ≠ .active ∨ p.dom ≠ some c.dom ∨ (s.key c.dom).isNone) then s.cvyBreak v 4
    else
      let s := s.updCvy v fun r => { r with st := 2, chan := if c.role = 0 then s.cvyChan else none }
      (s.cvyShow c.outPort).cvyPump 64 v

/-- The IV of a frame (R440). -/
def cvyIv (v router seq inc start : Nat) : List Word :=
  [packW [(0, v), (10, router), (63, 1)], packW [(0, seq % 2 ^ 24), (24, inc), (40, seq / 2 ^ 24 % 256)], packW [(0, start % 2 ^ 24), (24, start / 2 ^ 24 % 2 ^ 24)]]

/-- Puts a frame out on a port. -/
def State.cvyOut (s : State) (port : Nat) (f : Frame) : State :=
  let full := f.len = cvyP (s.get F.STG_PERIOD_CODE)
  let n := if full then cvyFlits (s.get F.STG_PERIOD_CODE) else (8 + 16 + f.len + 20 + 63) / 64
  ((s.portAdd port 0 n).count 0x0811 port 1 (some f.domain)).out (.frame port f)

/-- Sends a frame of the source, or withholds one whose source data has changed since its first send (R442). -/
def State.cvySend (s : State) (v q : Nat) (data : List Byte) (again : Option CvyTx) : State :=
  let c := s.cvys.look v
  match s.key c.dom with
  | none => s
  | some key =>
    let ord := c.forwarded
    let f : Frame := ⟨v, c.dom, q, data.length, s.inc, s.self, data, ⟨key, cvyIv v s.self q s.inc c.start, true⟩, true⟩
    let p := cvyP (s.get F.STG_PERIOD_CODE)
    let forget := fun (r : Cvy) => { r with got := r.got.filter fun g => !decide (q * p ≤ g.1 ∧ g.1 < q * p + p) }
    match again with
    | some x =>
      let same := decide (x.tag = data)
      let s := s.updCvy v fun r => { forget r with
        tx := r.tx.map fun (y : CvyTx) => if y.seq = q then { y with sentAt := s.now, ord := ord, resends := y.resends + 1, due := false } else y, forwarded := ord + 1 }
      if same then s.cvyOut c.outPort f else s.bump F.SEC_STATUS_CVY_WITHHELD 1
    | none =>
      (s.updCvy v fun r => { forget r with tx := r.tx ++ [⟨q, s.now, 0, false, data, ord⟩], nextSeq := q + 1, forwarded := ord + 1 }).cvyOut c.outPort f

/-- CONVOY_SLOT's operation: a reserved slot begins (R364, R365). -/
def State.cvySlot (s : State) (v : Nat) : State :=
  let c := s.cvys.look v
  let p := cvyP (s.get F.STG_PERIOD_CODE)
  if s.halted || s.sealed || !s.portLive c.outPort || c.slots = 0 then s
  else if c.role = 1 ∧ (c.st = 2 ∨ c.st = 4) then
    match c.buf with
    | [] => s
    | f :: rest => (s.updCvy v fun r => { r with buf := rest, forwarded := (r.forwarded + 1) % 2 ^ 32 }).cvyOut c.outPort f
  else if c.role = 0 ∧ c.st = 2 then
    let s := match c.tx.find? (·.due) with
      | some x => (match c.frameData p x.seq with | some d => s.cvySend v x.seq d (some x) | none => s)
      | none =>
        if c.nextSeq < c.n ∧ c.nextSeq < c.cum + 64 then
          (match c.frameData p c.nextSeq with | some d => s.cvySend v c.nextSeq d none | none => s)
        else s
    let s := if (s.cvys.look v).chan.isNone then s.updCvy v fun r => { r with chan := s.cvyChan } else s
    s.cvyPump 64 v
  else s

/-- CONVOY_FRAME_FORWARD's operation at a transit (R365). -/
def State.cvyForward (s : State) (port : Nat) (f : Frame) : State :=
  let c := s.cvys.look f.convoy
  if c.st ≠ 0 ∧ c.role = 2 then s
  else if c.st ≠ 2 ∨ c.role ≠ 1 ∨ c.inPort ≠ port then s.bump F.RTC_CVY_COUNT_STRAY 1
  else if c.buf.length ≥ 2 * pop16 c.slots then s.bump F.RTC_CVY_COUNT_OVERFLOW 1
  else s.updCvy f.convoy fun r => { r with buf := r.buf ++ [f] }

/-- CUM past the frames already written. -/
def cvyCum : Nat → Nat → List Nat → Nat
  | 0, n, _ => n
  | k + 1, n, seen => if seen.contains n then cvyCum k (n + 1) seen else n

/-- CONVOY_FRAME_RECEIVE's operation at the sink (R366). -/
def State.cvyReceive (s : State) (port : Nat) (f : Frame) : State :=
  let c := s.cvys.look f.convoy
  if c.st ≠ 0 ∧ c.role ≠ 2 then s
  else if c.st = 0 ∨ c.inPort ≠ port then s.bump F.RTC_CVY_COUNT_STRAY 1
  else if (c.st ≠ 2 ∧ c.st ≠ 3) ∨ f.domain ≠ c.dom ∨ f.seq ≥ c.n then s
  else
    let p := cvyP (s.get F.STG_PERIOD_CODE)
    let d := s.doms.look c.dom
    if f.len ≠ c.frameLen p f.seq ∨ f.payload.length ≠ f.len ∨ !f.crcOk then s
    else if !(f.sealed.intact && f.sealed.iv == cvyIv f.convoy f.srcRouter f.seq f.srcInc c.start && (d.cur == some f.sealed.key || d.alt == some f.sealed.key)) then
      s.authFail c.dom 0
    else
      let s := s.updCvy f.convoy fun r => { r with srcInc := f.srcInc, srcRouter := f.srcRouter }
      if f.seq < c.cum ∨ c.seen.contains f.seq ∨ c.pend.contains f.seq then s
      else
        let s := s.updCvy f.convoy fun r => { r with pend := f.seq :: r.pend }
        (s.access (.cvySink f.convoy f.seq) c.pasid c.dom .write false [((c.va + f.seq * p) % 2 ^ 64, f.len)] f.payload).2

/-- A sink write has ended (R233, R234, R266 to R268, R367, R368). -/
def State.cvyWritten (s : State) (v q : Nat) (res : AccRes) : State :=
  let c := s.cvys.look v
  let s := s.updCvy v fun r => { r with pend := r.pend.filter (· ≠ q) }
  match res with
  | .ok _ =>
    let seen := q :: c.seen
    let cum := cvyCum (seen.length + 1) c.cum seen
    let s := s.ledger c.dom ldRx (c.frameLen (cvyP (s.get F.STG_PERIOD_CODE)) q)
    let s := s.updCvy v fun r => { r with cum := cum, seen := seen.filter (· ≥ cum) }
    if cum = c.n ∧ c.st = 2 then (s.updCvy v fun r => { r with st := 3 }).cvyNotice v else s
  | .xlate cause level va => s.faultOnce c.pasid cause 5 level v va .write
  | _ => s

/-- The acknowledgement a sink sends at a boundary (R367, R389). -/
def State.cvyAckSend (s : State) (v : Nat) : State :=
  let c := s.cvys.look v
  match s.key c.dom with
  | some key =>
    if c.role ≠ 2 ∨ (c.st ≠ 2 ∧ c.st ≠ 3) ∨ c.srcInc = 0 ∨ s.quiet then s
    else
      let map := c.seen.foldl (fun m q => if q > c.cum ∧ q - c.cum - 1 < 64 then m ||| 2 ^ (q - c.cum - 1) else m) 0
      let a : Ctl := {
        dstRouter := c.srcRouter, dstNode := 0, dstFunc := 0, srcNode := 0, srcFunc := 0, domain := c.dom, inter := c.srcRouter, psn := 0, srcInc := s.inc
        dstInc := c.srcInc, birth := s.now % 4096, kind := .cvyAck, chan := 0, status := 0, arg := 0
        body := [packW [(0, v), (32, c.cum)], BitVec.ofNat 64 map], sealed := ⟨key, ctlIv 0 0 0 0 9 0 0 s.inc s.now, true⟩, crcOk := true }
      s.toRouter 1 (.ctl a)
  | none => s

/-- Marks a frame for re-send: its source bytes are read again; at the limit the convoy breaks (R367, R442). -/
def State.cvyMark (s : State) (v q : Nat) : State :=
  let c := s.cvys.look v
  match c.tx.find? (·.seq == q) with
  | none => s
  | some x =>
    if x.due then s
    else if x.resends ≥ s.atLeast F.RTC_CVY_CTRL_RESEND_LIMIT 1 then s.cvyBreak v 3
    else
      let p := cvyP (s.get F.STG_PERIOD_CODE)
      (s.updCvy v fun r => { r with tx := r.tx.map fun (y : CvyTx) => if y.seq = q then { y with due := true } else y }).cvyRead v (q * p) (c.frameLen p q)

/-- CVY_ACK's operation at the source (R367, R368). -/
def State.cvyAck (s : State) (a : Ctl) : State :=
  if a.kind ≠ .cvyAck then s
  else s.ctlTake a fun s =>
    let w := a.body.getD 0 0
    let v := wbits w 9 0
    let map := (a.body.getD 1 0).toNat
    let c := s.cvys.look v
    let cum := wbits w 63 32
    if c.role ≠ 0 ∨ c.st ≠ 2 ∨ c.dom ≠ a.domain then s
    else
      let vis := fun (q : Nat) => decide (q < cum) || (decide (q > cum) && map.testBit (q - cum - 1))
      let fresh := c.tx.filter fun x => vis x.seq
      let p := cvyP (s.get F.STG_PERIOD_CODE)
      let s := fresh.foldl (fun s x => s.ledger c.dom ldTx (c.frameLen p x.seq)) s
      let s := s.updCvy v fun r => { r with cum := max r.cum cum, tx := r.tx.filter fun x => !vis x.seq }
      if cum = c.n then ((s.cvyUnbind v).updCvy v fun r => { r with st := 3 }).cvyNotice v
      else
        -- a frame sent after s, and above it, is visible while s is not
        let lost := (s.cvys.look v).tx.filter fun x => fresh.any fun y => decide (y.seq > x.seq ∧ y.ord > x.ord)
        (lost.foldl (fun s x => s.cvyMark v x.seq) s).cvyPump 64 v

/-- CONVOY_FRAME_TIMEOUT's operation (R367). -/
def State.cvyTimeout (s : State) (v q : Nat) : State :=
  let c := s.cvys.look v
  match c.tx.find? (·.seq == q) with
  | some x => if c.st = 2 ∧ s.now ≥ x.sentAt + s.atLeast F.RTC_CVY_CTRL_RTO_STAGES 1 then s.cvyMark v q else s
  | none => s

/-- A parked source burst is translated afresh (R364). -/
def State.cvyResume (s : State) (v : Nat) : State :=
  match (s.cvys.look v).chan with
  | none => s
  | some ch =>
    let mine := (s.chans.look ch).bursts.any fun b => b.faulted.isSome && (match b.kind with | .cvyRd w _ => w == v | _ => false)
    if (s.chans.look ch).parked && mine then s.chanResume ch else s

/-- CONVOY_SOURCE_RETRY's operation: RETRY_AFTER stages are over (R364). -/
def State.cvyRetry (s : State) (v : Nat) : State :=
  let c := s.cvys.look v
  if c.st = 2 ∧ c.role = 0 ∧ c.retryIn = 0 then s.cvyResume v else s

/-- TEARDOWN (R369): a status and the state. -/
def State.cvyTeardown (s : State) (v stage : Nat) : State × Nat :=
  if (s.cvys.look v).st = 0 then (s, stNoRes)
  else (s.updCvy v fun r => { r with teardown := some (max stage (s.now + 1)) }, stOk)

/-- CONVOY_RELEASE's operation (R369). -/
def State.cvyRelease (s : State) (v : Nat) : State :=
  let c := s.cvys.look v
  match c.teardown with
  | some t =>
    if s.now ≥ t ∧ c.st ≠ 0 then
      let s := s.cvyUnbind v
      { s with cvys := s.cvys.del v }.cvyShow c.outPort
    else s
  | none => s

/-- CONVOY_BROKEN_RELEASE's operation (R57, R370): after its 4 stages, or once nothing is left to send. -/
def State.cvyBrokenRelease (s : State) (v : Nat) : State :=
  let c := s.cvys.look v
  if c.st = 4 ∧ (c.left = 0 ∨ c.buf.isEmpty) then (s.updCvy v fun r => { r with slots := 0, buf := [], left := 0 }).cvyShow c.outPort else s

/-- Boundary task 4 for convoys, by stage number alone (R58, R360, R369, R370). -/
def State.cvyTask (s : State) : State :=
  let s := { s with cvys := s.cvys.mapAll fun (c : Cvy) => { c with left := c.left - 1, retryIn := c.retryIn - 1 } }
  let s := s.cvys.keys.foldl (fun s v => s.cvyRelease v) s
  let s := (s.cvys.keysOf fun c => c.st == 4 && c.left == 0 && c.slots != 0).foldl (fun s v => s.cvyBrokenRelease v) s
  s.cvys.keys.foldl (fun s v => s.cvyActivate v) s

end Sys2Proof.Machine
end

