-- ==== Sys2Proof/Machine/Lanes.lean ====
section
/-!
DEFINITION. Lanes (spec/16): power states of lane halves (R456, R457), the transmit taps (R459), and where a port's training stands (R455, R462). Port Fp
runs over lanes 4p to 4p + 3, which lane quad Qp powers.
-/
namespace Sys2Proof.Machine

/-- Power state of a half (R456). -/
def State.half (s : State) (l : Nat) (tx : Bool) : Nat := s.get (if tx then F.LAN_STATUS_TX_STATE l else F.LAN_STATUS_RX_STATE l)

/-- Every half of a port's lanes is ON. -/
def State.quadOn (s : State) (p : Nat) : Bool := (List.range 4).all fun j => s.half (4 * p + j) true == 0 && s.half (4 * p + j) false == 0

/-- RATE in force: codes 2 and 3 are taken as 0. -/
def State.laneRate (s : State) (l : Nat) : Nat := if s.get (F.LAN_CTRL_RATE l) = 1 then 1 else 0

/-- RATE and MEDIA are equal on a port's lanes (R455). -/
def State.quadAgrees (s : State) (p : Nat) : Bool :=
  (List.range 4).all fun j => s.laneRate (4 * p + j) == s.laneRate (4 * p) && s.get (F.LAN_CTRL_MEDIA (4 * p + j)) == s.get (F.LAN_CTRL_MEDIA (4 * p))

/-- The step a port's training stands at; 0 when idle. -/
def State.trainStep (s : State) (p : Nat) : Nat := s.get (F.LAN_STATUS_TRAIN_STEP (4 * p))

/-- Shows the step and STATE on a port's lanes. -/
def State.laneShow (s : State) (p step : Nat) : State :=
  (List.range 4).foldl (fun s j =>
    let l := 4 * p + j
    let st := if s.half l true ≠ 0 ∧ s.half l false ≠ 0 then 0 else if !s.quadAgrees p then 3 else if (s.fports.look p).trained then 2 else 1
    (s.put (F.LAN_STATUS_STATE l) st).put (F.LAN_STATUS_TRAIN_STEP l) step) s

/-- A port may train (R462); a device that has stopped its ports does not. -/
def State.mayTrain (s : State) (p : Nat) : Bool :=
  s.quadOn p && s.quadAgrees p && s.get (F.WPR_LINK_STATUS_STATE p) == 0 && !s.halted && !s.sealed

/-- Puts a port's training at a step, 7 when it is trained; idle where the port may not train. -/
def State.trainAt (s : State) (p step : Nat) : State :=
  let ok := s.mayTrain p
  (s.updPort p fun f => if ok && step == 7 then { f with trained := true } else { f with trained := false, linitTx := false, linitRx := false }).laneShow p
    (if ok then step else 0)

/-- Two's complement value of a tap. -/
def tapVal (n : Nat) : Int := if n ≥ 128 then (n : Int) - 256 else n

/-- The taps applied (R459): MAIN gives way until the absolute values sum to at most 127. -/
def ffeTaps (w : Word) : Word :=
  let w := w &&& 0x0000FFFFFFFFFFFF
  let mag := fun i => (tapVal (wbits w (8 * i + 7) (8 * i))).natAbs
  let rest := mag 0 + mag 1 + mag 3 + mag 4 + mag 5
  if rest + mag 2 ≤ 127 then w
  else
    let m := 127 - rest
    let main := if wbits w 23 16 ≥ 128 then (256 - m) % 256 else m
    (w &&& 0x0000FFFFFF00FFFF) ||| packW [(16, main)]

/-- A lane's taps in use are those of LAN_FFE. -/
def State.ffeShow (s : State) (l : Nat) : State := s.setReg (0x2000028 + l * 0x4000) (ffeTaps (s.reg (0x2000020 + l * 0x4000)))

/-- Peaking a lane starts from, or uses unchanged (R458). -/
def State.peakSet (s : State) (l : Nat) : Nat := min 48 (s.get (F.LAN_EQ_PEAK l))

/-- Training starts (R457, R462): at step 3 with kept values, else at step 1 from the values set. -/
def State.trainStart (s : State) (p : Nat) : State :=
  if !s.mayTrain p then s.trainAt p 0
  else if (s.train.look p).kept then { s with train := s.train.upd p fun t => { t with kept := false } }.trainAt p 3
  else
    let s := (List.range 4).foldl (fun s j => let l := 4 * p + j; (s.ffeShow l).put (F.LAN_STATUS_PEAK_NOW l) (s.peakSet l)) s
    s.trainAt p 1

end Sys2Proof.Machine
end

