-- ==== Sys2Proof/Machine/Link.lean ====
section
/-!
DEFINITION. The link layer (R371 to R380), link health (R357, R358), gossip (R347), and the loss of time sync that a link-down brings (R56, R57).
-/
namespace Sys2Proof.Machine

/-! ### Loss of sync (R56, R57) -/

/-- The device enters LOST: convoys drain and break, SYNC_LOST, Degraded. -/
def State.syncLose (s : State) : State :=
  if !s.locked then s
  else
    let s := s.put F.STG_SYNC_STATUS_STATE 3
    let s := { s with sync := { s.sync with good := 0, badOff := 0, badCode := 0, missed := 0 } }
    let s := s.cvyBreakAll (fun c => c.st == 1 || c.st == 2 || c.st == 3) 2
    s.flt 0x003 (packW [(0, s.get F.STG_SYNC_CTRL_PARENT_PORT)])

/-- The device follows a parent on a port (R52). -/
def State.parentIs (s : State) (p : Nat) : Bool :=
  !s.flag F.STG_SYNC_CTRL_GM && s.flag F.STG_SYNC_CTRL_PARENT_EN && s.get F.STG_SYNC_CTRL_PARENT_PORT == p

/-! ### A link goes down (R357, R376) -/

/-- Breaks every group with an edge on a port (R332, R357). -/
def State.grpPortDown (s : State) (p : Nat) : State :=
  (s.grps.keysOf fun g => g.edges.any (·.port == p)).foldl (fun s g => s.grpBreak g 1 false none none) s

/-- A link goes down with a cause: everything of R357 and R376 in one cycle. A group being destroyed may become free. The port trains again
where R462 lets it. -/
def State.linkDown (s : State) (p cause : Nat) : State :=
  if s.get (F.WPR_LINK_STATUS_STATE p) = 0 then s
  else
    let up := s.flag (F.RTP_STATUS_LINK_UP p)
    let f := s.fports.look p
    let s := ((s.put (F.WPR_LINK_STATUS_STATE p) 0).put (F.WPR_LINK_STATUS_DOWN_CAUSE p) cause).bump (F.WPR_LINK_COUNT_B_DOWNS p) 1
    let s := (s.put (F.WPR_LINK_STATUS_FAILED_REPLAYS p) 0).put (F.RTP_STATUS_LINK_UP p) 0
    let s := s.put F.RTC_PORT_HEALTH_HEALTH (s.get F.RTC_PORT_HEALTH_HEALTH &&& (2 ^ 64 - 1 - 2 ^ p))
    let s := s.bump F.RTC_DROP_B_LINK_DOWN f.oq.length
    let s := f.oq.foldl (fun s u => s.freeHome u) s
    -- the port's replay buffer, its input buffer, and units of that buffer routed to other ports
    let mine := fun (u : RUnit) => match u.home with | some (q, _) => q == p | none => false
    let s := { s with rin := s.rin.del p, fports := s.fports.mapAll fun (g : FPort) => { g with oq := g.oq.filter (!mine ·) } }
    let s := s.updPort p fun g => { g with
      oq := [], deficit := [], cur := 0, replay := [], replayFrom := none, mark := none, nak := false, nakSent := false, linitTx := false, linitRx := false }
    let s := s.cvyBreakAll (fun c => c.onPort p && (c.st == 1 || c.st == 2 || c.st == 3)) 1
    -- several occurrences of one cycle are taken in descending class (R513)
    let s := if up && s.parentIs p then s.syncLose else s
    let s := (s.grpPortDown p).flt 0x0C5 (packW [(0, p), (8, cause)])
    ((s.grps.keysOf (·.destroyOp.isSome)).foldl (fun s g => s.grpFree g) s).trainStart p

/-! ### Units (R374) -/

/-- A unit is not accepted: NAK once per gap; the expected unit arriving damaged is the replay's beginning. -/
def State.unitNak (s : State) (p : Nat) (again : Bool) : State :=
  s.updPort p fun f => if f.nakSent && !again then f else { f with nak := true, nakSent := false }

/-- LINK_UNIT_RECEIVE's operation (R374, R403, R352). -/
def State.unitRx (s : State) (p : Nat) (u : LinkUnit) (decoded : Bool) : State :=
  if !s.linkOpen p then s
  else
    let s := s.portAdd p 1 u.flits
    let next := s.get (F.WPR_LINK_STATUS_RX_NEXT p)
    if !decoded then ((s.bump (F.WPR_LINK_COUNT_UNCORR p) 1)).unitNak p (u.lseq == next)
    else if u.lseq ≠ next then (s.bump (F.WPR_LINK_COUNT_B_OUT_OF_SEQ p) 1).unitNak p false
    else
      let s := (s.put (F.WPR_LINK_STATUS_RX_NEXT p) ((next + 1) % 4096)).updPort p fun f => { f with nak := false, nakSent := false }
      let s := s.count (0x0808 + u.vc / 5) p u.flits (some (unitDom u.body))
      let r : RUnit := ⟨u.vc / 5, u.vc % 5, false, some (p, u.vc), s.tick, u.body⟩
      if s.age (unitBirth u.body) > s.lifetime then (s.bump F.WPR_E2E_COUNT_B_LIFETIME_DROPS 1).freeHome r
      else { s with rin := s.rin.upd p fun l => l ++ [r] }

/-! ### Link control (R375, R378) -/

/-- A replay starts, or the link goes down after 8 failed ones (R375). -/
def State.replayStart (s : State) (p : Nat) : State :=
  let f := s.fports.look p
  let failed := s.get (F.WPR_LINK_STATUS_FAILED_REPLAYS p) + b2n f.mark.isSome
  let s := s.put (F.WPR_LINK_STATUS_FAILED_REPLAYS p) failed
  if failed ≥ 8 then s.linkDown p 1
  else match f.replay with
    | [] => s
    | u :: _ =>
      let s := ((s.bump (F.WPR_LINK_COUNT_REPLAYS p) 1).portAdd p 2 1).count 0x0903 p 1 none
      s.updPort p fun f => { f with replayFrom := some 0, mark := some u.lseq }

/-- LCF_RECEIVE's operation (R375, R378). -/
def State.lcfRx (s : State) (p : Nat) (l : Lcf) : State :=
  if !l.ok || s.get (F.WPR_LINK_STATUS_STATE p) ≠ 2 then s
  else
    let f := s.fports.look p
    let n := match f.replay.findIdx? fun u => u.lseq == l.lack with | some i => i + 1 | none => 0
    let passed := match f.mark with | some m => (f.replay.take n).any fun u => u.lseq == m | none => false
    let s := s.updPort p fun f => { f with
      replay := f.replay.drop n, peerFreed := l.freed.take 25, mark := if passed then none else f.mark
      replayFrom := f.replayFrom.bind fun i => if i < n then (if n < f.replay.length then some 0 else none) else some (i - n) }
    let s := if passed then s.put (F.WPR_LINK_STATUS_FAILED_REPLAYS p) 0 else s
    if l.nak then s.replayStart p else s

/-- REPLAY_TIMEOUT's operation (R375): LACK has stood still while units are unacknowledged. -/
def State.replayDue (s : State) (p : Nat) : State :=
  if s.get (F.WPR_LINK_STATUS_STATE p) = 2 && !(s.fports.look p).replay.isEmpty then s.replayStart p else s

/-- LCF_SEND's operation (R378). -/
def State.lcfTx (s : State) (p : Nat) : State :=
  if !s.linkOpen p then s
  else
    let f := s.fports.look p
    let l : Lcf := ⟨(s.get (F.WPR_LINK_STATUS_RX_NEXT p) + 4095) % 4096, f.nak, (List.range 32).map fun v => if v < 25 then vcAt f.freed v else 0, true⟩
    ((s.updPort p fun f => { f with nak := false, nakSent := f.nakSent || f.nak }).portAdd p 0 1).out (.lcf p l)

/-! ### Bring-up of a link (R377) -/

/-- The link comes up once a LINIT has gone and one has come; its health bit stays as software left it (R358). -/
def State.linkUpCheck (s : State) (p : Nat) : State :=
  let f := s.fports.look p
  if f.linitTx && f.linitRx then
    let s := ((s.put (F.WPR_LINK_STATUS_STATE p) 2).put (F.RTP_STATUS_LINK_UP p) 1).put (F.WPR_LINK_STATUS_TX_NEXT p) 0
    let s := (s.put (F.WPR_LINK_STATUS_RX_NEXT p) 0).put (F.WPR_LINK_STATUS_FAILED_REPLAYS p) 0
    s.updPort p fun f => { f with
      sent := [], peerFreed := [], freed := [], replay := [], replayFrom := none, mark := none, nak := false, nakSent := false, linitTx := false, linitRx := false }
  else s

/-- LINIT_SEND's operation on a trained port whose link is not up. -/
def State.linitTx (s : State) (p : Nat) : State :=
  if !(s.fports.look p).trained || s.get (F.WPR_LINK_STATUS_STATE p) == 2 || !s.flag (F.RTP_CTRL_EN p) || s.halted || s.sealed then s
  else
    let s := s.put (F.WPR_LINK_STATUS_STATE p) 1
    let s := (s.portAdd p 0 1).out (.linit p ⟨s.self, s.inc, p, s.get F.STG_PERIOD_CODE⟩)
    (s.updPort p fun f => { f with linitTx := true }).linkUpCheck p

/-- LINIT_RECEIVE's operation; one that arrives while UP retrains the link. -/
def State.linitRx (s : State) (p : Nat) (l : Linit) : State :=
  if !(s.fports.look p).trained || !s.flag (F.RTP_CTRL_EN p) || s.halted || s.sealed then s
  else if s.get (F.WPR_LINK_STATUS_STATE p) = 2 then s.linkDown p 3
  else
    let s := (s.put (F.WPR_LINK_STATUS_STATE p) 1).put (F.WPR_LINK_STATUS_PEER_INC p) l.inc
    ((s.portAdd p 1 1).updPort p fun f => { f with linitRx := true, peerRouter := l.router }).linkUpCheck p

/-! ### Gossip (R347) -/

/-- The level of a port (R347). -/
def State.ownLevel (s : State) (p : Nat) : Nat := min 15 (s.depth p (fun u => u.cls == 0 || u.cls == 1) / 256)

/-- Sends one gossip frame on every link that is up. -/
def State.gossipSend (s : State) : State :=
  let ups := (List.range 64).filter fun p => s.linkOpen p
  let levels := (List.range 64).map s.ownLevel
  ups.foldl (fun s p => ((s.put (F.RTP_LOAD_LEVEL p) (levels.getD p 0)).portAdd p 0 1).out (.gossip p ⟨s.self, levels, true⟩)) s

/-- Sets the levels a neighbour reported. -/
def State.gossipPut (s : State) (p : Nat) (levels : List Nat) : State :=
  (List.range 4).foldl (fun s k => s.setReg (0x1000010 + p * 0x10000 + k * 8) (packW ((List.range 16).map fun j => (4 * j, levels.getD (16 * k + j) 0 % 16)))) s

/-- GOSSIP_RECEIVE's operation. -/
def State.gossipRx (s : State) (p : Nat) (g : Gossip) : State :=
  if !s.linkOpen p then s
  else
    let s := s.portAdd p 1 1
    if !g.crcOk then s
    else ((s.put (F.RTP_STATUS_NEIGHBOUR p) g.router).put (F.RTP_STATUS_GOSSIP_AGE p) 0).gossipPut p g.levels

/-- GOSSIP_TIMEOUT's operation: no frame for 4 stages. -/
def State.gossipOld (s : State) (p : Nat) : State := if s.get (F.RTP_STATUS_GOSSIP_AGE p) ≥ 4 then s.gossipPut p [] else s

/-- One stage more without a gossip frame. -/
def State.gossipTick (s : State) : State :=
  (s.fports.keys).foldl (fun s p => (s.put (F.RTP_STATUS_GOSSIP_AGE p) (satAdd 4 (s.get (F.RTP_STATUS_GOSSIP_AGE p)) 1)).gossipOld p) s

end Sys2Proof.Machine
end

