-- ==== Sys2Proof/Machine/Locks.lean ====
section
/-!
DEFINITION. Hardware locks (spec/18, R155 to R157): acquisition by a read or by LOCK, polls and candidates, release, reservation, owners that
die, and the lock work of boundary task 8.
-/
namespace Sys2Proof.Machine

/-- The owner a queue's runs act as (R155, R486); the sideband run acts as the sideband. -/
def queueOwner (wq : Nat) : Owner := ⟨0x1000 + wq % 4096, wq⟩
abbrev sbOwner : Owner := ⟨0xF000, 0⟩

/-- The owner a run acts as. -/
def State.runOwner (s : State) (ctx : Nat) : Owner := if ctx = sbCtx then sbOwner else queueOwner (s.runs.look ctx).wq

/-- A queue master (R486). -/
def Owner.isQueue (o : Owner) : Bool := decide (0x1000 ≤ o.master ∧ o.master ≤ 0x1FFF)

/-- The host function an owner belongs to; the sideband has none. -/
def State.ownerFn (s : State) (o : Owner) : Option (Nat × Nat) :=
  if o.isQueue then some ((s.wqs.look o.wq).port, (s.wqs.look o.wq).fn)
  else if o.master < 516 then some (o.master / 129, o.master % 129) else none

/-- A master's lock priority (R487). -/
def State.ownerPri (s : State) (o : Owner) : Nat :=
  if o.isQueue then (s.wqs.look o.wq).lockPrio
  else if o.master = 0xF000 then s.get F.LCK_MPRIO_SB
  else [s.get F.LCK_MPRIO_PF0, s.get F.LCK_MPRIO_PF1, s.get F.LCK_MPRIO_PF2, s.get F.LCK_MPRIO_PF3].getD (o.master / 129) 0

/-- BOOST of a queue follows the locks it holds (R494). -/
def State.boostSet (s : State) (o : Option Owner) : State :=
  match o with
  | some w =>
    if w.isQueue then { s with wqs := s.wqs.upd w.wq fun (q : Wq) => { q with boost := s.locks.vals.any fun l => l.boost && l.owner == some w } } else s
  | none => s

/-- Grants a lock: the abandoned mark and the records of polls clear (R488, R489). -/
def State.lockGrant (s : State) (n : Nat) (o : Owner) (run : Option Nat) : State :=
  { s with locks := s.locks.upd n fun l => { l with
      owner := some o, run := run, aband := false, resv := none, resvLeft := 0, waiting := false, waitPri := 0, cand := default
      notified := 0, boost := false } }

/-- Records a poll (R489). -/
def HLock.poll (l : HLock) (o : Owner) (pri : Nat) : HLock :=
  if l.waiting && decide (pri ≤ l.waitPri) then l else { l with waiting := true, waitPri := pri, cand := o }

/-- An access that asks for a lock (R488): answers whether it was granted marked abandoned, or else the master that keeps it. -/
def State.lockAsk (s : State) (n : Nat) (o : Owner) (run : Option Nat) : State × Option Bool × Nat :=
  let l := s.locks.look n
  let busy := fun (w : Owner) => ({ s with locks := s.locks.put n (l.poll o (s.ownerPri o)) }, none, w.master)
  match l.owner, l.resv with
  | some w, _ => if w = o then (s, none, w.master) else busy w
  | none, some w => if w = o then (s.lockGrant n o run, some l.aband, 0) else busy w
  | none, none => (s.lockGrant n o run, some l.aband, 0)

/-- The blocked LOCK operations on a lock, in arrival order. -/
def State.lockWaiters (s : State) (n : Nat) : List Nat :=
  (s.locks.look n).waiters.filter fun k => let o := s.ops.look k; o.live && o.opcode == 0x60 && o.fin.isNone

/-- One poll on behalf of a blocked LOCK (R155). -/
def State.lockTry (s : State) (n k : Nat) : State :=
  match s.lockAsk n (s.runOwner (k / 64)) (some (k / 64)) with
  | (s, some ab, _) => s.opDone k (if ab then stLockAband else stOk) 0 (some 0)
  | (s, none, _) => s

/-- Polls on behalf of every blocked LOCK on a lock. -/
def State.lockPolls (s : State) (n : Nat) : State :=
  let ks := s.lockWaiters n
  let s := ks.foldl (fun s k => s.lockTry n k) s
  { s with locks := s.locks.upd n fun l => { l with waiters := s.lockWaiters n } }

/-- A held lock is released, or freed as abandoned (R490, R491, R493): reserved for the candidate, or granted at once to a candidate that is a blocked
LOCK. -/
def State.lockFree (s : State) (n : Nat) (aband : Bool) : State :=
  let l := s.locks.look n
  match l.owner with
  | none => s
  | some w =>
    let s := if aband then s.bump F.LCK_COUNT_ABANDONS 1 else s
    let s := { s with locks := s.locks.put n { l with
      owner := none, run := none, aband := aband, notified := 0, boost := false
      resv := if l.waiting then some l.cand else none, resvLeft := if l.waiting then 2 else 0 } }
    (s.boostSet (some w)).lockPolls n

/-- Frees every lock of the owners that `p` names, and cancels their reservations (R491, R493). -/
def State.lockOwnersDie (s : State) (p : Owner → Bool) : State :=
  (s.locks.keys).foldl (fun s n =>
    let l := s.locks.look n
    let s := if (match l.owner with | some w => p w | none => false) then s.lockFree n true else s
    let l := s.locks.look n
    if (match l.resv with | some w => p w | none => false) then
      ({ s with locks := s.locks.put n { l with resv := none, resvLeft := 0 } }).lockPolls n
    else s) s

/-- A run has ended: with a status other than OK the locks it acquired are freed as abandoned, else they stay with its queue (R106). -/
def State.lockRunEnd (s : State) (ctx : Nat) (ok : Bool) : State :=
  (s.locks.keysOf fun l => l.run == some ctx).foldl (fun s n =>
    if ok then { s with locks := s.locks.upd n fun l => { l with run := none } } else s.lockFree n true) s

/-- A LOCK request of a run (R155, R156): the operation `k` completes or waits. -/
def State.lockOp (s : State) (k n : Nat) (try' : Bool) : State :=
  let me := s.runOwner (k / 64)
  match s.lockAsk n me (some (k / 64)) with
  | (s, some ab, _) => s.opDone k (if ab then stLockAband else stOk) 0 (some 0)
  | (s, none, m) =>
    if try' || (s.locks.look n).owner == some me then s.opDone k stLockBusy 0 (some (BitVec.ofNat 64 m))
    else { s with locks := s.locks.upd n fun l => { l with waiters := l.waiters ++ [k] } }

/-- The timeout of a LOCK (R155): one that waits with nothing left of its time completes TIMEOUT with the owner's master ID. -/
def State.lockTimeout (s : State) (ctx : Nat) : State :=
  (s.opsOf ctx).foldl (fun s k =>
    let o := s.ops.look k
    let l := s.locks.look o.arg
    if o.opcode = 0x60 && o.fin.isNone && o.due == 1 then
      s.opDone k stTimeout 0 (some (BitVec.ofNat 64 (match l.owner, l.resv with | some w, _ => w.master | none, some w => w.master | none, none => 0)))
    else s) s

/-- Who an origin is to the locks (R486): VFs and instructions reach no LCK register. -/
def originOwner : Origin → Option Owner
  | .pf0 p => some ⟨p * 129, 0⟩
  | .sideband => some sbOwner
  | _ => none

/-- LOCK_ACQUIRE_READ's operation (R488): the value read. -/
def State.lockRead (s : State) (o : Origin) (n : Nat) : State × Word :=
  match originOwner o with
  | none => (s, 0)
  | some w =>
    match s.lockAsk n w none with
    | (s, some ab, _) => (s, packW [(30, b2n ab)])
    | (s, none, m) => (s, packW [(31, 1), (29, b2n ((s.locks.look n).owner.isNone)), (0, m)])

/-- LOCK_RELEASE_WRITE's operation (R490). -/
def State.lockRelease (s : State) (o : Origin) (n : Nat) : State :=
  match originOwner o with
  | none => s
  | some w => if (s.locks.look n).owner = some w then s.lockFree n false else s.bump F.LCK_COUNT_REL_BAD 1

/-- LOCK_FORCE's operation (R493). -/
def State.lockForce (s : State) (o : Origin) (n : Nat) : State :=
  match o with
  | .pf0 p => if s.originAuth o then s.lockFree n true else s.flt 0x088 (packW [(0, n), (6, p)])
  | .sideband => s.lockFree n true
  | _ => s

/-- A reservation one period nearer its end (R491). -/
def State.lockAge (s : State) (n : Nat) : State :=
  let l := s.locks.look n
  if l.resv.isNone then s
  else if l.resvLeft ≤ 1 then { s with locks := s.locks.put n { l with resv := none, resvLeft := 0 } }
  else { s with locks := s.locks.put n { l with resvLeft := l.resvLeft - 1 } }

/-- Priority inheritance of one lock (R494). -/
def State.lockInherit (s : State) (n : Nat) : State :=
  let l := s.locks.look n
  match l.owner with
  | none => s
  | some w =>
    if l.waiting && decide (l.waitPri > s.ownerPri w) && decide (l.waitPri > l.notified) then
      let s := { s with locks := s.locks.put n { l with notified := l.waitPri, boost := w.isQueue } }
      let s := match s.ownerFn w with
        | some (p, f) => (s.msix p f 0).setReg (0x40610 + p * 8) (s.reg (0x40610 + p * 8) ||| BitVec.ofNat 64 (2 ^ n))
        | none => s
      s.boostSet (some w)
    else s

/-- Task 8 for one lock (R58, R491, R494). -/
def State.lockTask (s : State) (n : Nat) : State := ((s.lockAge n).lockPolls n).lockInherit n

/-- SUPERVISOR_LOCK_TICK's operation (R495): reservations age, and no notice is sent. -/
def State.lockSupTick (s : State) : State := (s.locks.keys).foldl (fun s n => (s.lockAge n).lockPolls n) s

/-- LCK_STATE_n (spec/18). -/
def State.lockState (s : State) (n : Nat) : Word :=
  let l := s.locks.look n
  let held := l.owner.isSome
  let w : Owner := match l.owner, l.resv with | some w, _ => w | none, some w => w | none, none => default
  packW [(63, b2n held), (62, b2n l.aband), (61, b2n l.resv.isSome), (60, b2n l.waiting), (57, l.waitPri),
    (54, if held then s.ownerPri w else 0), (51, l.notified), (50, b2n l.boost), (32, w.master), (16, w.wq)]

/-- LCK_CAND_n (spec/18). -/
def State.lockCand (s : State) (n : Nat) : Word := let l := s.locks.look n; packW [(16, l.cand.wq), (0, l.cand.master)]

end Sys2Proof.Machine
end

