-- ==== Sys2Proof/Machine/HostPort.lean ====
section
/-!
DEFINITION. Host ports and functions (spec/02, spec/15): link up and down, function resets (R29, R31), MSI-X and configuration writes (R36), TDISP and IDE
(R445 to R447), and requests that never complete (R559).
-/
namespace Sys2Proof.Machine

/-- A stream is secure. -/
def Ide.isSecure : Ide → Bool
  | .secure _ => true
  | _ => false

/-- Changes a host port. -/
def State.updHost (s : State) (p : Nat) (f : HostPort → HostPort) : State := { s with ports := s.ports.upd p f }

/-- DEV_MODE.FWD_ONLY: every host port is down or gated (R540). -/
def State.fwdOnly (s : State) : State :=
  s.put F.DEV_MODE_FWD_ONLY (b2n ((List.range 4).all fun p => !(s.ports.look p).up || s.pdHost p == 2))

/-- What a reset does to a function's own record: configuration bits and the MSI-X table return to their reset state, and a locked TDI enters ERROR. -/
def HostFn.cleared (h : HostFn) : HostFn :=
  { h with bme := false, msixEn := false, mse := false, unmasked := [], msixTab := [], pend := [], tdi := if h.tdi = .locked ∨ h.tdi = .run then .error else h.tdi }

/-- Resets the functions of a port that `p` names (R29, R31): queues, locks, MSI-X, groups with such members. -/
def State.fnsReset (s : State) (port : Nat) (p : Nat → Bool) (faults : Bool) : State :=
  let s := (s.fns.keys.filter fun k => k / 129 == port && p (k % 129)).foldl (fun s k => { s with fns := s.fns.upd k HostFn.cleared }) s
  let s := (s.grps.keysOf fun g => g.mems.any fun m => m.port == port && p m.fn).foldl (fun s g => s.grpBreak g 4 false none none) s
  let s := (s.wqs.keysOf fun w => w.port == port && p w.fn).foldl (fun s q => s.wqFnReset q faults) s
  s.lockOwnersDie fun o => match s.ownerFn o with | some (q, f) => q == port && p f | none => false

/-- Every function of a port is reset, and its IDE streams become Insecure (R29, R542). -/
def State.portReset (s : State) (port : Nat) (faults : Bool) : State :=
  let s := { s with ide := s.ide.map fun (e : Nat × Ide) => if e.1 / 256 = port && e.2.isSecure then (e.1, Ide.insecure) else e }
  let s := s.fnsReset port (fun _ => true) faults
  s.updHost port fun h => { h with numVf := 0, vfEn := false, vfMse := false }

/-- A host port's link goes down, or the port receives a hot reset, which takes its link down (R29). -/
def State.hostDown (s : State) (port : Nat) : State :=
  if !(s.ports.look port).up then s
  else
    let s := s.updHost port fun h => { h with up := false }
    ((s.setReg (0x10220 + port * 8) 0).portReset port false).fwdOnly

/-- HOST_LINK_UP's operation (R28): not while the port's domain is gated or waking, or the device is in Reset. -/
def State.hostUp (s : State) (port rate width : Nat) (flit : Bool) : State :=
  let pd := s.pdHost port
  if (s.ports.look port).up || s.mode = 0 || pd == 2 || pd == 3 then s
  else
    let low := decide (rate ≤ 3 ∨ width ≤ 2)
    ((s.updHost port fun h => { h with up := true }).setReg (0x10220 + port * 8)
      (packW [(7, b2n (flit || rate == 6)), (6, b2n low), (3, width), (0, rate)])).fwdOnly

/-- Sends the pending messages of vectors that may now be sent (R36). -/
def State.msixPend (s : State) (port fn : Nat) : State :=
  let h := s.fnOf port fn
  if h.msixEn && h.bme && (s.ports.look port).up && !s.sealed then
    (h.pend.filter h.unmasked.contains).foldl (fun s v => (s.updFn port fn fun h => { h with pend := h.pend.erase v }).out (.msix port fn v)) s
  else s

/-- MSIX_UNMASK's operation. -/
def State.msixUnmask (s : State) (port fn vec : Nat) : State :=
  (s.updFn port fn fun h => { h with unmasked := if h.unmasked.contains vec then h.unmasked else vec :: h.unmasked }).msixPend port fn

/-- VF Enable clears: every VF of the port is reset (R31). -/
def State.vfClear (s : State) (port : Nat) : State :=
  ((s.updHost port fun h => { h with vfEn := false }).put (F.DEV_HOSTPORT_NUMVF port) 0).fnsReset port (fun f => f != 0) false

/-- CONFIGURATION_WRITE's operation. NumVFs changes only while VF Enable is clear. -/
def State.cfgWrite (s : State) : CfgWrite → State
  | .busMaster port fn on => (s.updFn port fn fun h => { h with bme := on }).msixPend port fn
  | .msixEnable port fn on => (s.updFn port fn fun h => { h with msixEn := on }).msixPend port fn
  | .memSpace port fn on => s.updFn port fn fun h => { h with mse := on }
  | .vecMask port fn vec => s.updFn port fn fun h => { h with unmasked := h.unmasked.erase vec }
  | .numVfs port n => if (s.ports.look port).vfEn then s else s.updHost port fun h => { h with numVf := min n 128 }
  | .vfEnable port on =>
    if on then
      let s := s.updHost port fun h => { h with vfEn := true }
      s.put (F.DEV_HOSTPORT_NUMVF port) (s.ports.look port).numVf
    else if (s.ports.look port).vfEn then s.vfClear port else s
  | .vfMemSpace port on => s.updHost port fun h => { h with vfMse := on }
  | .barBase port ranges => s.updHost port fun h => { h with bars := ranges }

/-! ### TDISP and IDE -/

/-- What a lock of a TDI binds has changed: the TDI enters ERROR and its VF is reset (R447). -/
def State.tdiTouch (s : State) (port fn : Nat) : State :=
  let h := s.fnOf port fn
  if fn ≠ 0 ∧ (h.tdi = .locked ∨ h.tdi = .run) then (s.updFn port fn fun h => { h with tdi := .error }).fnsReset port (· == fn) false else s

/-- An IDE stream becomes Insecure: every TDI bound to it enters ERROR (R445). -/
def State.ideBad (s : State) (port stream : Nat) : State :=
  if s.ide.look (port * 256 + stream) = .none then s
  else
    let s := { s with ide := s.ide.put (port * 256 + stream) .insecure }
    { s with fns := s.fns.map fun e => if e.1 / 129 = port ∧ e.2.stream = some stream ∧ (e.2.tdi = .locked ∨ e.2.tdi = .run)
      then (e.1, { e.2 with tdi := .error }) else e }

/-- IDE_KM's operation: a key set of one of at most eight streams of a port is set up, in a session on that port (R445). -/
def State.ideKm (s : State) (port stream : Nat) (keySet : Bool) : State :=
  let known := s.ide.look (port * 256 + stream) != .none
  let used := (s.ide.filter fun e => e.1 / 256 == port && e.2 != .none).length
  let session := s.sess.vals.any fun x => x.live && x.ready && x.via == port
  if s.sealed || !session || (!known && decide (used ≥ 8)) then s
  else { s with ide := s.ide.put (port * 256 + stream) (.secure keySet) }

/-- LOCK_INTERFACE_REQUEST's operation (R446, R447): TDISP must be enabled and the stream secure. -/
def State.tdiLock (s : State) (port vf stream : Nat) : State :=
  let h := s.fnOf port vf
  if s.flag F.SEC_POLICY_TDISP_EN && !s.sealed && h.tdi = .unlocked && (s.ide.look (port * 256 + stream)).isSecure
  then s.updFn port vf fun h => { h with tdi := .locked, stream := some stream } else s

/-- START_INTERFACE_REQUEST's operation. -/
def State.tdiStart (s : State) (port vf : Nat) : State :=
  let h := s.fnOf port vf
  if h.tdi = .locked && !s.sealed && (match h.stream with | some n => (s.ide.look (port * 256 + n)).isSecure | none => false)
  then s.updFn port vf fun h => { h with tdi := .run } else s

/-- STOP_INTERFACE_REQUEST's operation. -/
def State.tdiStop (s : State) (port vf : Nat) : State := s.updFn port vf fun h => { h with tdi := .unlocked, stream := none }

/-! ### Requests without a completion -/

/-- COMPLETION_TIMEOUT's operation: the request fails as a bus error for its engine (R559). -/
def State.reqTimeout (s : State) (id : Nat) : State :=
  if id ≥ 2 ^ 60 then
    let l := id - 2 ^ 60
    if !(s.lines.look l).granted then s else if (s.lines.look l).atomicOp then s.amoNative l .busErr else s.amoRead l .busErr
  else if id ≥ 2 ^ 59 then s.ktabReturn (id - 2 ^ 59) .busErr
  else if (s.accs.look id).st = .issued then s.accEnd id .busErr
  else if (s.walks.look id).live then (if (s.walks.look id).leaf.isSome then s.casReturn id .busErr else s.walkReturn id .busErr)
  else s

end Sys2Proof.Machine
end

