-- ==== Sys2Proof/Machine/Manifest.lean ====
section
/-!
DEFINITION. The Manifest (R41 to R43): header and entries as 64-bit words by BAR0 offset.
-/
namespace Sys2Proof.Machine

/-- An entry of the Manifest: BLOCK_ID, the prefix's ASCII bytes as a number, base, size, instances, stride. -/
structure ManEntry where
  id : Nat
  pre : Nat
  base : Nat
  size : Nat
  inst : Nat
  stride : Nat
deriving DecidableEq, Repr, Inhabited

/-- The entries of R43 in their order. -/
def manEntries : List ManEntry := [
  ⟨0x0001, 0x494E414D, 0x0, 0x10000, 1, 0x0⟩ /- MANI -/,
  ⟨0x0002, 0x564544, 0x10000, 0x10000, 1, 0x0⟩ /- DEV -/,
  ⟨0x0003, 0x4B4C43, 0x20000, 0x8000, 1, 0x0⟩ /- CLK -/,
  ⟨0x0004, 0x475453, 0x28000, 0x8000, 1, 0x0⟩ /- STG -/,
  ⟨0x0005, 0x544C46, 0x30000, 0x10000, 1, 0x0⟩ /- FLT -/,
  ⟨0x0006, 0x4B434C, 0x40000, 0x1000, 1, 0x0⟩ /- LCK -/,
  ⟨0x0007, 0x4C4554, 0x50000, 0x10000, 1, 0x0⟩ /- TEL -/,
  ⟨0x0008, 0x434553, 0x60000, 0x10000, 1, 0x0⟩ /- SEC -/,
  ⟨0x0009, 0x575043, 0x80000, 0x10000, 1, 0x0⟩ /- CPW -/,
  ⟨0x000A, 0x455551, 0x100000, 0x100000, 1, 0x0⟩ /- QUE -/,
  ⟨0x000B, 0x514553, 0x200000, 0x100000, 1, 0x0⟩ /- SEQ -/,
  ⟨0x000C, 0x554D4D, 0x300000, 0x100000, 1, 0x0⟩ /- MMU -/,
  ⟨0x000D, 0x54414D, 0x400000, 0x100000, 1, 0x0⟩ /- MAT -/,
  ⟨0x000E, 0x414D52, 0x500000, 0x80000, 1, 0x0⟩ /- RMA -/,
  ⟨0x000F, 0x4B4C42, 0x580000, 0x80000, 1, 0x0⟩ /- BLK -/,
  ⟨0x0010, 0x4C4F43, 0x600000, 0x100000, 1, 0x0⟩ /- COL -/,
  ⟨0x0011, 0x525057, 0x700000, 0x80000, 1, 0x0⟩ /- WPR -/,
  ⟨0x0012, 0x4C4F54, 0x780000, 0x80000, 1, 0x0⟩ /- TOL -/,
  ⟨0x0013, 0x505452, 0x1000000, 0x10000, 64, 0x10000⟩ /- RTP -/,
  ⟨0x0014, 0x435452, 0x1400000, 0x400000, 1, 0x0⟩ /- RTC -/,
  ⟨0x0015, 0x4E414C, 0x2000000, 0x4000, 256, 0x4000⟩ /- LAN -/,
  ⟨0x0016, 0x444F4D, 0x2400000, 0x1000, 32, 0x1000⟩ /- MOD -/]

/-- The four words of an entry; FLAGS bit 0 tells that the block repeats. -/
def ManEntry.words (e : ManEntry) : List Word :=
  [packW [(0, e.id), (16, 1), (24, b2n (e.inst > 1)), (32, e.pre)], BitVec.ofNat 64 e.base, BitVec.ofNat 64 e.size, packW [(0, e.inst), (32, e.stride)]]

/-- Header bytes 0x00 to 0x3F (R41). -/
def manHead : List Word :=
  [packW [(0, 0x4D5A5653), (32, 1), (48, 128)], packW [(0, 22), (16, 32), (32, 0x5120)], packW [(0, 0xB0), (8, 4), (16, 64), (32, 0x4000000)],
   packW [(0, 12), (16, 16), (32, 65536)], packW [(0, 16384), (32, 65536)], packW [(0, 128), (16, 4096)], 0, 0]

/-- DIGEST: SHA-384 over manHead and the entries, worked out by hand from R41 (notes/assumptions/6), its first byte in the lowest byte of the first word. -/
def manDigest : List Word := [0x159478324EDDBDA7, 0xF7C8423766F865B5, 0x75C945A565314C65, 0xCF0156073C147ED9, 0x0F8474BD852C4A2D, 0x05F57D5C4A499E79]

/-- The words from offset 0. -/
def manWords : List Word := manHead ++ manDigest ++ [0, 0] ++ manEntries.flatMap ManEntry.words

/-- The word at an offset; past the last entry it reads zero. -/
def manWord (off : Nat) : Word := manWords.getD (off / 8) 0

end Sys2Proof.Machine
end

