-- ==== Sys2Proof/Machine/Tenancy.lean ====
section
/-!
DEFINITION. Tenancy and trust (spec/15): domains and their keys, context flushes, the usage ledger, the fabric manager key, management messages,
the SPDM responder and its sessions.
-/
namespace Sys2Proof.Machine

/-! ### Domains (R435) -/

/-- A domain's state; D0000 is always active. -/
def State.domSt (s : State) (d : Nat) : DomSt :=
  let st := (s.doms.look d).st
  if d = 0 ∧ st = .inactive then .active else st

/-- A domain is active. -/
def State.domLive (s : State) (d : Nat) : Bool := s.domSt d != .inactive

/-- SEC_STATUS.KEYED and the domains of the period in progress follow the domains' states. -/
def State.domShow (s : State) : State :=
  let s := s.put F.SEC_STATUS_KEYED (s.doms.count fun d => d.st == .keyed)
  { s with ledDoms := (s.doms.keysOf fun d => d.st != .inactive).foldl (fun l d => if l.contains d then l else insRank id d l) s.ledDoms }

/-- Changes a domain. -/
def State.updDom (s : State) (d : Nat) (f : Dom → Dom) : State := ({ s with doms := s.doms.upd d f }).domShow

/-- The operation has a packet that may still have to be sent (R438). -/
def State.stillSends (s : State) (k : Nat) : Bool :=
  let o := s.ops.look k
  o.live && o.fin.isNone && o.eng == .bulk && o.pair.isSome && (!o.allFormed || (s.ptx.look o.src.1).pkts.any fun x => x.op == k && s.txOpen x)

/-- A domain loses its keys (R438): operations that still send complete AUTH_FAIL. -/
def State.domUnsent (s : State) (d : Nat) : State :=
  ((s.ops.keysOf fun o => o.live).filter fun k => (s.runs.look (k / 64)).dom == d && s.stillSends k).foldl
    (fun s k => (s.opCut k).txFail (s.ops.look k).src.1 k stAuth) s

/-- Groups and convoys of a domain break with cause DOMAIN (R332, R370). -/
def State.domBreak (s : State) (d : Nat) : State :=
  let s := (s.grps.keysOf fun g => g.dom == d).foldl (fun s g => s.grpBreak g 7 false none none) s
  s.cvyBreakAll (fun c => c.dom == d && (c.role == 0 || c.role == 2)) 4

/-- A domain's keys go: through REMOVE it becomes ACTIVE. -/
def State.domUnkey (s : State) (d : Nat) : State :=
  if s.domSt d != .keyed then s
  else
    let s := s.updDom d fun x => { x with cur := none, alt := none, st := if d = 0 then .inactive else .active }
    (s.domUnsent d).domBreak d

/-- DOMAIN ACTIVATE (R161): its status. -/
def State.domActivate (s : State) (d : Nat) : State × Nat :=
  if d = 0 then (s, stRights)
  else if s.domLive d then (s, stOk)
  else if (s.doms.filter fun e => e.1 != 0 && e.2.st != .inactive).length + 1 ≥ 4096 then (s, stNoRes)
  else (s.updDom d fun x => { x with st := .active }, stOk)

/-- DOMAIN BIND_FUNC (R161): PF0 stays in D0000 (R561). -/
def State.bindFunc (s : State) (d port fn : Nat) : State × Nat :=
  if 129 ≤ fn then (s, stBounds)
  else if !s.domLive d then (s, stNoRes)
  else if fn = 0 ∨ (s.fnOf port fn).dom = some d then (s, stOk)
  else ((s.updFn port fn fun h => { h with dom := some d }).tdiTouch port fn, stOk)

/-- DOMAIN BIND_PASID (R208). -/
def State.bindPasid (s : State) (d p : Nat) : State × Nat :=
  let a := s.pas.look p
  if a.st = .active && a.dom.isNone && s.domLive d && s.fnDom a.port a.fn == some d then
    ({ s with pas := s.pas.put p { a with dom := some d } }, stOk)
  else (s, stNoRes)

/-- DOMAIN BIND_CTR (R161, R203). -/
def State.bindCtr (s : State) (d first n : Nat) : State × Nat :=
  if !s.domLive d || decide (first + n - 1 > 65535) || s.ctrs.any (fun e => decide (first ≤ e.1 ∧ e.1 < first + n) && e.2.dom.isSome && e.2.dom != some d) then (s, stNoRes)
  else ((List.range n).foldl (fun s i => s.ctrPut (first + i) ⟨0, some d⟩) s, stOk)

/-! ### Flushes (R161) -/

/-- CTXFLUSH QUEUE: a STOPPED queue's cached configuration goes. -/
def State.flushQueue (s : State) (q : Nat) : State × Nat :=
  let w := s.wqs.look q
  if w.st != .stopped then (s, stNoRes)
  else ({ s with wqs := s.wqs.put q { (default : Wq) with
      st := w.st, qcb := w.qcb, pasid := w.pasid, port := w.port, fn := w.fn, c := w.c, prod := w.prod, err := w.err, boost := w.boost, sched := w.sched, rang := w.rang } }, stOk)

/-- CTXFLUSH MATCH: the on-chip members move to the heads of the spill rings, as far as the rings have room. -/
def State.flushMatch (s : State) (ctx : Nat) : State :=
  let c := s.mctx.look ctx
  if c.st != .enabled then s
  else
    let np := min c.posted.length (c.ringSize - c.postedSpill.length)
    let nu := min c.unexp.length (c.ringSize - c.unexpSpill.length)
    let ps := c.posted.drop (c.posted.length - np)
    let us := c.unexp.drop (c.unexp.length - nu)
    let c' := { c with
      posted := c.posted.take (c.posted.length - np), unexp := c.unexp.take (c.unexp.length - nu)
      postedSpill := ps.map some ++ c.postedSpill, unexpSpill := us.map some ++ c.unexpSpill
      pheads := (c.pheads + c.ringSize - np) % c.ringSize, uheads := (c.uheads + c.ringSize - nu) % c.ringSize }
    let s := { s with mctx := s.mctx.put ctx c' }
    let s := (List.range np).foldl (fun s i => match ps[i]? with | some r => s.spillWrite ctx (c'.recAt false (c'.pheads + i)) (postedRec s ctx r) | none => s) s
    (List.range nu).foldl (fun s i => match us[i]? with | some u => s.spillWrite ctx (c'.recAt true (c'.uheads + i)) (unexpRec u) | none => s) s

/-- A retained speculation is lost: it ends as a misprediction, and its packets stay unacknowledged and are re-sent (R264, R525). -/
def State.retainLost (s : State) (k : Nat) : State :=
  let m := s.msgs.look k
  let s := (s.mispredict k).msgDrop k
  (s.updRx m.pair fun r => { r with taken := 0 }).rxDrop m.pair

/-- CTXFLUSH DOMAIN: every on-chip object of the domain. -/
def State.flushDomain (s : State) (d : Nat) : State :=
  let mine := fun (p : Nat) => (s.pas.look p).dom == some d
  let s := { s with
    kcache := s.kcache.filter fun e => e.2.dom != d
    pcache := s.pcache.filter fun l => !mine l.1
    preds := s.preds.filter fun e => (s.mctx.look e.2.ctx).dom != d }
  let s := s.tlbDrop fun t => mine t.pasid
  (s.msgs.keysOf fun m => m.live && m.dom == d && m.st == .speculating).foldl (fun s k => s.retainLost k) s

/-! ### The usage ledger (R448 to R451) -/

/-- Task 10 for one domain: its counts move into the ledger. -/
def State.ledMove (s : State) (d : Nat) : State :=
  { s with doms := s.doms.upd d fun x => { x with acc := [], led := x.acc.foldl (fun l e => l.upd e.1 (· + e.2)) x.led } }

/-- The records of a ring, as a power of two. -/
def State.ledLog2 (s : State) : Nat := max 6 (min (s.get F.SEC_LEDGER_CTRL_LOG2) 20)

/-- The billing period in force. -/
def State.ledPeriod (s : State) : Nat := s.atLeast F.SEC_LEDGER_CTRL_PERIOD_STAGES 1024

/-- Room in the ledger ring, in records. -/
def State.ledRoom (s : State) : Nat := 2 ^ s.ledLog2 - fwd 32 (s.get F.SEC_LEDGER_IDX_CONSUMER) (s.get F.SEC_LEDGER_IDX_PRODUCER)

/-- Bytes of a ledger record (R450). -/
def State.ledRecord (s : State) (d last : Nat) (final : Bool) : List Byte :=
  let x := s.doms.look d
  let n := fun i => x.led.look i + (if final then x.acc.look i else 0)
  let body := wordBytes [packW [(0, 0x4C5A5653), (32, 1), (48, 256)], packW [(0, s.self), (16, s.inc), (32, d), (48, b2n final), (49, b2n s.ledMerged)],
    BitVec.ofNat 64 s.ledSeq, packW [(0, s.ledStart)], packW [(0, last)]] ++ wordBytes ((List.range 7).map fun i => BitVec.ofNat 64 (n i)) ++ List.replicate 48 0
  body ++ (Config.deviceSign body).take 96 ++ List.replicate 16 0

/-- Writes one record at the producer (R451). -/
def State.ledWrite (s : State) (d last : Nat) (final : Bool) : State :=
  let prod := s.get F.SEC_LEDGER_IDX_PRODUCER
  let base := s.get F.SEC_LEDGER_BASE_BASE * 4096 + prod % 2 ^ s.ledLog2 * 256
  let bs := s.ledRecord d last final
  let s := s.out (.hostWrite (s.get F.SEC_LEDGER_BASE_PORT) 0 [(base, 256)] bs)
  let s := (s.put F.SEC_LEDGER_IDX_PRODUCER ((prod + 1) % 2 ^ 32))
  { s with ledSeq := s.ledSeq + 1, doms := s.doms.upd d fun x => { x with led := [], acc := if final then [] else x.acc } }

/-- A record can be written: EN, a live port, an identity that signs. -/
def State.ledOk (s : State) (n : Nat) : Bool := s.flag F.SEC_LEDGER_CTRL_EN && decide (n ≤ s.ledRoom)

/-- The ring's writes reach the host. -/
def State.ledPort (s : State) : Bool := let p := s.get F.SEC_LEDGER_BASE_PORT; s.portUp p && (s.fnOf p 0).bme

/-- A record write failed (R451). -/
def State.ledBus (s : State) : State := ((s.flt 0x087 0).put F.SEC_LEDGER_CTRL_EN 0).put F.SEC_LEDGER_CTRL_STATE 0

/-- BILLING_PERIOD_CLOSE's operation: the records of the period that a boundary closed, in ascending domain order; D0000 is always active. -/
def State.ledClose (s : State) (writesOk : Bool) : State :=
  match s.ledDue with
  | none => s
  | some n =>
    let s := { s with ledDue := none }
    let ds := if s.ledDoms.contains 0 then s.ledDoms else 0 :: s.ledDoms
    if !s.ledOk ds.length then { s with ledMerged := true }
    else if !writesOk || !s.ledPort then { s.ledBus with ledMerged := true }
    else
      let s := ds.foldl (fun s d => s.ledWrite d (n - 1) false) s
      { s with ledStart := n, ledMerged := false, ledDoms := s.doms.keysOf fun d => d.st != .inactive }

/-- RETIRE's final record (R449). Counts that cannot be written wait for the next period that is written. -/
def State.ledFinal (s : State) (d : Nat) : State :=
  if !s.ledOk 1 then s
  else if !s.ledPort then s.ledBus
  else { s.ledWrite d s.now true with ledDoms := s.ledDoms.erase d }

/-- DOMAIN RETIRE (R161, R435). -/
def State.domRetire (s : State) (d : Nat) : State × Nat :=
  if d = 0 then (s, stRights)
  else if !s.domLive d then (s, stNoRes)
  else
    let keyed := s.domSt d == .keyed
    let s := s.updDom d fun x => { x with cur := none, alt := none, st := .active }
    let s := if keyed then s.domUnsent d else s
    let s := (s.domBreak d).flushDomain d
    let s := s.ledFinal d
    let s := s.updDom d fun x => { x with st := .inactive, authFails := 0 }
    let fs := s.fns.keysOf fun h => h.dom == some d
    let s := { s with fns := fs.foldl (fun t k => t.upd k fun (h : HostFn) => { h with dom := none }) s.fns, pas := s.pas.mapAll fun p => if p.dom = some d then { p with dom := none } else p }
    let s := fs.foldl (fun s k => s.tdiTouch (k / 129) (k % 129)) s
    let s := (s.ctrs.keysOf fun c => c.dom == some d).foldl (fun s c => s.ctrPut c default) s
    (s, stOk)

/-! ### Key operations (R436, R437) -/

/-- A fingerprint: the first 16 B of the hash, as two words. -/
def keyPrint (d : Nat) : Option Key → List Word
  | none => [0, 0]
  | some k => (Config.sha384 ([0x53, 0x56, 0x5A, 0x2D, 0x44, 0x4B] ++ leBytes d 2 ++ leBytes k.toNat 32)).take 2

/-- The proof of R437 under the current key. -/
def State.keyProof (s : State) (op d : Nat) (cur : Key) (fp : List Word) : BitVec 128 :=
  Config.cmac cur (leBytes op 1 ++ leBytes d 2 ++ leBytes s.self 2 ++ leBytes s.inc 2 ++ wordBytes fp)

/-- Results of a key operation (R437). -/
abbrev koOk : Nat := 0
abbrev koNotActive : Nat := 1
abbrev koOccupied : Nat := 2
abbrev koBadProof : Nat := 3
abbrev koNoAlt : Nat := 4
abbrev koPolicy : Nat := 6

/-- A state code of a domain (SEC_DOMAIN_INFO). -/
def DomSt.code : DomSt → Nat
  | .inactive => 0 | .active => 1 | .keyed => 2

/-! ### The SPDM responder (R428 to R430, R454) -/

/-- The number of a transport: host ports 0 to 3, the sideband 4, the fabric 5. -/
def viaCode : Transport → Nat
  | .pcie p => p | .sideband => 4 | .fabric _ _ => 5

/-- A transport can carry a request and its response. -/
def State.spdmUp (s : State) (t : Transport) : Bool :=
  s.mode != 0 && match t with
    | .pcie p => (s.ports.look p).up
    | .sideband => true
    | .fabric _ _ => !s.sealed && !s.halted

/-- Sends a response. -/
def State.spdmSay (s : State) (t : Transport) (code : Nat) (body : List Byte) : State := s.out (.spdm t code body)

/-- Sends a response whose body the DMTF specification gives: an unstated body. -/
def State.spdmOpen (s : State) (t : Transport) (code : Nat) : State :=
  { s.spdmSay t code (Config.spdmBody code s.freeCtr) with freeCtr := s.freeCtr + 1 }

/-- ERROR with a code that the spec names, and ERROR whose code it leaves open. -/
def State.spdmErr (s : State) (t : Transport) (code : Nat) : State := s.spdmSay t 0x7F [BitVec.ofNat 8 code]
def State.spdmRefuse (s : State) (t : Transport) : State := s.spdmOpen t 0x7F

/-- ERROR UnsupportedRequest and SessionLimitExceeded (R429). -/
abbrev spdmUnsupported : Nat := 0x07
abbrev spdmLimit : Nat := 0x0A

/-- A request on a transport that carries nothing is lost. -/
def State.onSpdm (s : State) (t : Transport) (k : State → State) : State := if s.spdmUp t then k s else s

/-- A request without a session and without a signature. -/
def State.spdmPlain (s : State) (t : Transport) (code : Nat) : State := s.onSpdm t fun s => s.spdmOpen t code

/-- A request that needs a signature (R427). -/
def State.spdmSigned (s : State) (t : Transport) (code : Nat) : State :=
  s.onSpdm t fun s => if s.flag F.SEC_STATUS_IDENTITY_OK then s.spdmOpen t code else s.spdmRefuse t

/-- The content of a measurement (R430). -/
def State.measure (s : State) (i : Nat) : Option (List Byte) :=
  if i = 1 then some (leBytes 0x5120 4 ++ leBytes 0xB0 1)
  else if i = 2 then some (wordBytes (Config.sha384 Config.fuses))
  else if i = 3 then some (wordBytes manDigest)
  else if i = 4 then some (wordBytes [s.reg 0x60008] ++ leBytes (s.get F.DEV_AUTH_STRAP) 1)
  else if i = 5 then some (wordBytes [s.reg 0x10000] ++ leBytes (b2n s.sealed) 1 ++ leBytes (s.get F.SEC_STATUS_SEAL_CAUSE) 1)
  else if i = 6 then some (leBytes s.self 2 ++ leBytes s.inc 2 ++ (if s.fmKey.isEmpty then List.replicate 48 0 else wordBytes (Config.sha384 (wordBytes s.fmKey))))
  else none

/-- GET_MEASUREMENTS's operation; another index than R430's has no measurement. -/
def State.spdmMeasure (s : State) (t : Transport) (i : Nat) : State :=
  s.onSpdm t fun s =>
    if !s.flag F.SEC_STATUS_IDENTITY_OK then s.spdmRefuse t
    else match s.measure i with
      | some bs => s.spdmSay t 0x60 (bs ++ Config.deviceSign bs)
      | none => s.spdmRefuse t

/-- SEC_STATUS.SESSIONS follows the sessions. -/
def State.sessShow (s : State) : State := s.put F.SEC_STATUS_SESSIONS (s.sess.count (·.live))

/-- KEY_EXCHANGE's operation: at most 32 sessions (R429), none without an identity (R427) or once sealed (R454). -/
def State.spdmKex (s : State) (t : Transport) : State :=
  s.onSpdm t fun s =>
    if !s.flag F.SEC_STATUS_IDENTITY_OK || s.sealed then s.spdmRefuse t
    else match (List.range 32).find? fun i => !(s.sess.look (i + 1)).live with
      | none => s.spdmErr t spdmLimit
      | some i => (({ s with sess := s.sess.put (i + 1) ⟨true, (viaCode t), false⟩ }).sessShow).spdmOpen t 0x64

/-- A request inside a session: one that has ended is answered with ERROR (R453). -/
def State.inSess (s : State) (t : Transport) (n : Nat) (ready : Bool) (k : State → State) : State :=
  s.onSpdm t fun s =>
    let x := s.sess.look n
    if x.live && x.via == (viaCode t) && x.ready == ready && s.flag F.SEC_STATUS_IDENTITY_OK then k s else s.spdmRefuse t

/-- Ends a session. -/
def State.sessEnd (s : State) (n : Nat) : State := ({ s with sess := s.sess.del n }).sessShow

/-- FINISH's operation. -/
def State.spdmFinish (s : State) (t : Transport) (n : Nat) (macOk : Bool) : State :=
  s.inSess t n false fun s =>
    if macOk then ({ s with sess := s.sess.upd n fun x => { x with ready := true } }).spdmOpen t 0x65 else (s.sessEnd n).spdmRefuse t

/-- END_SESSION's operation. -/
def State.spdmEnd (s : State) (t : Transport) (n : Nat) : State := s.inSess t n true fun s => (s.spdmOpen t 0x6C).sessEnd n

/-- HEARTBEAT's and KEY_UPDATE's operation. -/
def State.spdmAck (s : State) (t : Transport) (n code : Nat) : State := s.inSess t n true fun s => s.spdmOpen t code

/-- A key operation in a session: policy, then its own checks (R437), its effect `k` with a RESULT, and the response (R436). -/
def State.keyOp (s : State) (t : Transport) (n op d : Nat) (k : State → State × Nat) : State :=
  s.inSess t n true fun s =>
    let policy := ((viaCode t) == 4 && !s.flag F.SEC_POLICY_SB_KEYS) || (op == 1 && d == 0 && s.flag F.DEV_MODE_COMMITTED)
    let (s, res) := if policy then (s, koPolicy) else k s
    let x := s.doms.look d
    s.spdmSay t 0x7E (leBytes op 1 ++ leBytes d 2 ++ leBytes res 1 ++ leBytes (s.domSt d).code 1 ++ wordBytes (keyPrint d x.cur) ++ wordBytes (keyPrint d x.alt))

/-- INSTALL, STAGE, SWITCH, DROP_ALT, REMOVE (R437). -/
def State.keyInstall (s : State) (d : Nat) (key : Key) : State × Nat :=
  if !s.domLive d then (s, koNotActive)
  else if s.domSt d == .keyed then (s, koOccupied)
  else (s.updDom d fun x => { x with cur := some key, alt := none, st := .keyed }, koOk)

def State.proved (s : State) (op d : Nat) (fp : List Word) (proof : BitVec 128) : Bool :=
  match (s.doms.look d).cur with
  | some cur => s.keyProof op d cur fp == proof
  | none => false

def State.keyStage (s : State) (d : Nat) (key : Key) (proof : BitVec 128) : State × Nat :=
  if s.proved 2 d (keyPrint d (some key)) proof then (s.updDom d fun x => { x with alt := some key }, koOk) else (s, koBadProof)

def State.keySwitch (s : State) (d : Nat) (proof : BitVec 128) : State × Nat :=
  if (s.doms.look d).alt.isNone then (s, koNoAlt)
  else if s.proved 3 d [0, 0] proof then (s.updDom d fun x => { x with cur := x.alt, alt := x.cur }, koOk) else (s, koBadProof)

def State.keyDrop (s : State) (d : Nat) (proof : BitVec 128) : State × Nat :=
  if (s.doms.look d).alt.isNone then (s, koNoAlt)
  else if s.proved 4 d [0, 0] proof then (s.updDom d fun x => { x with alt := none }, koOk) else (s, koBadProof)

def State.keyRemove (s : State) (d : Nat) (proof : BitVec 128) : State × Nat :=
  if s.proved 5 d [0, 0] proof then (s.domUnkey d, koOk) else (s, koBadProof)

/-! ### The fabric manager key (R40) -/

/-- The prime and the constant of P-384. -/
def p384 : Nat := 2 ^ 384 - 2 ^ 128 - 2 ^ 96 + 2 ^ 32 - 1
def p384b : Nat := 0xb3312fa7e23ee7e4988e056be3f82d19181d9c6efe8141120314088f5013875ac656398d8a2ed19d2a85c8edd3ec2aef

/-- A coordinate of six words, the first byte in bits [63:56] of the lowest word. -/
def coord (ws : List Word) : Nat := ws.foldl (fun n w => n * 2 ^ 64 + w.toNat) 0

/-- The words hold a point of the curve y² = x³ − 3x + b. -/
def p384Point (ws : List Word) : Bool :=
  let x := coord (ws.take 6)
  let y := coord (ws.drop 6)
  decide (x < p384 ∧ y < p384) && y * y % p384 == (x * x % p384 * x + (p384 - 3) * x + p384b) % p384

/-- FM_KEY_REGISTER's operation: from the sideband or a PF0 that holds authority, until the key is locked. A check that fails leaves no key. -/
def State.fmRegister (s : State) (o : Origin) : State :=
  if s.flag F.SEC_STATUS_FMKEY_LOCKED || !s.originAuth o || s.sealed then s
  else
    let ws := (List.range 12).map fun k => s.reg (0x60020 + 8 * k)
    let ok := p384Point ws
    let s := { s with fmKey := if ok then ws else [] }
    ((s.put F.SEC_FM_KEY_CTRL_VALID (b2n ok)).put F.SEC_FM_KEY_CTRL_INVALID (b2n !ok)).put F.SEC_STATUS_FMKEY_VALID (b2n ok)

/-! ### Management messages (R431 to R434) -/

/-- A management message that the device's receive store may take (R386, R403). -/
def State.mgmtFresh (s : State) (m : Mgmt) : Bool := m.crcOk && decide (s.age m.birth ≤ s.lifetime)

/-- A message that fails its checks (R39, R432). -/
def State.mgmtFail (s : State) (why : Nat) : State := s.flt 0x047 (BitVec.ofNat 64 why)

/-- WQ4_PROGRAM's operation (R39, R119, R432). -/
def State.wq4 (s : State) (m : Mgmt) : State :=
  if !s.mgmtFresh m || s.mode = 0 || s.halted || s.sealed || m.kind != 1 then s
  else match s.freeContext with
    | none => s
    | some ctx =>
      let words := m.prog.length + m.param.length
      if !m.formatOk || m.prog.isEmpty || decide (words > 496) || decide (m.param.length > 495) then s.mgmtFail 3
      else if m.target ≠ s.self ∨ m.targetInc ≠ s.inc then s.mgmtFail 2
      else if !m.sigOk || s.fmKey.isEmpty then s.mgmtFail 0
      else if m.seq ≤ s.get F.DEV_AUTH_SEQ_SEQ then s.mgmtFail 1
      else
        let s := (s.put F.DEV_AUTH_SEQ_SEQ m.seq).put F.DEV_AUTH_FM_SEQ (m.seq / 4)
        s.startRun ctx { (default : Run) with wq := 4, dom := 0, prog := .message m.prog, params := .msg m.param, limit := s.stepLimit 4 }

/-- Sends a management message of the device's own toward a router. -/
def State.mgmtSend (s : State) (m : Mgmt) : State := if s.quiet then s else s.toRouter 4 (.mgmt m)

/-- MGMT_FORWARD's operation (R433): an SPDM message whose TARGET is another router goes on; a full receive store discards (R354). -/
def State.mgmtForward (s : State) (m : Mgmt) (full : Bool) : State :=
  if !s.mgmtFresh m || full || !m.formatOk || !(m.kind == 2 || m.kind == 3) || m.target == s.self then s
  else s.toRouter 4 (.mgmt { m with dstRouter := m.target })

/-- SPDM_FABRIC_REQUEST's operation (R433): the answer goes to ORIGIN with the same MTAG. -/
def State.spdmFabric (s : State) (m : Mgmt) (answer : List Byte) : State :=
  if !s.mgmtFresh m || !m.formatOk || m.kind != 2 || m.target != s.self || s.sealed || s.mode = 0 then s
  else s.mgmtSend ⟨m.origin, s.now % 4096, 3, m.origin, 0, m.origin, m.mtag, 0, [], [], answer, false, true, true⟩

/-- Bytes of a window of BAR0. -/
def State.window (s : State) (off n : Nat) : List Byte := (wordBytes ((List.range ((n + 7) / 8)).map fun i => s.reg (off + 8 * i))).take n

/-- Puts bytes into a window, the rest of its last word zero. -/
def State.fillWindow (s : State) (off : Nat) (bs : List Byte) : State :=
  (List.range ((bs.length + 7) / 8)).foldl (fun s i => s.setReg (off + 8 * i) (BitVec.ofNat 64 (ofBytes ((bs.drop (8 * i)).take 8)))) s

/-- SPDM_FABRIC_RESPONSE's operation (R434): the awaited tag only. -/
def State.mbxAnswer (s : State) (m : Mgmt) : State :=
  if !s.mgmtFresh m || !m.formatOk || m.kind != 3 || m.target != s.self || s.sealed || !s.flag F.SEC_MBX_CTRL_BUSY || m.mtag != s.mbxTag then s
  else
    let s := s.fillWindow 0x62000 (m.body.take 4096)
    let s := ((s.put F.SEC_MBX_CTRL_BUSY 0).put F.SEC_MBX_CTRL_RESULT 0).put F.SEC_MBX_CTRL_RX_LEN m.body.length
    { s with mbxLeft := 0 }

/-- MAILBOX_SEND's operation (R434); the word's own fields are taken first. -/
def State.mbxSend (s : State) : State :=
  let n := s.get F.SEC_MBX_CTRL_TX_LEN
  if n = 0 ∨ n > 4064 then s.put F.SEC_MBX_CTRL_RESULT 2
  else
    let tag := (s.mbxTag + 1) % 65536
    let dst := s.get F.SEC_MBX_CTRL_TARGET
    let s := { s.put F.SEC_MBX_CTRL_BUSY 1 with mbxTag := tag, mbxLeft := 1025 }
    s.mgmtSend ⟨dst, s.now % 4096, 2, dst, 0, s.self, tag, 0, [], [], s.window 0x61000 n, false, true, true⟩

/-- MAILBOX_TIMEOUT's operation: 1,024 stages have passed. -/
def State.mbxLate (s : State) : State :=
  if s.flag F.SEC_MBX_CTRL_BUSY && s.mbxLeft == 1 then { (s.put F.SEC_MBX_CTRL_BUSY 0).put F.SEC_MBX_CTRL_RESULT 1 with mbxLeft := 0 } else s

/-! ### Key stores -/

/-- Every key store is cleared (R453, R542): domain keys, sessions, IDE keys, the key secret, the fabric manager key. -/
def State.clearKeys (s : State) : State :=
  let s := (s.doms.keysOf fun d => d.st == .keyed).foldl (fun s d => s.domUnkey d) s
  let s := { s with doms := s.doms.mapAll fun d => { d with cur := none, alt := none }, sess := [], secret := 0, fmKey := [], ide := s.ide.map fun (e : Nat × Ide) => (e.1, Ide.insecure) }
  ((s.put F.SEC_FM_KEY_CTRL_VALID 0).put F.SEC_STATUS_FMKEY_VALID 0).sessShow

end Sys2Proof.Machine
end

