-- ==== Sys2Proof/Machine/Modes.lean ====
section
/-!
DEFINITION. Reactions of class 2 to 4 (R511 to R514), the halt (R512), sealing (R452, R453), modes and the commit (R526 to R534), and resets (R541, R542).
-/
namespace Sys2Proof.Machine

/-! ### The halt (R512) -/

/-- Fabric ports stop transmitting: each that was not down goes down with cause HALTED (R376). -/
def State.portsStop (s : State) : State :=
  ((List.range 64).filter fun p => s.get (F.WPR_LINK_STATUS_STATE p) != 0).foldl (fun s p => s.linkDown p 5) s

/-- Every packet, burst, held placement and retained copy on the device is discarded; event and QCB writes go on. -/
def State.discardAll (s : State) : State :=
  { s with
    rin := [], inj := [], chans := [], unbound := [], msgs := [], lines := [], resps := [], kwait := [], preds := [], ctlWait := []
    prx := s.prx.mapAll fun r => { r with held := [], cur := none, st := .idle, dups := [], taken := 0, curDup := false }
    ptx := s.ptx.mapAll fun t => { t with pkts := [] }
    accs := s.accs.filter fun e => match e.2.client with | .eq _ => true | .qcbWr _ => true | _ => false }

/-- A live run ends ABORTED in a halt: its operations complete ABORTED and advance no counter. -/
def State.haltRun (s : State) (ctx : Nat) : State :=
  let s := (s.opsOf ctx).foldl (fun s k => s.updOp k fun o => { o with noCtr := true }) s
  let s := s.endRun ctx stAborted true
  let s := s.updRun ctx fun r => { r with st := .ending, endSt := stAborted }
  (s.opsOf ctx).foldl (fun s k => s.opDone k stAborted 0 none) s

/-- A queue whose completions cannot be written is left STOPPED, or ERROR if it was in ERROR. -/
def State.wqSilent (s : State) (q : Nat) : State :=
  let w := s.wqs.look q
  let s := (s.liveOf q).foldl (fun s k => (((s.opsOf k).foldl (fun s o => { s with ops := s.ops.del o }) s)).freeCtx k) s
  { s with wqs := s.wqs.put q { w with
    st := if w.st = .error ∨ (w.st = .stopping ∧ w.after = .error) then .error else .stopped
    owed := [], byCmd := none, sched := false, found := none, turn := 0, reading := false } }

/-- Step 3 of R512 for one queue. -/
def State.wqHalt (s : State) (q : Nat) (clock : Bool) : State :=
  let w := s.wqs.look q
  if w.st = .free then s
  else if !clock || !s.portUp w.port then s.wqSilent q
  else if w.st = .running then s.wqStop q .stopped (min (fwd 32 w.c w.prod) (2 ^ w.log2)) stAborted 0 none
  else if w.st = .stopping then
    State.later { s with wqs := s.wqs.put q { w with
      after := if w.after = WqSt.error then WqSt.error else WqSt.stopped, owed := w.owed.map fun (e : Owed) => { e with status := stAborted, ctr := none } } } (.wqPump q)
  else s

/-- The device halts: `clock` tells that the core clock runs. -/
def State.haltDevice (s : State) (clock : Bool) : State :=
  if s.halted then s
  else
    let s := (s.degrade).put F.FLT_STATUS_HALTED 1
    let s := (s.portsStop).discardAll
    let s := (s.runs.keysOf fun r => r.st != .free).foldl (fun s k => s.haltRun k) s
    (s.wqs.keys).foldl (fun s q => s.wqHalt q clock) s

/-! ### Sealing (R453) -/

/-- Requests that a seal leaves meaningless read DROPPED (R527). -/
def State.dropRequests (s : State) : State :=
  let s := if s.modeReq.isSome then s.put F.DEV_MODE_REQ_RESULT 3 else s
  let s := if s.commitReq then s.put F.DEV_COMMIT_RESULT 12 else s
  { s with modeReq := none, commitReq := false, retDue := false }

/-- The device seals with a cause; a request that finds it sealed is absorbed (R452). -/
def State.sealDevice (s : State) (cause : Nat) : State :=
  if s.sealed then s
  else
    let s := (((s.put F.SEC_STATUS_SEALED 1).put F.SEC_STATUS_SEAL_CAUSE cause).put F.FLT_STATUS_SEAL_N_LOW 1).out (.pin "SEAL_N" false)
    let s := s.clearKeys
    let s := { s with doms := s.doms.mapAll fun d => { d with acc := [], led := [] }, ledDue := none, snap := none }
    let s := s.portsStop.dropRequests
    let s := if s.mode = 0 then s else s.enter 5
    ((s.put F.DEV_MODE_RETURN 0).put F.DEV_MODE_DRAINED 0).put F.DEV_DRAIN_CTRL_LEFT 0

/-! ### Reactions (R511, R514) -/

/-- An occurrence of a class 3 source: the halt, unless it is nested in a halt or a seal, or the fabric die is held in reset. -/
def State.flt3 (s : State) (src : Nat) (syn : Word) (clock forced : Bool) : State :=
  let (s, nested) := s.occur src syn forced none
  if nested || s.sealed || s.hold ≠ .none then s else { s with active := (3, .device) :: s.active.filter (·.1 ≥ 3) }.haltDevice clock

/-- An occurrence of a class 4 source. -/
def State.flt4 (s : State) (src : Nat) (syn : Word) (forced : Bool) : State :=
  let (s, nested) := s.occur src syn forced none
  if nested then s else { s with active := [(4, .device)] }.sealDevice 1

/-- HOSTREF_FAIL's reaction (R67): the port is fenced and R29 applies to its functions; it is under way until its queues have stopped. -/
def State.hostFenced (s : State) (p : Nat) : State :=
  let s := { s with active := (2, .host p) :: s.active }
  (s.updHost p fun h => { h with fenced := true }).portReset p true

/-- HOSTREF_FAIL on a port. -/
def State.hostFence (s : State) (p : Nat) : State :=
  let (s, nested) := s.occur 0x00A (BitVec.ofNat 64 p) false none
  if nested then s else (if s.sealed || s.halted then s else s.degrade).hostFenced p

/-- Reactions whose last step is done end (R514). -/
def State.reactionsEnd (s : State) : State :=
  let busy := fun (f : Wq → Bool) => s.wqs.vals.any fun w => w.st == .stopping && f w
  { s with active := s.active.filter fun a => match a with
      | (4, _) => true
      | (3, _) => busy fun _ => true
      | (2, .host p) => busy (·.port == p)
      | (2, .block 0x049 c) => s.runs.vals.any fun r => r.st == .ending && r.cluster == c
      | (1, .object 0x041 syn _) => (s.wqs.look (wbits syn 15 0)).st == .stopping
      | (1, .object 0x048 syn _) => s.runs.keys.any fun k => s.handle k == wbits syn 31 0
      | _ => false }

/-! ### Modes (R526 to R534) -/

/-- Leaves Drain: DRAINED and the timer clear (R532). Entering Drain starts the timer (R533). -/
def State.toMode (s : State) (m : Nat) : State :=
  let s := (((s.enter m).put F.DEV_MODE_DRAINED 0).put F.DEV_DRAIN_CTRL_LEFT (if m = 3 then s.atLeast F.DEV_DRAIN_CTRL_STAGES 1 else 0))
  if m = 4 then s else s.put F.DEV_MODE_RETURN 0

/-- A request of a mode (R528); a second one in a stage replaces the first. -/
def State.askMode (s : State) (o : Origin) (m : Nat) : State :=
  let ok := s.mode = 2 ∨ s.mode = 3 ∨ (s.mode = 4 ∧ (s.get F.DEV_MODE_RETURN = 2 ∨ s.get F.DEV_MODE_RETURN = 3))
  if s.originAuth o && ok then { s.put F.DEV_MODE_REQ_RESULT 1 with modeReq := some m } else s.put F.DEV_MODE_REQ_RESULT 2

/-- MODE_CHANGE's operation, task 2 of a boundary. -/
def State.modeChange (s : State) : State :=
  match s.modeReq with
  | none => s
  | some m =>
    let s := { s with modeReq := none }
    let r := s.get F.DEV_MODE_RETURN
    if s.mode = 2 ∨ s.mode = 3 then (if s.mode = m then s else s.toMode m).put F.DEV_MODE_REQ_RESULT 0
    else if s.mode = 4 ∧ (r = 2 ∨ r = 3) then (s.put F.DEV_MODE_RETURN m).put F.DEV_MODE_REQ_RESULT 0
    else s.put F.DEV_MODE_REQ_RESULT 3

/-- The device is in Bring-up, or Degraded from it. -/
def State.preCommit (s : State) : Bool := s.mode == 1 || (s.mode == 4 && s.get F.DEV_MODE_RETURN == 1)

/-- COMMIT's operation (R530). -/
def State.askCommit (s : State) (o : Origin) : State :=
  if s.originAuth o && s.preCommit then { s.put F.DEV_COMMIT_RESULT 2 with commitReq := true } else s.put F.DEV_COMMIT_RESULT 3

/-- Sync counts as acquired (R54). -/
def State.synced (s : State) : Bool :=
  s.get F.STG_SYNC_STATUS_STATE == 2 || (s.get F.STG_SYNC_STATUS_STATE == 0 && s.flag F.STG_SYNC_CTRL_GM)

/-- The first condition of R530 that fails, as RESULT names it. -/
def State.commitFault (s : State) : Option Nat :=
  if !s.flag F.DEV_BRINGUP_RAILS then some 4
  else if !s.flag F.DEV_BRINGUP_FUSES then some 5
  else if !s.flag F.DEV_BRINGUP_PLLS then some 6
  else if !s.flag F.DEV_BRINGUP_SRAM then some 7
  else if !s.synced then some 8
  else if s.flag F.CLK_STATUS_COAST then some 9
  else if s.anyPending (fun c => c == 3 || c == 4) then some 10
  else if s.halted then some 11 else none

/-- COMMIT_TAKE_EFFECT's operation (R530, R531). -/
def State.commitNow (s : State) : State :=
  if !s.commitReq then s
  else
    let s := { s with commitReq := false }
    if !s.preCommit then s.put F.DEV_COMMIT_RESULT 12
    else match s.commitFault with
      | some n => s.put F.DEV_COMMIT_RESULT n
      | none =>
        let s := if s.mode = 1 then s.toMode 2 else s.put F.DEV_MODE_RETURN 2
        (((s.put F.DEV_MODE_COMMITTED 1).put F.SEC_STATUS_FMKEY_LOCKED 1).put F.SEC_POLICY_LOCKED 1).put F.DEV_COMMIT_RESULT 1

/-- DEGRADED_RETURN's operation (R527). -/
def State.degReturn (s : State) : State :=
  if s.retDue && s.mode == 4 && !s.halted && !s.anyPending (· == 2) then { s.toMode (s.get F.DEV_MODE_RETURN) with retDue := false }
  else { s with retDue := false }

/-- Nothing of the device's work is left (R532). -/
def State.workDone (s : State) : Bool :=
  !(s.runs.vals.any fun r => r.st != .free && decide (4 < r.wq ∧ r.wq < 65536)) && !(s.ops.vals.any (·.live)) &&
  !(s.prx.vals.any fun r => r.cur.isSome || !r.held.isEmpty || decide (r.taken > 0)) && !(s.msgs.vals.any (·.live))

/-- DRAIN_TIMEOUT's operation (R533): due once no boundary is left. -/
def State.drainOver (s : State) : State :=
  if s.mode != 3 || s.flag F.DEV_MODE_DRAINED || s.get F.DEV_DRAIN_CTRL_LEFT != 0 then s
  else
    let s := (s.runs.keysOf fun r => r.st != .free && decide (4 < r.wq ∧ r.wq < 65536)).foldl (fun s k => s.endRun k stAborted true) s
    let withdraw := fun (s : State) (k : Nat) => let o := s.ops.look k; if o.opcode = 0x31 then s.dropRecv o.x.ctx k else s
    let s := (s.ops.keysOf (·.live)).foldl (fun s k => (withdraw ((s.opCut k).memAborted k) k).opDone k stAborted (s.ops.look k).failBytes none) s
    s.put F.DEV_MODE_DRAINED 1

/-! ### Reset (R541, R542) -/

/-- Registers that every reset but power-on keeps: CPW, the supervisor's readings and limit, and what R522 and R454 name. -/
def keptReg (off : Nat) : Bool :=
  (decide (0x80000 ≤ off ∧ off < 0x80800)) || off == 0x10308 || decide (0x10400 ≤ off ∧ off < 0x104C0)

/-- A pending word with only its class 4 bits. -/
def class4Bits (k : Nat) (w : Word) : Word :=
  BitVec.ofNat 64 ((List.range 64).foldl (fun n j => n + (if w.getLsbD j && fltClass (64 * k + j) == some 4 then 2 ^ j else 0)) 0)

/-- The state while a reset holds the device (R542): column 2 of its table. A wedge hold and core gating leave the collector, which the supervisor die
holds, as it is. -/
def State.resetTo (s : State) (h : Hold) (last : Nat) : State :=
  let z := State.reset
  let flt := fun (off : Nat) => decide (0x30000 ≤ off ∧ off < 0x34000)
  let whole := h = .wedge ∨ h = .gated
  let locks := (s.lockOwnersDie fun o => o.master != 0xF000).locks
  let t : State := { z with
    regs := s.regs.filter fun e => keptReg e.1 || (decide whole && flt e.1)
    hist := s.hist, first := s.first, stageSeen := if s.hold = .none then s.now else s.stageSeen, cages := s.cages, railBad := s.railBad
    locks := locks.mapAll fun l => { l with run := none, waiters := [], boost := false }
    active := if decide whole then s.active else s.active.filter (·.1 == 4)
    fltIrq := if decide whole then s.fltIrq else [], nextId := s.nextId, freeCtr := s.freeCtr, outs := s.outs, work := s.work, pending := s.pending, hold := h }
  let t := if decide whole then t.put F.FLT_STATUS_HALTED 0
    else (List.range 8).foldl (fun t k => t.setReg (0x30100 + 8 * k) (class4Bits k (s.reg (0x30100 + 8 * k)))) (t.put F.FLT_STATUS_TOTAL (s.get F.FLT_STATUS_TOTAL))
  let t := if s.sealed then ((t.put F.SEC_STATUS_SEALED 1).put F.SEC_STATUS_SEAL_CAUSE (s.get F.SEC_STATUS_SEAL_CAUSE)).put F.FLT_STATUS_SEAL_N_LOW 1 else t
  (((t.put F.DEV_MODE_MODE 0).put F.DEV_RESET_LAST last).put F.FLT_STATUS_ERR_N_LOW (s.get F.FLT_STATUS_ERR_N_LOW)).errPin

/-- DEV_RESET.LAST of a reset that ends what holds the device now. -/
def State.lastKind (s : State) (n : Nat) : Nat := if s.hold = .wedge ∨ s.hold = .gated ∨ (s.hold = .resetN ∧ s.get F.DEV_RESET_LAST = 3) then 3 else n

/-- RESET_N_ASSERT's operation. -/
def State.resetN (s : State) : State := if s.hold = .off then s else s.resetTo .resetN (s.lastKind 1)

/-- A cold reset (R541): held until it is released as RESET_N is. -/
def State.coldReset (s : State) : State := if s.hold = .off ∨ s.hold = .resetN then s else s.resetTo .resetN (s.lastKind 2)

/-- RESET_N_RELEASE's operation: straps, incarnation and key secret; Bring-up, or Sealed. -/
def State.resetRelease (s : State) (straps inc : Nat) (secret : Key) : State :=
  if s.hold ≠ .resetN then s
  else
    let s := { s with hold := .none, secret := secret }
    let s := ((s.put F.DEV_AUTH_STRAP straps).put F.WPR_INCARNATION_VALUE inc)
    s.enter (if s.sealed then 5 else 1)

/-- Loss of the always-on supply (R545): nothing is kept. -/
def State.powerLost (s : State) (h : Hold) : State :=
  let t : State := { State.reset with nextId := s.nextId, freeCtr := s.freeCtr, outs := s.outs, work := s.work, pending := s.pending, hold := h }
  t.put F.DEV_MODE_MODE 0

/-- FABRIC_WEDGE's operation (R523): recorded with the mode in force, then the wedge hold. -/
def State.wedge (s : State) (syn : Word) (forced : Bool) : State :=
  if s.hold ≠ .none then s else { (({ s with hold := if forced then .none else .wedge, stageSeen := s.now }.occur 0x00E syn forced none).1).resetTo .wedge 3 with active := [] }

end Sys2Proof.Machine
end

