-- ==== Sys2Proof/Machine/Clocks.lean ====
section
/-!
DEFINITION. Clocks, the timebase and time sync (spec/03): references and PLLs (R62 to R68), CLKOUT and the frequency meter (R71, R72), exchanges with the
parent (R52, R53), corrections (R55, R56), S-field commits (R9) and the period change (R51).
-/
namespace Sys2Proof.Machine

/-! ### References and PLLs -/

/-- The selected reference is qualified and in use. -/
def State.refOk (s : State) : Bool :=
  !s.flag F.CLK_STATUS_HOLDOVER && (if s.get F.CLK_STATUS_REF_SEL = 0 then s.flag F.CLK_STATUS_A_QUAL else s.get F.CLK_STATUS_REF_SEL == 1 && s.flag F.CLK_STATUS_B_QUAL)

/-- A reference is judged failed: its counts clear, and if it was selected the other one is taken (R64), or the PLL holds and the core coasts (R65). -/
def State.refFailed (s : State) (isB : Bool) : State :=
  let s := if isB then ((s.put F.CLK_STATUS_B_FAIL 1).put F.CLK_STATUS_B_QUAL 0).put F.CLK_QUAL_B_CYCLES 0
    else ((s.put F.CLK_STATUS_A_FAIL 1).put F.CLK_STATUS_A_QUAL 0).put F.CLK_QUAL_A_CYCLES 0
  if s.flag F.CLK_STATUS_HOLDOVER || s.get F.CLK_STATUS_REF_SEL != b2n isB then s
  else if s.flag (if isB then F.CLK_STATUS_A_QUAL else F.CLK_STATUS_B_QUAL) then
    (s.put F.CLK_STATUS_REF_SEL (b2n !isB)).flt 0x004 (packW [(0, b2n !isB)])
  else (((s.put F.CLK_STATUS_HOLDOVER 1).put F.CLK_STATUS_REF_SEL 2).put F.CLK_STATUS_COAST 1).flt 0x005 0

/-- REFCLK_FAIL's operation: the judgement of R66. -/
def State.refJudge (s : State) (r : RefObs) : State :=
  let b := r.bFails && s.flag F.CLK_REF_CTRL_B_PRESENT
  if r.aFails && b then
    if r.agree then (s.put F.CLK_STATUS_RC_OK 0).flt3 0x006 0 true false
    else s.refFailed (!r.aFurther)
  else if r.aFails then s.refFailed false
  else if b then s.refFailed true else s

/-- REFCLK_QUALIFIED's operation (R63, R65). -/
def State.refQual (s : State) (isB : Bool) : State :=
  if isB && !s.flag F.CLK_REF_CTRL_B_PRESENT then s
  else
    let s := if isB then ((s.put F.CLK_STATUS_B_FAIL 0).put F.CLK_STATUS_B_QUAL 1).put F.CLK_QUAL_B_CYCLES (s.atLeast F.CLK_QUAL_B_CYCLES 4100)
      else ((s.put F.CLK_STATUS_A_FAIL 0).put F.CLK_STATUS_A_QUAL 1).put F.CLK_QUAL_A_CYCLES (s.atLeast F.CLK_QUAL_A_CYCLES 4100)
    if s.flag F.CLK_STATUS_HOLDOVER then ((s.put F.CLK_STATUS_HOLDOVER 0).put F.CLK_STATUS_REF_SEL (b2n isB)).put F.CLK_STATUS_TB_LOCK 1 else s

/-- CORE_PLL_RELOCK's operation (R65). -/
def State.coreRelock (s : State) : State :=
  if s.flag F.CLK_STATUS_COAST && !s.flag F.CLK_STATUS_HOLDOVER then (s.put F.CLK_STATUS_COAST 0).put F.CLK_STATUS_CORE_LOCK 1 else s

/-- REVERT's operation (R64). -/
def State.refRevert (s : State) : State :=
  if s.flag F.CLK_STATUS_A_QUAL && s.get F.CLK_STATUS_REF_SEL == 1 then (s.put F.CLK_STATUS_REF_SEL 0).flt 0x004 0 else s

/-- Losses of lock (R67). The core clock is not taken to run once its own PLL or the timebase PLL has lost lock. -/
def State.tbUnlock (s : State) : State := if s.flag F.CLK_STATUS_TB_LOCK && s.refOk then (s.put F.CLK_STATUS_TB_LOCK 0).flt3 0x007 0 false false else s
def State.coreUnlock (s : State) : State :=
  if s.flag F.CLK_STATUS_CORE_LOCK && s.flag F.CLK_STATUS_TB_LOCK then (s.put F.CLK_STATUS_CORE_LOCK 0).flt3 0x008 0 false false else s
def State.mgmtUnlock (s : State) : State := if s.flag F.CLK_STATUS_MGMT_LOCK then (s.put F.CLK_STATUS_MGMT_LOCK 0).flt 0x009 0 else s

/-- Module management and the frequency meter are fenced, or their PLL is not locked (R67, R464). -/
def State.mgmtFenced (s : State) : Bool := !s.flag F.CLK_STATUS_MGMT_LOCK || s.flag (fltPend 0x009)

/-- HOSTREF_FAIL's operation: only of a reference that has qualified since reset or since the port last woke (R540). -/
def State.hostrefBad (s : State) (p : Nat) : State :=
  let ok := s.get F.CLK_STATUS_HOSTREF_OK
  if !ok.testBit p || s.pdHost p == 2 then s
  else
    let s := s.put F.CLK_STATUS_HOSTREF_OK (ok - 2 ^ p)
    if (s.ports.look p).refQualified then s.hostFence p else s

/-- HOSTREF_OK's operation. -/
def State.hostrefGood (s : State) (p : Nat) : State :=
  if s.pdHost p == 2 then s
  else (s.put F.CLK_STATUS_HOSTREF_OK (s.get F.CLK_STATUS_HOSTREF_OK ||| 2 ^ p)).updHost p fun h => { h with refQualified := true }

/-! ### CLKOUT and the frequency meter -/

/-- A pin's name. -/
def clkoutPin (n : Nat) : String := if n = 0 then "CLKOUT0" else "CLKOUT1"

/-- A CLKOUT register changes: the output is held low for 2 µs (R71). -/
def State.clkoutSet (s : State) (n : Nat) (w : Word) : State :=
  let off := 0x20020 + 8 * n
  let w := w &&& 7
  if s.reg off = w then s
  else { (s.setReg off w).out (.pin (clkoutPin n) false) with clkHold := if s.clkHold.contains n then s.clkHold else n :: s.clkHold }

/-- CLKOUT_HOLD_END's operation: the new setting starts. -/
def State.clkoutGo (s : State) (n : Nat) : State :=
  if s.clkHold.contains n then { s.out (.pin (clkoutPin n) (s.flag (F.CLK_CLKOUT_EN n))) with clkHold := s.clkHold.erase n } else s

/-- START of the frequency meter (R72): counting begins at the next boundary. -/
def State.fmStart (s : State) : State :=
  if s.flag F.CLK_FMETER_CTRL_BUSY || s.mgmtFenced then s
  else { ((s.put F.CLK_FMETER_RESULT_VALID 0).put F.CLK_FMETER_RESULT_DISTURBED 0).put F.CLK_FMETER_CTRL_BUSY 1 with fmLeft := some (s.atLeast F.CLK_FMETER_CTRL_WINDOW 1 + 1) }

/-- FMETER_DONE's operation: the window's last boundary has passed; a reserved source counts 0. -/
def State.fmDone (s : State) (edges : Nat) : State :=
  if s.fmLeft != some 0 then s
  else { ((s.put F.CLK_FMETER_RESULT_COUNT (if s.get F.CLK_FMETER_CTRL_SRC ≥ 12 then 0 else edges)).put F.CLK_FMETER_RESULT_VALID 1).put F.CLK_FMETER_CTRL_BUSY 0 with fmLeft := none }

/-- A period change or a step: windows of the meters that have begun are disturbed (R72, R509). -/
def State.disturb (s : State) : State :=
  let inside := fun (left : Option Nat) (w : Nat) => match left with | some n => decide (0 < n ∧ n ≤ w) | none => false
  let s := if inside s.fmLeft (s.atLeast F.CLK_FMETER_CTRL_WINDOW 1) then s.put F.CLK_FMETER_RESULT_DISTURBED 1 else s
  if inside s.bwLeft (s.atLeast F.TEL_BW_CTRL_WINDOW 1) then s.put F.TEL_BW_CTRL_DISTURBED 1 else s

/-! ### Exchanges (R52, R53) -/

/-- A number as the 32 bits of OFFSET. -/
def int32 (x : Int) : Nat := (x % 2 ^ 32).toNat

/-- Acquires sync: the state machine's answer to one exchange with the parent (R53, R56). -/
def State.exchange (s : State) (off : Int) (code : Nat) : State :=
  let st := s.get F.STG_SYNC_STATUS_STATE
  let s := s.put F.STG_SYNC_STATUS_OFFSET (int32 off)
  let s := { s with sync := { s.sync with off := off, fresh := true } }
  let match' := code == s.get F.STG_PERIOD_CODE
  if st = 3 then { s.put F.STG_SYNC_STATUS_STATE 1 with sync := { s.sync with good := 0 } }
  else if st = 1 then
    let good := if off.natAbs ≤ 16 && match' then s.sync.good + 1 else 0
    if good ≥ 16 then { s.put F.STG_SYNC_STATUS_STATE 2 with sync := { s.sync with good := 0, badOff := 0, badCode := 0 } }
    else { s with sync := { s.sync with good := good } }
  else if st = 2 then
    { s with sync := { s.sync with
      badOff := if off.natAbs > s.atLeast F.STG_SYNC_CTRL_OFFSET_LIMIT 1 * 16 then s.sync.badOff + 1 else 0
      badCode := if match' then 0 else s.sync.badCode + 1 } }
  else s

/-- Twice the one-way delay of a round trip: t1 and t4 are this device's timestamps, t2 and t3 the peer's. -/
def tripDelay (t1 t2 t3 t4 : Nat) : Int := ((t2 : Int) - t1) + ((t4 : Int) - t3)

/-- The offset of the peer's timebase from this device's (R52). -/
def tripOffset (t1 t2 t3 t4 : Nat) : Int := (((t2 : Int) - t1) - ((t4 : Int) - t3)) / 2

/-- TIME_SYNC_RECEIVE's operation. The unit the peer answers is the latest one sent whose round trip has no negative delay: units that cross on the
link are still on their way. -/
def State.syncArrive (s : State) (p : Nat) (u : TimeSync) (arrival : Nat) : State :=
  if !s.linkOpen p then s
  else
    let s := s.portAdd p 1 1
    if !u.crcOk then s
    else
      let s := { s with syncRx := s.syncRx.put p arrival }
      if !s.parentIs p then s
      else
        let s := s.put F.STG_SYNC_STATUS_GM_ROUTER u.gmRouter
        let s := { s with sync := { s.sync with missed := 0, pStage := u.stage, pTx := u.txTime, pCode := u.period } }
        match (s.syncTx.look p).find? fun t1 => decide (u.rxTime ≠ 0 ∧ 0 ≤ tripDelay t1 u.rxTime u.txTime arrival) with
        | some t1 => s.exchange (tripOffset t1 u.rxTime u.txTime arrival) u.period
        | none => s

/-- The loss conditions that hold (R56); stages without a frame are counted from the boundary after the last one. -/
def State.lossHolds (s : State) : SyncLoss → Bool
  | .linkDown => !s.flag (F.RTP_STATUS_LINK_UP (s.get F.STG_SYNC_CTRL_PARENT_PORT))
  | .missedFrames => decide (s.sync.missed ≥ s.atLeast F.STG_SYNC_CTRL_LOSS_STAGES 1 + 1)
  | .offset => decide (s.sync.badOff ≥ 2)
  | .period => decide (s.sync.badCode ≥ 2)

/-- SYNC_LOST's operation. -/
def State.syncLost (s : State) (why : SyncLoss) : State := if s.lossHolds why then s.syncLose else s

/-- The sync state follows GM and PARENT_EN (R53). -/
def State.syncMode (s : State) : State :=
  if s.flag F.STG_SYNC_CTRL_GM || !s.flag F.STG_SYNC_CTRL_PARENT_EN then
    { (s.put F.STG_SYNC_STATUS_STATE 0).put F.STG_SYNC_STATUS_STEP_REFUSED 0 with sync := default }
  else if s.get F.STG_SYNC_STATUS_STATE = 0 then { s.put F.STG_SYNC_STATUS_STATE 1 with sync := default } else s

/-! ### Task 1 (R55, R56) -/

/-- The period in 1/16 ns (R49). -/
def State.periodU (s : State) : Nat := 8192 * 2 ^ s.get F.STG_PERIOD_CODE

/-- What task 1 does: the number the boundary begins, or none if a backward step abandons the boundary. -/
def State.task1 (s : State) (now : Nat) : State × Option Nat :=
  let s := { s with sync := { s.sync with missed := s.sync.missed + 1 }, slew := 0, tb := now }
  let s := if s.locked && (s.lossHolds .missedFrames || s.lossHolds .offset || s.lossHolds .period) then s.syncLose else s
  let st := s.get F.STG_SYNC_STATUS_STATE
  let n := s.now + 1
  let off := s.sync.off
  if !s.sync.fresh || !(st == 1 || st == 2) then (s, some n)
  else
    let s := { s with sync := { s.sync with fresh := false } }
    if st = 2 ∨ off.natAbs ≤ 1024 then
      ({ s.put F.STG_SYNC_STATUS_STEP_REFUSED 0 with slew := max (-128) (min off 128) }, some n)
    else
      let stepped := ((now : Int) + off)
      let p := ((s.sync.pStage : Int) + (stepped - s.sync.pTx) / (s.periodU : Int)).toNat
      if p < n && decide (n - p > 16) && s.mode != 1 then (s.put F.STG_SYNC_STATUS_STEP_REFUSED 1, some n)
      else
        let s := ({ s.put F.STG_SYNC_STATUS_STEP_REFUSED 0 with slew := off, tb := stepped.toNat, syncTx := [] }).disturb
        if p > n then (s.put F.STG_SKIPPED_COUNT (s.get F.STG_SKIPPED_COUNT + (p - n)), some p)
        else if p = n then (s, some n)
        else (s, none)

/-! ### Task 2 (R9, R51) -/

/-- A convoy holds a slot of this device. -/
def State.slotsHeld (s : State) : Bool := s.cvys.vals.any fun c => c.st != 0 && c.slots != 0

/-- The ARM check of R51, at the boundary that commits it and begins stage `n`. -/
def State.armCheck (s : State) (n : Nat) : State :=
  let s := s.put F.STG_PERIOD_NEXT_REJECT 0
  if !s.flag F.STG_PERIOD_NEXT_ARM then s
  else if s.get F.STG_PERIOD_NEXT_AT_STAGE < n + 16 || s.slotsHeld then (s.put F.STG_PERIOD_NEXT_REJECT 1).put F.STG_PERIOD_NEXT_ARM 0 else s

/-- Every operation that a boundary completes with the S-field commit: STAGECFG and TOLLSET (R161). -/
def State.boundaryOps (s : State) (oc opf : Nat) (st : Nat) : State :=
  (s.ops.keysOf fun o => o.live && o.fin.isNone && o.eng == .boundary && o.opcode == oc && o.opf == opf).foldl (fun s k => s.opDone k st 0 none) s

/-- Commits every pending S-field write, of registers and tolls, at the boundary that begins stage `n` (R9, R498). -/
def State.commitS (s : State) (n : Nat) : State :=
  let pend := s.spend
  let mask := s.smask
  let s := { s with spend := [], smask := [] }
  let s := mask.foldl (fun s e =>
    let s := s.setReg e.1 ((s.reg e.1 &&& ~~~e.2) ||| (pend.look e.1 &&& e.2))
    if 0x51000 ≤ e.1 ∧ e.1 < 0x51800 then s.setReg (e.1 + 0x1000) 0 else s) s
  let s := if mask.any (·.1 == 0x28010) then s.armCheck n else s
  let s := if mask.any (·.1 == 0x28018) then s.syncMode else s
  let s := { s with tolls := s.tolls.mapAll Toll.commit }
  let s := s.boundaryOps 0x82 0 stOk
  let s := s.boundaryOps 0x89 0 (if s.flag F.STG_PERIOD_NEXT_REJECT then stNoRes else stOk)
  s.boundaryOps 0x89 1 stOk

/-- PERIOD_CHANGE's operation at the boundary that begins stage `n` (R51). -/
def State.periodChange (s : State) (n : Nat) : State :=
  if s.flag F.STG_PERIOD_NEXT_ARM && decide (s.get F.STG_PERIOD_NEXT_AT_STAGE ≤ n) then
    ((s.put F.STG_PERIOD_CODE (s.get F.STG_PERIOD_NEXT_CODE)).put F.STG_PERIOD_NEXT_ARM 0).disturb
  else s

/-- A time sync unit goes out on every link that is up (R52, R380); it leaves at the start of the stage. -/
def State.syncSend (s : State) : State :=
  let gm := if s.flag F.STG_SYNC_CTRL_GM then s.self else s.get F.STG_SYNC_STATUS_GM_ROUTER
  ((List.range 64).filter fun p => s.linkOpen p).foldl (fun s p =>
    let u : TimeSync := ⟨s.tb, s.syncRx.look p, s.now, s.get F.STG_PERIOD_CODE, gm, s.self, true⟩
    ({ s with syncTx := s.syncTx.upd p fun l => (s.tb :: l).take 16 }.portAdd p 0 1).out (.timeSync p u)) s

end Sys2Proof.Machine
end

