-- ==== Sys2Proof/Machine/Training.lean ====
section
/-!
DEFINITION. What happens to lanes: power-state writes and wakes (R456, R457), detectors (R460, R461) and the training sequence (R462, R463).
-/
namespace Sys2Proof.Machine

/-- Sets a half's power state. A detector runs only while the receive half is ON (R460). -/
def State.halfPut (s : State) (l : Nat) (tx : Bool) (n : Nat) : State :=
  if tx then s.put (F.LAN_STATUS_TX_STATE l) n
  else
    let s := s.put (F.LAN_STATUS_RX_STATE l) n
    if n = 0 then s else (s.put (F.LAN_STATUS_LOS l) 1).put (F.LAN_STATUS_LOL l) 1

/-- A port's lanes take its link down with cause LANE; a link that is still in LINIT was not UP, and only starts again. -/
def State.laneDown (s : State) (p : Nat) : State :=
  match s.get (F.WPR_LINK_STATUS_STATE p) with
  | 0 => s
  | 1 => s.put (F.WPR_LINK_STATUS_STATE p) 0
  | _ => s.linkDown p 2

/-- A half of a port's lanes has changed: values kept (R457), the link, training. `off`: a half passed through OFF. -/
def State.halvesMoved (s : State) (p : Nat) (left off : Bool) : State :=
  let held := (s.fports.look p).trained || (s.train.look p).kept
  let s := if off then { s with train := s.train.upd p fun t => { t with kept := false } }
    else if left then { s with train := s.train.upd p fun t => { t with kept := held } } else s
  let s := if left then s.laneDown p else s
  if left then s.trainAt p 0
  else if s.quadOn p then (if s.trainStep p = 0 then s.trainStart p else s) else s.laneShow p 0

/-- A half follows its power-state field: it leaves ON at once; from OFF it is ON at once, its wake being the training itself; from SLEEP or DEEP_SLEEP it wakes
later (R456). The halves of a quad that is gated or waking stay OFF (R538). -/
def State.halfGo (s : State) (l : Nat) (tx : Bool) : State :=
  let want := s.get (if tx then F.LAN_CTRL_TX_PWR l else F.LAN_CTRL_RX_PWR l)
  let now := s.half l tx
  if s.pdQuad (l / 4) ≥ 2 || want == now || (want == 0 && now != 3) then s
  else (s.halfPut l tx want).halvesMoved (l / 4) (now == 0) (want == 3)

/-- LANE_POWER_WRITE's operation, once the word's fields are taken. -/
def State.lanePower (s : State) (l : Nat) : State := (s.halfGo l true).halfGo l false

/-- LANE_WAKE_DONE's operation. -/
def State.laneWake (s : State) (l : Nat) (tx : Bool) : State :=
  let now := s.half l tx
  if s.get (if tx then F.LAN_CTRL_TX_PWR l else F.LAN_CTRL_RX_PWR l) = 0 ∧ (now = 1 ∨ now = 2) then (s.halfPut l tx 0).halvesMoved (l / 4) false false else s

/-- LANE_RETRAIN's operation, for a port's first lane: down with cause LANE, and trained again from step 1. -/
def State.laneRetrain (s : State) (l : Nat) : State :=
  if l % 4 ≠ 0 then s
  else
    let p := l / 4
    let s := { s with train := s.train.upd p fun t => { t with kept := false } }
    if s.get (F.WPR_LINK_STATUS_STATE p) = 2 then s.linkDown p 2 else (s.laneDown p).trainStart p

/-- An assertion takes an UP port down, and returns training to step 2 (R461). -/
def State.lost (s : State) (p : Nat) : State :=
  if s.get (F.WPR_LINK_STATUS_STATE p) = 2 then s.linkDown p 2
  else if s.trainStep p > 2 then (s.laneDown p).trainAt p 2 else s

/-- LOS_ASSERT's and LOL_ASSERT's operation. -/
def State.losOn (s : State) (l : Nat) : State :=
  if s.half l false ≠ 0 ∨ s.flag (F.LAN_STATUS_LOS l) then s
  else ((s.put (F.LAN_STATUS_LOS l) 1).put (F.LAN_STATUS_LOS_SEEN l) 1).lost (l / 4)
def State.lolOn (s : State) (l : Nat) : State :=
  if s.half l false ≠ 0 ∨ s.flag (F.LAN_STATUS_LOL l) then s
  else ((s.put (F.LAN_STATUS_LOL l) 1).put (F.LAN_STATUS_LOL_SEEN l) 1).lost (l / 4)

/-- LOS_DEASSERT's and LOL_DEASSERT's operation. -/
def State.losOff (s : State) (l : Nat) : State := if s.half l false = 0 then s.put (F.LAN_STATUS_LOS l) 0 else s
def State.lolOff (s : State) (l : Nat) : State := if s.half l false = 0 then s.put (F.LAN_STATUS_LOL l) 0 else s

/-- What step 4 leaves in a lane (R458, R459): the peaking, the DFE taps, and the taps link training asked for on copper. -/
def State.equalised (s : State) (p : Nat) (peaks : List Nat) (taps : List Word) : State :=
  (List.range 4).foldl (fun s j =>
    let l := 4 * p + j
    let m : Word := 0x0000FFFFFFFFFFFF
    let s := s.put (F.LAN_STATUS_PEAK_NOW l) (if s.flag (F.LAN_EQ_CTLE_ADAPT l) then min 48 (peaks.getD j 0) else s.peakSet l)
    let s := if s.flag (F.LAN_EQ_DFE_EN l) then
        (s.setReg (0x2000010 + l * 0x4000) (taps.getD (2 * j) 0 &&& m)).setReg (0x2000018 + l * 0x4000) (taps.getD (2 * j + 1) 0 &&& m) else s
    if s.flag (F.LAN_CTRL_MEDIA l) then s.setReg (0x2000028 + l * 0x4000) (ffeTaps (taps.getD (8 + j) 0)) else s) s

/-- TRAINING_STEP_ADVANCE's operation: steps 1 to 5, each under its own condition (R462). -/
def State.trainNext (s : State) (p : Nat) (peaks : List Nat) (taps : List Word) : State :=
  let clear := fun (f : Nat → Fld) => (List.range 4).all fun j => !s.flag (f (4 * p + j))
  match s.trainStep p with
  | 1 => s.trainAt p 2
  | 2 => if clear F.LAN_STATUS_LOS then s.trainAt p 3 else s
  | 3 => if clear F.LAN_STATUS_LOL then s.trainAt p 4 else s
  | 4 => (s.equalised p peaks taps).trainAt p 5
  | 5 => s.trainAt p 6
  | _ => s

/-- TRAINING_GATE_END's operation. -/
def State.trainGate (s : State) (p uncorr : Nat) : State :=
  if s.trainStep p ≠ 6 then s
  else if uncorr = 0 then { s with train := s.train.upd p fun t => { t with ok := true } }.trainAt p 7
  else s.trainAt p 4

/-- TRAINING_TIMEOUT's operation (R463). -/
def State.trainLate (s : State) (p : Nat) : State :=
  let step := s.trainStep p
  if step = 0 ∨ step = 7 then s
  else
    let s := (List.range 4).foldl (fun s j => s.bump (F.LAN_STATUS_TRAIN_FAILS (4 * p + j)) 1) s
    let s := if (s.train.look p).ok then s.flt 0x0C6 (packW [(0, p), (8, step)]) else s
    { s with train := s.train.upd p fun _ => default }.trainStart p

/-- LAN_FFE has been written (R459): with MEDIA 0 the taps are in use at once; link training takes them at its next start, or before step 4. -/
def State.ffeWrite (s : State) (l : Nat) : State :=
  if s.flag (F.LAN_CTRL_MEDIA l) && decide (s.trainStep (l / 4) ≥ 4) then s else s.ffeShow l

/-- A lane quad is gated (R457, R537): its lanes go OFF, its link down with cause LANE. -/
def State.quadOff (s : State) (p : Nat) : State :=
  let s := (List.range 4).foldl (fun s j => (s.halfPut (4 * p + j) true 3).halfPut (4 * p + j) false 3) s
  let s := { s with train := s.train.upd p fun t => { t with kept := false } }
  (s.laneDown p).trainAt p 0

end Sys2Proof.Machine
end

