-- ==== Sys2Proof/Machine/Modules.lean ====
section
/-!
DEFINITION. Modules (R464 to R472) and cage power (R473 to R485). Cage n holds the module of lanes 8n to 8n + 7, on management controller n / 16.
-/
namespace Sys2Proof.Machine

/-! ### CMIS transactions (R464, R466, R468) -/

/-- Changes a module's record. -/
def State.updMod (s : State) (n : Nat) (f : Modl → Modl) : State := { s with mods := s.mods.upd n f }

/-- Bytes a software transaction moves: LEN, 0 taken as 1, at most the 128 of the data window. -/
def State.cmisLen (s : State) (n : Nat) : Nat := min 128 (s.atLeast (F.MOD_CMIS_CMD_LEN n) 1)

/-- The first transaction of a controller runs, unless its PLL is unlocked. -/
def State.cmisKick (s : State) (k : Nat) : State :=
  match s.cmisQ.look k with
  | [] => s
  | n :: _ =>
    if s.mgmtFenced then s
    else
      let w := s.flag (F.MOD_CMIS_CMD_WRITE n)
      s.out (.cmis n w (s.get (F.MOD_CMIS_CMD_PAGE n)) (s.get (F.MOD_CMIS_CMD_ADDR n)) (if w then s.window (0x2400800 + n * 0x1000) (s.cmisLen n) else []))

/-- Ends a cage's software transaction with a RESULT; the controller goes on with the next. -/
def State.cmisEnd (s : State) (n res : Nat) : State :=
  let k := n / 16
  let first := (s.cmisQ.look k).head? == some n
  let s := (s.put (F.MOD_CMIS_CMD_BUSY n) 0).put (F.MOD_CMIS_CMD_RESULT n) res
  let s := { s with cmisQ := s.cmisQ.upd k fun l => l.filter (· != n) }
  if first then s.cmisKick k else s

/-- CMIS_TRANSACTION's operation, once GO's word has been taken: GO is ignored while BUSY, whose check is the caller's. -/
def State.cmisGo (s : State) (n : Nat) : State :=
  let addr := s.get (F.MOD_CMIS_CMD_ADDR n)
  let last := addr + s.cmisLen n - 1
  let page := s.get (F.MOD_CMIS_CMD_PAGE n)
  if last > 255 then s.put (F.MOD_CMIS_CMD_RESULT n) 4
  else if s.flag (F.MOD_CMIS_CMD_WRITE n) && ((decide (0xB0 ≤ page ∧ page ≤ 0xB7)) || (page == 3 && decide (last ≥ 128))) then s.put (F.MOD_CMIS_CMD_RESULT n) 3
  else if s.get (F.MOD_STATUS_STATE n) = 0 then s.put (F.MOD_CMIS_CMD_RESULT n) 1
  else
    let idle := (s.cmisQ.look (n / 16)).isEmpty
    let s := { s.put (F.MOD_CMIS_CMD_BUSY n) 1 with cmisQ := s.cmisQ.upd (n / 16) fun l => l ++ [n] }
    if idle then s.cmisKick (n / 16) else s

/-- CMIS_TRANSACTION_DONE's operation on the transaction that runs. -/
def State.cmisDone (s : State) (n : Nat) (acked : Bool) (data : List Byte) : State :=
  if (s.cmisQ.look (n / 16)).head? != some n || s.mgmtFenced then s
  else if !acked then s.cmisEnd n 2
  else
    let s := if s.flag (F.MOD_CMIS_CMD_WRITE n) then s
      else
        let m := s.cmisLen n
        let old := s.window (0x2400800 + n * 0x1000) 128
        s.fillWindow (0x2400800 + n * 0x1000) ((List.range m).map (fun i => data.getD i 0) ++ old.drop m)
    s.cmisEnd n 0

/-! ### Identification (R465 to R467) -/

/-- Both ports of a cage. -/
def cagePorts (n : Nat) : List Nat := [2 * n, 2 * n + 1]

/-- Module management stops (R466). -/
def State.modStop (s : State) (n : Nat) : State :=
  if s.get (F.MOD_STATUS_STATE n) = 0 then s
  else
    let s := if s.flag (F.MOD_CMIS_CMD_BUSY n) then s.cmisEnd n 1 else s
    let s := { s.setReg (0x2400008 + n * 0x1000) 0 with mods := s.mods.del n }
    (List.range 5).foldl (fun s k => s.setReg (0x2400010 + n * 0x1000 + k * 8) 0) s

/-- Module management starts: IDENTIFYING (R464, R465). -/
def State.modStart (s : State) (n : Nat) : State := if s.hold = .none then s.put (F.MOD_STATUS_STATE n) 1 else s

/-- An application matches the RATE of the cage's eight lanes. -/
def State.modFits (s : State) (n : Nat) : Bool :=
  let r := s.laneRate (8 * n)
  ((List.range 8).all fun j => s.laneRate (8 * n + j) == r) && (s.mods.look n).apps.contains r

/-- APPLICATION_SELECT (R465): READY, or REFUSED in low power. -/
def State.modSelect (s : State) (n : Nat) (refused : Bool) : State :=
  let ok := s.modFits n && !refused && (s.flag (F.MOD_STATUS_VERIFIED n) || s.flag (F.MOD_CTRL_USE_UNVERIFIED n))
  s.put (F.MOD_STATUS_STATE n) (if ok then 3 else 4)

/-- End of life: the flags, the fault, and EOL_ACTION (R472); at identification the selection follows. -/
def State.modEnd (s : State) (n : Nat) : State :=
  let s := (s.updMod n fun m => { m with flags := m.flags ||| 2, raised := m.raised ||| 2 }).put (F.MOD_STATUS_LIFE_END n) 1
  let s := s.flt 0x103 (packW [(0, n)])
  match s.get (F.MOD_CTRL_EOL_ACTION n) with
  | 0 => if s.get (F.MOD_STATUS_STATE n) ≤ 2 then s.modSelect n false else s
  | 1 =>
    let s := (cagePorts n).foldl (fun s p => s.laneDown p) s
    let s := (List.range 8).foldl (fun s j => s.put (F.LAN_CTRL_RATE (8 * n + j)) 1) s
    let s := (cagePorts n).foldl (fun s p => s.trainStart p) s
    (s.put (F.MOD_STATUS_DERATED n) 1).modSelect n false
  | _ => s.put (F.MOD_STATUS_STATE n) 4

/-- Step 3 of R465: a ledger that already shows end of life has its action applied. -/
def State.modFinish (s : State) (n : Nat) : State :=
  let m := s.mods.look n
  if m.flags.testBit 1 && !m.raised.testBit 1 then s.modEnd n
  else s.modSelect n (m.flags.testBit 1 && decide (s.get (F.MOD_CTRL_EOL_ACTION n) ≥ 2))

/-- The valid slot with the higher COUNT (R469). -/
def newest : List (Nat × Nat × Nat) → Option (Nat × Nat × Nat)
  | [] => none
  | r :: rs => match newest rs with
    | some q => if r.1 ≥ q.1 then some r else some q
    | none => some r

/-- MODULE_IDENTIFY's operation. -/
def State.modIdentify (s : State) (n : Nat) (i : ModuleInfo) : State :=
  if s.get (F.MOD_STATUS_STATE n) ≠ 1 ∨ s.mgmtFenced then s
  else if !i.ready then s.put (F.MOD_STATUS_STATE n) 5
  else
    let led := newest i.ledger
    let (count, wear, flags) := led.getD (0, 0, 0)
    let s := (((s.put (F.MOD_STATUS_CMIS_REV n) i.cmisRev).put (F.MOD_STATUS_OUI n) i.oui).put (F.MOD_STATUS_LEDGER_NEW n) (b2n led.isNone)).put (F.MOD_STATUS_VERIFIED n) 0
    let s := (List.range 4).foldl (fun s k => s.setReg (0x2400010 + n * 0x1000 + k * 8) (if k < 2 then i.part.getD k 0 else i.serial.getD (k - 2) 0)) s
    let s := (s.put (F.MOD_LIFE_WEAR n) wear).put (F.MOD_LIFE_RATED_H n) (s.atLeast (F.MOD_CTRL_RATED_DEFAULT_H n) 1)
    let s := s.updMod n fun m => { m with ident := true, count := count, flags := flags % 4, apps := i.apps, rated := i.ratedH }
    if s.flag (F.MOD_CTRL_AUTH_EN n) then s.put (F.MOD_STATUS_STATE n) 2 else s.modFinish n

/-- MODULE_READY_TIMEOUT's operation. -/
def State.modLate (s : State) (n : Nat) : State := if s.get (F.MOD_STATUS_STATE n) = 1 then s.put (F.MOD_STATUS_STATE n) 5 else s

/-- MODULE_AUTH_DONE's operation (R467). -/
def State.modAuth (s : State) (n : Nat) (ok : Bool) : State :=
  if s.get (F.MOD_STATUS_STATE n) ≠ 2 ∨ s.mgmtFenced then s
  else
    let s := if ok then (s.put (F.MOD_STATUS_VERIFIED n) 1).put (F.MOD_LIFE_RATED_H n) (s.mods.look n).rated else s.flt 0x100 (packW [(0, n)])
    s.modFinish n

/-- MODULE_RESCAN's operation: R465 starts again for a powered module. -/
def State.modRescan (s : State) (n : Nat) : State := if s.flag (F.CPW_STATUS_PG n) then s.modStart n else s

/-! ### Wear and the life ledger (R469 to R472) -/

/-- Quarter-minutes of one active minute, by the temperature in 1/256 °C. -/
def wearAdd : Option Int → Nat
  | none => 24
  | some t => if t < 45 * 256 then 4 else if t < 55 * 256 then 6 else if t < 65 * 256 then 10 else if t < 75 * 256 then 16 else 24

/-- The comparison after an accrual (R472). -/
def State.lifeCheck (s : State) (n : Nat) : State :=
  let wear := s.get (F.MOD_LIFE_WEAR n)
  let full := s.get (F.MOD_LIFE_RATED_H n) * 240
  let s := if wear * 10 ≥ full * 9 && !(s.mods.look n).raised.testBit 0 then
      ((s.updMod n fun m => { m with flags := m.flags ||| 1, raised := m.raised ||| 1 }).put (F.MOD_STATUS_LIFE_WARN n) 1).flt 0x102 (packW [(0, n)])
    else s
  if wear ≥ full && !(s.mods.look n).raised.testBit 1 then s.modEnd n else s

/-- WEAR_ACCRUAL's operation: one minute of powered time. -/
def State.wearMinute (s : State) (n : Nat) (active : Bool) (temp : Option Int) : State :=
  if !(s.mods.look n).ident || s.mgmtFenced then s
  else
    let s := s.updMod n fun m =>
      let full := decide (m.minutes + 1 ≥ 60)
      { m with minutes := if full then 0 else m.minutes + 1, writeDue := m.writeDue || full || m.again, again := false }
    if active then (s.bump (F.MOD_LIFE_WEAR n) (wearAdd temp)).lifeCheck n else s

/-- CRC-32C (R386), bit by bit. -/
def crcBits : Nat → Nat → Nat
  | 0, c => c
  | k + 1, c => crcBits k (if c % 2 = 1 then (c / 2) ^^^ 0x82F63B78 else c / 2)
def crc32c (bs : List Byte) : Nat := (bs.foldl (fun c b => crcBits 8 (c ^^^ b.toNat)) 0xFFFFFFFF) ^^^ 0xFFFFFFFF

/-- The record a module is given next (R469): COUNT and its 64 bytes. -/
def State.ledgerRecord (s : State) (n : Nat) : Nat × List Byte :=
  let m := s.mods.look n
  let c := (m.count + 1) % 2 ^ 32
  let body := [0x53, 0x56, 0x5A, 0x57].map (BitVec.ofNat 8) ++ leBytes (1 + 256 * m.flags) 4 ++ leBytes c 4 ++ leBytes (s.get (F.MOD_LIFE_WEAR n)) 4 ++
    leBytes (s.get (F.MOD_LIFE_RATED_H n)) 4 ++ leBytes s.self 2 ++ List.replicate 38 0
  (c, body ++ leBytes (crc32c body) 4)

/-- LIFE_LEDGER_WRITE's operation, when a record is due (R471): even COUNT to slot A, odd to slot B. -/
def State.ledgerWrite (s : State) (n : Nat) (ok : Bool) : State :=
  if !(s.mods.look n).writeDue || s.mgmtFenced then s
  else
    let (c, bs) := s.ledgerRecord n
    let s := (s.updMod n fun m => { m with writeDue := false }).out (.cmis n true 3 (if c % 2 = 0 then 128 else 192) bs)
    if ok then s.updMod n fun m => { m with count := c }
    else (s.updMod n fun m => { m with again := true }).flt 0x101 (packW [(0, n)])

/-! ### Cages (R473 to R485) -/

/-- Changes a cage's record. -/
def State.updCage (s : State) (n : Nat) (f : Cage → Cage) : State := { s with cages := s.cages.upd n f }

/-- A feed is good: 1 is A, 2 is B. -/
def State.feedOk (s : State) (n f : Nat) : Bool := if f = 1 then s.flag (F.CPW_STATUS_A_GOOD n) else f == 2 && s.flag (F.CPW_STATUS_B_GOOD n)

/-- The feed that PREFER names. -/
def State.preferred (s : State) (n : Nat) : Nat := if s.flag (F.CPW_CTRL_PREFER n) then 2 else 1

/-- The selected feed (R474); 0 is none. -/
def State.selected (s : State) (n : Nat) : Nat :=
  let p := s.preferred n
  if s.feedOk n p then p else if s.feedOk n (3 - p) then 3 - p else 0

/-- State of a cage (R477). -/
def State.cage (s : State) (n : Nat) : Nat := s.get (F.CPW_STATUS_STATE n)

/-- A fault of a cage with the last trip's cause. -/
def State.cageFlt (s : State) (n src : Nat) : State := s.flt src (packW [(0, n), (8, s.get (F.CPW_STATUS_CAUSE n))])

/-- Every gate turns off in a state: power-good goes with the active feed, and module management stops (R464, R466, R476). -/
def State.gatesOff (s : State) (n st : Nat) : State := (((s.put (F.CPW_STATUS_STATE n) st).put (F.CPW_STATUS_FEED n) 0).put (F.CPW_STATUS_PG n) 0).modStop n

/-- QUALIFY: the insertion delay starts on the feed selected. -/
def State.qualify (s : State) (n : Nat) (retry : Bool) : State := (s.gatesOff n 2).updCage n fun c => { c with retry := retry, feed := s.selected n }

/-- Each "then" of R478. -/
def State.cageThen (s : State) (n : Nat) : State :=
  if (s.cages.look n).latched then s.gatesOff n 7
  else if !s.flag (F.CPW_CTRL_EN n) then s.gatesOff n 1
  else if s.get (F.CPW_STATUS_WAIT_MS n) > 0 then s.gatesOff n 6
  else s.qualify n false

/-- CAGE_PRESENT's and CAGE_ABSENT's operation. -/
def State.cageIn (s : State) (n : Nat) : State := if s.cage n = 0 then (s.put (F.CPW_STATUS_PRESENT n) 1).cageThen n else s
def State.cageOut (s : State) (n : Nat) : State := (s.put (F.CPW_STATUS_PRESENT n) 0).gatesOff n 0

/-- ABSENCE_CLEAR's operation (R483). -/
def State.cageForget (s : State) (n : Nat) : State :=
  if s.flag (F.CPW_STATUS_PRESENT n) then s
  else ((s.put (F.CPW_STATUS_RETRIES n) 0).put (F.CPW_STATUS_WAIT_MS n) 0).updCage n fun c => { c with latched := false }

/-- A swap begins: the active gate turns off (R484). -/
def State.swapStart (s : State) (n to' : Nat) : State :=
  let s := ((s.put (F.CPW_STATUS_STATE n) 5).put (F.CPW_STATUS_FEED n) 0).bump (F.CPW_COUNT_SWAPS n) 1
  (s.updCage n fun c => { c with feed := to' }).cageFlt n 0x107

/-- A feed change (R474, R478, R484). -/
def State.feedMoved (s : State) (n : Nat) : State :=
  let act := s.get (F.CPW_STATUS_FEED n)
  match s.cage n with
  | 2 => s.updCage n fun c => { c with feed := s.selected n }
  | 3 => if s.feedOk n act then s else s.qualify n false
  | 4 => if s.feedOk n act then s else if s.feedOk n (3 - act) then s.swapStart n (3 - act) else (s.qualify n false).cageFlt n 0x106
  | 5 => if s.feedOk n (s.cages.look n).feed then s else (s.qualify n false).cageFlt n 0x106
  | _ => s

/-- FEED_GOOD's operation: its enable bit set, and a window that some voltage meets (R474). -/
def State.feedUp (s : State) (n : Nat) (isB : Bool) : State :=
  if !s.flag (if isB then F.CPW_CTRL_B_EN n else F.CPW_CTRL_A_EN n) || decide (s.get (F.CPW_WINDOW_UV_MV n) ≥ s.get (F.CPW_WINDOW_OV_MV n)) then s
  else (s.put (if isB then F.CPW_STATUS_B_GOOD n else F.CPW_STATUS_A_GOOD n) 1).feedMoved n

/-- FEED_BAD's operation. -/
def State.feedDown (s : State) (n : Nat) (isB : Bool) : State := (s.put (if isB then F.CPW_STATUS_B_GOOD n else F.CPW_STATUS_A_GOOD n) 0).feedMoved n

/-- What a write of CPW_CTRL brings, once its fields are taken: EN (R478), then a feed change (R485). `was`: EN before. -/
def State.cageCtrl (s : State) (n : Nat) (was : Bool) : State :=
  let en := s.flag (F.CPW_CTRL_EN n)
  let s := if s.flag (F.CPW_CTRL_A_EN n) then s else s.put (F.CPW_STATUS_A_GOOD n) 0
  let s := if s.flag (F.CPW_CTRL_B_EN n) then s else s.put (F.CPW_STATUS_B_GOOD n) 0
  let s := if !en && decide (2 ≤ s.cage n ∧ s.cage n ≤ 6) then s.gatesOff n 1
    else if en && !was && s.cage n == 1 then s.cageThen n else s
  s.feedMoved n

/-- CAGE_QUALIFIED's operation: RAMP on the feed; RETRIES counts ramps that follow RETRY_WAIT (R482). -/
def State.rampStart (s : State) (n : Nat) : State :=
  let c := s.cages.look n
  if s.cage n ≠ 2 ∨ c.feed = 0 ∨ s.selected n ≠ c.feed then s
  else
    let s := (s.put (F.CPW_STATUS_STATE n) 3).put (F.CPW_STATUS_FEED n) c.feed
    let s := if c.retry then s.put (F.CPW_STATUS_RETRIES n) (min 8 (s.get (F.CPW_STATUS_RETRIES n) + 1)) else s
    s.updCage n fun c => { c with retry := false }

/-- POWER_GOOD's operation: a gate must be on. -/
def State.railUp (s : State) (n : Nat) : State :=
  let st := s.cage n
  if s.get (F.CPW_STATUS_FEED n) = 0 ∨ ¬(3 ≤ st ∧ st ≤ 5) then s
  else
    let was := s.flag (F.CPW_STATUS_PG n)
    let s := (s.put (F.CPW_STATUS_PG n) 1).put (F.CPW_STATUS_STATE n) 4
    if was then s else s.modStart n

/-- POWER_GOOD_LOST's operation. -/
def State.railDown (s : State) (n : Nat) : State := (s.put (F.CPW_STATUS_PG n) 0).modStop n

/-- A trip with its cause (R482). -/
def State.cageTrip (s : State) (n cause onMs : Nat) : State :=
  let ms := min onMs (2 ^ 32 - 1)
  let s := ((s.put (F.CPW_STATUS_CAUSE n) cause).put (F.CPW_LAST_ON_LAST_ON_MS n) ms).bump (F.CPW_COUNT_TRIPS n) 1
  if s.get (F.CPW_STATUS_RETRIES n) < 8 then ((s.put (F.CPW_STATUS_WAIT_MS n) (min 60000 (max 1000 (64 * ms)))).gatesOff n 6).cageFlt n 0x104
  else (((s.updCage n fun c => { c with latched := true }).gatesOff n 7).cageFlt n 0x104).cageFlt n 0x105

/-- RAMP_TIMEOUT's, FAST_TRIP's and OVERCURRENT's operation (R478, R480, R481, R484). -/
def State.rampLate (s : State) (n onMs : Nat) : State :=
  if s.cage n = 3 ∨ (s.cage n = 5 ∧ s.get (F.CPW_STATUS_FEED n) ≠ 0) then s.cageTrip n 3 onMs else s
def State.fastTrip (s : State) (n onMs : Nat) : State := if 3 ≤ s.cage n ∧ s.cage n ≤ 5 then s.cageTrip n 1 onMs else s
def State.overCurrent (s : State) (n onMs : Nat) : State := if s.cage n = 4 then s.cageTrip n 2 onMs else s

/-- RETRY_WAIT_END's operation: the wait counts down in every state (R483). -/
def State.retryEnd (s : State) (n : Nat) : State :=
  if s.get (F.CPW_STATUS_WAIT_MS n) = 0 then s
  else
    let s := s.put (F.CPW_STATUS_WAIT_MS n) 0
    if s.cage n = 6 then s.qualify n true else s

/-- SWAP_DEAD_TIME_END's operation: the other gate turns on. -/
def State.deadEnd (s : State) (n : Nat) : State :=
  if s.cage n = 5 ∧ s.get (F.CPW_STATUS_FEED n) = 0 then s.put (F.CPW_STATUS_FEED n) (s.cages.look n).feed else s

/-- FEED_REVERT's operation (R485): from ON, back to the preferred feed. -/
def State.feedBack (s : State) (n : Nat) : State :=
  let p := s.preferred n
  if s.cage n = 4 ∧ s.get (F.CPW_STATUS_FEED n) ≠ p ∧ s.feedOk n p then s.swapStart n p else s

end Sys2Proof.Machine
end

