-- ==== Sys2Proof/Machine/Power.lean ====
section
/-!
DEFINITION. Power domains (R535 to R540): requests, drains, gating and waking.
-/
namespace Sys2Proof.Machine

/-- A domain's number in this model's stores: core 0, collectives 1, matching 2, host ports from 3, lane quads from 16. -/
def pdNum : PDom → Nat
  | .core => 0
  | .coll => 1
  | .mat => 2
  | .host n => 3 + n
  | .quad n => 16 + n

/-- The state code of a domain, and its request bit. -/
def pdState : PDom → Fld
  | .core => F.DEV_PD_STATUS_CORE
  | .coll => F.DEV_PD_STATUS_COL
  | .mat => F.DEV_PD_STATUS_MAT
  | .host n => ⟨0x10040, 2 * n + 7, 2 * n + 6⟩
  | .quad n => ⟨0x10048 + n / 32 * 8, 2 * (n % 32) + 1, 2 * (n % 32)⟩
def pdReq : PDom → Fld
  | .core => F.DEV_PD_CTRL_CORE
  | .coll => F.DEV_PD_CTRL_COL
  | .mat => F.DEV_PD_CTRL_MAT
  | .host n => ⟨0x10030, 3 + n, 3 + n⟩
  | .quad n => ⟨0x10038, n, n⟩

/-- Domains the device has. -/
def pdOk : PDom → Bool
  | .host n => decide (n < 4)
  | .quad n => decide (n < 64)
  | _ => true

/-- An outstanding operation of the host port's queues that needs a local host-memory access (R119, R537). -/
def State.needsHost (s : State) (k n : Nat) : Bool :=
  let o := s.ops.look k
  let r := s.runs.look (k / 64)
  r.port == n && r.pasid.isSome && o.needsLocal

/-- Outstanding operations that need a domain. -/
def State.pdOps (s : State) (d : PDom) : List Nat :=
  (s.ops.keysOf fun o => o.live && o.fin.isNone).filter fun k =>
    match d with
    | .host n => s.needsHost k n
    | .coll => (s.ops.look k).eng == .coll
    | .mat => (s.ops.look k).opcode == 0x31 && (s.ops.look k).eng == .bulk
    | _ => false

/-- The work of R537's column is done. -/
def State.pdWorkDone (s : State) (d : PDom) : Bool :=
  match d with
  | .host n =>
    let onPort := fun (p : Nat) => (s.pas.look p).port == n
    !(s.runs.vals.any fun r => r.st != .free && r.pasid.isSome && r.port == n) && !(s.wqs.vals.any fun w => w.port == n && (w.reading || !w.owed.isEmpty)) &&
    !(s.accs.vals.any fun a => a.st != .idle && onPort a.pasid) && !(s.walks.vals.any fun w => w.live && onPort w.pasid)
  | .quad n => (s.fports.look n).oq.isEmpty && (s.fports.look n).replay.isEmpty && !(s.cvys.vals.any fun c => c.role == 1 && c.outPort == n && !c.buf.isEmpty)
  | .coll => !(s.ops.vals.any fun o => o.live && o.eng == .coll)
  | .mat => !(s.msgs.vals.any (·.live)) && (s.pdOps .mat).isEmpty &&
      !(s.accs.vals.any fun a => match a.client with | .spill _ => true | .pool _ => true | .msg _ => true | .spec _ => true | _ => false)
  | .core => false

/-- A domain powers off: the effects of R537's last column. -/
def State.pdOff (s : State) (d : PDom) : State :=
  let s := { s.put (pdState d) 2 with pdLeft := s.pdLeft.del (pdNum d), pdOver := s.pdOver.erase (pdNum d) }
  match d with
  | .host n =>
    let ok := s.get F.CLK_STATUS_HOSTREF_OK
    let s := s.put F.CLK_STATUS_HOSTREF_OK (if ok.testBit n then ok - 2 ^ n else ok)
    let hs := s.get F.DEV_BRINGUP_HOSTS
    let s := s.put F.DEV_BRINGUP_HOSTS (if hs.testBit n then hs - 2 ^ n else hs)
    let s := (s.updHost n fun h => { h with refQualified := false })
    (if (s.ports.look n).up then s.hostDown n else s.portReset n false).fwdOnly
  | .quad n => (s.quadOff n).cvyBreakAll (fun c => c.onPort n && (c.st == 1 || c.st == 2 || c.st == 3)) 1
  | .coll => (s.grps.keysOf fun g => g.st == 1 || g.st == 2).foldl (fun s g => s.grpBreak g 8 false none none) s
  | .mat => s.matGated
  | .core => s

/-- A drain is over: a host port's outstanding entries complete ABORTED; the domain powers off once what they write is written. -/
def State.pdClose (s : State) (d : PDom) : State :=
  let s := { s with pdOver := if s.pdOver.contains (pdNum d) then s.pdOver else s.pdOver ++ [pdNum d] }
  match d with
  | .host n => (s.wqs.keysOf fun w => w.port == n && w.st != .free).foldl (fun s q => s.wqFnReset q false) s
  | _ => s

/-- Nothing is left to write before a domain powers off. -/
def State.pdQuiet (s : State) (d : PDom) : Bool :=
  match d with
  | .host n => !(s.wqs.vals.any fun w => w.port == n && w.st == .stopping) &&
      !(s.accs.vals.any fun a => (match a.client with | .eq _ => true | .qcbWr _ => true | _ => false) && (s.pas.look a.pasid).port == n)
  | .coll => !(s.ops.vals.any fun o => o.live && o.eng == .coll)
  | .mat => !(s.ops.vals.any fun o => o.live && o.opcode == 0x31 && o.eng == .bulk)
  | _ => true

/-- The domain of a number. -/
def pdOf (n : Nat) : PDom := if n = 1 then .coll else if n = 2 then .mat else if n < 16 then .host (n - 3) else .quad (n - 16)

/-- Domains whose drain is over power off when nothing is left to write. -/
def State.pdAttempt (s : State) : State :=
  s.pdOver.foldl (fun s n => if s.pdQuiet (pdOf n) && s.get (pdState (pdOf n)) == 1 then s.pdOff (pdOf n) else s) s

/-- A gating request on a domain (R536, R539). -/
def State.pdGate (s : State) (d : PDom) : State :=
  match d with
  | .core =>
    if s.mode = 3 ∧ s.flag F.DEV_MODE_DRAINED then { (s.resetTo .gated 3).put F.DEV_PD_STATUS_CORE 2 with active := [] } else s.put F.DEV_PD_STATUS_CORE_REJECT 1
  | _ => if s.get (pdState d) = 0 then { s.put (pdState d) 1 with pdLeft := s.pdLeft.put (pdNum d) (s.atLeast F.DEV_PD_DRAIN_STAGES 1 + 1) } else s

/-- A cleared request bit (R536, R538). -/
def State.pdWake (s : State) (d : PDom) : State :=
  match s.get (pdState d) with
  | 1 => if s.pdOver.contains (pdNum d) then s else { s.put (pdState d) 0 with pdLeft := s.pdLeft.del (pdNum d) }
  | 2 => if d = .core then s else s.put (pdState d) 3
  | _ => s

/-- A request bit is set or cleared. -/
def State.pdAsk (s : State) (d : PDom) (on : Bool) : State :=
  let was := s.flag (pdReq d)
  let s := s.put (pdReq d) (b2n on)
  if on then (if was && d != .core then s else s.pdGate d) else if was then s.pdWake d else s

/-- DOMAIN_DRAINED's operation: the work of a DRAINING domain is done. -/
def State.pdDrained (s : State) (d : PDom) : State :=
  if s.get (pdState d) = 1 ∧ s.pdWorkDone d ∧ d ≠ .core ∧ ¬ s.pdOver.contains (pdNum d) then s.pdClose d else s

/-- PD_DRAIN_TIMEOUT's operation, due once its boundaries have passed. -/
def State.pdLate (s : State) (d : PDom) : State :=
  if s.get (pdState d) ≠ 1 ∨ s.pdLeft.look (pdNum d) ≠ 1 ∨ d = .core ∨ s.pdOver.contains (pdNum d) then s
  else
    let ks := s.pdOps d
    let s := s.bump F.DEV_PD_DRAIN_ABORTED ks.length
    let s := ks.foldl (fun s k => (s.opCut k).opDone k stDown (s.ops.look k).failBytes none) s
    s.pdClose d

/-- DOMAIN_WAKE_DONE's operation: ON, or DRAINING where gating has been requested meanwhile. -/
def State.pdAwake (s : State) (d : PDom) : State :=
  if s.get (pdState d) ≠ 3 then s
  else
    let s := s.put (pdState d) 0
    let s := match d with
      | .host n => (s.put F.DEV_BRINGUP_HOSTS (s.get F.DEV_BRINGUP_HOSTS ||| 2 ^ n)).fwdOnly
      | _ => s
    if s.flag (pdReq d) then s.pdGate d else s

end Sys2Proof.Machine
end

