-- ==== Sys2Proof/Machine/Telemetry.lean ====
section
/-!
DEFINITION. Snapshots (R502 to R508) and the bandwidth meter (R509). Values that no command reports (stall cycles, a lane's codewords) are free values.
-/
namespace Sys2Proof.Machine

/-- Draws several free values. -/
def State.draws : Nat → State → List Word × State
  | 0, s => ([], s)
  | n + 1, s => let (w, s) := s.fresh; let (ws, s) := State.draws n s; (w :: ws, s)

/-- Flits of a record with a choice of sections (R502). -/
def snapFlits (sec : Nat) : Nat := 1 + (if sec.testBit 0 then 32 else 0) + (if sec.testBit 1 then 64 else 0) + (if sec.testBit 2 then 128 else 0) + (if sec.testBit 3 then 64 else 0)

/-- A port's entry (R505), its five unobserved values given. -/
def State.portEntry (s : State) (p : Nat) (free : List Word) : List Word :=
  let at' := fun i => BitVec.ofNat 64 (s.portCnt.look (4 * p + i))
  [at' 0, at' 1] ++ free.take 4 ++ [at' 2, free.getD 4 0]

/-- A sample's 4 bytes. -/
def State.sampCode (s : State) (k : Nat) : Nat := let x := s.samp.look k; x.depth % 65536 + x.delay % 65536 * 65536

/-- The sections of a record, captured at one instant (R502). -/
def State.snapBody (s : State) (sec base : Nat) : List Word × State :=
  let ctrs := if sec.testBit 0 then (List.range 256).map fun k => s.reg (0x52000 + 8 * k) else []
  let (ports, s') := if sec.testBit 1 then
      let (fr, t) := State.draws 320 s
      ((List.range 64).flatMap fun p => s.portEntry p (fr.drop (5 * p)), t)
    else ([], s)
  let vcs := if sec.testBit 2 then
      (List.range 1024).map fun i => packW [(0, s.sampCode (sampVc (i / 16) (2 * (i % 16)))), (32, s.sampCode (sampVc (i / 16) (2 * (i % 16) + 1)))]
    else []
  let injs := if sec.testBit 3 then (List.range 512).map fun i => packW [(0, s.sampCode (sampInj (base + i) false)), (32, s.sampCode (sampInj (base + i) true))] else []
  (ctrs ++ ports ++ vcs ++ injs, s')

/-- A snapshot is not written (R507). -/
def State.snapSkipped (s : State) (over' : Bool) : State := { s with snapSkip := min 65535 (s.snapSkip + 1), snapOver := s.snapOver || over' }

/-- Records of the ring, as a power of two. -/
def State.snapLog2 (s : State) : Nat := s.atLeast F.TEL_RING_BASE_LOG2 1

/-- Task 9 (R502, R507): `cut`, its pass is abandoned. -/
def State.snapTask (s : State) (cut : Bool) : State :=
  if !s.flag F.TEL_SNAP_CFG_EN || s.now % s.atLeast F.TEL_SNAP_CFG_EVERY 1 != 0 then s
  else if fwd 32 (s.get F.TEL_RING_IDX_CONSUMER) (s.get F.TEL_RING_IDX_PRODUCER) = 2 ^ s.snapLog2 then (s.bump F.TEL_SNAP_STATUS_RING_FULL 1).snapSkipped false
  else if cut then s.snapSkipped true
  else
    let sec := s.get F.TEL_SNAP_CFG_SECTIONS
    let base := s.get F.TEL_SNAP_CFG_DOM_BASE / 512 * 512
    let (ws, s) := s.snapBody sec base
    { s with snap := some ⟨s.now, sec, base, s.get F.STG_PERIOD_CODE, ws⟩ }

/-- The header (R504). -/
def State.snapHead (s : State) (c : Snap) : List Word :=
  [packW [(0, 0x545A5653), (32, 1), (48, snapFlits c.sections), (57, c.sections)],
   packW [(0, (s.snapSeq + 1) % 2 ^ 32), (32, s.snapSkip), (48, b2n s.snapOver)],
   packW [(0, c.stage), (48, s.self)], packW [(0, c.domBase), (16, c.period)], 0, 0, 0, 0]

/-- STATE of the ring follows EN and the pass (R508). -/
def State.snapState (s : State) : State := s.put F.TEL_SNAP_STATUS_STATE (b2n (s.flag F.TEL_SNAP_CFG_EN || s.snap.isSome))

/-- SNAPSHOT's operation: the captured record is written, its header last, or a ring write fails (R503, R506, R508). -/
def State.snapWrite (s : State) (ok : Bool) : State :=
  match s.snap with
  | none => s
  | some c =>
    let port := s.get F.TEL_RING_BASE_PORT
    let s := { s with snap := none }
    if !ok || !s.portUp port || !(s.fnOf port 0).bme then ((s.flt 0x089 0).put F.TEL_SNAP_CFG_EN 0).snapState
    else
      let prod := s.get F.TEL_RING_IDX_PRODUCER
      let n := snapFlits c.sections * 64
      let at' := s.get F.TEL_RING_BASE_BASE * 4096 + prod % 2 ^ s.snapLog2 * n
      let s := (s.out (.hostWrite port 0 [(at' + 64, n - 64)] (wordBytes c.words))).out (.hostWrite port 0 [(at', 64)] (wordBytes (s.snapHead c)))
      let s := s.put F.TEL_RING_IDX_PRODUCER ((prod + 1) % 2 ^ 32)
      { s with snapSeq := s.snapSeq + 1, snapSkip := 0, snapOver := false }.snapState

/-- EN has been written (R506, R508). -/
def State.snapEn (s : State) (was : Bool) : State :=
  if s.flag F.TEL_SNAP_CFG_EN && !was then { s.put F.TEL_RING_IDX_PRODUCER 0 with snapSeq := 0, snapSkip := 0, snapOver := false }.snapState else s.snapState

/-- START of the bandwidth meter: counting begins at the next boundary. -/
def State.bwStart (s : State) : State :=
  if s.flag F.TEL_BW_CTRL_BUSY then s
  else { ((s.put F.TEL_BW_CTRL_VALID 0).put F.TEL_BW_CTRL_DISTURBED 0).put F.TEL_BW_CTRL_BUSY 1 with bwLeft := some (s.atLeast F.TEL_BW_CTRL_WINDOW 1 + 1) }

/-- A boundary passes for the meters: at its first one a window begins, at its last the counts stand. -/
def State.meterTick (s : State) : State :=
  let s := match s.fmLeft with | some (n + 1) => { s with fmLeft := some n } | _ => s
  match s.bwLeft with
  | some (n + 1) =>
    let diff := fun i => (s.portCnt.look i + 2 ^ 64 - s.bwBase.look i) % 2 ^ 32
    let s' := { s with bwLeft := some n }
    if n = s.atLeast F.TEL_BW_CTRL_WINDOW 1 then { s' with bwBase := s.portCnt }
    else if n = 0 then { s' with bwBase := (List.range 256).foldl (fun t i => t.put i (diff i)) [] } else s'
  | _ => s

/-- BW_METER_DONE's operation. -/
def State.bwDone (s : State) : State :=
  if s.bwLeft != some 0 then s
  else
    let s := (List.range 64).foldl (fun s p => s.setReg (0x50100 + 8 * p) (packW [(32, s.bwBase.look (4 * p)), (0, s.bwBase.look (4 * p + 1))])) s
    { (s.put F.TEL_BW_CTRL_VALID 1).put F.TEL_BW_CTRL_BUSY 0 with bwLeft := none, bwBase := [] }

end Sys2Proof.Machine
end

