-- ==== Sys2Proof/Machine/Runs.lean ====
section
/-!
DEFINITION. Runs outside their instructions (spec/04): slots (R78), a run's own accesses (R92, R93), parking, resume and abort (R111 to R116), preemption (R109),
errors in contexts and clusters (R108), the end of runs (R105), sideband runs (R120) and program cache invalidation (R94).
-/
namespace Sys2Proof.Machine

/-- RUN_RESTORE's operation (R78): a free slot goes to a boosted queue's run first, then to the run READY longest. -/
def State.runRestore (s : State) (c : Nat) : State :=
  let boosted := fun k => (s.wqs.look (s.runs.look k).wq).boost
  let ks := s.readyFor c
  let ks := if ks.any boosted then ks.filter boosted else ks
  match sortRank (fun k => (s.runs.look k).readySeq) ks with
  | [] => s
  | k :: _ =>
    if s.residents c ≥ 128 then s
    else
      let r := s.runs.look k
      let s := { s with runs := s.runs.put k { r with st := .running, cluster := c, resid := 0, preempt := false } }
      (if r.image.isEmpty then s.count 0x0201 c 1 (some r.dom) else s).runSaved k

/-! ### A run's own accesses -/

/-- An access of the run itself failed on the bus: BUS_ERROR, and its queue enters ERROR (R92, R186, R189). -/
def State.runBus (s : State) (ctx : Nat) : State :=
  let q := (s.runs.look ctx).wq
  let w := s.wqs.look q
  let s := s.endRun ctx stBus false
  if w.st = .running then s.wqError q stBus (if w.own then 0 else fwd 32 w.c w.prod) stAborted 0 else s

/-- The run's own access `id` has ended: `k` goes on with what it returned. A fault waits for RUN_PARK (R111);
a translation refused without a walk ends the run ABORTED (R208). -/
def State.ownDone (s : State) (ctx id : Nat) (kind : AccKind) (r : AccRes) (k : State → List Word → State) : State :=
  if (s.runs.look ctx).await != some id then s
  else
    let s := s.updRun ctx fun r => { r with await := none }
    match r with
    | .ok ws => k s ws
    | .busErr => s.runBus ctx
    | .xlate cause level va => s.updRun ctx fun r => { r with faults := r.faults ++ [⟨0, cause, level, kind.code, va, r.pc⟩] }
    | _ => s.endRun ctx stAborted false

/-- An image line has been read (R92, R94): it fills the cache, displacing the oldest of 8,192 lines, unless an invalidation waits for its access. -/
def State.fetchDone (s : State) (ctx id : Nat) (r : AccRes) : State :=
  let a := s.accs.look id
  let va := (a.orig.headD (0, 0)).1
  s.ownDone ctx id .fetch r fun s ws =>
    if s.invals.vals.any fun v => v.live && v.waits.contains id then s
    else { s with pcache := (a.pasid, va, ws) :: (s.pcache.filter fun l => !(l.1 == a.pasid && l.2.1 == va)).take 8191 }

/-- LD's word has returned (R93, R132). While the run is parked, the result and the step are recorded for the resume (R113). -/
def State.ldDone (s : State) (ctx id rd : Nat) (r : AccRes) : State :=
  s.ownDone ctx id .read r fun s ws =>
    let v := ws.headD 0
    let s := s.count 0x0200 (s.runs.look ctx).cluster 1 (some (s.runs.look ctx).dom)
    (s.updRun ctx fun r => if r.st = .parked then { r.setG rd v with deferred := (r.setG rd v).deferred ++ [(16, 1)] }
      else { r.setG rd v with pc := r.nextPc, steps := r.steps + 1 }).unblock ctx

/-- ST's write has left (R93). -/
def State.stDone (s : State) (ctx id : Nat) (r : AccRes) : State := s.ownDone ctx id .write r fun s _ => s.retire ctx ((s.runs.look ctx).pc + 1)

/-- A descriptor has been read (R123). -/
def State.descDone (s : State) (ctx id : Nat) (r : AccRes) : State := s.ownDone ctx id .read r fun s ws => s.updRun ctx fun r => { r with desc := some ws }

/-- A fragment table has been read (R185). -/
def State.fragDone (s : State) (ctx id va : Nat) (r : AccRes) : State :=
  s.ownDone ctx id .read r fun s ws => s.updRun ctx fun r => { r with frags := r.frags ++ [(va, ws)] }

/-! ### Parking -/

/-- Operations of a run that are parked are cancelled (R105, R115). -/
def State.cancelParked (s : State) (ctx : Nat) : State :=
  let ks := (s.runs.look ctx).parkedOps
  let s := s.updRun ctx fun r => { r with faults := [], parkedOps := [] }
  ks.foldl (fun s k => if (s.ops.look k).live then s.opCancelParked k else s) s

/-- RUN_PARK's operation (R105, R111 to R113): a run that met faults parks at a clean edge, one fault event for each. A saved READY run parks once it is resident
again; a run ended from outside never parks. -/
def State.runPark (s : State) (ctx : Nat) : State :=
  let r := s.runs.look ctx
  if r.faults.isEmpty || r.st == .ready || r.st == .free then s
  else if r.st = .ending ∧ r.outside then s.cancelParked ctx
  else
    let own := r.faults.any (·.eng == 0)
    let last := r.faults.getLastD default
    let more := if r.st = .parked then r.faults.length else 1
    let s := s.updRun ctx fun r => { r with
      prev := if r.st = .parked then r.prev else if own then .running else r.st
      prevBlock := if r.st = .parked then r.prevBlock else if own then .none else r.block
      st := .parked, block := .none, preempt := false, faults := [], parks := min (r.parks + more) 255, faultPc := last.pc, faultVa := last.va }
    let s := s.count 0x0203 r.cluster 1 (some r.dom)
    r.faults.foldl (fun s f => s.faultEvent (r.pasid.getD 0) f.cause f.eng f.acc f.level (s.handle ctx) f.pc f.va) s

/-- The context a handle of SEQ_RUN_RESUME or SEQ_RUN_ABORT names, with RESULT (R116). -/
def State.handleRun (s : State) (h : Nat) : Nat × Nat :=
  let ctx := h % 8192
  if (s.runs.look ctx).st = .free ∨ s.handle ctx ≠ h then (ctx, 2) else if (s.runs.look ctx).st ≠ .parked then (ctx, 1) else (ctx, 0)

/-- Records a command's result (SEQ_RUN_CMD_RESULT). -/
def State.runResult (s : State) (cmd h res : Nat) : State :=
  ((s.put F.SEQ_RUN_CMD_RESULT_CMD cmd).put F.SEQ_RUN_CMD_RESULT_RESULT res).put F.SEQ_RUN_CMD_RESULT_HANDLE h

/-- Applies what a parked run recorded (R113); 16 stands for the step of an LD. -/
def Run.applied (r : Run) : Run :=
  r.deferred.foldl (fun r e => if e.1 = 16 then { r with steps := r.steps + e.2.toNat } else if e.1 = 0 then r else { r with g := r.g.put e.1 e.2 }) { r with deferred := [] }

/-- RUN_RESUME's operation (R114, R116). -/
def State.runResume (s : State) (h : Nat) : State :=
  let (ctx, res) := s.handleRun h
  let s := s.runResult 0 h res
  if res ≠ 0 then s
  else
    let ks := (s.runs.look ctx).parkedOps
    let chans := s.chans.keysOf fun ch => ch.parked && ch.bursts.any fun b => b.faulted.isSome && ks.contains b.op
    let s := s.updRun ctx fun r =>
      let r := r.applied
      let ready := r.doneParked || r.prev == .running
      { r with
        parkedOps := [], doneParked := false, pc := if r.doneParked then r.nextPc else r.pc
        st := if ready then .ready else r.prev, block := if ready then .none else r.prevBlock, waitOn := if r.doneParked then none else r.waitOn
        readySeq := s.readyCtr }
    let s := { s with readyCtr := s.readyCtr + 1 }
    chans.foldl (fun s c => s.chanResume c) s

/-- RUN_ABORT's operation (R115, R116). -/
def State.runAbort (s : State) (h : Nat) : State :=
  let (ctx, res) := s.handleRun h
  let s := s.runResult 1 h res
  if res ≠ 0 then s else (s.cancelParked ctx).endRun ctx stAborted true

/-! ### Timeouts, preemption, errors -/

/-- WAIT_TIMEOUT's operation: the timer of a WAIT has expired, and its counter is read again (R101, R113). -/
def State.waitTimeout (s : State) (ctx : Nat) : State :=
  match (s.opsOf ctx).find? fun k => let o := s.ops.look k; o.opcode == 0x40 && o.fin.isNone && o.due == 1 with
  | none => s
  | some k =>
    let o := s.ops.look k
    let c := s.ctrs.look o.arg
    if c.dom ≠ some (s.runs.look ctx).dom then s.opDone k stRights 0 none
    else s.opDone k (if o.x.operand.toNat ≤ c.val.toNat then stOk else stTimeout) 0 none

/-- Preemption in one cluster at a boundary (R109, R110): a run that has not begun an instruction leaves its slot at once. -/
def State.preemptCluster (s : State) (c : Nat) : State :=
  let n := min (s.readyFor c).length (min (s.atLeast F.SEQ_PREEMPT_MAX_PER_STAGE 1) 128)
  let able := s.runs.keysOf fun r => r.st == .running && r.cluster == c && r.wq != 65536 && !r.preempt && r.faults.isEmpty &&
    decide (r.resid ≥ s.atLeast F.SEQ_PREEMPT_MIN_STAGES 1) && !(s.wqs.look r.wq).boost
  let weight := fun (r : Run) => if r.wq = 4 then 1 else (s.wqs.look r.wq).weight
  let rank := fun k => let r := s.runs.look k; (2 ^ 40 - r.resid) * 2 ^ 24 + weight r * 2 ^ 16 + (65535 - r.wq)
  ((sortRank rank able).take n).foldl (fun s k =>
    let r := s.runs.look k
    let s := (s.bump F.SEQ_PREEMPT_COUNT_COUNT 1).count 0x0202 c 1 (some r.dom)
    let s := s.updRun k fun r => { r with preempt := true }
    if r.await.isNone then s.yieldRun k else s) s

/-- Residence counts and preemption at a boundary. -/
def State.preemptAll (s : State) : State :=
  let s := { s with runs := s.runs.map fun (e : Nat × Run) => (e.1, if e.2.st = .running then { e.2 with resid := e.2.resid + 1 } else e.2) }
  if s.flag F.SEQ_PREEMPT_EN then (List.range 16).foldl (fun s c => s.preemptCluster c) s else s

/-- A run's context has an uncorrectable error (R108). -/
def State.ctxLost (s : State) (ctx : Nat) : State := s.endRun ctx stAborted true

/-- A cluster is fenced (R108): its resident runs end ABORTED. -/
def State.clusterFence (s : State) (c : Nat) : State :=
  let s := { s with fenced := if s.fenced.contains c then s.fenced else c :: s.fenced }
  (s.runs.keysOf fun r => r.st == .running && r.cluster == c && r.wq != 65536).foldl (fun s k => s.endRun k stAborted true) s

/-- SEQ_CTX_ECC's operation. -/
def State.ctxEcc (s : State) (ctx : Nat) : State :=
  let r := s.runs.look ctx
  if r.st = .free then s else (s.fltAt 0x048 (BitVec.ofNat 64 (s.handle ctx)) (if ctx < 8192 ∧ r.wq ≠ 4 then some r.port else none)).ctxLost ctx

/-- SEQ_CLUSTER_ECC's operation. -/
def State.clusterEcc (s : State) (c : Nat) : State := (s.flt 0x049 (BitVec.ofNat 64 c)).clusterFence c

/-! ### The end of runs -/

/-- What a run that has ended leaves behind (R105, R106): its locks, its WAITs, and parked operations if it was ended from outside. -/
def State.runOver (s : State) (ctx : Nat) : State :=
  let r := s.runs.look ctx
  if r.st != .ending then s
  else
    let s := s.lockRunEnd ctx (r.endSt == stOk)
    let s := if r.outside then s.cancelParked ctx else s
    { s with roomQ := s.roomQ.filter (·.1 != ctx) }.fenceEval ctx

/-! ### Sideband runs and the program cache -/

/-- SIDEBAND_RUN_START's operation (R120): GO is ignored while a run is in progress; a halted or sealed device starts no run (R512, R453). -/
def State.sbStart (s : State) : State :=
  if s.flag F.SEQ_SB_CTRL_STATE || s.halted || s.sealed || s.mode == 0 then s
  else
    let g : Tab Word := (List.range 14).foldl (fun (t : Tab Word) i => t.put (i + 1) (BitVec.ofNat 64 (s.get (F.SEQ_SB_G_VALUE i)))) []
    let r : Run := { (default : Run) with st := .running, wq := 65536, dom := 0, prog := .sideband, params := .none, limit := 65536, g := g }
    { s.put F.SEQ_SB_CTRL_STATE 1 with runs := s.runs.put sbCtx r }

/-- PCACHE_INVALIDATE's operation (R94): lines go, and fetches in flight that would fill such a line are made again. -/
def State.pcacheInv (s : State) (all : Bool) (pasid : Nat) : State :=
  let mine := fun p => all || p == pasid
  let s := { s with pcache := s.pcache.filter fun l => !mine l.1 }
  (s.accs.keysOf fun a => (match a.client with | .fetch _ => true | _ => false) && mine a.pasid).foldl (fun s id =>
    match (s.accs.look id).client with
    | .fetch ctx => (s.accDrop id).updRun ctx fun r => if r.await = some id then { r with await := none } else r
    | _ => s) s

end Sys2Proof.Machine
end

