-- ==== Sys2Proof/Machine/Issue.lean ====
section
/-!
DEFINITION. What each Dexez instruction does when it falls due (spec/05): arithmetic and control, room in engines (R97), job references (R183 to R186), data
operations, messaging, counters, collectives, locks, events and the privileged forms (R161).
-/
namespace Sys2Proof.Machine

/-! ### Issue -/

/-- Instructions a sideband run may use (R120): arithmetic, logic, moves, loads that need no memory, branches, LOCK, UNLOCK, END, and the forms R161 marks "regs". -/
def Ins.sbOk (i : Ins) : Bool :=
  let o := i.opcode
  (1 ≤ o && o ≤ 3) || (6 ≤ o && o ≤ 0x0D) || (0x10 ≤ o && o ≤ 0x12) || o == 0x60 || o == 0x61 || o == 0x80 || o == 0x83 || o == 0x85 || o == 0x86 ||
  o == 0x88 || o == 0x89 || ((o == 0x81 || o == 0x84 || o == 0x87) && i.opf == 1)

/-- An instruction of an opcode falls due (R121), on a sideband run under R120. -/
def State.dex (s : State) (ctx : Nat) (mine : Nat → Bool) (k : State → Run → Ins → State) : State :=
  s.issue ctx mine fun s r i => if ctx = sbCtx ∧ !i.sbOk then s.endRun ctx stIllegal false else k s r i

/-- A register instruction retires with its result (R131, R133). -/
def State.dexReg (s : State) (ctx : Nat) (i : Ins) (v : Word) : State :=
  let pc := (s.runs.look ctx).pc + i.size
  (s.updRun ctx fun r => r.setG i.rd v).retire ctx pc

/-- An arithmetic instruction (R133). -/
def State.dexAlu (s : State) (ctx oc : Nat) (f : Word → Word → Word) : State :=
  s.dex ctx (· == oc) fun s r i => s.dexReg ctx i (f (r.rg i.ra) (if i.opf % 2 = 1 then i.simm else r.rg i.rb))

/-- NOP (R130). -/
def State.dexNop (s : State) (ctx : Nat) : State := s.dex ctx (· == 0x00) fun s r i => s.retire ctx (r.pc + i.size)

/-- END (R104, R130). -/
def State.dexEnd (s : State) (ctx : Nat) : State := s.dex ctx (· == 0x01) fun s _ _ => s.endRun ctx stOk false

/-- LDQ, LDI and MOV (R131, R133). -/
def State.dexLdq (s : State) (ctx : Nat) : State := s.dex ctx (· == 0x02) fun s _ i => s.dexReg ctx i i.w2
def State.dexLdi (s : State) (ctx : Nat) : State := s.dex ctx (· == 0x03) fun s _ i => s.dexReg ctx i i.simm
def State.dexMov (s : State) (ctx : Nat) : State := s.dex ctx (· == 0x0D) fun s r i => s.dexReg ctx i (r.rg i.ra)

/-- A branch retires (R134). -/
def State.dexJump (s : State) (ctx : Nat) (r : Run) (i : Ins) (taken : Bool) : State := s.retire ctx (if taken then i.imm % 65536 else r.pc + 1)

/-- BR. -/
def State.dexBr (s : State) (ctx : Nat) : State := s.dex ctx (· == 0x10) fun s r i => s.dexJump ctx r i true

/-- The condition of BRC (R134). -/
def brcTaken (opf : Nat) (a b : Word) : Bool :=
  match opf with
  | 0 => a == b
  | 1 => a != b
  | 2 => a.ult b
  | 3 => !a.ult b
  | 4 => a.slt b
  | _ => !a.slt b

/-- BRC. -/
def State.dexBrc (s : State) (ctx : Nat) : State := s.dex ctx (· == 0x11) fun s r i => s.dexJump ctx r i (brcTaken i.opf (r.rg i.ra) (r.rg i.rb))

/-- BRS (R135). -/
def State.dexBrs (s : State) (ctx : Nat) : State :=
  s.dex ctx (· == 0x12) fun s r i =>
    let st := wbits (r.rg 15) 7 0
    let code := bitsOf i.imm 23 16
    s.dexJump ctx r i (match i.opf with | 0 => st == code | 1 => st != code | _ => st != 0)

/-- An unassigned opcode (R122): it ends the run before any effect. -/
def State.dexUnassigned (s : State) (ctx : Nat) : State := s.dex ctx unassigned fun s _ _ => s.endRun ctx stIllegal false

/-- LD (R93, R132): the run waits in BLOCKED; a message's block is on chip (R119). -/
def State.dexLd (s : State) (ctx : Nat) : State :=
  s.dex ctx (· == 0x04) fun s r i =>
    let n := (r.rg i.ra).toNat + i.imm
    match r.params with
    | .none => s.endRun ctx stBounds false
    | .msg ws => if n < ws.length then s.dexReg ctx i (ws.getD n 0) else s.endRun ctx stBounds false
    | .host ptr words =>
      if n < words then
        let s := s.runAccess ctx (.ld ctx) .read (ptr + n * 8) 8 []
        s.updRun ctx fun r => { r with st := .blocked, block := .ld i.rd, nextPc := r.pc + 1, preempt := false }
      else s.endRun ctx stBounds false

/-- ST (R93, R132). -/
def State.dexSt (s : State) (ctx : Nat) : State :=
  s.dex ctx (· == 0x05) fun s r i =>
    let n := (r.rg i.ra).toNat + i.imm
    let v := r.rg i.rb
    match r.params with
    | .none => s.endRun ctx stBounds false
    | .msg ws => if n < ws.length then (s.updRun ctx fun r => { r with params := .msg (ws.set n v) }).retire ctx (r.pc + 1) else s.endRun ctx stBounds false
    | .host ptr words => if n < words then s.runAccess ctx (.st ctx) .write (ptr + n * 8) 8 (leBytes v.toNat 8) else s.endRun ctx stBounds false

/-! ### Room in engines (R97) -/

/-- Kinds of room a run may wait for, by number: below 8 a channel of its queue's priority, from 100 a named channel, 300 a waystation record, then members of groups,
match contexts, and pair channels under SYNC. -/
def roomChan (c : Nat) : Nat := 100 + c
abbrev roomWay : Nat := 300
def roomMem (g port fn : Nat) : Nat := 10000 + (g * 4 + port) * 256 + fn
def roomMat (ctx : Nat) : Nat := 2 ^ 24 + ctx
def roomPair (p : Nat) : Nat := 2 ^ 40 + p

/-- Room of a kind is free. -/
def State.roomFree (s : State) (key : Nat) : Bool :=
  if key < 8 then (prioOrder key).any fun p => (List.range 128).any fun c => s.opChan c && s.get (F.BLK_CH_CFG_PRIO c) == p && decide ((s.chans.look c).ops.length < 64)
  else if key < 300 then decide ((s.chans.look (key - 100)).ops.length < 64)
  else if key = 300 then s.wayRoom 32
  else if key < 2 ^ 24 then
    let n := key - 10000
    match s.memIdx (n / 1024) (n / 256 % 4) (n % 256) with
    | some j => (((s.grps.look (n / 1024)).mems[j]?).bind (·.op)).isNone
    | none => true
  else if key < 2 ^ 40 then let c := key - 2 ^ 24; (s.mctx.look c).ready && !s.ctxBusy c
  else let t := s.ptx.look (key - 2 ^ 40); t.sync.isNone || t.abandoned

/-- A run blocks until room appears, behind those that wait already. -/
def State.roomBlock (s : State) (ctx key : Nat) : State :=
  let s := s.updRun ctx fun r => { r with st := .blocked, block := .room, nextPc := r.pc, preempt := false }
  { s with roomQ := if s.roomQ.any (·.1 == ctx) then s.roomQ.map (fun (e : Nat × Nat) => if e.1 = ctx then (ctx, key) else e) else s.roomQ ++ [(ctx, key)] }

/-- The run waits for nothing any more. -/
def State.roomTaken (s : State) (ctx : Nat) : State := { s with roomQ := s.roomQ.filter (·.1 != ctx) }

/-- Waiters ahead of a run that wait for room which `p` names. -/
def State.ahead (s : State) (ctx : Nat) (p : Nat → Bool) : Nat := ((s.roomQ.takeWhile (·.1 != ctx)).filter fun e => p e.2).length

/-- The channel a bulk mover operation may take now, once the room reserved for earlier waiters is left to them. -/
def State.chanRoom (s : State) (ctx wq : Nat) (pair : Option Nat) : Option Nat :=
  (s.pickChan wq pair).bind fun c =>
    if 64 - (s.chans.look c).ops.length > s.ahead ctx (fun key => decide (key < 8) || key == roomChan c) then some c else none

/-- The room a bulk mover operation waits for. -/
def State.chanKey (s : State) (wq : Nat) (pair : Option Nat) : Nat :=
  match pair.bind fun p => (List.range 128).find? fun c => (s.chans.look c).ops.any fun k => let o := s.ops.look k; o.src.1 == p && o.opcode != 0x26 && o.eng == .bulk with
  | some c => roomChan c
  | none => s.qprio wq % 8

/-- Takes the one room of a key, unless an earlier run waits for it. -/
def State.oneRoom (s : State) (ctx key : Nat) (k : State → State) : State :=
  if s.roomFree key && decide (s.ahead ctx (· == key) = 0) then k s else s.roomBlock ctx key

/-- Room that has appeared is reserved for the earliest waiter of its kind, which becomes READY (R97). -/
def State.wakeRoom (s : State) : State :=
  (s.roomQ.map (·.1)).foldl (fun s ctx =>
    let r := s.runs.look ctx
    let waits : Prop := (r.st = .blocked ∧ r.block = .room) ∨ (r.st = .parked ∧ r.prev = .blocked ∧ r.prevBlock = .room)
    match s.roomQ.find? (·.1 == ctx) with
    | some (_, key) =>
      let ok := if key < 300 then
          decide (s.ahead ctx (· == key) < (if key < 100 then 1 else 64 - (s.chans.look (key - 100)).ops.length)) && s.roomFree key
        else s.roomFree key && decide (s.ahead ctx (· == key) = 0)
      if waits ∧ ok then s.unblock ctx else s
    | none => s) s

/-! ### Job references (R183 to R186) -/

/-- Where the walk of a job's fragment tables stands. -/
inductive FragWalk where
  | need (va n : Nat)
  | loop
  | illegal
  | done (frs : List (Nat × Nat))
deriving DecidableEq, Repr

/-- The data fragments of a table of `n`, and the next table if its last one chains; none if it is ill-formed (R184). -/
def fragTable (ws : List Word) : Nat → Nat → Option (List (Nat × Nat) × Option (Nat × Nat))
  | _, 0 => some ([], none)
  | i, n + 1 =>
    let va := (ws.getD (2 * i) 0).toNat
    let w := ws.getD (2 * i + 1) 0
    let len := wbits w 31 0
    if wbit w 32 then (if n = 0 ∧ 1 ≤ len ∧ len ≤ 256 then some ([], some (va, len)) else none)
    else (fragTable ws (i + 1) n).map fun (l, t) => ((va, len) :: l, t)

/-- Walks a job's chain from a table (R185): at most 16 tables and 4,096 fragments. -/
def fragWalk (seen : List (Nat × List Word)) : Nat → Nat → Nat → Nat → FragWalk
  | 0, _, _, _ => .loop
  | tables + 1, va, n, total =>
    if total + n > 4096 then .loop
    else match seen.find? fun e => e.1 == va && decide (2 * n ≤ e.2.length) with
      | none => .need va n
      | some (_, ws) =>
        match fragTable ws 0 n with
        | none => .illegal
        | some (l, none) => .done l
        | some (l, some (va', n')) =>
          match fragWalk seen tables va' n' (total + n) with
          | .done m => .done (l ++ m)
          | w => w

/-- Resolves a local address field of `len` bytes: the job's fragments (none for a plain address) and the address or offset. -/
def State.withJob (s : State) (ctx : Nat) (r : Run) (a : Word) (len : Nat) (k : State → List (Nat × Nat) → Nat → State) : State :=
  if !isJob a then k s [] a.toNat
  else if r.pasid.isNone || r.fragCount = 0 then s.endRun ctx stIllegal false
  else match fragWalk r.frags 16 r.fragPtr r.fragCount 0 with
    | .loop => s.endRun ctx stLoop false
    | .illegal => s.endRun ctx stIllegal false
    | .need va n => s.runAccess ctx (.frag ctx va) .read va (16 * n) []
    | .done frs =>
      let off := wbits a 61 0
      if off + len > pieceLen frs then s.endRun ctx stIllegal false else k s (if frs.isEmpty then [(0, 0)] else frs) off

/-! ### Issue checks (R125) -/

/-- The operation completes at issue with a status (R125), and waits for no room. -/
def State.dexStop (s : State) (ctx : Nat) (i : Ins) (o : Op) (st : Nat) : State := (s.roomTaken ctx).opInstant ctx i o st 0 none

/-- Goes on once a slot of the run is free (R97). -/
def State.withSlot (s : State) (ctx : Nat) (k : State → State) : State :=
  match s.freeSlot ctx with
  | none => s.updRun ctx fun r => { r with st := .blocked, block := .slots, nextPc := r.pc, preempt := false }
  | some _ => k s

/-- The checks every data operation shares: local access of a run without an address space (R119), counters, the host port's domain (R537). -/
def State.dataGate (s : State) (ctx : Nat) (r : Run) (i : Ins) (o : Op) (k : State → State) : State :=
  if r.pasid.isNone && o.needsLocal then s.endRun ctx stIllegal false
  else if !s.lctrOk r i then s.dexStop ctx i o stRights
  else if o.needsLocal && s.pdHost r.port != 0 then s.dexStop ctx i o stDown
  else k s

/-- Accepts an operation (R97): `k` starts it under its number. -/
def State.accept (s : State) (ctx : Nat) (i : Ins) (o : Op) (k : State → Nat → State) : State :=
  match (s.roomTaken ctx).opIssue ctx i o stOk with
  | (none, s) => s
  | (some n, s) => k s n

/-- The operation ID of an operation: its number, told apart from later ones in the same slot. -/
def Op.newId (o : Op) (k : Nat) : Nat := k + o.seq % 4096 * 2 ^ 20

/-- A remote operation (R124, R125): endpoint, key, pair channel, then a channel of the bulk mover. -/
def State.dexRemote (s : State) (ctx : Nat) (r : Run) (i : Ins) (o : Op) : State :=
  s.dataGate ctx r i o fun s =>
    let x := o.x
    if (s.endpoint x.node).isNone then s.dexStop ctx i o stUnreach
    else if (s.key r.dom).isNone then s.dexStop ctx i o stAuth
    else
      let p := pairKey r.port r.fn x.node x.func x.chan
      let t := s.ptx.look p
      if t.live && t.sync.isSome && t.abandoned then s.dexStop ctx i o stUnreach
      else if t.live && t.sync.isSome then s.roomBlock ctx (roomPair p)
      else if !t.live && !s.wayRoom 32 then s.roomBlock ctx roomWay
      else s.withSlot ctx fun s =>
        match s.chanRoom ctx r.wq (some p) with
        | none => s.roomBlock ctx (s.chanKey r.wq (some p))
        | some c =>
          s.accept ctx i o fun s k =>
            let (s, key) := s.txRecord r.port r.fn x.node x.func x.chan
            (s.updOp k fun o => { o with src := (key, 0), opid := o.newId k }).bindTo k c

/-- The endpoint field of R124, if its values are defined: node, function, channel. -/
def epField (w : Word) : Option (Nat × Nat × Nat) :=
  let func := wbits w 27 20
  let chan := wbits w 29 28
  if func ≤ 128 ∧ chan ≤ 1 then some (wbits w 19 0, func, chan) else none

/-- A blank record of a bulk mover operation. -/
def bulkOp (r : Run) (i : Ins) (x : Xfer) : Op := { mkOp r i .bulk with x := x, quota := 2 ^ 40 }

/-! ### Remote and local data -/

/-- PUT and GET (R136 to R138). -/
def State.dexPutGet (s : State) (ctx oc : Nat) : State :=
  s.dex ctx (· == oc) fun s r i => s.withDesc ctx r i 5 fun s ws =>
    let len := wbits (ws.getD 4 0) 31 0
    let inl := oc == 0x20 && i.opf % 2 == 1
    match epField (ws.getD 0 0) with
    | none => s.endRun ctx stIllegal false
    | some (node, func, chan) =>
      if inl && (len == 0 || decide (len > 8)) then s.endRun ctx stIllegal false
      else
        let x : Xfer := { (default : Xfer) with node := node, func := func, chan := chan, key := ws.getD 1 0, roff := (ws.getD 2 0).toNat, total := len }
        if inl then
          let bs := leBytes (r.rg i.rb).toNat len
          s.dexRemote ctx r i { bulkOp r i { x with inl := some bs } with acc := bs }
        else s.withJob ctx r (ws.getD 3 0) len fun s frs la => s.dexRemote ctx r i (bulkOp r i { x with la := la, frs := frs })

/-- PUTX and GETX (R139). -/
def State.dexIndexed (s : State) (ctx oc : Nat) : State :=
  s.dex ctx (· == oc) fun s r i => s.withDesc ctx r i 6 fun s ws =>
    let count := wbits (ws.getD 5 0) 31 0
    let esize := wbits (ws.getD 5 0) 44 32
    let itab := (ws.getD 4 0).toNat
    let rside := i.opf % 2
    match epField (ws.getD 0 0) with
    | none => s.endRun ctx stIllegal false
    | some (node, func, chan) =>
      if itab % 4 ≠ 0 ∨ esize = 0 ∨ esize > 4096 ∨ count * esize > 0xFFFFFFFF then s.endRun ctx stIllegal false
      else s.withJob ctx r (ws.getD 3 0) (if rside = 1 then count * esize else 0) fun s frs la =>
        s.dexRemote ctx r i (bulkOp r i { (default : Xfer) with
          node := node, func := func, chan := chan, key := ws.getD 1 0, roff := (ws.getD 2 0).toNat, la := la, frs := frs, total := count * esize, esize := esize
          count := count, itab := itab, mode := if rside = 1 then 2 else 1 })

/-- AMO and AMOF (R141, R142). -/
def State.dexAmo (s : State) (ctx oc : Nat) : State :=
  s.dex ctx (· == oc) fun s r i => s.withDesc ctx r i 3 fun s ws =>
    let w32 := wbit (ws.getD 0 0) 32
    match epField (ws.getD 0 0) with
    | none => s.endRun ctx stIllegal false
    | some (node, func, chan) =>
      if (w32 && (i.opf == 1 || i.opf == 11)) || (!w32 && i.opf == 2) then s.endRun ctx stIllegal false
      else
        let cut := fun (w : Word) => if w32 then w &&& 0xFFFFFFFF else w
        let o := bulkOp r i { (default : Xfer) with
          node := node, func := func, chan := chan, key := ws.getD 1 0, roff := (ws.getD 2 0).toNat, total := if w32 then 4 else 8, sub := i.opf, w32 := w32
          fetch := oc == 0x25, operand := cut (r.rg i.rb), cmp := cut (r.rg i.rc) }
        s.dexRemote ctx r i { o with rd := if oc = 0x25 then some i.rd else none }

/-- COPY (R143). -/
def State.dexCopy (s : State) (ctx : Nat) : State :=
  s.dex ctx (· == 0x26) fun s r i => s.withDesc ctx r i 4 fun s ws =>
    let w2 := ws.getD 2 0
    let mode := wbits w2 49 48
    let n := wbits w2 31 0
    let esize := wbits w2 44 32
    let itab := (ws.getD 3 0).toNat
    if mode = 3 ∨ (mode ≠ 0 ∧ (esize = 0 ∨ esize > 4096 ∨ itab % 4 ≠ 0)) then s.endRun ctx stIllegal false
    else
      let total := if mode = 0 then n else n * esize
      s.withJob ctx r (ws.getD 0 0) (if mode = 1 then 0 else total) fun s frs la =>
      s.withJob ctx r (ws.getD 1 0) (if mode = 2 then 0 else total) fun s frs2 dst =>
        let o := bulkOp r i { (default : Xfer) with
          la := la, frs := frs, dst := dst, frs2 := frs2, total := total, esize := esize, count := if mode = 0 then 0 else n, itab := itab, mode := mode }
        s.dataGate ctx r i o fun s => s.withSlot ctx fun s =>
          if total = 0 then s.dexStop ctx i o stOk
          else match s.chanRoom ctx r.wq none with
          | none => s.roomBlock ctx (s.chanKey r.wq none)
          | some c => s.accept ctx i o fun s k => (s.updOp k fun o => { o with opid := o.newId k }).bindTo k c

/-! ### Messaging (R145 to R147) -/

/-- SEND (R145, R251). -/
def State.dexSend (s : State) (ctx : Nat) : State :=
  s.dex ctx (· == 0x30) fun s r i => s.withDesc ctx r i 4 fun s ws =>
    let len := wbits (ws.getD 3 0) 31 0
    match epField (ws.getD 0 0) with
    | none => s.endRun ctx stIllegal false
    | some (node, func, chan) => s.withJob ctx r (ws.getD 2 0) len fun s frs la =>
      let o := bulkOp r i { (default : Xfer) with
        node := node, func := func, chan := chan, ctx := wbits (ws.getD 0 0) 47 32, tag := ws.getD 1 0, la := la, frs := frs, total := len }
      s.dexRemote ctx r i { o with arg := if len ≤ s.eagerLimit then 0 else 1 }

/-- A list operation of a match context: it waits while the context is busy or its spill rings are unread (R245, R249). -/
def State.matGo (s : State) (ctx c : Nat) (k : State → State) : State :=
  if (s.mctx.look c).st = .enabled ∧ !(s.mctx.look c).ready ∧ !s.ctxBusy c then (s.spillRead c).roomBlock ctx (roomMat c)
  else if (s.mctx.look c).st = .enabled then s.oneRoom ctx (roomMat c) k else k s

/-- POST (R146): the handle of R257 is written when POST retires. -/
def State.dexPost (s : State) (ctx : Nat) : State :=
  s.dex ctx (· == 0x31) fun s r i => s.withDesc ctx r i 5 fun s ws =>
    let w0 := ws.getD 0 0
    let c := wbits w0 15 0
    let len := wbits (ws.getD 4 0) 31 0
    s.withJob ctx r (ws.getD 3 0) len fun s frs la =>
      let o := { mkOp r i .mat with
        x := { (default : Xfer) with ctx := c, la := la, frs := frs, total := len, node := wbits w0 35 16, func := wbits w0 43 36, tag := ws.getD 1 0 }, quota := 2 ^ 40 }
      let stop := fun (s : State) st => s.dexStop ctx i { o with rd := some i.rd } st
      if r.pasid.isNone then s.endRun ctx stIllegal false
      else if !s.lctrOk r i then stop s stRights
      else if s.pdHost r.port != 0 || s.pdMat != 0 then stop s stDown
      else
        let m := s.mctx.look c
        if m.st = .free ∨ m.dom ≠ r.dom ∨ some m.pasid ≠ r.pasid then stop s stRights
        else if m.st = .error then stop s stBus
        else s.withSlot ctx fun s => s.matGo ctx c fun s =>
          let recv : Nat → Recv := fun k => ⟨k, wbits w0 35 16, wbits w0 43 36, wbit w0 44, wbit w0 45, ws.getD 1 0, ws.getD 2 0, la, len, (s.mctx.look c).posts⟩
          let m := s.mctx.look c
          if !(m.allUnexp.any fun u => (recv 0).matches u.node u.func u.tag) && (s.addRecv c (recv 0)).isNone then stop s stNoRes
          else
            s.accept ctx i o fun s k =>
              let s := s.updRun ctx fun r => r.setG i.rd (s.postHandle c k)
              (s.updOp k fun o => { o with opid := o.newId k }).postIn c k (recv k)

/-- CANCEL (R147): the receive a handle names (R257). -/
def State.dexCancel (s : State) (ctx : Nat) : State :=
  s.dex ctx (· == 0x32) fun s r i =>
    let o := { mkOp r i .mat with rd := some i.rd }
    let h := r.rg i.ra
    let c := wbits h 63 48
    if (s.mctx.look c).st ≠ .free ∧ (s.mctx.look c).dom ≠ r.dom then s.withSlot ctx fun s => s.opInstant ctx i o stRights 0 none
    else match s.handleOp h with
    | none => s.withSlot ctx fun s => s.opInstant ctx i o stOk 0 (some 0)
    | some k => s.withSlot ctx fun s => s.matGo ctx c fun s =>
        let (s, hit) := s.cancelIn c k
        (s.roomTaken ctx).opInstant ctx i o stOk 0 (some (if hit then 1 else 0))

/-! ### Counters and ordering (R148 to R150) -/

/-- WAIT (R100, R101, R148). -/
def State.dexWait (s : State) (ctx : Nat) : State :=
  s.dex ctx (· == 0x40) fun s r i =>
    let c := i.imm % 65536
    let target : Word := if i.opf % 2 = 1 then BitVec.ofNat 64 (i.imm / 65536) else r.rg i.ra
    let t := wbits (r.rg i.rb) 31 0
    let v := s.ctrs.look c
    let o := { mkOp r i .ctr with arg := c, x := { (default : Xfer) with operand := target }, due := if t = 0 then 0 else t + 1 }
    s.withSlot ctx fun s =>
      if v.dom ≠ some r.dom then s.opInstant ctx i o stRights 0 none
      else if target.toNat ≤ v.val.toNat then s.opInstant ctx i o stOk 0 none
      else s.accept ctx i o fun s _ => s.updRun ctx fun r => { r with waitOn := some (c, target.toNat, if t = 0 then 0 else s.now + t) }

/-- SIGNAL and CSET (R149): `f` gives the counter's new value. -/
def State.dexCounter (s : State) (ctx oc : Nat) (f : Run → Ins → Word → Word) : State :=
  s.dex ctx (· == oc) fun s r i =>
    let c := i.imm % 65536
    let v := s.ctrs.look c
    s.withSlot ctx fun s =>
      if v.dom ≠ some r.dom then s.opInstant ctx i (mkOp r i .ctr) stRights 0 none
      else (s.ctrPut c { v with val := f r i v.val }).opInstant ctx i (mkOp r i .ctr) stOk 0 none

/-- FENCE (R150). -/
def State.dexFence (s : State) (ctx : Nat) : State :=
  s.dex ctx (· == 0x43) fun s r i => s.withSlot ctx fun s =>
    if (s.opsOf ctx).isEmpty then s.opInstant ctx i (mkOp r i .fence) stOk 0 none
    else s.accept ctx i (mkOp r i .fence) fun s _ => s.fenceEval ctx

/-! ### Collectives (R151 to R154, R316) -/

/-- The collectives engine takes new work: its domain is ON (R537) and it is not fenced (R525). -/
def State.collOpen (s : State) : Bool := s.get F.DEV_PD_STATUS_COL == 0 && !s.flag (fltPend 0x148)

/-- Issues a collective of a group. -/
def State.dexColl (s : State) (ctx : Nat) (r : Run) (i : Ins) (g : Nat) (o : Op) : State :=
  if r.pasid.isNone && o.needsLocal then s.endRun ctx stIllegal false
  else if !s.lctrOk r i then s.dexStop ctx i o stRights
  else if !s.collOpen || (o.needsLocal && s.pdHost r.port != 0) then s.dexStop ctx i o stDown
  else
    let grp := s.grps.look g
    if grp.st = 0 ∨ grp.destroyOp.isSome then s.dexStop ctx i o stNoRes
    else if grp.dom ≠ r.dom then s.dexStop ctx i o stRights
    else match s.memIdx g r.port r.fn with
    | none => s.dexStop ctx i o stNoRes
    | some j =>
      let m := grp.mems.getD j default
      let join := i.opcode == 0x50
      if !join && !m.joined then s.dexStop ctx i o stNoRes
      else if grp.st = 3 then s.dexStop ctx i o stUnreach
      else if join && m.joined && m.op.isNone then s.dexStop ctx i o stOk
      else s.withSlot ctx fun s => s.oneRoom ctx (roomMem g r.port r.fn) fun s =>
        if o.needsLocal then
          match s.chanRoom ctx r.wq none with
          | none => s.roomBlock ctx (s.chanKey r.wq none)
          | some c => s.accept ctx i o fun s k => ((s.updOp k fun o => { o with opid := o.newId k }).bindTo k c).memStart g j k join
        else s.accept ctx i o fun s k => s.memStart g j k join

/-- JOIN and BARRIER. -/
def State.dexToken (s : State) (ctx oc : Nat) : State := s.dex ctx (· == oc) fun s r i => s.dexColl ctx r i (i.imm % 4096) (mkOp r i .coll)

/-- REDUCE (R152). -/
def State.dexReduce (s : State) (ctx : Nat) : State :=
  s.dex ctx (· == 0x51) fun s r i => s.withDesc ctx r i 4 fun s ws =>
    let w0 := ws.getD 0 0
    let t := wbits w0 18 16
    let acc32 := wbit w0 20
    let count := wbits (ws.getD 3 0) 31 0
    let total := count * typeSize t
    if (decide (i.opf ≥ 3 ∧ t ≤ 3)) || (acc32 && t != 2 && t != 3) || decide (total > 0xFFFFFFFF) then s.endRun ctx stIllegal false
    else s.withJob ctx r (ws.getD 1 0) total fun s frs la => s.withJob ctx r (ws.getD 2 0) total fun s frs2 dst =>
      s.dexColl ctx r i (wbits w0 11 0) { mkOp r i .coll with
        x := { (default : Xfer) with la := la, frs := frs, dst := dst, frs2 := frs2, total := total, esize := typeSize t, count := count, sub := t, w32 := acc32 } }

/-- BCAST (R153). -/
def State.dexBcast (s : State) (ctx : Nat) : State :=
  s.dex ctx (· == 0x52) fun s r i => s.withDesc ctx r i 3 fun s ws =>
    let w0 := ws.getD 0 0
    let len := wbits (ws.getD 2 0) 31 0
    s.withJob ctx r (ws.getD 1 0) len fun s frs la =>
      s.dexColl ctx r i (wbits w0 11 0) { mkOp r i .coll with
        x := { (default : Xfer) with la := la, frs := frs, total := len, mode := if wbit w0 12 then 3 else 0 } }

/-! ### Locks, events (R155 to R159) -/

/-- LOCK. -/
def State.dexLock (s : State) (ctx : Nat) : State :=
  s.dex ctx (· == 0x60) fun s r i => s.withSlot ctx fun s =>
    let t := wbits (r.rg i.ra) 31 0
    let n := i.imm % 64
    s.accept ctx i { mkOp r i .lock with arg := n, rd := some i.rd, due := if t = 0 then 0 else t + 1 } fun s k => s.lockOp k n (i.opf % 2 == 1)

/-- UNLOCK (R157). -/
def State.dexUnlock (s : State) (ctx : Nat) : State :=
  s.dex ctx (· == 0x61) fun s r i => s.withSlot ctx fun s =>
    let n := i.imm % 64
    if (s.locks.look n).owner = some (s.runOwner ctx) then (s.lockFree n false).opInstant ctx i (mkOp r i .lock) stOk 0 none
    else s.opInstant ctx i (mkOp r i .lock) stRights 0 none

/-- EVENT and TRAP (R158, R159). -/
def State.dexEvent (s : State) (ctx : Nat) : State :=
  s.dex ctx (· == 0x70) fun s r i => s.withSlot ctx fun s =>
    s.opInstant ctx i { mkOp r i .event with x := { (default : Xfer) with tag := r.rg i.ra } } stOk (wbits (r.rg i.rb) 31 0) none
def State.dexTrap (s : State) (ctx : Nat) : State :=
  s.dex ctx (· == 0x71) fun s r i => s.withSlot ctx fun s =>
    s.opInstant ctx i { mkOp r i .event with x := { (default : Xfer) with tag := r.rg i.ra } } stOk i.imm none

/-! ### Privileged instructions (R160 to R165) -/

/-- A privileged form of an opcode: the local counter is checked first (R166). -/
def State.dexPriv (s : State) (ctx oc opf : Nat) (k : State → Run → Ins → State) : State :=
  s.dex ctx (· == oc) fun s r i =>
    if i.opf ≠ opf then s
    else s.withSlot ctx fun s => if !s.lctrOk r i then s.opInstant ctx i (mkOp r i .none) stRights 0 none else k s r i

/-- A privileged form that completes at once with the status its effect answers. -/
def State.dexNow (s : State) (ctx : Nat) (r : Run) (i : Ins) (e : State × Nat) : State :=
  (if e.2 = stOk then e.1 else s).opInstant ctx i (mkOp r i .none) e.2 0 none

/-- RTSET (R340). -/
def State.dexRtWrite (s : State) (ctx : Nat) : State :=
  s.dexPriv ctx 0x80 0 fun s r i => s.dexNow ctx r i (s.routeWrite s.idleBank (wbits (r.rg i.ra) 15 0) (r.rg i.rb), stOk)
def State.dexRtSwap (s : State) (ctx : Nat) : State :=
  s.dexPriv ctx 0x80 1 fun s r i => s.accept ctx i (mkOp r i .boundary) fun s _ => s.put F.RTC_BANK_SWAP 1
def State.dexRtCopy (s : State) (ctx : Nat) : State :=
  s.dexPriv ctx 0x80 2 fun s r i => s.accept ctx i (mkOp r i .boundary) fun s k =>
    if s.bankCopy.isSome then { s with copyQ := s.copyQ ++ [k] } else s.copyStart (some k)

/-- CONVOY (R164, R369). -/
def State.dexCvySetup (s : State) (ctx : Nat) : State :=
  s.dex ctx (· == 0x81) fun s r i =>
    if i.opf ≠ 0 then s
    else s.withDesc ctx r i 6 fun s ws =>
      let e := s.cvySetup ws
      if wbits (ws.getD 0 0) 13 12 = 3 ∨ e.2 = stIllegal then s.endRun ctx stIllegal false
      else s.withSlot ctx fun s => if !s.lctrOk r i then s.opInstant ctx i (mkOp r i .none) stRights 0 none else s.dexNow ctx r i e
def State.dexCvyTeardown (s : State) (ctx : Nat) : State :=
  s.dexPriv ctx 0x81 1 fun s r i => s.dexNow ctx r i (s.cvyTeardown (wbits (r.rg i.ra) 9 0) (wbits (r.rg i.rb) 47 0))

/-- TOLLSET (R163, R411, R420). -/
def State.dexTollset (s : State) (ctx : Nat) : State :=
  s.dex ctx (· == 0x82) fun s r i => s.withDesc ctx r i 3 fun s ws =>
    let w0 := ws.getD 0 0
    if wbits w0 39 38 ≥ 2 ∨ wbits w0 34 32 ≥ 3 then s.endRun ctx stIllegal false
    else s.withSlot ctx fun s =>
      if !s.lctrOk r i || (wbits w0 39 38 == 1 && wbits w0 31 16 != 0) then s.opInstant ctx i (mkOp r i .none) stRights 0 none
      else s.accept ctx i (mkOp r i .boundary) fun s _ => { s with tolls := s.tolls.upd (wbits w0 13 0) fun t => { t with next := some ws } }

/-- DOMAIN (R161, R435). -/
def State.dexDomActivate (s : State) (ctx : Nat) : State := s.dexPriv ctx 0x83 0 fun s r i => s.dexNow ctx r i (s.domActivate (wbits (r.rg i.ra) 15 0))
def State.dexDomRetire (s : State) (ctx : Nat) : State := s.dexPriv ctx 0x83 1 fun s r i => s.dexNow ctx r i (s.domRetire (wbits (r.rg i.ra) 15 0))
def State.dexBindFunc (s : State) (ctx : Nat) : State :=
  s.dexPriv ctx 0x83 2 fun s r i =>
    let f := r.rg i.rb
    s.dexNow ctx r i (if wbits f 7 0 > 128 then (s, stBounds) else s.bindFunc (wbits (r.rg i.ra) 15 0) (wbits f 9 8) (wbits f 7 0))
def State.dexBindPasid (s : State) (ctx : Nat) : State :=
  s.dexPriv ctx 0x83 3 fun s r i => s.dexNow ctx r i (s.bindPasid (wbits (r.rg i.ra) 15 0) (wbits (r.rg i.rb) 19 0))
def State.dexBindCtr (s : State) (ctx : Nat) : State :=
  s.dexPriv ctx 0x83 4 fun s r i => s.dexNow ctx r i (s.bindCtr (wbits (r.rg i.ra) 15 0) (wbits (r.rg i.rb) 15 0) (wbits (r.rg i.rb) 31 16 + 1))

/-- KEYOP (R162, R276). -/
def State.dexKeyDesc (s : State) (ctx opf : Nat) : State :=
  s.dex ctx (· == 0x84) fun s r i =>
    if i.opf ≠ opf then s
    else s.withDesc ctx r i 3 fun s ws => s.withSlot ctx fun s =>
      let o := { mkOp r i .none with
        rd := if opf = 0 then some i.rd else none
        x := { (default : Xfer) with key := ws.getD 0 0, roff := (ws.getD 1 0).toNat, la := (ws.getD 2 0).toNat } }
      if !s.lctrOk r i then s.opInstant ctx i o stRights 0 none else s.accept ctx i o fun s k => s.keyopStart k
def State.dexKeyRevoke (s : State) (ctx : Nat) : State :=
  s.dexPriv ctx 0x84 1 fun s r i => s.accept ctx i { mkOp r i .none with x := { (default : Xfer) with key := r.rg i.ra } } fun s k => s.keyopStart k

/-- CTXFLUSH (R161). -/
def State.dexFlushQueue (s : State) (ctx : Nat) : State := s.dexPriv ctx 0x85 0 fun s r i => s.dexNow ctx r i (s.flushQueue (wbits (r.rg i.ra) 15 0))
def State.dexFlushMatch (s : State) (ctx : Nat) : State := s.dexPriv ctx 0x85 1 fun s r i => s.dexNow ctx r i (s.flushMatch (wbits (r.rg i.ra) 15 0), stOk)
def State.dexFlushDomain (s : State) (ctx : Nat) : State := s.dexPriv ctx 0x85 2 fun s r i => s.dexNow ctx r i (s.flushDomain (wbits (r.rg i.ra) 15 0), stOk)

/-- TLBINV (R224): the scope it invalidates; an empty range has none. -/
def State.dexTlbinv (s : State) (ctx opf : Nat) (scope : Run → Ins → Option InvScope) : State :=
  s.dexPriv ctx 0x86 opf fun s r i =>
    match scope r i with
    | none => s.opInstant ctx i (mkOp r i .inval) stOk 0 none
    | some sc => s.accept ctx i (mkOp r i .inval) fun s k => (s.invalidate sc { (default : Inval) with byOp := some k }).1

/-- GROUPSET (R165, R335). -/
def State.dexGrpCreate (s : State) (ctx : Nat) : State :=
  s.dex ctx (· == 0x87) fun s r i =>
    if i.opf ≠ 0 then s
    else s.withDesc ctx r i 4 fun s ws =>
      let n := wbits (ws.getD 0 0) 43 40
      if n > 8 ∨ (n = 0 ∧ ws.getD 1 0 = 0) then s.endRun ctx stIllegal false
      else s.withSlot ctx fun s => if !s.lctrOk r i then s.opInstant ctx i (mkOp r i .none) stRights 0 none else s.dexNow ctx r i (s.grpCreate ws)
def State.dexGrpDestroy (s : State) (ctx : Nat) : State :=
  s.dexPriv ctx 0x87 1 fun s r i =>
    let g := wbits (r.rg i.ra) 11 0
    if (s.grps.look g).st = 0 ∨ (s.grps.look g).destroyOp.isSome then s.opInstant ctx i (mkOp r i .none) stNoRes 0 none
    else s.accept ctx i (mkOp r i .none) fun s k => s.grpDestroy g k

/-- EPSET. -/
def State.dexEpset (s : State) (ctx : Nat) : State :=
  s.dexPriv ctx 0x88 0 fun s r i => s.dexNow ctx r i (s.epWrite (wbits (r.rg i.ra) 19 0) (wbits (r.rg i.rb) 31 0), stOk)

/-- Bits of a register's fields that `p` names. -/
def fieldBits (off : Nat) (p : FieldRow → Bool) : Word :=
  match rowAt off with
  | some r => BitVec.ofNat 64 ((r.fields.filter p).foldl (fun n f => n + (2 ^ (f.hi + 1 - f.lo) - 1) * 2 ^ f.lo) 0)
  | none => 0

/-- Leaves a stage-latched value for the next boundary (R9): `m` the bits written. -/
def State.stagePut (s : State) (off : Nat) (m v : Word) : State :=
  let m := m &&& fieldBits off fun f => f.latch == .stage
  { s with spend := s.spend.put off ((s.spend.look off &&& ~~~m) ||| (v &&& m)), smask := s.smask.put off (s.smask.look off ||| m) }

/-- STAGECFG (R51, R161). -/
def State.dexStagePeriod (s : State) (ctx : Nat) : State :=
  s.dexPriv ctx 0x89 0 fun s r i => s.accept ctx i (mkOp r i .boundary) fun s _ =>
    let v := (F.STG_PERIOD_NEXT_ARM.into (F.STG_PERIOD_NEXT_AT_STAGE.into (F.STG_PERIOD_NEXT_CODE.into 0 (wbits (r.rg i.ra) 1 0)) (wbits (r.rg i.rb) 47 0)) 1)
    s.stagePut 0x28010 (F.STG_PERIOD_NEXT_ARM.into (F.STG_PERIOD_NEXT_AT_STAGE.into (F.STG_PERIOD_NEXT_CODE.into 0 3) (2 ^ 48 - 1)) 1) v
def State.dexStageSync (s : State) (ctx : Nat) : State :=
  s.dexPriv ctx 0x89 1 fun s r i => s.accept ctx i (mkOp r i .boundary) fun s _ => s.stagePut 0x28018 0xFFFFFFFF (r.rg i.ra)

end Sys2Proof.Machine
end

