-- ==== Sys2Proof/Machine/Faults.lean ====
section
/-!
DEFINITION. Faults that arise in stores, supplies and temperatures (R546, R558, R525), forcing (R516), clearing (R521), and the hardware part of bring-up (R529).
-/
namespace Sys2Proof.Machine

/-! ### Errors in stores (R525) -/

/-- One of a list, as a free value picks it. -/
def State.oneOf {α : Type} (s : State) (xs : List α) : Option α × State :=
  let (w, s) := s.fresh
  (xs[w.toNat % xs.length]?, s)

/-- Groups that have work break with cause POWER (ECC_COLBUF). -/
def State.groupsBreak (s : State) : State := (s.grps.keysOf fun g => g.busy).foldl (fun s g => s.grpBreak g 8 false none none) s

/-- A unit of a port's input buffer is discarded unacknowledged; which one, the spec leaves open. Units wait in the router, or for the port they leave on. -/
def State.inbufLost (s : State) (p : Nat) : State :=
  let mine := fun (u : RUnit) => match u.home with | some h => h.1 == p | none => false
  let a := (s.rin.look p).filter mine
  let b := (List.range 64).flatMap fun q => ((s.fports.look q).oq.filter mine).map fun u => (q, u)
  let (i, s) := s.fresh
  let i := i.toNat % (a.length + b.length)
  match a[i]? with
  | some u => { s with rin := s.rin.put p ((s.rin.look p).erase u) }.freeHome u
  | none =>
    match b[i - a.length]? with
    | some (q, u) => (s.updPort q fun f => { f with oq := f.oq.erase u }).freeHome u
    | none => s

/-- A packet held by a receive record is discarded unacknowledged; which one, the spec leaves open. -/
def State.heldLost (s : State) : State :=
  let all := s.prx.keys.flatMap fun k => (s.prx.look k).held.map fun p => (k, p)
  match s.oneOf all with
  | (some (k, p), s) => s.updRx k fun r => { r with held := r.held.erase p }
  | (none, s) => s

/-- What an error in a store does beside its occurrence (the actions of R525's ECC sources of class 0 to 2). -/
def State.eccAct (s : State) (src : Nat) (syn : Word) : State :=
  let i := wbits syn 23 0
  match src with
  | 0x141 => s.inbufLost (wbits syn 5 0)
  | 0x142 => if s.get (F.WPR_LINK_STATUS_STATE (wbits syn 5 0)) = 0 then s else s.linkDown (wbits syn 5 0) 1
  | 0x143 => s.heldLost
  | 0x145 => s.ctxBroken (wbits syn 15 0)
  | 0x146 => { s with eps := s.eps.upd (wbits syn 19 0) fun e => e % 2 ^ 31 }
  | 0x147 => { s with routes := s.routes.upd (wbits syn 16 16 * 65536 + wbits syn 15 0) fun e => (⟨0, 51, 48⟩ : Fld).into e 0 }
  | 0x148 => s.groupsBreak
  | 0x149 => { s with pcache := s.pcache.eraseIdx i }
  | 0x14A => { s with kcache := s.kcache.del i }
  | 0x14B => match (s.msgs.keysOf fun m => m.live && m.st == .speculating)[i]? with
    | some k => s.retainLost k
    | none => s
  | 0x14C => { s with tlb := s.tlb.del i }
  | _ => s

/-- ECC_ERROR's operation: an error in one of the stores of R525's sources 0x140 to 0x14D. -/
def State.ecc (s : State) (e : EccEvent) : State :=
  if e.source < 0x140 ∨ 0x14D < e.source then s
  else match fltClass e.source with
    | some 3 => s.flt3 e.source e.syndrome true false
    | _ => (s.flt e.source e.syndrome).eccAct e.source e.syndrome

/-- KEYSTORE_ECC's operation. -/
def State.keyStoreEcc (s : State) (store : Nat) : State := s.flt4 0x011 (packW [(0, store % 256)]) false

/-! ### Forcing (R516) -/

/-- The object or instance a forced class 1 or 2 source's syndrome names exists. -/
def State.forcible (s : State) (src : Nat) (syn : Word) : Bool :=
  let i := wbits syn 15 0
  match src with
  | 0x041 => (s.wqs.look i).st == .running
  | 0x042 => (s.wqs.look i).st == .running
  | 0x044 => decide (wbits syn 13 0 < 16384) && (s.eqs.look (wbits syn 13 0)).st == .active
  | 0x048 => s.runs.keys.any fun k => (s.runs.look k).st != .free && s.handle k == wbits syn 31 0
  | 0x080 => (s.pas.look (wbits syn 19 0)).st != .free
  | 0x081 => (s.mctx.look i).st == .enabled
  | 0x145 => (s.mctx.look i).st == .enabled
  | 0x0C1 => (s.grps.look (wbits syn 11 0)).st == 1 || (s.grps.look (wbits syn 11 0)).st == 2
  | 0x0C2 => (s.grps.look (wbits syn 11 0)).st == 1 || (s.grps.look (wbits syn 11 0)).st == 2
  | _ => true

/-- The host port on which a forced source's object lies. -/
def State.forcePort (s : State) (src : Nat) (syn : Word) : Option Nat :=
  match src with
  | 0x041 => some (s.wqs.look (wbits syn 15 0)).port
  | 0x042 => some (s.wqs.look (wbits syn 15 0)).port
  | 0x044 => some (s.eqs.look (wbits syn 13 0)).port
  | _ => none

/-- The owning rule's reaction to a forced class 0 to 2 source on what the syndrome names. -/
def State.forceAct (s : State) (src : Nat) (syn : Word) : State :=
  let i := wbits syn 15 0
  match src with
  | 0x000 => if 5 ≤ wbits syn 3 0 ∧ wbits syn 3 0 ≤ 10 then (s.put F.STG_OVERRUN_LAST_TASK (wbits syn 3 0)).bump F.STG_OVERRUN_COUNT 1 else s
  | 0x003 => s.cvyBreakAll (fun c => c.st == 1 || c.st == 2 || c.st == 3) 2
  | 0x00A => s.hostFenced (wbits syn 1 0)
  | 0x013 => s.put F.SEC_STATUS_IDENTITY_OK 0
  | 0x041 => s.wqError i stAborted (2 ^ (s.wqs.look i).log2) stAborted 0
  | 0x042 => s.wqError i stBus (fwd 32 (s.wqs.look i).c (s.wqs.look i).prod) stAborted 0
  | 0x044 => s.eqError (wbits syn 13 0)
  | 0x048 => match s.runs.keys.find? fun k => (s.runs.look k).st != .free && s.handle k == wbits syn 31 0 with
    | some k => s.ctxLost k
    | none => s
  | 0x049 => s.clusterFence (wbits syn 3 0)
  | 0x080 => s.pasError (wbits syn 19 0)
  | 0x081 => s.ctxBroken i
  | 0x084 => s.tamperMark (wbits syn 23 0)
  | 0x087 => (s.put F.SEC_LEDGER_CTRL_EN 0).put F.SEC_LEDGER_CTRL_STATE 0
  | 0x0C1 => s.grpBreak (wbits syn 11 0) 5 false none none
  | 0x0C2 => s.grpBroken (wbits syn 11 0) (wbits syn 15 12) false none none
  | _ => s.eccAct src syn

/-- A forced class 0 to 2 source. -/
def State.forceLow (s : State) (src : Nat) (syn : Word) : State :=
  let cls := (fltClass src).getD 0
  let (s, nested) := s.occur src syn true (s.forcePort src syn)
  if (nested && decide (cls > 0)) || !s.forcible src syn then s
  else if cls = 0 then s.forceAct src syn
  else
    let s := if cls = 2 && !s.sealed && !s.halted then s.degrade else s
    s.reacting cls (fltScope src syn (s.forcePort src syn)) fun s => s.forceAct src syn

/-- FAULT_FORCE's operation. -/
def State.faultForce (s : State) (o : Origin) (src : Nat) : State :=
  let syn := s.reg 0x30018
  match fltClass src with
  | none => s
  | some c =>
    if 3 ≤ c && !s.originAuth o then s.flt 0x00F (packW [(0, src), (16, match o with | .pf0 p => p | _ => 0)])
    else if c = 4 then s.flt4 src syn true
    else if src = 0x00E then s.wedge syn true
    else if c = 3 then s.flt3 src syn true true
    else s.forceLow src syn

/-! ### Clearing (R521) -/

/-- A sensor's latest sample lies above the warning limit (R558). -/
def State.warnLimit (s : State) : Int := (max 700 (min (s.get F.DEV_TEMP_CTRL_WARN) 1100) : Nat)
def State.sensorHot (s : State) (k : Nat) : Bool :=
  s.flag (F.DEV_MON_VALID k) && decide (s.warnLimit < (BitVec.ofNat 16 (s.get (F.DEV_MON_VALUE k))).toInt)

/-- The condition of a source still holds. -/
def State.stillHolds (s : State) (src : Nat) : Bool :=
  match src with
  | 0x003 => s.get F.STG_SYNC_STATUS_STATE != 2
  | 0x005 => s.flag F.CLK_STATUS_HOLDOVER
  | 0x009 => !s.flag F.CLK_STATUS_MGMT_LOCK
  | 0x00A => (List.range 4).any fun p => (s.ports.look p).refQualified && !(s.get F.CLK_STATUS_HOSTREF_OK).testBit p
  | 0x00C => (List.range 16).any s.sensorHot
  | 0x013 => true
  | _ => false

/-- Fences that a class 2 source set are lifted. -/
def State.unfence (s : State) (src : Nat) : State :=
  match src with
  | 0x009 => (s.cmisKick 0).cmisKick 1
  | 0x00A => (List.range 4).foldl (fun s p => s.updHost p fun h => { h with fenced := false }) s
  | 0x049 => { s with fenced := [] }
  | _ => s

/-- One pending bit is cleared. -/
def State.clearOne (s : State) (src : Nat) : State :=
  if !s.flag (fltPend src) || s.stillHolds src then s
  else match fltClass src with
    | some 2 => (s.put (fltPend src) 0).unfence src
    | some 0 => s.put (fltPend src) 0
    | some 1 => s.put (fltPend src) 0
    | _ => s

/-- FAULT_CLEAR's operation: a write of FLT_PENDING_k. The last class 2 bit to clear lets the device leave Degraded (R527). -/
def State.faultClear (s : State) (k : Nat) (v : Word) : State :=
  let was := s.anyPending (· == 2)
  let s := (List.range 64).foldl (fun s j => if v.getLsbD j then s.clearOne (64 * k + j) else s) s
  let s := s.errPin
  if was && !s.anyPending (· == 2) && s.mode == 4 && !s.halted then { s with retDue := true } else s

/-- FIRST_CLR's operation. -/
def State.firstClear (s : State) : State := { s with first := { s.first with valid := false } }

/-! ### Temperatures and supplies -/

/-- A sensor or rail that is gated or unpowered: with the core gated only the supervisor die and its own sensor remain (R539, R546). -/
def State.sensorOff (s : State) (k : Nat) : Bool := s.hold == .gated && decide (k < 14)
def State.railOff (s : State) (r : Nat) : Bool :=
  let quads := fun lo hi => (List.range 64).all fun q => !(decide (lo ≤ q ∧ q < hi)) || s.pdQuad q == 2
  s.hold == .gated || (r == 2 && quads 0 32) || (r == 3 && quads 32 64) || (r == 4 && quads 0 64) ||
  ((r == 5 || r == 6) && (List.range 4).all fun p => s.pdHost p == 2)

/-- TEMPERATURE_SAMPLE's operation for one sensor (R558). -/
def State.tempSample (s : State) (k : Nat) (v : Int) : State :=
  if s.sensorOff k then s
  else
    let raw := (BitVec.ofInt 16 v)
    let v := raw.toInt
    let s := ((s.put (F.DEV_MON_VALID k) 1).put (F.DEV_MON_VALUE k) raw.toNat).put (F.DEV_MON_AGE_US k) 0
    let syn := packW [(0, k), (16, raw.toNat)]
    let s := if v > 1150 then s.flt3 0x00D syn true false else s
    if v > s.warnLimit then s.flt 0x00C syn else s

/-- Nominal mV and tolerance in percent of a rail (R544, R547). -/
def State.railNominal (s : State) (r : Nat) : Nat × Nat :=
  match r with
  | 0 => (if s.get F.DEV_AVS_STATE = 1 then s.get F.DEV_AVS_TARGET_MV else 800, 3)
  | 1 => (800, 3)
  | 2 => (750, 2)
  | 3 => (750, 2)
  | 4 => (1200, 3)
  | 5 => (800, 3)
  | 6 => (1200, 3)
  | _ => (1800, 5)

/-- A rail is outside its range. -/
def State.railOut (s : State) (r mv : Nat) : Bool :=
  let (n, pct) := s.railNominal r
  decide (mv * 100 < n * (100 - pct) ∨ n * (100 + pct) < mv * 100)

/-- RAIL_CHECK's operation for one rail (R546): the second bad comparison in a row records. -/
def State.railCheck (s : State) (r mv : Nat) : State :=
  if s.railOff r then { s with railBad := s.railBad.erase r }
  else
    let s := ((s.put (F.DEV_MON_VALID (16 + r)) 1).put (F.DEV_MON_VALUE (16 + r)) mv).put (F.DEV_MON_AGE_US (16 + r)) 0
    if !s.railOut r mv then { s with railBad := s.railBad.erase r }
    else if s.railBad.contains r then s.flt3 0x00B (packW [(0, r), (16, mv)]) true false
    else { s with railBad := r :: s.railBad }

/-! ### Bring-up (R529) and the core voltage (R547, R548) -/

/-- The core voltage target is written; whether the regulator acknowledges is a free value. -/
def State.avsFirst (s : State) (mv : Nat) : State :=
  let (w, s) := (s.put F.DEV_AVS_TARGET_MV mv).fresh
  let s := s.out (.avs 0 mv)
  if w.getLsbD 0 then s.put F.DEV_AVS_STATE 1 else (s.put F.DEV_AVS_STATE 2).bump F.DEV_AVS_RETRIES 1

/-- AVS_RETRY's operation: the repeated write, acknowledged or not. -/
def State.avsAgain (s : State) (acked : Bool) : State :=
  if s.get F.DEV_AVS_STATE ≠ 2 then s
  else
    let s := s.out (.avs 0 (s.get F.DEV_AVS_TARGET_MV))
    if acked then s.put F.DEV_AVS_STATE 1 else s.bump F.DEV_AVS_RETRIES 1

/-- MGMT_PLL_LOCK's operation: module transactions run again, and management of powered cages that waited for the clock starts. -/
def State.mgmtLocked (s : State) : State :=
  if s.flag F.CLK_STATUS_MGMT_LOCK then s
  else
    let s := ((s.put F.CLK_STATUS_MGMT_LOCK 1).cmisKick 0).cmisKick 1
    ((List.range 32).filter fun n => s.flag (F.CPW_STATUS_PG n) && s.get (F.MOD_STATUS_STATE n) == 0).foldl (fun s n => s.modStart n) s

/-- The PLLs of bring-up: the timebase PLL takes a qualified reference, else R65 applies. -/
def State.pllsUp (s : State) : State :=
  let a := s.flag F.CLK_STATUS_A_QUAL
  if a || s.flag F.CLK_STATUS_B_QUAL then
    ((((s.put F.CLK_STATUS_REF_SEL (b2n !a)).put F.CLK_STATUS_TB_LOCK 1).put F.CLK_STATUS_CORE_LOCK 1).mgmtLocked).put F.DEV_BRINGUP_PLLS 1
  else if s.flag F.CLK_STATUS_HOLDOVER then s
  else (((s.put F.CLK_STATUS_HOLDOVER 1).put F.CLK_STATUS_REF_SEL 2).put F.CLK_STATUS_COAST 1).flt 0x005 0

/-- A store failed its self-test: its source is recorded with its class and acts; its syndrome is a free value, since R529 names none. -/
def State.storeFailed (s : State) (src : Nat) : State :=
  let (syn, s) := s.fresh
  match fltClass src with
  | some 4 => s.flt4 src syn false
  | some 3 => s.flt3 src syn true false
  | _ => (s.flt src syn).eccAct src syn

/-- BRINGUP_STEP's operation. -/
def State.bringStep (s : State) (b : BringStep) : State :=
  match b with
  | .rails ok rail mv => if ok then s.put F.DEV_BRINGUP_RAILS 1 else s.flt3 0x00B (packW [(0, rail % 256), (16, mv % 65536)]) true false
  | .fuses ok mv =>
    if !ok then s.flt4 0x012 0 false
    else if s.flag F.DEV_BRINGUP_FUSES then s
    else (s.put F.DEV_BRINGUP_FUSES 1).avsFirst mv
  | .plls => if s.flag F.DEV_BRINGUP_PLLS then s else s.pllsUp
  | .stores failed => match failed with
    | none => s.put F.DEV_BRINGUP_SRAM 1
    | some src => s.storeFailed src
  | .lanes => s.put F.DEV_BRINGUP_LANES 1
  | .identity ok =>
    if ok then (s.put F.DEV_BRINGUP_IDENTITY 1).put F.SEC_STATUS_IDENTITY_OK 1
    else (s.put F.SEC_STATUS_IDENTITY_OK 0).flt 0x013 0
  | .host n => if (s.ports.look n).refQualified && s.pdHost n == 0 then s.put F.DEV_BRINGUP_HOSTS (s.get F.DEV_BRINGUP_HOSTS ||| 2 ^ n) else s
  | .sync => s.put F.DEV_BRINGUP_SYNC (b2n s.synced)

/-- Operands of a bring-up step that can occur: the fused target is 650 to 800 mV in steps of 5; a failed store is one with an uncorrectable-error source. -/
def bringOk : BringStep → Bool
  | .rails _ rail _ => decide (rail < 8)
  | .fuses ok mv => !ok || (decide (650 ≤ mv ∧ mv ≤ 800) && mv % 5 == 0)
  | .stores (some src) => decide (0x141 ≤ src ∧ src ≤ 0x14D) || src == 0x011 || src == 0x048 || src == 0x049
  | .host n => decide (n < 4)
  | _ => true

end Sys2Proof.Machine
end

