-- ==== Sys2Proof/Machine/Boundary.lean ====
section
/-!
DEFINITION. The stage boundary (R50, R58 to R60): its tasks and passes in their order.
-/
namespace Sys2Proof.Machine

/-! ### Timers (task 6) and deadlines (task 7) -/

/-- Room that one cut pass takes among the free values. -/
abbrev cutSpan : Nat := 2 ^ 80

/-- Timer `i` of kind `t` is reached by a pass: every one, unless the pass is cut; which timers a cut pass reaches is free (R60 names no order). -/
def State.reached (s : State) (cut : Bool) (t i : Nat) : Bool := !cut || (Config.freeValue (s.freeCtr + i * 32 + t)).getLsbD 0

/-- One stage off a timer that stands at 1 when it has run out. -/
def downTo1 (n : Nat) : Nat := if 1 < n then n - 1 else n

/-- Timers of a send record (R397 to R400, R404). -/
def PairTx.tick (t : PairTx) : PairTx :=
  { t with
    pkts := t.pkts.map fun (x : TxPkt) => { x with age := x.age + 1, retryIn := x.retryIn.map (· - 1) }
    heldAge := if t.refusalsApplied = t.refusalsSeen then 0 else t.heldAge + 1
    idle := t.idle + 1
    sync := t.sync.map fun x => (x.1, x.2.1 + 1, x.2.2 + 1) }

/-- Timers of a receive record (R396, R398, R404). -/
def PairRx.tick (r : PairRx) : PairRx :=
  { r with
    refusals := r.refusals.map fun (f : Rfsl) => { f with age := f.age + 1 }
    heldAge := if r.held.isEmpty then 0 else r.heldAge + 1
    idle := r.idle + 1 }

/-- Timers of an operation: WAIT (R101) and LOCK (R155). -/
def Op.tick (o : Op) : Op := if o.live && (o.opcode == 0x40 || o.opcode == 0x60) then { o with due := downTo1 o.due } else o

/-- The power domains' drain timers (R536), which stand at 1 when they have run out. -/
def State.pdTick (s : State) (ok : Nat → Bool) : State := { s with pdLeft := s.pdLeft.mapKeys fun k n => if ok k then downTo1 n else n }

/-- DEV_DRAIN_CTRL.LEFT (R533): the boundary at which Drain is entered does not count. -/
def State.drainTick (s : State) (ok : Bool) : State :=
  if s.mode = 3 ∧ s.get F.DEV_MODE_ENTERED ≠ s.now ∧ ok then s.put F.DEV_DRAIN_CTRL_LEFT (s.get F.DEV_DRAIN_CTRL_LEFT - 1) else s

/-- Task 6: every end-to-end timer and lifetime check advances by one stage. What a timer that has run out does is the command that names it. -/
def State.timers (s : State) (cut : Bool) : State :=
  let ok := s.reached cut
  let s := { s with
    ptx := s.ptx.mapKeys fun k t => if ok 0 k then t.tick else t
    prx := s.prx.mapKeys fun k r => if ok 1 k then r.tick else r
    ops := s.ops.mapKeys fun k o => if ok 2 k then o.tick else o
    amoRes := s.amoRes.mapKeys fun k a => if ok 3 k then { a with left := a.left - 1 } else a
    msgs := s.msgs.mapKeys fun k m => if ok 4 k then { m with retryIn := m.retryIn - 1 } else m
    eqs := s.eqs.mapKeys fun k (q : Evq) => if ok 5 k && q.arm && decide (q.since ≥ 1) then { q with sinceStages := q.sinceStages + 1 } else q
    pas := s.pas.mapKeys fun k (p : Pas) => if ok 6 k then { p with seen := (p.seen.map fun (x : Nat × Nat × Nat) => (x.1, x.2.1, x.2.2 - 1)).filter fun (x : Nat × Nat × Nat) => decide (x.2.2 > 0) } else p
    wqs := s.wqs.mapKeys fun k (w : Wq) => if ok 7 k then { w with pollLeft := w.pollLeft - 1 } else w
    resps := s.resps.map fun (x : RespTx) => if ok 8 (x.pair * 2 ^ 24 + x.psn) then { x with age := x.age + 1 } else x
    mbxLeft := if ok 9 0 then downTo1 s.mbxLeft else s.mbxLeft
    quietLeft := if s.firstBnd && ok 10 0 then s.quietLeft - 1 else s.quietLeft }
  let s := (s.pdTick (ok 11)).drainTick (ok 12 0)
  let s := s.grpTick (ok 13)
  let due := s.msgs.keysOf fun (m : Msg) => m.live && m.st == MsgSt.waiting && m.walked && m.recv.isSome && m.retryIn == 0
  let s := due.foldl (fun s k => s.msgRetry k) s
  if cut then { s with freeCtr := s.freeCtr + cutSpan } else s

/-- Task 7: a speculation comes one boundary nearer its deadline (R263). -/
def State.deadlines (s : State) (cut : Bool) : State :=
  let ok := s.reached cut
  let s := { s with msgs := s.msgs.mapKeys fun k (m : Msg) => if ok 0 k && m.st == .speculating && m.begun then { m with specLeft := m.specLeft - 1 } else m }
  if cut then { s with freeCtr := s.freeCtr + cutSpan } else s

/-! ### Other passes -/

/-- Task 5: 64 tolls a cycle, in ascending order (R58, R414). -/
def State.refillTolls (s : State) (cycles : Option Nat) : State :=
  { s with tolls := s.tolls.mapKeys fun k t => match cycles with
      | none => t.refill
      | some c => if k < 64 * c then t.refill else t }

/-- Task 8: 8 locks a cycle, in ascending order. -/
def State.lockPass (s : State) (cycles : Option Nat) : State :=
  (s.locks.keys.filter fun n => match cycles with | none => true | some c => decide (n < 8 * c)).foldl (fun s n => s.lockTask n) s

/-- Task 10: 8 of the device's domains a cycle, in ascending order (R448, R449). -/
def State.ledgerPass (s : State) (cycles : Option Nat) : State :=
  let s := (match cycles with | none => s.doms.keys | some c => s.doms.keys.take (8 * c)).foldl (fun s d => s.ledMove d) s
  if s.now % s.ledPeriod = 0 then { s with ledDue := some s.now } else s

/-- SLOT_STAGES of the stage that ends (R448). -/
def State.slotStages (s : State) : State := s.cvys.vals.foldl (fun s c => if c.st = 0 then s else s.ledger c.dom ldSlots (pop16 (c.reserved c.outPort))) s

/-- One pass was abandoned (R60). -/
def State.overrun (s : State) (task stage : Nat) : State :=
  ((s.flt 0x000 (packW [(0, task), (16, stage)])).put F.STG_OVERRUN_LAST_TASK task).bump F.STG_OVERRUN_COUNT 1

/-- Cycle 0: passes of the stage that ends and have not finished are abandoned (R60), a snapshot still being written among them (R507). -/
def State.abandonPasses (s : State) : State :=
  let stage := s.now
  let late := s.snap.isSome
  let ts := if late && !s.overruns.contains 9 then s.overruns ++ [9] else s.overruns
  let s := { s with overruns := [] }
  let s := if late then { s with snap := none }.snapSkipped true |>.snapState else s
  ts.foldl (fun s t => s.overrun t stage) s

/-- Messages of the collector that waited for the boundary (R518). -/
def State.fltNext (s : State) : State :=
  let n := s.fltDefer
  n.foldl (fun s _ => s.fltMsg) { s with fltIrq := [], fltDefer := [] }

/-- CTL packets that waited for a new stage (R442) leave. -/
def State.ctlNext (s : State) : State :=
  let w := s.ctlWait
  w.foldl (fun s c => s.toRouter 1 (.ctl c)) { s with ctlWait := [], ctlSent := [] }

/-- Tasks 2 and 3 that other commands name too: S fields, the period, the mode, the commit. -/
def State.commits (s : State) (n : Nat) : State :=
  ((((s.commitS n).periodChange n).modeChange).commitNow).degReturn

/-- What the boundary sends on its links: time sync (R52), gossip (R347), convoy acknowledgements (R367). -/
def State.boundarySends (s : State) : State :=
  let s := (s.syncSend).gossipSend
  (s.cvys.keysOf fun c => c.role == 2 && c.st != 0).foldl (fun s v => s.cvyAckSend v) s

/-- STAGE_BOUNDARY's operation. A backward step abandons the boundary after task 1 (R55). -/
def State.stageBoundary (s : State) (b : Boundary) : State :=
  let cutOf := fun t => (b.cut.find? fun e => e.1 == t).map (·.2)
  let s := s.abandonPasses.slotStages
  match s.task1 b.now with
  | (s, none) => s.put F.STG_NOW_FRAC 0
  | (s, some n) =>
    let s := (s.put F.STG_NOW_STAGE n).put F.STG_NOW_FRAC 0
    let s := { s with quietLeft := if s.firstBnd then s.quietLeft else 257, firstBnd := true, overruns := ((List.range 6).map (· + 5)).filter fun t => (cutOf t).isSome }
    let s := (s.commits n).bankSwap.cvyTask
    let s := ((s.refillTolls (cutOf 5)).timers (cutOf 6).isSome).deadlines (cutOf 7).isSome
    let s := (s.lockPass (cutOf 8)).sampleAll.snapTask (cutOf 9).isSome
    let s := s.ledgerPass (cutOf 10)
    (((s.gossipTick.preemptAll).meterTick.ctlNext).fltNext).boundarySends

/-- Operands of a boundary that can occur: passes 5 to 10. -/
def boundaryOk (b : Boundary) : Bool := b.cut.all fun e => decide (5 ≤ e.1 ∧ e.1 ≤ 10)

end Sys2Proof.Machine
end

