-- ==== Sys2Proof/Machine/Settle.lean ====
section
/-!
DEFINITION. What a command leaves behind: the happenings its rules deferred (Work) are carried out in order, then what follows from the state as a whole is
brought up to date. Every meaning ends here.
-/
namespace Sys2Proof.Machine

/-- A host port carries an endpoint's operations: its domain is ON and its link up (R29, R537). -/
def State.endpointUp (s : State) (port : Nat) : Bool := s.pdHost port == 0 && s.portUp port

/-- Steps 6 to 8 of R393 on a pair channel's next packet: the domain's key, the tag, an operation being refused (R281), Drain (R532) and the endpoint's port
(R537), then its engine. -/
def State.pairNext (s : State) (k : Nat) : State :=
  if s.matHold k then s
  else match s.rxPop k with
    | (s, none) => s
    | (s, some p) =>
      let r := s.prx.look k
      let own := r.curDup && !p.crcOk
      if !own && (s.key p.domain).isNone then s.rxRefuse k stAuth
      else if !own && !s.tagOk p then ((s.authFail p.domain p.srcNode).specFail k p).rxDrop k
      else match r.refusing.filter fun f => f.opid == wbits p.opid 31 0 with
        | some f => s.rxRefuse k f.status
        | none =>
          if p.op != .rget && ((s.workMode == 3 && p.first && !r.curDup) || (s.pdHost r.port != 0 && p.first) || !s.portUp r.port) then s.rxRefuse k stDown
          else match p.op with
            | .put => s.rmaStep k
            | .get => s.rmaStep k
            | .amo => s.rmaStep k
            | .eager => s.matStep k
            | .rts => s.matStep k
            | .rget => s.rgetStep k
            | _ => s.rxDrop k

/-- The register an LD waits to write: that of its block, or of the block a parked run had. -/
def Run.ldReg (r : Run) : Nat :=
  match r.block, r.prevBlock with
  | .ld rd, _ => rd
  | _, .ld rd => rd
  | _, _ => 0

/-- An access has ended: its engine goes on. -/
def State.accDone (s : State) (id : Nat) (r : AccRes) : State :=
  let a := s.accs.look id
  let good := match r with | .ok _ => true | .bytes _ => true | _ => false
  let s := match a.client with
    | .none => s
    | .prod q => s.prodDone q r
    | .hdr q => s.hdrDone q r
    | .entry q => s.entryDone q r
    | .qcbWr q => s.qcbWrDone q r
    | .eq e => if good then s.eqWrote e else s.eqFailed e
    | .fetch c => s.fetchDone c id r
    | .ld c => s.ldDone c id (s.runs.look c).ldReg r
    | .st c => s.stDone c id r
    | .desc c => s.descDone c id r
    | .frag c va => s.fragDone c id va r
    | .burst ch b => s.burstDone ch b r
    | .place k => s.placeDone k r
    | .spec m => s.specPlaced m ((chunkLen a.orig)) r
    | .msg m => s.msgPlaced m r
    | .pool m => if good then s.poolWritten m else s.ctxError (s.msgs.look m).ctx
    | .spill c => s.spillDone c r
    | .cvySink v q => s.cvyWritten v q r
  s.accDrop id

/-- One deferred happening. -/
def State.workOne (s : State) (w : Work) : State :=
  match w with
  | .acc id r => s.accDone id r
  | .evSeen c => s.evSeen c
  | .eqPump e => s.eqPump e
  | .wqPump q => s.wqPump q
  | .room _ => s.sweep
  | .form ch => (s.chanForm ch false).poolStart ch
  | .pairNext k => s.pairNext k
  | .msgStale k => s.msgStale k
  | .pairResend k => s.txAfterAck k
  | .opCut k => s.opCut k
  | .readoutDone k f bus => (match (s.prx.look k).cur with
      | some p => if p.op == PktOp.rget then s.rgetDone k f bus else s.getDone k f bus
      | none => s.getDone k f bus)
  | .collData k => s.collData k
  | .cvyData v off bs => s.cvyData v off bs
  | .collBurst k seg ok => s.collBurst k seg ok
  | .pooled k ok => s.pooled k ok
  | .invalCheck => s.revokeCheck
  | .runEnded c => s.runOver c
  | .wqReset q => s.lockOwnersDie fun o => o == queueOwner q

/-- Carries out deferred happenings, oldest first. -/
def drain : Nat → State → State
  | 0, s => s
  | n + 1, s =>
    match s.work with
    | [] => s
    | w :: ws => drain n (State.workOne { s with work := ws } w)

/-- What waits for a condition that may hold by now: power domains whose work is written, waiters for room, REVOKEs, and DRAINED (R532). -/
def State.follow (s : State) : State :=
  if s.hold ≠ .none then s
  else
    let s := s.pdAttempt.wakeRoom.revokeCheck
    if s.mode = 3 ∧ s.workDone then s.put F.DEV_MODE_DRAINED 1 else s

/-- Drains and follows until nothing more happens. -/
def rounds : Nat → State → State
  | 0, s => s
  | n + 1, s =>
    let s := (drain (2 ^ 24) s).follow
    if s.work.isEmpty then s else rounds n s

/-- Ends a command: what it deferred has been done, reactions that are over have ended (R514), and DEV_BRINGUP.SYNC (R529) and the collector's summary (R517)
follow the state. -/
def State.settle (s : State) : State :=
  let s := rounds 256 s
  let s := { s with work := [] }.reactionsEnd
  let s := if s.hold = .none then s.put F.DEV_BRINGUP_SYNC (b2n s.synced) else s
  s.errPin

end Sys2Proof.Machine
end

