-- ==== Sys2Proof/Machine/MmuCmd.lean ====
section
/-!
DEFINITION. The address space and invalidation command sets (R224, R225, R238): the operations behind MMU_AS_CMD_r and MMU_INV_r, and the end of an
invalidation.
-/
namespace Sys2Proof.Machine

/-- RESULT of an address space command set. -/
def State.asResult (s : State) (r res : Nat) : State := (s.put (F.MMU_AS_CMD_BUSY r) 0).put (F.MMU_AS_CMD_RESULT r) res

/-- An address space command of set `r` on the PASID that ARG1 names: GO is ignored while BUSY = 1, and a PASID on which another set's command runs answers
BUSY. -/
def State.asCmd (s : State) (r op : Nat) (k : State → Nat → Pas → State) : State :=
  if s.flag (F.MMU_AS_CMD_BUSY r) then s
  else
    let s := s.put (F.MMU_AS_CMD_OP r) op
    let p := s.get (F.MMU_AS_ARG1_PASID r)
    let other := s.invals.vals.any fun v => v.live && decide (v.cmd ≠ 0) && v.pasid == p && v.bySet != some r
    if other then s.asResult r 4 else k s p (s.pas.look p)

/-- CREATE. -/
def State.asCreate (s : State) (r : Nat) : State :=
  s.asCmd r 0 fun s p a =>
    let port := s.get (F.MMU_AS_ARG1_PORT r)
    let fn := s.get (F.MMU_AS_ARG1_FUNCTION r)
    let feq := s.get (F.MMU_AS_ARG1_FAULT_EQ r)
    let q := s.eqs.look feq
    if a.st != .free then s.asResult r 1
    else if s.fnBad port fn || q.st != .active || q.port != port || q.fn != fn then s.asResult r 2
    else if s.pas.count (·.st != .free) ≥ 16384 then s.asResult r 3
    else
      let n : Pas := ⟨.active, port, fn, s.get (F.MMU_AS_ARG0_ROOT r) * 4096, s.flag (F.MMU_AS_ARG0_LEVELS5 r), s.flag (F.MMU_AS_ARG0_PRESET r),
        s.atLeast (F.MMU_AS_ARG1_RETRY_AFTER r) 1, feq, none, []⟩
      { s with pas := s.pas.put p n }.asResult r 0

/-- Work that keeps an address space from DESTROY: a work queue other than FREE, an event queue's ring, a parked run. -/
def State.asUsed (s : State) (p : Nat) : Bool :=
  (s.wqs.vals.any fun w => w.st != .free && w.pasid == p) || (s.eqs.vals.any fun q => q.st != .free && q.pasid == p) ||
    s.runs.vals.any fun r => r.st == .parked && r.pasid == some p

/-- DESTROY: the address space is unbound at once and FREE when the invalidation is done. -/
def State.asDestroy (s : State) (r : Nat) : State :=
  s.asCmd r 1 fun s p a =>
    if a.st == .free || s.asUsed p then s.asResult r 1
    else
      let s := { s with pas := s.pas.put p { a with dom := none } }
      (s.invalidate (.pasid p) { (default : Inval) with bySet := some r, cmd := 1, pasid := p }).1.put (F.MMU_AS_CMD_BUSY r) 1

/-- CLEAR. -/
def State.asClear (s : State) (r : Nat) : State :=
  s.asCmd r 2 fun s p a =>
    if a.st != .error then s.asResult r 1 else ({ s with pas := s.pas.put p { a with st := .active } }.tlbDrop (·.pasid == p)).asResult r 0

/-- The state code of an address space (R207). -/
def PasSt.code : PasSt → Nat
  | .free => 0
  | .active => 1
  | .error => 2

/-- QUERY. -/
def State.asQuery (s : State) (r : Nat) : State :=
  s.asCmd r 3 fun s p a =>
    let info := packW [(0, a.st.code), (2, b2n a.dom.isSome), (16, a.dom.getD 0 % 65536), (32, s.tlb.count fun t => t.valid && t.pasid == p)]
    if a.st = .free then (s.setReg (0x300118 + 64 * r) 0).asResult r 0
    else
      let s := ((s.put (F.MMU_AS_ARG0_PRESET r) (b2n a.preset)).put (F.MMU_AS_ARG0_LEVELS5 r) (b2n a.lv5)).put (F.MMU_AS_ARG0_ROOT r) (a.root / 4096)
      let s := ((s.put (F.MMU_AS_ARG1_RETRY_AFTER r) a.retryAfter).put (F.MMU_AS_ARG1_FAULT_EQ r) a.faultEq).put (F.MMU_AS_ARG1_FUNCTION r) a.fn
      ((s.put (F.MMU_AS_ARG1_PORT r) a.port).setReg (0x300118 + 64 * r) info).asResult r 0

/-- SET_ROOT. -/
def State.asSetRoot (s : State) (r : Nat) : State :=
  s.asCmd r 4 fun s p a =>
    if a.st != .active then s.asResult r 1
    else
      let a := { a with root := s.get (F.MMU_AS_ARG0_ROOT r) * 4096, lv5 := s.flag (F.MMU_AS_ARG0_LEVELS5 r), preset := s.flag (F.MMU_AS_ARG0_PRESET r) }
      let s := { s with pas := s.pas.put p a }
      (s.invalidate (.pasid p) { (default : Inval) with bySet := some r, cmd := 2, pasid := p }).1.put (F.MMU_AS_CMD_BUSY r) 1

/-- RETRY: every placement of the PASID held under R233 is tried at once, a convoy's parked source read among them (R364). -/
def State.asRetry (s : State) (r : Nat) : State :=
  s.asCmd r 5 fun s p a =>
    if a.st != .active then s.asResult r 1
    else
      let s := (s.msgs.keysOf fun (m : Msg) => decide (m.retryIn > 0) && (s.mctx.look m.ctx).pasid == p).foldl (fun s k => s.msgRetry k) s
      let s := (s.cvys.keysOf fun (c : Cvy) => c.st == 2 && c.role == 0 && c.pasid == p).foldl (fun s v => s.cvyResume v) s
      s.asResult r 0

/-- A command of set `r` by its OP; 6 and 7 are no command. -/
def State.asGo (s : State) (r op : Nat) : State :=
  match op with
  | 0 => s.asCreate r
  | 1 => s.asDestroy r
  | 2 => s.asClear r
  | 3 => s.asQuery r
  | 4 => s.asSetRoot r
  | 5 => s.asRetry r
  | n => s.asCmd r n fun s _ _ => s.asResult r 2

/-- GO of MMU_INV_r with a SCOPE: an empty range completes at once. -/
def State.invGo (s : State) (r scope : Nat) : State :=
  if s.flag (F.MMU_INV_BUSY r) then s
  else
    let s := s.put (F.MMU_INV_SCOPE r) scope
    let p := s.get (F.MMU_INV_PASID r)
    let a := s.get (F.MMU_INV_ADDR_ADDR r)
    let sc : Option InvScope := match scope with
      | 0 => some .all
      | 1 => some (.pasid p)
      | 2 => some (.range p (a / 4096) (a / 4096))
      | _ => rangeScope p a (s.get (F.MMU_INV_LEN_LEN r))
    match sc with
    | none => s
    | some sc => (s.invalidate sc { (default : Inval) with bySet := some r, pasid := p }).1.put (F.MMU_INV_BUSY r) 1

/-- INVALIDATION_DONE's operation, once the accesses an invalidation waits for have finished (R225). -/
def State.invalDone (s : State) (id : Nat) : State :=
  let v := s.invals.look id
  if !s.invalReady id then s
  else
    let s := { s with invals := s.invals.del id }
    match v.byOp, v.bySet with
    | some k, _ => s.opDone k stOk 0 none
    | _, some r =>
      if v.cmd = 0 then s.put (F.MMU_INV_BUSY r) 0
      else (if v.cmd = 1 then { s with pas := s.pas.del v.pasid } else s).asResult r 0
    | _, _ => s

end Sys2Proof.Machine
end

