-- ==== Sys2Proof/Machine/Views.lean ====
section
/-!
DEFINITION. What a register shows (R7, R9): the stored word, a stage-latched value still pending, and the registers that are views of the block's objects.
-/
namespace Sys2Proof.Machine

/-- The words of a fault record (R519). -/
def FltRec.words (r : FltRec) : List Word :=
  [packW [(0, r.stage % 2 ^ 48), (48, r.frac % 1024)],
   packW [(0, r.source % 512), (9, r.cls % 8), (12, b2n r.forced), (13, b2n r.nested), (14, b2n r.escalated), (15, b2n r.stale), (16, r.mode % 8), (32, r.count % 2 ^ 32)],
   r.syn, packW [(0, r.seq % 2 ^ 32), (63, b2n r.valid)]]

/-- Units held in a port's input buffer: those of its input and those routed to other ports that still occupy it (R352). -/
def State.bufferOf (s : State) (p : Nat) : List RUnit :=
  ((s.rin.vals.flatMap fun l => l) ++ s.fports.vals.flatMap (fun (f : FPort) => f.oq)).filter fun u => match u.home with | some (q, _) => q == p | none => false

/-- Free flits of the shared part of a port's input buffer (RTP_STATUS.SHARED_FREE). -/
def State.sharedFree (s : State) (p : Nat) : Nat :=
  let us := s.bufferOf p
  let m := s.vcMin p
  4096 - 25 * m - (List.range 25).foldl (fun a v => a + ((us.filter fun u => u.home == some (p, v)).foldl (fun n u => n + bodyFlits u.body) 0 - m)) 0

/-- RTP_STATUS.STATE. -/
def State.portState (s : State) (p : Nat) : Nat :=
  if s.flag (F.RTP_CTRL_EN p) then 1 else if (s.bufferOf p).isEmpty && (s.fports.look p).oq.isEmpty then 0 else 2

/-- BLK_CH_STATUS.STATE. -/
def State.chanState (s : State) (c : Nat) : Nat :=
  let ch := s.chans.look c
  let idle := ch.ops.isEmpty && ch.bursts.isEmpty && ch.jumped.isEmpty
  if ch.parked then 2
  else if s.regform c then (if ch.act = .idle && !ch.armed then 0 else if s.flag (F.BLK_CH_CFG_EN c) then 1 else 3)
  else if s.flag (F.BLK_CH_CFG_EN c) then 1 else if idle then 0 else 3

/-- RMA_KTAB_STATUS.STATE. -/
def State.ktabState (s : State) : Nat :=
  if s.flag F.RMA_KTAB_CTRL_EN then 1
  else if s.kwait.isEmpty && !(s.prx.vals.any fun r => r.cur.isSome && r.keyVer.isSome) then 0 else 2

/-- Activity codes of BLK_RF_STATUS. -/
def RfAct.code : RfAct → Nat
  | .idle => 0
  | .busy => 1
  | .parked => 2
  | .halted => 3

/-- State codes of R189. -/
def WqSt.code : WqSt → Nat
  | .free => 0
  | .stopped => 1
  | .running => 2
  | .stopping => 3
  | .error => 4

/-- State codes of QUE_EQ_STATUS. -/
def EqSt.code : EqSt → Nat
  | .free => 0
  | .active => 1
  | .error => 2

/-- QUE_EQ_CONS_e. -/
def Evq.consWord (q : Evq) : Word := packW [(0, q.cons % 2 ^ 32), (63, b2n q.arm)]

/-- QUE_QSTATE_q. -/
def State.queueWord (s : State) (q : Nat) : Word :=
  let w := s.wqs.look q
  if q = 4 then packW [(0, 2), (18, min (s.liveOf 4).length 127)]
  else packW [(0, w.st.code), (8, w.err % 256), (16, b2n w.own), (17, b2n (w.sched || w.found.isSome)), (18, min (s.liveCount q) 127), (32, w.c % 2 ^ 32)]

/-- SEQ_RUN_VIEW: the selected run's image; zero for a stale handle, the last save with STATE 2 for a running one. -/
def State.runView (s : State) (i : Nat) : Word :=
  let h := s.get F.SEQ_RUN_SELECT_HANDLE
  let (ctx, res) := s.handleRun h
  let r := s.runs.look ctx
  if res = 2 then 0
  else if r.st = .running then
    let w := r.image.getD i 0
    if i = 16 then BitVec.ofNat 64 (w.toNat - bitsOf w.toNat 55 52 * 2 ^ 52 + 2 * 2 ^ 52) else w
  else (s.runImage ctx).getD i 0

/-- The sample that TOL_SAMP_SEL names (R425). -/
def State.sampKey (s : State) : Nat :=
  let i := s.get F.TOL_SAMP_SEL_INDEX
  if s.get F.TOL_SAMP_SEL_KIND = 0 then sampInj i (s.flag F.TOL_SAMP_SEL_SCAV) else sampVc (bitsOf i 13 8) (bitsOf i 4 0)

/-- The toll that TOL_TOLL_SEL names. -/
def State.tollView (s : State) : Toll := s.tolls.look (s.get F.TOL_TOLL_SEL_TOLL)

/-- The active set of a register-form channel: source, destination, count, index base, control. -/
def RfSet.word (r : RfSet) : Nat → Word
  | 0 => BitVec.ofNat 64 r.src
  | 1 => BitVec.ofNat 64 r.dst
  | 2 => BitVec.ofNat 64 (r.count % 2 ^ 32)
  | 3 => BitVec.ofNat 64 r.idx
  | _ => packW [(0, r.pasid % 2 ^ 20), (28, r.mode % 4), (32, r.esize % 8192), (48, r.vector % 2048), (63, b2n r.irqEn)]

/-- A truth value's list of bits as a number. -/
def bitSet (xs : List Nat) : Nat := xs.foldl (fun n i => n ||| 2 ^ i) 0

/-- Kibibytes that cover a number of bytes. -/
def kib (n : Nat) : Nat := (n + 1023) / 1024

/-- Views of the sequencer's and queue engine's objects. -/
def State.viewQue (s : State) (base d : Nat) (w : Word) : Word :=
  let live := s.runs.vals.filter fun r => r.st != .free && r.wq != 65536
  match base with
  | 0x200000 => packW [(0, live.countP (·.st == .running)), (16, live.countP (·.st == .parked)), (32, live.length), (48, bitSet s.fenced)]
  | 0x200100 => packW [(0, s.residents (d / 8)), (8, b2n (s.fenced.contains (d / 8))), (32, (s.readyFor (d / 8)).length)]
  | 0x100020 => (s.ctrs.look (s.get (F.QUE_CTR_SEL_COUNTER (d / 64)))).val
  | 0x100028 =>
    let c := s.ctrs.look (s.get (F.QUE_CTR_SEL_COUNTER (d / 64)))
    packW [(0, c.dom.getD 0 % 65536), (16, b2n c.dom.isSome)]
  | 0x120000 => (s.eqs.look (d / 8)).consWord
  | 0x140000 => let q := s.eqs.look (d / 8); packW [(0, q.st.code), (3, b2n q.full), (32, q.prod % 2 ^ 32)]
  | 0x160000 => s.queueWord (d / 8)
  | _ => w

/-- Views of translation, matching, keys and the bulk mover. -/
def State.viewMem (s : State) (base d : Nat) (w : Word) : Word :=
  let c := d / 8
  let g := d / 128
  let ch := s.chans.look c
  let rf := s.chans.look g
  match base with
  | 0x300090 => packW [(0, s.tlb.count (·.valid)), (16, s.walks.count (·.live))]
  | 0x400008 =>
    let on := s.mctx.vals.filter (·.st != .free)
    packW [(0, on.foldl (fun n c => n + c.res) 0), (32, kib s.retained), (47, on.length)]
  | 0x500010 => packW [(0, s.ktabState), (2, s.kcache.count (·.valid)), (32, s.get F.RMA_KTAB_STATUS_LIVE_KEYS)]
  | 0x500028 => packW [(0, s.amoRes.length), (32, s.get F.RMA_AMO_STATUS_RNR)]
  | 0x580800 => packW [(0, s.chanState c), (2, (ch.bursts.countP fun b => b.issued && !b.finished && b.faulted.isNone) % 64), (8, ch.ops.length % 256),
      (16, if ch.parked then ch.parkOp % 2 ^ 32 else 0), (48, min ch.cmdIgnored 65535)]
  | 0x581028 => packW [(0, rf.bytes % 2 ^ 32), (32, b2n rf.armed), (34, rf.act.code), (40, rf.lastSt % 256), (48, rf.handSeq % 65536)]
  | 0x581040 => rf.set.word 0
  | 0x581048 => rf.set.word 1
  | 0x581050 => rf.set.word 2
  | 0x581058 => rf.set.word 3
  | 0x581060 => rf.set.word 4
  | _ => w

/-- Views of collectives, routing and convoys. -/
def State.viewFab (s : State) (base d : Nat) (w : Word) : Word :=
  let g := s.grps.look (s.get F.COL_GRP_SEL_GROUP)
  let v := s.cvys.look (s.get F.RTC_CVY_SEL_CONVOY)
  let p := d / 65536
  match base with
  | 0x600008 => packW [(0, s.colUnits), (16, s.grps.count fun g => decide (g.st ≠ 0))]
  | 0x600018 => packW [(0, g.st % 8), (4, g.cause % 16), (8, b2n g.remote), (16, g.dom % 65536), (32, g.hiSeq % 65536), (48, g.units % 2048),
      (60, g.mems.countP (·.joined))]
  | 0x600020 => packW [(0, g.parent % 64), (6, b2n g.root), (8, g.mems.length % 16), (16, g.children.length % 128), (24, (g.edges.countP (!·.granted)) % 128),
      (32, g.bufSegs % 128)]
  | 0x1400028 => packW [(0, kib s.wayUsed), (32, min (s.prx.count fun r => !r.held.isEmpty) 65535)]
  | 0x1400058 => packW [(0, v.st % 8), (8, v.cause % 8), (14, v.role % 4), (16, v.inPort % 64), (24, v.outPort % 64), (32, v.slots % 65536), (48, v.dom % 65536)]
  | 0x1400060 => packW [(0, if v.role = 1 then 0 else v.n % 2 ^ 32), (32, (if v.role = 1 then v.forwarded else v.cum) % 2 ^ 32)]
  | 0x1000008 => F.RTP_STATUS_SHARED_FREE p |>.into (F.RTP_STATUS_STATE p |>.into w (s.portState p)) (s.sharedFree p)
  | 0x1000030 => (F.RTP_LOAD_DEPTH p).into w (s.depth p fun u => u.cls ≤ 1)
  | 0x700030 => packW [(0, s.ptx.count (·.live)), (32, s.prx.count (·.live))]
  | _ => w

/-- Views of tolls, domains, locks, telemetry and the collector. -/
def State.viewSys (s : State) (base d : Nat) (w : Word) : Word :=
  let t := s.tollView
  let p := s.samp.look s.sampKey
  match base with
  | 0x780008 => packW [(0, s.chans.count (·.deferred.isSome)), (32, s.tolls.count (·.en))]
  | 0x780018 => packW [(0, s.get F.TOL_TOLL_SEL_TOLL), (16, t.dom % 65536), (32, t.cls % 8), (36, b2n t.aware), (37, b2n t.demote), (38, t.red % 4), (40, b2n t.en)]
  | 0x780020 => packW [(0, t.cir % 2 ^ 32), (32, t.pir % 2 ^ 32)]
  | 0x780028 => packW [(0, t.cbs % 2 ^ 32), (32, t.pbs % 2 ^ 32)]
  | 0x780030 => packW [(0, t.tc % 2 ^ 32), (32, t.tp % 2 ^ 32)]
  | 0x780038 => packW [(0, min t.reds (2 ^ 32 - 1)), (32, min t.yellow (2 ^ 32 - 1))]
  | 0x780048 => packW [(0, p.stage % 2 ^ 32), (32, p.depth % 65536), (48, p.delay % 65536)]
  | 0x780050 => packW [(32, p.peakDepth % 65536), (48, p.peakDelay % 65536)]
  | 0x600A0 =>
    let n := s.get F.SEC_DOMAIN_SEL_DOMAIN
    let m := s.doms.look n
    packW [(0, (s.domSt n).code), (3, b2n m.alt.isSome), (32, min m.authFails (2 ^ 32 - 1))]
  | 0x40200 => s.lockState (d / 8)
  | 0x40400 => s.lockCand (d / 8)
  | 0x50010 => F.TEL_SNAP_STATUS_FLITS.into w (snapFlits (s.get F.TEL_SNAP_CFG_SECTIONS))
  | 0x30000 => F.FLT_STATUS_ACTIVE.into w (s.active.foldl (fun n a => max n a.1) 0)
  | 0x32000 => if (fltClass (d / 8)).isNone then 0 else w
  | 0x10400 => if (if d / 8 < 16 then s.sensorOff (d / 8) else s.railOff (d / 8 - 16)) then (F.DEV_MON_VALID (d / 8)).into w 0 else w
  | _ => w

/-- The stored word as reads see it: a pending stage-latched value in place of the committed one (R9), WO fields zero (R7). -/
def State.stored (s : State) (off : Nat) : Word :=
  ((s.reg off &&& ~~~(s.smask.look off)) ||| s.spend.look off) &&& ~~~(fieldBits off fun f => f.acc == .wo)

/-- What a register at a 64-bit offset shows; windows beside the named registers first, and reserved addresses zero (R5). -/
def State.view (s : State) (off : Nat) : Word :=
  if 0x30200 ≤ off ∧ off < 0x30220 then s.first.words.getD ((off - 0x30200) / 8) 0
  else if 0x31000 ≤ off ∧ off < 0x31400 then (s.hist.look ((off - 0x31000) / 32)).words.getD ((off - 0x31000) % 32 / 8) 0
  else if 0x200800 ≤ off ∧ off < 0x200900 then s.runView ((off - 0x200800) / 8)
  else if 0x1500000 ≤ off ∧ off < 0x1600000 then s.routes.look ((off - 0x1500000) / 8)
  else if 0x1600000 ≤ off ∧ off < 0x1700000 then
    let i := s.get F.RTC_EP_PAGE_PAGE * 262144 + (off - 0x1600000) / 4
    packW [(0, s.eps.look i), (32, s.eps.look (i + 1))]
  else match rowAt off with
    | none => 0
    | some r =>
      let w := s.stored off
      let d := off - r.base
      if off < 0x100000 then s.viewSys r.base d w
      else if off < 0x300000 then s.viewQue r.base d w
      else if off < 0x600000 then s.viewMem r.base d w
      else if 0x780000 ≤ off ∧ off < 0x800000 then s.viewSys r.base d w
      else s.viewFab r.base d w

/-- Readings the spec gives no value for, drawn at each read: FEC counts, cage measurements, the rest of a retry wait, the age of a sample. -/
def State.viewFree (s : State) (off : Nat) : Word × State :=
  let w := s.view off
  match rowAt off with
  | none => (w, s)
  | some r =>
    let (x, t) := s.fresh
    if r.base = 0x2000040 || r.base = 0x80028 then (x, t)
    else if r.base = 0x80020 then
      let n := wbits w 47 32
      if n = 0 then (w, s) else ((F.CPW_STATUS_WAIT_MS ((off - 0x80020) / 64)).into w (1 + x.toNat % n), t)
    else if r.base = 0x10400 then
      if wbit w 63 then ((F.DEV_MON_AGE_US ((off - 0x10400) / 8)).into w x.toNat, t) else (w, s)
    else (w, s)

end Sys2Proof.Machine
end

