-- ==== Sys2Proof/Machine/Regs.lean ====
section
/-!
DEFINITION. Register access (R5 to R10, R34, R45 to R48): who reaches what, reads with their clearing, writes by access code and latch class, and what a
write starts.
-/
namespace Sys2Proof.Machine

/-! ### Reach -/

/-- The registers of the wedge-proof set (R524) and the mode and seal state, which the supervisor die keeps. -/
def wedgeProof (off : Nat) (write : Bool) : Bool :=
  if write then decide ((0x80000 ≤ off ∧ off < 0x80800) ∨ (0x40000 ≤ off ∧ off < 0x40200) ∨ (0x40600 ≤ off ∧ off < 0x40608))
  else decide (off < 0x80 ∨ (0x30000 ≤ off ∧ off < 0x40000) ∨ (0x80000 ≤ off ∧ off < 0x80800) ∨ (0x40000 ≤ off ∧ off < 0x41000) ∨
    (0x10400 ≤ off ∧ off < 0x104C0) ∨ (0x10308 ≤ off ∧ off < 0x10310) ∨ (0x10000 ≤ off ∧ off < 0x10008) ∨ (0x60000 ≤ off ∧ off < 0x60008))

/-- What a sealed device still lets BAR0 reads reach: MANI, FLT and SEC (R454). -/
def sealedRead (off : Nat) : Bool := decide (off < 0x10000 ∨ (0x30000 ≤ off ∧ off < 0x40000) ∨ (0x60000 ≤ off ∧ off < 0x70000))

/-- PF0 of a host port decodes BAR0. -/
def State.pf0Up (s : State) (p : Nat) : Bool :=
  let h := s.ports.look p
  decide (p < 4) && h.up && !h.fenced && (s.fnOf p 0).mse

/-- A VF decodes its window. -/
def State.vfUp (s : State) (p f : Nat) : Bool :=
  let h := s.ports.look p
  decide (p < 4 ∧ 1 ≤ f ∧ f ≤ h.numVf) && h.up && !h.fenced && h.vfEn && h.vfMse

/-- An access of an origin reaches a register (R34, R454, R523, R524). -/
def State.regOpen (s : State) (o : Origin) (off : Nat) (write : Bool) : Bool :=
  match s.hold, o with
  | .off, _ => false
  | .none, .sideband => !s.sealed || wedgeProof off write || (!write && sealedRead off)
  | .none, .pf0 p => s.pf0Up p && (!s.sealed || (!write && sealedRead off))
  | .none, .vf p f => s.vfUp p f && (!s.sealed || !write)
  | .none, .instr => !s.sealed
  | _, .sideband => wedgeProof off write
  | _, _ => false

/-- An access that R45 accepts; another is logged. -/
def sizeOk (off size : Nat) : Bool := (size == 4 || size == 8) && off % size == 0

/-- REG_ACCESS_SIZE. -/
def State.badSize (s : State) (off : Nat) : State := s.flt 0x002 (BitVec.ofNat 64 (off % 2 ^ 26))

/-- A register command of an origin on a register of its own. -/
def State.asWrite (s : State) (o : Origin) (off : Nat) (k : State → State) : State := if s.regOpen o off true then k s else s

/-! ### Reads -/

/-- Bits of a 64-bit register that an access covers. -/
def spanOf (off size : Nat) : Word := if size = 8 then BitVec.ofNat 64 (2 ^ 64 - 1) else if off % 8 = 4 then BitVec.ofNat 64 ((2 ^ 32 - 1) * 2 ^ 32) else BitVec.ofNat 64 (2 ^ 32 - 1)

/-- A field lies wholly within the bits that an access covers. -/
def FieldRow.within (f : FieldRow) (off size : Nat) : Bool := size == 8 || (if off % 8 = 4 then decide (32 ≤ f.lo) else decide (f.hi < 32))

/-- The part of a 64-bit value that an access returns. -/
def readPart (off size : Nat) (w : Word) : Word := if size = 8 then w else if off % 8 = 4 then w >>> 32 else w &&& BitVec.ofNat 64 (2 ^ 32 - 1)

/-- A read clears the RC fields that lie wholly within it (R7, R45). -/
def State.readClear (s : State) (off size : Nat) : State :=
  let o8 := off / 8 * 8
  let m := fieldBits o8 fun f => f.acc == .rc && f.within off size
  if m = 0 then s
  else match (rowAt o8).map (·.base) with
    | some 0x580800 => s.updChan ((o8 - 0x580800) / 8) fun c => { c with cmdIgnored := 0 }
    | some 0x780038 =>
      { s with tolls := s.tolls.upd (s.get F.TOL_TOLL_SEL_TOLL) fun t =>
          { t with yellow := if wbit m 32 then 0 else t.yellow, reds := if wbit m 0 then 0 else t.reds } }
    | some 0x780050 => { s with samp := s.samp.upd s.sampKey fun p => { p with peakDepth := 0, peakDelay := 0 } }
    | some 0x600A0 => s.updDom (s.get F.SEC_DOMAIN_SEL_DOMAIN) fun d => { d with authFails := 0 }
    | _ => s.setReg o8 (s.reg o8 &&& ~~~m)

/-- VFW_IDENT and VFW_STATUS, the consumer registers of the VF's event queues by slot, its MSI-X table (R36) and
its pending bits. -/
def State.vfWord (s : State) (p f off : Nat) : Word × State :=
  let h := s.fnOf p f
  if off = 0 then (packW [(0, s.nodeOf p % 2 ^ 20), (38, p), (40, f), (48, h.dom.getD 0 % 65536)], s)
  else if off = 8 then (packW [(0, b2n (s.mode == 2 && h.dom.isSome)), (1, b2n (h.tdi == .run)), (2, b2n s.sealed)], s)
  else if 0x1000 ≤ off ∧ off < 0x2000 then
    match s.eqs.keysOf fun q => q.st != .free && q.port == p && q.fn == f && q.vfslot == some ((off - 0x1000) / 8) with
    | e :: _ => ((s.eqs.look e).consWord, s)
    | [] => (0, s)
  else if 0x2000 ≤ off ∧ off < 0x2400 then
    let n := (off - 0x2000) / 16
    let w := BitVec.ofNat 64 (h.msixTab.look ((off - 0x2000) / 8))
    (if off % 16 = 0 then w else (⟨0, 63, 32⟩ : Fld).into w (b2n !(h.unmasked.contains n)), s)
  else if off = 0x3000 then (BitVec.ofNat 64 (bitSet (h.pend.filter (· < 64))), s)
  else (0, s)

/-- A register read (R7, R34, R45): the value goes out. The Manifest's entries are not served to the sideband (R42). A read of LCK_ACQ_n acquires (R488). -/
def State.regRead (s : State) (o : Origin) (off size : Nat) : State :=
  let o8 := off / 8 * 8
  if !s.regOpen o off false then s
  else if !sizeOk off size then (s.badSize off).out (.regData o off 0)
  else match o with
    | .vf p f => let (w, s) := s.vfWord p f o8; s.out (.regData o off (readPart off size w))
    | _ =>
      let side := o == .sideband
      if o8 < 0x10000 then s.out (.regData o off (readPart off size (if side && decide (0x80 ≤ o8) then 0 else manWord o8)))
      else if 0x40000 ≤ o8 ∧ o8 < 0x40200 then
        if off % 8 = 4 then s.out (.regData o off 0)
        else let (s, w) := s.lockRead o ((o8 - 0x40000) / 8); s.out (.regData o off w)
      else if 0x201000 ≤ o8 ∧ o8 < 0x2010C0 ∧ !side then s.out (.regData o off 0)
      else
        let (w, s) := s.viewFree o8
        (s.readClear off size).out (.regData o off (readPart off size w))

/-! ### Writes -/

/-- The block instance of a register's Q fields counts as stopped (R46). -/
def State.quiesced (s : State) (base d : Nat) : Bool :=
  if base = 0x60020 then s.bringup && !s.flag F.SEC_STATUS_FMKEY_LOCKED
  else s.bringup || match base with
    | 0x201000 => !s.flag F.SEQ_SB_CTRL_STATE
    | 0x201040 => !s.flag F.SEQ_SB_CTRL_STATE
    | 0x500008 => s.ktabState == 0
    | 0x580100 => s.chanState (d / 8) == 0
    | 0x581000 => !(s.chans.look (d / 128)).armed
    | 0x581008 => !(s.chans.look (d / 128)).armed
    | 0x581010 => !(s.chans.look (d / 128)).armed
    | 0x581018 => !(s.chans.look (d / 128)).armed
    | 0x581020 => !(s.chans.look (d / 128)).armed
    | 0x1000000 => s.portState (d / 65536) == 0
    | 0x60080 => s.get F.SEC_LEDGER_CTRL_STATE == 0
    | 0x60088 => s.get F.SEC_LEDGER_CTRL_STATE == 0
    | 0x2000000 => s.get (F.LAN_STATUS_STATE (d / 16384)) == 0
    | 0x2000008 => s.get (F.LAN_STATUS_STATE (d / 16384)) == 0
    | 0x80008 => s.cage (d / 64) ≤ 1 || s.cage (d / 64) == 7
    | 0x80010 => s.cage (d / 64) ≤ 1 || s.cage (d / 64) == 7
    | 0x80018 => s.cage (d / 64) ≤ 1 || s.cage (d / 64) == 7
    | 0x50008 => !s.flag F.TEL_SNAP_STATUS_STATE
    | 0x50018 => !s.flag F.TEL_SNAP_STATUS_STATE
    | _ => false

/-- A write is dropped whole (R10, R47). -/
def State.cfgDropped (s : State) (off : Nat) : State :=
  let s := if s.flag F.DEV_CFG_DROP_VALID then s.bump F.DEV_CFG_DROP_COUNT 1
    else ((s.put F.DEV_CFG_DROP_VALID 1).put F.DEV_CFG_DROP_FIRST_ADDR off).put F.DEV_CFG_DROP_COUNT 1
  s.flt 0x001 (BitVec.ofNat 64 (off % 2 ^ 26))

/-- What locking a TDI binds of a VF (R447): its domain and doorbell slots, its queues, event queues and contexts, its address spaces. -/
def State.tdiBound (s : State) (p f : Nat) : Option Nat × List Word × List (List Nat) :=
  ((s.fnOf p f).dom, (List.range 16).map fun j => s.reg (0x110000 + (p * 128 + (f - 1)) * 0x80 + j * 8),
    ((s.wqs.filter fun e => e.2.st != .free && e.2.port == p && e.2.fn == f).map fun e =>
      [0, e.1, e.2.pasid, e.2.eq, b2n e.2.eqEn, b2n (e.2.st == .stopping && e.2.after == .free)]) ++
    ((s.eqs.filter fun e => e.2.st != .free && e.2.port == p && e.2.fn == f).map fun e => [1, e.1, e.2.pasid]) ++
    ((s.mctx.filter fun e => e.2.st != .free && e.2.port == p && e.2.fn == f).map fun e => [2, e.1, e.2.pasid]) ++
    (s.pas.filter fun e => e.2.st != .free && e.2.port == p && e.2.fn == f).map fun e =>
      [3, e.1, e.2.root, b2n e.2.lv5, b2n e.2.preset, e.2.faultEq, b2n (s.invals.vals.any fun v => v.live && v.cmd == 1 && v.pasid == e.1)])

/-- A PF0 or sideband write that changes what a locked TDI binds takes effect, and the TDI enters ERROR (R447). -/
def State.tdiWatch (s : State) (k : State → State) : State :=
  let locked := s.fns.keysOf fun h => h.tdi == .locked || h.tdi == .run
  let t := k s
  locked.foldl (fun t n => if s.tdiBound (n / 129) (n % 129) = t.tdiBound (n / 129) (n % 129) then t else t.tdiTouch (n / 129) (n % 129)) t

/-- GO of a queue command set by OP. CREATE_WQ, START_WQ, RESET_WQ and DESTROY_WQ read the QCB, and are the commands that carry what the read returned. -/
def State.queGo (s : State) (r op : Nat) : State :=
  let index := s.get (F.QUE_CMD_INDEX r)
  match op with
  | 0 => s
  | 1 => s
  | 2 => s.stopWq r index
  | 3 => s
  | 4 => s
  | 5 => s.createEq r index (s.get (F.QUE_CMD_VFSLOT r))
  | 6 => s.destroyEq r index
  | n => s.queueCmd r n index fun s => s.queResult r 2

/-- GO of a match context command set by OP (R269). -/
def State.matGo' (s : State) (r op : Nat) : State :=
  match op with
  | 0 => s.ctxCreate r
  | 1 => s.ctxDestroy r
  | 2 => s.ctxClear r
  | 3 => s.ctxQuery r
  | n => s.matCmd r n fun s _ _ => s.matResult r 2

/-- A write through QUE_CTR_VAL_r acts as CSET (R204). -/
def State.ctrWrite (s : State) (r : Nat) (v : Word) : State :=
  let c := s.get (F.QUE_CTR_SEL_COUNTER r)
  let x := s.ctrs.look c
  if x.dom.getD 0 = 0 then s.ctrPut c { x with val := v } else s.flt 0x046 (BitVec.ofNat 64 c)

/-- A write of QUE_EQ_CONS_e: CONSUMER if the access covers it, then ARM (R201, R202). -/
def State.eqConsWrite (s : State) (e : Nat) (v m : Word) : State :=
  let s := if wbit m 0 then s.eqConsume e (wbits v 31 0) else s
  if wbit m 63 && wbit v 63 then s.eqArm e else s

/-- A write of BLK_RF_CMD_c: OP, then GO (R311). -/
def State.rfCmd (s : State) (c : Nat) (v : Word) : State :=
  let s := match wbits v 2 0 with
    | 0 => s
    | 1 => s.rfResume c
    | 2 => s.rfAbort c
    | 3 => s.rfAbortAll c
    | 4 => s.rfContinue c
    | _ => s.rfIgnored c
  if wbit v 63 then s.rfGo c else s

/-- A write of SEC_SEAL (R452). -/
def State.sealAsk (s : State) (o : Origin) (v : Word) : State :=
  if s.sealed then s
  else if wbit v 0 && wbits v 63 48 == 0x5EA1 && s.originAuth o then s.sealDevice 2
  else s.flt 0x010 (packW [(48, wbits v 63 48)])

/-- A write of DEV_RESET (R541): COLD with CONFIRM, from a PF0 that holds authority. -/
def State.coldAsk (s : State) (o : Origin) (v : Word) : State :=
  match o with
  | .pf0 _ => if wbit v 63 && wbits v 47 32 == 0xC01D && s.originAuth o then s.coldReset else s
  | _ => s

/-- A write of DEV_PD_CTRL: each request bit it changes, the core's last (R536, R539). -/
def State.pdCtrl (s : State) (v m : Word) : State :=
  let bit := fun (s : State) (n : Nat) (d : PDom) => if wbit m n then s.pdAsk d (wbit v n) else s
  let s := bit (bit s 1 .coll) 2 .mat
  let s := (List.range 4).foldl (fun s n => bit s (3 + n) (.host n)) s
  bit s 0 .core

/-- A write of DEV_PD_QUAD. -/
def State.pdQuads (s : State) (v m : Word) : State := (List.range 64).foldl (fun s n => if wbit m n then s.pdAsk (.quad n) (wbit v n) else s) s

/-- What a write starts in the DEV, CLK and SEQ blocks and the collector. `was`: the word before, `v`: the bits written, `m`: the fields covered. -/
def State.hookSys (s : State) (o : Origin) (base d : Nat) (was v m : Word) : State :=
  match base with
  | 0x10008 =>
    if !wbit v 63 then s
    else if wbits v 2 0 = 2 ∨ wbits v 2 0 = 3 then s.askMode o (wbits v 2 0) else s.put F.DEV_MODE_REQ_RESULT 2
  | 0x10010 => if wbit v 63 then s.askCommit o else s
  | 0x10028 => s.coldAsk o v
  | 0x10240 => if wbit v 63 then s.put F.DEV_CFG_DROP_COUNT 0 else s
  | 0x20008 => if wbit v 2 then s.refRevert else s
  | 0x20030 => if wbit v 63 then s.fmStart else s
  | 0x30008 => if wbit v 63 then s.firstClear else s
  | 0x32000 => if wbit v 63 then s.faultForce o (d / 8) else s
  | 0x40000 => if m = 0 then s else s.lockRelease o (d / 8)
  | 0x40600 => if wbit v 63 then s.lockForce o (wbits v 5 0) else s
  | 0x50008 => s.snapEn (wbit was 63)
  | 0x50028 => if wbit v 63 then s.bwStart else s
  | 0x60010 => s.sealAsk o v
  | 0x60018 => if wbit v 63 then s.fmRegister o else s
  | 0x60088 => s.put F.SEC_LEDGER_CTRL_STATE (s.get F.SEC_LEDGER_CTRL_EN)
  | 0x60100 => if wbit v 63 && !s.flag F.SEC_MBX_CTRL_BUSY then s.mbxSend else s
  | 0x80000 => s.cageCtrl (d / 64) (wbit was 63)
  | _ => s

/-- What a write starts in the other blocks. -/
def State.hookFab (s : State) (o : Origin) (base d : Nat) (was v m : Word) : State :=
  match base with
  | 0x100010 => if wbit v 63 then s.queGo (d / 64) (s.get (F.QUE_CMD_OP (d / 64))) else s
  | 0x100020 => if m = 0 then s else s.ctrWrite (d / 64) v
  | 0x120000 => s.eqConsWrite (d / 8) v m
  | 0x200210 => if wbit v 63 then s.pcacheInv (s.flag F.SEQ_PCACHE_INV_ALL) (s.get F.SEQ_PCACHE_INV_PASID) else s
  | 0x200300 => if m = 0 then s else s.runResume (wbits v 31 0)
  | 0x200308 => if m = 0 then s else s.runAbort (wbits v 31 0)
  | 0x2010C0 => if wbit v 63 && o == .sideband then s.sbStart else s
  | 0x300088 => if wbit m 0 && s.get F.MMU_TLB_LFSR_VALUE == 0 then s.put F.MMU_TLB_LFSR_VALUE 1 else s
  | 0x300110 => if wbit v 63 then s.asGo (d / 64) (s.get (F.MMU_AS_CMD_OP (d / 64))) else s
  | 0x300130 => if wbit v 63 then s.invGo (d / 64) (s.get (F.MMU_INV_SCOPE (d / 64))) else s
  | 0x401020 => if wbit v 63 then s.matGo' (d / 64) (s.get (F.MAT_CTX_CMD_OP (d / 64))) else s
  | 0x581030 => s.rfCmd (d / 128) v
  | 0x701000 => if wbit v 63 then s.linkDown (d / 32) 3 else s
  | 0x1000000 => if wbit was 63 && !s.flag (F.RTP_CTRL_EN (d / 65536)) then s.linkDown (d / 65536) 4 else s
  | 0x1400008 => if wbit v 62 && !s.flag F.RTC_BANK_COPY_BUSY then s.copyStart none else s
  | 0x2000000 =>
    let s := s.lanePower (d / 16384)
    if wbit v 0 then s.laneRetrain (d / 16384) else s
  | 0x2000020 => s.ffeWrite (d / 16384)
  | 0x2400000 => if wbit v 12 then s.modRescan (d / 4096) else s
  | 0x2400038 => if wbit v 63 && !s.flag (F.MOD_CMIS_CMD_BUSY (d / 4096)) then s.cmisGo (d / 4096) else s
  | _ => s

/-- A write of a named register by its fields' access codes and latch classes (R7 to R10): `off` as accessed, `v` in place within the 64-bit register. -/
def State.regPut (s : State) (o : Origin) (row : RegRow) (off size : Nat) (v : Word) : State :=
  let o8 := off / 8 * 8
  let d := o8 - row.base
  let bits := fun (p : FieldRow → Bool) => fieldBits o8 fun f => f.within off size && p f
  let m := bits fun f => f.acc != .ro && f.acc != .rc
  let v := v &&& m
  let was := s.reg o8
  let q := bits fun f => f.latch == .quiet
  let q := if row.base = 0x580100 ∧ d ≥ 128 then 0 else q
  if !s.quiesced row.base d && ((v ^^^ was) &&& q) != 0 then s.cfgDropped off
  else
    let live := bits (fun f => f.acc == .rw && f.latch == .live) ||| q
    let new := ((was &&& ~~~live) ||| (v &&& live)) &&& ~~~(v &&& bits fun f => f.acc == .w1c) ||| (v &&& bits fun f => f.acc == .w1s)
    match row.base with
    | 0x20020 => s.clkoutSet (d / 8) new
    | 0x500000 => if m = 0 then s else s.ktabEnable (wbit new 0)
    | 0x10030 => s.pdCtrl v m
    | 0x10038 => s.pdQuads v m
    | 0x30100 => s.faultClear (d / 8) v
    | 0x120000 => s.hookFab o row.base d was v m
    | 0x100020 => s.hookFab o row.base d was v m
    | 0x32000 => if (fltClass (d / 8)).isNone then s else (s.setReg o8 new).hookSys o row.base d was v m
    | b => if o8 < 0x100000 then (((s.setReg o8 new).stagePut o8 m v).hookSys o b d was v m) else (((s.setReg o8 new).stagePut o8 m v).hookFab o b d was v m)

/-- A write in a VF's window (R34): the consumer register of an event queue it owns, and its MSI-X table (R36). -/
def State.vfWrite (s : State) (p f off size : Nat) (v : Word) : State :=
  let o8 := off / 8 * 8
  if 0x1000 ≤ off ∧ off < 0x2000 then
    match s.eqs.keysOf fun q => q.st != .free && q.port == p && q.fn == f && q.vfslot == some ((o8 - 0x1000) / 8) with
    | e :: _ => s.eqConsWrite e v (spanOf off size)
    | [] => s
  else if 0x2000 ≤ off ∧ off < 0x2400 then
    let n := (off - 0x2000) / 16
    let m := spanOf off size &&& (if o8 % 16 = 0 then BitVec.ofNat 64 (2 ^ 64 - 1) else BitVec.ofNat 64 (2 ^ 32 - 1))
    let s := s.updFn p f fun h =>
      { h with msixTab := h.msixTab.upd ((o8 - 0x2000) / 8) fun (w : Nat) => ((BitVec.ofNat 64 w &&& ~~~m) ||| (v &&& m)).toNat }
    if o8 % 16 = 0 ∨ !(spanOf off size).getLsbD 32 then s
    else if wbit v 32 then s.updFn p f fun h => { h with unmasked := h.unmasked.erase n } else s.msixUnmask p f n
  else s

/-- Raw window writes: a route entry by a 64-bit write (R341), endpoint entries by each aligned 32 bits (R342). -/
def State.rawWrite (s : State) (off size : Nat) (v : Word) : State :=
  if off < 0x1600000 then
    if size = 8 then s.routeWrite ((off - 0x1500000) / 0x80000) ((off - 0x1500000) % 0x80000 / 8) v else s
  else
    let i := s.get F.RTC_EP_PAGE_PAGE * 262144 + (off - 0x1600000) / 4
    let s := s.epWrite i (wbits v 31 0)
    if size = 8 then s.epWrite (i + 1) (wbits v 63 32) else s

/-- A register write (R8, R45, R48): `v` the value written, in its low bits. -/
def State.regWrite (s : State) (o : Origin) (off size : Nat) (v : Word) : State :=
  let o8 := off / 8 * 8
  if !s.regOpen o off true then s
  else if !sizeOk off size then s.badSize off
  else
    let v := if size = 8 then v else v &&& BitVec.ofNat 64 (2 ^ 32 - 1)
    let at8 := if off % 8 = 4 then v <<< 32 else v
    match o with
    | .vf p f => s.vfWrite p f off size at8
    | _ =>
      if 0x1500000 ≤ off ∧ off < 0x1700000 then s.rawWrite off size v
      else if 0x201000 ≤ off ∧ off < 0x2010C0 ∧ o != .sideband then s
      else match rowAt o8 with
        | none => s
        | some row => if o == .instr then s.regPut o row off size at8 else s.tdiWatch fun s => s.regPut o row off size at8

end Sys2Proof.Machine
end

