-- ==== Sys2Proof/Machine/Range.lean ====
section
/-!
DEFINITION. What the meanings of commands share: which operands name an instance or a value that exists, when a command reaches the die that carries it out,
how a register command forms the word it writes, and how a command ends.
-/
namespace Sys2Proof.Machine

/-! ### Operands that exist -/

/-- A run: contexts 0 to 8,191 and the sideband run's number (R73, R120). -/
def okRun (n : Nat) : Bool := decide (n ≤ 8192)
/-- An operation slot of a run (R97). -/
def okSlot (n : Nat) : Bool := decide (n < 64)
/-- A cluster (R74). -/
def okCluster (n : Nat) : Bool := decide (n < 16)
/-- A work queue, counter, match context, router or domain number. -/
def ok16 (n : Nat) : Bool := decide (n < 65536)
/-- An event queue (R198). -/
def okEq (n : Nat) : Bool := decide (n < 16384)
/-- A register command set (R205, R238, R269). -/
def okSet (n : Nat) : Bool := decide (n < 5)
/-- A slot of a VF's event queue registers (QUE_CMD.VFSLOT). -/
def okVfSlot (n : Nat) : Bool := decide (n < 512)
/-- A fabric port. -/
def okPort (n : Nat) : Bool := decide (n < 64)
/-- A router input: a fabric port, or 64 for the device's own units (R343). -/
def okInput (n : Nat) : Bool := decide (n ≤ 64)
/-- A host port. -/
def okHost (n : Nat) : Bool := decide (n < 4)
/-- A function of a host port (R30). -/
def okFn (n : Nat) : Bool := decide (n ≤ 128)
/-- A virtual function of a host port. -/
def okVf (n : Nat) : Bool := decide (1 ≤ n ∧ n ≤ 128)
/-- An MSI-X vector (R35). -/
def okVec (fn n : Nat) : Bool := decide (n < if fn = 0 then 2048 else 64)
/-- An IDE stream. -/
def okStream (n : Nat) : Bool := decide (n < 256)
/-- A bulk mover channel, or 128 for the target's responder (R294, R300). -/
def okChan (n : Nat) : Bool := decide (n ≤ 128)
/-- A register-form channel (R305). -/
def okRf (n : Nat) : Bool := decide (n < 16)
/-- A collective group (R313). -/
def okGroup (n : Nat) : Bool := decide (n < 4096)
/-- A convoy (R359). -/
def okCvy (n : Nat) : Bool := decide (n < 1024)
/-- A hardware lock (R486). -/
def okLock (n : Nat) : Bool := decide (n < 64)
/-- A lane. -/
def okLane (n : Nat) : Bool := decide (n < 256)
/-- A cage. -/
def okCage (n : Nat) : Bool := decide (n < 32)
/-- A clock output (R71). -/
def okClkout (n : Nat) : Bool := decide (n < 2)
/-- A fault source number (R510). -/
def okSource (n : Nat) : Bool := decide (n < 512)
/-- A packet sequence number (R390). -/
def okPsn (n : Nat) : Bool := decide (n < 2 ^ 24)
/-- An SPDM session (R429). -/
def okSess (n : Nat) : Bool := decide (1 ≤ n ∧ n ≤ 32)
/-- An offset in BAR0 (R5). -/
def okOff (n : Nat) : Bool := decide (n < 2 ^ 26)

/-- Who may access a register. -/
def okOrigin : Origin → Bool
  | .pf0 p => okHost p
  | .vf p f => okHost p && okVf f
  | .sideband => true
  | .instr => true

/-- A transport that exists (R428). -/
def okTransport : Transport → Bool
  | .pcie p => okHost p
  | .sideband => true
  | .fabric o m => ok16 o && ok16 m

/-- The header fields of a DATA packet fit their bits (R381). -/
def okPacket (p : Packet) : Bool :=
  ok16 p.dstRouter && decide (p.dstNode < 2 ^ 20) && decide (p.dstFunc < 256) && decide (p.srcNode < 2 ^ 20) && decide (p.srcFunc < 256) &&
  ok16 p.domain && ok16 p.inter && okPsn p.psn && ok16 p.srcInc && ok16 p.dstInc && decide (p.birth < 4096) && decide (p.chan < 4) &&
  decide (p.len ≤ 4096) && ok16 p.rctr && decide (p.payload.length ≤ 4096)

/-- The header fields of a CTL packet fit their bits (R388). -/
def okCtl (c : Ctl) : Bool :=
  ok16 c.dstRouter && decide (c.dstNode < 2 ^ 20) && decide (c.dstFunc < 256) && decide (c.srcNode < 2 ^ 20) && decide (c.srcFunc < 256) &&
  ok16 c.domain && ok16 c.inter && okPsn c.psn && ok16 c.srcInc && ok16 c.dstInc && decide (c.birth < 4096) && decide (c.chan < 4) && decide (c.status < 256)

/-- The fields of a management message fit their bits (R387, R431). -/
def okMgmt (m : Mgmt) : Bool :=
  ok16 m.dstRouter && decide (m.birth < 4096) && decide (m.kind < 256) && ok16 m.target && ok16 m.targetInc && ok16 m.origin && ok16 m.mtag &&
  decide (m.seq < 2 ^ 64) && decide (m.prog.length + m.param.length ≤ 496) && decide (m.body.length ≤ 4096)

/-- The header fields of a slot frame fit their bits (R363). -/
def okFrame (f : Frame) : Bool :=
  okCvy f.convoy && ok16 f.domain && decide (f.seq < 2 ^ 32) && ok16 f.len && ok16 f.srcInc && ok16 f.srcRouter

/-- The fields of a link control flit fit their bits (R378). -/
def okLcf (l : Lcf) : Bool := decide (l.lack < 4096 ∧ l.freed.length ≤ 32) && l.freed.all fun n => decide (n < 4096)

/-- The fields of a LINIT unit fit their bits (R377). -/
def okLinit (l : Linit) : Bool := ok16 l.router && ok16 l.inc && okPort l.port && decide (l.period < 4)

/-- The fields of a gossip unit fit their bits (R380). -/
def okGossip (g : Gossip) : Bool := ok16 g.router && decide (g.levels.length ≤ 64) && g.levels.all fun n => decide (n < 16)

/-- The fields of a time sync unit fit their bits (R380). -/
def okSync (u : TimeSync) : Bool :=
  decide (u.txTime < 2 ^ 64 ∧ u.rxTime < 2 ^ 64 ∧ u.stage < 2 ^ 48 ∧ u.period < 4) && ok16 u.gmRouter && ok16 u.sender

/-- The link word of a sequenced unit fits its bits, and so does what it carries (R371). -/
def okUnit (u : LinkUnit) : Bool :=
  decide (u.vc < 32 ∧ u.lseq < 4096) && match u.body with
    | .data p => okPacket p
    | .ctl c => okCtl c
    | .mgmt m => okMgmt m

/-- A configuration write names an existing port and function. -/
def okCfg : CfgWrite → Bool
  | .busMaster p f _ => okHost p && okFn f
  | .msixEnable p f _ => okHost p && okFn f
  | .memSpace p f _ => okHost p && okFn f
  | .vecMask p f v => okHost p && okFn f && okVec f v
  | .numVfs p n => okHost p && okFn n
  | .vfEnable p _ => okHost p
  | .vfMemSpace p _ => okHost p
  | .barBase p _ => okHost p

/-! ### Where a command acts -/

/-- A command that the fabric die carries out: nothing while the device is held in Reset (R541). -/
def State.fabric (s : State) (k : State → State) : State := if s.hold = .none then k s else s

/-- A command that the supervisor die carries out: nothing without its supply (R545). -/
def State.powered (s : State) (k : State → State) : State := if s.hold = .off then s else k s

/-- A register command set's command that a row gives without an origin: not on a sealed device (R454), and a locked TDI watches it (R447). -/
def State.command (s : State) (k : State → State) : State := s.fabric fun s => if s.sealed then s else s.tdiWatch k

/-! ### Words that register commands write -/

/-- The RW fields of a register at the values a read shows. -/
def State.kept (s : State) (off : Nat) : Word := s.stored off &&& fieldBits off fun f => f.acc == .rw

/-- A 64-bit write that sets bits of a register and leaves its other fields. -/
def State.setBits (s : State) (o : Origin) (off : Nat) (bits : Word) : State := s.regWrite o off 8 (s.kept off ||| bits)

/-- A 64-bit write that clears bits of a register and leaves its other fields. -/
def State.clearBits (s : State) (o : Origin) (off : Nat) (bits : Word) : State := s.regWrite o off 8 (s.kept off &&& ~~~bits)

/-- A word with one bit set. -/
def bitW (n : Nat) : Word := BitVec.ofNat 64 (2 ^ n)

/-! ### Ends -/

/-- A command ends: what it left behind is carried out. -/
def ended (ok : Bool) (s : State) : Res := ranged ok s.settle

/-- What a step does while no command waits: 1/1,024 of a stage passes (R50), up to the last one before the next boundary. -/
def State.idle (s : State) : State := s.fabric fun s => s.put F.STG_NOW_FRAC (min (s.frac + 1) 1023)

/-- A read of structures by the engines that `mine` names returns with the words it asked for, or fails. -/
def State.readBack (s : State) (id : Nat) (mine : Client → Bool) (r : ReadRes) : State :=
  match r with
  | .ok ws => if ws.length = (chunkLen (s.accs.look id).orig + 7) / 8 then s.accReturn id mine (.ok ws) else s
  | .busErr => s.accReturn id mine .busErr

end Sys2Proof.Machine
end

