-- ==== Sys2Proof/Machine/CmdRegs.lean ====
section
/-!
DEFINITION. Meanings: Register reads and writes (spec/02).
-/
namespace Sys2Proof.Machine

/-- REGISTER_WRITE (R8). -/
def execRegisterWrite (o : Origin) (off size : Nat) (v : Word) (s : State) : Res := ended (okOrigin o && okOff off) (s.regWrite o off size v)

/-- RC_READ (R7). -/
def execRcRead (o : Origin) (off size : Nat) (s : State) : Res := ended (okOrigin o && okOff off) (s.regRead o off size)

end Sys2Proof.Machine
end

