-- ==== Sys2Proof/Machine/CmdClocks.lean ====
section
/-!
DEFINITION. Meanings: The stage clock, its sync and the clocks of the chip (spec/03).
-/
namespace Sys2Proof.Machine

/-- STAGE_BOUNDARY (R58). -/
def execStageBoundary (b : Boundary) (s : State) : Res := ended (boundaryOk b) (s.fabric fun s => s.stageBoundary b)

/-- S_FIELD_COMMIT (R9). -/
def execSFieldCommit (s : State) : Res := ended true (s.fabric fun s => s.commitS s.now)

/-- PERIOD_CHANGE (R51). -/
def execPeriodChange (s : State) : Res := ended true (s.fabric fun s => s.periodChange s.now)

/-- TIME_SYNC_RECEIVE (R52). -/
def execTimeSyncReceive (port : Nat) (u : TimeSync) (arrival : Nat) (s : State) : Res :=
  ended (okPort port && okSync u) (s.fabric fun s => s.syncArrive port u arrival)

/-- SYNC_LOST (R57). -/
def execSyncLost (why : SyncLoss) (s : State) : Res := ended true (s.fabric fun s => s.syncLost why)

/-- REFCLK_FAIL (R62). -/
def execRefclkFail (r : RefObs) (s : State) : Res := ended true (s.fabric fun s => s.refJudge r)

/-- REFCLK_QUALIFIED (R63). -/
def execRefclkQualified (isB : Bool) (s : State) : Res := ended true (s.fabric fun s => s.refQual isB)

/-- CORE_PLL_RELOCK (R65). -/
def execCorePllRelock (s : State) : Res := ended true (s.fabric fun s => s.coreRelock)

/-- REVERT (R64). -/
def execRevert (o : Origin) (s : State) : Res := ended (okOrigin o) (s.setBits o 0x20008 (bitW 2))

/-- TB_PLL_UNLOCK (R67). -/
def execTbPllUnlock (s : State) : Res := ended true (s.fabric fun s => s.tbUnlock)

/-- CORE_PLL_UNLOCK (R67). -/
def execCorePllUnlock (s : State) : Res := ended true (s.fabric fun s => s.coreUnlock)

/-- MGMT_PLL_UNLOCK (R67). -/
def execMgmtPllUnlock (s : State) : Res := ended true (s.fabric fun s => s.mgmtUnlock)

/-- MGMT_PLL_LOCK (R464). -/
def execMgmtPllLock (s : State) : Res := ended true (s.fabric fun s => s.mgmtLocked)

/-- HOSTREF_FAIL (R67). -/
def execHostrefFail (port : Nat) (s : State) : Res := ended (okHost port) (s.fabric fun s => s.hostrefBad port)

/-- HOSTREF_OK (R540). -/
def execHostrefOk (port : Nat) (s : State) : Res := ended (okHost port) (s.fabric fun s => s.hostrefGood port)

/-- CLKOUT_CONFIG_WRITE (R71). -/
def execClkoutConfigWrite (o : Origin) (n : Nat) (v : Word) (s : State) : Res := ended (okOrigin o && okClkout n) (s.regWrite o (0x20020 + 8 * n) 8 v)

/-- CLKOUT_HOLD_END (R71). -/
def execClkoutHoldEnd (n : Nat) (s : State) : Res := ended (okClkout n) (s.fabric fun s => s.clkoutGo n)

/-- FMETER_START (R72). -/
def execFmeterStart (o : Origin) (v : Word) (s : State) : Res := ended (okOrigin o) (s.regWrite o 0x20030 8 (v ||| bitW 63))

/-- FMETER_DONE (R72). -/
def execFmeterDone (edges : Nat) (s : State) : Res := ended true (s.fabric fun s => s.fmDone edges)

end Sys2Proof.Machine
end

