-- ==== Sys2Proof/Machine/CmdRuns.lean ====
section
/-!
DEFINITION. Meanings: Runs outside their instructions: places, returns of their own reads, parking, ends and errors (spec/04).
-/
namespace Sys2Proof.Machine

/-- RUN_RESTORE (R78). -/
def execRunRestore (cluster : Nat) (s : State) : Res := ended (okCluster cluster) (s.fabric fun s => s.runRestore cluster)

/-- IMAGE_FETCH_RETURN (R92). -/
def execImageFetchReturn (id : Nat) (r : ReadRes) (s : State) : Res :=
  ended true (s.fabric fun s => s.readBack id (fun c => match c with | .fetch _ => true | _ => false) r)

/-- LD_RETURN (R93). -/
def execLdReturn (id : Nat) (r : ReadRes) (s : State) : Res :=
  ended true (s.fabric fun s => s.readBack id (fun c => match c with | .ld _ => true | _ => false) r)

/-- DESCRIPTOR_READ_RETURN (R88). -/
def execDescriptorReadReturn (id : Nat) (r : ReadRes) (s : State) : Res :=
  ended true (s.fabric fun s => s.readBack id (fun c => match c with | .desc _ => true | _ => false) r)

/-- FRAGMENT_TABLE_READ_RETURN (R185). -/
def execFragmentTableReadReturn (id : Nat) (r : ReadRes) (s : State) : Res :=
  ended true (s.fabric fun s => s.readBack id (fun c => match c with | .frag _ _ => true | _ => false) r)

/-- OP_LOCAL_COMPLETION (R105). -/
def execOpLocalCompletion (run slot : Nat) (s : State) : Res := ended (okRun run && okSlot slot) (s.fabric fun s => s.opReport (run * 64 + slot))

/-- WAIT_TIMEOUT (R101). -/
def execWaitTimeout (run : Nat) (s : State) : Res := ended (okRun run) (s.fabric fun s => s.waitTimeout run)

/-- LOCK_TIMEOUT (R155). -/
def execLockTimeout (run : Nat) (s : State) : Res := ended (okRun run) (s.fabric fun s => s.lockTimeout run)

/-- RUN_FREE (R105). -/
def execRunFree (run : Nat) (s : State) : Res := ended (okRun run) (s.fabric fun s => s.runFree run)

/-- RUN_PARK (R111). -/
def execRunPark (run : Nat) (s : State) : Res := ended (okRun run) (s.fabric fun s => s.runPark run)

/-- RUN_RESUME (R114). -/
def execRunResume (o : Origin) (handle : BitVec 32) (s : State) : Res := ended (okOrigin o) (s.regWrite o 0x200300 8 (BitVec.ofNat 64 handle.toNat))

/-- RUN_ABORT (R115). -/
def execRunAbort (o : Origin) (handle : BitVec 32) (s : State) : Res := ended (okOrigin o) (s.regWrite o 0x200308 8 (BitVec.ofNat 64 handle.toNat))

/-- PCACHE_INVALIDATE (R94). -/
def execPcacheInvalidate (o : Origin) (v : Word) (s : State) : Res := ended (okOrigin o) (s.regWrite o 0x200210 8 (v ||| bitW 63))

/-- SIDEBAND_RUN_START (R120). -/
def execSidebandRunStart (o : Origin) (s : State) : Res := ended (okOrigin o) (s.setBits o 0x2010C0 (bitW 63))

/-- SEQ_CTX_ECC (R108). -/
def execSeqCtxEcc (run : Nat) (s : State) : Res := ended (okRun run) (s.fabric fun s => s.ctxEcc run)

/-- SEQ_CLUSTER_ECC (R108). -/
def execSeqClusterEcc (cluster : Nat) (s : State) : Res := ended (okCluster cluster) (s.fabric fun s => s.clusterEcc cluster)

end Sys2Proof.Machine
end

