-- ==== Sys2Proof/Machine/Dexez.lean ====
section
/-!
DEFINITION. Meanings: The instructions of Dexez (spec/05): the instruction at a run's program counter falls due to issue. A row acts when that instruction is the row's own; steps 1 to 5 of R121 come first.
-/
namespace Sys2Proof.Machine

/-- UNASSIGNED_OPCODE (R122). -/
def execUnassignedOpcode (run : Nat) (s : State) : Res := ended (okRun run) (s.fabric fun s => s.dexUnassigned run)

/-- NOP (R130). -/
def execNop (run : Nat) (s : State) : Res := ended (okRun run) (s.fabric fun s => s.dexNop run)

/-- END (R130). -/
def execProgEnd (run : Nat) (s : State) : Res := ended (okRun run) (s.fabric fun s => s.dexEnd run)

/-- LDQ (R131). -/
def execLdq (run : Nat) (s : State) : Res := ended (okRun run) (s.fabric fun s => s.dexLdq run)

/-- LDI (R131). -/
def execLdi (run : Nat) (s : State) : Res := ended (okRun run) (s.fabric fun s => s.dexLdi run)

/-- LD (R132). -/
def execLd (run : Nat) (s : State) : Res := ended (okRun run) (s.fabric fun s => s.dexLd run)

/-- ST (R132). -/
def execSt (run : Nat) (s : State) : Res := ended (okRun run) (s.fabric fun s => s.dexSt run)

/-- ADD (R133). -/
def execAdd (run : Nat) (s : State) : Res := ended (okRun run) (s.fabric fun s => s.dexAlu run 0x06 fun a x => a + x)

/-- SUB (R133). -/
def execSub (run : Nat) (s : State) : Res := ended (okRun run) (s.fabric fun s => s.dexAlu run 0x07 fun a x => a - x)

/-- AND (R133). -/
def execAnd (run : Nat) (s : State) : Res := ended (okRun run) (s.fabric fun s => s.dexAlu run 0x08 fun a x => a &&& x)

/-- OR (R133). -/
def execOr (run : Nat) (s : State) : Res := ended (okRun run) (s.fabric fun s => s.dexAlu run 0x09 fun a x => a ||| x)

/-- XOR (R133). -/
def execXor (run : Nat) (s : State) : Res := ended (okRun run) (s.fabric fun s => s.dexAlu run 0x0A fun a x => a ^^^ x)

/-- SHL (R133). -/
def execShl (run : Nat) (s : State) : Res := ended (okRun run) (s.fabric fun s => s.dexAlu run 0x0B fun a x => a <<< wbits x 5 0)

/-- SHR (R133). -/
def execShr (run : Nat) (s : State) : Res := ended (okRun run) (s.fabric fun s => s.dexAlu run 0x0C fun a x => a >>> wbits x 5 0)

/-- MOV (R133). -/
def execMov (run : Nat) (s : State) : Res := ended (okRun run) (s.fabric fun s => s.dexMov run)

/-- BR (R134). -/
def execBr (run : Nat) (s : State) : Res := ended (okRun run) (s.fabric fun s => s.dexBr run)

/-- BRC (R134). -/
def execBrc (run : Nat) (s : State) : Res := ended (okRun run) (s.fabric fun s => s.dexBrc run)

/-- BRS (R135). -/
def execBrs (run : Nat) (s : State) : Res := ended (okRun run) (s.fabric fun s => s.dexBrs run)

/-- PUT (R137). -/
def execPut (run : Nat) (s : State) : Res := ended (okRun run) (s.fabric fun s => s.dexPutGet run 0x20)

/-- GET (R138). -/
def execGet (run : Nat) (s : State) : Res := ended (okRun run) (s.fabric fun s => s.dexPutGet run 0x21)

/-- PUTX (R139). -/
def execPutx (run : Nat) (s : State) : Res := ended (okRun run) (s.fabric fun s => s.dexIndexed run 0x22)

/-- GETX (R139). -/
def execGetx (run : Nat) (s : State) : Res := ended (okRun run) (s.fabric fun s => s.dexIndexed run 0x23)

/-- AMO (R141). -/
def execAmo (run : Nat) (s : State) : Res := ended (okRun run) (s.fabric fun s => s.dexAmo run 0x24)

/-- AMOF (R142). -/
def execAmof (run : Nat) (s : State) : Res := ended (okRun run) (s.fabric fun s => s.dexAmo run 0x25)

/-- COPY (R143). -/
def execCopy (run : Nat) (s : State) : Res := ended (okRun run) (s.fabric fun s => s.dexCopy run)

/-- SEND (R145). -/
def execSend (run : Nat) (s : State) : Res := ended (okRun run) (s.fabric fun s => s.dexSend run)

/-- POST (R146). -/
def execPost (run : Nat) (s : State) : Res := ended (okRun run) (s.fabric fun s => s.dexPost run)

/-- CANCEL (R147). -/
def execCancel (run : Nat) (s : State) : Res := ended (okRun run) (s.fabric fun s => s.dexCancel run)

/-- WAIT (R100). -/
def execWait (run : Nat) (s : State) : Res := ended (okRun run) (s.fabric fun s => s.dexWait run)

/-- SIGNAL (R149). -/
def execSignal (run : Nat) (s : State) : Res :=
  ended (okRun run) (s.fabric fun s => s.dexCounter run 0x41 fun r i v => v + (if i.opf % 2 = 1 then r.rg i.ra else 1))

/-- CSET (R149). -/
def execCset (run : Nat) (s : State) : Res := ended (okRun run) (s.fabric fun s => s.dexCounter run 0x42 fun r i _ => r.rg i.ra)

/-- FENCE (R150). -/
def execFence (run : Nat) (s : State) : Res := ended (okRun run) (s.fabric fun s => s.dexFence run)

/-- JOIN (R151). -/
def execJoin (run : Nat) (s : State) : Res := ended (okRun run) (s.fabric fun s => s.dexToken run 0x50)

/-- REDUCE (R152). -/
def execReduce (run : Nat) (s : State) : Res := ended (okRun run) (s.fabric fun s => s.dexReduce run)

/-- BCAST (R153). -/
def execBcast (run : Nat) (s : State) : Res := ended (okRun run) (s.fabric fun s => s.dexBcast run)

/-- BARRIER (R151). -/
def execBarrier (run : Nat) (s : State) : Res := ended (okRun run) (s.fabric fun s => s.dexToken run 0x53)

/-- LOCK (R155). -/
def execLock (run : Nat) (s : State) : Res := ended (okRun run) (s.fabric fun s => s.dexLock run)

/-- UNLOCK (R157). -/
def execUnlock (run : Nat) (s : State) : Res := ended (okRun run) (s.fabric fun s => s.dexUnlock run)

/-- EVENT (R158). -/
def execEvent (run : Nat) (s : State) : Res := ended (okRun run) (s.fabric fun s => s.dexEvent run)

/-- TRAP (R159). -/
def execTrap (run : Nat) (s : State) : Res := ended (okRun run) (s.fabric fun s => s.dexTrap run)

/-- RTSET_WRITE (R340). -/
def execRtsetWrite (run : Nat) (s : State) : Res := ended (okRun run) (s.fabric fun s => s.dexRtWrite run)

/-- RTSET_SWAP (R340). -/
def execRtsetSwap (run : Nat) (s : State) : Res := ended (okRun run) (s.fabric fun s => s.dexRtSwap run)

/-- RTSET_COPY (R340). -/
def execRtsetCopy (run : Nat) (s : State) : Res := ended (okRun run) (s.fabric fun s => s.dexRtCopy run)

/-- CONVOY_SETUP (R164). -/
def execConvoySetup (run : Nat) (s : State) : Res := ended (okRun run) (s.fabric fun s => s.dexCvySetup run)

/-- CONVOY_TEARDOWN (R369). -/
def execConvoyTeardown (run : Nat) (s : State) : Res := ended (okRun run) (s.fabric fun s => s.dexCvyTeardown run)

/-- TOLLSET (R420). -/
def execTollset (run : Nat) (s : State) : Res := ended (okRun run) (s.fabric fun s => s.dexTollset run)

/-- DOMAIN_ACTIVATE (R435). -/
def execDomainActivate (run : Nat) (s : State) : Res := ended (okRun run) (s.fabric fun s => s.dexDomActivate run)

/-- DOMAIN_RETIRE (R435). -/
def execDomainRetire (run : Nat) (s : State) : Res := ended (okRun run) (s.fabric fun s => s.dexDomRetire run)

/-- BIND_FUNC (R161). -/
def execBindFunc (run : Nat) (s : State) : Res := ended (okRun run) (s.fabric fun s => s.dexBindFunc run)

/-- BIND_PASID (R208). -/
def execBindPasid (run : Nat) (s : State) : Res := ended (okRun run) (s.fabric fun s => s.dexBindPasid run)

/-- BIND_CTR (R203). -/
def execBindCtr (run : Nat) (s : State) : Res := ended (okRun run) (s.fabric fun s => s.dexBindCtr run)

/-- KEYOP_CREATE (R276). -/
def execKeyopCreate (run : Nat) (s : State) : Res := ended (okRun run) (s.fabric fun s => s.dexKeyDesc run 0)

/-- KEYOP_REVOKE (R276). -/
def execKeyopRevoke (run : Nat) (s : State) : Res := ended (okRun run) (s.fabric fun s => s.dexKeyRevoke run)

/-- KEYOP_REBOUND (R276). -/
def execKeyopRebound (run : Nat) (s : State) : Res := ended (okRun run) (s.fabric fun s => s.dexKeyDesc run 2)

/-- CTXFLUSH_QUEUE (R161). -/
def execCtxflushQueue (run : Nat) (s : State) : Res := ended (okRun run) (s.fabric fun s => s.dexFlushQueue run)

/-- CTXFLUSH_MATCH (R161). -/
def execCtxflushMatch (run : Nat) (s : State) : Res := ended (okRun run) (s.fabric fun s => s.dexFlushMatch run)

/-- CTXFLUSH_DOMAIN (R161). -/
def execCtxflushDomain (run : Nat) (s : State) : Res := ended (okRun run) (s.fabric fun s => s.dexFlushDomain run)

/-- TLBINV_ALL (R224). -/
def execTlbinvAll (run : Nat) (s : State) : Res := ended (okRun run) (s.fabric fun s => s.dexTlbinv run 0 fun _ _ => some .all)

/-- TLBINV_PASID (R224). -/
def execTlbinvPasid (run : Nat) (s : State) : Res :=
  ended (okRun run) (s.fabric fun s => s.dexTlbinv run 1 fun r i => some (.pasid (wbits (r.rg i.ra) 19 0)))

/-- TLBINV_PAGE (R224). -/
def execTlbinvPage (run : Nat) (s : State) : Res :=
  ended (okRun run) (s.fabric fun s => s.dexTlbinv run 2 fun r i => some (.range (wbits (r.rg i.ra) 19 0) ((r.rg i.rb).toNat / 4096) ((r.rg i.rb).toNat / 4096)))

/-- TLBINV_RANGE (R224). -/
def execTlbinvRange (run : Nat) (s : State) : Res :=
  ended (okRun run) (s.fabric fun s => s.dexTlbinv run 3 fun r i => rangeScope (wbits (r.rg i.ra) 19 0) (r.rg i.rb).toNat (r.rg i.rc).toNat)

/-- GROUPSET_CREATE (R313). -/
def execGroupsetCreate (run : Nat) (s : State) : Res := ended (okRun run) (s.fabric fun s => s.dexGrpCreate run)

/-- GROUPSET_DESTROY (R335). -/
def execGroupsetDestroy (run : Nat) (s : State) : Res := ended (okRun run) (s.fabric fun s => s.dexGrpDestroy run)

/-- EPSET (R336). -/
def execEpset (run : Nat) (s : State) : Res := ended (okRun run) (s.fabric fun s => s.dexEpset run)

/-- STAGECFG_PERIOD (R51). -/
def execStagecfgPeriod (run : Nat) (s : State) : Res := ended (okRun run) (s.fabric fun s => s.dexStagePeriod run)

/-- STAGECFG_SYNC (R161). -/
def execStagecfgSync (run : Nat) (s : State) : Res := ended (okRun run) (s.fabric fun s => s.dexStageSync run)

end Sys2Proof.Machine
end

