-- ==== Sys2Proof/Machine/CmdQueues.lean ====
section
/-!
DEFINITION. Meanings: Work queues, event queues and counters (spec/06).
-/
namespace Sys2Proof.Machine

/-- A write of an event queue's consumer register by an origin: the VF that owns it reaches it at its slot of the VF's window (R34), the others at
QUE_EQ_CONS_e. -/
def State.eqReg (s : State) (o : Origin) (e : Nat) (k : State → Nat → State) : State :=
  match o with
  | .vf p f =>
    let q := s.eqs.look e
    match q.vfslot with
    | some n => if q.st != .free && q.port == p && q.fn == f then k s (0x1000 + 8 * n) else s
    | none => s
  | _ => k s (0x120000 + 8 * e)

/-- WQ_TURN (R187). -/
def execWqTurn (q : Nat) (s : State) : Res := ended (ok16 q) (s.fabric fun s => s.wqTurn q)

/-- PRODUCER_READ_RETURN (R172). -/
def execProducerReadReturn (id : Nat) (r : ReadRes) (s : State) : Res :=
  ended true (s.fabric fun s => s.readBack id (fun c => match c with | .prod _ => true | _ => false) r)

/-- ENTRY_READ_RETURN (R178). -/
def execEntryReadReturn (id : Nat) (r : ReadRes) (s : State) : Res :=
  ended true (s.fabric fun s => s.readBack id (fun c => match c with | .hdr _ => true | .entry _ => true | _ => false) r)

/-- OWNERSHIP_POLL (R178). -/
def execOwnershipPoll (q : Nat) (s : State) : Res := ended (ok16 q) (s.fabric fun s => s.ownPoll q)

/-- CREATE_WQ (R190). -/
def execCreateWq (set index : Nat) (qcb : QcbRes) (s : State) : Res := ended (okSet set && ok16 index) (s.command fun s => s.createWq set index qcb)

/-- START_WQ (R190). -/
def execStartWq (set index : Nat) (qcb : QcbRes) (s : State) : Res := ended (okSet set && ok16 index) (s.command fun s => s.startWq set index qcb)

/-- STOP_WQ (R190). -/
def execStopWq (set index : Nat) (s : State) : Res := ended (okSet set && ok16 index) (s.command fun s => s.stopWq set index)

/-- RESET_WQ (R190). -/
def execResetWq (set index : Nat) (prod : QcbRes) (s : State) : Res :=
  ended (okSet set && ok16 index) (s.command fun s => s.resetWq set index prod false)

/-- DESTROY_WQ (R190). -/
def execDestroyWq (set index : Nat) (prod : QcbRes) (s : State) : Res :=
  ended (okSet set && ok16 index) (s.command fun s => s.resetWq set index prod true)

/-- CREATE_EQ (R205). -/
def execCreateEq (set index vfslot : Nat) (s : State) : Res :=
  ended (okSet set && okEq index && okVfSlot vfslot) (s.command fun s => s.createEq set index vfslot)

/-- DESTROY_EQ (R205). -/
def execDestroyEq (set index : Nat) (s : State) : Res := ended (okSet set && okEq index) (s.command fun s => s.destroyEq set index)

/-- EQ_CONSUMER_WRITE (R201). -/
def execEqConsumerWrite (o : Origin) (e : Nat) (v : Word) (s : State) : Res :=
  ended (okOrigin o && okEq e) (s.eqReg o e (fun s off => s.regWrite o off 8 v))

/-- EQ_ARM (R202). -/
def execEqArm (o : Origin) (e : Nat) (s : State) : Res := ended (okOrigin o && okEq e) (s.eqReg o e (fun s off => s.regWrite o (off + 4) 4 (bitW 31)))

/-- EQ_MODERATION_TIMEOUT (R202). -/
def execEqModerationTimeout (e : Nat) (s : State) : Res := ended (okEq e) (s.fabric fun s => s.eqModerate e)

/-- COUNTER_WRITE (R204). -/
def execCounterWrite (o : Origin) (set : Nat) (v : Word) (s : State) : Res := ended (okOrigin o && okSet set) (s.regWrite o (0x100020 + 64 * set) 8 v)

/-- DOORBELL (R32). -/
def execDoorbell (d : DbWrite) (s : State) : Res := ended (okHost d.port && okFn d.fn && decide (d.page < 65536)) (s.fabric fun s => s.doorbell d)

end Sys2Proof.Machine
end

