-- ==== Sys2Proof/Machine/CmdHost.lean ====
section
/-!
DEFINITION. Meanings: Host ports, functions, TDISP and IDE, and requests without a completion (spec/02, spec/15, spec/22).
-/
namespace Sys2Proof.Machine

/-- MSIX_UNMASK (R36). -/
def execMsixUnmask (port fn vec : Nat) (s : State) : Res :=
  ended (okHost port && okFn fn && okVec fn vec) (s.fabric fun s => s.msixUnmask port fn vec)

/-- HOST_LINK_UP (R28). -/
def execHostLinkUp (port rate width : Nat) (flit : Bool) (s : State) : Res :=
  ended (okHost port && decide (1 ≤ rate ∧ rate ≤ 6 ∧ 1 ≤ width ∧ width ≤ 5)) (s.fabric fun s => s.hostUp port rate width flit)

/-- HOST_LINK_DOWN (R29). -/
def execHostLinkDown (port : Nat) (s : State) : Res := ended (okHost port) (s.fabric fun s => s.hostDown port)

/-- HOST_HOT_RESET (R29). -/
def execHostHotReset (port : Nat) (s : State) : Res := ended (okHost port) (s.fabric fun s => s.hostDown port)

/-- FUNCTION_LEVEL_RESET (R31). -/
def execFunctionLevelReset (port fn : Nat) (s : State) : Res :=
  ended (okHost port && okFn fn) (s.fabric fun s => s.fnsReset port (fun f => f == fn) false)

/-- VF_ENABLE_CLEAR (R31). -/
def execVfEnableClear (port : Nat) (s : State) : Res := ended (okHost port) (s.fabric fun s => s.vfClear port)

/-- CONFIGURATION_WRITE (R36). -/
def execConfigurationWrite (w : CfgWrite) (s : State) : Res := ended (okCfg w) (s.fabric fun s => s.cfgWrite w)

/-- COMPLETION_TIMEOUT (R559). -/
def execCompletionTimeout (id : Nat) (s : State) : Res := ended true (s.fabric fun s => s.reqTimeout id)

/-- LOCK_INTERFACE_REQUEST (R447). -/
def execLockInterfaceRequest (port vf stream : Nat) (s : State) : Res :=
  ended (okHost port && okVf vf && okStream stream) (s.fabric fun s => s.tdiLock port vf stream)

/-- START_INTERFACE_REQUEST (R446). -/
def execStartInterfaceRequest (port vf : Nat) (s : State) : Res := ended (okHost port && okVf vf) (s.fabric fun s => s.tdiStart port vf)

/-- STOP_INTERFACE_REQUEST (R446). -/
def execStopInterfaceRequest (port vf : Nat) (s : State) : Res := ended (okHost port && okVf vf) (s.fabric fun s => s.tdiStop port vf)

/-- IDE_KM (R445). -/
def execIdeKm (port stream : Nat) (keySet : Bool) (s : State) : Res :=
  ended (okHost port && okStream stream) (s.fabric fun s => s.ideKm port stream keySet)

/-- IDE_STREAM_INSECURE (R445). -/
def execIdeStreamInsecure (port stream : Nat) (s : State) : Res := ended (okHost port && okStream stream) (s.fabric fun s => s.ideBad port stream)

end Sys2Proof.Machine
end

