-- ==== Sys2Proof/Machine/CmdMmu.lean ====
section
/-!
DEFINITION. Meanings: Address spaces, invalidations and walks (spec/07).
-/
namespace Sys2Proof.Machine

/-- MMU_CREATE (R238). -/
def execMmuCreate (set : Nat) (s : State) : Res := ended (okSet set) (s.command fun s => s.asCreate set)

/-- MMU_DESTROY (R238). -/
def execMmuDestroy (set : Nat) (s : State) : Res := ended (okSet set) (s.command fun s => s.asDestroy set)

/-- MMU_CLEAR (R238). -/
def execMmuClear (set : Nat) (s : State) : Res := ended (okSet set) (s.command fun s => s.asClear set)

/-- MMU_QUERY (R238). -/
def execMmuQuery (set : Nat) (s : State) : Res := ended (okSet set) (s.command fun s => s.asQuery set)

/-- SET_ROOT (R238). -/
def execSetRoot (set : Nat) (s : State) : Res := ended (okSet set) (s.command fun s => s.asSetRoot set)

/-- MMU_RETRY (R238). -/
def execMmuRetry (set : Nat) (s : State) : Res := ended (okSet set) (s.command fun s => s.asRetry set)

/-- MMU_INV_ALL (R224). -/
def execMmuInvAll (set : Nat) (s : State) : Res := ended (okSet set) (s.command fun s => s.invGo set 0)

/-- MMU_INV_PASID (R224). -/
def execMmuInvPasid (set : Nat) (s : State) : Res := ended (okSet set) (s.command fun s => s.invGo set 1)

/-- MMU_INV_PAGE (R224). -/
def execMmuInvPage (set : Nat) (s : State) : Res := ended (okSet set) (s.command fun s => s.invGo set 2)

/-- MMU_INV_RANGE (R224). -/
def execMmuInvRange (set : Nat) (s : State) : Res := ended (okSet set) (s.command fun s => s.invGo set 3)

/-- INVALIDATION_DONE (R225). -/
def execInvalidationDone (id : Nat) (s : State) : Res := ended true (s.fabric fun s => s.invalDone id)

/-- WALK_READ_RETURN (R212). -/
def execWalkReadReturn (id : Nat) (r : ReadRes) (s : State) : Res := ended true (s.fabric fun s => s.walkReturn id r)

/-- AD_CAS_RETURN (R214). -/
def execAdCasReturn (id : Nat) (r : ReadRes) (s : State) : Res := ended true (s.fabric fun s => s.casReturn id r)

end Sys2Proof.Machine
end

