-- ==== Sys2Proof/Machine/CmdMatch.lean ====
section
/-!
DEFINITION. Meanings: Match contexts and messages (spec/08).
-/
namespace Sys2Proof.Machine

/-- A packet of an opcode has been ejected for one of the device's endpoints. -/
def State.arrive (s : State) (p : Packet) (op : PktOp) (k : State → State) : State := s.fabric fun s => if p.op = op then k s else s

/-- The read of a context's spill rings returns. -/
def State.spillBack (s : State) (ctx : Nat) (r : ReadRes) : State :=
  match s.accs.keysOf fun a => a.client == .spill ctx with
  | id :: _ => s.readBack id (· == .spill ctx) r
  | [] => s

/-- MAT_CREATE (R269). -/
def execMatCreate (set : Nat) (s : State) : Res := ended (okSet set) (s.command fun s => s.ctxCreate set)

/-- MAT_DESTROY (R258). -/
def execMatDestroy (set : Nat) (s : State) : Res := ended (okSet set) (s.command fun s => s.ctxDestroy set)

/-- MAT_CLEAR (R269). -/
def execMatClear (set : Nat) (s : State) : Res := ended (okSet set) (s.command fun s => s.ctxClear set)

/-- MAT_QUERY (R269). -/
def execMatQuery (set : Nat) (s : State) : Res := ended (okSet set) (s.command fun s => s.ctxQuery set)

/-- EAGER_ARRIVAL (R252). -/
def execEagerArrival (p : Packet) (s : State) : Res := ended (okPacket p) (s.arrive p .eager fun s => s.rxArrive p)

/-- RTS_ARRIVAL (R254). -/
def execRtsArrival (p : Packet) (s : State) : Res := ended (okPacket p) (s.arrive p .rts fun s => s.rxArrive p)

/-- RGET_ARRIVAL (R254). -/
def execRgetArrival (p : Packet) (s : State) : Res := ended (okPacket p) (s.arrive p .rget fun s => s.rxArrive p)

/-- RGET_RESP_ARRIVAL (R402). -/
def execRgetRespArrival (p : Packet) (s : State) : Res := ended (okPacket p) (s.arrive p .rgetResp fun s => s.rgetRespIn p)

/-- MATCH_WALK_DONE (R247). -/
def execMatchWalkDone (msg : Nat) (s : State) : Res := ended true (s.fabric fun s => s.matchWalk msg)

/-- MATCH_CONFIRM (R262). -/
def execMatchConfirm (msg : Nat) (s : State) : Res := ended true (s.fabric fun s => s.matchConfirm msg)

/-- SPECULATION_EXPIRY (R263). -/
def execSpeculationExpiry (msg : Nat) (s : State) : Res := ended true (s.fabric fun s => s.specExpire msg)

/-- SPILL_ACCESS_RETURN (R245). -/
def execSpillAccessReturn (ctx : Nat) (r : ReadRes) (s : State) : Res := ended (ok16 ctx) (s.fabric fun s => s.spillBack ctx r)

end Sys2Proof.Machine
end

