-- ==== Sys2Proof/Machine/CmdRma.lean ====
section
/-!
DEFINITION. Meanings: Remote access at the target: requests, atomics, responses and keys (spec/09).
-/
namespace Sys2Proof.Machine

/-- PUT_ARRIVAL (R277). -/
def execPutArrival (p : Packet) (s : State) : Res := ended (okPacket p) (s.arrive p .put fun s => s.rxArrive p)

/-- GET_ARRIVAL (R287). -/
def execGetArrival (p : Packet) (s : State) : Res := ended (okPacket p) (s.arrive p .get fun s => s.rxArrive p)

/-- AMO_ARRIVAL (R289). -/
def execAmoArrival (p : Packet) (s : State) : Res := ended (okPacket p) (s.arrive p .amo fun s => s.rxArrive p)

/-- GET_RESP_ARRIVAL (R402). -/
def execGetRespArrival (p : Packet) (s : State) : Res := ended (okPacket p) (s.arrive p .getResp fun s => s.getResp p)

/-- AMO_RESP_ARRIVAL (R402). -/
def execAmoRespArrival (p : Packet) (s : State) : Res := ended (okPacket p) (s.arrive p .amoResp fun s => s.amoRespIn p)

/-- LINE_LOCK_GRANT (R290). -/
def execLineLockGrant (line : Nat) (s : State) : Res := ended true (s.fabric fun s => s.lineGrant line)

/-- ATOMIC_READ_RETURN (R290). -/
def execAtomicReadReturn (line : Nat) (r : ReadRes) (s : State) : Res := ended true (s.fabric fun s => s.amoRead line r)

/-- ATOMICOP_COMPLETE (R291). -/
def execAtomicopComplete (line : Nat) (r : ReadRes) (s : State) : Res := ended true (s.fabric fun s => s.amoNative line r)

/-- AMO_RESULT_EXPIRY (R292). -/
def execAmoResultExpiry (key : Nat) (s : State) : Res := ended true (s.fabric fun s => s.amoExpire key)

/-- KEY_TABLE_READ_RETURN (R275). -/
def execKeyTableReadReturn (index : Nat) (r : ReadRes) (s : State) : Res := ended (decide (index < 2 ^ 24)) (s.fabric fun s => s.ktabReturn index r)

/-- KEY_TABLE_ENABLE_WRITE (R275). -/
def execKeyTableEnableWrite (o : Origin) (v : Word) (s : State) : Res := ended (okOrigin o) (s.regWrite o 0x500000 8 v)

end Sys2Proof.Machine
end

