-- ==== Sys2Proof/Machine/CmdBulk.lean ====
section
/-!
DEFINITION. Meanings: The bulk mover (spec/10).
-/
namespace Sys2Proof.Machine

/-- A burst's read returns with the bytes it asked for, or fails. -/
def State.burstBack (s : State) (ch burst : Nat) (r : DataRes) : State :=
  match s.accs.keysOf fun a => a.client == .burst ch burst with
  | id :: _ => (match r with
    | .ok bs => if bs.length = chunkLen (s.accs.look id).orig then s.accReturn id (· == .burst ch burst) (.bytes bs) else s
    | .busErr => s.accReturn id (· == .burst ch burst) .busErr)
  | [] => s

/-- BURST_GRANT (R299). -/
def execBurstGrant (ch : Nat) (s : State) : Res := ended (okChan ch) (s.fabric fun s => s.burstGrant ch)

/-- BURST_COMPLETE (R297). -/
def execBurstComplete (ch burst : Nat) (r : DataRes) (s : State) : Res := ended (okChan ch) (s.fabric fun s => s.burstBack ch burst r)

/-- CHANNEL_PARK (R302). -/
def execChannelPark (ch : Nat) (s : State) : Res := ended (okChan ch) (s.fabric fun s => s.chanPark ch)

/-- OPERATION_BIND (R303). -/
def execOperationBind (s : State) : Res := ended true (s.fabric fun s => s.operationBind)

/-- RF_GO (R306). -/
def execRfGo (o : Origin) (ch : Nat) (s : State) : Res := ended (okOrigin o && okRf ch) (s.regWrite o (0x581030 + 128 * ch) 8 (bitW 63))

/-- RF_RESUME (R311). -/
def execRfResume (o : Origin) (ch : Nat) (s : State) : Res := ended (okOrigin o && okRf ch) (s.regWrite o (0x581030 + 128 * ch) 8 1)

/-- RF_ABORT (R311). -/
def execRfAbort (o : Origin) (ch : Nat) (s : State) : Res := ended (okOrigin o && okRf ch) (s.regWrite o (0x581030 + 128 * ch) 8 2)

/-- RF_ABORT_ALL (R311). -/
def execRfAbortAll (o : Origin) (ch : Nat) (s : State) : Res := ended (okOrigin o && okRf ch) (s.regWrite o (0x581030 + 128 * ch) 8 3)

/-- RF_CONTINUE (R311). -/
def execRfContinue (o : Origin) (ch : Nat) (s : State) : Res := ended (okOrigin o && okRf ch) (s.regWrite o (0x581030 + 128 * ch) 8 4)

/-- RF_TRANSFER_COMPLETE (R308). -/
def execRfTransferComplete (ch : Nat) (s : State) : Res := ended (okRf ch) (s.fabric fun s => s.rfComplete ch)

end Sys2Proof.Machine
end

