-- ==== Sys2Proof/Machine/CmdColl.lean ====
section
/-!
DEFINITION. Meanings: Collectives (spec/11).
-/
namespace Sys2Proof.Machine

/-- A collective packet of the kinds that `want` names arrives on a port; `want` is told the kind and, where the group has an edge there, whether the packet
travels up. -/
def State.collArrive (s : State) (port : Nat) (p : Packet) (want : Nat → Option Bool → Bool) : State :=
  s.fabric fun s =>
    if p.op = .coll ∧ want (colKind p) (((s.grps.look (colGroup p)).edge port).map fun e => !e.up) then s.colRx port p else s

/-- GRANT_ARRIVAL (R315). -/
def execGrantArrival (port : Nat) (p : Packet) (s : State) : Res := ended (okPort port && okPacket p) (s.collArrive port p fun k _ => k == 0)

/-- COLL_UP_ARRIVAL (R322). -/
def execCollUpArrival (port : Nat) (p : Packet) (s : State) : Res :=
  ended (okPort port && okPacket p) (s.collArrive port p fun k up => decide (1 ≤ k ∧ k ≤ 4) && up != some false)

/-- COLL_DOWN_ARRIVAL (R327). -/
def execCollDownArrival (port : Nat) (p : Packet) (s : State) : Res :=
  ended (okPort port && okPacket p) (s.collArrive port p fun k up => decide (1 ≤ k ∧ k ≤ 4) && up != some true)

/-- BREAK_ARRIVAL (R333). -/
def execBreakArrival (port : Nat) (p : Packet) (s : State) : Res := ended (okPort port && okPacket p) (s.collArrive port p fun k _ => k == 5)

/-- SEGMENT_COMBINE (R322). -/
def execSegmentCombine (group seq seg : Nat) (s : State) : Res :=
  ended (okGroup group && ok16 seq && decide (seg < 2 ^ 24)) (s.fabric fun s => s.segCombine group seq seg)

/-- COLL_STALL_TIMEOUT (R331). -/
def execCollStallTimeout (group : Nat) (s : State) : Res := ended (okGroup group) (s.fabric fun s => s.grpStall group)

end Sys2Proof.Machine
end

