-- ==== Sys2Proof/Machine/CmdRoute.lean ====
section
/-!
DEFINITION. Meanings: Routing and the device's router (spec/12, spec/14).
-/
namespace Sys2Proof.Machine

/-- BANK_SWAP_ARM (R340). -/
def execBankSwapArm (o : Origin) (s : State) : Res := ended (okOrigin o) (s.setBits o 0x1400008 (bitW 63))

/-- BANK_COPY (R340). -/
def execBankCopy (o : Origin) (s : State) : Res := ended (okOrigin o) (s.setBits o 0x1400008 (bitW 62))

/-- BANK_COPY_DONE (R340). -/
def execBankCopyDone (s : State) : Res := ended true (s.fabric fun s => s.copyDone)

/-- ROUTE_BANK_SWAP (R340). -/
def execRouteBankSwap (s : State) : Res := ended true (s.fabric fun s => s.bankSwap)

/-- ROUTE_RAW_WRITE (R341). -/
def execRouteRawWrite (o : Origin) (bank router size : Nat) (v : Word) (s : State) : Res :=
  ended (okOrigin o && decide (bank < 2) && ok16 router) (s.regWrite o (0x1500000 + 0x80000 * bank + 8 * router) size v)

/-- EP_RAW_WRITE (R342). -/
def execEpRawWrite (o : Origin) (i : Nat) (v : BitVec 32) (s : State) : Res :=
  ended (okOrigin o && decide (i < 262144)) (s.regWrite o (0x1600000 + 4 * i) 4 (BitVec.ofNat 64 v.toNat))

/-- DOMAIN_DRR_VISIT (R421). -/
def execDomainDrrVisit (domain : Nat) (scav : Bool) (s : State) : Res := ended (ok16 domain) (s.fabric fun s => s.drrVisit domain scav)

/-- PACKET_ROUTE (R343). -/
def execPacketRoute (port : Nat) (s : State) : Res := ended (okInput port) (s.fabric fun s => s.packetRoute port)

/-- PORT_TRANSMIT (R423). -/
def execPortTransmit (port : Nat) (slotClear : Nat) (s : State) : Res := ended (okPort port) (s.fabric fun s => s.portTransmit port slotClear)

/-- GOSSIP_RECEIVE (R347). -/
def execGossipReceive (port : Nat) (g : Gossip) (s : State) : Res := ended (okPort port && okGossip g) (s.fabric fun s => s.gossipRx port g)

/-- GOSSIP_TIMEOUT (R347). -/
def execGossipTimeout (port : Nat) (s : State) : Res := ended (okPort port) (s.fabric fun s => s.gossipOld port)

end Sys2Proof.Machine
end

