-- ==== Sys2Proof/Machine/CmdConvoy.lean ====
section
/-!
DEFINITION. Meanings: Convoys (spec/12).
-/
namespace Sys2Proof.Machine

/-- A CTL packet of a kind has reached the device. -/
def State.control (s : State) (c : Ctl) (kind : CtlKind) (k : State → State) : State := s.fabric fun s => if c.kind = kind then k s else s

/-- CONVOY_ACTIVATE (R360). -/
def execConvoyActivate (convoy : Nat) (s : State) : Res := ended (okCvy convoy) (s.fabric fun s => s.cvyActivate convoy)

/-- CONVOY_SLOT (R364). -/
def execConvoySlot (convoy : Nat) (s : State) : Res := ended (okCvy convoy) (s.fabric fun s => s.cvySlot convoy)

/-- CONVOY_FRAME_FORWARD (R365). -/
def execConvoyFrameForward (port : Nat) (f : Frame) (s : State) : Res := ended (okPort port && okFrame f) (s.fabric fun s => s.cvyForward port f)

/-- CONVOY_FRAME_RECEIVE (R366). -/
def execConvoyFrameReceive (port : Nat) (f : Frame) (s : State) : Res := ended (okPort port && okFrame f) (s.fabric fun s => s.cvyReceive port f)

/-- CVY_ACK (R367). -/
def execCvyAck (c : Ctl) (s : State) : Res := ended (okCtl c) (s.control c .cvyAck fun s => s.cvyAck c)

/-- CONVOY_FRAME_TIMEOUT (R367). -/
def execConvoyFrameTimeout (convoy seq : Nat) (s : State) : Res :=
  ended (okCvy convoy && decide (seq < 2 ^ 32)) (s.fabric fun s => s.cvyTimeout convoy seq)

/-- CONVOY_SOURCE_RETRY (R364). -/
def execConvoySourceRetry (convoy : Nat) (s : State) : Res := ended (okCvy convoy) (s.fabric fun s => s.cvyRetry convoy)

/-- CONVOY_RELEASE (R369). -/
def execConvoyRelease (convoy : Nat) (s : State) : Res := ended (okCvy convoy) (s.fabric fun s => s.cvyRelease convoy)

/-- CONVOY_BROKEN_RELEASE (R370). -/
def execConvoyBrokenRelease (convoy : Nat) (s : State) : Res := ended (okCvy convoy) (s.fabric fun s => s.cvyBrokenRelease convoy)

end Sys2Proof.Machine
end

