-- ==== Sys2Proof/Machine/CmdLink.lean ====
section
/-!
DEFINITION. Meanings: The link layer (spec/13).
-/
namespace Sys2Proof.Machine

/-- LINK_DOWN (R357). -/
def execLinkDown (port cause : Nat) (s : State) : Res :=
  ended (okPort port && decide (1 ≤ cause ∧ cause ≤ 5)) (s.fabric fun s => s.linkDown port cause)

/-- LINK_UNIT_RECEIVE (R374). -/
def execLinkUnitReceive (port : Nat) (u : LinkUnit) (decoded : Bool) (s : State) : Res :=
  ended (okPort port && okUnit u) (s.fabric fun s => s.unitRx port u decoded)

/-- LCF_RECEIVE (R378). -/
def execLcfReceive (port : Nat) (l : Lcf) (s : State) : Res := ended (okPort port && okLcf l) (s.fabric fun s => s.lcfRx port l)

/-- REPLAY_TIMEOUT (R375). -/
def execReplayTimeout (port : Nat) (s : State) : Res := ended (okPort port) (s.fabric fun s => s.replayDue port)

/-- LCF_SEND (R378). -/
def execLcfSend (port : Nat) (s : State) : Res := ended (okPort port) (s.fabric fun s => s.lcfTx port)

/-- LINIT_SEND (R377). -/
def execLinitSend (port : Nat) (s : State) : Res := ended (okPort port) (s.fabric fun s => s.linitTx port)

/-- LINIT_RECEIVE (R377). -/
def execLinitReceive (port : Nat) (l : Linit) (s : State) : Res := ended (okPort port && okLinit l) (s.fabric fun s => s.linitRx port l)

/-- LINK_RETRAIN (R377). -/
def execLinkRetrain (o : Origin) (port : Nat) (s : State) : Res := ended (okOrigin o && okPort port) (s.setBits o (0x701000 + 32 * port) (bitW 63))

end Sys2Proof.Machine
end

