-- ==== Sys2Proof/Machine/CmdWire.lean ====
section
/-!
DEFINITION. Meanings: End-to-end control packets and timers (spec/13).
-/
namespace Sys2Proof.Machine

/-- PACKET_TIMEOUT's operation: a request's timer, or that of the last response of a rendezvous read; pairs from 2^60 name edge streams (R410). -/
def State.packetLate (s : State) (pair psn : Nat) : State :=
  if pair ≥ 2 ^ 60 then s.colDue pair psn
  else
    let s := match (s.ptx.look pair).pkt psn with
      | some x => if decide (x.age ≥ s.timeout) && s.txOpen x then s.txDue pair psn else s
      | none => s
    s.respDue pair psn

/-- RETRY_AFTER_EXPIRY's operation. -/
def State.retryDue (s : State) (pair psn : Nat) : State :=
  match (s.ptx.look pair).pkt psn with
  | some x => if x.retryIn = some 0 then s.txDue pair psn else s
  | none => s

/-- INCARNATION_QUIET_END's operation (R408). -/
def State.quietEnd (s : State) : State := if s.firstBnd && s.quietLeft == 0 then { s with quiet := false } else s

/-- ACK (R398). -/
def execAck (c : Ctl) (s : State) : Res :=
  ended (okCtl c) (s.control c .ack fun s => if c.chan = 3 then s.colCtlIn c else s.ctlTake c fun s => if c.chan = 2 then s.respAcked c else s.txAck (s.ctlPair c) c.psn (wbits c.arg 7 0))

/-- NACK_SEQ_GAP (R398). -/
def execNackSeqGap (c : Ctl) (s : State) : Res :=
  ended (okCtl c) (s.control c .nackSeqGap fun s => if c.chan = 3 then s.colCtlIn c else s.ctlTake c fun s => s.txGap (s.ctlPair c) c.psn (wbits c.arg 23 0))

/-- NACK_RNR (R398). -/
def execNackRnr (c : Ctl) (s : State) : Res :=
  ended (okCtl c) (s.control c .nackRnr fun s => s.ctlTake c fun s => s.txRetry (s.ctlPair c) c.psn (wbits c.arg 7 0))

/-- NACK_XLATE (R398). -/
def execNackXlate (c : Ctl) (s : State) : Res :=
  ended (okCtl c) (s.control c .nackXlate fun s => s.ctlTake c fun s => s.txRetry (s.ctlPair c) c.psn (wbits c.arg 7 0))

/-- NACK_STALE (R407). -/
def execNackStale (c : Ctl) (s : State) : Res :=
  ended (okCtl c) (s.control c .nackStale fun s => if c.chan = 3 then s.colCtlIn c else s.ctlTake c fun s => s)

/-- REFUSE (R397). -/
def execRefuse (c : Ctl) (s : State) : Res := ended (okCtl c) (s.control c .refuse fun s => s.ctlTake c fun s => s.txRefuse (s.ctlPair c) c)

/-- REFUSE_ACK (R396). -/
def execRefuseAck (c : Ctl) (s : State) : Res := ended (okCtl c) (s.control c .refuseAck fun s => s.ctlTake c fun s => s.rxRefuseAck c)

/-- SYNC (R401). -/
def execSync (c : Ctl) (s : State) : Res := ended (okCtl c) (s.control c .sync fun s => s.ctlTake c fun s => s.rxSync c)

/-- SYNC_ACK (R400). -/
def execSyncAck (c : Ctl) (s : State) : Res := ended (okCtl c) (s.control c .syncAck fun s => s.ctlTake c fun s => s.txSynced (s.ctlPair c) c.psn)

/-- PACKET_TIMEOUT (R399). -/
def execPacketTimeout (pair psn : Nat) (s : State) : Res := ended (okPsn psn) (s.fabric fun s => s.packetLate pair psn)

/-- RETRY_AFTER_EXPIRY (R398). -/
def execRetryAfterExpiry (pair psn : Nat) (s : State) : Res := ended (okPsn psn) (s.fabric fun s => s.retryDue pair psn)

/-- SEQ_GAP_REPORT (R398). -/
def execSeqGapReport (pair : Nat) (s : State) : Res := ended true (s.fabric fun s => if pair ≥ 2 ^ 60 then s.colGap pair else s.gapReport pair)

/-- REFUSE_RESEND (R396). -/
def execRefuseResend (pair num : Nat) (s : State) : Res := ended (decide (num < 256)) (s.fabric fun s => s.refuseAgain pair num)

/-- REFUSAL_WAIT_EXPIRY (R397). -/
def execRefusalWaitExpiry (pair : Nat) (s : State) : Res := ended true (s.fabric fun s => s.refusalExpiry pair)

/-- SYNC_RESEND (R400). -/
def execSyncResend (pair : Nat) (s : State) : Res := ended true (s.fabric fun s => s.syncAgain pair)

/-- SYNC_ABANDON (R400). -/
def execSyncAbandon (pair : Nat) (s : State) : Res := ended true (s.fabric fun s => s.syncGiveUp pair)

/-- ACK_TIMER (R395). -/
def execAckTimer (pair : Nat) (s : State) : Res := ended true (s.fabric fun s => s.ackTimer pair)

/-- LIFETIME_EXPIRY (R403). -/
def execLifetimeExpiry (pair psn : Nat) (s : State) : Res := ended (okPsn psn) (s.fabric fun s => s.heldExpire pair psn)

/-- RECEIVE_RECORD_EXPIRY (R404). -/
def execReceiveRecordExpiry (pair : Nat) (s : State) : Res := ended true (s.fabric fun s => s.rxExpire pair)

/-- SEND_RECORD_EXPIRY (R404). -/
def execSendRecordExpiry (pair : Nat) (s : State) : Res := ended true (s.fabric fun s => s.txExpire pair)

/-- INCARNATION_QUIET_END (R408). -/
def execIncarnationQuietEnd (s : State) : Res := ended true (s.fabric fun s => s.quietEnd)

end Sys2Proof.Machine
end

