-- ==== Sys2Proof/Machine/CmdTrust.lean ====
section
/-!
DEFINITION. Meanings: Management messages, SPDM, key operations, billing and sealing (spec/15).
-/
namespace Sys2Proof.Machine

/-- WQ4_PROGRAM (R432). -/
def execWq4Program (m : Mgmt) (s : State) : Res := ended (okMgmt m) (s.fabric fun s => s.wq4 m)

/-- FM_KEY_REGISTER (R40). -/
def execFmKeyRegister (o : Origin) (s : State) : Res := ended (okOrigin o) (s.setBits o 0x60018 (bitW 63))

/-- MGMT_FORWARD (R433). -/
def execMgmtForward (m : Mgmt) (storeFull : Bool) (s : State) : Res := ended (okMgmt m) (s.fabric fun s => s.mgmtForward m storeFull)

/-- SPDM_FABRIC_REQUEST (R433). -/
def execSpdmFabricRequest (m : Mgmt) (answer : List Byte) (s : State) : Res := ended (okMgmt m) (s.fabric fun s => s.spdmFabric m answer)

/-- SPDM_FABRIC_RESPONSE (R434). -/
def execSpdmFabricResponse (m : Mgmt) (s : State) : Res := ended (okMgmt m) (s.fabric fun s => s.mbxAnswer m)

/-- MAILBOX_SEND (R434). -/
def execMailboxSend (o : Origin) (v : Word) (s : State) : Res := ended (okOrigin o) (s.regWrite o 0x60100 8 (v ||| bitW 63))

/-- MAILBOX_TIMEOUT (R434). -/
def execMailboxTimeout (s : State) : Res := ended true (s.fabric fun s => s.mbxLate)

/-- GET_VERSION (R429). -/
def execGetVersion (t : Transport) (s : State) : Res := ended (okTransport t) (s.fabric fun s => s.spdmPlain t 0x04)

/-- GET_CAPABILITIES (R429). -/
def execGetCapabilities (t : Transport) (s : State) : Res := ended (okTransport t) (s.fabric fun s => s.spdmPlain t 0x61)

/-- NEGOTIATE_ALGORITHMS (R429). -/
def execNegotiateAlgorithms (t : Transport) (oneSet : Bool) (s : State) : Res :=
  ended (okTransport t) (s.fabric fun s => if oneSet then s.spdmPlain t 0x63 else s.onSpdm t fun s => s.spdmErr t spdmUnsupported)

/-- GET_DIGESTS (R429). -/
def execGetDigests (t : Transport) (s : State) : Res := ended (okTransport t) (s.fabric fun s => s.spdmPlain t 0x01)

/-- GET_CERTIFICATE (R426). -/
def execGetCertificate (t : Transport) (slot : Nat) (s : State) : Res :=
  ended (okTransport t && decide (slot < 8)) (s.fabric fun s => if slot = 0 then s.spdmPlain t 0x02 else s.onSpdm t fun s => s.spdmRefuse t)

/-- CHALLENGE (R429). -/
def execChallenge (t : Transport) (s : State) : Res := ended (okTransport t) (s.fabric fun s => s.spdmSigned t 0x03)

/-- GET_MEASUREMENTS (R430). -/
def execGetMeasurements (t : Transport) (index : Nat) (s : State) : Res :=
  ended (okTransport t && decide (index < 256)) (s.fabric fun s => s.spdmMeasure t index)

/-- KEY_EXCHANGE (R429). -/
def execKeyExchange (t : Transport) (s : State) : Res := ended (okTransport t) (s.fabric fun s => s.spdmKex t)

/-- FINISH (R429). -/
def execFinish (t : Transport) (session : Nat) (macOk : Bool) (s : State) : Res :=
  ended (okTransport t && okSess session) (s.fabric fun s => s.spdmFinish t session macOk)

/-- HEARTBEAT (R429). -/
def execHeartbeat (t : Transport) (session : Nat) (s : State) : Res :=
  ended (okTransport t && okSess session) (s.fabric fun s => s.spdmAck t session 0x68)

/-- KEY_UPDATE (R429). -/
def execKeyUpdate (t : Transport) (session : Nat) (s : State) : Res :=
  ended (okTransport t && okSess session) (s.fabric fun s => s.spdmAck t session 0x69)

/-- END_SESSION (R429). -/
def execEndSession (t : Transport) (session : Nat) (s : State) : Res :=
  ended (okTransport t && okSess session) (s.fabric fun s => s.spdmEnd t session)

/-- SPDM_UNSUPPORTED_REQUEST (R429). -/
def execSpdmUnsupportedRequest (t : Transport) (code : Nat) (s : State) : Res :=
  ended (okTransport t && decide (code < 256)) (s.fabric fun s => s.onSpdm t fun s => s.spdmErr t spdmUnsupported)

/-- INSTALL (R437). -/
def execInstall (t : Transport) (session domain : Nat) (key : Key) (s : State) : Res :=
  ended (okTransport t && okSess session && ok16 domain) (s.fabric fun s => s.keyOp t session 1 domain fun s => s.keyInstall domain key)

/-- STAGE (R437). -/
def execStage (t : Transport) (session domain : Nat) (key : Key) (proof : BitVec 128) (s : State) : Res :=
  ended (okTransport t && okSess session && ok16 domain) (s.fabric fun s => s.keyOp t session 2 domain fun s => s.keyStage domain key proof)

/-- SWITCH (R437). -/
def execSwitch (t : Transport) (session domain : Nat) (proof : BitVec 128) (s : State) : Res :=
  ended (okTransport t && okSess session && ok16 domain) (s.fabric fun s => s.keyOp t session 3 domain fun s => s.keySwitch domain proof)

/-- DROP_ALT (R437). -/
def execDropAlt (t : Transport) (session domain : Nat) (proof : BitVec 128) (s : State) : Res :=
  ended (okTransport t && okSess session && ok16 domain) (s.fabric fun s => s.keyOp t session 4 domain fun s => s.keyDrop domain proof)

/-- REMOVE (R438). -/
def execRemove (t : Transport) (session domain : Nat) (proof : BitVec 128) (s : State) : Res :=
  ended (okTransport t && okSess session && ok16 domain) (s.fabric fun s => s.keyOp t session 5 domain fun s => s.keyRemove domain proof)

/-- KEY_QUERY (R436). -/
def execKeyQuery (t : Transport) (session domain : Nat) (s : State) : Res :=
  ended (okTransport t && okSess session && ok16 domain) (s.fabric fun s => s.keyOp t session 6 domain fun s => (s, koOk))

/-- BILLING_PERIOD_CLOSE (R449). -/
def execBillingPeriodClose (writesOk : Bool) (s : State) : Res := ended true (s.fabric fun s => s.ledClose writesOk)

/-- SEAL_REQUEST (R452). -/
def execSealRequest (o : Origin) (v : Word) (s : State) : Res := ended (okOrigin o) (s.regWrite o 0x60010 8 v)

/-- SIDEBAND_SEAL_COMMAND (R452). -/
def execSidebandSealCommand (s : State) : Res := ended true (s.powered fun s => if s.flag F.SEC_POLICY_SB_SEAL_EN then s.sealDevice 3 else s)

/-- KEYSTORE_ECC (R525). -/
def execKeystoreEcc (store : Nat) (s : State) : Res := ended true (s.fabric fun s => s.keyStoreEcc store)

end Sys2Proof.Machine
end

