-- ==== Sys2Proof/Machine/CmdLanes.lean ====
section
/-!
DEFINITION. Meanings: Lanes and training (spec/16).
-/
namespace Sys2Proof.Machine

/-- LANE_POWER_WRITE (R456). -/
def execLanePowerWrite (o : Origin) (lane : Nat) (v : Word) (s : State) : Res :=
  ended (okOrigin o && okLane lane) (s.regWrite o (0x2000000 + 16384 * lane) 8 v)

/-- LANE_WAKE_DONE (R456). -/
def execLaneWakeDone (lane : Nat) (tx : Bool) (s : State) : Res := ended (okLane lane) (s.fabric fun s => s.laneWake lane tx)

/-- LANE_RETRAIN (R462). -/
def execLaneRetrain (o : Origin) (lane : Nat) (s : State) : Res := ended (okOrigin o && okLane lane) (s.setBits o (0x2000000 + 16384 * lane) (bitW 0))

/-- TRAINING_STEP_ADVANCE (R462). -/
def execTrainingStepAdvance (port : Nat) (peaks : List Nat) (taps : List Word) (s : State) : Res :=
  ended (okPort port) (s.fabric fun s => s.trainNext port peaks taps)

/-- TRAINING_GATE_END (R462). -/
def execTrainingGateEnd (port uncorr : Nat) (s : State) : Res := ended (okPort port) (s.fabric fun s => s.trainGate port uncorr)

/-- TRAINING_TIMEOUT (R463). -/
def execTrainingTimeout (port : Nat) (s : State) : Res := ended (okPort port) (s.fabric fun s => s.trainLate port)

/-- LOS_ASSERT (R460). -/
def execLosAssert (lane : Nat) (s : State) : Res := ended (okLane lane) (s.fabric fun s => s.losOn lane)

/-- LOS_DEASSERT (R460). -/
def execLosDeassert (lane : Nat) (s : State) : Res := ended (okLane lane) (s.fabric fun s => s.losOff lane)

/-- LOL_ASSERT (R460). -/
def execLolAssert (lane : Nat) (s : State) : Res := ended (okLane lane) (s.fabric fun s => s.lolOn lane)

/-- LOL_DEASSERT (R460). -/
def execLolDeassert (lane : Nat) (s : State) : Res := ended (okLane lane) (s.fabric fun s => s.lolOff lane)

end Sys2Proof.Machine
end

