-- ==== Sys2Proof/Machine/CmdModules.lean ====
section
/-!
DEFINITION. Meanings: Optical modules (spec/16).
-/
namespace Sys2Proof.Machine

/-- MODULE_IDENTIFY (R465). -/
def execModuleIdentify (cage : Nat) (m : ModuleInfo) (s : State) : Res := ended (okCage cage) (s.fabric fun s => s.modIdentify cage m)

/-- MODULE_READY_TIMEOUT (R465). -/
def execModuleReadyTimeout (cage : Nat) (s : State) : Res := ended (okCage cage) (s.fabric fun s => s.modLate cage)

/-- MODULE_AUTH_DONE (R467). -/
def execModuleAuthDone (cage : Nat) (verified : Bool) (s : State) : Res := ended (okCage cage) (s.fabric fun s => s.modAuth cage verified)

/-- MODULE_RESCAN (R465). -/
def execModuleRescan (o : Origin) (cage : Nat) (s : State) : Res :=
  ended (okOrigin o && okCage cage) (s.setBits o (0x2400000 + 4096 * cage) (bitW 12))

/-- CMIS_TRANSACTION (R464). -/
def execCmisTransaction (o : Origin) (cage : Nat) (v : Word) (s : State) : Res :=
  ended (okOrigin o && okCage cage) (s.regWrite o (0x2400038 + 4096 * cage) 8 (v ||| bitW 63))

/-- CMIS_TRANSACTION_DONE (R464). -/
def execCmisTransactionDone (cage : Nat) (acked : Bool) (data : List Byte) (s : State) : Res :=
  ended (okCage cage) (s.fabric fun s => s.cmisDone cage acked data)

/-- WEAR_ACCRUAL (R470). -/
def execWearAccrual (cage : Nat) (active : Bool) (temp : Option Int) (s : State) : Res :=
  ended (okCage cage) (s.fabric fun s => s.wearMinute cage active temp)

/-- LIFE_LEDGER_WRITE (R471). -/
def execLifeLedgerWrite (cage : Nat) (ok : Bool) (s : State) : Res := ended (okCage cage) (s.fabric fun s => s.ledgerWrite cage ok)

end Sys2Proof.Machine
end

