-- ==== Sys2Proof/Machine/CmdCages.lean ====
section
/-!
DEFINITION. Meanings: Cage power (spec/17), which the supervisor die runs.
-/
namespace Sys2Proof.Machine

/-- CAGE_PRESENT (R475). -/
def execCagePresent (cage : Nat) (s : State) : Res := ended (okCage cage) (s.powered fun s => s.cageIn cage)

/-- CAGE_ABSENT (R475). -/
def execCageAbsent (cage : Nat) (s : State) : Res := ended (okCage cage) (s.powered fun s => s.cageOut cage)

/-- ABSENCE_CLEAR (R483). -/
def execAbsenceClear (cage : Nat) (s : State) : Res := ended (okCage cage) (s.powered fun s => s.cageForget cage)

/-- FEED_GOOD (R474). -/
def execFeedGood (cage : Nat) (isB : Bool) (s : State) : Res := ended (okCage cage) (s.powered fun s => s.feedUp cage isB)

/-- FEED_BAD (R474). -/
def execFeedBad (cage : Nat) (isB : Bool) (s : State) : Res := ended (okCage cage) (s.powered fun s => s.feedDown cage isB)

/-- CAGE_EN_WRITE (R478). -/
def execCageEnWrite (o : Origin) (cage : Nat) (en : Bool) (s : State) : Res :=
  ended (okOrigin o && okCage cage) (if en then s.setBits o (0x80000 + 64 * cage) (bitW 63) else s.clearBits o (0x80000 + 64 * cage) (bitW 63))

/-- CAGE_FEED_CONFIG_WRITE (R485). -/
def execCageFeedConfigWrite (o : Origin) (cage : Nat) (v : Word) (s : State) : Res :=
  ended (okOrigin o && okCage cage) (s.regWrite o (0x80000 + 64 * cage) 8 ((v &&& ~~~bitW 63) ||| (s.kept (0x80000 + 64 * cage) &&& bitW 63)))

/-- CAGE_QUALIFIED (R478). -/
def execCageQualified (cage : Nat) (s : State) : Res := ended (okCage cage) (s.powered fun s => s.rampStart cage)

/-- POWER_GOOD (R476). -/
def execPowerGood (cage : Nat) (s : State) : Res := ended (okCage cage) (s.powered fun s => s.railUp cage)

/-- POWER_GOOD_LOST (R476). -/
def execPowerGoodLost (cage : Nat) (s : State) : Res := ended (okCage cage) (s.powered fun s => s.railDown cage)

/-- RAMP_TIMEOUT (R480). -/
def execRampTimeout (cage onMs : Nat) (s : State) : Res := ended (okCage cage) (s.powered fun s => s.rampLate cage onMs)

/-- FAST_TRIP (R480). -/
def execFastTrip (cage onMs : Nat) (s : State) : Res := ended (okCage cage) (s.powered fun s => s.fastTrip cage onMs)

/-- OVERCURRENT (R481). -/
def execOvercurrent (cage onMs : Nat) (s : State) : Res := ended (okCage cage) (s.powered fun s => s.overCurrent cage onMs)

/-- RETRY_WAIT_END (R483). -/
def execRetryWaitEnd (cage : Nat) (s : State) : Res := ended (okCage cage) (s.powered fun s => s.retryEnd cage)

/-- SWAP_DEAD_TIME_END (R484). -/
def execSwapDeadTimeEnd (cage : Nat) (s : State) : Res := ended (okCage cage) (s.powered fun s => s.deadEnd cage)

/-- FEED_REVERT (R485). -/
def execFeedRevert (cage : Nat) (s : State) : Res := ended (okCage cage) (s.powered fun s => s.feedBack cage)

end Sys2Proof.Machine
end

