-- ==== Sys2Proof/Machine/CmdLocks.lean ====
section
/-!
DEFINITION. Meanings: Hardware locks (spec/18).
-/
namespace Sys2Proof.Machine

/-- LOCK_RESERVATION_EXPIRY's operation: the reservation has no stage left (R491). -/
def State.lockLapse (s : State) (n : Nat) : State :=
  let l := s.locks.look n
  if l.resv.isSome && decide (l.resvLeft ≤ 1) then s.lockAge n else s

/-- LOCK_ACQUIRE_READ (R488). -/
def execLockAcquireRead (o : Origin) (n : Nat) (s : State) : Res := ended (okOrigin o && okLock n) (s.regRead o (0x40000 + 8 * n) 8)

/-- LOCK_RELEASE_WRITE (R490). -/
def execLockReleaseWrite (o : Origin) (n : Nat) (s : State) : Res := ended (okOrigin o && okLock n) (s.regWrite o (0x40000 + 8 * n) 8 0)

/-- LOCK_FORCE (R493). -/
def execLockForce (o : Origin) (n : Nat) (s : State) : Res := ended (okOrigin o && okLock n) (s.regWrite o 0x40600 8 (bitW 63 ||| BitVec.ofNat 64 n))

/-- LOCK_RESERVATION_EXPIRY (R491). -/
def execLockReservationExpiry (n : Nat) (s : State) : Res := ended (okLock n) (s.powered fun s => s.lockLapse n)

/-- SUPERVISOR_LOCK_TICK (R495). -/
def execSupervisorLockTick (s : State) : Res := ended true (s.powered fun s => s.lockSupTick)

end Sys2Proof.Machine
end

