-- ==== Sys2Proof/Machine/CmdTel.lean ====
section
/-!
DEFINITION. Meanings: Snapshots and the bandwidth meter (spec/19).
-/
namespace Sys2Proof.Machine

/-- SNAPSHOT (R502). -/
def execSnapshot (written : Bool) (s : State) : Res := ended true (s.fabric fun s => s.snapWrite written)

/-- BW_METER_START (R509). -/
def execBwMeterStart (o : Origin) (v : Word) (s : State) : Res := ended (okOrigin o) (s.regWrite o 0x50028 8 (v ||| bitW 63))

/-- BW_METER_DONE (R509). -/
def execBwMeterDone (s : State) : Res := ended true (s.fabric fun s => s.bwDone)

end Sys2Proof.Machine
end

