-- ==== Sys2Proof/Machine/CmdFaults.lean ====
section
/-!
DEFINITION. Meanings: The fault collector and what it watches (spec/20, spec/22).
-/
namespace Sys2Proof.Machine

/-- FAULT_FORCE (R516). -/
def execFaultForce (o : Origin) (src : Nat) (s : State) : Res := ended (okOrigin o && okSource src) (s.setBits o (0x32000 + 8 * src) (bitW 63))

/-- FAULT_CLEAR (R521). -/
def execFaultClear (o : Origin) (k : Nat) (v : Word) (s : State) : Res := ended (okOrigin o && decide (k < 8)) (s.regWrite o (0x30100 + 8 * k) 8 v)

/-- FIRST_CLR (R513). -/
def execFirstClr (o : Origin) (s : State) : Res := ended (okOrigin o) (s.setBits o 0x30008 (bitW 63))

/-- FABRIC_WEDGE (R523). -/
def execFabricWedge (s : State) : Res := ended true (s.powered fun s => s.wedge 0 false)

/-- ECC_ERROR (R26). -/
def execEccError (e : EccEvent) (s : State) : Res := ended (okSource e.source) (s.fabric fun s => s.ecc e)

/-- TEMPERATURE_SAMPLE (R558). -/
def execTemperatureSample (sensor : Nat) (value : Int) (s : State) : Res :=
  ended (decide (sensor < 16)) (s.powered fun s => s.tempSample sensor value)

/-- RAIL_CHECK (R546). -/
def execRailCheck (rail mv : Nat) (s : State) : Res := ended (decide (rail < 8)) (s.powered fun s => s.railCheck rail mv)

/-- AVS_RETRY (R548). -/
def execAvsRetry (acked : Bool) (s : State) : Res := ended true (s.fabric fun s => s.avsAgain acked)

end Sys2Proof.Machine
end

