-- ==== Sys2Proof/Machine/CmdModes.lean ====
section
/-!
DEFINITION. Meanings: Modes and power domains (spec/21).
-/
namespace Sys2Proof.Machine

/-- REQUEST_OPERATIONAL (R528). -/
def execRequestOperational (o : Origin) (s : State) : Res := ended (okOrigin o) (s.regWrite o 0x10008 8 (bitW 63 ||| 2))

/-- REQUEST_DRAIN (R528). -/
def execRequestDrain (o : Origin) (s : State) : Res := ended (okOrigin o) (s.regWrite o 0x10008 8 (bitW 63 ||| 3))

/-- MODE_CHANGE (R527). -/
def execModeChange (s : State) : Res := ended true (s.fabric fun s => s.modeChange)

/-- COMMIT (R530). -/
def execCommit (o : Origin) (s : State) : Res := ended (okOrigin o) (s.regWrite o 0x10010 8 (bitW 63))

/-- COMMIT_TAKE_EFFECT (R531). -/
def execCommitTakeEffect (s : State) : Res := ended true (s.fabric fun s => s.commitNow)

/-- DEGRADED_RETURN (R527). -/
def execDegradedReturn (s : State) : Res := ended true (s.fabric fun s => s.degReturn)

/-- DRAIN_TIMEOUT (R533). -/
def execDrainTimeout (s : State) : Res := ended true (s.fabric fun s => s.drainOver)

/-- GATE_HOST_PORT (R536). -/
def execGateHostPort (o : Origin) (n : Nat) (s : State) : Res := ended (okOrigin o && okHost n) (s.setBits o 0x10030 (bitW (3 + n)))

/-- WAKE_HOST_PORT (R538). -/
def execWakeHostPort (o : Origin) (n : Nat) (s : State) : Res := ended (okOrigin o && okHost n) (s.clearBits o 0x10030 (bitW (3 + n)))

/-- GATE_MATCHING (R536). -/
def execGateMatching (o : Origin) (s : State) : Res := ended (okOrigin o) (s.setBits o 0x10030 (bitW 2))

/-- WAKE_MATCHING (R538). -/
def execWakeMatching (o : Origin) (s : State) : Res := ended (okOrigin o) (s.clearBits o 0x10030 (bitW 2))

/-- GATE_COLLECTIVES (R536). -/
def execGateCollectives (o : Origin) (s : State) : Res := ended (okOrigin o) (s.setBits o 0x10030 (bitW 1))

/-- WAKE_COLLECTIVES (R538). -/
def execWakeCollectives (o : Origin) (s : State) : Res := ended (okOrigin o) (s.clearBits o 0x10030 (bitW 1))

/-- GATE_CORE (R539). -/
def execGateCore (o : Origin) (s : State) : Res := ended (okOrigin o) (s.setBits o 0x10030 (bitW 0))

/-- GATE_LANE_QUAD (R536). -/
def execGateLaneQuad (o : Origin) (n : Nat) (s : State) : Res := ended (okOrigin o && okPort n) (s.setBits o 0x10038 (bitW n))

/-- WAKE_LANE_QUAD (R538). -/
def execWakeLaneQuad (o : Origin) (n : Nat) (s : State) : Res := ended (okOrigin o && okPort n) (s.clearBits o 0x10038 (bitW n))

/-- DOMAIN_DRAINED (R536). -/
def execDomainDrained (d : PDom) (s : State) : Res := ended (pdOk d) (s.fabric fun s => s.pdDrained d)

/-- PD_DRAIN_TIMEOUT (R536). -/
def execPdDrainTimeout (d : PDom) (s : State) : Res := ended (pdOk d) (s.fabric fun s => s.pdLate d)

/-- DOMAIN_WAKE_DONE (R538). -/
def execDomainWakeDone (d : PDom) (s : State) : Res := ended (pdOk d) (s.fabric fun s => s.pdAwake d)

end Sys2Proof.Machine
end

