-- ==== Sys2Proof/Machine/CmdReset.lean ====
section
/-!
DEFINITION. Meanings: Supply, reset and bring-up (spec/21, spec/22).
-/
namespace Sys2Proof.Machine

/-- POWER_ON (R541). -/
def execPowerOn (s : State) : Res := ended true (if s.hold = .off then s.powerLost .resetN else s)

/-- VAO_LOSS (R545). -/
def execVaoLoss (s : State) : Res := ended true (s.powered fun s => s.powerLost .off)

/-- RESET_N_ASSERT (R542). -/
def execResetNAssert (s : State) : Res := ended true (s.resetN)

/-- RESET_N_RELEASE (R529). -/
def execResetNRelease (straps : BitVec 2) (inc : BitVec 16) (secret : Key) (s : State) : Res :=
  ended true (s.resetRelease straps.toNat inc.toNat secret)

/-- COLD_RESET (R541). -/
def execColdReset (o : Origin) (v : Word) (s : State) : Res := ended (okOrigin o) (s.regWrite o 0x10028 8 v)

/-- SIDEBAND_COLD_RESET (R524). -/
def execSidebandColdReset (s : State) : Res := ended true (s.coldReset)

/-- BRINGUP_STEP (R529). -/
def execBringupStep (b : BringStep) (s : State) : Res := ended (bringOk b) (s.fabric fun s => s.bringStep b)

end Sys2Proof.Machine
end

