-- ==== Sys2Proof/Machine/Dispatch.lean ====
section
/-!
DEFINITION. What each command does: one call of its meaning for each row of the table.
-/
namespace Sys2Proof.Machine

/-- The effect of a command on everything but the queue of waiting commands. -/
def exec (i : Instr) (s : State) : Host.Outcome State Fault Refusal :=
  match i with
  | .registerWrite o off size v => Sys2Proof.Machine.execRegisterWrite o off size v s
  | .rcRead o off size => Sys2Proof.Machine.execRcRead o off size s
  | .stageBoundary b => Sys2Proof.Machine.execStageBoundary b s
  | .sFieldCommit => Sys2Proof.Machine.execSFieldCommit s
  | .periodChange => Sys2Proof.Machine.execPeriodChange s
  | .timeSyncReceive port u arrival => Sys2Proof.Machine.execTimeSyncReceive port u arrival s
  | .syncLost why => Sys2Proof.Machine.execSyncLost why s
  | .refclkFail r => Sys2Proof.Machine.execRefclkFail r s
  | .refclkQualified isB => Sys2Proof.Machine.execRefclkQualified isB s
  | .corePllRelock => Sys2Proof.Machine.execCorePllRelock s
  | .revert o => Sys2Proof.Machine.execRevert o s
  | .tbPllUnlock => Sys2Proof.Machine.execTbPllUnlock s
  | .corePllUnlock => Sys2Proof.Machine.execCorePllUnlock s
  | .mgmtPllUnlock => Sys2Proof.Machine.execMgmtPllUnlock s
  | .hostrefFail port => Sys2Proof.Machine.execHostrefFail port s
  | .clkoutConfigWrite o n v => Sys2Proof.Machine.execClkoutConfigWrite o n v s
  | .clkoutHoldEnd n => Sys2Proof.Machine.execClkoutHoldEnd n s
  | .fmeterStart o v => Sys2Proof.Machine.execFmeterStart o v s
  | .fmeterDone edges => Sys2Proof.Machine.execFmeterDone edges s
  | .wqTurn q => Sys2Proof.Machine.execWqTurn q s
  | .producerReadReturn id r => Sys2Proof.Machine.execProducerReadReturn id r s
  | .entryReadReturn id r => Sys2Proof.Machine.execEntryReadReturn id r s
  | .ownershipPoll q => Sys2Proof.Machine.execOwnershipPoll q s
  | .runRestore cluster => Sys2Proof.Machine.execRunRestore cluster s
  | .imageFetchReturn id r => Sys2Proof.Machine.execImageFetchReturn id r s
  | .ldReturn id r => Sys2Proof.Machine.execLdReturn id r s
  | .descriptorReadReturn id r => Sys2Proof.Machine.execDescriptorReadReturn id r s
  | .fragmentTableReadReturn id r => Sys2Proof.Machine.execFragmentTableReadReturn id r s
  | .unassignedOpcode run => Sys2Proof.Machine.execUnassignedOpcode run s
  | .nop run => Sys2Proof.Machine.execNop run s
  | .progEnd run => Sys2Proof.Machine.execProgEnd run s
  | .ldq run => Sys2Proof.Machine.execLdq run s
  | .ldi run => Sys2Proof.Machine.execLdi run s
  | .ld run => Sys2Proof.Machine.execLd run s
  | .st run => Sys2Proof.Machine.execSt run s
  | .add run => Sys2Proof.Machine.execAdd run s
  | .sub run => Sys2Proof.Machine.execSub run s
  | .and run => Sys2Proof.Machine.execAnd run s
  | .or run => Sys2Proof.Machine.execOr run s
  | .xor run => Sys2Proof.Machine.execXor run s
  | .shl run => Sys2Proof.Machine.execShl run s
  | .shr run => Sys2Proof.Machine.execShr run s
  | .mov run => Sys2Proof.Machine.execMov run s
  | .br run => Sys2Proof.Machine.execBr run s
  | .brc run => Sys2Proof.Machine.execBrc run s
  | .brs run => Sys2Proof.Machine.execBrs run s
  | .put run => Sys2Proof.Machine.execPut run s
  | .get run => Sys2Proof.Machine.execGet run s
  | .putx run => Sys2Proof.Machine.execPutx run s
  | .getx run => Sys2Proof.Machine.execGetx run s
  | .amo run => Sys2Proof.Machine.execAmo run s
  | .amof run => Sys2Proof.Machine.execAmof run s
  | .copy run => Sys2Proof.Machine.execCopy run s
  | .send run => Sys2Proof.Machine.execSend run s
  | .post run => Sys2Proof.Machine.execPost run s
  | .cancel run => Sys2Proof.Machine.execCancel run s
  | .wait run => Sys2Proof.Machine.execWait run s
  | .signal run => Sys2Proof.Machine.execSignal run s
  | .cset run => Sys2Proof.Machine.execCset run s
  | .fence run => Sys2Proof.Machine.execFence run s
  | .join run => Sys2Proof.Machine.execJoin run s
  | .reduce run => Sys2Proof.Machine.execReduce run s
  | .bcast run => Sys2Proof.Machine.execBcast run s
  | .barrier run => Sys2Proof.Machine.execBarrier run s
  | .lock run => Sys2Proof.Machine.execLock run s
  | .unlock run => Sys2Proof.Machine.execUnlock run s
  | .event run => Sys2Proof.Machine.execEvent run s
  | .trap run => Sys2Proof.Machine.execTrap run s
  | .rtsetWrite run => Sys2Proof.Machine.execRtsetWrite run s
  | .rtsetSwap run => Sys2Proof.Machine.execRtsetSwap run s
  | .rtsetCopy run => Sys2Proof.Machine.execRtsetCopy run s
  | .convoySetup run => Sys2Proof.Machine.execConvoySetup run s
  | .convoyTeardown run => Sys2Proof.Machine.execConvoyTeardown run s
  | .tollset run => Sys2Proof.Machine.execTollset run s
  | .domainActivate run => Sys2Proof.Machine.execDomainActivate run s
  | .domainRetire run => Sys2Proof.Machine.execDomainRetire run s
  | .bindFunc run => Sys2Proof.Machine.execBindFunc run s
  | .bindPasid run => Sys2Proof.Machine.execBindPasid run s
  | .bindCtr run => Sys2Proof.Machine.execBindCtr run s
  | .keyopCreate run => Sys2Proof.Machine.execKeyopCreate run s
  | .keyopRevoke run => Sys2Proof.Machine.execKeyopRevoke run s
  | .keyopRebound run => Sys2Proof.Machine.execKeyopRebound run s
  | .ctxflushQueue run => Sys2Proof.Machine.execCtxflushQueue run s
  | .ctxflushMatch run => Sys2Proof.Machine.execCtxflushMatch run s
  | .ctxflushDomain run => Sys2Proof.Machine.execCtxflushDomain run s
  | .tlbinvAll run => Sys2Proof.Machine.execTlbinvAll run s
  | .tlbinvPasid run => Sys2Proof.Machine.execTlbinvPasid run s
  | .tlbinvPage run => Sys2Proof.Machine.execTlbinvPage run s
  | .tlbinvRange run => Sys2Proof.Machine.execTlbinvRange run s
  | .groupsetCreate run => Sys2Proof.Machine.execGroupsetCreate run s
  | .groupsetDestroy run => Sys2Proof.Machine.execGroupsetDestroy run s
  | .epset run => Sys2Proof.Machine.execEpset run s
  | .stagecfgPeriod run => Sys2Proof.Machine.execStagecfgPeriod run s
  | .stagecfgSync run => Sys2Proof.Machine.execStagecfgSync run s
  | .opLocalCompletion run slot => Sys2Proof.Machine.execOpLocalCompletion run slot s
  | .waitTimeout run => Sys2Proof.Machine.execWaitTimeout run s
  | .lockTimeout run => Sys2Proof.Machine.execLockTimeout run s
  | .runFree run => Sys2Proof.Machine.execRunFree run s
  | .runPark run => Sys2Proof.Machine.execRunPark run s
  | .runResume o handle => Sys2Proof.Machine.execRunResume o handle s
  | .runAbort o handle => Sys2Proof.Machine.execRunAbort o handle s
  | .pcacheInvalidate o v => Sys2Proof.Machine.execPcacheInvalidate o v s
  | .sidebandRunStart o => Sys2Proof.Machine.execSidebandRunStart o s
  | .seqCtxEcc run => Sys2Proof.Machine.execSeqCtxEcc run s
  | .seqClusterEcc cluster => Sys2Proof.Machine.execSeqClusterEcc cluster s
  | .createWq set index qcb => Sys2Proof.Machine.execCreateWq set index qcb s
  | .startWq set index qcb => Sys2Proof.Machine.execStartWq set index qcb s
  | .stopWq set index => Sys2Proof.Machine.execStopWq set index s
  | .resetWq set index prod => Sys2Proof.Machine.execResetWq set index prod s
  | .destroyWq set index prod => Sys2Proof.Machine.execDestroyWq set index prod s
  | .createEq set index vfslot => Sys2Proof.Machine.execCreateEq set index vfslot s
  | .destroyEq set index => Sys2Proof.Machine.execDestroyEq set index s
  | .eqConsumerWrite o e v => Sys2Proof.Machine.execEqConsumerWrite o e v s
  | .eqArm o e => Sys2Proof.Machine.execEqArm o e s
  | .eqModerationTimeout e => Sys2Proof.Machine.execEqModerationTimeout e s
  | .counterWrite o set v => Sys2Proof.Machine.execCounterWrite o set v s
  | .doorbell d => Sys2Proof.Machine.execDoorbell d s
  | .msixUnmask port fn vec => Sys2Proof.Machine.execMsixUnmask port fn vec s
  | .hostLinkUp port rate width flit => Sys2Proof.Machine.execHostLinkUp port rate width flit s
  | .hostLinkDown port => Sys2Proof.Machine.execHostLinkDown port s
  | .hostHotReset port => Sys2Proof.Machine.execHostHotReset port s
  | .functionLevelReset port fn => Sys2Proof.Machine.execFunctionLevelReset port fn s
  | .vfEnableClear port => Sys2Proof.Machine.execVfEnableClear port s
  | .wq4Program m => Sys2Proof.Machine.execWq4Program m s
  | .fmKeyRegister o => Sys2Proof.Machine.execFmKeyRegister o s
  | .mmuCreate set => Sys2Proof.Machine.execMmuCreate set s
  | .mmuDestroy set => Sys2Proof.Machine.execMmuDestroy set s
  | .mmuClear set => Sys2Proof.Machine.execMmuClear set s
  | .mmuQuery set => Sys2Proof.Machine.execMmuQuery set s
  | .setRoot set => Sys2Proof.Machine.execSetRoot set s
  | .mmuRetry set => Sys2Proof.Machine.execMmuRetry set s
  | .mmuInvAll set => Sys2Proof.Machine.execMmuInvAll set s
  | .mmuInvPasid set => Sys2Proof.Machine.execMmuInvPasid set s
  | .mmuInvPage set => Sys2Proof.Machine.execMmuInvPage set s
  | .mmuInvRange set => Sys2Proof.Machine.execMmuInvRange set s
  | .invalidationDone id => Sys2Proof.Machine.execInvalidationDone id s
  | .walkReadReturn id r => Sys2Proof.Machine.execWalkReadReturn id r s
  | .adCasReturn id r => Sys2Proof.Machine.execAdCasReturn id r s
  | .matCreate set => Sys2Proof.Machine.execMatCreate set s
  | .matDestroy set => Sys2Proof.Machine.execMatDestroy set s
  | .matClear set => Sys2Proof.Machine.execMatClear set s
  | .matQuery set => Sys2Proof.Machine.execMatQuery set s
  | .eagerArrival p => Sys2Proof.Machine.execEagerArrival p s
  | .rtsArrival p => Sys2Proof.Machine.execRtsArrival p s
  | .rgetArrival p => Sys2Proof.Machine.execRgetArrival p s
  | .rgetRespArrival p => Sys2Proof.Machine.execRgetRespArrival p s
  | .matchWalkDone msg => Sys2Proof.Machine.execMatchWalkDone msg s
  | .matchConfirm msg => Sys2Proof.Machine.execMatchConfirm msg s
  | .speculationExpiry msg => Sys2Proof.Machine.execSpeculationExpiry msg s
  | .spillAccessReturn ctx r => Sys2Proof.Machine.execSpillAccessReturn ctx r s
  | .putArrival p => Sys2Proof.Machine.execPutArrival p s
  | .getArrival p => Sys2Proof.Machine.execGetArrival p s
  | .amoArrival p => Sys2Proof.Machine.execAmoArrival p s
  | .lineLockGrant line => Sys2Proof.Machine.execLineLockGrant line s
  | .atomicReadReturn line r => Sys2Proof.Machine.execAtomicReadReturn line r s
  | .atomicopComplete line r => Sys2Proof.Machine.execAtomicopComplete line r s
  | .amoResultExpiry key => Sys2Proof.Machine.execAmoResultExpiry key s
  | .getRespArrival p => Sys2Proof.Machine.execGetRespArrival p s
  | .amoRespArrival p => Sys2Proof.Machine.execAmoRespArrival p s
  | .keyTableReadReturn index r => Sys2Proof.Machine.execKeyTableReadReturn index r s
  | .keyTableEnableWrite o v => Sys2Proof.Machine.execKeyTableEnableWrite o v s
  | .burstGrant ch => Sys2Proof.Machine.execBurstGrant ch s
  | .burstComplete ch burst r => Sys2Proof.Machine.execBurstComplete ch burst r s
  | .channelPark ch => Sys2Proof.Machine.execChannelPark ch s
  | .operationBind => Sys2Proof.Machine.execOperationBind s
  | .rfGo o ch => Sys2Proof.Machine.execRfGo o ch s
  | .rfResume o ch => Sys2Proof.Machine.execRfResume o ch s
  | .rfAbort o ch => Sys2Proof.Machine.execRfAbort o ch s
  | .rfAbortAll o ch => Sys2Proof.Machine.execRfAbortAll o ch s
  | .rfContinue o ch => Sys2Proof.Machine.execRfContinue o ch s
  | .rfTransferComplete ch => Sys2Proof.Machine.execRfTransferComplete ch s
  | .grantArrival port p => Sys2Proof.Machine.execGrantArrival port p s
  | .collUpArrival port p => Sys2Proof.Machine.execCollUpArrival port p s
  | .segmentCombine group seq seg => Sys2Proof.Machine.execSegmentCombine group seq seg s
  | .collDownArrival port p => Sys2Proof.Machine.execCollDownArrival port p s
  | .breakArrival port p => Sys2Proof.Machine.execBreakArrival port p s
  | .collStallTimeout group => Sys2Proof.Machine.execCollStallTimeout group s
  | .bankSwapArm o => Sys2Proof.Machine.execBankSwapArm o s
  | .bankCopy o => Sys2Proof.Machine.execBankCopy o s
  | .bankCopyDone => Sys2Proof.Machine.execBankCopyDone s
  | .routeBankSwap => Sys2Proof.Machine.execRouteBankSwap s
  | .routeRawWrite o bank router size v => Sys2Proof.Machine.execRouteRawWrite o bank router size v s
  | .epRawWrite o n v => Sys2Proof.Machine.execEpRawWrite o n v s
  | .domainDrrVisit domain scav => Sys2Proof.Machine.execDomainDrrVisit domain scav s
  | .packetRoute port => Sys2Proof.Machine.execPacketRoute port s
  | .portTransmit port slotClear => Sys2Proof.Machine.execPortTransmit port slotClear s
  | .gossipReceive port g => Sys2Proof.Machine.execGossipReceive port g s
  | .gossipTimeout port => Sys2Proof.Machine.execGossipTimeout port s
  | .linkDown port cause => Sys2Proof.Machine.execLinkDown port cause s
  | .convoyActivate convoy => Sys2Proof.Machine.execConvoyActivate convoy s
  | .convoySlot convoy => Sys2Proof.Machine.execConvoySlot convoy s
  | .convoyFrameForward port f => Sys2Proof.Machine.execConvoyFrameForward port f s
  | .convoyFrameReceive port f => Sys2Proof.Machine.execConvoyFrameReceive port f s
  | .cvyAck c => Sys2Proof.Machine.execCvyAck c s
  | .convoyFrameTimeout convoy seq => Sys2Proof.Machine.execConvoyFrameTimeout convoy seq s
  | .convoySourceRetry convoy => Sys2Proof.Machine.execConvoySourceRetry convoy s
  | .convoyRelease convoy => Sys2Proof.Machine.execConvoyRelease convoy s
  | .convoyBrokenRelease convoy => Sys2Proof.Machine.execConvoyBrokenRelease convoy s
  | .linkUnitReceive port u decoded => Sys2Proof.Machine.execLinkUnitReceive port u decoded s
  | .lcfReceive port l => Sys2Proof.Machine.execLcfReceive port l s
  | .replayTimeout port => Sys2Proof.Machine.execReplayTimeout port s
  | .lcfSend port => Sys2Proof.Machine.execLcfSend port s
  | .linitSend port => Sys2Proof.Machine.execLinitSend port s
  | .linitReceive port l => Sys2Proof.Machine.execLinitReceive port l s
  | .linkRetrain o port => Sys2Proof.Machine.execLinkRetrain o port s
  | .ack c => Sys2Proof.Machine.execAck c s
  | .nackSeqGap c => Sys2Proof.Machine.execNackSeqGap c s
  | .nackRnr c => Sys2Proof.Machine.execNackRnr c s
  | .nackXlate c => Sys2Proof.Machine.execNackXlate c s
  | .nackStale c => Sys2Proof.Machine.execNackStale c s
  | .refuse c => Sys2Proof.Machine.execRefuse c s
  | .refuseAck c => Sys2Proof.Machine.execRefuseAck c s
  | .sync c => Sys2Proof.Machine.execSync c s
  | .syncAck c => Sys2Proof.Machine.execSyncAck c s
  | .packetTimeout pair psn => Sys2Proof.Machine.execPacketTimeout pair psn s
  | .retryAfterExpiry pair psn => Sys2Proof.Machine.execRetryAfterExpiry pair psn s
  | .seqGapReport pair => Sys2Proof.Machine.execSeqGapReport pair s
  | .refuseResend pair num => Sys2Proof.Machine.execRefuseResend pair num s
  | .refusalWaitExpiry pair => Sys2Proof.Machine.execRefusalWaitExpiry pair s
  | .syncResend pair => Sys2Proof.Machine.execSyncResend pair s
  | .syncAbandon pair => Sys2Proof.Machine.execSyncAbandon pair s
  | .ackTimer pair => Sys2Proof.Machine.execAckTimer pair s
  | .lifetimeExpiry pair psn => Sys2Proof.Machine.execLifetimeExpiry pair psn s
  | .receiveRecordExpiry pair => Sys2Proof.Machine.execReceiveRecordExpiry pair s
  | .sendRecordExpiry pair => Sys2Proof.Machine.execSendRecordExpiry pair s
  | .incarnationQuietEnd => Sys2Proof.Machine.execIncarnationQuietEnd s
  | .mgmtForward m storeFull => Sys2Proof.Machine.execMgmtForward m storeFull s
  | .spdmFabricRequest m answer => Sys2Proof.Machine.execSpdmFabricRequest m answer s
  | .spdmFabricResponse m => Sys2Proof.Machine.execSpdmFabricResponse m s
  | .mailboxSend o v => Sys2Proof.Machine.execMailboxSend o v s
  | .mailboxTimeout => Sys2Proof.Machine.execMailboxTimeout s
  | .getVersion t => Sys2Proof.Machine.execGetVersion t s
  | .getCapabilities t => Sys2Proof.Machine.execGetCapabilities t s
  | .negotiateAlgorithms t oneSet => Sys2Proof.Machine.execNegotiateAlgorithms t oneSet s
  | .getDigests t => Sys2Proof.Machine.execGetDigests t s
  | .getCertificate t slot => Sys2Proof.Machine.execGetCertificate t slot s
  | .challenge t => Sys2Proof.Machine.execChallenge t s
  | .getMeasurements t index => Sys2Proof.Machine.execGetMeasurements t index s
  | .keyExchange t => Sys2Proof.Machine.execKeyExchange t s
  | .finish t session macOk => Sys2Proof.Machine.execFinish t session macOk s
  | .heartbeat t session => Sys2Proof.Machine.execHeartbeat t session s
  | .keyUpdate t session => Sys2Proof.Machine.execKeyUpdate t session s
  | .endSession t session => Sys2Proof.Machine.execEndSession t session s
  | .spdmUnsupportedRequest t code => Sys2Proof.Machine.execSpdmUnsupportedRequest t code s
  | .install t session domain key => Sys2Proof.Machine.execInstall t session domain key s
  | .stage t session domain key proof => Sys2Proof.Machine.execStage t session domain key proof s
  | .switch t session domain proof => Sys2Proof.Machine.execSwitch t session domain proof s
  | .dropAlt t session domain proof => Sys2Proof.Machine.execDropAlt t session domain proof s
  | .remove t session domain proof => Sys2Proof.Machine.execRemove t session domain proof s
  | .keyQuery t session domain => Sys2Proof.Machine.execKeyQuery t session domain s
  | .lockInterfaceRequest port vf stream => Sys2Proof.Machine.execLockInterfaceRequest port vf stream s
  | .ideStreamInsecure port stream => Sys2Proof.Machine.execIdeStreamInsecure port stream s
  | .billingPeriodClose writesOk => Sys2Proof.Machine.execBillingPeriodClose writesOk s
  | .sealRequest o v => Sys2Proof.Machine.execSealRequest o v s
  | .sidebandSealCommand => Sys2Proof.Machine.execSidebandSealCommand s
  | .keystoreEcc store => Sys2Proof.Machine.execKeystoreEcc store s
  | .lanePowerWrite o lane v => Sys2Proof.Machine.execLanePowerWrite o lane v s
  | .laneWakeDone lane tx => Sys2Proof.Machine.execLaneWakeDone lane tx s
  | .laneRetrain o lane => Sys2Proof.Machine.execLaneRetrain o lane s
  | .trainingStepAdvance port peaks taps => Sys2Proof.Machine.execTrainingStepAdvance port peaks taps s
  | .trainingGateEnd port uncorr => Sys2Proof.Machine.execTrainingGateEnd port uncorr s
  | .trainingTimeout port => Sys2Proof.Machine.execTrainingTimeout port s
  | .losAssert lane => Sys2Proof.Machine.execLosAssert lane s
  | .losDeassert lane => Sys2Proof.Machine.execLosDeassert lane s
  | .lolAssert lane => Sys2Proof.Machine.execLolAssert lane s
  | .lolDeassert lane => Sys2Proof.Machine.execLolDeassert lane s
  | .moduleIdentify cage m => Sys2Proof.Machine.execModuleIdentify cage m s
  | .moduleReadyTimeout cage => Sys2Proof.Machine.execModuleReadyTimeout cage s
  | .moduleAuthDone cage verified => Sys2Proof.Machine.execModuleAuthDone cage verified s
  | .moduleRescan o cage => Sys2Proof.Machine.execModuleRescan o cage s
  | .cmisTransaction o cage v => Sys2Proof.Machine.execCmisTransaction o cage v s
  | .cmisTransactionDone cage acked data => Sys2Proof.Machine.execCmisTransactionDone cage acked data s
  | .wearAccrual cage active temp => Sys2Proof.Machine.execWearAccrual cage active temp s
  | .lifeLedgerWrite cage ok => Sys2Proof.Machine.execLifeLedgerWrite cage ok s
  | .cagePresent cage => Sys2Proof.Machine.execCagePresent cage s
  | .cageAbsent cage => Sys2Proof.Machine.execCageAbsent cage s
  | .absenceClear cage => Sys2Proof.Machine.execAbsenceClear cage s
  | .feedGood cage isB => Sys2Proof.Machine.execFeedGood cage isB s
  | .feedBad cage isB => Sys2Proof.Machine.execFeedBad cage isB s
  | .cageEnWrite o cage en => Sys2Proof.Machine.execCageEnWrite o cage en s
  | .cageFeedConfigWrite o cage v => Sys2Proof.Machine.execCageFeedConfigWrite o cage v s
  | .cageQualified cage => Sys2Proof.Machine.execCageQualified cage s
  | .powerGood cage => Sys2Proof.Machine.execPowerGood cage s
  | .powerGoodLost cage => Sys2Proof.Machine.execPowerGoodLost cage s
  | .rampTimeout cage onMs => Sys2Proof.Machine.execRampTimeout cage onMs s
  | .fastTrip cage onMs => Sys2Proof.Machine.execFastTrip cage onMs s
  | .overcurrent cage onMs => Sys2Proof.Machine.execOvercurrent cage onMs s
  | .retryWaitEnd cage => Sys2Proof.Machine.execRetryWaitEnd cage s
  | .swapDeadTimeEnd cage => Sys2Proof.Machine.execSwapDeadTimeEnd cage s
  | .feedRevert cage => Sys2Proof.Machine.execFeedRevert cage s
  | .lockAcquireRead o n => Sys2Proof.Machine.execLockAcquireRead o n s
  | .lockReleaseWrite o n => Sys2Proof.Machine.execLockReleaseWrite o n s
  | .lockForce o n => Sys2Proof.Machine.execLockForce o n s
  | .lockReservationExpiry n => Sys2Proof.Machine.execLockReservationExpiry n s
  | .supervisorLockTick => Sys2Proof.Machine.execSupervisorLockTick s
  | .snapshot written => Sys2Proof.Machine.execSnapshot written s
  | .bwMeterStart o v => Sys2Proof.Machine.execBwMeterStart o v s
  | .bwMeterDone => Sys2Proof.Machine.execBwMeterDone s
  | .faultForce o src => Sys2Proof.Machine.execFaultForce o src s
  | .faultClear o k v => Sys2Proof.Machine.execFaultClear o k v s
  | .firstClr o => Sys2Proof.Machine.execFirstClr o s
  | .fabricWedge => Sys2Proof.Machine.execFabricWedge s
  | .eccError e => Sys2Proof.Machine.execEccError e s
  | .temperatureSample sensor value => Sys2Proof.Machine.execTemperatureSample sensor value s
  | .railCheck rail mv => Sys2Proof.Machine.execRailCheck rail mv s
  | .requestOperational o => Sys2Proof.Machine.execRequestOperational o s
  | .requestDrain o => Sys2Proof.Machine.execRequestDrain o s
  | .modeChange => Sys2Proof.Machine.execModeChange s
  | .commit o => Sys2Proof.Machine.execCommit o s
  | .commitTakeEffect => Sys2Proof.Machine.execCommitTakeEffect s
  | .degradedReturn => Sys2Proof.Machine.execDegradedReturn s
  | .drainTimeout => Sys2Proof.Machine.execDrainTimeout s
  | .gateHostPort o n => Sys2Proof.Machine.execGateHostPort o n s
  | .wakeHostPort o n => Sys2Proof.Machine.execWakeHostPort o n s
  | .gateMatching o => Sys2Proof.Machine.execGateMatching o s
  | .wakeMatching o => Sys2Proof.Machine.execWakeMatching o s
  | .gateCollectives o => Sys2Proof.Machine.execGateCollectives o s
  | .wakeCollectives o => Sys2Proof.Machine.execWakeCollectives o s
  | .gateCore o => Sys2Proof.Machine.execGateCore o s
  | .gateLaneQuad o n => Sys2Proof.Machine.execGateLaneQuad o n s
  | .wakeLaneQuad o n => Sys2Proof.Machine.execWakeLaneQuad o n s
  | .domainDrained d => Sys2Proof.Machine.execDomainDrained d s
  | .pdDrainTimeout d => Sys2Proof.Machine.execPdDrainTimeout d s
  | .domainWakeDone d => Sys2Proof.Machine.execDomainWakeDone d s
  | .powerOn => Sys2Proof.Machine.execPowerOn s
  | .vaoLoss => Sys2Proof.Machine.execVaoLoss s
  | .resetNAssert => Sys2Proof.Machine.execResetNAssert s
  | .resetNRelease straps inc secret => Sys2Proof.Machine.execResetNRelease straps inc secret s
  | .coldReset o v => Sys2Proof.Machine.execColdReset o v s
  | .sidebandColdReset => Sys2Proof.Machine.execSidebandColdReset s
  | .bringupStep b => Sys2Proof.Machine.execBringupStep b s
  | .avsRetry acked => Sys2Proof.Machine.execAvsRetry acked s
  | .completionTimeout id => Sys2Proof.Machine.execCompletionTimeout id s
  | .mgmtPllLock => Sys2Proof.Machine.execMgmtPllLock s
  | .hostrefOk port => Sys2Proof.Machine.execHostrefOk port s
  | .configurationWrite w => Sys2Proof.Machine.execConfigurationWrite w s
  | .startInterfaceRequest port vf => Sys2Proof.Machine.execStartInterfaceRequest port vf s
  | .stopInterfaceRequest port vf => Sys2Proof.Machine.execStopInterfaceRequest port vf s
  | .ideKm port stream keySet => Sys2Proof.Machine.execIdeKm port stream keySet s

end Sys2Proof.Machine
end

