-- ==== Sys2Proof/WellFormed.lean ====
section
/-!
DEFINITION. Which commands are well formed: their operands name an instance that exists or a value that fits its bits. A command that is not well formed
is refused with the fault noSuchInstance.
-/
namespace Sys2Proof
open Machine

/-- A command's operands are in range. -/
def wellFormed (i : Instr) : Bool :=
  match i with
  | .registerWrite o off _ _ => okOrigin o && okOff off
  | .rcRead o off _ => okOrigin o && okOff off
  | .stageBoundary b => boundaryOk b
  | .sFieldCommit => true
  | .periodChange => true
  | .timeSyncReceive port u _ => okPort port && okSync u
  | .syncLost _ => true
  | .refclkFail _ => true
  | .refclkQualified _ => true
  | .corePllRelock => true
  | .revert o => okOrigin o
  | .tbPllUnlock => true
  | .corePllUnlock => true
  | .mgmtPllUnlock => true
  | .hostrefFail port => okHost port
  | .clkoutConfigWrite o n _ => okOrigin o && okClkout n
  | .clkoutHoldEnd n => okClkout n
  | .fmeterStart o _ => okOrigin o
  | .fmeterDone _ => true
  | .wqTurn q => ok16 q
  | .producerReadReturn _ _ => true
  | .entryReadReturn _ _ => true
  | .ownershipPoll q => ok16 q
  | .runRestore cluster => okCluster cluster
  | .imageFetchReturn _ _ => true
  | .ldReturn _ _ => true
  | .descriptorReadReturn _ _ => true
  | .fragmentTableReadReturn _ _ => true
  | .unassignedOpcode run => okRun run
  | .nop run => okRun run
  | .progEnd run => okRun run
  | .ldq run => okRun run
  | .ldi run => okRun run
  | .ld run => okRun run
  | .st run => okRun run
  | .add run => okRun run
  | .sub run => okRun run
  | .and run => okRun run
  | .or run => okRun run
  | .xor run => okRun run
  | .shl run => okRun run
  | .shr run => okRun run
  | .mov run => okRun run
  | .br run => okRun run
  | .brc run => okRun run
  | .brs run => okRun run
  | .put run => okRun run
  | .get run => okRun run
  | .putx run => okRun run
  | .getx run => okRun run
  | .amo run => okRun run
  | .amof run => okRun run
  | .copy run => okRun run
  | .send run => okRun run
  | .post run => okRun run
  | .cancel run => okRun run
  | .wait run => okRun run
  | .signal run => okRun run
  | .cset run => okRun run
  | .fence run => okRun run
  | .join run => okRun run
  | .reduce run => okRun run
  | .bcast run => okRun run
  | .barrier run => okRun run
  | .lock run => okRun run
  | .unlock run => okRun run
  | .event run => okRun run
  | .trap run => okRun run
  | .rtsetWrite run => okRun run
  | .rtsetSwap run => okRun run
  | .rtsetCopy run => okRun run
  | .convoySetup run => okRun run
  | .convoyTeardown run => okRun run
  | .tollset run => okRun run
  | .domainActivate run => okRun run
  | .domainRetire run => okRun run
  | .bindFunc run => okRun run
  | .bindPasid run => okRun run
  | .bindCtr run => okRun run
  | .keyopCreate run => okRun run
  | .keyopRevoke run => okRun run
  | .keyopRebound run => okRun run
  | .ctxflushQueue run => okRun run
  | .ctxflushMatch run => okRun run
  | .ctxflushDomain run => okRun run
  | .tlbinvAll run => okRun run
  | .tlbinvPasid run => okRun run
  | .tlbinvPage run => okRun run
  | .tlbinvRange run => okRun run
  | .groupsetCreate run => okRun run
  | .groupsetDestroy run => okRun run
  | .epset run => okRun run
  | .stagecfgPeriod run => okRun run
  | .stagecfgSync run => okRun run
  | .opLocalCompletion run slot => okRun run && okSlot slot
  | .waitTimeout run => okRun run
  | .lockTimeout run => okRun run
  | .runFree run => okRun run
  | .runPark run => okRun run
  | .runResume o _ => okOrigin o
  | .runAbort o _ => okOrigin o
  | .pcacheInvalidate o _ => okOrigin o
  | .sidebandRunStart o => okOrigin o
  | .seqCtxEcc run => okRun run
  | .seqClusterEcc cluster => okCluster cluster
  | .createWq set index _ => okSet set && ok16 index
  | .startWq set index _ => okSet set && ok16 index
  | .stopWq set index => okSet set && ok16 index
  | .resetWq set index _ => okSet set && ok16 index
  | .destroyWq set index _ => okSet set && ok16 index
  | .createEq set index vfslot => okSet set && okEq index && okVfSlot vfslot
  | .destroyEq set index => okSet set && okEq index
  | .eqConsumerWrite o e _ => okOrigin o && okEq e
  | .eqArm o e => okOrigin o && okEq e
  | .eqModerationTimeout e => okEq e
  | .counterWrite o set _ => okOrigin o && okSet set
  | .doorbell d => okHost d.port && okFn d.fn && decide (d.page < 65536)
  | .msixUnmask port fn vec => okHost port && okFn fn && okVec fn vec
  | .hostLinkUp port rate width _ => okHost port && decide (1 ≤ rate ∧ rate ≤ 6 ∧ 1 ≤ width ∧ width ≤ 5)
  | .hostLinkDown port => okHost port
  | .hostHotReset port => okHost port
  | .functionLevelReset port fn => okHost port && okFn fn
  | .vfEnableClear port => okHost port
  | .wq4Program m => okMgmt m
  | .fmKeyRegister o => okOrigin o
  | .mmuCreate set => okSet set
  | .mmuDestroy set => okSet set
  | .mmuClear set => okSet set
  | .mmuQuery set => okSet set
  | .setRoot set => okSet set
  | .mmuRetry set => okSet set
  | .mmuInvAll set => okSet set
  | .mmuInvPasid set => okSet set
  | .mmuInvPage set => okSet set
  | .mmuInvRange set => okSet set
  | .invalidationDone _ => true
  | .walkReadReturn _ _ => true
  | .adCasReturn _ _ => true
  | .matCreate set => okSet set
  | .matDestroy set => okSet set
  | .matClear set => okSet set
  | .matQuery set => okSet set
  | .eagerArrival p => okPacket p
  | .rtsArrival p => okPacket p
  | .rgetArrival p => okPacket p
  | .rgetRespArrival p => okPacket p
  | .matchWalkDone _ => true
  | .matchConfirm _ => true
  | .speculationExpiry _ => true
  | .spillAccessReturn ctx _ => ok16 ctx
  | .putArrival p => okPacket p
  | .getArrival p => okPacket p
  | .amoArrival p => okPacket p
  | .lineLockGrant _ => true
  | .atomicReadReturn _ _ => true
  | .atomicopComplete _ _ => true
  | .amoResultExpiry _ => true
  | .getRespArrival p => okPacket p
  | .amoRespArrival p => okPacket p
  | .keyTableReadReturn index _ => decide (index < 2 ^ 24)
  | .keyTableEnableWrite o _ => okOrigin o
  | .burstGrant ch => okChan ch
  | .burstComplete ch _ _ => okChan ch
  | .channelPark ch => okChan ch
  | .operationBind => true
  | .rfGo o ch => okOrigin o && okRf ch
  | .rfResume o ch => okOrigin o && okRf ch
  | .rfAbort o ch => okOrigin o && okRf ch
  | .rfAbortAll o ch => okOrigin o && okRf ch
  | .rfContinue o ch => okOrigin o && okRf ch
  | .rfTransferComplete ch => okRf ch
  | .grantArrival port p => okPort port && okPacket p
  | .collUpArrival port p => okPort port && okPacket p
  | .segmentCombine group seq seg => okGroup group && ok16 seq && decide (seg < 2 ^ 24)
  | .collDownArrival port p => okPort port && okPacket p
  | .breakArrival port p => okPort port && okPacket p
  | .collStallTimeout group => okGroup group
  | .bankSwapArm o => okOrigin o
  | .bankCopy o => okOrigin o
  | .bankCopyDone => true
  | .routeBankSwap => true
  | .routeRawWrite o bank router _ _ => okOrigin o && decide (bank < 2) && ok16 router
  | .epRawWrite o i _ => okOrigin o && decide (i < 262144)
  | .domainDrrVisit domain _ => ok16 domain
  | .packetRoute port => okInput port
  | .portTransmit port _ => okPort port
  | .gossipReceive port g => okPort port && okGossip g
  | .gossipTimeout port => okPort port
  | .linkDown port cause => okPort port && decide (1 ≤ cause ∧ cause ≤ 5)
  | .convoyActivate convoy => okCvy convoy
  | .convoySlot convoy => okCvy convoy
  | .convoyFrameForward port f => okPort port && okFrame f
  | .convoyFrameReceive port f => okPort port && okFrame f
  | .cvyAck c => okCtl c
  | .convoyFrameTimeout convoy seq => okCvy convoy && decide (seq < 2 ^ 32)
  | .convoySourceRetry convoy => okCvy convoy
  | .convoyRelease convoy => okCvy convoy
  | .convoyBrokenRelease convoy => okCvy convoy
  | .linkUnitReceive port u _ => okPort port && okUnit u
  | .lcfReceive port l => okPort port && okLcf l
  | .replayTimeout port => okPort port
  | .lcfSend port => okPort port
  | .linitSend port => okPort port
  | .linitReceive port l => okPort port && okLinit l
  | .linkRetrain o port => okOrigin o && okPort port
  | .ack c => okCtl c
  | .nackSeqGap c => okCtl c
  | .nackRnr c => okCtl c
  | .nackXlate c => okCtl c
  | .nackStale c => okCtl c
  | .refuse c => okCtl c
  | .refuseAck c => okCtl c
  | .sync c => okCtl c
  | .syncAck c => okCtl c
  | .packetTimeout _ psn => okPsn psn
  | .retryAfterExpiry _ psn => okPsn psn
  | .seqGapReport _ => true
  | .refuseResend _ num => decide (num < 256)
  | .refusalWaitExpiry _ => true
  | .syncResend _ => true
  | .syncAbandon _ => true
  | .ackTimer _ => true
  | .lifetimeExpiry _ psn => okPsn psn
  | .receiveRecordExpiry _ => true
  | .sendRecordExpiry _ => true
  | .incarnationQuietEnd => true
  | .mgmtForward m _ => okMgmt m
  | .spdmFabricRequest m _ => okMgmt m
  | .spdmFabricResponse m => okMgmt m
  | .mailboxSend o _ => okOrigin o
  | .mailboxTimeout => true
  | .getVersion t => okTransport t
  | .getCapabilities t => okTransport t
  | .negotiateAlgorithms t _ => okTransport t
  | .getDigests t => okTransport t
  | .getCertificate t slot => okTransport t && decide (slot < 8)
  | .challenge t => okTransport t
  | .getMeasurements t index => okTransport t && decide (index < 256)
  | .keyExchange t => okTransport t
  | .finish t session _ => okTransport t && okSess session
  | .heartbeat t session => okTransport t && okSess session
  | .keyUpdate t session => okTransport t && okSess session
  | .endSession t session => okTransport t && okSess session
  | .spdmUnsupportedRequest t code => okTransport t && decide (code < 256)
  | .install t session domain _ => okTransport t && okSess session && ok16 domain
  | .stage t session domain _ _ => okTransport t && okSess session && ok16 domain
  | .switch t session domain _ => okTransport t && okSess session && ok16 domain
  | .dropAlt t session domain _ => okTransport t && okSess session && ok16 domain
  | .remove t session domain _ => okTransport t && okSess session && ok16 domain
  | .keyQuery t session domain => okTransport t && okSess session && ok16 domain
  | .lockInterfaceRequest port vf stream => okHost port && okVf vf && okStream stream
  | .ideStreamInsecure port stream => okHost port && okStream stream
  | .billingPeriodClose _ => true
  | .sealRequest o _ => okOrigin o
  | .sidebandSealCommand => true
  | .keystoreEcc _ => true
  | .lanePowerWrite o lane _ => okOrigin o && okLane lane
  | .laneWakeDone lane _ => okLane lane
  | .laneRetrain o lane => okOrigin o && okLane lane
  | .trainingStepAdvance port _ _ => okPort port
  | .trainingGateEnd port _ => okPort port
  | .trainingTimeout port => okPort port
  | .losAssert lane => okLane lane
  | .losDeassert lane => okLane lane
  | .lolAssert lane => okLane lane
  | .lolDeassert lane => okLane lane
  | .moduleIdentify cage _ => okCage cage
  | .moduleReadyTimeout cage => okCage cage
  | .moduleAuthDone cage _ => okCage cage
  | .moduleRescan o cage => okOrigin o && okCage cage
  | .cmisTransaction o cage _ => okOrigin o && okCage cage
  | .cmisTransactionDone cage _ _ => okCage cage
  | .wearAccrual cage _ _ => okCage cage
  | .lifeLedgerWrite cage _ => okCage cage
  | .cagePresent cage => okCage cage
  | .cageAbsent cage => okCage cage
  | .absenceClear cage => okCage cage
  | .feedGood cage _ => okCage cage
  | .feedBad cage _ => okCage cage
  | .cageEnWrite o cage _ => okOrigin o && okCage cage
  | .cageFeedConfigWrite o cage _ => okOrigin o && okCage cage
  | .cageQualified cage => okCage cage
  | .powerGood cage => okCage cage
  | .powerGoodLost cage => okCage cage
  | .rampTimeout cage _ => okCage cage
  | .fastTrip cage _ => okCage cage
  | .overcurrent cage _ => okCage cage
  | .retryWaitEnd cage => okCage cage
  | .swapDeadTimeEnd cage => okCage cage
  | .feedRevert cage => okCage cage
  | .lockAcquireRead o n => okOrigin o && okLock n
  | .lockReleaseWrite o n => okOrigin o && okLock n
  | .lockForce o n => okOrigin o && okLock n
  | .lockReservationExpiry n => okLock n
  | .supervisorLockTick => true
  | .snapshot _ => true
  | .bwMeterStart o _ => okOrigin o
  | .bwMeterDone => true
  | .faultForce o src => okOrigin o && okSource src
  | .faultClear o k _ => okOrigin o && decide (k < 8)
  | .firstClr o => okOrigin o
  | .fabricWedge => true
  | .eccError e => okSource e.source
  | .temperatureSample sensor _ => decide (sensor < 16)
  | .railCheck rail _ => decide (rail < 8)
  | .requestOperational o => okOrigin o
  | .requestDrain o => okOrigin o
  | .modeChange => true
  | .commit o => okOrigin o
  | .commitTakeEffect => true
  | .degradedReturn => true
  | .drainTimeout => true
  | .gateHostPort o n => okOrigin o && okHost n
  | .wakeHostPort o n => okOrigin o && okHost n
  | .gateMatching o => okOrigin o
  | .wakeMatching o => okOrigin o
  | .gateCollectives o => okOrigin o
  | .wakeCollectives o => okOrigin o
  | .gateCore o => okOrigin o
  | .gateLaneQuad o n => okOrigin o && okPort n
  | .wakeLaneQuad o n => okOrigin o && okPort n
  | .domainDrained d => pdOk d
  | .pdDrainTimeout d => pdOk d
  | .domainWakeDone d => pdOk d
  | .powerOn => true
  | .vaoLoss => true
  | .resetNAssert => true
  | .resetNRelease _ _ _ => true
  | .coldReset o _ => okOrigin o
  | .sidebandColdReset => true
  | .bringupStep b => bringOk b
  | .avsRetry _ => true
  | .completionTimeout _ => true
  | .mgmtPllLock => true
  | .hostrefOk port => okHost port
  | .configurationWrite w => okCfg w
  | .startInterfaceRequest port vf => okHost port && okVf vf
  | .stopInterfaceRequest port vf => okHost port && okVf vf
  | .ideKm port stream _ => okHost port && okStream stream

end Sys2Proof
end

