-- ==== Sys2Proof/Safety.lean ====
section
/-!
DEFINITION. What counts as a state in order between commands, and as a command with nothing of earlier commands still to do.
-/
namespace Sys2Proof.Machine

/-- The collector's summary follows its pending bits (R517): ANY, PENDING_MAX and ERR_N_LOW. -/
def State.summaryOk (s : State) : Bool :=
  s.get F.FLT_STATUS_ANY == b2n (s.anyPending fun _ => true) && s.get F.FLT_STATUS_PENDING_MAX == s.pendingMax &&
    s.get F.FLT_STATUS_ERR_N_LOW == b2n s.errLow

/-- Between commands: no happening is left over, the collector's summary follows its pending bits, and DEV_BRINGUP.SYNC tells whether sync counts as
acquired (R54, R529). -/
def State.inOrder (s : State) : Prop :=
  s.work = [] ∧ s.summaryOk = true ∧ (s.hold = .none → s.get F.DEV_BRINGUP_SYNC = b2n s.synced)

/-- Nothing waits for a condition that a command could bring about beside its own effect: no power domain is closing, no run waits for room, no reaction is
under way, no REVOKE waits for packets in flight, the device does not drain, and nothing holds it in Reset. -/
abbrev State.calm (s : State) : Prop :=
  s.work = [] ∧ s.pdOver = [] ∧ s.roomQ = [] ∧ s.active = [] ∧ s.revoking = [] ∧ s.mode ≠ 3 ∧ s.hold = .none

/-- A command completes: it answers a next state, of which `p` holds. -/
def State.completes (s : State) (c : Instr) (p : State → Prop) : Prop := ∃ t, exec c s = .next t ∧ p t

/-- The access does not come through a VF's window (R34). -/
def notVf : Origin → Bool
  | .vf _ _ => false
  | _ => true

/-- A PF0, the sideband or an instruction may write a register (R34, R454), no locked TDI watches the write (R447), and no stage-latched write waits (R9). -/
abbrev State.mayWrite (s : State) (o : Origin) (off : Nat) : Prop :=
  s.regOpen o off true = true ∧ notVf o = true ∧ (s.fns.keysOf fun h => h.tdi == .locked || h.tdi == .run) = [] ∧ s.spend = [] ∧ s.smask = []

/-- No run and no work queue exists, and no fabric port is up or training: a halt or a seal finds nothing to stop (R453, R512). -/
abbrev State.vacant (s : State) : Prop :=
  s.runs = [] ∧ s.wqs = [] ∧ s.halted = false ∧ s.sealed = false ∧ ∀ p, p < 64 → s.get (F.WPR_LINK_STATUS_STATE p) = 0

/-- Registers that a command may change beside its own effect: DEV_BRINGUP and FLT_STATUS follow the state at the end of every command (R517, R529), and the gatherer
counters count the events they are set to count (R496). -/
abbrev following (off : Nat) : Prop := off = 0x10018 ∨ off = 0x30000 ∨ (0x52000 ≤ off ∧ off < 0x52800)

/-- `t` is `u`, but for the registers that follow the state and a change of ERR_N that follows it (R517). -/
def State.upTo (u t : State) : Prop :=
  t = { u with regs := t.regs, outs := t.outs } ∧ (∀ off, ¬ following off → t.reg off = u.reg off) ∧
  (t.outs = u.outs ∨ ∃ l, t.outs = .pin "ERR_N" l :: u.outs)

/-- `t` is `u`, but for what the collector records of a fault: its history and registers, its messages on vector 1 and their pending bits (R513, R518, R519). -/
def State.upToFault (u t : State) : Prop :=
  t = { u with regs := t.regs, outs := t.outs, hist := t.hist, first := t.first, fltIrq := t.fltIrq, fltDefer := t.fltDefer, fns := t.fns } ∧
  (∀ off, ¬ following off → off < 0x30000 ∨ 0x34000 ≤ off → t.reg off = u.reg off)

/-- The command completes, and the next state is `u`: every field and every register stands as in `u`. -/
def State.gives (s : State) (c : Instr) (u : State) : Prop := s.completes c fun t => u.upTo t

/-- The command completes with an occurrence of a fault source, and the next state is `u` but for what the collector records. -/
def State.givesFault (s : State) (c : Instr) (u : State) (src : Nat) : Prop := s.completes c fun t => u.upToFault t ∧ t.flag (fltPend src) = true

/-- A context's run is at an instruction boundary in its slot, below its step limit, and the word at its program counter is `i`'s first (R89, R121). -/
abbrev State.fetched (s : State) (ctx : Nat) (i : Ins) : Prop :=
  s.calm ∧ ctx ≤ 8192 ∧ (s.runs.look ctx).st = .running ∧ (s.runs.look ctx).await = none ∧ (s.runs.look ctx).faults = [] ∧
  (s.runs.look ctx).preempt = false ∧ ((s.runs.look ctx).steps ≠ (s.runs.look ctx).limit ∨ i.opcode = 1) ∧
  s.fetchAt (s.runs.look ctx) (s.runs.look ctx).pc = .word i.w ∧ i = Ins.of i.w i.w2

/-- The run passes the checks of R121 with instruction `i`: its words are there, its opcode is assigned and allowed to the run, its flags are defined, and no
register it names is pending (R126). -/
abbrev State.due (s : State) (ctx : Nat) (i : Ins) : Prop :=
  s.fetched ctx i ∧ (ctx = sbCtx → i.sbOk = true) ∧ unassigned i.opcode = false ∧ (privileged i.opcode = true → s.authority ctx (s.runs.look ctx) = true) ∧
  i.flagsOk = true ∧ (if i.size = 2 then s.fetchAt (s.runs.look ctx) ((s.runs.look ctx).pc + 1) = .word i.w2 else i.w2 = 0) ∧
  (i.regs.find? fun n => n != 0 && (s.runs.look ctx).rdPend.any (·.1 == n)) = none

/-- The run has no operation outstanding (R97). -/
abbrev State.unladen (s : State) (ctx : Nat) : Prop := s.ops.filter (fun e => e.1 / 64 == ctx) = []

/-- The words of the descriptor that an instruction names: read already, or in the message that carries the program (R88, R91, R123). -/
def State.descOf (s : State) (ctx : Nat) (i : Ins) (n : Nat) : Option (List Word) :=
  let r := s.runs.look ctx
  match r.desc, r.params with
  | some d, _ => some d
  | none, .msg m => if (r.rg i.ra).toNat + n ≤ m.length then some ((m.drop (r.rg i.ra).toNat).take n) else none
  | none, _ => none

/-- The descriptor is at hand. -/
abbrev State.hasDesc (s : State) (ctx : Nat) (i : Ins) (n : Nat) (ws : List Word) : Prop := ws.length = n ∧ s.descOf ctx i n = some ws

/-- No WAIT waits on a counter (R100). -/
abbrev State.unwaited (s : State) (c : Nat) : Prop := (s.ops.keysOf fun o => o.live && o.opcode == 0x40 && o.fin.isNone && o.arg == c) = []

/-- The run after an instruction that is no operation: `f` is its effect on the run, `pc` where it goes on (R102). -/
def State.went (s : State) (ctx pc : Nat) (f : Run → Run) : State := s.updRun ctx fun r => { f r with pc := pc, steps := r.steps + 1, desc := none }

/-- The run after an operation without an event that completes at issue: RD if it has one, G15 (R81, R82), the step and the program counter; the operation counts in
its domain's ledger (R448). -/
def State.wentOp (s : State) (ctx : Nat) (i : Ins) (st : Nat) (rd : Option Nat) (v : Word) : State :=
  (s.updRun ctx fun r =>
    { (match rd with | some d => r.setG d v | none => r).setG 15 (g15 st i.opcode 0) with
      pc := r.pc + i.size, steps := r.steps + 1, desc := none, opSeq := r.opSeq + 1, nextPc := if i.nb then r.nextPc else r.pc + i.size
      block := if i.nb then r.block else .none }).ledger (s.runs.look ctx).dom ldOps 1

/-- X of the arithmetic instructions (R133). -/
def Ins.x (i : Ins) (r : Run) : Word := if i.opf % 2 = 1 then (BitVec.ofNat 32 i.imm).signExtend 64 else r.rg i.rb

/-- A run that has ended with a status and has left nothing behind (R104, R105). -/
def State.over (s : State) (ctx st : Nat) : State :=
  s.updRun ctx fun r => { r with st := .ending, endSt := st, outside := false, block := .none, waitOn := none, await := none, desc := none, rdPend := [] }

/-- The run has slot `n` free, no other run waits for room, and no channel holds an operation that has ended (R97). -/
abbrev State.slotFor (s : State) (ctx n : Nat) : Prop := s.freeSlot ctx = some n ∧ s.unbound = [] ∧ s.chans = []

/-- An accepted operation (R75, R82, R96): a blocking one blocks its run, a non-blocking one writes G15 and leaves its RD pending (R126). -/
def State.accepted (s : State) (ctx n : Nat) (i : Ins) (o : Op) : State :=
  { s.updRun ctx (fun r =>
      if i.nb then { r.setG 15 (g15 stOk i.opcode 0) with
        pc := r.pc + i.size, steps := r.steps + 1, desc := none, opSeq := r.opSeq + 1
        rdPend := match o.rd with | some d => if d = 0 then r.rdPend else r.rdPend ++ [(d, n)] | none => r.rdPend }
      else { r with st := .blocked, block := .op n, nextPc := r.pc + i.size, steps := r.steps + 1, desc := none, opSeq := r.opSeq + 1 }) with
    ops := s.ops.put (ctx * 64 + n) o }

/-- A local address field of `len` bytes: an address, or a range of the entry's job whose fragments have been read (R183 to R185). -/
def State.localOf (s : State) (ctx : Nat) (a : Word) (len : Nat) : Option (List (Nat × Nat) × Nat) :=
  let r := s.runs.look ctx
  if !isJob a then some ([], a.toNat)
  else if r.pasid.isNone || r.fragCount == 0 then none
  else match fragWalk r.frags 16 r.fragPtr r.fragCount 0 with
    | .done fs => if wbits a 61 0 + len ≤ pieceLen fs then some (if fs.isEmpty then [(0, 0)] else fs, wbits a 61 0) else none
    | _ => none

/-- The field resolves to fragments (none for an address) and an address or offset. -/
abbrev State.resolves (s : State) (ctx : Nat) (a : Word) (len : Nat) (frs : List (Nat × Nat)) (la : Nat) : Prop := s.localOf ctx a len = some (frs, la)

/-- A bulk mover operation of the run finds its counter its own, its host port on, a slot `n`, and a channel `c` without other operations (R97, R125, R537). -/
abbrev State.channelFor (s : State) (ctx n c : Nat) (i : Ins) (pair : Option Nat) : Prop :=
  (s.runs.look ctx).pasid.isSome = true ∧ s.lctrOk (s.runs.look ctx) i = true ∧ s.pdHost (s.runs.look ctx).port = 0 ∧ s.freeSlot ctx = some n ∧
  s.chanRoom ctx (s.runs.look ctx).wq pair = some c ∧ (s.chans.look c).ops = []

/-- Its target is an endpoint, its domain has a key, and pair channel `p` to the target is recorded, in step, and at its limit of unacknowledged packets, so that no
packet forms yet (R125, R391). -/
abbrev State.reaches (s : State) (ctx : Nat) (node func chan p : Nat) : Prop :=
  (s.endpoint node).isSome = true ∧ (s.key (s.runs.look ctx).dom).isSome = true ∧
  p = pairKey (s.runs.look ctx).port (s.runs.look ctx).fn node func chan ∧ p ≠ 0 ∧
  (s.ptx.look p).live = true ∧ (s.ptx.look p).sync = none ∧ s.psnRoom (s.ptx.look p) = false

/-- An accepted bulk mover operation, bound to channel `c` (R297). -/
def State.boundTo (s : State) (ctx n c : Nat) (i : Ins) (o : Op) : State :=
  let k := ctx * 64 + n
  { s.accepted ctx n i { o with opid := o.newId k, bound := some c } with chans := s.chans.upd c fun ch => { ch with ops := ch.ops ++ [k] } }

/-- An access by an address space of a domain to bytes within one page translates by the TLB (R206, R210, R218). -/
abbrev State.maps (s : State) (pasid dom : Nat) (k : AccKind) (va n pa : Nat) : Prop :=
  (s.pas.look pasid).st = .active ∧ (s.pas.look pasid).dom = some dom ∧ (s.pas.look pasid).canonical va = true ∧ va % 4096 + n ≤ 4096 ∧ 0 < n ∧
  (s.tlbLook pasid k va).2 = .hit pa false

/-- A work queue writes its events to event queue `e`, which is ACTIVE and writes one already, so that another waits behind it (R199). -/
abbrev State.eventsTo (s : State) (q e : Nat) : Prop :=
  (s.wqs.look q).eqEn = true ∧ q ≠ 4 ∧ (s.wqs.look q).eq = e ∧ (s.eqs.look e).st = .active ∧ (s.eqs.look e).writing = true ∧ (s.eqs.look e).held ≠ []

/-- The run's function is member `j` of a group that is FORMED, with no operation of its own in progress and the engine open (R151, R316, R537). -/
abbrev State.memberOf (s : State) (ctx g j : Nat) : Prop :=
  s.collOpen = true ∧ (s.grps.look g).st = 2 ∧ (s.grps.look g).destroyOp = none ∧ (s.grps.look g).dom = (s.runs.look ctx).dom ∧
  s.memIdx g (s.runs.look ctx).port (s.runs.look ctx).fn = some j ∧ ((s.grps.look g).mems.getD j default).op = none ∧ (s.grps.look g).slots = [] ∧
  (s.grps.look g).bufSegs ≥ 1

/-- A read that a run waits for has been issued (R92, R93). -/
abbrev State.awaits (s : State) (id ctx : Nat) (c : Client) : Prop :=
  (s.accs.look id).st = .issued ∧ (s.accs.look id).client = c ∧ (s.runs.look ctx).await = some id

/-- A register command set may carry out a command: the device is neither sealed nor halted, and no locked TDI watches (R447, R454, R512). -/
abbrev State.mayCommand (s : State) : Prop :=
  s.calm ∧ s.sealed = false ∧ s.halted = false ∧ (s.fns.keysOf fun h => h.tdi == .locked || h.tdi == .run) = []

/-- No queue command set is busy (R205). -/
abbrev State.setsIdle (s : State) (r : Nat) : Prop := r < 5 ∧ ∀ j : Nat, j < 5 → s.get (F.QUE_CMD_BUSY j) = 0

/-- A queue command set after a command that succeeded: its OP, INDEX and RESULT OK (R205). -/
def State.queDone (s : State) (r op index : Nat) : State :=
  (((s.put (F.QUE_CMD_OP r) op).put (F.QUE_CMD_INDEX r) index).put (F.QUE_CMD_BUSY r) 0).put (F.QUE_CMD_RESULT r) 0

/-- A message on a vector goes out: the port's link is up and the vector enabled and unmasked (R36). -/
abbrev State.vectorOpen (s : State) (port fn vec : Nat) : Prop :=
  (s.ports.look port).up = true ∧ s.sealed = false ∧ (s.fnOf port fn).msixEn = true ∧ (s.fnOf port fn).bme = true ∧ vec ∈ (s.fnOf port fn).unmasked

/-- What a command has put out. -/
def State.newOuts (s t : State) : List Out := t.outs.take (t.outs.length - s.outs.length)

/-- An address space command set that is idle, no invalidation in progress, and no walk and no access either (R224, R238). -/
abbrev State.asIdle (s : State) (r : Nat) : Prop :=
  s.mayCommand ∧ r < 5 ∧ s.get (F.MMU_AS_CMD_BUSY r) = 0 ∧ s.get (F.MMU_INV_BUSY r) = 0 ∧ s.invals = [] ∧ s.walks = [] ∧ s.accs = []

/-- An address space command set after a command that succeeded. -/
def State.asDone (s : State) (r op : Nat) : State := ((s.put (F.MMU_AS_CMD_OP r) op).put (F.MMU_AS_CMD_BUSY r) 0).put (F.MMU_AS_CMD_RESULT r) 0

/-- An invalidation has begun: what its scope covers is gone from the TLB and the program cache (R224), and INVALIDATION_DONE waits for nothing. -/
def State.invBegun (s : State) (i : InvScope) (v : Inval) : State :=
  { s with
    tlb := s.tlb.filter fun e =>
      !i.covers e.2.pasid (e.2.page / pagesOf e.2.size * pagesOf e.2.size) (e.2.page / pagesOf e.2.size * pagesOf e.2.size + pagesOf e.2.size - 1)
    pcache := s.pcache.filter fun l => !i.covers l.1 (l.2.1 / 4096) (l.2.1 / 4096)
    invals := s.invals.put s.nextId { v with live := true }
    nextId := s.nextId + 1 }

/-- A match context command set that is idle and names context `c` (R269). -/
abbrev State.ctxIdle (s : State) (r c : Nat) : Prop :=
  s.mayCommand ∧ r < 5 ∧ s.get (F.MAT_CTX_CMD_BUSY r) = 0 ∧ s.get (F.MAT_CTX_CMD_CONTEXT r) = c

/-- A request packet that reaches an engine (R393): its endpoint entry names this router and `port`, it is young and intact, its tag verifies under its domain's
key, pair channel `k` is live in step with it and holds nothing, and the endpoint's port is up. -/
abbrev State.delivers (s : State) (p : Packet) (k port : Nat) : Prop :=
  okPacket p = true ∧ p.crcOk = true ∧ s.endpoint p.dstNode = some (s.self, port) ∧ s.quiet = false ∧ s.age p.birth ≤ s.lifetime ∧ (p.dstInc = 0 ∨ p.dstInc = s.inc) ∧
  k = pairKey port p.dstFunc p.srcNode p.srcFunc p.chan ∧ (s.prx.look k).live = true ∧ (s.prx.look k).srcInc = p.srcInc ∧ (s.prx.look k).port = port ∧
  (s.prx.look k).fn = p.dstFunc ∧ (s.prx.look k).node = p.srcNode ∧ (s.prx.look k).func = p.srcFunc ∧ (s.prx.look k).chan = p.chan ∧
  (s.prx.look k).expected = p.psn ∧ (s.prx.look k).taken = 0 ∧ (s.prx.look k).cur = none ∧ (s.prx.look k).held = [] ∧ (s.prx.look k).dups = [] ∧
  (s.prx.look k).refusing = none ∧ (s.key p.domain).isSome = true ∧ s.tagOk p = true ∧ s.pdHost port = 0 ∧ s.portUp port = true

/-- A pair channel at the target that holds no packet. -/
abbrev State.rxIdle (s : State) (k : Nat) : Prop := (s.prx.look k).cur = none ∧ (s.prx.look k).held = [] ∧ (s.prx.look k).dups = []

/-- An access of an engine has been issued as one read of the host at the address the TLB gives (R209, R218). -/
def State.asked (s : State) (c : Client) (pasid dom va n pa : Nat) : State :=
  { s with accs := s.accs.put s.nextId ⟨c, pasid, dom, .read, false, [], [(va, n)], [(pa, n)], [], .issued⟩, nextId := s.nextId + 1 }.out
    (.hostRead s.nextId (s.pas.look pasid).port (s.pas.look pasid).fn [(pa, n)])

/-- An access of an engine has written the host: posted, so that it is over at once (R559). -/
def State.wrote (s : State) (pasid pa n : Nat) (bs : List Byte) : State :=
  { s with accs := s.accs.del s.nextId, nextId := s.nextId + 1 }.out (.hostWrite (s.pas.look pasid).port (s.pas.look pasid).fn [(pa, n)] bs)

/-- A host port carries requests of the function an address space belongs to (R559). -/
abbrev State.hostOpen (s : State) (pasid : Nat) : Prop :=
  s.portUp (s.pas.look pasid).port = true ∧ (s.fnOf (s.pas.look pasid).port (s.pas.look pasid).fn).bme = true

/-- The device's own units have sent a control packet of a kind and PSN to an endpoint (R389, R343). -/
def State.sentCtl (t : State) (kind : CtlKind) (psn node func : Nat) : Bool :=
  (t.rin.look 64).any fun u => match u.body with | .ctl c => c.kind == kind && c.psn == psn && c.dstNode == node && c.dstFunc == func | _ => false

/-- The key of a packet has its entry `e` in the cache, and passes the checks of R277. -/
abbrev State.keyed (s : State) (p : Packet) (i : Nat) (e : KeyEnt) : Prop :=
  s.flag F.RMA_KTAB_CTRL_EN = true ∧ i < 2 ^ s.ktabLog2 ∧ (s.kcache.find? fun x => x.1 == i) = some (i, e) ∧ s.keyChecks e p = none

/-- A collective packet of group `g` that arrives next in order on edge `e` of a port: young, intact, of the group's domain and under its key (R315, R393, R410). -/
abbrev State.collDelivers (s : State) (port g : Nat) (p : Packet) (e : CEdge) : Prop :=
  okPacket p = true ∧ port < 64 ∧ p.op = .coll ∧ g = colGroup p ∧ p.crcOk = true ∧ s.quiet = false ∧ s.age p.birth ≤ s.lifetime ∧ (p.dstInc = 0 ∨ p.dstInc = s.inc) ∧
  (s.grps.look g).st ≠ 0 ∧ (s.grps.look g).destroyOp = none ∧ (s.grps.look g).dom = p.domain ∧ (s.grps.look g).edges = [e] ∧ e.port = port ∧ e.held = [] ∧
  p.psn = e.rxExp ∧ p.sealed.intact = true ∧ p.sealed.iv = colIv (s.peerOf port) s.self g e.up p.psn p.srcInc (s.birthStage p.birth) ∧
  (s.doms.look p.domain).cur = some p.sealed.key

/-- A control packet is taken: well formed, young, intact, for this incarnation and under a key of its domain (R389, R403, R406). -/
abbrev State.hears (s : State) (c : Ctl) (kind : CtlKind) : Prop :=
  okCtl c = true ∧ c.kind = kind ∧ c.chan < 2 ∧ s.quiet = false ∧ s.age c.birth ≤ s.lifetime ∧ (c.dstInc = 0 ∨ c.dstInc = s.inc) ∧ s.ctlOk c = true ∧ c.crcOk = true ∧
  (s.endpoint c.dstNode).isSome = true

/-- Its sender's router is known by the incarnation it gives (R407). -/
abbrev State.knows (s : State) (c : Ctl) : Prop := ((s.endpoint c.srcNode).all fun e => s.peerInc.look e.1 == c.srcInc) = true ∧ c.srcInc ≠ 0

/-- A control packet may go to an endpoint in a domain (R388, R408, R443). -/
abbrev State.answers (s : State) (node dom : Nat) : Prop :=
  s.quiet = false ∧ s.ctlSent = [] ∧ (s.endpoint node).isSome = true ∧ (s.key dom).isSome = true

/-- Operations that end disturb nothing: no channel has work, and nothing waits to be bound to one. -/
abbrev State.noChannelWork (s : State) : Prop := s.unbound = [] ∧ s.chans = []

/-- A request on a transport comes in session `n`, which is ready as given, and the device has its identity (R427, R429). -/
abbrev State.inSession (s : State) (t : Transport) (n : Nat) (ready : Bool) : Prop :=
  s.calm ∧ okTransport t = true ∧ 1 ≤ n ∧ n ≤ 32 ∧ s.spdmUp t = true ∧ s.sess.look n = ⟨true, viaCode t, ready⟩ ∧ s.flag F.SEC_STATUS_IDENTITY_OK = true

/-- The answer to a key operation: its code, the domain, RESULT, the domain's state and the fingerprints of its keys as they are now (R436). -/
def State.keySaid (s : State) (t : Transport) (op d res : Nat) : State :=
  s.spdmSay t 0x7E (leBytes op 1 ++ leBytes d 2 ++ leBytes res 1 ++ leBytes (s.domSt d).code 1 ++ wordBytes (keyPrint d (s.doms.look d).cur) ++
    wordBytes (keyPrint d (s.doms.look d).alt))

/-- A domain with other keys, and the number of keyed domains with it. -/
def State.rekeyed (s : State) (d : Nat) (f : Dom → Dom) : State := { s with doms := s.doms.upd d f }.domShow

/-- The state of a sealed device (R453): no key, no session, no ledger count, and no request. -/
abbrev State.isSealed (t : State) (cause : Nat) : Prop :=
  t.sealed = true ∧ t.get F.SEC_STATUS_SEAL_CAUSE = cause ∧ t.get F.FLT_STATUS_SEAL_N_LOW = 1 ∧ t.mode = 5 ∧ t.sess = [] ∧ t.secret = 0 ∧ t.fmKey = [] ∧
  (t.doms.all fun e => e.2.cur.isNone && e.2.alt.isNone && e.2.acc.isEmpty && e.2.led.isEmpty) = true ∧ t.modeReq = none ∧ t.commitReq = false ∧ t.snap = none ∧ t.ledDue = none

/-- Nothing is in the fabric or the engines that a halt or a seal has to stop. -/
abbrev State.quietFabric (s : State) : Prop := s.vacant ∧ s.grps = [] ∧ s.cvys = [] ∧ s.ops = []

/-- A port's training stands at a step, as every lane of it shows (R462). -/
abbrev State.trainsAt (s : State) (p n : Nat) : Prop := ∀ j, j < 4 → s.get (F.LAN_STATUS_TRAIN_STEP (4 * p + j)) = n

/-- A cage in a state with its gates off (R477). -/
def State.cageAt (s : State) (n st : Nat) : State := ((s.put (F.CPW_STATUS_STATE n) st).put (F.CPW_STATUS_FEED n) 0).put (F.CPW_STATUS_PG n) 0

/-- A cage is qualifying the feed selected, its gates off (R478, R482). -/
def State.qualifying (s : State) (n : Nat) (retry : Bool) : State := { s.cageAt n 2 with cages := s.cages.upd n fun c => { c with retry := retry, feed := s.selected n } }

/-- A cage has tripped with a cause after `ms` milliseconds: it waits before it is tried again (R482). -/
abbrev State.tripped (s t : State) (n cause ms : Nat) : Prop :=
  t.get (F.CPW_STATUS_CAUSE n) = cause ∧ t.get (F.CPW_LAST_ON_LAST_ON_MS n) = min ms (2 ^ 32 - 1) ∧ t.get (F.CPW_COUNT_TRIPS n) = satAdd 32 (s.get (F.CPW_COUNT_TRIPS n)) 1 ∧
  t.get (F.CPW_STATUS_WAIT_MS n) = min 60000 (max 1000 (64 * min ms (2 ^ 32 - 1))) ∧ t.cage n = 6 ∧ t.get (F.CPW_STATUS_FEED n) = 0 ∧ t.get (F.CPW_STATUS_PG n) = 0 ∧
  t.get (F.MOD_STATUS_STATE n) = 0 ∧ t.flag (fltPend 0x104) = true

/-- Nothing is deferred and nothing waits, whatever the mode and whatever holds the device. -/
abbrev State.still (s : State) : Prop := s.work = [] ∧ s.pdOver = [] ∧ s.roomQ = [] ∧ s.active = [] ∧ s.revoking = []

/-- A lock's record once an owner holds it (R488, R489). -/
def heldBy (w : Owner) (l : HLock) : HLock := { (default : HLock) with owner := some w, waiters := l.waiters }

/-- The device halts (R512): in Degraded with HALTED set, from the mode it was in, and the source is pending. -/
abbrev State.haltedBy (t : State) (src from' : Nat) : Prop := t.halted = true ∧ t.mode = 4 ∧ t.get F.DEV_MODE_RETURN = from' ∧ t.flag (fltPend src) = true

/-- All that a reset leaves (R541, R542): the state of reset, but for the record of faults, the cages and rails, which the supervisor die keeps, and the registers. -/
abbrev State.resetBy (s t : State) (h : Hold) : Prop :=
  t = { State.reset with
    regs := t.regs, hist := t.hist, first := t.first, stageSeen := t.stageSeen, cages := s.cages, railBad := s.railBad, fltIrq := t.fltIrq, nextId := s.nextId
    freeCtr := s.freeCtr, outs := t.outs, pending := s.pending, hold := h } ∧
  t.mode = 0 ∧ ∀ n, n < 32 → t.reg (0x80000 + 64 * n) = s.reg (0x80000 + 64 * n) ∧ t.reg (0x80020 + 64 * n) = s.reg (0x80020 + 64 * n)

end Sys2Proof.Machine
end

