-- ==== Sys2Proof/Certificates/Slice0/Obligations.lean ====
section
/-!
DEFINITION. Obligations for the provers. `s.gives c u` says that command `c` completes on `s` and that the next state is `u` in every field and register; the
completion statements use it, so that each is also the frame of its commands.
-/
open Sys2Proof Sys2Proof.Machine

/-! ### The block as a whole -/

/-- A step carries out the command at the front of the queue on the state with the queue's rest. -/
def Obligations.StepTakesFront : Prop :=
  ∀ (s : State) (c : Instr) (rest : List Instr), s.pending = c :: rest → step s = exec c { s with pending := rest }

/-- The model's choice (log entry 12): on an empty queue a step passes 1/1,024 of a stage, up to the last one before the boundary, and changes nothing else; while
the device is held it changes nothing. -/
def Obligations.IdleStep : Prop :=
  ∀ s : State, s.pending = [] →
    (s.hold = .none → step s = .next (s.put F.STG_NOW_FRAC (min (s.frac + 1) 1023))) ∧ (s.hold ≠ .none → step s = .next s)

/-- Every command whose operands name existing instances completes, whatever the state; any other is the fault noSuchInstance. -/
def Obligations.WellFormedCommandsComplete : Prop :=
  ∀ (c : Instr) (s : State), (wellFormed c = true → ∃ t, exec c s = .next t) ∧ (wellFormed c = false → exec c s = .fault .noSuchInstance)

/-- The state after reset is in order: nothing is left over, and the collector's summary and DEV_BRINGUP.SYNC stand as R517 and R529 say. -/
def Obligations.ResetInOrder : Prop :=
  State.reset.inOrder

/-- Every step that answers a next state leaves it in order: FLT_STATUS.ANY, PENDING_MAX and ERR_N_LOW follow the pending bits (R517), DEV_BRINGUP.SYNC tells
whether sync counts as acquired (R54, R529), and no happening is left over. A step on an empty queue keeps a state in order. -/
def Obligations.StepsKeepOrder : Prop :=
  ∀ s t : State, (s.pending = [] → s.inOrder) → step s = .next t → t.inOrder

/-! ### Stages and clocks (spec/03) -/

/-- References: a judged failure of the selected reference clears its qualification and count and takes the other one if it is qualified (R62, R64), source 0x004; a
reference qualifies, and in holdover is taken (R63, R65); the core PLL locks again; REVERT takes reference A back (R64). -/
def Obligations.ReferenceSelection : Prop :=
  ∀ (s : State), s.calm →
    (∀ r : RefObs, r.aFails = true → r.bFails = false → s.get F.CLK_STATUS_REF_SEL = 0 → s.get F.CLK_STATUS_HOLDOVER = 0 → s.get F.CLK_STATUS_B_QUAL = 1 →
      s.givesFault (.refclkFail r)
        ((((s.put F.CLK_STATUS_A_FAIL 1).put F.CLK_STATUS_A_QUAL 0).put F.CLK_QUAL_A_CYCLES 0).put F.CLK_STATUS_REF_SEL 1) 0x004) ∧
    (∀ r : RefObs, r.aFails = false → r.bFails = true → s.get F.CLK_REF_CTRL_B_PRESENT = 1 → s.get F.CLK_STATUS_REF_SEL = 0 →
      s.gives (.refclkFail r) (((s.put F.CLK_STATUS_B_FAIL 1).put F.CLK_STATUS_B_QUAL 0).put F.CLK_QUAL_B_CYCLES 0)) ∧
    (s.get F.CLK_STATUS_HOLDOVER = 0 →
      s.gives (.refclkQualified false)
        (((s.put F.CLK_STATUS_A_FAIL 0).put F.CLK_STATUS_A_QUAL 1).put F.CLK_QUAL_A_CYCLES (max (s.get F.CLK_QUAL_A_CYCLES) 4100))) ∧
    (s.get F.CLK_STATUS_HOLDOVER = 1 → s.get F.CLK_REF_CTRL_B_PRESENT = 1 →
      s.gives (.refclkQualified true)
        ((((((s.put F.CLK_STATUS_B_FAIL 0).put F.CLK_STATUS_B_QUAL 1).put F.CLK_QUAL_B_CYCLES (max (s.get F.CLK_QUAL_B_CYCLES) 4100)).put
          F.CLK_STATUS_HOLDOVER 0).put F.CLK_STATUS_REF_SEL 1).put F.CLK_STATUS_TB_LOCK 1)) ∧
    (s.get F.CLK_STATUS_COAST = 1 → s.get F.CLK_STATUS_HOLDOVER = 0 →
      s.gives .corePllRelock ((s.put F.CLK_STATUS_COAST 0).put F.CLK_STATUS_CORE_LOCK 1)) ∧
    (∀ o : Origin, s.mayWrite o 0x20008 → s.get F.CLK_STATUS_A_QUAL = 1 → s.get F.CLK_STATUS_REF_SEL = 1 →
      s.givesFault (.revert o) (s.put F.CLK_STATUS_REF_SEL 0) 0x004)

/-- Losses of lock (R67): the timebase or core PLL halts the device, sources 0x007 and 0x008; the module management PLL is source 0x009 and takes the device to
Degraded (R527); it locks again (R464). A host reference that has not qualified yet only loses HOSTREF_OK; one that has fences its port, source 0x00A; a good
one sets HOSTREF_OK and qualifies the port (R540). -/
def Obligations.LocksAndHostReferences : Prop :=
  ∀ (s : State), s.calm →
    (s.vacant → s.mode = 2 → s.get F.CLK_STATUS_TB_LOCK = 1 → s.get F.CLK_STATUS_REF_SEL = 0 → s.get F.CLK_STATUS_A_QUAL = 1 → s.get F.CLK_STATUS_HOLDOVER = 0 →
      s.completes .tbPllUnlock fun t =>
        t.get F.CLK_STATUS_TB_LOCK = 0 ∧ t.halted = true ∧ t.mode = 4 ∧ t.get F.DEV_MODE_RETURN = 2 ∧ t.flag (fltPend 0x007) = true) ∧
    (s.vacant → s.mode = 2 → s.get F.CLK_STATUS_TB_LOCK = 1 → s.get F.CLK_STATUS_CORE_LOCK = 1 →
      s.completes .corePllUnlock fun t =>
        t.get F.CLK_STATUS_CORE_LOCK = 0 ∧ t.halted = true ∧ t.mode = 4 ∧ t.get F.DEV_MODE_RETURN = 2 ∧ t.flag (fltPend 0x008) = true) ∧
    (s.sealed = false → s.halted = false → s.mode = 2 → s.get F.CLK_STATUS_MGMT_LOCK = 1 →
      s.completes .mgmtPllUnlock fun t =>
        t.get F.CLK_STATUS_MGMT_LOCK = 0 ∧ t.mode = 4 ∧ t.get F.DEV_MODE_RETURN = 2 ∧ t.flag (fltPend 0x009) = true) ∧
    (s.get F.CLK_STATUS_MGMT_LOCK = 0 → s.cmisQ = [] → (∀ n : Nat, n < 32 → s.get (F.CPW_STATUS_PG n) = 0) →
      s.gives .mgmtPllLock (s.put F.CLK_STATUS_MGMT_LOCK 1)) ∧
    (∀ p : Nat, p < 4 → (s.get F.CLK_STATUS_HOSTREF_OK).testBit p = true → s.pdHost p ≠ 2 → (s.ports.look p).refQualified = false →
      s.gives (.hostrefFail p) (s.put F.CLK_STATUS_HOSTREF_OK (s.get F.CLK_STATUS_HOSTREF_OK - 2 ^ p))) ∧
    (∀ p : Nat, p < 4 → s.vacant → s.mode = 2 → (s.get F.CLK_STATUS_HOSTREF_OK).testBit p = true → s.pdHost p ≠ 2 → (s.ports.look p).refQualified = true →
      s.completes (.hostrefFail p) fun t => (t.ports.look p).fenced = true ∧ t.mode = 4 ∧ t.flag (fltPend 0x00A) = true) ∧
    (∀ p : Nat, p < 4 → s.pdHost p ≠ 2 →
      s.gives (.hostrefOk p)
        { s.put F.CLK_STATUS_HOSTREF_OK (s.get F.CLK_STATUS_HOSTREF_OK ||| 2 ^ p) with ports := s.ports.upd p fun h => { h with refQualified := true } })

/-- CLKOUT and the frequency meter (R71, R72): a changed output is held low until its hold ends, then it starts as its EN says; START counts from the next boundary
over the window, and the count is delivered when the window has passed. -/
def Obligations.ClockOutputsAndMeter : Prop :=
  ∀ (s : State), s.calm →
    (∀ (o : Origin) (n : Nat) (v : Word), n < 2 → s.mayWrite o (0x20020 + 8 * n) → s.reg (0x20020 + 8 * n) ≠ v &&& 7 → n ∉ s.clkHold →
      s.gives (.clkoutConfigWrite o n v)
        { (s.setReg (0x20020 + 8 * n) (v &&& 7)).out (.pin (clkoutPin n) false) with clkHold := n :: s.clkHold }) ∧
    (∀ n : Nat, n < 2 → n ∈ s.clkHold →
      s.gives (.clkoutHoldEnd n) { s.out (.pin (clkoutPin n) (s.get (F.CLK_CLKOUT_EN n) != 0)) with clkHold := s.clkHold.erase n }) ∧
    (∀ (o : Origin) (v : Word), s.mayWrite o 0x20030 → s.get F.CLK_FMETER_CTRL_BUSY = 0 → s.get F.CLK_STATUS_MGMT_LOCK = 1 → s.flag (fltPend 0x009) = false →
      s.completes (.fmeterStart o v) fun t =>
        t.get F.CLK_FMETER_CTRL_BUSY = 1 ∧ t.get F.CLK_FMETER_RESULT_VALID = 0 ∧ t.get F.CLK_FMETER_RESULT_DISTURBED = 0 ∧
        t.get F.CLK_FMETER_CTRL_WINDOW = wbits v 15 8 ∧ t.get F.CLK_FMETER_CTRL_SRC = wbits v 4 0 ∧ t.fmLeft = some (max (wbits v 15 8) 1 + 1)) ∧
    (∀ edges : Nat, s.fmLeft = some 0 → s.get F.CLK_FMETER_CTRL_SRC < 12 →
      s.gives (.fmeterDone edges)
        { ((s.put F.CLK_FMETER_RESULT_COUNT edges).put F.CLK_FMETER_RESULT_VALID 1).put F.CLK_FMETER_CTRL_BUSY 0 with fmLeft := none })

/-- Time sync (R52, R53, R56) and the stage boundary's own values (R9, R50, R51): a frame of the parent is recorded with its grandmaster; LOST and SYNC_LOST on a
missed limit; a pending stage-latched value takes effect at the commit and not before; a period change takes effect when its stage has come; the boundary begins
the next stage. -/
def Obligations.StagesAndSync : Prop :=
    (∀ (s : State) (p : Nat) (u : TimeSync) (a : Nat), s.calm → okPort p = true → okSync u = true → s.linkOpen p = true → s.parentIs p = true → u.crcOk = true →
    s.completes (.timeSyncReceive p u a) fun t =>
      t.sync.missed = 0 ∧ t.sync.pStage = u.stage ∧ t.sync.pTx = u.txTime ∧ t.sync.pCode = u.period ∧ t.syncRx.look p = a ∧
      t.get F.STG_SYNC_STATUS_GM_ROUTER = u.gmRouter) ∧
    (∀ s : State, s.calm → s.cvys = [] → s.sealed = false → s.halted = false → s.mode = 2 → s.get F.STG_SYNC_STATUS_STATE = 2 → s.sync.badOff ≥ 2 →
    s.completes (.syncLost .offset) fun t => t.get F.STG_SYNC_STATUS_STATE = 3 ∧ t.mode = 4 ∧ t.get F.DEV_MODE_RETURN = 2 ∧ t.flag (fltPend 0x003) = true) ∧
    (∀ (s : State) (off : Nat) (v m : Word), s.calm → s.ops = [] → s.tolls = [] → s.smask = [(off, m)] → s.spend.look off = v → off ≠ 0x28010 → off ≠ 0x28018 →
    ¬(0x51000 ≤ off ∧ off < 0x51800) →
    s.gives .sFieldCommit { s.setReg off ((s.reg off &&& ~~~m) ||| (v &&& m)) with spend := [], smask := [] }) ∧
    (∀ s : State, s.calm → s.get F.STG_PERIOD_NEXT_ARM = 1 → s.get F.STG_PERIOD_NEXT_AT_STAGE ≤ s.now → s.fmLeft = none → s.bwLeft = none →
    s.gives .periodChange ((s.put F.STG_PERIOD_CODE (s.get F.STG_PERIOD_NEXT_CODE)).put F.STG_PERIOD_NEXT_ARM 0)) ∧
    (∀ (s : State) (rest : List Instr) (now : Nat), s = { State.reset with pending := rest } →
    s.completes (.stageBoundary ⟨now, []⟩) fun t =>
      t.now = 1 ∧ t.frac = 0 ∧ t.tb = now ∧ t.firstBnd = true ∧ t.pending = rest)

/-! ### Registers (spec/02) -/

/-- Register writes (R7 to R10, R45, R46): a live RW field takes the value at once and reserved bits are ignored (DEV_TEMP_CTRL); a stage-latched field waits for
the boundary (DEV_DRAIN_CTRL); a read-only register is not changed (DEV_AUTH); a Q field takes effect in Bring-up, and elsewhere a write that changes it is
dropped whole, source 0x001 (SEC_POLICY); a write of another size or alignment is dropped, source 0x002; a write that is not let through changes nothing. -/
def Obligations.RegisterWrites : Prop :=
  ∀ (s : State) (o : Origin) (v : Word), s.calm →
    (s.mayWrite o 0x10308 → s.gives (.registerWrite o 0x10308 8 v) (s.setReg 0x10308 ((s.reg 0x10308 &&& ~~~0xFFFF) ||| (v &&& 0xFFFF)))) ∧
    (s.mayWrite o 0x10020 →
      s.gives (.registerWrite o 0x10020 8 v) { s with spend := Tab.put [] 0x10020 (v &&& 0xFFFF), smask := [(0x10020, 0xFFFF)] }) ∧
    (s.mayWrite o 0x10200 → s.gives (.registerWrite o 0x10200 8 v) s) ∧
    (s.mayWrite o 0x60008 → s.mode = 1 → s.gives (.registerWrite o 0x60008 8 v) (s.setReg 0x60008 ((s.reg 0x60008 &&& ~~~7) ||| (v &&& 7)))) ∧
    (s.mayWrite o 0x60008 → s.mode = 2 → v &&& 7 ≠ s.reg 0x60008 &&& 7 → s.get F.DEV_CFG_DROP_VALID = 0 →
      s.givesFault (.registerWrite o 0x60008 8 v) (((s.put F.DEV_CFG_DROP_VALID 1).put F.DEV_CFG_DROP_FIRST_ADDR 0x60008).put F.DEV_CFG_DROP_COUNT 1) 0x001) ∧
    (∀ off size : Nat, off < 2 ^ 26 → okOrigin o = true → sizeOk off size = false → s.regOpen o off true = true → s.givesFault (.registerWrite o off size v) s 0x002) ∧
    (∀ off size : Nat, off < 2 ^ 26 → okOrigin o = true → s.regOpen o off true = false → s.gives (.registerWrite o off size v) s)

/-- Register reads (R5, R7, R45): a read answers the word in force, of which reserved bits read zero (DEV_TEMP_CTRL), a 32-bit read the addressed half; a read that
covers an RC count whole answers and clears it, a read of the other half leaves it (DEV_PD_DRAIN); a pending stage-latched value is read in place of the
committed one (R9). -/
def Obligations.RegisterReads : Prop :=
  ∀ (s : State) (o : Origin), s.calm → notVf o = true → okOrigin o = true →
    (s.regOpen o 0x10308 false = true → s.spend = [] → s.smask = [] → s.gives (.rcRead o 0x10308 8) (s.out (.regData o 0x10308 (s.reg 0x10308)))) ∧
    (s.regOpen o 0x1030C false = true → s.spend = [] → s.smask = [] → s.gives (.rcRead o 0x1030C 4) (s.out (.regData o 0x1030C (s.reg 0x10308 >>> 32)))) ∧
    (s.regOpen o 0x10058 false = true → s.spend = [] → s.smask = [] →
      s.gives (.rcRead o 0x10058 8) ((s.setReg 0x10058 (s.reg 0x10058 &&& ~~~0xFFFFFFFF00000000)).out (.regData o 0x10058 (s.reg 0x10058)))) ∧
    (s.regOpen o 0x10058 false = true → s.spend = [] → s.smask = [] →
      s.gives (.rcRead o 0x10058 4) (s.out (.regData o 0x10058 (s.reg 0x10058 &&& 0xFFFFFFFF)))) ∧
    (∀ v : Word, s.regOpen o 0x10020 false = true → s.smask = [(0x10020, 0xFFFF)] → s.spend.look 0x10020 = v → v &&& 0xFFFF = v →
      s.gives (.rcRead o 0x10020 8) (s.out (.regData o 0x10020 ((s.reg 0x10020 &&& ~~~0xFFFF) ||| v))))

/-! ### Instructions of Dexez (spec/04, spec/05) -/

/-- NOP is one step and nothing else; END ends the run OK (R104, R130). An unassigned opcode ends it ILLEGAL_INSTR before any effect (R122), a word beyond the
program's end too (R90), another instruction than END at the step limit STEP_LIMIT (R102), and a privileged one without authority PRIVILEGE (R118). -/
def Obligations.EndAndIllegal : Prop :=
  ∀ (s : State) (ctx : Nat) (i : Ins), s.unladen ctx → s.locks = [] →
    (s.due ctx i → i.opcode = 0x00 → s.gives (.nop ctx) (s.went ctx ((s.runs.look ctx).pc + 1) id)) ∧
    (s.due ctx i → i.opcode = 0x01 → s.gives (.progEnd ctx) (s.over ctx stOk)) ∧
    (s.fetched ctx i → unassigned i.opcode = true → s.gives (.unassignedOpcode ctx) (s.over ctx stIllegal)) ∧
    (s.calm → ctx ≤ 8192 → (s.runs.look ctx).st = .running → (s.runs.look ctx).await = none → (s.runs.look ctx).faults = [] →
      (s.runs.look ctx).prog.len ≤ (s.runs.look ctx).pc → s.gives (.nop ctx) (s.over ctx stIllegal)) ∧
    (s.calm → ctx ≤ 8192 → (s.runs.look ctx).st = .running → (s.runs.look ctx).await = none → (s.runs.look ctx).faults = [] →
      s.fetchAt (s.runs.look ctx) (s.runs.look ctx).pc = .word i.w → wbits i.w 63 56 = 0x06 → (s.runs.look ctx).steps = (s.runs.look ctx).limit →
      s.gives (.add ctx) (s.over ctx stStep)) ∧
    (s.fetched ctx i → i.opcode = 0x88 → s.authority ctx (s.runs.look ctx) = false → s.gives (.epset ctx) (s.over ctx stPriv))

/-- LDQ sets G[RD] to the word that follows it and the program counter advances by 2; LDI sets it to IMM32, sign-extended; the ALU instructions compute G[RD] :=
G[RA] op X, modulo 2^64. Each is one step, G0 discards the write (Run.setG), and nothing else changes. -/
def Obligations.RegisterInstructions : Prop :=
  ∀ (s : State) (ctx : Nat) (i : Ins), s.due ctx i →
    (i.opcode = 0x02 → s.gives (.ldq ctx) (s.went ctx ((s.runs.look ctx).pc + 2) fun r => r.setG i.rd i.w2)) ∧
    (i.opcode = 0x03 → s.gives (.ldi ctx) (s.went ctx ((s.runs.look ctx).pc + 1) fun r => r.setG i.rd ((BitVec.ofNat 32 i.imm).signExtend 64))) ∧
    (i.opcode = 0x06 → s.gives (.add ctx) (s.went ctx ((s.runs.look ctx).pc + 1) fun r => r.setG i.rd (r.rg i.ra + i.x r))) ∧
    (i.opcode = 0x07 → s.gives (.sub ctx) (s.went ctx ((s.runs.look ctx).pc + 1) fun r => r.setG i.rd (r.rg i.ra - i.x r))) ∧
    (i.opcode = 0x08 → s.gives (.and ctx) (s.went ctx ((s.runs.look ctx).pc + 1) fun r => r.setG i.rd (r.rg i.ra &&& i.x r))) ∧
    (i.opcode = 0x09 → s.gives (.or ctx) (s.went ctx ((s.runs.look ctx).pc + 1) fun r => r.setG i.rd (r.rg i.ra ||| i.x r))) ∧
    (i.opcode = 0x0A → s.gives (.xor ctx) (s.went ctx ((s.runs.look ctx).pc + 1) fun r => r.setG i.rd (r.rg i.ra ^^^ i.x r))) ∧
    (i.opcode = 0x0B → s.gives (.shl ctx)
      (s.went ctx ((s.runs.look ctx).pc + 1) fun r => r.setG i.rd (BitVec.ofNat 64 ((r.rg i.ra).toNat * 2 ^ ((i.x r).toNat % 64))))) ∧
    (i.opcode = 0x0C → s.gives (.shr ctx)
      (s.went ctx ((s.runs.look ctx).pc + 1) fun r => r.setG i.rd (BitVec.ofNat 64 ((r.rg i.ra).toNat / 2 ^ ((i.x r).toNat % 64))))) ∧
    (i.opcode = 0x0D → s.gives (.mov ctx) (s.went ctx ((s.runs.look ctx).pc + 1) fun r => r.setG i.rd (r.rg i.ra)))

/-- A taken branch sets the program counter to IMM32[15:0], an untaken one advances it by 1 (R134, R135). BRC compares G[RA] with G[RB], unsigned or in two's
complement; BRS tests G15[7:0] against the code in IMM32[23:16]. No register changes. -/
def Obligations.Branches : Prop :=
  ∀ (s : State) (ctx : Nat) (i : Ins), s.due ctx i →
    (i.opcode = 0x10 → s.gives (.br ctx) (s.went ctx (i.imm % 65536) id)) ∧
    (i.opcode = 0x11 →
      s.gives (.brc ctx) (s.went ctx
        (if (match i.opf with
          | 0 => decide ((s.runs.look ctx).rg i.ra = (s.runs.look ctx).rg i.rb)
          | 1 => decide ((s.runs.look ctx).rg i.ra ≠ (s.runs.look ctx).rg i.rb)
          | 2 => decide (((s.runs.look ctx).rg i.ra).toNat < ((s.runs.look ctx).rg i.rb).toNat)
          | 3 => decide (((s.runs.look ctx).rg i.ra).toNat ≥ ((s.runs.look ctx).rg i.rb).toNat)
          | 4 => decide (((s.runs.look ctx).rg i.ra).toInt < ((s.runs.look ctx).rg i.rb).toInt)
          | _ => decide (((s.runs.look ctx).rg i.ra).toInt ≥ ((s.runs.look ctx).rg i.rb).toInt)) = true
        then i.imm % 65536 else (s.runs.look ctx).pc + 1) id)) ∧
    (i.opcode = 0x12 →
      s.gives (.brs ctx) (s.went ctx
        (if (match i.opf with
          | 0 => decide (wbits ((s.runs.look ctx).rg 15) 7 0 = i.imm / 65536 % 256)
          | 1 => decide (wbits ((s.runs.look ctx).rg 15) 7 0 ≠ i.imm / 65536 % 256)
          | _ => decide (wbits ((s.runs.look ctx).rg 15) 7 0 ≠ stOk)) = true
        then i.imm % 65536 else (s.runs.look ctx).pc + 1) id))

/-- LD and ST address parameter word G[RA] + IMM32 (R132): in a message's block, on chip, LD sets G[RD] and ST writes the word (R119); in host memory LD blocks on
an 8-byte read and ST posts an 8-byte write of the address space (R93). An index at or beyond the block's length ends the run BOUNDS. -/
def Obligations.ParameterAccess : Prop :=
  ∀ (s : State) (ctx : Nat) (i : Ins), s.due ctx i →
    (∀ ws : List Word, i.opcode = 0x04 → (s.runs.look ctx).params = .msg ws → ((s.runs.look ctx).rg i.ra).toNat + i.imm < ws.length →
      s.gives (.ld ctx) (s.went ctx ((s.runs.look ctx).pc + 1) fun r => r.setG i.rd (ws.getD ((r.rg i.ra).toNat + i.imm) 0))) ∧
    (∀ ws : List Word, i.opcode = 0x05 → (s.runs.look ctx).params = .msg ws → ((s.runs.look ctx).rg i.ra).toNat + i.imm < ws.length →
      s.gives (.st ctx) (s.went ctx ((s.runs.look ctx).pc + 1) fun r => { r with params := .msg (ws.set ((r.rg i.ra).toNat + i.imm) (r.rg i.rb)) })) ∧
    (∀ ptr words pa : Nat, i.opcode = 0x04 → (s.runs.look ctx).params = .host ptr words → ((s.runs.look ctx).rg i.ra).toNat + i.imm < words →
      s.maps ((s.runs.look ctx).pasid.getD 0) (s.runs.look ctx).dom .read (ptr + (((s.runs.look ctx).rg i.ra).toNat + i.imm) * 8) 8 pa →
      s.completes (.ld ctx) fun t =>
        (.hostRead s.nextId (s.pas.look ((s.runs.look ctx).pasid.getD 0)).port (s.pas.look ((s.runs.look ctx).pasid.getD 0)).fn [(pa, 8)]) ∈ s.newOuts t ∧
        (t.runs.look ctx).st = .blocked ∧ (t.runs.look ctx).block = .ld i.rd ∧ (t.runs.look ctx).await = some s.nextId ∧
        (t.runs.look ctx).pc = (s.runs.look ctx).pc ∧ (t.runs.look ctx).g = (s.runs.look ctx).g) ∧
    (∀ ptr words pa : Nat, i.opcode = 0x05 → (s.runs.look ctx).params = .host ptr words → ((s.runs.look ctx).rg i.ra).toNat + i.imm < words →
      s.maps ((s.runs.look ctx).pasid.getD 0) (s.runs.look ctx).dom .write (ptr + (((s.runs.look ctx).rg i.ra).toNat + i.imm) * 8) 8 pa →
      s.portUp (s.pas.look ((s.runs.look ctx).pasid.getD 0)).port = true →
      (s.fnOf (s.pas.look ((s.runs.look ctx).pasid.getD 0)).port (s.pas.look ((s.runs.look ctx).pasid.getD 0)).fn).bme = true →
      s.completes (.st ctx) fun t =>
        .hostWrite (s.pas.look ((s.runs.look ctx).pasid.getD 0)).port (s.pas.look ((s.runs.look ctx).pasid.getD 0)).fn [(pa, 8)]
          (leBytes ((s.runs.look ctx).rg i.rb).toNat 8) ∈ s.newOuts t ∧
        (t.runs.look ctx).st = .running ∧ (t.runs.look ctx).pc = (s.runs.look ctx).pc + 1 ∧ (t.runs.look ctx).steps = (s.runs.look ctx).steps + 1 ∧
        (t.runs.look ctx).g = (s.runs.look ctx).g) ∧
    (∀ ws : List Word, i.opcode = 0x04 → s.unladen ctx → s.locks = [] → (s.runs.look ctx).params = .msg ws →
      ws.length ≤ ((s.runs.look ctx).rg i.ra).toNat + i.imm →
      s.gives (.ld ctx) (s.over ctx stBounds))

/-- G0 reads zero and a write of it changes nothing; a write of another general register of a run that is not parked is read back from it, and leaves every other
register and the rest of the run alone (R79). -/
def Obligations.GeneralRegisters : Prop :=
  ∀ (r : Run) (a b : Nat) (v : Word), r.rg 0 = 0 ∧ r.setG 0 v = r ∧
    (r.st ≠ .parked → a ≠ 0 → (r.setG a v).rg a = v ∧ (r.setG a v) = { r with g := (r.setG a v).g } ∧ (a ≠ b → (r.setG a v).rg b = r.rg b))

/-- A WAIT whose counter has reached its target goes on with G15 OK; one that has not leaves its run WAITING for the counter, the target and the stage of its
timeout (R100, R148). SIGNAL adds 1 or G[RA] to a counter of the run's domain modulo 2^64, CSET sets it (R149); another domain's counter is left, status RIGHTS
(R203). FENCE with nothing outstanding goes on (R150). Each advances the program counter and counts one step and one operation. -/
def Obligations.CounterInstructions : Prop :=
  ∀ (s : State) (ctx : Nat) (i : Ins), s.due ctx i → s.unladen ctx →
    (i.opcode = 0x40 → (s.ctrs.look (i.imm % 65536)).dom = some (s.runs.look ctx).dom →
      (if i.opf % 2 = 1 then i.imm / 65536 else ((s.runs.look ctx).rg i.ra).toNat) ≤ (s.ctrs.look (i.imm % 65536)).val.toNat →
      s.gives (.wait ctx) (s.wentOp ctx i stOk none 0)) ∧
    (∀ target wait : Nat, i.opcode = 0x40 → (s.ctrs.look (i.imm % 65536)).dom = some (s.runs.look ctx).dom →
      target = (if i.opf % 2 = 1 then i.imm / 65536 else ((s.runs.look ctx).rg i.ra).toNat) → (s.ctrs.look (i.imm % 65536)).val.toNat < target →
      wait = wbits ((s.runs.look ctx).rg i.rb) 31 0 →
      s.gives (.wait ctx) ((s.accepted ctx 0 i { mkOp (s.runs.look ctx) i .ctr with
          arg := i.imm % 65536, x := { (default : Xfer) with operand := BitVec.ofNat 64 target }, due := if wait = 0 then 0 else wait + 1 }).updRun ctx fun r =>
        { r with st := .waiting, waitOn := some (i.imm % 65536, target, if wait = 0 then 0 else s.now + wait) })) ∧
    (i.opcode = 0x41 → (s.ctrs.look (i.imm % 65536)).dom = some (s.runs.look ctx).dom → s.unwaited (i.imm % 65536) →
      s.gives (.signal ctx) { s.wentOp ctx i stOk none 0 with
        ctrs := s.ctrs.upd (i.imm % 65536) fun v => { v with val := v.val + if i.opf % 2 = 1 then (s.runs.look ctx).rg i.ra else 1 } }) ∧
    (i.opcode = 0x42 → (s.ctrs.look (i.imm % 65536)).dom = some (s.runs.look ctx).dom → s.unwaited (i.imm % 65536) →
      s.gives (.cset ctx) { s.wentOp ctx i stOk none 0 with ctrs := s.ctrs.upd (i.imm % 65536) fun v => { v with val := (s.runs.look ctx).rg i.ra } }) ∧
    (i.opcode = 0x42 → (s.ctrs.look (i.imm % 65536)).dom ≠ some (s.runs.look ctx).dom → s.gives (.cset ctx) (s.wentOp ctx i stRights none 0)) ∧
    (i.opcode = 0x43 → s.gives (.fence ctx) (s.wentOp ctx i stOk none 0))

/-- LOCK on a free lock acquires it for the run's queue: RD is 0, G15 OK or LOCK_ABANDONED as its mark said, and the run goes on READY (R155, R488). UNLOCK of a
lock its queue holds frees it, or leaves it reserved for the candidate (R157, R490); another's is left, status RIGHTS. EVENT and TRAP queue an event of type 4
or 5 with the word G[RA], 32 bits of G[RB] or IMM32, the run's entry index and program counter; EVENT and a blocking run's TRAP wait for it to be visible (R158,
R159, R195). -/
def Obligations.LocksAndEventsOfRuns : Prop :=
  ∀ (s : State) (ctx : Nat) (i : Ins), s.due ctx i → s.unladen ctx →
    (s.unbound = [] → s.chans = [] → i.opcode = 0x60 → (s.locks.look (i.imm % 64)).owner = none →
      ((s.locks.look (i.imm % 64)).resv = none ∨ (s.locks.look (i.imm % 64)).resv = some (s.runOwner ctx)) →
      s.completes (.lock ctx) fun t =>
        (t.locks.look (i.imm % 64)).owner = some (s.runOwner ctx) ∧ (t.locks.look (i.imm % 64)).run = some ctx ∧ (t.locks.look (i.imm % 64)).aband = false ∧
        (t.locks.look (i.imm % 64)).resv = none ∧ (t.runs.look ctx).st = .ready ∧ (t.runs.look ctx).pc = (s.runs.look ctx).pc + 1 ∧
        (t.runs.look ctx).rg 15 = g15 (if (s.locks.look (i.imm % 64)).aband then stLockAband else stOk) 0x60 0 ∧
        (i.rd ≠ 15 → (t.runs.look ctx).rg i.rd = 0)) ∧
    (i.opcode = 0x61 → (s.locks.look (i.imm % 64)).owner = some (s.runOwner ctx) → s.lockWaiters (i.imm % 64) = [] →
      s.completes (.unlock ctx) fun t =>
        (t.locks.look (i.imm % 64)).owner = none ∧ (t.locks.look (i.imm % 64)).run = none ∧ (t.locks.look (i.imm % 64)).aband = false ∧
        (t.locks.look (i.imm % 64)).resv = (if (s.locks.look (i.imm % 64)).waiting then some (s.locks.look (i.imm % 64)).cand else none) ∧
        (t.runs.look ctx).st = .running ∧ (t.runs.look ctx).pc = (s.runs.look ctx).pc + 1 ∧ (t.runs.look ctx).rg 15 = g15 stOk 0x61 0) ∧
    (i.opcode = 0x61 → (s.locks.look (i.imm % 64)).owner ≠ some (s.runOwner ctx) → s.gives (.unlock ctx) (s.wentOp ctx i stRights none 0)) ∧
    (∀ (e : Nat) (ev : Ev), s.eventsTo (s.runs.look ctx).wq e → i.opcode = 0x70 →
      ev = ⟨packW [(0, 4), (8, stOk), (16, 0x70), (32, (s.runs.look ctx).wq % 65536), (48, (s.runs.look ctx).pc % 4096)],
        packW [(0, wbits ((s.runs.look ctx).rg i.rb) 31 0), (32, (s.runs.look ctx).idx % 2 ^ 32)], (s.runs.look ctx).rg i.ra, s.timeWord, .op (ctx * 64)⟩ →
      s.completes (.event ctx) fun t =>
        (t.eqs.look e).held = (s.eqs.look e).held ++ [ev] ∧ (t.runs.look ctx).st = (if i.nb then .running else .blocked) ∧
        (t.runs.look ctx).steps = (s.runs.look ctx).steps + 1) ∧
    (∀ (e : Nat) (ev : Ev), s.eventsTo (s.runs.look ctx).wq e → i.opcode = 0x71 →
      ev = ⟨packW [(0, 5), (8, stOk), (16, 0x71), (32, (s.runs.look ctx).wq % 65536), (48, (s.runs.look ctx).pc % 4096)],
        packW [(0, min i.imm (2 ^ 32 - 1)), (32, (s.runs.look ctx).idx % 2 ^ 32)], (s.runs.look ctx).rg i.ra, s.timeWord, .op (ctx * 64)⟩ →
      s.completes (.trap ctx) fun t =>
        (t.eqs.look e).held = (s.eqs.look e).held ++ [ev] ∧ (t.runs.look ctx).st = .blocked ∧ (t.runs.look ctx).steps = (s.runs.look ctx).steps + 1)

/-- A remote operation that passes R125's checks is accepted: it takes a slot, is bound to a channel of the bulk mover behind none, and holds the target's node,
function and channel, the key, offset, local address or job range, length, elements and operands that its descriptor and registers name (R124, R136 to R145). A
blocking one blocks its run, a non-blocking one writes G15 OK (R82, R96). With the pair channel at its limit of unacknowledged packets it sends nothing yet
(R391). -/
def Obligations.RemoteDataInstructions : Prop :=
  ∀ (s : State) (ctx : Nat) (i : Ins) (ws : List Word) (n c p la : Nat) (frs : List (Nat × Nat)), s.due ctx i → s.channelFor ctx n c i (some p) → s.reaches ctx (wbits (ws.getD 0 0) 19 0) (wbits (ws.getD 0 0) 27 20) (wbits (ws.getD 0 0) 29 28) p → wbits (ws.getD 0 0) 27 20 ≤ 128 → wbits (ws.getD 0 0) 29 28 ≤ 1 →
    (i.opcode = 0x20 → i.opf = 0 → s.hasDesc ctx i 5 ws → s.resolves ctx (ws.getD 3 0) (wbits (ws.getD 4 0) 31 0) frs la →
      s.gives (.put ctx) (s.boundTo ctx n c i { bulkOp (s.runs.look ctx) i { (default : Xfer) with
        node := wbits (ws.getD 0 0) 19 0, func := wbits (ws.getD 0 0) 27 20, chan := wbits (ws.getD 0 0) 29 28, key := ws.getD 1 0
        roff := (ws.getD 2 0).toNat, total := wbits (ws.getD 4 0) 31 0, la := la, frs := frs } with src := (p, 0) })) ∧
    (i.opcode = 0x20 → i.opf = 1 → s.hasDesc ctx i 5 ws → 1 ≤ wbits (ws.getD 4 0) 31 0 → wbits (ws.getD 4 0) 31 0 ≤ 8 →
      s.gives (.put ctx) (s.boundTo ctx n c i { bulkOp (s.runs.look ctx) i { (default : Xfer) with
        node := wbits (ws.getD 0 0) 19 0, func := wbits (ws.getD 0 0) 27 20, chan := wbits (ws.getD 0 0) 29 28, key := ws.getD 1 0
        roff := (ws.getD 2 0).toNat, total := wbits (ws.getD 4 0) 31 0
        inl := some (leBytes ((s.runs.look ctx).rg i.rb).toNat (wbits (ws.getD 4 0) 31 0)) } with
        src := (p, 0), acc := leBytes ((s.runs.look ctx).rg i.rb).toNat (wbits (ws.getD 4 0) 31 0) })) ∧
    (i.opcode = 0x21 → s.hasDesc ctx i 5 ws → s.resolves ctx (ws.getD 3 0) (wbits (ws.getD 4 0) 31 0) frs la →
      s.gives (.get ctx) (s.boundTo ctx n c i { bulkOp (s.runs.look ctx) i { (default : Xfer) with
        node := wbits (ws.getD 0 0) 19 0, func := wbits (ws.getD 0 0) 27 20, chan := wbits (ws.getD 0 0) 29 28, key := ws.getD 1 0
        roff := (ws.getD 2 0).toNat, total := wbits (ws.getD 4 0) 31 0, la := la, frs := frs } with src := (p, 0) })) ∧
    (∀ count esize : Nat, i.opcode = 0x22 → s.hasDesc ctx i 6 ws → count = wbits (ws.getD 5 0) 31 0 → esize = wbits (ws.getD 5 0) 44 32 →
      (ws.getD 4 0).toNat % 4 = 0 → 1 ≤ esize → esize ≤ 4096 → count * esize ≤ 0xFFFFFFFF →
      s.resolves ctx (ws.getD 3 0) (if i.opf % 2 = 1 then count * esize else 0) frs la →
      s.gives (.putx ctx) (s.boundTo ctx n c i { bulkOp (s.runs.look ctx) i { (default : Xfer) with
        node := wbits (ws.getD 0 0) 19 0, func := wbits (ws.getD 0 0) 27 20, chan := wbits (ws.getD 0 0) 29 28, key := ws.getD 1 0
        roff := (ws.getD 2 0).toNat, la := la, frs := frs, total := count * esize, esize := esize, count := count, itab := (ws.getD 4 0).toNat
        mode := if i.opf % 2 = 1 then 2 else 1 } with src := (p, 0) })) ∧
    (∀ count esize : Nat, i.opcode = 0x23 → s.hasDesc ctx i 6 ws → count = wbits (ws.getD 5 0) 31 0 → esize = wbits (ws.getD 5 0) 44 32 →
      (ws.getD 4 0).toNat % 4 = 0 → 1 ≤ esize → esize ≤ 4096 → count * esize ≤ 0xFFFFFFFF →
      s.resolves ctx (ws.getD 3 0) (if i.opf % 2 = 1 then count * esize else 0) frs la →
      s.gives (.getx ctx) (s.boundTo ctx n c i { bulkOp (s.runs.look ctx) i { (default : Xfer) with
        node := wbits (ws.getD 0 0) 19 0, func := wbits (ws.getD 0 0) 27 20, chan := wbits (ws.getD 0 0) 29 28, key := ws.getD 1 0
        roff := (ws.getD 2 0).toNat, la := la, frs := frs, total := count * esize, esize := esize, count := count, itab := (ws.getD 4 0).toNat
        mode := if i.opf % 2 = 1 then 2 else 1 } with src := (p, 0) })) ∧
    (i.opcode = 0x24 → s.hasDesc ctx i 3 ws → (if wbit (ws.getD 0 0) 32 then i.opf ≠ 1 ∧ i.opf ≠ 11 else i.opf ≠ 2) →
      s.gives (.amo ctx) (s.boundTo ctx n c i { bulkOp (s.runs.look ctx) i { (default : Xfer) with
        node := wbits (ws.getD 0 0) 19 0, func := wbits (ws.getD 0 0) 27 20, chan := wbits (ws.getD 0 0) 29 28, key := ws.getD 1 0
        roff := (ws.getD 2 0).toNat, total := if wbit (ws.getD 0 0) 32 then 4 else 8, sub := i.opf, w32 := wbit (ws.getD 0 0) 32, fetch := false
        operand := if wbit (ws.getD 0 0) 32 then (s.runs.look ctx).rg i.rb &&& 0xFFFFFFFF else (s.runs.look ctx).rg i.rb
        cmp := if wbit (ws.getD 0 0) 32 then (s.runs.look ctx).rg i.rc &&& 0xFFFFFFFF else (s.runs.look ctx).rg i.rc } with src := (p, 0) })) ∧
    (i.opcode = 0x25 → s.hasDesc ctx i 3 ws → (if wbit (ws.getD 0 0) 32 then i.opf ≠ 1 ∧ i.opf ≠ 11 else i.opf ≠ 2) →
      s.gives (.amof ctx) (s.boundTo ctx n c i { bulkOp (s.runs.look ctx) i { (default : Xfer) with
        node := wbits (ws.getD 0 0) 19 0, func := wbits (ws.getD 0 0) 27 20, chan := wbits (ws.getD 0 0) 29 28, key := ws.getD 1 0
        roff := (ws.getD 2 0).toNat, total := if wbit (ws.getD 0 0) 32 then 4 else 8, sub := i.opf, w32 := wbit (ws.getD 0 0) 32, fetch := true
        operand := if wbit (ws.getD 0 0) 32 then (s.runs.look ctx).rg i.rb &&& 0xFFFFFFFF else (s.runs.look ctx).rg i.rb
        cmp := if wbit (ws.getD 0 0) 32 then (s.runs.look ctx).rg i.rc &&& 0xFFFFFFFF else (s.runs.look ctx).rg i.rc } with src := (p, 0), rd := some i.rd })) ∧
    (i.opcode = 0x30 → s.hasDesc ctx i 4 ws → s.resolves ctx (ws.getD 2 0) (wbits (ws.getD 3 0) 31 0) frs la →
      s.gives (.send ctx) (s.boundTo ctx n c i { bulkOp (s.runs.look ctx) i { (default : Xfer) with
        node := wbits (ws.getD 0 0) 19 0, func := wbits (ws.getD 0 0) 27 20, chan := wbits (ws.getD 0 0) 29 28, ctx := wbits (ws.getD 0 0) 47 32, tag := ws.getD 1 0
        la := la, frs := frs, total := wbits (ws.getD 3 0) 31 0 } with src := (p, 0), arg := if wbits (ws.getD 3 0) 31 0 ≤ s.eagerLimit then 0 else 1 }))

/-- COPY is accepted and bound to a channel with its two addresses, length or elements (R143). POST appends its receive to the context's posted list, with the
source, tag and mask of its descriptor, and writes the handle to G[RD] (R146, R257); CANCEL of a handle that names no receive answers 0, and of a posted receive
takes it off the list and answers 1 (R147). JOIN, BARRIER, REDUCE and BCAST are accepted as their member's operation with its next sequence number; a token is
the member's input at once (R151 to R153, R321). -/
def Obligations.LocalDataInstructions : Prop :=
  ∀ (s : State) (ctx : Nat) (i : Ins) (ws : List Word), s.due ctx i →
    (∀ n c la dst total : Nat, ∀ frs frs2 : List (Nat × Nat), i.opcode = 0x26 → s.hasDesc ctx i 4 ws → s.channelFor ctx n c i none → wbits (ws.getD 2 0) 49 48 ≠ 3 →
      (wbits (ws.getD 2 0) 49 48 = 0 ∨ (1 ≤ wbits (ws.getD 2 0) 44 32 ∧ wbits (ws.getD 2 0) 44 32 ≤ 4096 ∧ (ws.getD 3 0).toNat % 4 = 0)) →
      total = (if wbits (ws.getD 2 0) 49 48 = 0 then wbits (ws.getD 2 0) 31 0 else wbits (ws.getD 2 0) 31 0 * wbits (ws.getD 2 0) 44 32) → total ≠ 0 →
      s.resolves ctx (ws.getD 0 0) (if wbits (ws.getD 2 0) 49 48 = 1 then 0 else total) frs la →
      s.resolves ctx (ws.getD 1 0) (if wbits (ws.getD 2 0) 49 48 = 2 then 0 else total) frs2 dst →
      s.gives (.copy ctx) (s.boundTo ctx n c i (bulkOp (s.runs.look ctx) i { (default : Xfer) with
        la := la, frs := frs, dst := dst, frs2 := frs2, total := total, esize := wbits (ws.getD 2 0) 44 32
        count := if wbits (ws.getD 2 0) 49 48 = 0 then 0 else wbits (ws.getD 2 0) 31 0, itab := (ws.getD 3 0).toNat, mode := wbits (ws.getD 2 0) 49 48 }))) ∧
    (∀ n la c : Nat, ∀ frs : List (Nat × Nat), i.opcode = 0x31 → s.hasDesc ctx i 5 ws → s.slotFor ctx n → s.resolves ctx (ws.getD 3 0) (wbits (ws.getD 4 0) 31 0) frs la →
      (s.runs.look ctx).pasid.isSome = true → s.lctrOk (s.runs.look ctx) i = true → s.pdHost (s.runs.look ctx).port = 0 → s.pdMat = 0 →
      c = wbits (ws.getD 0 0) 15 0 → (s.mctx.look c).st = .enabled → (s.mctx.look c).dom = (s.runs.look ctx).dom →
      some (s.mctx.look c).pasid = (s.runs.look ctx).pasid → (s.mctx.look c).ready = true → (s.mctx.look c).loading ≠ some false → (s.mctx.look c).allUnexp = [] → (s.mctx.look c).postedSpill = [] →
      (s.mctx.look c).used + 2 ≤ (s.mctx.look c).res → s.msgs = [] → s.preds = [] → i.nb = false →
      s.completes (.post ctx) fun t =>
        (t.mctx.look c).posted = (s.mctx.look c).posted ++ [⟨ctx * 64 + n, wbits (ws.getD 0 0) 35 16, wbits (ws.getD 0 0) 43 36, wbit (ws.getD 0 0) 44, wbit (ws.getD 0 0) 45,
          ws.getD 1 0, ws.getD 2 0, la, wbits (ws.getD 4 0) 31 0, (s.mctx.look c).posts⟩] ∧
        (t.runs.look ctx).rg i.rd = (if i.rd = 0 then 0 else s.postHandle c (ctx * 64 + n)) ∧ (t.runs.look ctx).st = .blocked ∧
        (t.ops.look (ctx * 64 + n)).live = true ∧ (t.ops.look (ctx * 64 + n)).opcode = 0x31) ∧
    (i.opcode = 0x32 → s.unladen ctx → s.handleOp ((s.runs.look ctx).rg i.ra) = none →
      ((s.mctx.look (wbits ((s.runs.look ctx).rg i.ra) 63 48)).st = .free ∨ (s.mctx.look (wbits ((s.runs.look ctx).rg i.ra) 63 48)).dom = (s.runs.look ctx).dom) →
      s.gives (.cancel ctx) (s.wentOp ctx i stOk (some i.rd) 0)) ∧
    (∀ k c n : Nat, i.opcode = 0x32 → s.slotFor ctx n → s.handleOp ((s.runs.look ctx).rg i.ra) = some k → c = wbits ((s.runs.look ctx).rg i.ra) 63 48 →
      (s.mctx.look c).st = .enabled → (s.mctx.look c).dom = (s.runs.look ctx).dom → (s.mctx.look c).ready = true → (s.mctx.look c).loading ≠ some false → s.msgs = [] → s.preds = [] →
      (s.mctx.look c).posted.any (fun r => r.op == k) = true →
      s.completes (.cancel ctx) fun t =>
        (t.mctx.look c).allPosted.any (fun r => r.op == k) = false ∧ (i.rd ≠ 0 → i.rd ≠ 15 → (t.runs.look ctx).rg i.rd = 1) ∧
        (t.runs.look ctx).pc = (s.runs.look ctx).pc + 1) ∧
    (∀ g j n : Nat, i.opcode = 0x50 → i.nb = false → s.slotFor ctx n → g = i.imm % 4096 → s.lctrOk (s.runs.look ctx) i = true → s.memberOf ctx g j →
      ((s.grps.look g).mems.getD j default).joined = false →
      s.completes (.join ctx) fun t =>
        ((t.grps.look g).mems.getD j default).joined = true ∧ ((t.grps.look g).mems.getD j default).seq = 0 ∧
        ((t.grps.look g).mems.getD j default).op = some (ctx * 64 + n) ∧
        (t.grps.look g).slots.any (fun x => x.seq == 0 && x.seg == 0 && x.ins.any (fun y => y.1 == (s.grps.look g).children.length + j)) = true ∧
        (t.runs.look ctx).st = .blocked) ∧
    (∀ g j n : Nat, i.opcode = 0x53 → i.nb = false → s.slotFor ctx n → g = i.imm % 4096 → s.lctrOk (s.runs.look ctx) i = true → s.memberOf ctx g j →
      ((s.grps.look g).mems.getD j default).joined = true →
      s.completes (.barrier ctx) fun t =>
        ((t.grps.look g).mems.getD j default).seq = (((s.grps.look g).mems.getD j default).seq + 1) % 65536 ∧
        ((t.grps.look g).mems.getD j default).op = some (ctx * 64 + n) ∧
        (t.grps.look g).slots.any (fun x => x.seq == (((s.grps.look g).mems.getD j default).seq + 1) % 65536 && x.seg == 0 &&
          x.ins.any (fun y => y.1 == (s.grps.look g).children.length + j)) = true ∧
        (t.runs.look ctx).st = .blocked) ∧
    (∀ g j n c la dst total : Nat, ∀ frs frs2 : List (Nat × Nat), i.opcode = 0x51 → i.nb = false → s.hasDesc ctx i 4 ws → s.channelFor ctx n c i none → g = wbits (ws.getD 0 0) 11 0 →
      s.memberOf ctx g j → ((s.grps.look g).mems.getD j default).joined = true →
      (i.opf ≤ 2 ∨ 4 ≤ wbits (ws.getD 0 0) 18 16) → (wbit (ws.getD 0 0) 20 = true → wbits (ws.getD 0 0) 18 16 = 2 ∨ wbits (ws.getD 0 0) 18 16 = 3) →
      total = wbits (ws.getD 3 0) 31 0 * typeSize (wbits (ws.getD 0 0) 18 16) → 0 < total → total ≤ 0xFFFFFFFF →
      s.resolves ctx (ws.getD 1 0) total frs la → s.resolves ctx (ws.getD 2 0) total frs2 dst →
      s.completes (.reduce ctx) fun t =>
        ((t.grps.look g).mems.getD j default).seq = (((s.grps.look g).mems.getD j default).seq + 1) % 65536 ∧
        ((t.grps.look g).mems.getD j default).op = some (ctx * 64 + n) ∧
        (t.ops.look (ctx * 64 + n)).live = true ∧ (t.ops.look (ctx * 64 + n)).bound = some c ∧ (t.ops.look (ctx * 64 + n)).opf = i.opf ∧
        (t.ops.look (ctx * 64 + n)).x = { (default : Xfer) with
          la := la, frs := frs, dst := dst, frs2 := frs2, total := total, esize := typeSize (wbits (ws.getD 0 0) 18 16), count := wbits (ws.getD 3 0) 31 0
          sub := wbits (ws.getD 0 0) 18 16, w32 := wbit (ws.getD 0 0) 20 } ∧
        (t.runs.look ctx).st = .blocked) ∧
    (∀ g j n c la : Nat, ∀ frs : List (Nat × Nat), i.opcode = 0x52 → i.nb = false → s.hasDesc ctx i 3 ws → s.channelFor ctx n c i none → g = wbits (ws.getD 0 0) 11 0 →
      s.memberOf ctx g j → ((s.grps.look g).mems.getD j default).joined = true → 0 < wbits (ws.getD 2 0) 31 0 →
      s.resolves ctx (ws.getD 1 0) (wbits (ws.getD 2 0) 31 0) frs la →
      s.completes (.bcast ctx) fun t =>
        ((t.grps.look g).mems.getD j default).seq = (((s.grps.look g).mems.getD j default).seq + 1) % 65536 ∧
        ((t.grps.look g).mems.getD j default).op = some (ctx * 64 + n) ∧
        (t.ops.look (ctx * 64 + n)).live = true ∧ (t.ops.look (ctx * 64 + n)).bound = some c ∧
        (t.ops.look (ctx * 64 + n)).x = { (default : Xfer) with
          la := la, frs := frs, total := wbits (ws.getD 2 0) 31 0, mode := if wbit (ws.getD 0 0) 12 then 3 else 0 } ∧
        (t.runs.look ctx).st = .blocked)

/-- With authority, RTSET WRITE sets an entry of the bank not in use, SWAP asks for the swap at the next boundary and COPY starts the bank copy (R340); EPSET writes
an endpoint entry (R336); CONVOY SETUP records an armed convoy as its descriptor says, TEARDOWN sets the stage of its end (R164, R369); TOLLSET leaves the
descriptor for the boundary (R420); STAGECFG leaves the period or the sync settings for the boundary (R51, R161). Those that complete at the boundary block
their run. -/
def Obligations.PrivilegedRouting : Prop :=
  ∀ (s : State) (ctx : Nat) (i : Ins), s.due ctx i → s.unladen ctx → i.ext = false →
    (i.opcode = 0x80 → i.opf = 0 → s.bankCopy = none →
      s.gives (.rtsetWrite ctx) { s.wentOp ctx i stOk none 0 with
        routes := s.routes.put ((1 - s.get F.RTC_BANK_ACTIVE) * 65536 + wbits ((s.runs.look ctx).rg i.ra) 15 0) ((s.runs.look ctx).rg i.rb) }) ∧
    (i.opcode = 0x80 → i.opf = 1 → s.gives (.rtsetSwap ctx) ((s.accepted ctx 0 i (mkOp (s.runs.look ctx) i .boundary)).put F.RTC_BANK_SWAP 1)) ∧
    (i.opcode = 0x80 → i.opf = 2 → s.bankCopy = none →
      s.gives (.rtsetCopy ctx) { (s.accepted ctx 0 i (mkOp (s.runs.look ctx) i .boundary)).put F.RTC_BANK_COPY_BUSY 1 with bankCopy := some (0, some (ctx * 64)) }) ∧
    (i.opcode = 0x88 →
      s.gives (.epset ctx) { s.wentOp ctx i stOk none 0 with
        eps := s.eps.put (wbits ((s.runs.look ctx).rg i.ra) 19 0)
          (wbits ((s.runs.look ctx).rg i.rb) 17 0 + wbits ((s.runs.look ctx).rg i.rb) 31 31 * 2 ^ 31) }) ∧
    (∀ (ws : List Word) (v role out p : Nat), i.opcode = 0x81 → i.opf = 0 → s.hasDesc ctx i 6 ws → v = wbits (ws.getD 0 0) 9 0 → role = wbits (ws.getD 0 0) 13 12 →
      out = wbits (ws.getD 0 0) 45 40 → p = cvyP (s.get F.STG_PERIOD_CODE) → role ≤ 2 → 0 < (ws.getD 4 0).toNat → (ws.getD 4 0).toNat ≤ p * 0xFFFFFFFF →
      s.now + 16 ≤ wbits (ws.getD 1 0) 47 0 → (s.cvys.look v).st = 0 → s.locked = true → s.flag (fltPend 0x003) = false → s.workMode ≠ 3 →
      (role = 2 ∨ (pop16 (s.cvyNamed out ||| wbits (ws.getD 2 0) 15 0) ≤ 12 ∧ s.cvyNamed out &&& wbits (ws.getD 2 0) 15 0 = 0 ∧ s.pdQuad out = 0)) →
      s.gives (.convoySetup ctx) { s.wentOp ctx i stOk none 0 with cvys := s.cvys.put v { (default : Cvy) with
        st := 1, role := role, inPort := wbits (ws.getD 0 0) 37 32, outPort := out, dom := wbits (ws.getD 0 0) 63 48, start := wbits (ws.getD 1 0) 47 0
        slots := if role = 2 then 0 else wbits (ws.getD 2 0) 15 0, va := (ws.getD 3 0).toNat, len := (ws.getD 4 0).toNat, pasid := wbits (ws.getD 5 0) 19 0
        n := ((ws.getD 4 0).toNat + p - 1) / p } }) ∧
    (i.opcode = 0x81 → i.opf = 1 → (s.cvys.look (wbits ((s.runs.look ctx).rg i.ra) 9 0)).st ≠ 0 →
      s.gives (.convoyTeardown ctx) { s.wentOp ctx i stOk none 0 with
        cvys := s.cvys.upd (wbits ((s.runs.look ctx).rg i.ra) 9 0) fun c => { c with teardown := some (max (wbits ((s.runs.look ctx).rg i.rb) 47 0) (s.now + 1)) } }) ∧
    (∀ ws : List Word, i.opcode = 0x82 → s.hasDesc ctx i 3 ws → wbits (ws.getD 0 0) 34 32 ≤ 2 →
      (wbits (ws.getD 0 0) 39 38 = 0 ∨ (wbits (ws.getD 0 0) 39 38 = 1 ∧ wbits (ws.getD 0 0) 31 16 = 0)) →
      s.gives (.tollset ctx) { s.accepted ctx 0 i (mkOp (s.runs.look ctx) i .boundary) with
        tolls := s.tolls.upd (wbits (ws.getD 0 0) 13 0) fun t => { t with next := some ws } }) ∧
    (i.opcode = 0x89 → i.opf = 0 → s.spend = [] → s.smask = [] →
      s.gives (.stagecfgPeriod ctx) { s.accepted ctx 0 i (mkOp (s.runs.look ctx) i .boundary) with
        smask := [(0x28010, 0x8003FFFFFFFFFFFF)]
        spend := [(0x28010, packW [(63, 1), (48, wbits ((s.runs.look ctx).rg i.ra) 1 0), (0, wbits ((s.runs.look ctx).rg i.rb) 47 0)])] }) ∧
    (i.opcode = 0x89 → i.opf = 1 → s.spend = [] → s.smask = [] →
      s.gives (.stagecfgSync ctx) { s.accepted ctx 0 i (mkOp (s.runs.look ctx) i .boundary) with
        smask := [(0x28018, 0xC03FFF0F)], spend := Tab.put [] 0x28018 ((s.runs.look ctx).rg i.ra &&& 0xC03FFF0F) })

/-- With authority, DOMAIN ACTIVATE makes a domain Active and RETIRE ends it with its keys, bindings and counters (R435, R203); the binds give a function, an
address space or counters to a domain that is in use, counters at zero (R161, R203, R208). KEYOP CREATE fills a dead entry with the next generation, REVOKE ends
a live key, REBOUND changes its range (R276). CTXFLUSH drops cached configuration (R161). TLBINV drops TLB and program cache lines of its scope and waits for
the accesses that use them (R224). GROUPSET creates a group with its members, or destroys one (R313, R335). -/
def Obligations.PrivilegedTenancy : Prop :=
  ∀ (s : State) (ctx : Nat) (i : Ins), s.due ctx i → s.unladen ctx → i.ext = false →
    (∀ d : Nat, i.opcode = 0x83 → i.opf = 0 → d = wbits ((s.runs.look ctx).rg i.ra) 15 0 → d ≠ 0 → s.domLive d = false →
      (s.doms.filter fun e => e.1 != 0 && e.2.st != .inactive).length + 1 < 4096 →
      s.completes (.domainActivate ctx) fun t =>
        (t.doms.look d).st = .active ∧ (t.doms.look d).cur = (s.doms.look d).cur ∧ (t.runs.look ctx).rg 15 = g15 stOk 0x83 0 ∧ (t.runs.look ctx).pc = (s.runs.look ctx).pc + 1) ∧
    (∀ d : Nat, i.opcode = 0x83 → i.opf = 1 → d = wbits ((s.runs.look ctx).rg i.ra) 15 0 → d ≠ 0 → d ≠ (s.runs.look ctx).dom → s.domLive d = true → s.flag F.SEC_LEDGER_CTRL_EN = false →
      s.ops = [] → s.grps = [] → s.cvys = [] → s.msgs = [] → (s.fns.keysOf fun h => h.tdi == .locked || h.tdi == .run) = [] →
      s.completes (.domainRetire ctx) fun t =>
        (t.doms.look d).st = .inactive ∧ (t.doms.look d).cur = none ∧ (t.doms.look d).alt = none ∧ (∀ k ∈ s.fns.keysOf fun h => h.dom == some d, (t.fns.look k).dom = none) ∧
        (t.pas.keysOf fun a => a.dom == some d) = [] ∧ (t.ctrs.keysOf fun c => c.dom == some d) = [] ∧ (t.kcache.keysOf fun k => k.dom == d) = [] ∧
        (t.runs.look ctx).rg 15 = g15 stOk 0x83 0) ∧
    (∀ d p f : Nat, i.opcode = 0x83 → i.opf = 2 → d = wbits ((s.runs.look ctx).rg i.ra) 15 0 → p = wbits ((s.runs.look ctx).rg i.rb) 9 8 → f = wbits ((s.runs.look ctx).rg i.rb) 7 0 →
      1 ≤ f → f ≤ 128 → s.domLive d = true → (s.fnOf p f).tdi = .unlocked → (s.fnOf p f).dom ≠ some d →
      s.gives (.bindFunc ctx) { s.wentOp ctx i stOk none 0 with fns := s.fns.upd (fnKey p f) fun h => { h with dom := some d } }) ∧
    (∀ d a : Nat, i.opcode = 0x83 → i.opf = 3 → d = wbits ((s.runs.look ctx).rg i.ra) 15 0 → a = wbits ((s.runs.look ctx).rg i.rb) 19 0 → s.domLive d = true →
      (s.pas.look a).st = .active → (s.pas.look a).dom = none → s.fnDom (s.pas.look a).port (s.pas.look a).fn = some d →
      s.gives (.bindPasid ctx) { s.wentOp ctx i stOk none 0 with pas := s.pas.upd a fun x => { x with dom := some d } }) ∧
    (∀ d first n : Nat, i.opcode = 0x83 → i.opf = 4 → d = wbits ((s.runs.look ctx).rg i.ra) 15 0 → first = wbits ((s.runs.look ctx).rg i.rb) 15 0 → n = wbits ((s.runs.look ctx).rg i.rb) 31 16 + 1 →
      s.domLive d = true → first + n ≤ 65536 → (s.ctrs.any fun e => decide (first ≤ e.1 ∧ e.1 < first + n) && e.2.dom.isSome && e.2.dom != some d) = false → s.ops = [] →
      s.completes (.bindCtr ctx) fun t =>
        (∀ c, c < n → t.ctrs.look (first + c) = ⟨0, some d⟩) ∧ (t.ctrs.filter fun e => decide (e.1 < first ∨ first + n ≤ e.1)) = (s.ctrs.filter fun e => decide (e.1 < first ∨ first + n ≤ e.1)) ∧
        (t.runs.look ctx).rg 15 = g15 stOk 0x83 0) ∧
    (∀ (ws : List Word) (index : Nat) (e : KeyEnt), s.unbound = [] → s.chans = [] → i.opcode = 0x84 → i.opf = 0 → s.hasDesc ctx i 3 ws → index = wbits (ws.getD 0 0) 23 0 →
      s.flag F.RMA_KTAB_CTRL_EN = true → index < 2 ^ s.ktabLog2 → (s.pas.look (wbits (ws.getD 0 0) 63 44)).dom = some (wbits (ws.getD 0 0) 39 24) →
      s.kcache.find? (fun x => x.1 == index) = some (index, e) → (e.valid = false ∨ e.epoch ≠ s.inc) → i.nb = false →
      s.completes (.keyopCreate ctx) fun t =>
        (t.kcache.look index).valid = true ∧ (t.kcache.look index).gen = (e.gen + 1) % 65536 ∧ (t.kcache.look index).dom = wbits (ws.getD 0 0) 39 24 ∧
        (t.kcache.look index).pasid = wbits (ws.getD 0 0) 63 44 ∧ (t.kcache.look index).rights = wbits (ws.getD 0 0) 43 40 ∧
        (t.kcache.look index).base = (ws.getD 1 0).toNat ∧ (t.kcache.look index).len = (ws.getD 2 0).toNat ∧ (t.kcache.look index).epoch = s.inc ∧
        (t.runs.look ctx).rg 15 = g15 stOk 0x84 0 ∧ (i.rd ≠ 0 → i.rd ≠ 15 → (t.runs.look ctx).rg i.rd = s.keyOf index ((e.gen + 1) % 65536) (wbits (ws.getD 0 0) 39 24))) ∧
    (∀ (index : Nat) (e : KeyEnt), s.unbound = [] → s.chans = [] → i.opcode = 0x84 → i.opf = 1 → s.flag F.RMA_KTAB_CTRL_EN = true → index < 2 ^ s.ktabLog2 →
      s.kcache.find? (fun x => x.1 == index) = some (index, e) → e.valid = true → e.epoch = s.inc → e.gen < 2 ^ 16 →
      (s.runs.look ctx).rg i.ra = s.keyOf index e.gen e.dom →
      s.completes (.keyopRevoke ctx) fun t =>
        (t.kcache.look index).valid = false ∧ (t.kcache.look index).gen = e.gen ∧
        t.get F.RMA_KTAB_STATUS_LIVE_KEYS = s.get F.RMA_KTAB_STATUS_LIVE_KEYS - 1) ∧
    (∀ (ws : List Word) (index : Nat) (e : KeyEnt), s.unbound = [] → s.chans = [] → i.opcode = 0x84 → i.opf = 2 → s.hasDesc ctx i 3 ws → s.flag F.RMA_KTAB_CTRL_EN = true →
      index < 2 ^ s.ktabLog2 → s.kcache.find? (fun x => x.1 == index) = some (index, e) → e.valid = true → e.epoch = s.inc → e.gen < 2 ^ 16 →
      ws.getD 0 0 = s.keyOf index e.gen e.dom →
      s.completes (.keyopRebound ctx) fun t =>
        (t.kcache.look index).base = (ws.getD 1 0).toNat ∧ (t.kcache.look index).len = (ws.getD 2 0).toNat ∧
        (t.kcache.look index).gen = e.gen ∧ (t.kcache.look index).valid = true) ∧
    (i.opcode = 0x85 → i.opf = 0 → (s.wqs.look (wbits ((s.runs.look ctx).rg i.ra) 15 0)).st = .stopped →
      s.gives (.ctxflushQueue ctx) { s.wentOp ctx i stOk none 0 with
        wqs := s.wqs.upd (wbits ((s.runs.look ctx).rg i.ra) 15 0) fun w => { (default : Wq) with
          st := w.st, qcb := w.qcb, pasid := w.pasid, port := w.port, fn := w.fn, c := w.c, prod := w.prod, err := w.err, boost := w.boost, sched := w.sched, rang := w.rang } }) ∧
    (i.opcode = 0x85 → i.opf = 1 → (s.mctx.look (wbits ((s.runs.look ctx).rg i.ra) 15 0)).st = .enabled →
      (s.mctx.look (wbits ((s.runs.look ctx).rg i.ra) 15 0)).unexp = [] → (s.mctx.look (wbits ((s.runs.look ctx).rg i.ra) 15 0)).posted.length ≤ 1 →
      (s.mctx.look (wbits ((s.runs.look ctx).rg i.ra) 15 0)).postedSpill = [] →
      s.completes (.ctxflushMatch ctx) fun t =>
        (t.mctx.look (wbits ((s.runs.look ctx).rg i.ra) 15 0)).posted = [] ∧ (t.runs.look ctx).steps = (s.runs.look ctx).steps + 1) ∧
    (∀ d : Nat, i.opcode = 0x85 → i.opf = 2 → d = wbits ((s.runs.look ctx).rg i.ra) 15 0 → s.msgs = [] →
      s.gives (.ctxflushDomain ctx) { s.wentOp ctx i stOk none 0 with
        kcache := s.kcache.filter fun e => e.2.dom != d
        pcache := s.pcache.filter fun l => (s.pas.look l.1).dom != some d
        preds := s.preds.filter fun e => (s.mctx.look e.2.ctx).dom != d
        tlb := s.tlb.filter fun e => (s.pas.look e.2.pasid).dom != some d }) ∧
    (i.opcode = 0x86 → i.opf = 0 → s.walks = [] → s.accs = [] →
      s.gives (.tlbinvAll ctx) { s.accepted ctx 0 i (mkOp (s.runs.look ctx) i .inval) with
        tlb := [], pcache := [], nextId := s.nextId + 1
        invals := s.invals.put s.nextId { (default : Inval) with byOp := some (ctx * 64), live := true } }) ∧
    (∀ a : Nat, i.opcode = 0x86 → i.opf = 1 → s.walks = [] → s.accs = [] → a = wbits ((s.runs.look ctx).rg i.ra) 19 0 →
      s.gives (.tlbinvPasid ctx) { s.accepted ctx 0 i (mkOp (s.runs.look ctx) i .inval) with
        tlb := s.tlb.filter fun e => e.2.pasid != a, pcache := s.pcache.filter fun l => l.1 != a, nextId := s.nextId + 1
        invals := s.invals.put s.nextId { (default : Inval) with byOp := some (ctx * 64), live := true } }) ∧
    (∀ a page : Nat, i.opcode = 0x86 → i.opf = 2 → s.walks = [] → s.accs = [] → a = wbits ((s.runs.look ctx).rg i.ra) 19 0 →
      page = ((s.runs.look ctx).rg i.rb).toNat / 4096 →
      s.gives (.tlbinvPage ctx) { s.accepted ctx 0 i (mkOp (s.runs.look ctx) i .inval) with
        tlb := s.tlb.filter fun e => !(e.2.pasid == a && page / pagesOf e.2.size == e.2.page / pagesOf e.2.size)
        pcache := s.pcache.filter fun l => !(l.1 == a && l.2.1 / 4096 == page), nextId := s.nextId + 1
        invals := s.invals.put s.nextId { (default : Inval) with byOp := some (ctx * 64), live := true } }) ∧
    (∀ a addr len : Nat, i.opcode = 0x86 → i.opf = 3 → s.walks = [] → s.accs = [] → a = wbits ((s.runs.look ctx).rg i.ra) 19 0 →
      addr = ((s.runs.look ctx).rg i.rb).toNat → len = ((s.runs.look ctx).rg i.rc).toNat → 0 < len →
      s.gives (.tlbinvRange ctx) { s.accepted ctx 0 i (mkOp (s.runs.look ctx) i .inval) with
        tlb := s.tlb.filter fun e => !(e.2.pasid == a &&
          decide (e.2.page / pagesOf e.2.size * pagesOf e.2.size ≤ (addr + len - 1) / 4096 ∧ addr / 4096 ≤ e.2.page / pagesOf e.2.size * pagesOf e.2.size + pagesOf e.2.size - 1))
        pcache := s.pcache.filter fun l => !(l.1 == a && decide (l.2.1 / 4096 ≤ (addr + len - 1) / 4096 ∧ addr / 4096 ≤ l.2.1 / 4096)), nextId := s.nextId + 1
        invals := s.invals.put s.nextId { (default : Inval) with byOp := some (ctx * 64), live := true } }) ∧
    (∀ (ws : List Word) (g : Nat), i.opcode = 0x87 → i.opf = 0 → s.hasDesc ctx i 4 ws → g = wbits (ws.getD 0 0) 11 0 → wbits (ws.getD 0 0) 43 40 ≤ 8 →
      1 ≤ wbits (ws.getD 0 0) 43 40 → ws.getD 1 0 = 0 → wbit (ws.getD 0 0) 38 = true → (s.grps.look g).st = 0 → s.colUnits + 64 * 9 ≤ 1024 → (s.key (wbits (ws.getD 0 0) 31 16)).isSome = true →
      s.completes (.groupsetCreate ctx) fun t =>
        (t.grps.look g).st = 2 ∧ (t.grps.look g).dom = wbits (ws.getD 0 0) 31 16 ∧ (t.grps.look g).root = true ∧ (t.grps.look g).edges = [] ∧
        (t.grps.look g).mems.length = wbits (ws.getD 0 0) 43 40 ∧ ((t.grps.look g).mems.getD 0 default).port = wbits (ws.getD 2 0) 9 8 ∧
        ((t.grps.look g).mems.getD 0 default).fn = wbits (ws.getD 2 0) 7 0 ∧ ((t.grps.look g).mems.getD 0 default).joined = false ∧
        (t.runs.look ctx).rg 15 = g15 stOk 0x87 0) ∧
    (∀ g : Nat, s.unbound = [] → s.chans = [] → i.opcode = 0x87 → i.opf = 1 → g = wbits ((s.runs.look ctx).rg i.ra) 11 0 → (s.grps.look g).st ≠ 0 → (s.grps.look g).destroyOp = none →
      (s.grps.look g).mems = [] → (s.grps.look g).edges = [] → s.fports = [] → s.rin = [] →
      s.completes (.groupsetDestroy ctx) fun t => (t.grps.look g).st = 0 ∧ (t.runs.look ctx).rg 15 = g15 stOk 0x87 0 ∧ (t.runs.look ctx).steps = (s.runs.look ctx).steps + 1)

/-- An operation with SIGL advances its local counter by 1 when it completes (R98); one whose LCTR is not its domain's completes RIGHTS with no effect (R99, R125);
one with a TAG queues an event of type 2 with its status, opcode, program counter and tag (R195, R196). Shown on EPSET, whose extension word follows it. -/
def Obligations.CompletionSignals : Prop :=
  ∀ (s : State) (ctx : Nat) (i : Ins), s.due ctx i → s.unladen ctx → i.opcode = 0x88 → i.ext = true →
    (i.sigl = true → i.tag = 0 → (s.ctrs.look i.lctr).dom = some (s.runs.look ctx).dom → s.unwaited i.lctr →
      s.gives (.epset ctx) { s.wentOp ctx i stOk none 0 with
        eps := s.eps.put (wbits ((s.runs.look ctx).rg i.ra) 19 0)
          (wbits ((s.runs.look ctx).rg i.rb) 17 0 + wbits ((s.runs.look ctx).rg i.rb) 31 31 * 2 ^ 31)
        ctrs := s.ctrs.upd i.lctr fun v => { v with val := v.val + 1 } }) ∧
    (i.sigl = true → i.tag = 0 → (s.ctrs.look i.lctr).dom ≠ some (s.runs.look ctx).dom → s.gives (.epset ctx) (s.wentOp ctx i stRights none 0)) ∧
    (∀ (e : Nat) (ev : Ev), s.eventsTo (s.runs.look ctx).wq e → i.sigl = false → i.tag ≠ 0 →
      ev = ⟨packW [(0, 2), (8, stOk), (16, 0x88), (32, (s.runs.look ctx).wq % 65536), (48, (s.runs.look ctx).pc % 4096)],
        packW [(0, 0), (32, (s.runs.look ctx).idx % 2 ^ 32)], BitVec.ofNat 64 i.tag, s.timeWord, .op (ctx * 64)⟩ →
      s.completes (.epset ctx) fun t =>
        (t.eqs.look e).held = (s.eqs.look e).held ++ [ev] ∧ (t.runs.look ctx).steps = (s.runs.look ctx).steps + 1)

/-! ### Runs outside their instructions (spec/04) -/

/-- RUN_RESTORE makes a READY run of the cluster RUNNING in a free slot (R78). An image line fills the program cache, an LD's word its register, a descriptor and a
fragment table are held for the instruction that asked (R92 to R94, R123, R132, R185); an LD's run becomes READY past it with one step. -/
def Obligations.ReadsOfRuns : Prop :=
  ∀ (s : State), s.calm →
    (∀ c k : Nat, c < 16 → s.readyFor c = [k] → s.residents c < 128 →
      s.completes (.runRestore c) fun t =>
        (t.runs.look k).st = .running ∧ (t.runs.look k).cluster = c ∧ (t.runs.look k).resid = 0 ∧ (t.runs.look k).preempt = false ∧
        (t.runs.look k).pc = (s.runs.look k).pc ∧ (t.runs.look k).g = (s.runs.look k).g ∧ (t.runs.look k).steps = (s.runs.look k).steps) ∧
    (∀ (id ctx va : Nat) (ws : List Word), s.awaits id ctx (.fetch ctx) → (s.accs.look id).orig = [(va, 64)] → ws.length = 8 → s.invals = [] →
      s.gives (.imageFetchReturn id (.ok ws)) { s.updRun ctx fun r => { r with await := none } with
        pcache := ((s.accs.look id).pasid, va, ws) :: (s.pcache.filter fun l => !(l.1 == (s.accs.look id).pasid && l.2.1 == va)).take 8191
        accs := s.accs.del id }) ∧
    (∀ (id ctx va rd : Nat) (v : Word), s.awaits id ctx (.ld ctx) → (s.accs.look id).orig = [(va, 8)] → (s.runs.look ctx).st = .blocked → (s.runs.look ctx).block = .ld rd →
      s.gives (.ldReturn id (.ok [v])) { s.updRun ctx fun r => { r.setG rd v with
          await := none, pc := r.nextPc, steps := r.steps + 1, st := .ready, block := .none, waitOn := none, readySeq := s.readyCtr } with
        readyCtr := s.readyCtr + 1, accs := s.accs.del id }) ∧
    (∀ (id ctx va n : Nat) (ws : List Word), s.awaits id ctx (.desc ctx) → (s.accs.look id).orig = [(va, 8 * n)] → ws.length = n →
      s.gives (.descriptorReadReturn id (.ok ws)) { s.updRun ctx fun r => { r with await := none, desc := some ws } with accs := s.accs.del id }) ∧
    (∀ (id ctx va n : Nat) (ws : List Word), s.awaits id ctx (.frag ctx va) → (s.accs.look id).orig = [(va, 8 * n)] → ws.length = n →
      s.gives (.fragmentTableReadReturn id (.ok ws)) { s.updRun ctx fun r => { r with await := none, frags := r.frags ++ [(va, ws)] } with accs := s.accs.del id })

/-- An operation that has finished completes: G15 gets its status, opcode and bytes (R81), its run becomes READY past it, and its slot is free. A WAIT or LOCK whose
timer has run out completes TIMEOUT, the LOCK with its owner's master in G[RD] (R101, R155). A run that is ENDING with nothing outstanding frees its context,
whose generation advances (R105, R117), after its ENTRY event if the entry asked for one (R180, R196). -/
def Obligations.OperationEnds : Prop :=
  ∀ (s : State), s.calm → s.unbound = [] → s.chans = [] →
    (∀ ctx n st bytes : Nat, ctx ≤ 8192 → n < 64 → s.opsOf ctx = [ctx * 64 + n] → (s.ops.look (ctx * 64 + n)).live = true → (s.ops.look (ctx * 64 + n)).fin = some (st, bytes, none) →
      (s.ops.look (ctx * 64 + n)).reporting = false → (s.ops.look (ctx * 64 + n)).noCtr = false → (s.ops.look (ctx * 64 + n)).tag = 0 → (s.ops.look (ctx * 64 + n)).sigl = false →
      (s.ops.look (ctx * 64 + n)).rd = none → (s.ops.look (ctx * 64 + n)).opcode = 0x20 → (s.runs.look ctx).st = .blocked → (s.runs.look ctx).block = .op n →
      s.gives (.opLocalCompletion ctx n) { (s.updRun ctx fun r => { r.setG 15 (g15 st 0x20 bytes) with
          pc := r.nextPc, st := .ready, block := .none, waitOn := none, readySeq := s.readyCtr }).ledger (s.runs.look ctx).dom ldOps 1 with
        ops := s.ops.del (ctx * 64 + n), readyCtr := s.readyCtr + 1 }) ∧
    (∀ ctx n : Nat, ctx ≤ 8192 → n < 64 → s.opsOf ctx = [ctx * 64 + n] → (s.ops.look (ctx * 64 + n)).live = true → (s.ops.look (ctx * 64 + n)).fin = none →
      (s.ops.look (ctx * 64 + n)).opcode = 0x40 → (s.ops.look (ctx * 64 + n)).due = 1 → (s.ops.look (ctx * 64 + n)).tag = 0 → (s.ops.look (ctx * 64 + n)).sigl = false →
      (s.ops.look (ctx * 64 + n)).noCtr = false → (s.ops.look (ctx * 64 + n)).reporting = false → (s.ops.look (ctx * 64 + n)).rd = none → (s.runs.look ctx).st = .waiting →
      (s.runs.look ctx).block = .op n → (s.ctrs.look (s.ops.look (ctx * 64 + n)).arg).dom = some (s.runs.look ctx).dom →
      (s.ctrs.look (s.ops.look (ctx * 64 + n)).arg).val.toNat < (s.ops.look (ctx * 64 + n)).x.operand.toNat →
      s.completes (.waitTimeout ctx) fun t =>
        (t.runs.look ctx).st = .ready ∧ (t.runs.look ctx).rg 15 = g15 stTimeout 0x40 0 ∧ (t.runs.look ctx).pc = (s.runs.look ctx).nextPc ∧ (t.runs.look ctx).waitOn = none ∧
        t.opsOf ctx = []) ∧
    (∀ (ctx n d : Nat) (w : Owner), ctx ≤ 8192 → n < 64 → s.opsOf ctx = [ctx * 64 + n] → (s.ops.look (ctx * 64 + n)).live = true → (s.ops.look (ctx * 64 + n)).fin = none →
      (s.ops.look (ctx * 64 + n)).opcode = 0x60 → (s.ops.look (ctx * 64 + n)).due = 1 → (s.ops.look (ctx * 64 + n)).tag = 0 → (s.ops.look (ctx * 64 + n)).sigl = false →
      (s.ops.look (ctx * 64 + n)).noCtr = false → (s.ops.look (ctx * 64 + n)).reporting = false → (s.ops.look (ctx * 64 + n)).rd = some d → d ≠ 0 → d ≠ 15 →
      (s.runs.look ctx).st = .blocked → (s.runs.look ctx).block = .op n → (s.locks.look (s.ops.look (ctx * 64 + n)).arg).owner = some w →
      s.completes (.lockTimeout ctx) fun t =>
        (t.runs.look ctx).st = .ready ∧ (t.runs.look ctx).rg 15 = g15 stTimeout 0x60 0 ∧ (t.runs.look ctx).rg d = BitVec.ofNat 64 w.master ∧
        (t.runs.look ctx).pc = (s.runs.look ctx).nextPc ∧ t.opsOf ctx = []) ∧
    (∀ ctx : Nat, ctx < 8192 → (s.runs.look ctx).st = .ending → (s.runs.look ctx).reported = false → s.opsOf ctx = [] → (s.runs.look ctx).wq ≠ 4 →
      (s.wqs.look (s.runs.look ctx).wq).st = .running → (s.runs.look ctx).evmode = 0 → (s.runs.look ctx).ctrEn = false →
      s.gives (.runFree ctx) { s with runs := s.runs.del ctx, gens := s.gens.put ctx ((s.gens.look ctx + 1) % 65536) }) ∧
    (∀ (ctx e : Nat) (ev : Ev), ctx < 8192 → (s.runs.look ctx).st = .ending → (s.runs.look ctx).reported = false → s.opsOf ctx = [] →
      (s.wqs.look (s.runs.look ctx).wq).st = .running → s.eventsTo (s.runs.look ctx).wq e → (s.runs.look ctx).evmode = 2 →
      ev = ⟨packW [(0, 1), (8, (s.runs.look ctx).endSt % 256), (16, 0), (32, (s.runs.look ctx).wq % 65536), (48, (s.runs.look ctx).pc % 4096)],
        packW [(0, 0), (32, (s.runs.look ctx).idx % 2 ^ 32)], BitVec.ofNat 64 (s.runs.look ctx).etag, s.timeWord, .entry ctx⟩ →
      s.completes (.runFree ctx) fun t => (t.eqs.look e).held = (s.eqs.look e).held ++ [ev] ∧ (t.runs.look ctx).reported = true)

/-- A run that met a fault of its own parks with the faulting address and program counter (R111); a resume makes it READY, an abort ends it ABORTED, and the result
register says so (R114 to R116). The program cache is invalidated whole or by address space (R94). The sideband starts its run with the registers it has set
(R120). An uncorrectable error in a context ends its run ABORTED, source 0x048; one in a cluster fences it and ends its runs, source 0x049 (R107, R108). -/
def Obligations.ParkingAndErrors : Prop :=
  ∀ (s : State), s.calm →
    (∀ (ctx : Nat) (f : RunFault), ctx < 8192 → (s.runs.look ctx).st = .running → (s.runs.look ctx).faults = [f] → f.eng = 0 →
      (s.eqs.look (s.pas.look ((s.runs.look ctx).pasid.getD 0)).faultEq).st = .free →
      s.gives (.runPark ctx) (s.updRun ctx fun r => { r with
        prev := .running, prevBlock := .none, st := .parked, block := .none, preempt := false, faults := [], parks := min (r.parks + 1) 255, faultPc := f.pc, faultVa := f.va })) ∧
    (∀ (o : Origin) (ctx : Nat), ctx < 8192 → s.mayWrite o 0x200300 → okOrigin o = true → (s.runs.look ctx).st = .parked → (s.runs.look ctx).parkedOps = [] →
      (s.runs.look ctx).deferred = [] → (s.runs.look ctx).doneParked = false → (s.runs.look ctx).prev = .running →
      s.completes (.runResume o (BitVec.ofNat 32 (s.handle ctx))) fun t =>
        t.runs.look ctx = { s.runs.look ctx with st := .ready, block := .none, readySeq := s.readyCtr } ∧ t.get F.SEQ_RUN_CMD_RESULT_RESULT = 0 ∧
        t.get F.SEQ_RUN_CMD_RESULT_CMD = 0 ∧ t.get F.SEQ_RUN_CMD_RESULT_HANDLE = s.handle ctx) ∧
    (∀ (o : Origin) (ctx : Nat), ctx < 8192 → s.mayWrite o 0x200308 → okOrigin o = true → (s.runs.look ctx).st = .parked → (s.runs.look ctx).parkedOps = [] →
      (s.runs.look ctx).prev = .running → s.unladen ctx → s.locks = [] →
      s.completes (.runAbort o (BitVec.ofNat 32 (s.handle ctx))) fun t =>
        (t.runs.look ctx).st = .ending ∧ (t.runs.look ctx).endSt = stAborted ∧ (t.runs.look ctx).outside = true ∧ t.get F.SEQ_RUN_CMD_RESULT_RESULT = 0 ∧
        t.get F.SEQ_RUN_CMD_RESULT_CMD = 1) ∧
    (∀ o : Origin, s.mayWrite o 0x200210 → okOrigin o = true → s.accs = [] →
      s.completes (.pcacheInvalidate o (bitW 61)) fun t => t.pcache = [] ∧ t.runs = s.runs ∧ t.accs = []) ∧
    (∀ (o : Origin) (p : Nat), p < 2 ^ 20 → s.mayWrite o 0x200210 → okOrigin o = true → s.accs = [] →
      s.completes (.pcacheInvalidate o (BitVec.ofNat 64 p)) fun t => t.pcache = s.pcache.filter (fun l => l.1 != p) ∧ t.runs = s.runs) ∧
    (s.mayWrite .sideband 0x2010C0 → s.get F.SEQ_SB_CTRL_STATE = 0 → s.halted = false → s.sealed = false → s.mode ≠ 0 →
      s.completes (.sidebandRunStart .sideband) fun t =>
        (t.runs.look sbCtx).st = .running ∧ (t.runs.look sbCtx).pc = 0 ∧ (t.runs.look sbCtx).steps = 0 ∧ (t.runs.look sbCtx).prog = .sideband ∧
        (∀ n : Nat, n < 14 → (t.runs.look sbCtx).rg (n + 1) = s.reg (0x201040 + 8 * n)) ∧ (t.runs.look sbCtx).rg 15 = 0 ∧ t.get F.SEQ_SB_CTRL_STATE = 1) ∧
    (∀ ctx : Nat, ctx < 8192 → (s.runs.look ctx).st = .running → s.unladen ctx → s.locks = [] →
      s.completes (.seqCtxEcc ctx) fun t =>
        (t.runs.look ctx).st = .ending ∧ (t.runs.look ctx).endSt = stAborted ∧ t.flag (fltPend 0x048) = true ∧ t.mode = s.mode) ∧
    (∀ c : Nat, c < 16 → s.mode = 2 → s.sealed = false → s.halted = false → s.ops = [] → s.locks = [] →
      s.completes (.seqClusterEcc c) fun t =>
        c ∈ t.fenced ∧ t.flag (fltPend 0x049) = true ∧ t.mode = 4 ∧ t.get F.DEV_MODE_RETURN = 2 ∧
        (∀ k ∈ s.runs.keysOf (fun r => r.st == .running && r.cluster == c && r.wq != 65536), (s.runs.look k).st = .running → (t.runs.look k).st = .ending))

/-! ### Queues, events and counters (spec/06) -/

/-- A command of a register command set whose conditions hold completes with RESULT OK and BUSY 0: CREATE_WQ records the queue STOPPED with the control block's
configuration (R168, R169); START_WQ takes the configuration again and the queue RUNNING, scheduled if PRODUCER is ahead (R170, R176); STOP_WQ leaves an idle
queue STOPPED with its CONSUMER (R190); RESET_WQ passes the entries up to PRODUCER (R560); DESTROY_WQ leaves it FREE; CREATE_EQ records an ACTIVE event queue
with the set's arguments, DESTROY_EQ forgets one that nothing names (R205). -/
def Obligations.QueueCommands : Prop :=
  ∀ (s : State) (r index : Nat), s.mayCommand → s.setsIdle r → index < 65536 →
    (∀ (ws : List Word) (d : Nat) (w : Wq), index ≠ 4 → (s.wqs.look index).st = .free → s.get (F.QUE_CMD_ARG0_ADDR r) % 64 = 0 →
      s.get (F.QUE_CMD_ARG1_FUNCTION r) ≤ s.get (F.DEV_HOSTPORT_NUMVF (s.get (F.QUE_CMD_ARG1_PORT r))) → (s.pas.look (s.get (F.QUE_CMD_ARG1_PASID r))).dom = some d →
      s.fnDom (s.get (F.QUE_CMD_ARG1_PORT r)) (s.get (F.QUE_CMD_ARG1_FUNCTION r)) = some d →
      (index ≤ 3 → s.get (F.QUE_CMD_ARG1_FUNCTION r) = 0 ∧ s.get (F.QUE_CMD_ARG1_PORT r) = index ∧ d = 0) → qcbFieldsOk ws = true →
      w = { (default : Wq) with
        st := .stopped, qcb := s.get (F.QUE_CMD_ARG0_ADDR r), pasid := s.get (F.QUE_CMD_ARG1_PASID r), port := s.get (F.QUE_CMD_ARG1_PORT r)
        fn := s.get (F.QUE_CMD_ARG1_FUNCTION r), c := (ws.getD 1 0).toNat % 2 ^ 32, prod := (ws.getD 1 0).toNat % 2 ^ 32, base := (ws.getD 2 0).toNat
        log2 := wbits (ws.getD 3 0) 4 0, own := wbit (ws.getD 3 0) 5, weight := wbits (ws.getD 3 0) 15 8, burst := wbits (ws.getD 3 0) 22 16
        conc := wbits (ws.getD 3 0) 30 24, poll := wbits (ws.getD 3 0) 38 32, lockPrio := wbits (ws.getD 3 0) 42 40, eq := wbits (ws.getD 3 0) 61 48
        eqEn := wbit (ws.getD 3 0) 62, pollLeft := wbits (ws.getD 3 0) 38 32 } →
      (w.eqEn = true → (s.eqs.look w.eq).st = .active ∧ (s.eqs.look w.eq).dom = d) →
      s.gives (.createWq r index (.ok ws)) { s.queDone r 0 index with wqs := s.wqs.put index w }) ∧
    (∀ ws : List Word, index ≠ 4 → (s.wqs.look index).st = .stopped → qcbFieldsOk ws = true → wbit (ws.getD 3 0) 62 = false → wbit (ws.getD 3 0) 5 = false →
      fwd 32 (s.wqs.look index).c ((ws.getD 0 0).toNat % 2 ^ 32) ≤ 2 ^ wbits (ws.getD 3 0) 4 0 →
      s.gives (.startWq r index (.ok ws)) { s.queDone r 1 index with wqs := s.wqs.upd index fun w => { w with
        st := .running, found := none, prod := (ws.getD 0 0).toNat % 2 ^ 32, sched := decide (fwd 32 w.c ((ws.getD 0 0).toNat % 2 ^ 32) ≠ 0) || w.rang
        base := (ws.getD 2 0).toNat, log2 := wbits (ws.getD 3 0) 4 0, own := false, weight := wbits (ws.getD 3 0) 15 8, burst := wbits (ws.getD 3 0) 22 16
        conc := wbits (ws.getD 3 0) 30 24, poll := wbits (ws.getD 3 0) 38 32, lockPrio := wbits (ws.getD 3 0) 42 40, eq := wbits (ws.getD 3 0) 61 48
        eqEn := false, pollLeft := wbits (ws.getD 3 0) 38 32 } }) ∧
    (index ≠ 4 → (s.wqs.look index).st = .running → s.runs = [] →
      s.completes (.stopWq r index) fun t =>
        (t.wqs.look index).st = .stopped ∧ (t.wqs.look index).c = (s.wqs.look index).c % 2 ^ 32 ∧ (t.wqs.look index).owed = [] ∧
        t.get (F.QUE_CMD_BUSY r) = 0 ∧ t.get (F.QUE_CMD_RESULT r) = 0) ∧
    (∀ p : Nat, index ≠ 4 → (s.wqs.look index).st = .running → s.runs = [] → s.locks = [] → (s.wqs.look index).eqEn = false → p < 2 ^ 32 → fwd 32 (s.wqs.look index).c p ≤ 1 →
      s.completes (.resetWq r index (.ok [BitVec.ofNat 64 p])) fun t =>
        (t.wqs.look index).st = .stopped ∧ (t.wqs.look index).c = ((s.wqs.look index).c + fwd 32 (s.wqs.look index).c p) % 2 ^ 32 ∧ (t.wqs.look index).owed = [] ∧
        t.get (F.QUE_CMD_BUSY r) = 0 ∧ t.get (F.QUE_CMD_RESULT r) = 0) ∧
    (∀ p : Nat, index ≠ 4 → (s.wqs.look index).st = .stopped → s.runs = [] → s.locks = [] → (s.wqs.look index).eqEn = false → p < 2 ^ 32 → fwd 32 (s.wqs.look index).c p ≤ 1 →
      s.completes (.destroyWq r index (.ok [BitVec.ofNat 64 p])) fun t =>
        (t.wqs.look index).st = .free ∧ t.get (F.QUE_CMD_BUSY r) = 0 ∧ t.get (F.QUE_CMD_RESULT r) = 0) ∧
    (∀ slot d : Nat, index < 16384 → slot < 512 → (s.eqs.look index).st = .free → s.get (F.QUE_CMD_ARG0_ADDR r) % 4096 = 0 → 6 ≤ s.get (F.QUE_CMD_ARG1_LOG2_SIZE r) →
      s.get (F.QUE_CMD_ARG1_LOG2_SIZE r) ≤ 20 → s.get (F.QUE_CMD_ARG1_FUNCTION r) ≤ s.get (F.DEV_HOSTPORT_NUMVF (s.get (F.QUE_CMD_ARG1_PORT r))) →
      s.get (F.QUE_CMD_ARG1_MOD_COUNT r) ≠ 0 → s.get (F.QUE_CMD_ARG1_VECTOR r) < (if s.get (F.QUE_CMD_ARG1_FUNCTION r) = 0 then 2048 else 64) →
      (s.get (F.QUE_CMD_ARG1_FUNCTION r) = 0 ∨
        (s.eqs.vals.any fun q => q.st != .free && q.port == s.get (F.QUE_CMD_ARG1_PORT r) && q.fn == s.get (F.QUE_CMD_ARG1_FUNCTION r) && q.vfslot == some slot) = false) →
      s.fnDom (s.get (F.QUE_CMD_ARG1_PORT r)) (s.get (F.QUE_CMD_ARG1_FUNCTION r)) = some d →
      s.gives (.createEq r index slot) { (s.queDone r 5 index).put (F.QUE_CMD_VFSLOT r) slot with eqs := s.eqs.put index { (default : Evq) with
        st := .active, pasid := s.get (F.QUE_CMD_ARG1_PASID r), port := s.get (F.QUE_CMD_ARG1_PORT r), fn := s.get (F.QUE_CMD_ARG1_FUNCTION r), dom := d
        base := s.get (F.QUE_CMD_ARG0_ADDR r), log2 := s.get (F.QUE_CMD_ARG1_LOG2_SIZE r), vector := s.get (F.QUE_CMD_ARG1_VECTOR r)
        modCount := s.get (F.QUE_CMD_ARG1_MOD_COUNT r), modStages := s.get (F.QUE_CMD_ARG1_MOD_STAGES r)
        vfslot := if s.get (F.QUE_CMD_ARG1_FUNCTION r) = 0 then none else some slot } }) ∧
    (index < 16384 → (s.eqs.look index).st ≠ .free → (s.eqs.look index).held = [] → (s.wqs.vals.any fun w => w.st != .free && w.eqEn && w.eq == index) = false →
      (s.pas.vals.any fun p => p.st != .free && p.faultEq == index) = false →
      s.gives (.destroyEq r index) { s.queDone r 6 index with eqs := s.eqs.del index })

/-- A CONSUMER write within the events written moves the index (R201), another is dropped, source 0x045; ARM with nothing to report arms the queue, with events
waiting it sends the message at once, and so does the moderation time of an armed queue (R202, R36). A write of a counter that is D0000's or unbound sets it
(R204), another is dropped, source 0x046. A doorbell of the owner schedules a RUNNING queue (R175, R176); one for another page is dropped, source 0x040 (R33). -/
def Obligations.EventQueuesAndCounters : Prop :=
  ∀ (s : State), s.calm →
    (∀ (o : Origin) (e : Nat) (v : Word), e < 16384 → s.mayWrite o (0x120000 + 8 * e) → okOrigin o = true → (s.eqs.look e).st = .active → (s.eqs.look e).held = [] →
      wbit v 63 = false → fwd 32 (s.eqs.look e).cons (wbits v 31 0) ≤ fwd 32 (s.eqs.look e).cons (s.eqs.look e).prod →
      s.gives (.eqConsumerWrite o e v) { s with eqs := s.eqs.upd e fun q => { q with cons := wbits v 31 0 } }) ∧
    (∀ (o : Origin) (e : Nat) (v : Word), e < 16384 → s.mayWrite o (0x120000 + 8 * e) → okOrigin o = true → (s.eqs.look e).st = .active →
      wbit v 63 = false → fwd 32 (s.eqs.look e).cons (s.eqs.look e).prod < fwd 32 (s.eqs.look e).cons (wbits v 31 0) → s.givesFault (.eqConsumerWrite o e v) s 0x045) ∧
    (∀ (o : Origin) (e : Nat), e < 16384 → s.mayWrite o (0x120000 + 8 * e) → s.regOpen o (0x120004 + 8 * e) true = true → okOrigin o = true → (s.eqs.look e).st = .active →
      (s.eqs.look e).prod = (s.eqs.look e).cons →
      s.gives (.eqArm o e) { s with eqs := s.eqs.upd e fun q => { q with arm := true, since := 0, sinceStages := 0 } }) ∧
    (∀ (o : Origin) (e : Nat), e < 16384 → s.mayWrite o (0x120000 + 8 * e) → s.regOpen o (0x120004 + 8 * e) true = true → okOrigin o = true → (s.eqs.look e).st = .active →
      (s.eqs.look e).prod ≠ (s.eqs.look e).cons → s.vectorOpen (s.eqs.look e).port (s.eqs.look e).fn (s.eqs.look e).vector →
      s.gives (.eqArm o e) { s.out (.msix (s.eqs.look e).port (s.eqs.look e).fn (s.eqs.look e).vector) with
        eqs := s.eqs.upd e fun q => { q with arm := false, since := 0, sinceStages := 0 } }) ∧
    (∀ e : Nat, e < 16384 → (s.eqs.look e).arm = true → 1 ≤ (s.eqs.look e).since → 1 ≤ (s.eqs.look e).modStages → (s.eqs.look e).modStages ≤ (s.eqs.look e).sinceStages →
      s.vectorOpen (s.eqs.look e).port (s.eqs.look e).fn (s.eqs.look e).vector →
      s.gives (.eqModerationTimeout e) { s.out (.msix (s.eqs.look e).port (s.eqs.look e).fn (s.eqs.look e).vector) with eqs := s.eqs.upd e fun q => { q with arm := false } }) ∧
    (∀ (o : Origin) (r : Nat) (v : Word), r < 5 → s.mayWrite o (0x100020 + 64 * r) → okOrigin o = true → (s.ctrs.look (s.get (F.QUE_CTR_SEL_COUNTER r))).dom.getD 0 = 0 →
      s.unwaited (s.get (F.QUE_CTR_SEL_COUNTER r)) →
      s.gives (.counterWrite o r v) { s with ctrs := s.ctrs.upd (s.get (F.QUE_CTR_SEL_COUNTER r)) fun c => { c with val := v } }) ∧
    (∀ (o : Origin) (r : Nat) (v : Word), r < 5 → s.mayWrite o (0x100020 + 64 * r) → okOrigin o = true → (s.ctrs.look (s.get (F.QUE_CTR_SEL_COUNTER r))).dom.getD 0 ≠ 0 →
      s.givesFault (.counterWrite o r v) s 0x046) ∧
    (∀ p q : Nat, p < 4 → q < 65536 → q ≠ 4 → s.halted = false → s.sealed = false → (s.wqs.look q).st = .running → (s.wqs.look q).port = p → (s.wqs.look q).own = false →
      s.gives (.doorbell ⟨p, 0, q / 16, BitVec.ofNat 32 q, true⟩) { s with wqs := s.wqs.upd q fun w => { w with sched := true, rang := true } }) ∧
    (∀ p q page : Nat, p < 4 → q < 65536 → page < 65536 → page ≠ q / 16 → s.halted = false → s.sealed = false →
      s.givesFault (.doorbell ⟨p, 0, page, BitVec.ofNat 32 q, true⟩) s 0x040)

/-- A turn of an eligible queue that has seen no entry reads PRODUCER at its control block (R172, R187); a PRODUCER that is not ahead ends the turn, one that is
ahead has the entry at C read from its slot (R171, R187). A well-formed inline entry starts a run with its program, parameters, limit and tags, registers zero,
and C moves on (R173, R180, R188). Ownership-bit mode polls the header at C (R178). -/
def Obligations.QueueService : Prop :=
  ∀ (s : State) (q pa : Nat), s.calm → q < 65536 →
    ((s.wqs.look q).own = false → (s.wqs.look q).c = (s.wqs.look q).prod → s.eligible q = true → ((s.wqs.look q).boost = true ∨ (s.wqs.keys.any fun j => (s.wqs.look j).boost && s.eligible j) = false) →
      (s.wqs.look q).used < max (s.wqs.look q).weight 1 → s.maps (s.wqs.look q).pasid ((s.pas.look (s.wqs.look q).pasid).dom.getD 0) .read (s.wqs.look q).qcb 4 pa →
      s.completes (.wqTurn q) fun t =>
        (.hostRead s.nextId (s.pas.look (s.wqs.look q).pasid).port (s.pas.look (s.wqs.look q).pasid).fn [(pa, 4)]) ∈ s.newOuts t ∧
        t.wqs = s.wqs.upd q fun w => { w with used := w.used + 1, turn := w.burst, took := false, rang := false, reading := true }) ∧
    (∀ id va p : Nat, (s.accs.look id).st = .issued → (s.accs.look id).client = .prod q → (s.accs.look id).orig = [(va, 4)] → (s.wqs.look q).st = .running → (s.wqs.look q).own = false →
      p < 2 ^ 32 → p = (s.wqs.look q).c → (s.wqs.look q).took = false →
      s.gives (.producerReadReturn id (.ok [BitVec.ofNat 64 p])) { s with
        wqs := s.wqs.upd q fun w => { w with reading := false, prod := p, sched := w.rang, turn := 0, took := false }, accs := s.accs.del id }) ∧
    (∀ id va p : Nat, (s.accs.look id).st = .issued → (s.accs.look id).client = .prod q → (s.accs.look id).orig = [(va, 4)] → (s.wqs.look q).st = .running → (s.wqs.look q).own = false →
      p < 2 ^ 32 → (s.wqs.look q).c < 2 ^ 32 → fwd 32 (s.wqs.look q).c p ≠ 0 → fwd 32 (s.wqs.look q).c p ≤ 2 ^ (s.wqs.look q).log2 → (s.wqs.look q).turn ≠ 0 →
      s.liveCount q < (s.wqs.look q).conc → s.freeContext.isSome = true →
      s.maps (s.wqs.look q).pasid ((s.pas.look (s.wqs.look q).pasid).dom.getD 0) .read ((s.wqs.look q).base + (s.wqs.look q).c % 2 ^ (s.wqs.look q).log2 * 64) 64 pa →
      s.completes (.producerReadReturn id (.ok [BitVec.ofNat 64 p])) fun t =>
        (.hostRead s.nextId (s.pas.look (s.wqs.look q).pasid).port (s.pas.look (s.wqs.look q).pasid).fn [(pa, 64)]) ∈ s.newOuts t ∧
        (t.wqs.look q).prod = p ∧ (t.wqs.look q).sched = true ∧ (t.wqs.look q).reading = true ∧ (t.wqs.look q).c = (s.wqs.look q).c) ∧
    (∀ (id va ctx d : Nat) (ws : List Word), (s.accs.look id).st = .issued → (s.accs.look id).client = .entry q → (s.accs.look id).orig = [(va, 64)] → ws.length = 8 →
      (s.wqs.look q).st = .running → (s.wqs.look q).own = false → s.freeContext = some ctx → (s.pas.look (s.wqs.look q).pasid).st = .active →
      (s.pas.look (s.wqs.look q).pasid).dom = some d → s.entryOk d ws = true → wbits (ws.getD 0 0) 62 61 = 0 → wbits (ws.getD 0 0) 54 42 = 0 → (s.wqs.look q).turn = 1 →
      s.maps (s.wqs.look q).pasid d .write ((s.wqs.look q).qcb + 8) 4 pa → s.portUp (s.pas.look (s.wqs.look q).pasid).port = true →
      (s.fnOf (s.pas.look (s.wqs.look q).pasid).port (s.pas.look (s.wqs.look q).pasid).fn).bme = true →
      s.completes (.entryReadReturn id (.ok ws)) fun t =>
        (t.runs.look ctx).wq = q ∧ (t.runs.look ctx).idx = (s.wqs.look q).c ∧ (t.runs.look ctx).g = [] ∧ (t.runs.look ctx).pc = 0 ∧ (t.runs.look ctx).steps = 0 ∧
        (t.runs.look ctx).limit = s.stepLimit q ∧ (t.runs.look ctx).dom = d ∧ (t.runs.look ctx).pasid = some (s.wqs.look q).pasid ∧ (t.runs.look ctx).params = .none ∧
        (t.runs.look ctx).prog = .inline ((ws.drop 1).take (wbits (ws.getD 0 0) 60 58)) ∧ (t.runs.look ctx).etag = wbits (ws.getD 0 0) 15 0 ∧
        ((t.runs.look ctx).st = .running ∨ (t.runs.look ctx).st = .ready) ∧ (t.wqs.look q).c = ((s.wqs.look q).c + 1) % 2 ^ 32 ∧ (t.wqs.look q).turn = 0 ∧
        (.hostWrite (s.pas.look (s.wqs.look q).pasid).port (s.pas.look (s.wqs.look q).pasid).fn [(pa, 4)] (leBytes (((s.wqs.look q).c + 1) % 2 ^ 32) 4)) ∈ s.newOuts t) ∧
    ((s.wqs.look q).st = .running → (s.wqs.look q).own = true → (s.wqs.look q).reading = false → (s.wqs.look q).found = none → (s.wqs.look q).turn = 0 → (s.wqs.look q).pollLeft = 0 →
      s.mayStart q = true →
      s.maps (s.wqs.look q).pasid ((s.pas.look (s.wqs.look q).pasid).dom.getD 0) .read ((s.wqs.look q).base + (s.wqs.look q).c % 2 ^ (s.wqs.look q).log2 * 64) 8 pa →
      s.completes (.ownershipPoll q) fun t =>
        (.hostRead s.nextId (s.pas.look (s.wqs.look q).pasid).port (s.pas.look (s.wqs.look q).pasid).fn [(pa, 8)]) ∈ s.newOuts t ∧
        (t.wqs.look q).pollLeft = (s.wqs.look q).poll ∧ (t.wqs.look q).reading = true)

/-! ### Host ports, functions, TDISP and IDE (spec/02, spec/15, spec/22) -/

/-- A link comes up with its rate and width recorded (R28); when it goes down, or on a hot reset, every function of the port loses its configuration, a locked TDI
enters ERROR, secure IDE streams become Insecure and SR-IOV is cleared (R29), here with no queue, group or lock for the reset to end. A function-level reset and
a clear of VF Enable do so for their functions (R31). A vector unmasked with its pending bit set sends its message, and so does a function whose Bus Master
Enable or MSI-X Enable is set (R36). Configuration writes set their bits; VF Enable publishes NumVFs. A walk's read without a completion is a bus error: its
address space enters ERROR, source 0x080 (R231, R559). TDISP locks, starts and stops a TDI with a secure stream (R445 to R447). -/
def Obligations.HostPortEvents : Prop :=
  ∀ (s : State) (port : Nat), s.calm → port < 4 →
    (∀ rate width : Nat, ∀ flit : Bool, 1 ≤ rate → rate ≤ 6 → 1 ≤ width → width ≤ 5 → (s.ports.look port).up = false → s.mode ≠ 0 → s.pdHost port ≠ 2 → s.pdHost port ≠ 3 →
      s.gives (.hostLinkUp port rate width flit) (({ s with ports := s.ports.upd port fun h => { h with up := true } }.setReg (0x10220 + port * 8)
        (packW [(7, b2n (flit || rate == 6)), (6, b2n (decide (rate ≤ 3 ∨ width ≤ 2))), (3, width), (0, rate)])).fwdOnly)) ∧
    ((s.ports.look port).up = true → s.wqs = [] → s.grps = [] → s.locks = [] →
      s.gives (.hostLinkDown port) (({ s with
        ports := (s.ports.upd port fun h => { h with up := false }).upd port fun h => { h with numVf := 0, vfEn := false, vfMse := false }
        ide := s.ide.map fun (e : Nat × Ide) => if e.1 / 256 = port && e.2.isSecure then (e.1, Ide.insecure) else e
        fns := (s.fns.keys.filter fun k => k / 129 == port).foldl (fun t k => t.upd k HostFn.cleared) s.fns }.setReg (0x10220 + port * 8) 0).fwdOnly)) ∧
    ((s.ports.look port).up = true → s.wqs = [] → s.grps = [] → s.locks = [] →
      s.gives (.hostHotReset port) (({ s with
        ports := (s.ports.upd port fun h => { h with up := false }).upd port fun h => { h with numVf := 0, vfEn := false, vfMse := false }
        ide := s.ide.map fun (e : Nat × Ide) => if e.1 / 256 = port && e.2.isSecure then (e.1, Ide.insecure) else e
        fns := (s.fns.keys.filter fun k => k / 129 == port).foldl (fun t k => t.upd k HostFn.cleared) s.fns }.setReg (0x10220 + port * 8) 0).fwdOnly)) ∧
    (∀ fn : Nat, fn ≤ 128 → s.wqs = [] → s.grps = [] → s.locks = [] →
      s.completes (.functionLevelReset port fn) fun t =>
        t = { s with fns := t.fns, regs := t.regs, outs := t.outs } ∧ t.fnOf port fn = (s.fnOf port fn).cleared ∧
        ∀ f : Nat, f ≤ 128 → f ≠ fn → t.fnOf port f = s.fnOf port f) ∧
    (s.wqs = [] → s.grps = [] → s.locks = [] →
      s.gives (.vfEnableClear port) ({ s with
        ports := s.ports.upd port fun h => { h with vfEn := false }
        fns := (s.fns.keys.filter fun k => k / 129 == port && k % 129 != 0).foldl (fun t k => t.upd k HostFn.cleared) s.fns }.put (F.DEV_HOSTPORT_NUMVF port) 0)) ∧
    (∀ fn vec : Nat, fn ≤ 128 → vec < (if fn = 0 then 2048 else 64) → (s.fnOf port fn).pend = [] →
      s.gives (.msixUnmask port fn vec) (s.updFn port fn fun h => { h with unmasked := if h.unmasked.contains vec then h.unmasked else vec :: h.unmasked })) ∧
    (∀ fn vec : Nat, fn ≤ 128 → vec < (if fn = 0 then 2048 else 64) → (s.fnOf port fn).pend = [vec] → (s.fnOf port fn).msixEn = true → (s.fnOf port fn).bme = true →
      (s.ports.look port).up = true → s.sealed = false →
      s.gives (.msixUnmask port fn vec) (((s.updFn port fn fun h => { h with unmasked := if h.unmasked.contains vec then h.unmasked else vec :: h.unmasked }).updFn port fn
        fun h => { h with pend := [] }).out (.msix port fn vec))) ∧
    (∀ fn : Nat, ∀ on : Bool, fn ≤ 128 → (s.fnOf port fn).pend = [] → s.gives (.configurationWrite (.busMaster port fn on)) (s.updFn port fn fun h => { h with bme := on })) ∧
    (∀ fn : Nat, ∀ on : Bool, fn ≤ 128 → (s.fnOf port fn).pend = [] → s.gives (.configurationWrite (.msixEnable port fn on)) (s.updFn port fn fun h => { h with msixEn := on })) ∧
    (∀ fn : Nat, ∀ on : Bool, fn ≤ 128 → s.gives (.configurationWrite (.memSpace port fn on)) (s.updFn port fn fun h => { h with mse := on })) ∧
    (∀ fn vec : Nat, fn ≤ 128 → vec < (if fn = 0 then 2048 else 64) →
      s.gives (.configurationWrite (.vecMask port fn vec)) (s.updFn port fn fun h => { h with unmasked := h.unmasked.erase vec })) ∧
    (∀ n : Nat, n ≤ 128 → (s.ports.look port).vfEn = false → s.gives (.configurationWrite (.numVfs port n)) { s with ports := s.ports.upd port fun h => { h with numVf := n } }) ∧
    (s.gives (.configurationWrite (.vfEnable port true))
        ({ s with ports := s.ports.upd port fun h => { h with vfEn := true } }.put (F.DEV_HOSTPORT_NUMVF port) (s.ports.look port).numVf)) ∧
    (∀ on : Bool, s.gives (.configurationWrite (.vfMemSpace port on)) { s with ports := s.ports.upd port fun h => { h with vfMse := on } }) ∧
    (∀ bars : List (Nat × Nat), s.gives (.configurationWrite (.barBase port bars)) { s with ports := s.ports.upd port fun h => { h with bars := bars } }) ∧
    (∀ id p : Nat, id < 2 ^ 59 → s.accs = [] → (s.walks.look id).live = true → (s.walks.look id).leaf = none → p = (s.walks.look id).pasid → (s.pas.look p).st = .active →
      s.givesFault (.completionTimeout id) { s with
        pas := s.pas.upd p fun a => { a with st := .error }, tlb := s.tlb.filter fun e => !(e.2.pasid == p), walks := s.walks.del id } 0x080) ∧
    (∀ vf stream : Nat, 1 ≤ vf → vf ≤ 128 → stream < 256 → s.flag F.SEC_POLICY_TDISP_EN = true → s.sealed = false → (s.fnOf port vf).tdi = .unlocked →
      (s.ide.look (port * 256 + stream)).isSecure = true →
      s.gives (.lockInterfaceRequest port vf stream) (s.updFn port vf fun h => { h with tdi := .locked, stream := some stream })) ∧
    (∀ vf stream : Nat, 1 ≤ vf → vf ≤ 128 → (s.fnOf port vf).tdi = .locked → s.sealed = false → (s.fnOf port vf).stream = some stream →
      (s.ide.look (port * 256 + stream)).isSecure = true → s.gives (.startInterfaceRequest port vf) (s.updFn port vf fun h => { h with tdi := .run })) ∧
    (∀ vf : Nat, 1 ≤ vf → vf ≤ 128 → s.gives (.stopInterfaceRequest port vf) (s.updFn port vf fun h => { h with tdi := .unlocked, stream := none })) ∧
    (∀ stream : Nat, ∀ set : Bool, stream < 256 → s.sealed = false → (s.sess.vals.any fun x => x.live && x.ready && x.via == port) = true →
      (s.ide.filter fun e => e.1 / 256 == port && e.2 != .none).length < 8 →
      s.gives (.ideKm port stream set) { s with ide := s.ide.put (port * 256 + stream) (.secure set) }) ∧
    (∀ stream : Nat, stream < 256 → s.ide.look (port * 256 + stream) ≠ .none →
      s.completes (.ideStreamInsecure port stream) fun t =>
        t = { s with ide := s.ide.put (port * 256 + stream) .insecure, fns := t.fns, regs := t.regs, outs := t.outs } ∧
        ∀ f : Nat, f ≤ 128 → t.fnOf port f = (if (s.fnOf port f).stream = some stream ∧ ((s.fnOf port f).tdi = .locked ∨ (s.fnOf port f).tdi = .run)
          then { s.fnOf port f with tdi := .error } else s.fnOf port f))

/-! ### Address translation (spec/07) -/

/-- CREATE of a free PASID whose function and fault queue agree records an ACTIVE address space with the arguments and no domain (R238). DESTROY of an unused one
unbinds it and invalidates it; SET_ROOT of an ACTIVE one replaces its root and format and invalidates it; both answer when the invalidation is done, and DESTROY
then leaves it FREE. CLEAR returns an address space in ERROR to ACTIVE with no TLB entry. QUERY leaves what the address space is in the arguments and INFO.
RETRY tries again what is held, here nothing. An invalidation removes every TLB entry and program line in its scope: all, a PASID, a page, or a range of bytes,
an empty range nothing (R224); its set is BUSY until it is done (R225). -/
def Obligations.AddressSpaceCommands : Prop :=
  ∀ (s : State) (r p : Nat), s.asIdle r →
    (s.get (F.MMU_AS_ARG1_PASID r) = p → (s.pas.look p).st = .free → s.get (F.MMU_AS_ARG1_FUNCTION r) ≤ s.get (F.DEV_HOSTPORT_NUMVF (s.get (F.MMU_AS_ARG1_PORT r))) →
      (s.eqs.look (s.get (F.MMU_AS_ARG1_FAULT_EQ r))).st = .active → (s.eqs.look (s.get (F.MMU_AS_ARG1_FAULT_EQ r))).port = s.get (F.MMU_AS_ARG1_PORT r) →
      (s.eqs.look (s.get (F.MMU_AS_ARG1_FAULT_EQ r))).fn = s.get (F.MMU_AS_ARG1_FUNCTION r) → s.pas.count (fun a => a.st != .free) < 16384 →
      s.gives (.mmuCreate r) { s.asDone r 0 with pas := s.pas.put p { (default : Pas) with
        st := .active, port := s.get (F.MMU_AS_ARG1_PORT r), fn := s.get (F.MMU_AS_ARG1_FUNCTION r), root := s.get (F.MMU_AS_ARG0_ROOT r) * 4096
        lv5 := s.flag (F.MMU_AS_ARG0_LEVELS5 r), preset := s.flag (F.MMU_AS_ARG0_PRESET r), retryAfter := max (s.get (F.MMU_AS_ARG1_RETRY_AFTER r)) 1
        faultEq := s.get (F.MMU_AS_ARG1_FAULT_EQ r), dom := none, seen := [] } }) ∧
    (s.get (F.MMU_AS_ARG1_PASID r) = p → (s.pas.look p).st ≠ .free → (s.wqs.vals.any fun w => w.st != .free && w.pasid == p) = false →
      (s.eqs.vals.any fun q => q.st != .free && q.pasid == p) = false → (s.runs.vals.any fun x => x.st == .parked && x.pasid == some p) = false →
      s.gives (.mmuDestroy r) ({ s.invBegun (.pasid p) { (default : Inval) with bySet := some r, cmd := 1, pasid := p } with
        pas := s.pas.put p { s.pas.look p with dom := none } }.put (F.MMU_AS_CMD_OP r) 1 |>.put (F.MMU_AS_CMD_BUSY r) 1)) ∧
    (s.get (F.MMU_AS_ARG1_PASID r) = p → (s.pas.look p).st = .error →
      s.gives (.mmuClear r) { s.asDone r 2 with pas := s.pas.put p { s.pas.look p with st := .active }, tlb := s.tlb.filter fun e => !(e.2.pasid == p) }) ∧
    (s.get (F.MMU_AS_ARG1_PASID r) = p → (s.pas.look p).st = .free → s.gives (.mmuQuery r) ((s.asDone r 3).setReg (0x300118 + 64 * r) 0)) ∧
    (s.get (F.MMU_AS_ARG1_PASID r) = p → (s.pas.look p).st = .active → (s.pas.look p).root < 2 ^ 52 → (s.pas.look p).root % 4096 = 0 → (s.pas.look p).fn ≤ 128 →
      (s.pas.look p).port < 4 → (s.pas.look p).faultEq < 16384 → (s.pas.look p).retryAfter < 65536 → (s.pas.look p).dom.getD 0 < 65536 →
      s.completes (.mmuQuery r) fun t =>
        t = { s with regs := t.regs, outs := t.outs } ∧ t.get (F.MMU_AS_ARG0_ROOT r) * 4096 = (s.pas.look p).root ∧ t.flag (F.MMU_AS_ARG0_LEVELS5 r) = (s.pas.look p).lv5 ∧
        t.flag (F.MMU_AS_ARG0_PRESET r) = (s.pas.look p).preset ∧ t.get (F.MMU_AS_ARG1_PORT r) = (s.pas.look p).port ∧ t.get (F.MMU_AS_ARG1_FUNCTION r) = (s.pas.look p).fn ∧
        t.get (F.MMU_AS_ARG1_FAULT_EQ r) = (s.pas.look p).faultEq ∧ t.get (F.MMU_AS_CMD_RESULT r) = 0 ∧ t.get (F.MMU_AS_CMD_BUSY r) = 0 ∧
        wbits (t.reg (0x300118 + 64 * r)) 1 0 = 1 ∧ wbit (t.reg (0x300118 + 64 * r)) 2 = (s.pas.look p).dom.isSome ∧
        wbits (t.reg (0x300118 + 64 * r)) 31 16 = (s.pas.look p).dom.getD 0) ∧
    (s.get (F.MMU_AS_ARG1_PASID r) = p → (s.pas.look p).st = .active →
      s.gives (.setRoot r) ({ s.invBegun (.pasid p) { (default : Inval) with bySet := some r, cmd := 2, pasid := p } with
        pas := s.pas.put p { s.pas.look p with
          root := s.get (F.MMU_AS_ARG0_ROOT r) * 4096, lv5 := s.flag (F.MMU_AS_ARG0_LEVELS5 r), preset := s.flag (F.MMU_AS_ARG0_PRESET r) } }.put (F.MMU_AS_CMD_OP r) 4
        |>.put (F.MMU_AS_CMD_BUSY r) 1)) ∧
    (s.get (F.MMU_AS_ARG1_PASID r) = p → (s.pas.look p).st = .active → s.msgs = [] → s.cvys = [] → s.gives (.mmuRetry r) (s.asDone r 5)) ∧
    (s.get (F.MMU_AS_ARG1_PASID r) = p → (s.pas.look p).st ≠ .active →
      s.gives (.mmuRetry r) (((s.put (F.MMU_AS_CMD_OP r) 5).put (F.MMU_AS_CMD_BUSY r) 0).put (F.MMU_AS_CMD_RESULT r) 1)) ∧
    (s.get (F.MMU_INV_PASID r) = p →
      s.gives (.mmuInvAll r) ((s.invBegun .all { (default : Inval) with bySet := some r, pasid := p }).put (F.MMU_INV_SCOPE r) 0 |>.put (F.MMU_INV_BUSY r) 1)) ∧
    (s.get (F.MMU_INV_PASID r) = p →
      s.gives (.mmuInvPasid r) ((s.invBegun (.pasid p) { (default : Inval) with bySet := some r, pasid := p }).put (F.MMU_INV_SCOPE r) 1 |>.put (F.MMU_INV_BUSY r) 1)) ∧
    (s.get (F.MMU_INV_PASID r) = p →
      s.gives (.mmuInvPage r) ((s.invBegun (.range p (s.get (F.MMU_INV_ADDR_ADDR r) / 4096) (s.get (F.MMU_INV_ADDR_ADDR r) / 4096))
        { (default : Inval) with bySet := some r, pasid := p }).put (F.MMU_INV_SCOPE r) 2 |>.put (F.MMU_INV_BUSY r) 1)) ∧
    (∀ n : Nat, s.get (F.MMU_INV_PASID r) = p → s.get (F.MMU_INV_LEN_LEN r) = n + 1 →
      s.gives (.mmuInvRange r) ((s.invBegun (.range p (s.get (F.MMU_INV_ADDR_ADDR r) / 4096) ((s.get (F.MMU_INV_ADDR_ADDR r) + n) / 4096))
        { (default : Inval) with bySet := some r, pasid := p }).put (F.MMU_INV_SCOPE r) 3 |>.put (F.MMU_INV_BUSY r) 1)) ∧
    (s.get (F.MMU_INV_LEN_LEN r) = 0 → s.gives (.mmuInvRange r) (s.put (F.MMU_INV_SCOPE r) 3))

/-- The end of an invalidation clears its set's BUSY, and after DESTROY leaves the PASID FREE with RESULT OK (R225, R238). A table entry that is present and no leaf
goes on to the next level's entry at the index bits of the address (R209, R212). A leaf that allows the access and needs no mark fills the first invalid TLB
entry with its page, frame and rights (R218, R219). A leaf whose Accessed bit is clear, or Dirty for a write, is marked by a compare and swap of the entry,
unless PRESET (R214); one that succeeds fills the TLB, one that fails walks again from the root (R215). -/
def Obligations.WalksAndInvalidations : Prop :=
  ∀ (s : State), s.calm →
    (∀ id r : Nat, (s.invals.look id).live = true → (s.invals.look id).waits = [] → (s.invals.look id).byOp = none → (s.invals.look id).bySet = some r → (s.invals.look id).cmd = 0 →
      s.gives (.invalidationDone id) ({ s with invals := s.invals.del id }.put (F.MMU_INV_BUSY r) 0)) ∧
    (∀ id r : Nat, (s.invals.look id).live = true → (s.invals.look id).waits = [] → (s.invals.look id).byOp = none → (s.invals.look id).bySet = some r → (s.invals.look id).cmd = 1 →
      s.gives (.invalidationDone id) (({ s with invals := s.invals.del id, pas := s.pas.del (s.invals.look id).pasid }.put (F.MMU_AS_CMD_BUSY r) 0).put (F.MMU_AS_CMD_RESULT r) 0)) ∧
    (∀ id r : Nat, (s.invals.look id).live = true → (s.invals.look id).waits = [] → (s.invals.look id).byOp = none → (s.invals.look id).bySet = some r → (s.invals.look id).cmd = 2 →
      s.gives (.invalidationDone id) (({ s with invals := s.invals.del id }.put (F.MMU_AS_CMD_BUSY r) 0).put (F.MMU_AS_CMD_RESULT r) 0)) ∧
    (∀ (id port fn entry : Nat) (e : Word), (s.walks.look id).live = true → (s.walks.look id).leaf = none → (s.pas.look (s.walks.look id).pasid).st = .active →
      (s.pas.look (s.walks.look id).pasid).port = port → (s.pas.look (s.walks.look id).pasid).fn = fn → wbit e 0 = true → wbit e 5 = false → (s.walks.look id).level = 3 →
      entry = wbits e 51 12 * 4096 + (s.walks.look id).va / 2 ^ 21 % 512 * 8 → s.walkAllowed port entry = true →
      s.gives (.walkReadReturn id (.ok [e])) ({ s with walks := s.walks.put id { s.walks.look id with level := 2, table := wbits e 51 12 * 4096 } }.out
        (.hostRead id port fn [(entry, 8)]))) ∧
    (∀ (id i : Nat) (e : Word), (s.walks.look id).live = true → (s.walks.look id).leaf = none → (s.pas.look (s.walks.look id).pasid).st = .active → s.accs = [] →
      wbit e 0 = true → wbit e 5 = true → wbits e 7 6 = 0 → (s.walks.look id).level = 1 → ((s.walks.look id).kind ≠ .write → wbit e 1 = true) → wbit e 3 = true →
      ((s.walks.look id).kind = .write ∨ (s.walks.look id).kind = .atomic → wbit e 2 = true ∧ wbit e 4 = true) → s.tlbFree = some i →
      s.gives (.walkReadReturn id (.ok [e])) { s with
        tlb := s.tlb.put i ⟨true, (s.walks.look id).pasid, (s.walks.look id).va / 4096, 0, wbits e 51 12, wbit e 1, wbit e 2, wbit e 4, wbit e 8⟩
        walks := s.walks.del id }) ∧
    (∀ (id port fn entry : Nat) (e : Word), (s.walks.look id).live = true → (s.walks.look id).leaf = none → (s.walks.look id).spec = false →
      (s.pas.look (s.walks.look id).pasid).st = .active → (s.pas.look (s.walks.look id).pasid).port = port → (s.pas.look (s.walks.look id).pasid).fn = fn →
      (s.pas.look (s.walks.look id).pasid).preset = false → wbit e 0 = true → wbit e 5 = true → wbits e 7 6 = 0 → (s.walks.look id).level = 1 → (s.walks.look id).kind = .write →
      wbit e 2 = true → (wbit e 3 && wbit e 4) = false → entry = (s.walks.look id).table + (s.walks.look id).va / 4096 % 512 * 8 → s.walkAllowed port entry = true →
      s.gives (.walkReadReturn id (.ok [e])) ({ s with walks := s.walks.put id { s.walks.look id with leaf := some e } }.out
        (.hostAtomic id port fn entry 11 8 (e ||| 24) e))) ∧
    (∀ (id i : Nat) (e : Word), (s.walks.look id).live = true → (s.walks.look id).leaf = some e → (s.pas.look (s.walks.look id).pasid).st = .active → s.accs = [] →
      (s.walks.look id).level = 1 → (s.walks.look id).kind = .write → s.tlbFree = some i →
      s.gives (.adCasReturn id (.ok [e])) { s with
        tlb := s.tlb.put i ⟨true, (s.walks.look id).pasid, (s.walks.look id).va / 4096, 0, wbits (e ||| 24) 51 12, wbit (e ||| 24) 1, wbit (e ||| 24) 2, true, wbit (e ||| 24) 8⟩
        walks := s.walks.del id }) ∧
    (∀ (id port fn : Nat) (e o : Word) (w : Walk), (s.walks.look id).live = true → (s.walks.look id).leaf = some e → o ≠ e → (s.pas.look (s.walks.look id).pasid).st = .active →
      (s.pas.look (s.walks.look id).pasid).port = port → (s.pas.look (s.walks.look id).pasid).fn = fn →
      (s.walks.look id).fails + 1 < max (s.get F.MMU_AD_CTRL_RETRY_LIMIT) 1 →
      w = { s.walks.look id with
        fails := (s.walks.look id).fails + 1, leaf := none, level := (if (s.pas.look (s.walks.look id).pasid).lv5 then 5 else 4)
        table := (s.pas.look (s.walks.look id).pasid).root } → s.walkAllowed port w.entryAt = true →
      s.gives (.adCasReturn id (.ok [o])) ({ s with walks := s.walks.put id w }.out (.hostRead id port fn [(w.entryAt, 8)])))

/-- A fill takes the invalid entry with the lowest index; if every entry is valid it takes entry LFSR[11:0] and the LFSR advances one step: left by one, with bit 15
XOR bit 13 XOR bit 12 XOR bit 10 of the old value in bit 0. A step of a 16-bit value that is not zero is not zero, so that the LFSR never stops, and two values
that step to the same one are the same. -/
def Obligations.ReplacementRegister : Prop :=
  (∀ (s : State) (e : Tlbe) (i : Nat), i < 4096 → (s.tlb.look i).valid = false → (∀ j : Nat, j < i → (s.tlb.look j).valid = true) →
    s.tlbFill e = { s with tlb := s.tlb.put i e }) ∧
  (∀ (s : State) (e : Tlbe), (∀ j : Nat, j < 4096 → (s.tlb.look j).valid = true) →
    s.tlbFill e = { s with tlb := s.tlb.put (s.get F.MMU_TLB_LFSR_VALUE % 4096) e }.put F.MMU_TLB_LFSR_VALUE (lfsrStep (s.get F.MMU_TLB_LFSR_VALUE))) ∧
  (∀ v k : Nat, v < 65536 → k < 15 → (lfsrStep v).testBit (k + 1) = v.testBit k) ∧
  (∀ v : Nat, lfsrStep v < 65536 ∧ (lfsrStep v).testBit 0 = (v.testBit 15 ^^ v.testBit 13 ^^ v.testBit 12 ^^ v.testBit 10)) ∧
  (∀ v : Nat, 0 < v → v < 65536 → lfsrStep v ≠ 0) ∧
  (∀ v w : Nat, v < 65536 → w < 65536 → lfsrStep v = lfsrStep w → v = w)

/-! ### Tag matching (spec/08) -/

/-- CREATE of a free context whose fields are in range, whose on-chip entries fit, and whose address space belongs to the function and has a domain records it
ENABLED and empty (R241, R269); a context that is not free answers RESULT 1. DESTROY of a context with empty lists leaves it FREE and forgets its predictor
entries (R258). CLEAR returns a context in ERROR to ENABLED with empty lists (R245). QUERY reports its domain, state and the lengths of its lists. -/
def Obligations.MatchContextCommands : Prop :=
  ∀ (s : State) (r c : Nat), s.ctxIdle r c →
    (∀ d : Nat, (s.mctx.look c).st = .free → s.get (F.MAT_CTX_ARG0_POOL_BASE r) % 4096 = 0 → s.get (F.MAT_CTX_ARG1_SPILL_BASE r) % 4096 = 0 →
      2 ≤ s.get (F.MAT_CTX_ARG2_ONCHIP_RES r) → 6 ≤ s.get (F.MAT_CTX_ARG2_SPILL_LOG2 r) → s.get (F.MAT_CTX_ARG2_SPILL_LOG2 r) ≤ 20 → s.get (F.MAT_CTX_ARG2_POOL_LOG2 r) ≤ 16 →
      12 ≤ s.get (F.MAT_CTX_ARG2_SLOT_LOG2 r) → s.get (F.MAT_CTX_ARG2_SLOT_LOG2 r) ≤ 16 →
      s.get (F.MAT_CTX_ARG3_FUNCTION r) ≤ s.get (F.DEV_HOSTPORT_NUMVF (s.get (F.MAT_CTX_ARG3_PORT r))) →
      s.mctx.vals.foldl (fun n x => if x.st = .free then n else n + x.res) 0 + s.get (F.MAT_CTX_ARG2_ONCHIP_RES r) ≤ 262144 →
      (s.pas.look (s.get (F.MAT_CTX_ARG3_PASID r))).port = s.get (F.MAT_CTX_ARG3_PORT r) → (s.pas.look (s.get (F.MAT_CTX_ARG3_PASID r))).fn = s.get (F.MAT_CTX_ARG3_FUNCTION r) →
      (s.pas.look (s.get (F.MAT_CTX_ARG3_PASID r))).st ≠ .free → (s.pas.look (s.get (F.MAT_CTX_ARG3_PASID r))).dom = some d →
      s.gives (.matCreate r) { (s.put (F.MAT_CTX_CMD_OP r) 0).put (F.MAT_CTX_CMD_RESULT r) 0 with mctx := s.mctx.put c { (default : Mctx) with
        st := .enabled, port := s.get (F.MAT_CTX_ARG3_PORT r), fn := s.get (F.MAT_CTX_ARG3_FUNCTION r), pasid := s.get (F.MAT_CTX_ARG3_PASID r), dom := d
        poolBase := s.get (F.MAT_CTX_ARG0_POOL_BASE r), spillBase := s.get (F.MAT_CTX_ARG1_SPILL_BASE r), spec := s.flag (F.MAT_CTX_ARG2_SPEC r)
        res := s.get (F.MAT_CTX_ARG2_ONCHIP_RES r), spillLog2 := s.get (F.MAT_CTX_ARG2_SPILL_LOG2 r), poolLog2 := s.get (F.MAT_CTX_ARG2_POOL_LOG2 r)
        slotLog2 := s.get (F.MAT_CTX_ARG2_SLOT_LOG2 r) } }) ∧
    ((s.mctx.look c).st ≠ .free → s.gives (.matCreate r) ((s.put (F.MAT_CTX_CMD_OP r) 0).put (F.MAT_CTX_CMD_RESULT r) 1)) ∧
    ((s.mctx.look c).st ≠ .free → s.msgs = [] → (s.mctx.look c).posted = [] → (s.mctx.look c).postedSpill = [] → (s.mctx.look c).unexp = [] → (s.mctx.look c).unexpSpill = [] →
      s.gives (.matDestroy r) { (s.put (F.MAT_CTX_CMD_OP r) 1).put (F.MAT_CTX_CMD_RESULT r) 0 with
        mctx := s.mctx.del c, preds := s.preds.filter fun e => e.2.ctx != c }) ∧
    ((s.mctx.look c).st = .error →
      s.gives (.matClear r) { (s.put (F.MAT_CTX_CMD_OP r) 2).put (F.MAT_CTX_CMD_RESULT r) 0 with mctx := s.mctx.upd c fun x => { x with
        st := .enabled, posted := [], postedSpill := [], unexp := [], unexpSpill := [], pheads := 0, uheads := 0, slots := [], loading := none } }) ∧
    ((s.mctx.look c).st ≠ .error → s.gives (.matClear r) ((s.put (F.MAT_CTX_CMD_OP r) 2).put (F.MAT_CTX_CMD_RESULT r) 1)) ∧
    ((s.mctx.look c).st = .enabled → (s.mctx.look c).dom < 65536 → (s.mctx.look c).allPosted.length < 2 ^ 20 → (s.mctx.look c).allUnexp.length < 2 ^ 20 →
      s.completes (.matQuery r) fun t =>
        t = { s with regs := t.regs, outs := t.outs } ∧ t.get (F.MAT_CTX_INFO_DOMAIN r) = (s.mctx.look c).dom ∧ t.get (F.MAT_CTX_INFO_STATE r) = 1 ∧
        t.get (F.MAT_CTX_INFO_POSTED r) = (s.mctx.look c).allPosted.length ∧ t.get (F.MAT_CTX_INFO_UNEXPECTED r) = (s.mctx.look c).allUnexp.length ∧
        t.get (F.MAT_CTX_CMD_RESULT r) = 0)

/-- The first packet of an eager message, and a rendezvous request, are taken from their pair channel as a message of their context that waits for its walk (R252,
R254, R393). A walk that finds a posted receive takes it off the list and places the whole message in its buffer (R247, R252, R253); one that finds none gives
an eager message the lowest free pool slot and a place at the end of the unexpected list (R255), and a rendezvous request a place there and its acknowledgement.
Confirmation completes the POST with the bytes placed, TRUNCATED for a longer message, and acknowledges the packets (R262). Speculation that expires is a
misprediction (R263, R264). A spill read moves members on chip in order (R242). An RGET reads the SEND's buffer; the acknowledged data of a response goes to the
receive buffer (R254, R402). -/
def Obligations.MessagesAndMatching : Prop :=
  ∀ (s : State), s.calm →
    (∀ (p : Packet) (k port ctx : Nat), s.delivers p k port → p.op = .eager → p.first = true → p.sigr = false → ctx = wbits p.raddr 47 32 → s.pdMat = 0 →
      (s.mctx.look ctx).st = .enabled → (s.mctx.look ctx).dom = p.domain → (s.mctx.look ctx).port = port → (s.mctx.look ctx).fn = p.dstFunc → s.flag F.MAT_CTRL_SPEC_EN = false →
      s.gives (.eagerArrival p) { s with
        msgs := s.msgs.put (msgKey k p.psn) { (default : Msg) with
          live := true, pair := k, ctx := ctx, dom := p.domain, node := p.srcNode, func := p.srcFunc, chan := p.chan, tag := p.rkey, opid := wbits p.opid 31 0
          len := wbits p.raddr 31 0, rctr := p.rctr, firstPsn := p.psn, st := .waiting, parts := [(0, p.payload)], got := p.payload.length }
        prx := s.prx.upd k fun r => { r with idle := 0, dom := p.domain, taken := 1, curDup := false, st := .idle, keyVer := none } }) ∧
    (∀ (p : Packet) (k port ctx : Nat), s.delivers p k port → p.op = .rts → p.first = true → p.sigr = false → ctx = wbits p.raddr 47 32 → s.pdMat = 0 →
      (s.mctx.look ctx).st = .enabled → (s.mctx.look ctx).dom = p.domain → (s.mctx.look ctx).port = port → (s.mctx.look ctx).fn = p.dstFunc →
      s.gives (.rtsArrival p) { s with
        msgs := s.msgs.put (msgKey k p.psn) { (default : Msg) with
          live := true, pair := k, ctx := ctx, dom := p.domain, node := p.srcNode, func := p.srcFunc, chan := p.chan, tag := p.rkey, opid := wbits p.opid 31 0
          len := wbits p.raddr 31 0, rctr := p.rctr, firstPsn := p.psn, st := .waiting, rts := true, got := p.payload.length }
        prx := s.prx.upd k fun r => { r with idle := 0, dom := p.domain, taken := 1, curDup := false, st := .idle, keyVer := none } }) ∧
    (∀ (key va n pa : Nat) (m : Msg) (c : Mctx) (r : Recv), m = s.msgs.look key → c = s.mctx.look m.ctx → m.live = true → m.walked = false → m.rts = false → m.whole = true →
      m.st = .waiting → m.retryIn = 0 → s.ctxBusy m.ctx = false → c.postedSpill = [] → c.unexpSpill = [] → (c.posted.find? fun q => q.matches m.node m.func m.tag) = some r →
      n = min m.len r.len → 0 < n → (s.ops.look r.op).localAt 0 n = [(va, n)] → s.maps c.pasid c.dom .write va n pa → s.hostOpen c.pasid →
      s.gives (.matchWalkDone key) ({ s with
        mctx := s.mctx.upd m.ctx fun c => { c with loading := none, posted := c.posted.filter fun q => q.op != r.op }
        msgs := s.msgs.upd key fun m => { m with walked := true, recv := some r, st := .reading, retryIn := 0 } }.wrote c.pasid pa n (m.bytes.take n))) ∧
    (∀ (key slot : Nat) (m : Msg) (c : Mctx), m = s.msgs.look key → c = s.mctx.look m.ctx → m.live = true → m.walked = false → m.rts = false → m.whole = false →
      m.st = .waiting → s.ctxBusy m.ctx = false → c.postedSpill = [] → c.unexpSpill = [] → (c.posted.find? fun q => q.matches m.node m.func m.tag) = none →
      m.len ≤ 2 ^ c.slotLog2 → ((List.range (2 ^ c.poolLog2)).find? fun i => !c.slots.contains i) = some slot → c.used + 1 ≤ c.res →
      s.gives (.matchWalkDone key) { s with
        mctx := s.mctx.upd m.ctx fun c => { c with
          loading := none, slots := slot :: c.slots, unexp := c.unexp ++ [⟨false, m.node, m.func, m.chan, m.tag, m.opid, slot, m.len, m.rctr, m.sigr, m.pair, some key⟩] }
        msgs := s.msgs.upd key fun m => { m with walked := true, st := .slotted, slot := slot } }) ∧
    (∀ (key : Nat) (m : Msg) (c : Mctx), m = s.msgs.look key → c = s.mctx.look m.ctx → m.live = true → m.walked = false → m.rts = true →
      m.st = .waiting → s.ctxBusy m.ctx = false → c.postedSpill = [] → c.unexpSpill = [] → (c.posted.find? fun q => q.matches m.node m.func m.tag) = none →
      c.used + 1 ≤ c.res → s.rxIdle m.pair →
      s.completes (.matchWalkDone key) fun t =>
        t.mctx = (s.mctx.upd m.ctx fun c => { c with
          loading := none, unexp := c.unexp ++ [⟨true, m.node, m.func, m.chan, m.tag, m.opid, 0, m.len, m.rctr, m.sigr, m.pair, none⟩] }) ∧
        t.msgs.look key = default ∧ (t.prx.look m.pair).expected = ((s.prx.look m.pair).expected + (s.prx.look m.pair).taken) % 2 ^ 24 ∧ (t.prx.look m.pair).taken = 0 ∧
        (t.prx.look m.pair).owedAcks = 0) ∧
    (∀ (key ctx st : Nat) (m : Msg) (r : Recv), m = s.msgs.look key → m.live = true → m.st = .reading → m.recv = some r → m.sigr = false → s.rxIdle m.pair → s.chans = [] →
      s.unbound = [] → ctx = r.op / 64 → s.opsOf ctx = [r.op] → (s.ops.look r.op).live = true → (s.ops.look r.op).fin = none → (s.ops.look r.op).opcode = 0x31 →
      (s.ops.look r.op).reporting = false → (s.ops.look r.op).noCtr = false → (s.ops.look r.op).tag = 0 → (s.ops.look r.op).sigl = false → (s.ops.look r.op).rd = none →
      (s.runs.look ctx).st = .blocked → (s.runs.look ctx).block = .op (r.op % 64) → st = (if m.len > r.len then stTrunc else stOk) →
      s.completes (.matchConfirm key) fun t =>
        t.msgs = s.msgs.del key ∧ t.ops.look r.op = default ∧ (t.runs.look ctx).rg 15 = g15 st 0x31 (min m.len r.len) ∧ (t.runs.look ctx).st = .ready ∧
        (t.runs.look ctx).pc = (s.runs.look ctx).nextPc ∧
        (t.prx.look m.pair).expected = ((s.prx.look m.pair).expected + (s.prx.look m.pair).taken) % 2 ^ 24 ∧ (t.prx.look m.pair).taken = 0) ∧
    (∀ (key : Nat) (m : Msg), m = s.msgs.look key → m.live = true → m.st = .speculating → m.begun = true → m.specLeft = 0 → m.walked = false →
      s.gives (.speculationExpiry key) (({ s with
        msgs := s.msgs.upd key fun m => { m with st := .waiting, predicted := none, placed := 0, begun := false } }.bump F.MAT_SPEC_COUNT_MISPREDICT 1).bump
        F.MAT_SPEC_OTHER_EXPIRED 1)) ∧
    (∀ (ctx id : Nat) (ws : List Word) (c : Mctx) (r : Recv), c = s.mctx.look ctx → ctx < 65536 → (s.accs.keysOf fun a => a.client == .spill ctx) = [id] →
      (s.accs.look id).client = .spill ctx → (s.accs.look id).st = .issued → ws.length = (chunkLen (s.accs.look id).orig + 7) / 8 → ws ≠ [] → c.loading = some false →
      c.postedSpill = [some r] → c.unexpSpill = [] → c.used + 2 ≤ c.res →
      s.gives (.spillAccessReturn ctx (.ok ws)) { s with
        accs := s.accs.del id
        mctx := s.mctx.upd ctx fun c => { c with posted := c.posted ++ [r], postedSpill := [], pheads := c.pheads + 1, loading := some true } }) ∧
    (∀ (p : Packet) (k port j va : Nat), s.delivers p k port → p.op = .rget → 0 < p.len → va % 4096 + p.len ≤ 4096 →
      (s.ops.keysOf fun o => o.live && o.fin.isNone && o.opcode == 0x30 && o.arg != 0 && o.opid == wbits p.opid 31 0 && o.x.node == p.srcNode &&
        o.x.func == p.srcFunc && o.x.chan == p.chan && decide (wbits p.raddr 31 0 + p.len ≤ o.x.total)) = [j] →
      (s.opRun j).port = port → (s.opRun j).fn = p.dstFunc → (s.ops.look j).localAt (wbits p.raddr 31 0) p.len = [(va, p.len)] →
      s.gives (.rgetArrival p) { s with
        prx := s.prx.upd k fun r => { r with idle := 0, dom := p.domain, cur := some p, curDup := false, st := .readout j }
        chans := s.chans.upd 128 fun ch => { ch with
          jumped := ch.jumped ++ [{ (default : Burst) with
            id := ch.nextId, op := k, kind := .readout, len := p.len, pieces := [(va, p.len)], faulted := some ((s.opRun j).pasid.getD 0, 0, 0) }]
          nextId := ch.nextId + 1 } }) ∧
    (∀ (p : Packet) (j ch va port : Nat), okPacket p = true → p.op = .rgetResp → p.crcOk = true → s.endpoint p.dstNode = some (s.self, port) → p.last = false →
      s.quiet = false → s.age p.birth ≤ s.lifetime → s.tagOk p = true → 0 < p.payload.length → p.payload.length ≤ s.burstSize ch → va % 4096 + p.payload.length ≤ 4096 →
      (s.ops.keysOf fun o => o.live && o.fin.isNone && o.eng == .bulk && o.src.1 / 4 * 4 == pairKey port p.dstFunc p.srcNode p.srcFunc 0 &&
        (o.opcode == 0x31 && o.x.sub == wbits p.opid 31 0)) = [j] → ((s.ptx.look (s.ops.look j).src.1).pkts.find? fun x => x.op == j && x.psn == p.psn).isSome = true →
      wbits p.raddr 31 0 + p.payload.length ≤ (s.ops.look j).x.total → covered (s.ops.look j).got (wbits p.raddr 31 0) p.payload.length = false →
      (s.ops.look j).bound = some ch → (s.ops.look j).localAt (wbits p.raddr 31 0) p.payload.length = [(va, p.payload.length)] →
      s.gives (.rgetRespArrival p) { s with
        chans := s.chans.upd ch fun x => { x with
          jumped := x.jumped ++ [{ (default : Burst) with
            id := x.nextId, op := j, kind := .placeResp p.psn, off := wbits p.raddr 31 0, len := p.payload.length, pieces := [(va, p.payload.length)], data := p.payload }]
          nextId := x.nextId + 1 } })

/-! ### Remote memory access (spec/09) -/

/-- A PUT whose key is cached and passes the ten checks is written at the entry's base plus its offset, its entry is used last, and the pair channel moves on (R277,
R285); the last packet of an operation is acknowledged at once (R395). A GET starts its read-out (R287), an AMO waits for the lock of its line (R289). A request
of a key that is not cached reads the key's entry from the table (R275); with the table disabled it is refused KEY_INVALID (R277, R281). -/
def Obligations.RemoteRequestsAtTheTarget : Prop :=
  ∀ (s : State) (p : Packet) (k port i va n pa : Nat) (e : KeyEnt), s.calm → s.delivers p k port → i = keyIndex p.rkey → p.sigr = false → (s.prx.look k).refusals.length < 4 →
    (s.keyed p i e → p.op = .put → p.last = false → n = p.payload.length → va = (e.base + p.raddr.toNat) % 2 ^ 64 → s.maps e.pasid e.dom .write va n pa → s.hostOpen e.pasid →
      (s.prx.look k).owedAcks < 7 →
      s.gives (.putArrival p) (({ s with
        kcache := s.kcache.upd i fun e => { e with used := s.kuse }, kuse := s.kuse + 1
        prx := s.prx.upd k fun r => { r with
          idle := 0, dom := p.domain, expected := (r.expected + 1) % 2 ^ 24, heldAge := 0, owedAcks := r.owedAcks + 1, curDup := false, st := .idle, keyVer := none } }.wrote
        e.pasid pa n p.payload).ledger p.domain ldRx n)) ∧
    (s.keyed p i e → p.op = .put → p.last = true → n = p.payload.length → va = (e.base + p.raddr.toNat) % 2 ^ 64 → s.maps e.pasid e.dom .write va n pa → s.hostOpen e.pasid →
      s.ctlSent = [] → (s.endpoint p.srcNode).isSome = true →
      s.completes (.putArrival p) fun t =>
        (.hostWrite (s.pas.look e.pasid).port (s.pas.look e.pasid).fn [(pa, n)] p.payload) ∈ s.newOuts t ∧ (t.prx.look k).expected = (p.psn + 1) % 2 ^ 24 ∧
        (t.prx.look k).owedAcks = 0 ∧ t.sentCtl .ack p.psn p.srcNode p.srcFunc = true) ∧
    (s.keyed p i e → p.op = .get → p.first = true → (s.prx.look k).gets = [] → n = wbits p.opid 63 32 → 0 < n → va = (e.base + p.raddr.toNat) % 2 ^ 64 → va % 4096 + n ≤ 4096 →
      s.gives (.getArrival p) { s with
        kcache := s.kcache.upd i fun e => { e with used := s.kuse }, kuse := s.kuse + 1
        prx := s.prx.upd k fun r => { r with
          idle := 0, dom := p.domain, cur := some p, curDup := false, st := .readout 0, keyVer := some (i, e.gen), gets := [(p.psn, 0, n)] }
        chans := s.chans.upd 128 fun ch => { ch with
          jumped := ch.jumped ++ [{ (default : Burst) with id := ch.nextId, op := k, kind := .readout, len := n, pieces := [(va, n)], faulted := some (e.pasid, 0, 0) }]
          nextId := ch.nextId + 1 } }) ∧
    (∀ line : Nat, s.keyed p i e → p.op = .amo → amoFetch p = false → va = (e.base + p.raddr.toNat) % 2 ^ 64 → s.maps e.pasid e.dom .atomic va (amoBytes p) pa → pa < 2 ^ 64 →
      line = (bitsOf pa 17 6) ^^^ (bitsOf pa 29 18) ^^^ (bitsOf pa 41 30) ^^^ (bitsOf pa 51 42) →
      s.gives (.amoArrival p) { s with
        kcache := s.kcache.upd i fun e => { e with used := s.kuse }, kuse := s.kuse + 1, accs := s.accs.del s.nextId, nextId := s.nextId + 1
        lines := s.lines.upd line fun l => { l with q := l.q ++ [k] }
        prx := s.prx.upd k fun r => { r with idle := 0, dom := p.domain, cur := some p, curDup := false, st := .lineWait line pa, keyVer := some (i, e.gen) } }) ∧
    (p.op = .put → s.flag F.RMA_KTAB_CTRL_EN = true → i < 2 ^ s.ktabLog2 → (s.kcache.find? fun x => x.1 == i) = none → (s.kwait.any fun x => x.1 == i) = false →
      s.gives (.putArrival p) ({ s with
        kwait := s.kwait ++ [(i, KeyWait.pair k)]
        prx := s.prx.upd k fun r => { r with idle := 0, dom := p.domain, cur := some p, curDup := false, st := .key } }.out
        (.hostRead (2 ^ 59 + i) (s.get F.RMA_KTAB_BASE_PORT) 0 [(s.get F.RMA_KTAB_BASE_BASE * 4096 + i * 64, 64)]))) ∧
    (p.op = .put → s.flag F.RMA_KTAB_CTRL_EN = false → p.last = true → s.ctlSent = [] → (s.endpoint p.srcNode).isSome = true →
      s.completes (.putArrival p) fun t =>
        (t.prx.look k).expected = (p.psn + 1) % 2 ^ 24 ∧ (t.prx.look k).refusals = (s.prx.look k).refusals ++
          [{ (default : Rfsl) with num := (s.prx.look k).nextRef, opid := wbits p.opid 31 0, status := stKeyInvalid, firstPsn := p.psn, lastPsn := p.psn, sent := true }] ∧
        t.sentCtl .refuse p.psn p.srcNode p.srcFunc = true)

/-- The head of a line's queue takes the lock, and its word is read, or the operation goes to the host as an AtomicOp where RMA_ATOMIC_CTRL allows it (R289 to
R291). The read's return writes the new value, frees the line, keeps the old value for an AMOF and moves the pair channel on (R290, R292); so does an AtomicOp's
completion with the value it returns. A kept result is forgotten at its time or when it is acknowledged. Responses place their data at the requester, or
complete the AMOF with the old value (R402). A key table entry that passes its tag fills the cache (R275); clearing EN empties it. -/
def Obligations.AtomicsAndResponses : Prop :=
  ∀ (s : State), s.calm →
    (∀ (line k pa x : Nat) (ks : List Nat) (p : Packet), (s.lines.look line).q = k :: ks → (s.lines.look line).granted = false → (s.prx.look k).cur = some p →
      (s.prx.look k).st = .lineWait x pa → (s.get F.RMA_ATOMIC_CTRL_ATOMICOP).testBit (s.prx.look k).port = false → (s.prx.look k).live = true →
      s.gives (.lineLockGrant line) ({ s with
        prx := s.prx.upd k fun r => { r with st := .line line pa }
        lines := s.lines.put line { s.lines.look line with granted := true, pa := pa, atomicOp := false } }.out
        (.hostRead (2 ^ 60 + line) (s.prx.look k).port (s.prx.look k).fn [(pa / 8 * 8, 8)]))) ∧
    (∀ (line k pa x : Nat) (ks : List Nat) (p : Packet), (s.lines.look line).q = k :: ks → (s.lines.look line).granted = false → (s.prx.look k).cur = some p →
      (s.prx.look k).st = .lineWait x pa → (s.get F.RMA_ATOMIC_CTRL_ATOMICOP).testBit (s.prx.look k).port = true → (amoSub p = 0 ∨ amoSub p = 10 ∨ (amoSub p = 11 ∧ amoW32 p = false)) →
      s.gives (.lineLockGrant line) ({ s with
        prx := s.prx.upd k fun r => { r with st := .line line pa }
        lines := s.lines.put line { s.lines.look line with granted := true, pa := pa, atomicOp := true } }.out
        (.hostAtomic (2 ^ 60 + line) (s.prx.look k).port (s.prx.look k).fn pa (amoSub p) (amoBytes p) (BitVec.ofNat 64 (ofBytes (p.payload.take 8)))
          (BitVec.ofNat 64 (ofBytes ((p.payload.drop 8).take 8)))))) ∧
    (∀ (line k pa x old : Nat) (ks : List Nat) (p : Packet), (s.lines.look line).q = k :: ks → (s.lines.look line).granted = true → (s.lines.look line).atomicOp = false →
      (s.prx.look k).cur = some p → (s.prx.look k).st = .line x pa → (s.prx.look k).held = [] → (s.prx.look k).dups = [] → (s.prx.look k).curDup = false → p.sigr = false →
      amoW32 p = false → old < 2 ^ 64 →
      s.completes (.atomicReadReturn line (.ok [BitVec.ofNat 64 old])) fun t =>
        (.hostWrite (s.prx.look k).port (s.prx.look k).fn [(pa, 8)]
          (leBytes (amoResult (amoSub p) 64 old (ofBytes (p.payload.take 8)) (ofBytes ((p.payload.drop 8).take 8))) 8)) ∈ s.newOuts t ∧
        (t.lines.look line).q = ks ∧ (t.lines.look line).granted = false ∧ (t.prx.look k).cur = none ∧ (t.prx.look k).expected = ((s.prx.look k).expected + 1) % 2 ^ 24 ∧
        (amoFetch p = true → t.amoRes.look (amoKey k p.psn) = ⟨k, p.psn, BitVec.ofNat 64 old, 2 * s.lifetime, false⟩)) ∧
    (∀ (line k pa x old : Nat) (ks : List Nat) (p : Packet), (s.lines.look line).q = k :: ks → (s.lines.look line).granted = true → (s.lines.look line).atomicOp = true →
      (s.prx.look k).cur = some p → (s.prx.look k).st = .line x pa → (s.prx.look k).held = [] → (s.prx.look k).dups = [] → (s.prx.look k).curDup = false → p.sigr = false →
      amoW32 p = false → old < 2 ^ 64 →
      s.completes (.atomicopComplete line (.ok [BitVec.ofNat 64 old])) fun t =>
        (t.lines.look line).q = ks ∧ (t.lines.look line).granted = false ∧ (t.prx.look k).cur = none ∧ (t.prx.look k).expected = ((s.prx.look k).expected + 1) % 2 ^ 24 ∧
        (amoFetch p = true → t.amoRes.look (amoKey k p.psn) = ⟨k, p.psn, BitVec.ofNat 64 old, 2 * s.lifetime, false⟩)) ∧
    (∀ (key : Nat) (a : AmoRes), (s.amoRes.find? fun e => e.1 == key) = some (key, a) → (a.left = 0 ∨ a.acked = true) →
      s.gives (.amoResultExpiry key) { s with amoRes := s.amoRes.del key }) ∧
    (∀ (p : Packet) (j ch va port : Nat) (x : TxPkt), okPacket p = true → p.op = .getResp → p.crcOk = true → s.endpoint p.dstNode = some (s.self, port) →
      s.quiet = false → s.age p.birth ≤ s.lifetime → s.tagOk p = true → 0 < p.payload.length → p.payload.length ≤ s.burstSize ch → va % 4096 + p.payload.length ≤ 4096 →
      (s.ops.keysOf fun o => o.live && o.fin.isNone && o.eng == .bulk && o.src.1 / 4 * 4 == pairKey port p.dstFunc p.srcNode p.srcFunc 0 &&
        (o.opid == wbits p.opid 31 0 && (o.opcode == 0x21 || o.opcode == 0x23))) = [j] →
      ((s.ptx.look (s.ops.look j).src.1).pkts.find? fun x => x.op == j && x.psn == p.psn) = some x → x.loff ≤ wbits p.raddr 31 0 →
      wbits p.raddr 31 0 + p.payload.length ≤ (s.ops.look j).x.total → covered (s.ops.look j).got (wbits p.raddr 31 0) p.payload.length = false →
      (s.ops.look j).bound = some ch → (s.chans.look ch).bursts = [] → (s.chans.look ch).jumped = [] →
      (s.ops.look j).localAt (wbits p.raddr 31 0) p.payload.length = [(va, p.payload.length)] →
      s.gives (.getRespArrival p) { s with
        chans := s.chans.upd ch fun x => { x with
          jumped := [{ (default : Burst) with
            id := x.nextId, op := j, kind := .placeResp p.psn, off := wbits p.raddr 31 0, len := p.payload.length, pieces := [(va, p.payload.length)], data := p.payload }]
          nextId := x.nextId + 1 } }) ∧
    (∀ (p : Packet) (j port : Nat) (x : TxPkt), okPacket p = true → p.op = .amoResp → p.crcOk = true → s.endpoint p.dstNode = some (s.self, port) →
      s.quiet = false → s.age p.birth ≤ s.lifetime → s.tagOk p = true → s.unbound = [] → s.chans = [] →
      (s.ops.keysOf fun o => o.live && o.fin.isNone && o.eng == .bulk && o.src.1 / 4 * 4 == pairKey port p.dstFunc p.srcNode p.srcFunc 0 &&
        (o.opid == wbits p.opid 31 0 && o.opcode == 0x25)) = [j] → (s.ops.look j).live = true → (s.ops.look j).fin = none →
      ((s.ptx.look (s.ops.look j).src.1).pkts.find? fun x => x.op == j && x.psn == p.psn) = some x → (s.ops.look j).x.w32 = false → s.ctlSent = [] →
      (s.endpoint p.srcNode).isSome = true → (s.key p.domain).isSome = true →
      s.completes (.amoRespArrival p) fun t =>
        (t.ops.look j).fin = some (stOk, 8, some (BitVec.ofNat 64 (ofBytes (p.payload.take 8)))) ∧ t.sentCtl .ack p.psn p.srcNode p.srcFunc = true) ∧
    (∀ (i k : Nat) (ws : List Word) (e : KeyEnt), i < 2 ^ 24 → e = KeyEnt.ofWords ws → (e.epoch ≠ s.inc ∨ s.integ i e.head = tagOfWords ws) → s.flag F.RMA_KTAB_CTRL_EN = true →
      s.kwait = [(i, KeyWait.pair k)] → (s.prx.look k).st ≠ .key → s.gives (.keyTableReadReturn i (.ok ws)) ({ s with kwait := [] }.kfill i e)) ∧
    (∀ (o : Origin) (v : Word), s.mayWrite o 0x500000 → okOrigin o = true → wbit v 0 = false → s.gives (.keyTableEnableWrite o v) ({ s with kcache := [] }.put F.RMA_KTAB_CTRL_EN 0)) ∧
    (∀ (o : Origin) (v : Word), s.mayWrite o 0x500000 → okOrigin o = true → wbit v 0 = true → s.flag F.RMA_KTAB_CTRL_EN = false →
      s.gives (.keyTableEnableWrite o v) ((s.put F.RMA_KTAB_CTRL_EN 1).put F.RMA_KTAB_STATUS_LIVE_KEYS 0))

/-! ### The bulk mover and tolls (spec/10, spec/14) -/

/-- A granted read burst of an operation joins its channel's bursts, advances what the operation has asked for, and reads its piece (R297 to R299). One that its
toll meters red, where the toll does not drop, defers its channel and counts in the domain's ledger (R413, R415, R417). A register-form read that completes
becomes the write of its bytes (R297), one that fails on the bus halts the transfer BUS_ERROR with the bytes completed (R309). A channel whose first burst met a
translation fault parks, and its run has the fault on record (R302). An unbound operation takes a channel in binding order (R303). -/
def Obligations.ChannelsAndBursts : Prop :=
  ∀ (s : State) (c : Nat), s.calm → c ≤ 127 →
    (∀ (b : Burst) (port pasid dom va n pa : Nat), s.chanReady c = some b → s.burstHome c b = (port, pasid, dom) → s.outranked c port = false → b.kind = .read →
      (s.chans.look c).jumped = [] → s.flag F.TOL_CTRL_METER_EN = false → b.pieces = [(va, n)] → b.data = [] → s.maps pasid dom .read va n pa →
      s.gives (.burstGrant c) ({ s with
        ops := s.ops.upd b.op fun o => { o with asked := o.asked + b.len }
        chans := s.chans.upd c fun ch => { ch with
          bursts := ch.bursts ++ [{ b with id := ch.nextId, issued := true, scav := false, faulted := none }], nextId := ch.nextId + 1 } }.asked
        (.burst c (s.chans.look c).nextId) pasid dom va n pa)) ∧
    (∀ (b : Burst) (port pasid dom n : Nat), s.chanReady c = some b → s.burstHome c b = (port, pasid, dom) → s.outranked c port = false → b.kind = .read →
      s.flag F.TOL_CTRL_METER_EN = true → s.tollOf dom 0 = some n → (s.tolls.look n).tp < b.len → (s.tolls.look n).red ≠ 1 →
      s.gives (.burstGrant c) ({ s with
        tolls := s.tolls.put n { s.tolls.look n with reds := satAdd 32 (s.tolls.look n).reds 1 }
        chans := s.chans.upd c fun ch => { ch with deferred := some n } }.ledger dom ldRed 1)) ∧
    (∀ (id bid d : Nat) (b : Burst) (bs : List Byte), (s.accs.keysOf fun a => a.client == .burst c bid) = [id] → (s.accs.look id).st = .issued →
      (s.accs.look id).client = .burst c bid → bs.length = chunkLen (s.accs.look id).orig → ((s.chans.look c).bursts.find? fun x => x.id == bid) = some b → b.id = bid →
      b.kind = .rfRd d →
      s.gives (.burstComplete c bid (.ok bs)) { s with
        accs := s.accs.del id
        chans := (s.chans.upd c fun ch => { ch with bursts := ch.bursts.filter fun x => x.id != bid }).upd c fun ch => { ch with
          jumped := ch.jumped ++ [{ b with id := ch.nextId, kind := .rfWr, pieces := [(d, b.len)], data := bs, issued := false }], nextId := ch.nextId + 1 } }) ∧
    (∀ (id bid d : Nat) (b : Burst), s.accs.keysOf (fun a => match a.client with | .burst x _ => x == c | _ => false) = [id] →
      (s.accs.keysOf fun a => a.client == .burst c bid) = [id] → (s.accs.look id).st = .issued →
      (s.accs.look id).client = .burst c bid → (s.chans.look c).bursts = [b] → b.id = bid → b.kind = .rfRd d → (s.chans.look c).jumped = [] →
      (s.chans.look c).set.irqEn = false →
      s.completes (.burstComplete c bid .busErr) fun t =>
        t = { s with accs := t.accs, chans := t.chans, regs := t.regs, outs := t.outs } ∧ (t.chans.look c).lastSt = stBus ∧ (t.chans.look c).act = .halted ∧
        (t.chans.look c).bytes = min (s.chans.look c).bytes b.off ∧ (t.chans.look c).bursts = [] ∧ (t.chans.look c).set = (s.chans.look c).set) ∧
    (∀ (b : Burst) (bs : List Burst) (cause level va ctx : Nat), (s.chans.look c).bursts = b :: bs → b.faulted = some (cause, level, va) → (s.chans.look c).parked = false →
      s.regform c = false → b.kind = .read → ctx = b.op / 64 → (s.chans.look c).ops = [b.op] →
      s.gives (.channelPark c) { s with
        chans := s.chans.upd c fun ch => { ch with parked := true, parkOp := s.handle ctx }
        runs := s.runs.upd ctx fun r => { r with
          parkedOps := r.parkedOps ++ [b.op], faults := r.faults ++ [⟨1, cause, level, 0, va, (s.ops.look b.op).pc⟩] } }) ∧
    (∀ (k : Nat) (ks : List Nat), s.unbound = k :: ks → s.pickChan (s.opRun k).wq (s.ops.look k).pair = some c → (s.chans.look c).ops = [] →
      (s.ops.look k).opcode = 0x26 → (s.ops.look k).failSt = none →
      s.gives .operationBind { s with
        unbound := ks, ops := s.ops.upd k fun o => { o with bound := some c }, chans := s.chans.upd c fun ch => { ch with ops := [k] } })

/-- GO arms the shadow set of a busy channel; on an idle one the set is taken at once, with the hand-over counted, and the transfer is busy (R306, R307). A
hand-over of a set whose address space is not active ends ABORTED and halts the channel (R309). RESUME lets a parked channel go on, ABORT ends the transfer
ABORTED and takes an armed set, ABORT_ALL drops it, CONTINUE goes on after a halt; in other states an OP counts as ignored (R311). A transfer whose bytes are
all written ends OK, with its message if it asked for one (R308). -/
def Obligations.RegisterFormTransfers : Prop :=
  ∀ (s : State) (o : Origin) (c : Nat), s.calm → c < 16 → okOrigin o = true → s.mayWrite o (0x581030 + 128 * c) → s.regform c = true →
    ((s.chans.look c).armed = false → s.flag (F.BLK_CH_CFG_EN c) = true → (s.chans.look c).act ≠ .idle →
      s.gives (.rfGo o c) { s with chans := s.chans.upd c fun ch => { ch with armed := true } }) ∧
    (∀ x : RfSet, (s.chans.look c).armed = false → s.flag (F.BLK_CH_CFG_EN c) = true → (s.chans.look c).act = .idle →
      x = ⟨s.get (F.BLK_SH_SRC_SRC c), s.get (F.BLK_SH_DST_DST c), s.get (F.BLK_SH_COUNT_COUNT c), s.get (F.BLK_SH_IDX_IDX c), s.flag (F.BLK_SH_CTRL_IRQ_EN c),
        s.get (F.BLK_SH_CTRL_VECTOR c), s.get (F.BLK_SH_CTRL_ESIZE c), s.get (F.BLK_SH_CTRL_MODE c), s.get (F.BLK_SH_CTRL_PASID c)⟩ →
      (s.pas.look x.pasid).st = .active → (s.pas.look x.pasid).dom.isSome = true → x.mode = 0 → x.count ≠ 0 →
      s.gives (.rfGo o c) { s with chans := s.chans.upd c fun ch => { ch with
        set := x, armed := false, handSeq := (ch.handSeq + 1) % 65536, bytes := 0, act := .busy, asked := 0, rfIdx := [], rfIdxAsked := 0, bursts := [], jumped := [] } }) ∧
    ((s.chans.look c).armed = false → s.flag (F.BLK_CH_CFG_EN c) = true → (s.chans.look c).act = .idle → (s.pas.look (s.get (F.BLK_SH_CTRL_PASID c))).st ≠ .active →
      s.flag (F.BLK_SH_CTRL_IRQ_EN c) = false → s.accs = [] →
      s.completes (.rfGo o c) fun t => (t.chans.look c).lastSt = stAborted ∧ (t.chans.look c).act = .halted ∧ (t.chans.look c).armed = false) ∧
    ((s.chans.look c).act = .parked → (s.chans.look c).bursts = [] →
      s.gives (.rfResume o c) { s with chans := s.chans.upd c fun ch => { ch with act := .busy, parked := false, parkOp := 0 } }) ∧
    ((s.chans.look c).act ≠ .parked → s.gives (.rfResume o c) { s with chans := s.chans.upd c fun ch => { ch with cmdIgnored := satAdd 16 ch.cmdIgnored 1 } }) ∧
    ((s.chans.look c).act = .busy → (s.chans.look c).armed = false → (s.chans.look c).set.irqEn = false → s.accs = [] →
      s.gives (.rfAbort o c) { s with chans := (s.chans.upd c fun ch => { ch with lastSt := stAborted, bursts := [], jumped := [], parked := false, act := .idle }).upd c (fun ch => { ch with act := .idle }) }) ∧
    ((s.chans.look c).act = .busy → (s.chans.look c).set.irqEn = false → s.accs = [] →
      s.gives (.rfAbortAll o c) { s with chans := (s.chans.upd c fun ch => { ch with lastSt := stAborted, bursts := [], jumped := [], parked := false, act := .idle }).upd c (fun ch => { ch with armed := false, act := .idle }) }) ∧
    ((s.chans.look c).act = .halted → s.gives (.rfAbortAll o c) { s with chans := s.chans.upd c fun ch => { ch with armed := false, act := .idle } }) ∧
    ((s.chans.look c).act = .halted → (s.chans.look c).armed = false → s.gives (.rfContinue o c) { s with chans := s.chans.upd c fun ch => { ch with act := .idle } }) ∧
    ((s.chans.look c).act = .idle → s.gives (.rfContinue o c) { s with chans := s.chans.upd c fun ch => { ch with cmdIgnored := satAdd 16 ch.cmdIgnored 1 } }) ∧
    ((s.chans.look c).act = .busy → (s.chans.look c).set.mode = 0 → (s.chans.look c).set.count ≤ (s.chans.look c).bytes → (s.chans.look c).bursts = [] → (s.chans.look c).armed = false →
      (s.chans.look c).set.irqEn = true → s.accs = [] → (s.pas.look (s.chans.look c).set.pasid).st = .active →
      s.vectorOpen (s.pas.look (s.chans.look c).set.pasid).port (s.pas.look (s.chans.look c).set.pasid).fn (s.chans.look c).set.vector →
      s.gives (.rfTransferComplete c) ({ s with
        chans := (s.chans.upd c fun ch => { ch with lastSt := stOk, bursts := [], jumped := [], parked := false, act := .idle }).upd c fun ch => { ch with act := .idle } }.out
        (.msix (s.pas.look (s.chans.look c).set.pasid).port (s.pas.look (s.chans.look c).set.pasid).fn (s.chans.look c).set.vector)))

/-- A toll whose token counts are within CBS and PBS keeps them so through a refill (R414), a metered burst (R415) and a TOLLSET that takes effect (R420), however
the rates are set. A burst is red exactly when it arrives red or exceeds the peak tokens, and a red burst takes no token; green takes both, yellow the peak
tokens only (R415). An enabled TOLLSET has both burst sizes at least 4,096 and PBS at least CBS, and fills both buckets of a toll that was not enabled. -/
def Obligations.TollsStayWithinTheirBursts : Prop :=
  (∀ t : Toll, t.tc ≤ t.cbs → t.tp ≤ t.pbs → t.refill.tc ≤ t.refill.cbs ∧ t.refill.tp ≤ t.refill.pbs ∧ t.tc ≤ t.refill.tc ∧ t.tp ≤ t.refill.tp) ∧
  (∀ (t : Toll) (b : Nat) (pre : Colour), t.tc ≤ t.cbs → t.tp ≤ t.pbs →
    (t.meter b pre).2.tc ≤ (t.meter b pre).2.cbs ∧ (t.meter b pre).2.tp ≤ (t.meter b pre).2.pbs ∧
    ((t.meter b pre).1 = .red ↔ pre = .red ∨ t.tp < b) ∧ ((t.meter b pre).1 = .red → (t.meter b pre).2 = t) ∧
    ((t.meter b pre).1 = .yellow → (t.meter b pre).2.tp + b = t.tp ∧ (t.meter b pre).2.tc = t.tc) ∧
    ((t.meter b pre).1 = .green → (t.meter b pre).2.tp + b = t.tp ∧ (t.meter b pre).2.tc + b = t.tc)) ∧
  (∀ t : Toll, t.tc ≤ t.cbs → t.tp ≤ t.pbs → t.commit.tc ≤ t.commit.cbs ∧ t.commit.tp ≤ t.commit.pbs ∧ t.commit.next = none) ∧
  (∀ (t : Toll) (ws : List Word), t.next = some ws → 4096 ≤ t.commit.cbs ∧ t.commit.cbs ≤ t.commit.pbs ∧ t.commit.cir ≤ t.commit.pir ∧ t.commit.en = wbit (ws.getD 0 0) 40 ∧
    (t.commit.en = true → t.en = false → t.commit.tc = t.commit.cbs ∧ t.commit.tp = t.commit.pbs))

/-! ### Collectives (spec/11) -/

/-- A GRANT that arrives in order on a group's only edge adds its credits and makes the group READY (R314, R315). A packet travelling up takes its child's place in
the combining slot of its segment (R322); one travelling down is delivered, so that a barrier's member completes OK (R327). A segment whose inputs are all there
goes to the parent under a credit, and the group moves on to the next (R320, R322). A BREAK, or a stall of STALL_STAGES stages, leaves the group BROKEN with its
cause, source 0x0C2 (R331, R333). -/
def Obligations.CollectiveGroups : Prop :=
  ∀ (s : State) (g : Nat), s.calm → g < 4096 →
    (∀ (port : Nat) (p : Packet) (e : CEdge), s.collDelivers port g p e → colKind p = 0 → (s.grps.look g).st = 1 → (s.grps.look g).children = [] → (s.grps.look g).downs = [] →
      s.completes (.grantArrival port p) fun t =>
        (t.grps.look g).st = 2 ∧ (t.grps.look g).mems = (s.grps.look g).mems ∧
        (t.grps.look g).edges = [{ e with credit := e.credit + wbits p.opid 15 0, granted := true, rxExp := (e.rxExp + 1) % 2 ^ 24, heldAge := 0 }]) ∧
    (∀ (port : Nat) (p : Packet) (e : CEdge), s.collDelivers port g p e → 1 ≤ colKind p → colKind p ≤ 4 → e.up = false → (s.grps.look g).st = 2 →
      (s.grps.look g).children = [port] → (s.grps.look g).slots = [] →
      s.completes (.collUpArrival port p) fun t =>
        (t.grps.look g).slots = [⟨colSeq p, colSeg p, [(0, p)]⟩] ∧ (t.grps.look g).edges = [{ e with rxExp := (e.rxExp + 1) % 2 ^ 24, heldAge := 0 }] ∧
        (t.grps.look g).mems = (s.grps.look g).mems ∧ (t.grps.look g).downs = (s.grps.look g).downs) ∧
    (∀ (port k : Nat) (p : Packet) (e : CEdge) (m : CMem), s.collDelivers port g p e → colKind p = 1 → colSeg p = 0 → e.up = true → (s.grps.look g).st = 2 → (s.grps.look g).root = false →
      (s.grps.look g).parent = port → (s.grps.look g).children = [] → (s.grps.look g).downs = [] → (s.grps.look g).mems = [m] → m.op = some k → m.seq = colSeq p → m.placed = 0 →
      (s.ops.look k).live = true → (s.ops.look k).fin = none → (s.ops.look k).opcode = 0x50 → (s.ops.look k).bound = none → (s.ops.look k).eng ≠ .bulk → s.chans = [] → s.unbound = [] →
      s.completes (.collDownArrival port p) fun t =>
        (t.ops.look k).fin = some (stOk, (s.ops.look k).x.total, none) ∧ (t.grps.look g).mems = [{ m with op := none, given := 0, placed := 0 }] ∧ (t.grps.look g).downs = [] ∧
        (t.grps.look g).edges.map (·.rxExp) = [(e.rxExp + 1) % 2 ^ 24]) ∧
    (∀ (port : Nat) (p : Packet) (e : CEdge), s.collDelivers port g p e → colKind p = 5 → ((s.grps.look g).st = 1 ∨ (s.grps.look g).st = 2) → (s.grps.look g).mems = [] →
      s.completes (.breakArrival port p) fun t =>
        (t.grps.look g).st = 3 ∧ (t.grps.look g).cause = wbits p.opid 3 0 ∧ (t.grps.look g).remote = true ∧ (t.grps.look g).slots = [] ∧ (t.grps.look g).downs = [] ∧
        t.flag (fltPend 0x0C2) = true) ∧
    (∀ (seq seg : Nat) (p : Packet) (e : CEdge) (m : CMem), seq < 65536 → seg < 2 ^ 24 → (s.grps.look g).st = 2 → (s.grps.look g).root = false → (s.grps.look g).edges = [e] →
      e.port = (s.grps.look g).parent → 0 < e.credit → (s.grps.look g).children = [] → (s.grps.look g).mems = [m] → m.op = none → (s.grps.look g).slots = [⟨seq, seg, [(0, p)]⟩] →
      seq = (s.grps.look g).upSeq → seg = (s.grps.look g).upSeg → (colKind p = 1 ∨ colKind p = 2) →
      s.completes (.segmentCombine g seq seg) fun t =>
        (t.grps.look g).slots = [] ∧ (t.grps.look g).upSeq = (seq + 1) % 65536 ∧ (t.grps.look g).upSeg = 0 ∧ (t.grps.look g).mems = [m] ∧
        (t.grps.look g).edges.map (·.credit) = [e.credit - 1] ∧ (t.grps.look g).edges.map (·.txPsn) = [(e.txPsn + 1) % 2 ^ 24] ∧
        (t.grps.look g).edges.map (fun x => x.tx.length) = [e.tx.length + 1] ∧ (s.key (s.grps.look g).dom ≠ none → s.quiet = false →
          (t.fports.look e.port).oq.length = (s.fports.look e.port).oq.length + 1)) ∧
    (0 < s.get F.COL_CTRL_STALL_STAGES → s.get F.COL_CTRL_STALL_STAGES ≤ (s.grps.look g).stall → ((s.grps.look g).st = 1 ∨ (s.grps.look g).st = 2) → (s.grps.look g).edges = [] →
      (s.grps.look g).mems = [] →
      s.givesFault (.collStallTimeout g) ({ s with
        grps := s.grps.upd g fun r => { r with st := 3, cause := 6, remote := false, slots := [], downs := [] } }.bump F.COL_BREAKS_BREAKS 1) 0x0C2)

/-! ### Routing (spec/12, spec/14) -/

/-- Arming sets SWAP, and the swap changes the active bank and counts (R340). COPY makes the bank copy busy; when it is done the inactive bank's entries from where
the copy stood are the active bank's, whose own have not changed (R340). Raw 8 B writes set a route entry of either bank, raw 4 B writes an endpoint entry of
the page, without its reserved bits (R336, R341, R342). -/
def Obligations.RouteAndEndpointTables : Prop :=
  ∀ (s : State), s.calm →
    (∀ o : Origin, okOrigin o = true → s.mayWrite o 0x1400008 → s.gives (.bankSwapArm o) (s.put F.RTC_BANK_SWAP 1)) ∧
    (∀ o : Origin, okOrigin o = true → s.mayWrite o 0x1400008 → s.flag F.RTC_BANK_COPY_BUSY = false →
      s.gives (.bankCopy o) ({ s with bankCopy := some (0, none) }.put F.RTC_BANK_COPY_BUSY 1)) ∧
    (∀ (pos r : Nat), s.bankCopy = some (pos, none) → s.copyQ = [] → pos ≤ r → r < 65536 → s.get F.RTC_BANK_ACTIVE = 0 →
      s.completes .bankCopyDone fun t =>
        t = { s with routes := t.routes, bankCopy := none, regs := t.regs, outs := t.outs } ∧ t.get F.RTC_BANK_COPY_BUSY = 0 ∧
        t.routes.look (65536 + r) = s.routes.look r ∧ t.routes.look r = s.routes.look r) ∧
    (∀ (pos r : Nat), s.bankCopy = some (pos, none) → s.copyQ = [] → pos ≤ r → r < 65536 → s.get F.RTC_BANK_ACTIVE = 1 →
      s.completes .bankCopyDone fun t => t.routes.look r = s.routes.look (65536 + r) ∧ t.routes.look (65536 + r) = s.routes.look (65536 + r)) ∧
    (s.flag F.RTC_BANK_SWAP = true → s.bankCopy = none → (s.ops.keysOf fun o => o.live && o.opcode == 0x80 && o.opf == 1 && o.fin.isNone) = [] →
      s.gives .routeBankSwap (((s.put F.RTC_BANK_SWAP 0).put F.RTC_BANK_ACTIVE (1 - s.get F.RTC_BANK_ACTIVE)).put F.RTC_BANK_SWAPS ((s.get F.RTC_BANK_SWAPS + 1) % 2 ^ 32))) ∧
    (∀ (o : Origin) (bank router : Nat) (v : Word), okOrigin o = true → bank < 2 → router < 65536 → s.mayWrite o (0x1500000 + 0x80000 * bank + 8 * router) → s.bankCopy = none →
      s.gives (.routeRawWrite o bank router 8 v) { s with routes := s.routes.put (bank * 65536 + router) v }) ∧
    (∀ (o : Origin) (i : Nat) (v : BitVec 32), okOrigin o = true → i < 262144 → s.mayWrite o (0x1600000 + 4 * i) →
      s.gives (.epRawWrite o i v) { s with
        eps := s.eps.put (s.get F.RTC_EP_PAGE_PAGE * 262144 + i) (v.toNat % 2 ^ 18 + v.toNat / 2 ^ 31 * 2 ^ 31) })

/-- A visit to a domain's injection queue sends its packet into the router while the deficit covers it (R421). The router gives a packet for another router to the
usable candidate with the least load at its class (R343, R344), a packet for the device itself to its endpoint (R338), and one without a usable candidate is
dropped and counted, source 0x0C3 (R343). An open port sends the unit whose class is visited, numbered and kept for replay, while its deficit and credits cover
it (R350, R423); during a replay it sends the buffer's units in order (R375). Gossip that passes its CRC sets the neighbour and its levels, and levels of a
neighbour that has been silent for 4 stages read zero (R347). -/
def Obligations.RoutingAndTransmission : Prop :=
  ∀ (s : State), s.calm →
    (∀ (d : Nat) (u : RUnit) (p : Packet), d < 65536 → (s.inj.look d).q = [u] → u.body = .data p → dataFlits p.payload.length * 64 ≤ s.dquant d → s.quiet = false → s.halted = false →
      s.get F.RTC_ADAPT_MODE = 0 →
      s.gives (.domainDrrVisit d false) { s with
        inj := s.inj.upd d fun j => { j with q := [], deficit := 0 }
        rin := s.rin.upd 64 fun l => l ++ [{ u with body := .data { p with inter := p.dstRouter }, since := s.tick }] }) ∧
    (∀ (u : RUnit) (rest : List RUnit) (p : Packet) (l q : Nat), s.rin.look 64 = u :: rest → u.body = .data p → u.home = none → p.inter = p.dstRouter → p.dstRouter ≠ s.self →
      s.best (s.route p.dstRouter) u.cls = some (l, q) →
      s.gives (.packetRoute 64) { s with
        rin := s.rin.put 64 rest, fports := s.fports.upd q fun f => { f with oq := f.oq ++ [{ u with level := 0, since := s.tick }] } }) ∧
    (∀ (u : RUnit) (rest : List RUnit) (p : Packet) (q : Nat), s.rin.look 64 = u :: rest → u.body = .data p → u.home = none → p.inter = p.dstRouter → p.dstRouter = s.self →
      s.endpoint p.dstNode = some (s.self, q) → s.gives (.packetRoute 64) ({ s with rin := s.rin.put 64 rest }.out (.ejected p))) ∧
    (∀ (u : RUnit) (rest : List RUnit) (p : Packet), s.rin.look 64 = u :: rest → u.body = .data p → u.home = none → p.inter = p.dstRouter → p.dstRouter ≠ s.self →
      s.best (s.route p.dstRouter) u.cls = none →
      s.givesFault (.packetRoute 64) ({ s with rin := s.rin.put 64 rest }.bump F.RTC_DROP_NO_PATH 1) 0x0C3) ∧
    (∀ (p clear c n seq : Nat) (u : RUnit), p < 64 → s.linkOpen p = true → (s.fports.look p).replayFrom = none → (s.fports.look p).oq = [u] → u.home = none → c = u.drrCls → c < 5 →
      (s.fports.look p).cur = c → n = bodyFlits u.body → n ≤ s.pquant p c → s.canStart p clear u = true → seq = s.get (F.WPR_LINK_STATUS_TX_NEXT p) →
      s.gives (.portTransmit p clear) (({ s with
        fports := s.fports.upd p fun f => { f with
          oq := [], deficit := (List.range 5).map fun i => if i = c then 0 else vcAt f.deficit i, cur := (c + 1) % 5
          replay := f.replay ++ [(⟨u.vc, seq, n, u.body⟩ : LinkUnit)], sent := vcAdd f.sent u.vc n }
        portCnt := s.portCnt.upd (p * 4) fun v => (v + n) % 2 ^ 64 }.put (F.WPR_LINK_STATUS_TX_NEXT p) ((seq + 1) % 4096)).out (.linkUnit p ⟨u.vc, seq, n, u.body⟩))) ∧
    (∀ (p clear i : Nat) (u : LinkUnit), p < 64 → s.linkOpen p = true → (s.fports.look p).replayFrom = some i → (s.fports.look p).replay[i]? = some u → (s.fports.look p).oq = [] →
      s.gives (.portTransmit p clear) ({ s with
        fports := s.fports.upd p fun f => { f with replayFrom := if i + 1 < f.replay.length then some (i + 1) else none }
        portCnt := s.portCnt.upd (p * 4) fun v => (v + u.flits) % 2 ^ 64 }.out (.linkUnit p u))) ∧
    (∀ (p : Nat) (g : Gossip), p < 64 → s.linkOpen p = true → okGossip g = true → g.crcOk = true →
      s.completes (.gossipReceive p g) fun t =>
        t = { s with regs := t.regs, outs := t.outs, portCnt := t.portCnt } ∧ t.get (F.RTP_STATUS_NEIGHBOUR p) = g.router ∧ t.get (F.RTP_STATUS_GOSSIP_AGE p) = 0 ∧
        ∀ n : Nat, n < 64 → t.gossipOf p n = g.levels.getD n 0) ∧
    (∀ p : Nat, p < 64 → 4 ≤ s.get (F.RTP_STATUS_GOSSIP_AGE p) →
      s.completes (.gossipTimeout p) fun t =>
        t = { s with regs := t.regs, outs := t.outs } ∧ ∀ n : Nat, n < 64 → wbits (t.reg (0x1000010 + p * 0x10000 + n / 16 * 8)) (4 * (n % 16) + 3) (4 * (n % 16)) = 0)

/-! ### Convoys (spec/12) -/

/-- A transit convoy whose stage has come is ACTIVE and its slots are shown if sync is locked, and BROKEN with cause 2 otherwise (R360). In a slot a transit sends
the oldest frame it holds, a source its next frame once its bytes are read, within 64 of what is acknowledged (R364, R365). A frame of an active transit waits
for its slot; one of an unknown convoy counts as a stray (R365). A sink writes a frame's bytes at its place and moves its count on (R366, R367). An
acknowledgement frees the source's frames below its count; one that is overdue is read again for a re-send (R367). A parked source read is translated afresh
(R364). TEARDOWN frees the record at its stage (R369), a broken convoy gives up its slots after its 4 stages (R370). -/
def Obligations.Convoys : Prop :=
  ∀ (s : State) (v : Nat) (c : Cvy), s.calm → v < 1024 → c = s.cvys.look v →
    (c.st = 1 → c.start ≤ s.now → s.locked = true → c.role = 1 →
      s.gives (.convoyActivate v) ({ s with cvys := s.cvys.upd v fun r => { r with st := 2, chan := none } }.cvyShow c.outPort)) ∧
    (c.st = 1 → c.start ≤ s.now → s.locked = false → c.role = 1 → c.chan = none →
      s.gives (.convoyActivate v) ({ s with cvys := s.cvys.upd v fun r => { r with st := 4, cause := 2, left := 4, slots := 0 } }.cvyShow c.outPort)) ∧
    (∀ (f : Frame) (fs : List Frame), s.halted = false → s.sealed = false → s.portLive c.outPort = true → c.slots ≠ 0 → c.role = 1 → c.st = 2 → c.buf = f :: fs →
      f.len = cvyP (s.get F.STG_PERIOD_CODE) →
      s.gives (.convoySlot v) ({ s with
        cvys := s.cvys.upd v fun r => { r with buf := fs, forwarded := (r.forwarded + 1) % 2 ^ 32 }
        portCnt := s.portCnt.upd (c.outPort * 4) fun n => (n + cvyFlits (s.get F.STG_PERIOD_CODE)) % 2 ^ 64 }.out (.frame c.outPort f))) ∧
    (∀ (key : Key) (d : List Byte) (p : Nat), s.halted = false → s.sealed = false → s.portLive c.outPort = true → c.slots ≠ 0 → c.role = 0 → c.st = 2 → c.tx = [] →
      p = cvyP (s.get F.STG_PERIOD_CODE) → d.length = p → c.frameData p c.nextSeq = some d → c.nextSeq < c.n → c.nextSeq < c.cum + 64 → c.chan.isSome = true → c.n ≤ c.asked →
      s.key c.dom = some key →
      s.gives (.convoySlot v) ({ s with
        cvys := s.cvys.upd v fun r => { r with
          got := r.got.filter fun g => !decide (c.nextSeq * p ≤ g.1 ∧ g.1 < c.nextSeq * p + p), tx := [⟨c.nextSeq, s.now, 0, false, d, c.forwarded⟩]
          nextSeq := c.nextSeq + 1, forwarded := c.forwarded + 1 }
        portCnt := s.portCnt.upd (c.outPort * 4) fun n => (n + cvyFlits (s.get F.STG_PERIOD_CODE)) % 2 ^ 64 }.out
        (.frame c.outPort ⟨v, c.dom, c.nextSeq, d.length, s.inc, s.self, d, ⟨key, cvyIv v s.self c.nextSeq s.inc c.start, true⟩, true⟩))) ∧
    (∀ (port : Nat) (f : Frame), port < 64 → okFrame f = true → f.convoy = v → c.st = 2 → c.role = 1 → c.inPort = port → c.buf.length < 2 * pop16 c.slots →
      s.gives (.convoyFrameForward port f) { s with cvys := s.cvys.upd v fun r => { r with buf := r.buf ++ [f] } }) ∧
    (∀ (port : Nat) (f : Frame), port < 64 → okFrame f = true → f.convoy = v → c.st = 0 → s.gives (.convoyFrameForward port f) (s.bump F.RTC_CVY_COUNT_STRAY 1)) ∧
    (∀ (port pa va p : Nat) (f : Frame), port < 64 → okFrame f = true → f.convoy = v → c.st = 2 → c.role = 2 → c.inPort = port → f.domain = c.dom → f.seq = c.cum → c.cum + 1 < c.n →
      c.seen = [] → c.pend = [] → p = cvyP (s.get F.STG_PERIOD_CODE) → f.len = c.frameLen p f.seq → f.payload.length = f.len → f.crcOk = true → f.sealed.intact = true →
      f.sealed.iv = cvyIv v f.srcRouter f.seq f.srcInc c.start → (s.doms.look c.dom).cur = some f.sealed.key → va = (c.va + f.seq * p) % 2 ^ 64 →
      s.maps c.pasid c.dom .write va f.len pa → s.hostOpen c.pasid →
      s.gives (.convoyFrameReceive port f) (({ s with
        cvys := s.cvys.upd v fun r => { r with srcInc := f.srcInc, srcRouter := f.srcRouter, cum := c.cum + 1 } }.wrote c.pasid pa f.len f.payload).ledger c.dom ldRx f.len)) ∧
    (∀ (a : Ctl) (x : CvyTx), okCtl a = true → a.kind = .cvyAck → a.crcOk = true → s.quiet = false → s.age a.birth ≤ s.lifetime → (a.dstInc = 0 ∨ a.dstInc = s.inc) →
      s.ctlOk a = true → s.endpoint a.srcNode = none → v = wbits (a.body.getD 0 0) 9 0 → c.role = 0 → c.st = 2 → c.dom = a.domain → c.tx = [x] →
      x.seq < wbits (a.body.getD 0 0) 63 32 → wbits (a.body.getD 0 0) 63 32 ≠ c.n → c.n ≤ c.asked →
      s.gives (.cvyAck a) ({ s with
        cvys := s.cvys.upd v fun r => { r with cum := max r.cum (wbits (a.body.getD 0 0) 63 32), tx := [] } }.ledger c.dom ldTx
        (c.frameLen (cvyP (s.get F.STG_PERIOD_CODE)) x.seq))) ∧
    (∀ (x : CvyTx) (p ch va n : Nat), c.tx = [x] → x.seq < 2 ^ 32 → x.due = false → c.st = 2 → x.sentAt + max (s.get F.RTC_CVY_CTRL_RTO_STAGES) 1 ≤ s.now →
      x.resends < max (s.get F.RTC_CVY_CTRL_RESEND_LIMIT) 1 → p = cvyP (s.get F.STG_PERIOD_CODE) → c.chan = some ch → n = c.frameLen p x.seq → 0 < n → n ≤ s.burstSize ch →
      va = (c.va + x.seq * p) % 2 ^ 64 → va % 4096 + n ≤ 4096 →
      s.gives (.convoyFrameTimeout v x.seq) { s with
        cvys := s.cvys.upd v fun r => { r with tx := [{ x with due := true }] }
        chans := s.chans.upd ch fun d => { d with
          jumped := d.jumped ++ [{ (default : Burst) with id := d.nextId, op := noOp, kind := .cvyRd v (x.seq * p), off := x.seq * p, len := n, pieces := [(va, n)] }]
          nextId := d.nextId + 1 } }) ∧
    (∀ (ch va n pa off : Nat) (b : Burst) (flt : Nat × Nat × Nat), c.st = 2 → c.role = 0 → c.retryIn = 0 → c.chan = some ch → ch < 128 → s.regform ch = false →
      (s.chans.look ch).parked = true → (s.chans.look ch).bursts = [b] → b.faulted = some flt → b.kind = .cvyRd v off → b.pieces = [(va, n)] → b.data = [] →
      s.maps c.pasid c.dom .read va n pa →
      s.gives (.convoySourceRetry v) ({ s with
        chans := s.chans.upd ch fun d => { d with parked := false, parkOp := 0, bursts := [{ b with faulted := none, issued := true }] } }.asked
        (.burst ch b.id) c.pasid c.dom va n pa)) ∧
    (∀ t : Nat, c.teardown = some t → t ≤ s.now → c.st ≠ 0 → c.chan = none → s.gives (.convoyRelease v) ({ s with cvys := s.cvys.del v }.cvyShow c.outPort)) ∧
    (c.st = 4 → c.left = 0 → s.gives (.convoyBrokenRelease v) ({ s with cvys := s.cvys.upd v fun r => { r with slots := 0, buf := [], left := 0 } }.cvyShow c.outPort))

/-! ### Links (spec/13) -/

/-- A link that goes down shows its cause and is not healthy, and its replay buffer and output queue are empty, source 0x0C5 (R357, R376); the link of the sync
parent takes the device to LOST (R56). An intact unit in sequence enters the input buffer, one out of sequence is discarded and asks for a replay (R374). A
control flit frees the units it acknowledges and carries the freed flits (R375, R378). A replay starts at the oldest unacknowledged unit; the eighth that fails
takes the link down (R375). The link is up once a LINIT has gone and one has come, with its sequence numbers at 0 (R377); RETRAIN, or a LINIT on a link that is
up, takes it down with cause 3. -/
def Obligations.Links : Prop :=
  ∀ (s : State) (p : Nat) (f : FPort), s.calm → p < 64 → f = s.fports.look p →
    (∀ cause : Nat, 1 ≤ cause → cause ≤ 5 → s.get (F.WPR_LINK_STATUS_STATE p) ≠ 0 → s.grps = [] → s.cvys = [] →
      s.completes (.linkDown p cause) fun t =>
        t.get (F.WPR_LINK_STATUS_STATE p) = 0 ∧ t.get (F.WPR_LINK_STATUS_DOWN_CAUSE p) = cause ∧ t.get (F.RTP_STATUS_LINK_UP p) = 0 ∧
        (t.get F.RTC_PORT_HEALTH_HEALTH).testBit p = false ∧ (t.fports.look p).oq = [] ∧ (t.fports.look p).replay = [] ∧ t.flag (fltPend 0x0C5) = true) ∧
    (∀ cause : Nat, 1 ≤ cause → cause ≤ 5 → s.get (F.WPR_LINK_STATUS_STATE p) ≠ 0 → s.grps = [] → s.cvys = [] → s.flag (F.RTP_STATUS_LINK_UP p) = true → s.parentIs p = true →
      s.locked = true → s.completes (.linkDown p cause) fun t => t.get F.STG_SYNC_STATUS_STATE = 3 ∧ t.flag (fltPend 0x003) = true) ∧
    (∀ (u : LinkUnit) (seq : Nat), okUnit u = true → s.linkOpen p = true → u.lseq = s.get (F.WPR_LINK_STATUS_RX_NEXT p) → s.age (unitBirth u.body) ≤ s.lifetime → seq = u.lseq →
      s.gives (.linkUnitReceive p u true) ({ s with
        rin := s.rin.upd p fun l => l ++ [(⟨u.vc / 5, u.vc % 5, false, some (p, u.vc), s.tick, u.body⟩ : RUnit)]
        fports := s.fports.upd p fun g => { g with nak := false, nakSent := false }
        portCnt := s.portCnt.upd (p * 4 + 1) fun v => (v + u.flits) % 2 ^ 64 }.put (F.WPR_LINK_STATUS_RX_NEXT p) ((seq + 1) % 4096))) ∧
    (∀ u : LinkUnit, okUnit u = true → s.linkOpen p = true → u.lseq ≠ s.get (F.WPR_LINK_STATUS_RX_NEXT p) → f.nakSent = false →
      s.gives (.linkUnitReceive p u true) ({ s with
        fports := s.fports.upd p fun g => { g with nak := true, nakSent := false }
        portCnt := s.portCnt.upd (p * 4 + 1) fun v => (v + u.flits) % 2 ^ 64 }.bump (F.WPR_LINK_COUNT_B_OUT_OF_SEQ p) 1)) ∧
    (∀ (l : Lcf) (i : Nat), okLcf l = true → l.ok = true → l.nak = false → s.get (F.WPR_LINK_STATUS_STATE p) = 2 → f.mark = none → f.replayFrom = none →
      (f.replay.findIdx? fun u => u.lseq == l.lack) = some i →
      s.gives (.lcfReceive p l) { s with fports := s.fports.upd p fun g => { g with replay := g.replay.drop (i + 1), peerFreed := l.freed.take 25 } }) ∧
    (∀ (u : LinkUnit) (us : List LinkUnit), f.replay = u :: us → f.mark = none → s.get (F.WPR_LINK_STATUS_STATE p) = 2 → s.get (F.WPR_LINK_STATUS_FAILED_REPLAYS p) < 8 →
      s.gives (.replayTimeout p) (({ s with
        fports := s.fports.upd p fun g => { g with replayFrom := some 0, mark := some u.lseq }
        portCnt := s.portCnt.upd (p * 4 + 2) fun v => (v + 1) % 2 ^ 64 }.put (F.WPR_LINK_STATUS_FAILED_REPLAYS p) (s.get (F.WPR_LINK_STATUS_FAILED_REPLAYS p))).bump
        (F.WPR_LINK_COUNT_REPLAYS p) 1)) ∧
    (∀ (m : Nat), f.replay ≠ [] → f.mark = some m → s.get (F.WPR_LINK_STATUS_STATE p) = 2 → s.get (F.WPR_LINK_STATUS_FAILED_REPLAYS p) = 7 → s.grps = [] → s.cvys = [] →
      s.completes (.replayTimeout p) fun t => t.get (F.WPR_LINK_STATUS_STATE p) = 0 ∧ t.get (F.WPR_LINK_STATUS_DOWN_CAUSE p) = 1 ∧ (t.fports.look p).replay = []) ∧
    (s.linkOpen p = true →
      s.gives (.lcfSend p) ({ s with
        fports := s.fports.upd p fun g => { g with nak := false, nakSent := g.nakSent || g.nak }, portCnt := s.portCnt.upd (p * 4) fun v => (v + 1) % 2 ^ 64 }.out
        (.lcf p ⟨(s.get (F.WPR_LINK_STATUS_RX_NEXT p) + 4095) % 4096, f.nak, (List.range 32).map fun v => if v < 25 then vcAt f.freed v else 0, true⟩))) ∧
    (f.trained = true → s.get (F.WPR_LINK_STATUS_STATE p) ≠ 2 → s.flag (F.RTP_CTRL_EN p) = true → s.halted = false → s.sealed = false → f.linitRx = false →
      s.gives (.linitSend p) (({ s with
        fports := s.fports.upd p fun g => { g with linitTx := true }, portCnt := s.portCnt.upd (p * 4) fun v => (v + 1) % 2 ^ 64 }.put
        (F.WPR_LINK_STATUS_STATE p) 1).out (.linit p ⟨s.self, s.inc, p, s.get F.STG_PERIOD_CODE⟩))) ∧
    (f.trained = true → s.get (F.WPR_LINK_STATUS_STATE p) ≠ 2 → s.flag (F.RTP_CTRL_EN p) = true → s.halted = false → s.sealed = false → f.linitRx = true →
      s.completes (.linitSend p) fun t =>
        t.get (F.WPR_LINK_STATUS_STATE p) = 2 ∧ t.get (F.RTP_STATUS_LINK_UP p) = 1 ∧ t.get (F.WPR_LINK_STATUS_TX_NEXT p) = 0 ∧ t.get (F.WPR_LINK_STATUS_RX_NEXT p) = 0 ∧
        (t.fports.look p).replay = [] ∧ (t.fports.look p).sent = [] ∧ (t.fports.look p).oq = f.oq) ∧
    (∀ l : Linit, okLinit l = true → f.trained = true → s.get (F.WPR_LINK_STATUS_STATE p) ≠ 2 → s.flag (F.RTP_CTRL_EN p) = true → s.halted = false → s.sealed = false → f.linitTx = false →
      s.gives (.linitReceive p l) (({ s with
        fports := s.fports.upd p fun g => { g with linitRx := true, peerRouter := l.router }, portCnt := s.portCnt.upd (p * 4 + 1) fun v => (v + 1) % 2 ^ 64 }.put
        (F.WPR_LINK_STATUS_STATE p) 1).put (F.WPR_LINK_STATUS_PEER_INC p) l.inc)) ∧
    (∀ l : Linit, okLinit l = true → f.trained = true → s.get (F.WPR_LINK_STATUS_STATE p) = 2 → s.flag (F.RTP_CTRL_EN p) = true → s.halted = false → s.sealed = false → s.grps = [] →
      s.cvys = [] → s.completes (.linitReceive p l) fun t => t.get (F.WPR_LINK_STATUS_STATE p) = 0 ∧ t.get (F.WPR_LINK_STATUS_DOWN_CAUSE p) = 3) ∧
    (∀ o : Origin, okOrigin o = true → s.mayWrite o (0x701000 + 32 * p) → s.get (F.WPR_LINK_STATUS_STATE p) ≠ 0 → s.grps = [] → s.cvys = [] →
      s.completes (.linkRetrain o p) fun t => t.get (F.WPR_LINK_STATUS_STATE p) = 0 ∧ t.get (F.WPR_LINK_STATUS_DOWN_CAUSE p) = 3)

/-! ### Control packets and timers (spec/13) -/

/-- An ACK acknowledges the packets up to its PSN, and the operation whose packets are all acknowledged completes OK (R398, R397). A NACK_RNR or NACK_XLATE makes
its packet wait for the stages it gives; a NACK_SEQ_GAP for a later packet makes it wait for the packets before it (R398). A REFUSE next in order ends its
operation with its status and is confirmed (R397). A NACK_STALE or any packet of a new incarnation ends the pair channels to its router (R407). A packet whose
wait or timeout is over is read again for a re-send, and at the limit the pair channel is abandoned with a SYNC (R398 to R400). A SYNC_ACK ends the SYNC, which
goes again each timeout and no longer counts after 8 (R400). A record out of use is freed (R404). -/
def Obligations.SourceOfAPairChannel : Prop :=
  ∀ (s : State) (k : Nat) (tx : PairTx), s.calm → tx = s.ptx.look k → tx.live = true →
    (∀ (c : Ctl) (x : TxPkt) (j : Nat), s.hears c .ack → s.knows c → k = s.ctlPair c → tx.pkts = [x] → x.psn = c.psn → x.acked = false → x.isReq = false → x.op = j → j < 2 ^ 40 →
      tx.refusalsApplied = wbits c.arg 7 0 → s.noChannelWork →
      (s.ops.keysOf fun o => o.live && o.fin.isNone && o.allFormed && o.eng == .bulk && o.src.1 == k) = [j] → (s.ops.look j).live = true → (s.ops.look j).fin = none →
      (s.ops.look j).failSt = none → (s.ops.look j).opcode = 0x20 →
      s.completes (.ack c) fun t =>
        (t.ops.look j).fin = some (stOk, (s.ops.look j).x.total, none) ∧ (t.ops.look j).acked = (s.ops.look j).acked + x.len ∧
        t.ptx.look k = { tx with pkts := [{ x with acked := true, retryIn := none, afterAck := false, op := noOp }], refusalsSeen := wbits c.arg 7 0, idle := 0, heldAge := 0 }) ∧
    (∀ (c : Ctl) (x y : TxPkt), s.hears c .nackSeqGap → s.knows c → k = s.ctlPair c → tx.pkts = [y, x] → x.psn = c.psn → y.psn = wbits c.arg 23 0 → psnAhead x.psn y.psn = true →
      x.acked = false → y.acked = false → x.retryIn = none → y.afterAck = false → s.now < y.sentAt + s.gapStages →
      s.gives (.nackSeqGap c) { s with ptx := s.ptx.upd k fun t => { t with idle := 0, pkts := [y, { x with afterAck := true }] } }) ∧
    (∀ (c : Ctl) (x : TxPkt), s.hears c .nackRnr → s.knows c → k = s.ctlPair c → tx.pkts = [x] → x.psn = c.psn → x.acked = false →
      s.gives (.nackRnr c) { s with ptx := s.ptx.upd k fun t => { t with idle := 0, pkts := [{ x with retryIn := some (wbits c.arg 7 0) }] } }) ∧
    (∀ (c : Ctl) (x : TxPkt), s.hears c .nackXlate → s.knows c → k = s.ctlPair c → tx.pkts = [x] → x.psn = c.psn → x.acked = false →
      s.gives (.nackXlate c) { s with ptx := s.ptx.upd k fun t => { t with idle := 0, pkts := [{ x with retryIn := some (wbits c.arg 7 0) }] } }) ∧
    (∀ (c : Ctl) (router port : Nat), s.hears c .nackStale → k = s.ctlPair c → s.endpoint c.srcNode = some (router, port) → s.peerInc.look router ≠ 0 →
      s.peerInc.look router ≠ c.srcInc →
      (s.ptx.keysOf fun t => t.live && (match s.endpoint t.node with | some (r, _) => r == router | none => t.router == router)) = [k] → tx.router = router → tx.node = c.srcNode →
      s.ops = [] → s.gives (.nackStale c) { s with ptx := s.ptx.del k, peerInc := s.peerInc.put router c.srcInc }) ∧
    (∀ (c : Ctl) (x : TxPkt) (j : Nat), s.hears c .refuse → s.knows c → k = s.ctlPair c → wbits c.arg 39 32 = (tx.refusalsApplied + 1) % 256 → tx.refusalsSeen = tx.refusalsApplied →
      tx.refusalsApplied < 256 → tx.pkts = [x] → x.psn = c.psn → wbits c.arg 63 40 = c.psn → x.acked = false → x.isReq = false → x.op = j → j < 2 ^ 40 → s.noChannelWork →
      (s.ops.keysOf fun o => o.live && o.fin.isNone && o.src.1 == k && o.opid == wbits c.arg 31 0 && o.eng == .bulk) = [j] → (s.ops.look j).live = true → (s.ops.look j).fin = none →
      (s.ops.look j).src.1 = k → (s.ops.look j).eng = .bulk → (s.ops.look j).opid = wbits c.arg 31 0 → (s.ops.look j).bound = none →
      (s.ops.look j).failSt = none → (s.ops.look j).opcode = 0x20 → s.answers tx.node c.domain →
      s.completes (.refuse c) fun t =>
        (t.ops.look j).fin = some (c.status, min ((s.ops.look j).acked + x.len) (min (s.ops.look j).quota x.loff), none) ∧
        (t.ptx.look k).refusalsApplied = wbits c.arg 39 32 ∧ t.sentCtl .refuseAck 0 tx.node tx.func = true) ∧
    (∀ c : Ctl, s.hears c .syncAck → s.knows c → k = s.ctlPair c → tx.sync.map (·.1) = some c.psn → s.noChannelWork →
      s.gives (.syncAck c) { s with ptx := s.ptx.upd k fun t => { t with idle := 0, sync := none, abandoned := false } }) ∧
    (∀ (x : TxPkt) (ch : Nat), k < 2 ^ 60 → tx.pkts = [x] → x.psn < 2 ^ 24 → x.acked = false → s.timeout ≤ x.age → x.resends < s.resendLimit → x.reading = false → x.pieces ≠ [] →
      (s.ops.look x.op).bound = some ch → s.resps = [] →
      s.gives (.packetTimeout k x.psn) ({ s with
        ptx := s.ptx.upd k fun t => { t with pkts := [{ x with resends := x.resends + 1, age := 0, retryIn := none, afterAck := false, reading := true }] }
        chans := s.chans.upd ch fun c => { c with
          jumped := c.jumped ++ [{ (default : Burst) with id := c.nextId, op := x.op, kind := .resend k x.psn, len := x.len, pieces := x.pieces }]
          nextId := c.nextId + 1 } }.bump F.WPR_E2E_COUNT_A_RESENDS 1)) ∧
    (∀ (x : TxPkt), tx.pkts = [x] → x.psn < 2 ^ 24 → x.acked = false → x.retryIn = some 0 → s.resendLimit ≤ x.resends → s.ops = [] → s.answers tx.node x.dom →
      s.completes (.retryAfterExpiry k x.psn) fun t =>
        t.ptx.look k = { tx with pkts := [{ x with acked := true }], sync := some (tx.nextPsn, 0, 0) } ∧ t.sentCtl .sync tx.nextPsn tx.node tx.func = true) ∧
    (∀ j : Nat, tx.refusalsApplied ≠ tx.refusalsSeen → (s.resendLimit + 1) * s.timeout ≤ tx.heldAge → tx.pkts = [] → s.noChannelWork →
      (s.ops.keysOf fun o => o.live && o.fin.isNone && o.src.1 == k && o.eng == .bulk) = [j] → (s.ops.look j).live = true → (s.ops.look j).fin = none →
      (s.ops.look j).allFormed = true → (s.ops.look j).opcode ≠ 0x31 →
      s.completes (.refusalWaitExpiry k) fun t =>
        (t.ops.look j).fin = some (stUnreach, (s.ops.look j).failBytes, none) ∧ t.ptx.look k = { tx with refusalsApplied := tx.refusalsSeen, heldAge := 0 }) ∧
    (∀ (p age since : Nat) (x : TxPkt), tx.sync = some (p, age, since) → s.timeout ≤ since → tx.pkts = [x] → s.answers tx.node x.dom →
      s.completes (.syncResend k) fun t => t.ptx.look k = { tx with sync := some (p, age, 0) } ∧ t.sentCtl .sync p tx.node tx.func = true) ∧
    (∀ (p age since : Nat), tx.sync = some (p, age, since) → 8 * s.timeout ≤ age → s.noChannelWork →
      s.gives (.syncAbandon k) { s with ptx := s.ptx.upd k fun t => { t with abandoned := true } }) ∧
    (s.ops = [] → tx.sync = none → s.retain + s.lifetime + 1 ≤ tx.idle → s.gives (.sendRecordExpiry k) { s with ptx := s.ptx.del k })

/-- A SYNC sets the expected PSN, drops what is held and is answered (R401). A REFUSE_ACK frees the refusal it names; one that is not confirmed goes again each
timeout, and is dropped at the limit (R396). Packets handled are acknowledged by the ACK timer (R395), a gap that lasts is reported with the expected PSN
(R398), an aged packet in the waystation is dropped (R403), a record out of use is freed (R404). The device becomes audible when the quiet time after its
incarnation is over (R408). -/
def Obligations.TargetOfAPairChannel : Prop :=
  ∀ (s : State) (k : Nat) (r : PairRx), s.calm → r = s.prx.look k →
    (∀ (c : Ctl) (port : Nat), s.hears c .sync → s.knows c → s.endpoint c.dstNode = some (s.self, port) → k = pairKey port c.dstFunc c.srcNode c.srcFunc c.chan → s.msgs = [] →
      s.answers c.srcNode c.domain → r.live = true → r.srcInc = c.srcInc →
      s.completes (.sync c) fun t =>
        t.prx.look k = { r with
          live := true, node := c.srcNode, func := c.srcFunc, port := port, fn := c.dstFunc, chan := c.chan, dom := c.domain, expected := c.psn
          taken := 0, held := [], cur := none, curDup := false, st := .idle, refusing := none, idle := 0 } ∧
        t.sentCtl .syncAck c.psn c.srcNode c.srcFunc = true) ∧
    (∀ (c : Ctl) (port : Nat), s.hears c .refuseAck → s.knows c → s.endpoint c.dstNode = some (s.self, port) → k = pairKey port c.dstFunc c.srcNode c.srcFunc c.chan →
      s.gives (.refuseAck c) { s with prx := s.prx.upd k fun r => { r with refusals := r.refusals.filter (·.num != wbits c.arg 39 32) } }) ∧
    (k < 2 ^ 60 → r.live = true → r.held ≠ [] → r.cur = none → s.gapStages ≤ r.heldAge → s.answers r.node r.dom →
      s.completes (.seqGapReport k) fun t =>
        t.prx.look k = { r with heldAge := 0 } ∧ t.get F.WPR_NACK_SENT_SEQ_GAP = satAdd 16 (s.get F.WPR_NACK_SENT_SEQ_GAP) 1 ∧ t.sentCtl .nackSeqGap r.expected r.node r.func = true) ∧
    (∀ f : Rfsl, r.refusals = [f] → f.num < 256 → s.timeout ≤ f.age → f.resends < s.resendLimit → s.answers r.node r.dom →
      s.completes (.refuseResend k f.num) fun t =>
        t.prx.look k = { r with refusals := [{ f with age := 0, resends := f.resends + 1 }] } ∧ t.sentCtl .refuse f.lastPsn r.node r.func = true) ∧
    (∀ f : Rfsl, r.refusals = [f] → f.num < 256 → s.timeout ≤ f.age → s.resendLimit ≤ f.resends →
      s.gives (.refuseResend k f.num) { s with prx := s.prx.upd k fun r => { r with refusals := [] } }) ∧
    (r.live = true → 0 < r.owedAcks → s.answers r.node r.dom →
      s.completes (.ackTimer k) fun t => t.prx.look k = { r with owedAcks := 0 } ∧ t.sentCtl .ack ((r.expected + 2 ^ 24 - 1) % 2 ^ 24) r.node r.func = true) ∧
    (∀ p : Packet, r.held = [p] → p.psn < 2 ^ 24 → s.lifetime < s.age p.birth →
      s.gives (.lifetimeExpiry k p.psn) ({ s with prx := s.prx.upd k fun r => { r with held := [] } }.bump F.WPR_E2E_COUNT_B_LIFETIME_DROPS 1)) ∧
    (r.live = true → r.held = [] → r.cur = none → r.taken = 0 → r.refusals = [] → r.refusing = none → s.retain ≤ r.idle →
      s.gives (.receiveRecordExpiry k) { s with prx := s.prx.del k }) ∧
    (s.firstBnd = true → s.quietLeft = 0 → s.gives .incarnationQuietEnd { s with quiet := false })

/-! ### Management messages, SPDM, keys, billing and seals (spec/15) -/

/-- A WQ4 message that passes its checks starts a run of WQ4 with its program and parameters and moves the sequence number on; one that fails is source 0x047 (R432,
R39). REGISTER takes the staged words as the fabric manager key if they are a point of P-384, and leaves none otherwise (R40). An SPDM message for another
router goes on to it, a request for this one is answered to its origin with its tag (R433). The mailbox sends its window to its target and waits, takes the
answer of its tag, or times out (R434). -/
def Obligations.ManagementMessages : Prop :=
  ∀ (s : State), s.calm →
    (∀ (m : Mgmt) (ctx : Nat), okMgmt m = true → m.crcOk = true → s.age m.birth ≤ s.lifetime → s.mode ≠ 0 → s.halted = false → s.sealed = false → m.kind = 1 →
      s.freeContext = some ctx → m.formatOk = true → m.prog ≠ [] → m.param.length ≤ 495 → m.target = s.self → m.targetInc = s.inc → m.sigOk = true → s.fmKey ≠ [] →
      s.get F.DEV_AUTH_SEQ_SEQ < m.seq → m.seq < 2 ^ 32 →
      s.completes (.wq4Program m) fun t =>
        (t.runs.look ctx).wq = 4 ∧ (t.runs.look ctx).dom = 0 ∧ (t.runs.look ctx).prog = .message m.prog ∧ (t.runs.look ctx).params = .msg m.param ∧ (t.runs.look ctx).pc = 0 ∧
        (t.runs.look ctx).g = [] ∧ (t.runs.look ctx).limit = s.stepLimit 4 ∧ ((t.runs.look ctx).st = .running ∨ (t.runs.look ctx).st = .ready) ∧ t.get F.DEV_AUTH_SEQ_SEQ = m.seq) ∧
    (∀ (m : Mgmt) (ctx : Nat), okMgmt m = true → m.crcOk = true → s.age m.birth ≤ s.lifetime → s.mode ≠ 0 → s.halted = false → s.sealed = false → m.kind = 1 →
      s.freeContext = some ctx → (m.formatOk = false ∨ m.target ≠ s.self ∨ m.targetInc ≠ s.inc ∨ m.sigOk = false ∨ m.seq ≤ s.get F.DEV_AUTH_SEQ_SEQ) →
      s.givesFault (.wq4Program m) s 0x047) ∧
    (∀ (o : Origin) (ws : List Word), s.mayWrite o 0x60018 → okOrigin o = true → s.originAuth o = true → s.sealed = false → s.flag F.SEC_STATUS_FMKEY_LOCKED = false →
      ws = ((List.range 12).map fun k => s.reg (0x60020 + 8 * k)) → p384Point ws = true →
      s.gives (.fmKeyRegister o) ((({ s with fmKey := ws }.put F.SEC_FM_KEY_CTRL_VALID 1).put F.SEC_FM_KEY_CTRL_INVALID 0).put F.SEC_STATUS_FMKEY_VALID 1)) ∧
    (∀ (o : Origin) (ws : List Word), s.mayWrite o 0x60018 → okOrigin o = true → s.originAuth o = true → s.sealed = false → s.flag F.SEC_STATUS_FMKEY_LOCKED = false →
      ws = ((List.range 12).map fun k => s.reg (0x60020 + 8 * k)) → p384Point ws = false →
      s.gives (.fmKeyRegister o) ((({ s with fmKey := [] }.put F.SEC_FM_KEY_CTRL_VALID 0).put F.SEC_FM_KEY_CTRL_INVALID 1).put F.SEC_STATUS_FMKEY_VALID 0)) ∧
    (∀ m : Mgmt, okMgmt m = true → m.crcOk = true → s.age m.birth ≤ s.lifetime → m.formatOk = true → (m.kind = 2 ∨ m.kind = 3) → m.target ≠ s.self →
      s.gives (.mgmtForward m false) (s.toRouter 4 (.mgmt { m with dstRouter := m.target }))) ∧
    (∀ (m : Mgmt) (answer : List Byte), okMgmt m = true → m.crcOk = true → s.age m.birth ≤ s.lifetime → m.formatOk = true → m.kind = 2 → m.target = s.self → s.sealed = false →
      s.mode ≠ 0 → s.quiet = false →
      s.gives (.spdmFabricRequest m answer)
        (s.toRouter 4 (.mgmt ⟨m.origin, s.now % 4096, 3, m.origin, 0, m.origin, m.mtag, 0, [], [], answer, false, true, true⟩))) ∧
    (∀ m : Mgmt, okMgmt m = true → m.crcOk = true → s.age m.birth ≤ s.lifetime → m.formatOk = true → m.kind = 3 → m.target = s.self → s.sealed = false →
      s.flag F.SEC_MBX_CTRL_BUSY = true → m.mtag = s.mbxTag →
      s.gives (.spdmFabricResponse m) ((({ s with mbxLeft := 0 }.fillWindow 0x62000 m.body).put F.SEC_MBX_CTRL_BUSY 0).put F.SEC_MBX_CTRL_RESULT 0 |>.put F.SEC_MBX_CTRL_RX_LEN m.body.length)) ∧
    (∀ (o : Origin) (v : Word) (n dst tag : Nat), s.mayWrite o 0x60100 → okOrigin o = true → s.flag F.SEC_MBX_CTRL_BUSY = false → s.quiet = false → n = wbits v 27 16 → 0 < n → n ≤ 4064 →
      dst = wbits v 47 32 → tag = (s.mbxTag + 1) % 65536 →
      s.gives (.mailboxSend o v) ({ ((s.put F.SEC_MBX_CTRL_TARGET dst).put F.SEC_MBX_CTRL_TX_LEN n).put F.SEC_MBX_CTRL_BUSY 1 with mbxTag := tag, mbxLeft := 1025 }.toRouter 4
        (.mgmt ⟨dst, s.now % 4096, 2, dst, 0, s.self, tag, 0, [], [], s.window 0x61000 n, false, true, true⟩))) ∧
    (s.flag F.SEC_MBX_CTRL_BUSY = true → s.mbxLeft = 1 → s.gives .mailboxTimeout { (s.put F.SEC_MBX_CTRL_BUSY 0).put F.SEC_MBX_CTRL_RESULT 1 with mbxLeft := 0 })

/-- A request on a transport that carries it is answered there (R429); what the SPDM specification gives of a body is the model's free value, and the response codes
are its own (log entry 38). Only slot 0 has a certificate (R426), a signed answer needs the identity (R427), a measurement is of an index of R430. A
KEY_EXCHANGE takes the lowest session of 32, FINISH makes it ready, END_SESSION ends it; a request that is not supported is answered UnsupportedRequest (R429). -/
def Obligations.SpdmResponder : Prop :=
  ∀ (s : State) (t : Transport) (n : Nat), s.calm → okTransport t = true → s.spdmUp t = true →
    (s.gives (.getVersion t) (s.spdmOpen t 0x04)) ∧
    (s.gives (.getCapabilities t) (s.spdmOpen t 0x61)) ∧
    (s.gives (.negotiateAlgorithms t true) (s.spdmOpen t 0x63)) ∧
    (s.gives (.negotiateAlgorithms t false) (s.spdmSay t 0x7F [0x07])) ∧
    (s.gives (.getDigests t) (s.spdmOpen t 0x01)) ∧
    (s.gives (.getCertificate t 0) (s.spdmOpen t 0x02)) ∧
    (∀ slot : Nat, 0 < slot → slot < 8 → s.gives (.getCertificate t slot) (s.spdmOpen t 0x7F)) ∧
    (s.flag F.SEC_STATUS_IDENTITY_OK = true → s.gives (.challenge t) (s.spdmOpen t 0x03)) ∧
    (s.flag F.SEC_STATUS_IDENTITY_OK = false → s.gives (.challenge t) (s.spdmOpen t 0x7F)) ∧
    (∀ (i : Nat) (bs : List Byte), i < 256 → s.flag F.SEC_STATUS_IDENTITY_OK = true → s.measure i = some bs → s.gives (.getMeasurements t i) (s.spdmSay t 0x60 (bs ++ Config.deviceSign bs))) ∧
    (∀ i : Nat, s.flag F.SEC_STATUS_IDENTITY_OK = true → s.sealed = false → i < 32 → (s.sess.look (i + 1)).live = false → (∀ j, j < i → (s.sess.look (j + 1)).live = true) →
      s.gives (.keyExchange t) (({ s with sess := s.sess.put (i + 1) ⟨true, viaCode t, false⟩ }.sessShow).spdmOpen t 0x64)) ∧
    (s.inSession t n false → s.gives (.finish t n true) ({ s with sess := s.sess.upd n fun x => { x with ready := true } }.spdmOpen t 0x65)) ∧
    (s.inSession t n false → s.gives (.finish t n false) (({ s with sess := s.sess.del n }.sessShow).spdmOpen t 0x7F)) ∧
    (s.inSession t n true → s.gives (.heartbeat t n) (s.spdmOpen t 0x68)) ∧
    (s.inSession t n true → s.gives (.keyUpdate t n) (s.spdmOpen t 0x69)) ∧
    (s.inSession t n true → s.gives (.endSession t n) ({ s.spdmOpen t 0x6C with sess := s.sess.del n }.sessShow)) ∧
    (∀ c : Nat, c < 256 → s.gives (.spdmUnsupportedRequest t c) (s.spdmSay t 0x7F [0x07]))

/-- In a ready session that the policy lets change keys: INSTALL gives an active domain its key; with a proof under the current key STAGE sets the alternate, SWITCH
exchanges the two, DROP_ALT drops it (R437), REMOVE takes the domain's keys away (R438). A proof that does not match changes nothing and is RESULT 3. Each
answer gives the domain's state and fingerprints, as QUERY does (R436). -/
def Obligations.KeyOperations : Prop :=
  ∀ (s : State) (t : Transport) (n d : Nat), s.inSession t n true → d < 65536 → (viaCode t = 4 → s.flag F.SEC_POLICY_SB_KEYS = true) →
    (∀ key : Key, (d = 0 → s.flag F.DEV_MODE_COMMITTED = false) → s.domSt d = .active →
      s.gives (.install t n d key) ((s.rekeyed d fun x => { x with cur := some key, alt := none, st := .keyed }).keySaid t 1 d 0)) ∧
    (∀ (key cur : Key) (proof : BitVec 128), (s.doms.look d).cur = some cur → proof = s.keyProof 2 d cur (keyPrint d (some key)) →
      s.gives (.stage t n d key proof) ((s.rekeyed d fun x => { x with alt := some key }).keySaid t 2 d 0)) ∧
    (∀ (key cur : Key) (proof : BitVec 128), (s.doms.look d).cur = some cur → proof ≠ s.keyProof 2 d cur (keyPrint d (some key)) →
      s.gives (.stage t n d key proof) (s.keySaid t 2 d 3)) ∧
    (∀ (cur alt : Key) (proof : BitVec 128), (s.doms.look d).cur = some cur → (s.doms.look d).alt = some alt → proof = s.keyProof 3 d cur [0, 0] →
      s.gives (.switch t n d proof) ((s.rekeyed d fun x => { x with cur := some alt, alt := some cur }).keySaid t 3 d 0)) ∧
    (∀ (cur alt : Key) (proof : BitVec 128), (s.doms.look d).cur = some cur → (s.doms.look d).alt = some alt → proof = s.keyProof 4 d cur [0, 0] →
      s.gives (.dropAlt t n d proof) ((s.rekeyed d fun x => { x with alt := none }).keySaid t 4 d 0)) ∧
    (∀ (cur : Key) (proof : BitVec 128), (s.doms.look d).cur = some cur → s.domSt d = .keyed → d ≠ 0 → proof = s.keyProof 5 d cur [0, 0] → s.ops = [] → s.grps = [] → s.cvys = [] →
      s.gives (.remove t n d proof) ((s.rekeyed d fun x => { x with cur := none, alt := none, st := .active }).keySaid t 5 d 0)) ∧
    (s.gives (.keyQuery t n d) (s.keySaid t 6 d 0))

/-- A period that a boundary closed leaves one record per domain at the producer, and the next period begins (R449); one that finds no room is merged into the next,
a write that fails is source 0x087 and disables the ledger (R451). SEC_SEAL with its confirmation and authority, the sideband's command where the policy has it,
or a fault of a key store seals the device (R452, R525): its keys, sessions, ledger counts and requests are gone and it is in Sealed (R453). A write of SEC_SEAL
without confirmation or authority is source 0x010. -/
def Obligations.BillingAndSeals : Prop :=
  ∀ (s : State), s.calm →
    (∀ n : Nat, s.ledDue = some n → s.ledDoms = [] → s.ledOk 1 = true → s.ledPort = true →
      s.completes (.billingPeriodClose true) fun t =>
        t.ledDue = none ∧ t.ledSeq = s.ledSeq + 1 ∧ t.ledStart = n ∧ t.ledMerged = false ∧ t.get F.SEC_LEDGER_IDX_PRODUCER = (s.get F.SEC_LEDGER_IDX_PRODUCER + 1) % 2 ^ 32 ∧
        (t.doms.look 0).led = [] ∧
        (.hostWrite (s.get F.SEC_LEDGER_BASE_PORT) 0 [(s.get F.SEC_LEDGER_BASE_BASE * 4096 + s.get F.SEC_LEDGER_IDX_PRODUCER % 2 ^ s.ledLog2 * 256, 256)]
          (s.ledRecord 0 (n - 1) false)) ∈ s.newOuts t) ∧
    (∀ (n : Nat) (ok : Bool), s.ledDue = some n → s.ledOk 1 = false → s.gives (.billingPeriodClose ok) { s with ledDue := none, ledMerged := true }) ∧
    (∀ n : Nat, s.ledDue = some n → s.ledDoms = [] → s.ledOk 1 = true →
      s.givesFault (.billingPeriodClose false) { (s.put F.SEC_LEDGER_CTRL_EN 0).put F.SEC_LEDGER_CTRL_STATE 0 with ledDue := none, ledMerged := true } 0x087) ∧
    (∀ (o : Origin) (v : Word), s.mayWrite o 0x60010 → okOrigin o = true → s.originAuth o = true → wbit v 0 = true → wbits v 63 48 = 0x5EA1 → s.quietFabric → s.mode ≠ 0 →
      s.completes (.sealRequest o v) fun t => t.isSealed 2 ∧ .pin "SEAL_N" false ∈ s.newOuts t) ∧
    (∀ (o : Origin) (v : Word), s.mayWrite o 0x60010 → okOrigin o = true → s.sealed = false → (s.originAuth o = false ∨ wbit v 0 = false ∨ wbits v 63 48 ≠ 0x5EA1) →
      s.givesFault (.sealRequest o v) s 0x010) ∧
    (s.flag F.SEC_POLICY_SB_SEAL_EN = true → s.quietFabric → s.mode ≠ 0 → s.completes .sidebandSealCommand fun t => t.isSealed 3 ∧ .pin "SEAL_N" false ∈ s.newOuts t) ∧
    (∀ store : Nat, s.quietFabric → s.mode ≠ 0 →
      s.completes (.keystoreEcc store) fun t => t.isSealed 1 ∧ .pin "SEAL_N" false ∈ s.newOuts t ∧ t.flag (fltPend 0x011) = true)

/-! ### Lanes and training (spec/16) -/

/-- A half leaves ON when its field says so, and its port's training stops (R456, R457); a wake that is done puts it ON. RETRAIN takes an UP port down with cause
LANE, and trains a port that is down from step 1. Each step of training advances under its condition (R462): step 2 with no loss of signal, step 3 with no loss
of lock; a gate without an uncorrectable codeword ends it, one with returns to step 4. A timeout counts on the port's lanes and starts again, and is source
0x0C6 once the port has trained (R463). An assertion of LOS or LOL on a lane that is ON takes an UP port down with cause LANE, and returns training to step 2
(R461). -/
def Obligations.LanesAndTraining : Prop :=
  ∀ (s : State) (p l : Nat), s.calm → p < 64 → l < 256 →
    (∀ (o : Origin) (v : Word) (n : Nat), okOrigin o = true → s.mayWrite o (0x2000000 + 16384 * l) → s.pdQuad (l / 4) < 2 → s.half l true = 0 → n = wbits v 63 62 → 0 < n →
      wbits v 61 60 = s.half l false → wbit v 0 = false → wbit v 56 = s.flag (F.LAN_CTRL_MEDIA l) → wbits v 53 52 = s.get (F.LAN_CTRL_RATE l) → p = l / 4 →
      s.get (F.WPR_LINK_STATUS_STATE p) = 0 →
      s.completes (.lanePowerWrite o l v) fun t =>
        t.half l true = n ∧ t.half l false = s.half l false ∧ t.trainsAt p 0 ∧ (t.fports.look p).trained = false ∧
        (t.train.look p).kept = (n != 3 && ((s.fports.look p).trained || (s.train.look p).kept))) ∧
    (∀ tx : Bool, s.get (if tx then F.LAN_CTRL_TX_PWR l else F.LAN_CTRL_RX_PWR l) = 0 → (s.half l tx = 1 ∨ s.half l tx = 2) →
      s.completes (.laneWakeDone l tx) fun t => t.half l tx = 0) ∧
    (∀ o : Origin, okOrigin o = true → l = 4 * p → s.mayWrite o (0x2000000 + 16384 * l) → s.get (F.LAN_CTRL_TX_PWR l) = s.half l true → s.get (F.LAN_CTRL_RX_PWR l) = s.half l false →
      s.get (F.WPR_LINK_STATUS_STATE p) = 2 → s.grps = [] → s.cvys = [] →
      s.completes (.laneRetrain o l) fun t => t.get (F.WPR_LINK_STATUS_STATE p) = 0 ∧ t.get (F.WPR_LINK_STATUS_DOWN_CAUSE p) = 2) ∧
    (∀ o : Origin, okOrigin o = true → l = 4 * p → s.mayWrite o (0x2000000 + 16384 * l) → s.get (F.LAN_CTRL_TX_PWR l) = 0 → s.get (F.LAN_CTRL_RX_PWR l) = 0 → s.mayTrain p = true →
      s.completes (.laneRetrain o l) fun t => t.trainsAt p 1 ∧ (t.train.look p).kept = false) ∧
    (∀ (peaks : List Nat) (taps : List Word), s.trainStep p = 1 → s.mayTrain p = true → s.completes (.trainingStepAdvance p peaks taps) fun t => t.trainsAt p 2) ∧
    (∀ (peaks : List Nat) (taps : List Word), s.trainStep p = 2 → s.mayTrain p = true → (∀ j : Nat, j < 4 → s.get (F.LAN_STATUS_LOS (4 * p + j)) = 0) →
      s.completes (.trainingStepAdvance p peaks taps) fun t => t.trainsAt p 3) ∧
    (∀ (peaks : List Nat) (taps : List Word), s.trainStep p = 2 → l / 4 = p → s.get (F.LAN_STATUS_LOS l) = 1 → s.gives (.trainingStepAdvance p peaks taps) s) ∧
    (∀ (peaks : List Nat) (taps : List Word), s.trainStep p = 3 → s.mayTrain p = true → (∀ j : Nat, j < 4 → s.get (F.LAN_STATUS_LOL (4 * p + j)) = 0) →
      s.completes (.trainingStepAdvance p peaks taps) fun t => t.trainsAt p 4) ∧
    (∀ (peaks : List Nat) (taps : List Word), s.trainStep p = 4 → s.mayTrain p = true → s.get (F.LAN_EQ_CTLE_ADAPT (4 * p + 3)) = 1 →
      s.completes (.trainingStepAdvance p peaks taps) fun t => t.trainsAt p 5 ∧ t.get (F.LAN_STATUS_PEAK_NOW (4 * p + 3)) = min 48 (peaks.getD 3 0)) ∧
    (s.trainStep p = 6 → s.mayTrain p = true →
      s.completes (.trainingGateEnd p 0) fun t => t.trainsAt p 7 ∧ (t.fports.look p).trained = true ∧ (t.train.look p).ok = true ∧ t.get (F.LAN_STATUS_STATE (4 * p)) = 2) ∧
    (∀ n : Nat, s.trainStep p = 6 → s.mayTrain p = true → 0 < n → s.completes (.trainingGateEnd p n) fun t => t.trainsAt p 4 ∧ (t.fports.look p).trained = false) ∧
    (1 ≤ s.trainStep p → s.trainStep p ≤ 6 → s.mayTrain p = true →
      s.completes (.trainingTimeout p) fun t =>
        t.trainsAt p 1 ∧ t.get (F.LAN_STATUS_TRAIN_FAILS (4 * p)) = satAdd 16 (s.get (F.LAN_STATUS_TRAIN_FAILS (4 * p))) 1 ∧ ((s.train.look p).ok = true → t.flag (fltPend 0x0C6) = true)) ∧
    (p = l / 4 → s.half l false = 0 → s.get (F.LAN_STATUS_LOS l) = 0 → s.get (F.WPR_LINK_STATUS_STATE p) = 2 → s.grps = [] → s.cvys = [] →
      s.completes (.losAssert l) fun t => t.get (F.LAN_STATUS_LOS_SEEN l) = 1 ∧ t.get (F.WPR_LINK_STATUS_STATE p) = 0 ∧ t.get (F.WPR_LINK_STATUS_DOWN_CAUSE p) = 2) ∧
    (p = l / 4 → s.half l false = 0 → s.get (F.LAN_STATUS_LOL l) = 0 → s.mayTrain p = true → 2 < s.trainStep p →
      s.completes (.lolAssert l) fun t => t.get (F.LAN_STATUS_LOL l) = 1 ∧ t.get (F.LAN_STATUS_LOL_SEEN l) = 1 ∧ t.trainsAt p 2) ∧
    (s.half l false = 0 → s.gives (.losDeassert l) (s.put (F.LAN_STATUS_LOS l) 0)) ∧
    (s.half l false = 0 → s.gives (.lolDeassert l) (s.put (F.LAN_STATUS_LOL l) 0))

/-! ### Modules (spec/16) -/

/-- A module that answers is identified with its revision, manufacturer and the newest record of its ledger, and is AUTHENTICATING where AUTH_EN asks for it (R465,
R469); one that does not is FAILED. A certificate that verifies makes it READY with a rate its applications match, one that does not is source 0x100 (R467). A
transaction runs at once on an idle controller (R464) and ends with its bytes in the window; writes of the protected pages are refused (R468). A minute adds to
the wear and compares it with the rated life (R470, R472); a record due is written to the slot of its COUNT (R471). -/
def Obligations.Modules : Prop :=
  ∀ (s : State) (n : Nat), s.calm → n < 32 → s.mgmtFenced = false →
    (∀ (i : ModuleInfo) (count wear flags : Nat), s.get (F.MOD_STATUS_STATE n) = 1 → i.ready = true → newest i.ledger = some (count, wear, flags) → s.get (F.MOD_CTRL_AUTH_EN n) = 1 →
      s.completes (.moduleIdentify n i) fun t =>
        t.get (F.MOD_STATUS_STATE n) = 2 ∧ t.get (F.MOD_STATUS_CMIS_REV n) = i.cmisRev % 256 ∧ t.get (F.MOD_STATUS_OUI n) = i.oui % 2 ^ 24 ∧
        t.get (F.MOD_STATUS_LEDGER_NEW n) = 0 ∧ t.get (F.MOD_STATUS_VERIFIED n) = 0 ∧ t.get (F.MOD_LIFE_WEAR n) = wear % 2 ^ 32 ∧
        t.get (F.MOD_LIFE_RATED_H n) = max (s.get (F.MOD_CTRL_RATED_DEFAULT_H n)) 1 ∧
        t.mods.look n = { s.mods.look n with ident := true, count := count, flags := flags % 4, apps := i.apps, rated := i.ratedH }) ∧
    (∀ i : ModuleInfo, s.get (F.MOD_STATUS_STATE n) = 1 → i.ready = false → s.gives (.moduleIdentify n i) (s.put (F.MOD_STATUS_STATE n) 5)) ∧
    (s.get (F.MOD_STATUS_STATE n) = 1 → s.gives (.moduleReadyTimeout n) (s.put (F.MOD_STATUS_STATE n) 5)) ∧
    (s.get (F.MOD_STATUS_STATE n) = 2 → (s.mods.look n).flags.testBit 1 = false → s.modFits n = true →
      s.gives (.moduleAuthDone n true) (((s.put (F.MOD_STATUS_VERIFIED n) 1).put (F.MOD_LIFE_RATED_H n) (s.mods.look n).rated).put (F.MOD_STATUS_STATE n) 3)) ∧
    (s.get (F.MOD_STATUS_STATE n) = 2 → (s.mods.look n).flags.testBit 1 = false → s.get (F.MOD_CTRL_USE_UNVERIFIED n) = 0 → s.get (F.MOD_STATUS_VERIFIED n) = 0 →
      s.givesFault (.moduleAuthDone n false) (s.put (F.MOD_STATUS_STATE n) 4) 0x100) ∧
    (∀ o : Origin, okOrigin o = true → s.mayWrite o (0x2400000 + 4096 * n) → s.get (F.CPW_STATUS_PG n) = 1 → s.gives (.moduleRescan o n) (s.put (F.MOD_STATUS_STATE n) 1)) ∧
    (∀ (o : Origin) (v : Word) (len : Nat), okOrigin o = true → s.mayWrite o (0x2400038 + 4096 * n) → s.get (F.MOD_CMIS_CMD_BUSY n) = 0 → s.get (F.MOD_STATUS_STATE n) ≠ 0 →
      s.cmisQ.look (n / 16) = [] → wbit v 61 = false → len = min 128 (max (wbits v 39 32) 1) → wbits v 7 0 + len ≤ 256 →
      s.completes (.cmisTransaction o n v) fun t =>
        t.get (F.MOD_CMIS_CMD_BUSY n) = 1 ∧ t.cmisQ.look (n / 16) = [n] ∧ .cmis n false (wbits v 23 16) (wbits v 7 0) [] ∈ s.newOuts t) ∧
    (∀ (o : Origin) (v : Word) (len : Nat), okOrigin o = true → s.mayWrite o (0x2400038 + 4096 * n) → s.get (F.MOD_CMIS_CMD_BUSY n) = 0 → wbit v 61 = true →
      len = min 128 (max (wbits v 39 32) 1) → wbits v 7 0 + len ≤ 256 →
      ((0xB0 ≤ wbits v 23 16 ∧ wbits v 23 16 ≤ 0xB7) ∨ (wbits v 23 16 = 3 ∧ 128 ≤ wbits v 7 0 + len - 1)) →
      s.completes (.cmisTransaction o n v) fun t => t.get (F.MOD_CMIS_CMD_BUSY n) = 0 ∧ t.get (F.MOD_CMIS_CMD_RESULT n) = 3 ∧ t.cmisQ = s.cmisQ) ∧
    (∀ data : List Byte, s.cmisQ.look (n / 16) = [n] → s.get (F.MOD_CMIS_CMD_WRITE n) = 0 → data.length = s.cmisLen n →
      s.gives (.cmisTransactionDone n true data) (({ s.fillWindow (0x2400800 + n * 0x1000) (data ++ (s.window (0x2400800 + n * 0x1000) 128).drop (s.cmisLen n)) with
        cmisQ := s.cmisQ.put (n / 16) [] }.put (F.MOD_CMIS_CMD_BUSY n) 0).put (F.MOD_CMIS_CMD_RESULT n) 0)) ∧
    (∀ data : List Byte, s.cmisQ.look (n / 16) = [n] →
      s.gives (.cmisTransactionDone n false data) (({ s with cmisQ := s.cmisQ.put (n / 16) [] }.put (F.MOD_CMIS_CMD_BUSY n) 0).put (F.MOD_CMIS_CMD_RESULT n) 2)) ∧
    (∀ (temp : Option Int) (w : Nat), (s.mods.look n).ident = true → (s.mods.look n).minutes < 59 → (s.mods.look n).again = false →
      w = satAdd 32 (s.get (F.MOD_LIFE_WEAR n)) (wearAdd temp) → w * 10 < s.get (F.MOD_LIFE_RATED_H n) * 240 * 9 →
      s.gives (.wearAccrual n true temp) ({ s with mods := s.mods.upd n fun m => { m with minutes := m.minutes + 1 } }.put (F.MOD_LIFE_WEAR n) w)) ∧
    (∀ (temp : Option Int) (w : Nat), (s.mods.look n).ident = true → (s.mods.look n).raised.testBit 0 = false → w = satAdd 32 (s.get (F.MOD_LIFE_WEAR n)) (wearAdd temp) →
      s.get (F.MOD_LIFE_RATED_H n) * 240 * 9 ≤ w * 10 → w < s.get (F.MOD_LIFE_RATED_H n) * 240 →
      s.completes (.wearAccrual n true temp) fun t => t.get (F.MOD_LIFE_WEAR n) = w ∧ t.get (F.MOD_STATUS_LIFE_WARN n) = 1 ∧ t.flag (fltPend 0x102) = true) ∧
    (∀ (temp : Option Int) (w : Nat), (s.mods.look n).ident = true → (s.mods.look n).raised.testBit 1 = false → w = satAdd 32 (s.get (F.MOD_LIFE_WEAR n)) (wearAdd temp) →
      s.get (F.MOD_LIFE_RATED_H n) * 240 ≤ w → 2 ≤ s.get (F.MOD_CTRL_EOL_ACTION n) →
      s.completes (.wearAccrual n true temp) fun t => t.get (F.MOD_STATUS_LIFE_END n) = 1 ∧ t.get (F.MOD_STATUS_STATE n) = 4 ∧ t.flag (fltPend 0x103) = true) ∧
    (∀ (c : Nat) (bs : List Byte), (s.mods.look n).ident = true → (s.mods.look n).writeDue = true → (c, bs) = s.ledgerRecord n →
      s.gives (.lifeLedgerWrite n true) ({ s with mods := s.mods.upd n fun m => { m with writeDue := false, count := c } }.out (.cmis n true 3 (if c % 2 = 0 then 128 else 192) bs))) ∧
    ((s.mods.look n).ident = true → (s.mods.look n).writeDue = true →
      s.completes (.lifeLedgerWrite n false) fun t => t.mods.look n = { s.mods.look n with writeDue := false, again := true } ∧ t.flag (fltPend 0x101) = true)

/-! ### Cage power (spec/17) -/

/-- A module that is inserted is qualified where the cage is enabled, and is OFF, FAULT or RETRY_WAIT otherwise; one that leaves has its gates off and nothing
managed (R475, R466). A feed is good where it is enabled and its window holds (R474). A qualified cage ramps on the feed selected (R478), power-good makes it ON
and its module is identified (R476). The active feed lost, it swaps to the other or is qualified again (R484), as it does back to the preferred one (R485). A
trip waits 64 times its time on, between 1 s and 60 s, and after eight retries is latched (R480 to R483). -/
def Obligations.CagePower : Prop :=
  ∀ (s : State) (n : Nat), s.calm → n < 32 →
    (s.cage n = 0 → (s.cages.look n).latched = false → s.get (F.CPW_CTRL_EN n) = 1 → s.get (F.CPW_STATUS_WAIT_MS n) = 0 → s.get (F.MOD_STATUS_STATE n) = 0 →
      s.gives (.cagePresent n) ((s.put (F.CPW_STATUS_PRESENT n) 1).qualifying n false)) ∧
    (s.cage n = 0 → (s.cages.look n).latched = true → s.get (F.MOD_STATUS_STATE n) = 0 → s.gives (.cagePresent n) ((s.put (F.CPW_STATUS_PRESENT n) 1).cageAt n 7)) ∧
    (s.cage n = 0 → (s.cages.look n).latched = false → s.get (F.CPW_CTRL_EN n) = 0 → s.get (F.MOD_STATUS_STATE n) = 0 →
      s.gives (.cagePresent n) ((s.put (F.CPW_STATUS_PRESENT n) 1).cageAt n 1)) ∧
    (s.get (F.MOD_STATUS_STATE n) = 0 → s.gives (.cageAbsent n) ((s.put (F.CPW_STATUS_PRESENT n) 0).cageAt n 0)) ∧
    (s.get (F.CPW_STATUS_PRESENT n) = 0 →
      s.gives (.absenceClear n) { (s.put (F.CPW_STATUS_RETRIES n) 0).put (F.CPW_STATUS_WAIT_MS n) 0 with cages := s.cages.upd n fun c => { c with latched := false } }) ∧
    (∀ b : Bool, s.cage n ≤ 1 → s.get (if b then F.CPW_CTRL_B_EN n else F.CPW_CTRL_A_EN n) = 1 → s.get (F.CPW_WINDOW_UV_MV n) < s.get (F.CPW_WINDOW_OV_MV n) →
      s.gives (.feedGood n b) (s.put (if b then F.CPW_STATUS_B_GOOD n else F.CPW_STATUS_A_GOOD n) 1)) ∧
    (∀ b : Bool, s.cage n = 4 → s.get (F.CPW_STATUS_FEED n) = (if b then 2 else 1) → s.get (if b then F.CPW_STATUS_A_GOOD n else F.CPW_STATUS_B_GOOD n) = 1 →
      s.givesFault (.feedBad n b) ({ (((s.put (if b then F.CPW_STATUS_B_GOOD n else F.CPW_STATUS_A_GOOD n) 0).put (F.CPW_STATUS_STATE n) 5).put (F.CPW_STATUS_FEED n) 0) with
        cages := s.cages.upd n fun c => { c with feed := if b then 1 else 2 } }.bump (F.CPW_COUNT_SWAPS n) 1) 0x107) ∧
    (∀ b : Bool, s.cage n = 4 → s.get (F.CPW_STATUS_FEED n) = (if b then 2 else 1) → s.get (if b then F.CPW_STATUS_A_GOOD n else F.CPW_STATUS_B_GOOD n) = 0 →
      s.completes (.feedBad n b) fun t =>
        t.cage n = 2 ∧ t.get (F.CPW_STATUS_FEED n) = 0 ∧ t.get (F.CPW_STATUS_PG n) = 0 ∧ t.get (F.MOD_STATUS_STATE n) = 0 ∧ (t.cages.look n).feed = 0 ∧ t.flag (fltPend 0x106) = true) ∧
    (∀ o : Origin, okOrigin o = true → s.mayWrite o (0x80000 + 64 * n) → s.get (F.CPW_CTRL_EN n) = 0 → s.cage n = 1 → (s.cages.look n).latched = false →
      s.get (F.CPW_STATUS_WAIT_MS n) = 0 →
      s.completes (.cageEnWrite o n true) fun t => t.get (F.CPW_CTRL_EN n) = 1 ∧ t.cage n = 2 ∧ (t.cages.look n).feed = t.selected n) ∧
    (∀ o : Origin, okOrigin o = true → s.mayWrite o (0x80000 + 64 * n) → 2 ≤ s.cage n → s.cage n ≤ 6 →
      s.completes (.cageEnWrite o n false) fun t =>
        t.get (F.CPW_CTRL_EN n) = 0 ∧ t.cage n = 1 ∧ t.get (F.CPW_STATUS_FEED n) = 0 ∧ t.get (F.CPW_STATUS_PG n) = 0 ∧ t.get (F.MOD_STATUS_STATE n) = 0) ∧
    (∀ (o : Origin) (v : Word), okOrigin o = true → s.mayWrite o (0x80000 + 64 * n) → s.cage n ≤ 1 →
      s.completes (.cageFeedConfigWrite o n v) fun t =>
        t.get (F.CPW_CTRL_EN n) = s.get (F.CPW_CTRL_EN n) ∧ t.get (F.CPW_CTRL_PREFER n) = wbits v 62 62 ∧ t.get (F.CPW_CTRL_A_EN n) = wbits v 61 61 ∧
        t.get (F.CPW_CTRL_B_EN n) = wbits v 60 60 ∧ t.get (F.CPW_STATUS_A_GOOD n) = wbits v 61 61 * s.get (F.CPW_STATUS_A_GOOD n) ∧
        t.get (F.CPW_STATUS_B_GOOD n) = wbits v 60 60 * s.get (F.CPW_STATUS_B_GOOD n) ∧ t.cage n = s.cage n) ∧
    (∀ f : Nat, s.cage n = 2 → (s.cages.look n).feed = f → f ≠ 0 → s.selected n = f → (s.cages.look n).retry = true →
      s.gives (.cageQualified n) { ((s.put (F.CPW_STATUS_STATE n) 3).put (F.CPW_STATUS_FEED n) f).put (F.CPW_STATUS_RETRIES n) (min 8 (s.get (F.CPW_STATUS_RETRIES n) + 1)) with
        cages := s.cages.upd n fun c => { c with retry := false } }) ∧
    (s.cage n = 3 → s.get (F.CPW_STATUS_FEED n) ≠ 0 → s.get (F.CPW_STATUS_PG n) = 0 →
      s.gives (.powerGood n) (((s.put (F.CPW_STATUS_PG n) 1).put (F.CPW_STATUS_STATE n) 4).put (F.MOD_STATUS_STATE n) 1)) ∧
    (s.get (F.MOD_STATUS_STATE n) ≠ 0 → s.get (F.MOD_CMIS_CMD_BUSY n) = 0 →
      s.completes (.powerGoodLost n) fun t =>
        t.get (F.CPW_STATUS_PG n) = 0 ∧ t.get (F.MOD_STATUS_STATE n) = 0 ∧ t.mods.look n = default ∧ t.reg (0x2400010 + n * 0x1000) = 0) ∧
    (∀ ms : Nat, s.cage n = 3 → s.get (F.CPW_STATUS_RETRIES n) < 8 → s.completes (.rampTimeout n ms) fun t => s.tripped t n 3 ms) ∧
    (∀ ms : Nat, 3 ≤ s.cage n → s.cage n ≤ 5 → s.get (F.CPW_STATUS_RETRIES n) < 8 → s.completes (.fastTrip n ms) fun t => s.tripped t n 1 ms) ∧
    (∀ ms : Nat, s.cage n = 4 → s.get (F.CPW_STATUS_RETRIES n) < 8 → s.completes (.overcurrent n ms) fun t => s.tripped t n 2 ms) ∧
    (∀ ms : Nat, s.cage n = 4 → 8 ≤ s.get (F.CPW_STATUS_RETRIES n) →
      s.completes (.overcurrent n ms) fun t =>
        t.cage n = 7 ∧ (t.cages.look n).latched = true ∧ t.get (F.CPW_STATUS_FEED n) = 0 ∧ t.flag (fltPend 0x104) = true ∧ t.flag (fltPend 0x105) = true) ∧
    (s.cage n = 6 → s.get (F.CPW_STATUS_WAIT_MS n) ≠ 0 → s.get (F.MOD_STATUS_STATE n) = 0 →
      s.gives (.retryWaitEnd n) ((s.put (F.CPW_STATUS_WAIT_MS n) 0).qualifying n true)) ∧
    (s.cage n ≠ 6 → s.get (F.CPW_STATUS_WAIT_MS n) ≠ 0 → s.gives (.retryWaitEnd n) (s.put (F.CPW_STATUS_WAIT_MS n) 0)) ∧
    (s.cage n = 5 → s.get (F.CPW_STATUS_FEED n) = 0 → s.gives (.swapDeadTimeEnd n) (s.put (F.CPW_STATUS_FEED n) (s.cages.look n).feed)) ∧
    (s.cage n = 4 → s.get (F.CPW_STATUS_FEED n) ≠ s.preferred n → s.feedOk n (s.preferred n) = true →
      s.givesFault (.feedRevert n) ({ (s.put (F.CPW_STATUS_STATE n) 5).put (F.CPW_STATUS_FEED n) 0 with cages := s.cages.upd n fun c => { c with feed := s.preferred n } }.bump
        (F.CPW_COUNT_SWAPS n) 1) 0x107)

/-! ### Hardware locks, snapshots and the bandwidth meter (spec/18, spec/19) -/

/-- A read of a free lock grants it and answers whether it was left abandoned (R488); of one that another holds it records the reader as the candidate where no
higher one is, and answers the owner (R489). Only its owner releases a lock; another's write counts (R490). A force frees it as abandoned, and without authority
is source 0x088 (R493). A reservation ends at its time, and ages in the supervisor's tick (R491, R495). A captured snapshot is written, its header last, and the
producer moves (R502, R503); a write that fails is source 0x089 and stops the ring (R506). The meter starts at the next boundary, and shows its counts when its
window is over (R509). -/
def Obligations.LocksAndSnapshots : Prop :=
  ∀ (s : State) (n : Nat), s.calm → n < 64 →
    (∀ (o : Origin) (w : Owner), okOrigin o = true → originOwner o = some w → s.regOpen o (0x40000 + 8 * n) false = true → (s.locks.look n).owner = none → (s.locks.look n).resv = none →
      s.gives (.lockAcquireRead o n) ({ s with locks := s.locks.upd n (heldBy w) }.out
        (.regData o (0x40000 + 8 * n) (if (s.locks.look n).aband then 0x40000000 else 0)))) ∧
    (∀ (o : Origin) (w v : Owner), okOrigin o = true → originOwner o = some w → s.regOpen o (0x40000 + 8 * n) false = true → (s.locks.look n).owner = some v → v ≠ w →
      v.master < 65536 → ((s.locks.look n).waiting = false ∨ (s.locks.look n).waitPri < s.ownerPri w) →
      s.gives (.lockAcquireRead o n) ({ s with locks := s.locks.upd n fun l => { l with waiting := true, waitPri := s.ownerPri w, cand := w } }.out
        (.regData o (0x40000 + 8 * n) (BitVec.ofNat 64 (0x80000000 + v.master))))) ∧
    (∀ (o : Origin) (w : Owner), okOrigin o = true → originOwner o = some w → s.mayWrite o (0x40000 + 8 * n) → s.reg (0x40000 + 8 * n) = 0 → (s.locks.look n).owner = some w → s.ops = [] →
      s.gives (.lockReleaseWrite o n) { s with locks := s.locks.upd n fun l => { l with
        owner := none, run := none, aband := false, notified := 0, boost := false, waiters := []
        resv := if l.waiting then some l.cand else none, resvLeft := if l.waiting then 2 else 0 } }) ∧
    (∀ (o : Origin) (w : Owner), okOrigin o = true → originOwner o = some w → s.mayWrite o (0x40000 + 8 * n) → s.reg (0x40000 + 8 * n) = 0 → (s.locks.look n).owner ≠ some w →
      s.gives (.lockReleaseWrite o n) (s.bump F.LCK_COUNT_REL_BAD 1)) ∧
    (∀ o : Origin, okOrigin o = true → s.mayWrite o 0x40600 → (o = .sideband ∨ (originOwner o).isSome = true ∧ s.originAuth o = true) → (s.locks.look n).owner.isSome = true → s.ops = [] →
      s.completes (.lockForce o n) fun t =>
        (t.locks.look n).owner = none ∧ (t.locks.look n).aband = true ∧ t.get F.LCK_COUNT_ABANDONS = satAdd 32 (s.get F.LCK_COUNT_ABANDONS) 1) ∧
    (∀ p : Nat, p < 4 → s.mayWrite (.pf0 p) 0x40600 → s.originAuth (.pf0 p) = false → s.givesFault (.lockForce (.pf0 p) n) s 0x088) ∧
    ((s.locks.look n).resv.isSome = true → (s.locks.look n).resvLeft ≤ 1 →
      s.gives (.lockReservationExpiry n) { s with locks := s.locks.upd n fun l => { l with resv := none, resvLeft := 0 } }) ∧
    (∀ (l : HLock) (left : Nat), s.locks = [(n, l)] → l.owner = none → l.resv.isSome = true → l.resvLeft = left + 2 → s.ops = [] →
      s.gives .supervisorLockTick { s with locks := [(n, { l with resvLeft := left + 1, waiters := [] })] }) ∧
    (∀ (c : Snap) (port at' len : Nat), s.snap = some c → port = s.get F.TEL_RING_BASE_PORT → s.portUp port = true → (s.fnOf port 0).bme = true → len = snapFlits c.sections * 64 →
      at' = s.get F.TEL_RING_BASE_BASE * 4096 + s.get F.TEL_RING_IDX_PRODUCER % 2 ^ s.snapLog2 * len →
      s.completes (.snapshot true) fun t =>
        t.snap = none ∧ t.snapSeq = s.snapSeq + 1 ∧ t.snapSkip = 0 ∧ t.snapOver = false ∧ t.get F.TEL_RING_IDX_PRODUCER = (s.get F.TEL_RING_IDX_PRODUCER + 1) % 2 ^ 32 ∧
        (.hostWrite port 0 [(at' + 64, len - 64)] (wordBytes c.words)) ∈ s.newOuts t ∧ (.hostWrite port 0 [(at', 64)] (wordBytes (s.snapHead c))) ∈ s.newOuts t) ∧
    (s.snap.isSome = true → s.givesFault (.snapshot false) { (s.put F.TEL_SNAP_CFG_EN 0).put F.TEL_SNAP_STATUS_STATE 0 with snap := none } 0x089) ∧
    (∀ (o : Origin) (v : Word), okOrigin o = true → s.mayWrite o 0x50028 → s.get F.TEL_BW_CTRL_BUSY = 0 →
      s.gives (.bwMeterStart o v) { (((s.put F.TEL_BW_CTRL_WINDOW (wbits v 15 0)).put F.TEL_BW_CTRL_VALID 0).put F.TEL_BW_CTRL_DISTURBED 0).put F.TEL_BW_CTRL_BUSY 1 with
        bwLeft := some (max (wbits v 15 0) 1 + 1) }) ∧
    (s.bwLeft = some 0 →
      s.completes .bwMeterDone fun t =>
        t.get F.TEL_BW_CTRL_VALID = 1 ∧ t.get F.TEL_BW_CTRL_BUSY = 0 ∧ t.bwLeft = none ∧
        t.reg (0x50100 + 8 * n) = packW [(32, s.bwBase.look (4 * n)), (0, s.bwBase.look (4 * n + 1))])

/-! ### Faults, sensors and supplies (spec/20, spec/22) -/

/-- A forced source of class 0 is recorded (R516); one of class 3 or 4 needs authority, else source 0x00F, and a forced class 3 source halts the device (R512). A
pending bit clears unless its condition still holds (R521), and the last of class 2 lets the device leave Degraded (R527). FIRST_CLR lets the first record be
taken again (R513). A wedge is recorded and holds the fabric die (R523). An error in a store drops the entry or halts the device, as its source says (R525). A
sample above the limit is source 0x00C, above 115 degrees it halts the device (R558); the second rail comparison in a row out of range halts it (R546). -/
def Obligations.FaultsAndSensors : Prop :=
  ∀ (s : State), s.calm →
    (∀ (o : Origin) (src : Nat), okOrigin o = true → src < 512 → s.mayWrite o (0x32000 + 8 * src) → fltClass src = some 0 → src ≠ 0 → src < 0x140 → s.givesFault (.faultForce o src) s src) ∧
    (∀ (o : Origin) (src : Nat), okOrigin o = true → src < 512 → s.mayWrite o (0x32000 + 8 * src) → 3 ≤ (fltClass src).getD 0 → s.originAuth o = false →
      s.givesFault (.faultForce o src) s 0x00F) ∧
    (∀ (o : Origin) (src : Nat), okOrigin o = true → src < 512 → s.mayWrite o (0x32000 + 8 * src) → fltClass src = some 3 → src ≠ 0x00E → s.originAuth o = true → s.vacant → s.mode = 2 →
      s.completes (.faultForce o src) fun t => t.haltedBy src 2) ∧
    (∀ (o : Origin) (k j : Nat), okOrigin o = true → k < 8 → j < 64 → s.mayWrite o (0x30100 + 8 * k) → s.flag (fltPend (64 * k + j)) = true → fltClass (64 * k + j) = some 0 →
      s.stillHolds (64 * k + j) = false → s.gives (.faultClear o k (bitW j)) (s.put (fltPend (64 * k + j)) 0)) ∧
    (∀ o : Origin, okOrigin o = true → s.mayWrite o 0x30100 → s.flag (fltPend 0x005) = true → s.get F.CLK_STATUS_HOLDOVER = 1 → s.gives (.faultClear o 0 (bitW 5)) s) ∧
    (∀ o : Origin, okOrigin o = true → s.mayWrite o 0x30100 → s.flag (fltPend 0x005) = true → s.get F.CLK_STATUS_HOLDOVER = 0 → s.mode = 4 → s.halted = false →
      (s.put (fltPend 0x005) 0).anyPending (· == 2) = false → s.gives (.faultClear o 0 (bitW 5)) { s.put (fltPend 0x005) 0 with retDue := true }) ∧
    (∀ o : Origin, okOrigin o = true → s.mayWrite o 0x30008 → s.gives (.firstClr o) { s with first := { s.first with valid := false } }) ∧
    (s.locks = [] → s.sealed = false → s.completes .fabricWedge fun t => s.resetBy t .wedge ∧ t.get F.DEV_RESET_LAST = 3 ∧ t.flag (fltPend 0x00E) = true) ∧
    (∀ (syn : Word) (i : Nat), i = wbits syn 23 0 → s.givesFault (.eccError ⟨0x14C, syn⟩) { s with tlb := s.tlb.del i } 0x14C) ∧
    (∀ (syn : Word) (n : Nat), n = wbits syn 19 0 → s.givesFault (.eccError ⟨0x146, syn⟩) { s with eps := s.eps.upd n fun e => e % 2 ^ 31 } 0x146) ∧
    (∀ syn : Word, s.vacant → s.mode = 2 → s.completes (.eccError ⟨0x144, syn⟩) fun t => t.haltedBy 0x144 2) ∧
    (∀ (k raw : Nat) (v : Int), k < 16 → raw = (BitVec.ofInt 16 v).toNat → -32768 ≤ v → v < 700 →
      s.gives (.temperatureSample k v) (((s.put (F.DEV_MON_VALID k) 1).put (F.DEV_MON_VALUE k) raw).put (F.DEV_MON_AGE_US k) 0)) ∧
    (∀ (k raw : Nat) (v : Int), k < 16 → raw = (BitVec.ofInt 16 v).toNat → 1100 < v → v ≤ 1150 →
      s.givesFault (.temperatureSample k v) (((s.put (F.DEV_MON_VALID k) 1).put (F.DEV_MON_VALUE k) raw).put (F.DEV_MON_AGE_US k) 0) 0x00C) ∧
    (∀ (k : Nat) (v : Int), k < 16 → 1150 < v → v < 32768 → s.vacant → s.mode = 2 →
      s.completes (.temperatureSample k v) fun t => t.haltedBy 0x00D 2 ∧ t.flag (fltPend 0x00C) = true) ∧
    (∀ r mv : Nat, r < 8 → s.railOff r = false → s.railOut r mv = false → mv < 65536 →
      s.gives (.railCheck r mv) { ((s.put (F.DEV_MON_VALID (16 + r)) 1).put (F.DEV_MON_VALUE (16 + r)) mv).put (F.DEV_MON_AGE_US (16 + r)) 0 with railBad := s.railBad.erase r }) ∧
    (∀ r mv : Nat, r < 8 → s.railOff r = false → s.railOut r mv = true → s.railBad.contains r = false →
      s.gives (.railCheck r mv) { ((s.put (F.DEV_MON_VALID (16 + r)) 1).put (F.DEV_MON_VALUE (16 + r)) mv).put (F.DEV_MON_AGE_US (16 + r)) 0 with railBad := r :: s.railBad }) ∧
    (∀ r mv : Nat, r < 8 → s.railOff r = false → s.railOut r mv = true → s.railBad.contains r = true → s.vacant → s.mode = 2 →
      s.completes (.railCheck r mv) fun t => t.haltedBy 0x00B 2)

/-! ### Modes, power domains, reset and bring-up (spec/21, spec/22) -/

/-- A request with authority in Operational or Drain waits for the boundary, another is REJECTED (R528). The boundary carries it out: Drain starts its timer (R532,
R533). COMMIT in Bring-up waits for its conditions and, met, takes the device to Operational with its keys and policy locked (R530, R531); one that fails is
named. The device leaves Degraded once it may (R527). A drain out of time is DRAINED (R533). -/
def Obligations.Modes : Prop :=
  ∀ (s : State) (o : Origin), okOrigin o = true →
    (s.calm → s.mayWrite o 0x10008 → s.originAuth o = true → (s.mode = 2 ∨ s.mode = 4 ∧ s.get F.DEV_MODE_RETURN = 3) →
      s.gives (.requestOperational o) { s.put F.DEV_MODE_REQ_RESULT 1 with modeReq := some 2 }) ∧
    (s.calm → s.mayWrite o 0x10008 → s.originAuth o = true → s.mode = 2 → s.gives (.requestDrain o) { s.put F.DEV_MODE_REQ_RESULT 1 with modeReq := some 3 }) ∧
    (s.calm → s.mayWrite o 0x10008 → (s.originAuth o = false ∨ s.mode ≤ 1) → s.gives (.requestDrain o) (s.put F.DEV_MODE_REQ_RESULT 2)) ∧
    (s.calm → s.modeReq = some 3 → s.mode = 2 →
      s.completes .modeChange fun t =>
        t.mode = 3 ∧ t.modeReq = none ∧ t.get F.DEV_MODE_ENTERED = s.now ∧ t.get F.DEV_MODE_REQ_RESULT = 0 ∧ t.get F.DEV_DRAIN_CTRL_LEFT = max (s.get F.DEV_DRAIN_CTRL_STAGES) 1 ∧
        t.get F.DEV_MODE_DRAINED = (if s.workDone then 1 else 0)) ∧
    (∀ m : Nat, (m = 2 ∨ m = 3) → s.calm → s.modeReq = some m → s.mode = 4 → (s.get F.DEV_MODE_RETURN = 2 ∨ s.get F.DEV_MODE_RETURN = 3) →
      s.gives .modeChange { (s.put F.DEV_MODE_RETURN m).put F.DEV_MODE_REQ_RESULT 0 with modeReq := none }) ∧
    (s.calm → s.mayWrite o 0x10010 → s.originAuth o = true → s.mode = 1 → s.gives (.commit o) { s.put F.DEV_COMMIT_RESULT 2 with commitReq := true }) ∧
    (s.calm → s.mayWrite o 0x10010 → (s.originAuth o = false ∨ s.mode = 2) → s.gives (.commit o) (s.put F.DEV_COMMIT_RESULT 3)) ∧
    (s.calm → s.commitReq = true → s.mode = 1 → s.commitFault = none →
      s.completes .commitTakeEffect fun t =>
        t.mode = 2 ∧ t.commitReq = false ∧ t.get F.DEV_MODE_COMMITTED = 1 ∧ t.get F.SEC_STATUS_FMKEY_LOCKED = 1 ∧ t.get F.SEC_POLICY_LOCKED = 1 ∧ t.get F.DEV_COMMIT_RESULT = 1) ∧
    (∀ n : Nat, s.calm → s.commitReq = true → s.mode = 1 → s.commitFault = some n → s.gives .commitTakeEffect { s.put F.DEV_COMMIT_RESULT n with commitReq := false }) ∧
    (s.calm → s.retDue = true → s.mode = 4 → s.halted = false → s.anyPending (· == 2) = false → s.get F.DEV_MODE_RETURN = 2 →
      s.completes .degradedReturn fun t => t.mode = 2 ∧ t.retDue = false ∧ t.get F.DEV_MODE_RETURN = 0 ∧ t.get F.DEV_MODE_ENTERED = s.now) ∧
    (s.calm → s.anyPending (· == 2) = true → s.gives .degradedReturn { s with retDue := false }) ∧
    (s.still → s.hold = .none → s.mode = 3 → s.get F.DEV_MODE_DRAINED = 0 → s.get F.DEV_DRAIN_CTRL_LEFT = 0 → s.runs = [] → s.ops = [] →
      s.completes .drainTimeout fun t => t.mode = 3 ∧ t.get F.DEV_MODE_DRAINED = 1)

/-- A gating request makes a domain that is ON draining, with its time (R536); one withdrawn while it drains leaves it ON, and of a gated domain wakes it (R538).
Once its work is done, or its time is over, it is gated (R537), and it is ON when its wake is done. The core is gated only once the device has drained, and all
but the supervisor's part is reset (R539). -/
def Obligations.PowerDomains : Prop :=
  ∀ (s : State) (o : Origin) (n : Nat), okOrigin o = true →
    (s.calm → s.mayWrite o 0x10030 → n < 4 → s.get F.DEV_PD_CTRL_CORE = 0 → s.get (pdReq (.host n)) = 0 → s.get (pdState (.host n)) = 0 →
      s.gives (.gateHostPort o n) { (s.put (pdReq (.host n)) 1).put (pdState (.host n)) 1 with pdLeft := s.pdLeft.put (3 + n) (max (s.get F.DEV_PD_DRAIN_STAGES) 1 + 1) }) ∧
    (s.calm → s.mayWrite o 0x10030 → n < 4 → s.get F.DEV_PD_CTRL_CORE = 0 → s.get (pdReq (.host n)) = 1 → s.get (pdState (.host n)) = 1 →
      s.gives (.wakeHostPort o n) { (s.put (pdReq (.host n)) 0).put (pdState (.host n)) 0 with pdLeft := s.pdLeft.del (3 + n) }) ∧
    (s.calm → s.mayWrite o 0x10030 → s.get F.DEV_PD_CTRL_CORE = 0 → s.get F.DEV_PD_CTRL_MAT = 0 → s.get F.DEV_PD_STATUS_MAT = 0 →
      s.gives (.gateMatching o) { (s.put F.DEV_PD_CTRL_MAT 1).put F.DEV_PD_STATUS_MAT 1 with pdLeft := s.pdLeft.put 2 (max (s.get F.DEV_PD_DRAIN_STAGES) 1 + 1) }) ∧
    (s.calm → s.mayWrite o 0x10030 → s.get F.DEV_PD_CTRL_CORE = 0 → s.get F.DEV_PD_CTRL_MAT = 1 → s.get F.DEV_PD_STATUS_MAT = 2 →
      s.gives (.wakeMatching o) ((s.put F.DEV_PD_CTRL_MAT 0).put F.DEV_PD_STATUS_MAT 3)) ∧
    (s.calm → s.mayWrite o 0x10030 → s.get F.DEV_PD_CTRL_CORE = 0 → s.get F.DEV_PD_CTRL_COL = 0 → s.get F.DEV_PD_STATUS_COL = 0 →
      s.gives (.gateCollectives o) { (s.put F.DEV_PD_CTRL_COL 1).put F.DEV_PD_STATUS_COL 1 with pdLeft := s.pdLeft.put 1 (max (s.get F.DEV_PD_DRAIN_STAGES) 1 + 1) }) ∧
    (s.calm → s.mayWrite o 0x10030 → s.get F.DEV_PD_CTRL_CORE = 0 → s.get F.DEV_PD_CTRL_COL = 1 → s.get F.DEV_PD_STATUS_COL = 2 →
      s.gives (.wakeCollectives o) ((s.put F.DEV_PD_CTRL_COL 0).put F.DEV_PD_STATUS_COL 3)) ∧
    (s.calm → s.mayWrite o 0x10038 → n < 64 → s.get (pdReq (.quad n)) = 0 → s.get (pdState (.quad n)) = 0 →
      s.gives (.gateLaneQuad o n) { (s.put (pdReq (.quad n)) 1).put (pdState (.quad n)) 1 with pdLeft := s.pdLeft.put (16 + n) (max (s.get F.DEV_PD_DRAIN_STAGES) 1 + 1) }) ∧
    (s.calm → s.mayWrite o 0x10038 → n < 64 → s.get (pdReq (.quad n)) = 1 → s.get (pdState (.quad n)) = 2 →
      s.gives (.wakeLaneQuad o n) ((s.put (pdReq (.quad n)) 0).put (pdState (.quad n)) 3)) ∧
    (s.still → s.hold = .none → s.mayWrite o 0x10030 → s.mode = 3 → s.get F.DEV_MODE_DRAINED = 1 → s.locks = [] →
      s.completes (.gateCore o) fun t => s.resetBy t .gated ∧ t.get F.DEV_PD_STATUS_CORE = 2 ∧ t.get F.DEV_RESET_LAST = 3) ∧
    (s.calm → s.mayWrite o 0x10030 → s.get F.DEV_PD_CTRL_CORE = 0 → s.gives (.gateCore o) ((s.put F.DEV_PD_CTRL_CORE 1).put F.DEV_PD_STATUS_CORE_REJECT 1)) ∧
    (s.calm → s.get F.DEV_PD_STATUS_COL = 1 → s.ops = [] → s.grps = [] →
      s.gives (.domainDrained .coll) { s.put F.DEV_PD_STATUS_COL 2 with pdLeft := s.pdLeft.del 1 }) ∧
    (s.calm → n < 64 → s.get (pdState (.quad n)) = 1 → s.pdLeft.look (16 + n) = 1 → s.grps = [] → s.cvys = [] → s.ops = [] →
      s.completes (.pdDrainTimeout (.quad n)) fun t =>
        t.get (pdState (.quad n)) = 2 ∧ t.pdLeft.look (16 + n) = 0 ∧ t.half (4 * n) true = 3 ∧ t.half (4 * n + 3) false = 3 ∧ t.get (F.WPR_LINK_STATUS_STATE n) = 0) ∧
    (s.calm → s.get F.DEV_PD_STATUS_MAT = 3 → s.get F.DEV_PD_CTRL_MAT = 0 → s.gives (.domainWakeDone .mat) (s.put F.DEV_PD_STATUS_MAT 0)) ∧
    (s.calm → n < 4 → s.get (pdState (.host n)) = 3 → s.get (pdReq (.host n)) = 0 →
      s.completes (.domainWakeDone (.host n)) fun t => t.get (pdState (.host n)) = 0 ∧ (t.get F.DEV_BRINGUP_HOSTS).testBit n = true)

/-- With its supply the device is held in reset, without it nothing is left (R541, R545). A reset leaves what the supervisor die keeps (R542), and tells which it
was. Its release gives straps, incarnation and key secret, and Bring-up, or Sealed where the device was sealed (R529, R542). A bring-up step sets its bit, or
records what it found (R529). The core voltage's target is written, and written again until the regulator acknowledges (R547, R548). -/
def Obligations.ResetAndBringup : Prop :=
  ∀ (s : State), s.still →
    (s.hold = .off → s.completes .powerOn fun t => t = { State.reset with regs := t.regs, nextId := s.nextId, freeCtr := s.freeCtr, outs := t.outs, pending := s.pending, hold := .resetN } ∧ t.mode = 0) ∧
    (s.hold ≠ .off → s.completes .vaoLoss fun t => t = { State.reset with regs := t.regs, nextId := s.nextId, freeCtr := s.freeCtr, outs := t.outs, pending := s.pending, hold := .off } ∧ t.mode = 0) ∧
    (s.hold = .none → s.locks = [] → s.completes .resetNAssert fun t => s.resetBy t .resetN ∧ t.get F.DEV_RESET_LAST = 1 ∧ t.sealed = s.sealed ∧ t.hist = s.hist ∧ t.first = s.first) ∧
    (∀ (straps : BitVec 2) (inc : BitVec 16) (secret : Key), s.hold = .resetN → s.sealed = false →
      s.gives (.resetNRelease straps inc secret) { ((((s.put F.DEV_AUTH_STRAP straps.toNat).put F.WPR_INCARNATION_VALUE inc.toNat).put F.DEV_MODE_MODE 1).put F.DEV_MODE_ENTERED s.now) with
        hold := .none, secret := secret }) ∧
    (∀ (p : Nat) (v : Word), p < 4 → s.hold = .none → s.mayWrite (.pf0 p) 0x10028 → s.originAuth (.pf0 p) = true → wbit v 63 = true → wbits v 47 32 = 0xC01D → s.locks = [] →
      s.completes (.coldReset (.pf0 p) v) fun t => s.resetBy t .resetN ∧ t.get F.DEV_RESET_LAST = 2) ∧
    (s.hold = .none → s.locks = [] → s.completes .sidebandColdReset fun t => s.resetBy t .resetN ∧ t.get F.DEV_RESET_LAST = 2 ∧ t.sealed = s.sealed) ∧
    (∀ rail mv : Nat, rail < 8 → s.calm → s.gives (.bringupStep (.rails true rail mv)) (s.put F.DEV_BRINGUP_RAILS 1)) ∧
    (∀ rail mv : Nat, rail < 8 → s.calm → s.vacant → s.mode = 1 → s.completes (.bringupStep (.rails false rail mv)) fun t => t.haltedBy 0x00B 1) ∧
    (∀ mv : Nat, 650 ≤ mv → mv ≤ 800 → mv % 5 = 0 → s.calm → s.get F.DEV_BRINGUP_FUSES = 0 →
      s.completes (.bringupStep (.fuses true mv)) fun t =>
        t.get F.DEV_BRINGUP_FUSES = 1 ∧ t.get F.DEV_AVS_TARGET_MV = mv ∧ (t.get F.DEV_AVS_STATE = 1 ∨ t.get F.DEV_AVS_STATE = 2) ∧ .avs 0 mv ∈ s.newOuts t) ∧
    (∀ mv : Nat, s.calm → s.quietFabric → s.mode = 1 → s.completes (.bringupStep (.fuses false mv)) fun t => t.isSealed 1 ∧ t.flag (fltPend 0x012) = true) ∧
    (s.calm → s.get F.DEV_BRINGUP_PLLS = 0 → s.get F.CLK_STATUS_A_QUAL = 1 → s.get F.CLK_STATUS_MGMT_LOCK = 1 →
      s.gives (.bringupStep .plls) ((((s.put F.CLK_STATUS_REF_SEL 0).put F.CLK_STATUS_TB_LOCK 1).put F.CLK_STATUS_CORE_LOCK 1).put F.DEV_BRINGUP_PLLS 1)) ∧
    (s.calm → s.gives (.bringupStep (.stores none)) (s.put F.DEV_BRINGUP_SRAM 1)) ∧
    (s.calm → s.gives (.bringupStep .lanes) (s.put F.DEV_BRINGUP_LANES 1)) ∧
    (s.calm → s.gives (.bringupStep (.identity true)) ((s.put F.DEV_BRINGUP_IDENTITY 1).put F.SEC_STATUS_IDENTITY_OK 1)) ∧
    (s.calm → s.completes (.bringupStep (.identity false)) fun t => t.get F.SEC_STATUS_IDENTITY_OK = 0 ∧ t.flag (fltPend 0x013) = true) ∧
    (∀ n : Nat, n < 4 → s.calm → (s.ports.look n).refQualified = true → s.pdHost n = 0 →
      s.gives (.bringupStep (.host n)) (s.put F.DEV_BRINGUP_HOSTS (s.get F.DEV_BRINGUP_HOSTS ||| 2 ^ n))) ∧
    (s.calm → s.completes (.bringupStep .sync) fun t => t.get F.DEV_BRINGUP_SYNC = (if s.synced then 1 else 0)) ∧
    (s.calm → s.get F.DEV_AVS_STATE = 2 → s.gives (.avsRetry true) ((s.out (.avs 0 (s.get F.DEV_AVS_TARGET_MV))).put F.DEV_AVS_STATE 1)) ∧
    (s.calm → s.get F.DEV_AVS_STATE = 2 → s.gives (.avsRetry false) ((s.out (.avs 0 (s.get F.DEV_AVS_TARGET_MV))).bump F.DEV_AVS_RETRIES 1))
end

