-- ==== Sys2Proof/Laws/State.lean ====
section
/-!
SUPPORT. What each named update of State does to each field: one lemma per field per update, so that no proof unfolds a record update.
-/
namespace Sys2Proof.Machine

/-! ### setReg -/

@[simp] theorem State.setReg_regs (s : State) (off : Nat) (w : Word) : (s.setReg off w).regs = Tab.putD regReset s.regs off w := rfl
@[simp] theorem State.setReg_spend (s : State) (off : Nat) (w : Word) : (s.setReg off w).spend = s.spend := rfl
@[simp] theorem State.setReg_smask (s : State) (off : Nat) (w : Word) : (s.setReg off w).smask = s.smask := rfl
@[simp] theorem State.setReg_hist (s : State) (off : Nat) (w : Word) : (s.setReg off w).hist = s.hist := rfl
@[simp] theorem State.setReg_first (s : State) (off : Nat) (w : Word) : (s.setReg off w).first = s.first := rfl
@[simp] theorem State.setReg_active (s : State) (off : Nat) (w : Word) : (s.setReg off w).active = s.active := rfl
@[simp] theorem State.setReg_fltIrq (s : State) (off : Nat) (w : Word) : (s.setReg off w).fltIrq = s.fltIrq := rfl
@[simp] theorem State.setReg_fltDefer (s : State) (off : Nat) (w : Word) : (s.setReg off w).fltDefer = s.fltDefer := rfl
@[simp] theorem State.setReg_fns (s : State) (off : Nat) (w : Word) : (s.setReg off w).fns = s.fns := rfl
@[simp] theorem State.setReg_ports (s : State) (off : Nat) (w : Word) : (s.setReg off w).ports = s.ports := rfl
@[simp] theorem State.setReg_runs (s : State) (off : Nat) (w : Word) : (s.setReg off w).runs = s.runs := rfl
@[simp] theorem State.setReg_gens (s : State) (off : Nat) (w : Word) : (s.setReg off w).gens = s.gens := rfl
@[simp] theorem State.setReg_readyCtr (s : State) (off : Nat) (w : Word) : (s.setReg off w).readyCtr = s.readyCtr := rfl
@[simp] theorem State.setReg_pcache (s : State) (off : Nat) (w : Word) : (s.setReg off w).pcache = s.pcache := rfl
@[simp] theorem State.setReg_fenced (s : State) (off : Nat) (w : Word) : (s.setReg off w).fenced = s.fenced := rfl
@[simp] theorem State.setReg_ops (s : State) (off : Nat) (w : Word) : (s.setReg off w).ops = s.ops := rfl
@[simp] theorem State.setReg_wqs (s : State) (off : Nat) (w : Word) : (s.setReg off w).wqs = s.wqs := rfl
@[simp] theorem State.setReg_eqs (s : State) (off : Nat) (w : Word) : (s.setReg off w).eqs = s.eqs := rfl
@[simp] theorem State.setReg_ctrs (s : State) (off : Nat) (w : Word) : (s.setReg off w).ctrs = s.ctrs := rfl
@[simp] theorem State.setReg_pas (s : State) (off : Nat) (w : Word) : (s.setReg off w).pas = s.pas := rfl
@[simp] theorem State.setReg_tlb (s : State) (off : Nat) (w : Word) : (s.setReg off w).tlb = s.tlb := rfl
@[simp] theorem State.setReg_walks (s : State) (off : Nat) (w : Word) : (s.setReg off w).walks = s.walks := rfl
@[simp] theorem State.setReg_accs (s : State) (off : Nat) (w : Word) : (s.setReg off w).accs = s.accs := rfl
@[simp] theorem State.setReg_invals (s : State) (off : Nat) (w : Word) : (s.setReg off w).invals = s.invals := rfl
@[simp] theorem State.setReg_nextId (s : State) (off : Nat) (w : Word) : (s.setReg off w).nextId = s.nextId := rfl
@[simp] theorem State.setReg_chans (s : State) (off : Nat) (w : Word) : (s.setReg off w).chans = s.chans := rfl
@[simp] theorem State.setReg_unbound (s : State) (off : Nat) (w : Word) : (s.setReg off w).unbound = s.unbound := rfl
@[simp] theorem State.setReg_tolls (s : State) (off : Nat) (w : Word) : (s.setReg off w).tolls = s.tolls := rfl
@[simp] theorem State.setReg_inj (s : State) (off : Nat) (w : Word) : (s.setReg off w).inj = s.inj := rfl
@[simp] theorem State.setReg_samp (s : State) (off : Nat) (w : Word) : (s.setReg off w).samp = s.samp := rfl
@[simp] theorem State.setReg_ptx (s : State) (off : Nat) (w : Word) : (s.setReg off w).ptx = s.ptx := rfl
@[simp] theorem State.setReg_prx (s : State) (off : Nat) (w : Word) : (s.setReg off w).prx = s.prx := rfl
@[simp] theorem State.setReg_peerInc (s : State) (off : Nat) (w : Word) : (s.setReg off w).peerInc = s.peerInc := rfl
@[simp] theorem State.setReg_kcache (s : State) (off : Nat) (w : Word) : (s.setReg off w).kcache = s.kcache := rfl
@[simp] theorem State.setReg_kuse (s : State) (off : Nat) (w : Word) : (s.setReg off w).kuse = s.kuse := rfl
@[simp] theorem State.setReg_kwait (s : State) (off : Nat) (w : Word) : (s.setReg off w).kwait = s.kwait := rfl
@[simp] theorem State.setReg_lines (s : State) (off : Nat) (w : Word) : (s.setReg off w).lines = s.lines := rfl
@[simp] theorem State.setReg_amoRes (s : State) (off : Nat) (w : Word) : (s.setReg off w).amoRes = s.amoRes := rfl
@[simp] theorem State.setReg_mctx (s : State) (off : Nat) (w : Word) : (s.setReg off w).mctx = s.mctx := rfl
@[simp] theorem State.setReg_msgs (s : State) (off : Nat) (w : Word) : (s.setReg off w).msgs = s.msgs := rfl
@[simp] theorem State.setReg_preds (s : State) (off : Nat) (w : Word) : (s.setReg off w).preds = s.preds := rfl
@[simp] theorem State.setReg_secret (s : State) (off : Nat) (w : Word) : (s.setReg off w).secret = s.secret := rfl
@[simp] theorem State.setReg_freeCtr (s : State) (off : Nat) (w : Word) : (s.setReg off w).freeCtr = s.freeCtr := rfl
@[simp] theorem State.setReg_outs (s : State) (off : Nat) (w : Word) : (s.setReg off w).outs = s.outs := rfl
@[simp] theorem State.setReg_work (s : State) (off : Nat) (w : Word) : (s.setReg off w).work = s.work := rfl
@[simp] theorem State.setReg_pending (s : State) (off : Nat) (w : Word) : (s.setReg off w).pending = s.pending := rfl
@[simp] theorem State.setReg_eps (s : State) (off : Nat) (w : Word) : (s.setReg off w).eps = s.eps := rfl
@[simp] theorem State.setReg_routes (s : State) (off : Nat) (w : Word) : (s.setReg off w).routes = s.routes := rfl
@[simp] theorem State.setReg_doms (s : State) (off : Nat) (w : Word) : (s.setReg off w).doms = s.doms := rfl
@[simp] theorem State.setReg_resps (s : State) (off : Nat) (w : Word) : (s.setReg off w).resps = s.resps := rfl
@[simp] theorem State.setReg_rin (s : State) (off : Nat) (w : Word) : (s.setReg off w).rin = s.rin := rfl
@[simp] theorem State.setReg_quiet (s : State) (off : Nat) (w : Word) : (s.setReg off w).quiet = s.quiet := rfl
@[simp] theorem State.setReg_quietLeft (s : State) (off : Nat) (w : Word) : (s.setReg off w).quietLeft = s.quietLeft := rfl
@[simp] theorem State.setReg_firstBnd (s : State) (off : Nat) (w : Word) : (s.setReg off w).firstBnd = s.firstBnd := rfl
@[simp] theorem State.setReg_ctlSent (s : State) (off : Nat) (w : Word) : (s.setReg off w).ctlSent = s.ctlSent := rfl
@[simp] theorem State.setReg_ctlWait (s : State) (off : Nat) (w : Word) : (s.setReg off w).ctlWait = s.ctlWait := rfl
@[simp] theorem State.setReg_fports (s : State) (off : Nat) (w : Word) : (s.setReg off w).fports = s.fports := rfl
@[simp] theorem State.setReg_vlfsr (s : State) (off : Nat) (w : Word) : (s.setReg off w).vlfsr = s.vlfsr := rfl
@[simp] theorem State.setReg_bankCopy (s : State) (off : Nat) (w : Word) : (s.setReg off w).bankCopy = s.bankCopy := rfl
@[simp] theorem State.setReg_copyQ (s : State) (off : Nat) (w : Word) : (s.setReg off w).copyQ = s.copyQ := rfl
@[simp] theorem State.setReg_grps (s : State) (off : Nat) (w : Word) : (s.setReg off w).grps = s.grps := rfl
@[simp] theorem State.setReg_cvys (s : State) (off : Nat) (w : Word) : (s.setReg off w).cvys = s.cvys := rfl
@[simp] theorem State.setReg_portCnt (s : State) (off : Nat) (w : Word) : (s.setReg off w).portCnt = s.portCnt := rfl
@[simp] theorem State.setReg_roomQ (s : State) (off : Nat) (w : Word) : (s.setReg off w).roomQ = s.roomQ := rfl
@[simp] theorem State.setReg_sync (s : State) (off : Nat) (w : Word) : (s.setReg off w).sync = s.sync := rfl
@[simp] theorem State.setReg_syncTx (s : State) (off : Nat) (w : Word) : (s.setReg off w).syncTx = s.syncTx := rfl
@[simp] theorem State.setReg_syncRx (s : State) (off : Nat) (w : Word) : (s.setReg off w).syncRx = s.syncRx := rfl
@[simp] theorem State.setReg_tb (s : State) (off : Nat) (w : Word) : (s.setReg off w).tb = s.tb := rfl
@[simp] theorem State.setReg_fmLeft (s : State) (off : Nat) (w : Word) : (s.setReg off w).fmLeft = s.fmLeft := rfl
@[simp] theorem State.setReg_bwLeft (s : State) (off : Nat) (w : Word) : (s.setReg off w).bwLeft = s.bwLeft := rfl
@[simp] theorem State.setReg_bwBase (s : State) (off : Nat) (w : Word) : (s.setReg off w).bwBase = s.bwBase := rfl
@[simp] theorem State.setReg_clkHold (s : State) (off : Nat) (w : Word) : (s.setReg off w).clkHold = s.clkHold := rfl
@[simp] theorem State.setReg_locks (s : State) (off : Nat) (w : Word) : (s.setReg off w).locks = s.locks := rfl
@[simp] theorem State.setReg_sess (s : State) (off : Nat) (w : Word) : (s.setReg off w).sess = s.sess := rfl
@[simp] theorem State.setReg_ide (s : State) (off : Nat) (w : Word) : (s.setReg off w).ide = s.ide := rfl
@[simp] theorem State.setReg_fmKey (s : State) (off : Nat) (w : Word) : (s.setReg off w).fmKey = s.fmKey := rfl
@[simp] theorem State.setReg_mbxTag (s : State) (off : Nat) (w : Word) : (s.setReg off w).mbxTag = s.mbxTag := rfl
@[simp] theorem State.setReg_mbxLeft (s : State) (off : Nat) (w : Word) : (s.setReg off w).mbxLeft = s.mbxLeft := rfl
@[simp] theorem State.setReg_ledStart (s : State) (off : Nat) (w : Word) : (s.setReg off w).ledStart = s.ledStart := rfl
@[simp] theorem State.setReg_ledMerged (s : State) (off : Nat) (w : Word) : (s.setReg off w).ledMerged = s.ledMerged := rfl
@[simp] theorem State.setReg_ledDue (s : State) (off : Nat) (w : Word) : (s.setReg off w).ledDue = s.ledDue := rfl
@[simp] theorem State.setReg_ledSeq (s : State) (off : Nat) (w : Word) : (s.setReg off w).ledSeq = s.ledSeq := rfl
@[simp] theorem State.setReg_ledDoms (s : State) (off : Nat) (w : Word) : (s.setReg off w).ledDoms = s.ledDoms := rfl
@[simp] theorem State.setReg_train (s : State) (off : Nat) (w : Word) : (s.setReg off w).train = s.train := rfl
@[simp] theorem State.setReg_mods (s : State) (off : Nat) (w : Word) : (s.setReg off w).mods = s.mods := rfl
@[simp] theorem State.setReg_cmisQ (s : State) (off : Nat) (w : Word) : (s.setReg off w).cmisQ = s.cmisQ := rfl
@[simp] theorem State.setReg_cages (s : State) (off : Nat) (w : Word) : (s.setReg off w).cages = s.cages := rfl
@[simp] theorem State.setReg_snap (s : State) (off : Nat) (w : Word) : (s.setReg off w).snap = s.snap := rfl
@[simp] theorem State.setReg_snapSeq (s : State) (off : Nat) (w : Word) : (s.setReg off w).snapSeq = s.snapSeq := rfl
@[simp] theorem State.setReg_snapSkip (s : State) (off : Nat) (w : Word) : (s.setReg off w).snapSkip = s.snapSkip := rfl
@[simp] theorem State.setReg_snapOver (s : State) (off : Nat) (w : Word) : (s.setReg off w).snapOver = s.snapOver := rfl
@[simp] theorem State.setReg_modeReq (s : State) (off : Nat) (w : Word) : (s.setReg off w).modeReq = s.modeReq := rfl
@[simp] theorem State.setReg_commitReq (s : State) (off : Nat) (w : Word) : (s.setReg off w).commitReq = s.commitReq := rfl
@[simp] theorem State.setReg_retDue (s : State) (off : Nat) (w : Word) : (s.setReg off w).retDue = s.retDue := rfl
@[simp] theorem State.setReg_pdLeft (s : State) (off : Nat) (w : Word) : (s.setReg off w).pdLeft = s.pdLeft := rfl
@[simp] theorem State.setReg_pdOver (s : State) (off : Nat) (w : Word) : (s.setReg off w).pdOver = s.pdOver := rfl
@[simp] theorem State.setReg_hold (s : State) (off : Nat) (w : Word) : (s.setReg off w).hold = s.hold := rfl
@[simp] theorem State.setReg_railBad (s : State) (off : Nat) (w : Word) : (s.setReg off w).railBad = s.railBad := rfl
@[simp] theorem State.setReg_slew (s : State) (off : Nat) (w : Word) : (s.setReg off w).slew = s.slew := rfl
@[simp] theorem State.setReg_stageSeen (s : State) (off : Nat) (w : Word) : (s.setReg off w).stageSeen = s.stageSeen := rfl
@[simp] theorem State.setReg_overruns (s : State) (off : Nat) (w : Word) : (s.setReg off w).overruns = s.overruns := rfl

/-! ### put -/

@[simp] theorem State.put_regs (s : State) (f : Fld) (n : Nat) : (s.put f n).regs = Tab.putD regReset s.regs f.off (f.into (s.reg f.off) n) := rfl
@[simp] theorem State.put_spend (s : State) (f : Fld) (n : Nat) : (s.put f n).spend = s.spend := rfl
@[simp] theorem State.put_smask (s : State) (f : Fld) (n : Nat) : (s.put f n).smask = s.smask := rfl
@[simp] theorem State.put_hist (s : State) (f : Fld) (n : Nat) : (s.put f n).hist = s.hist := rfl
@[simp] theorem State.put_first (s : State) (f : Fld) (n : Nat) : (s.put f n).first = s.first := rfl
@[simp] theorem State.put_active (s : State) (f : Fld) (n : Nat) : (s.put f n).active = s.active := rfl
@[simp] theorem State.put_fltIrq (s : State) (f : Fld) (n : Nat) : (s.put f n).fltIrq = s.fltIrq := rfl
@[simp] theorem State.put_fltDefer (s : State) (f : Fld) (n : Nat) : (s.put f n).fltDefer = s.fltDefer := rfl
@[simp] theorem State.put_fns (s : State) (f : Fld) (n : Nat) : (s.put f n).fns = s.fns := rfl
@[simp] theorem State.put_ports (s : State) (f : Fld) (n : Nat) : (s.put f n).ports = s.ports := rfl
@[simp] theorem State.put_runs (s : State) (f : Fld) (n : Nat) : (s.put f n).runs = s.runs := rfl
@[simp] theorem State.put_gens (s : State) (f : Fld) (n : Nat) : (s.put f n).gens = s.gens := rfl
@[simp] theorem State.put_readyCtr (s : State) (f : Fld) (n : Nat) : (s.put f n).readyCtr = s.readyCtr := rfl
@[simp] theorem State.put_pcache (s : State) (f : Fld) (n : Nat) : (s.put f n).pcache = s.pcache := rfl
@[simp] theorem State.put_fenced (s : State) (f : Fld) (n : Nat) : (s.put f n).fenced = s.fenced := rfl
@[simp] theorem State.put_ops (s : State) (f : Fld) (n : Nat) : (s.put f n).ops = s.ops := rfl
@[simp] theorem State.put_wqs (s : State) (f : Fld) (n : Nat) : (s.put f n).wqs = s.wqs := rfl
@[simp] theorem State.put_eqs (s : State) (f : Fld) (n : Nat) : (s.put f n).eqs = s.eqs := rfl
@[simp] theorem State.put_ctrs (s : State) (f : Fld) (n : Nat) : (s.put f n).ctrs = s.ctrs := rfl
@[simp] theorem State.put_pas (s : State) (f : Fld) (n : Nat) : (s.put f n).pas = s.pas := rfl
@[simp] theorem State.put_tlb (s : State) (f : Fld) (n : Nat) : (s.put f n).tlb = s.tlb := rfl
@[simp] theorem State.put_walks (s : State) (f : Fld) (n : Nat) : (s.put f n).walks = s.walks := rfl
@[simp] theorem State.put_accs (s : State) (f : Fld) (n : Nat) : (s.put f n).accs = s.accs := rfl
@[simp] theorem State.put_invals (s : State) (f : Fld) (n : Nat) : (s.put f n).invals = s.invals := rfl
@[simp] theorem State.put_nextId (s : State) (f : Fld) (n : Nat) : (s.put f n).nextId = s.nextId := rfl
@[simp] theorem State.put_chans (s : State) (f : Fld) (n : Nat) : (s.put f n).chans = s.chans := rfl
@[simp] theorem State.put_unbound (s : State) (f : Fld) (n : Nat) : (s.put f n).unbound = s.unbound := rfl
@[simp] theorem State.put_tolls (s : State) (f : Fld) (n : Nat) : (s.put f n).tolls = s.tolls := rfl
@[simp] theorem State.put_inj (s : State) (f : Fld) (n : Nat) : (s.put f n).inj = s.inj := rfl
@[simp] theorem State.put_samp (s : State) (f : Fld) (n : Nat) : (s.put f n).samp = s.samp := rfl
@[simp] theorem State.put_ptx (s : State) (f : Fld) (n : Nat) : (s.put f n).ptx = s.ptx := rfl
@[simp] theorem State.put_prx (s : State) (f : Fld) (n : Nat) : (s.put f n).prx = s.prx := rfl
@[simp] theorem State.put_peerInc (s : State) (f : Fld) (n : Nat) : (s.put f n).peerInc = s.peerInc := rfl
@[simp] theorem State.put_kcache (s : State) (f : Fld) (n : Nat) : (s.put f n).kcache = s.kcache := rfl
@[simp] theorem State.put_kuse (s : State) (f : Fld) (n : Nat) : (s.put f n).kuse = s.kuse := rfl
@[simp] theorem State.put_kwait (s : State) (f : Fld) (n : Nat) : (s.put f n).kwait = s.kwait := rfl
@[simp] theorem State.put_lines (s : State) (f : Fld) (n : Nat) : (s.put f n).lines = s.lines := rfl
@[simp] theorem State.put_amoRes (s : State) (f : Fld) (n : Nat) : (s.put f n).amoRes = s.amoRes := rfl
@[simp] theorem State.put_mctx (s : State) (f : Fld) (n : Nat) : (s.put f n).mctx = s.mctx := rfl
@[simp] theorem State.put_msgs (s : State) (f : Fld) (n : Nat) : (s.put f n).msgs = s.msgs := rfl
@[simp] theorem State.put_preds (s : State) (f : Fld) (n : Nat) : (s.put f n).preds = s.preds := rfl
@[simp] theorem State.put_secret (s : State) (f : Fld) (n : Nat) : (s.put f n).secret = s.secret := rfl
@[simp] theorem State.put_freeCtr (s : State) (f : Fld) (n : Nat) : (s.put f n).freeCtr = s.freeCtr := rfl
@[simp] theorem State.put_outs (s : State) (f : Fld) (n : Nat) : (s.put f n).outs = s.outs := rfl
@[simp] theorem State.put_work (s : State) (f : Fld) (n : Nat) : (s.put f n).work = s.work := rfl
@[simp] theorem State.put_pending (s : State) (f : Fld) (n : Nat) : (s.put f n).pending = s.pending := rfl
@[simp] theorem State.put_eps (s : State) (f : Fld) (n : Nat) : (s.put f n).eps = s.eps := rfl
@[simp] theorem State.put_routes (s : State) (f : Fld) (n : Nat) : (s.put f n).routes = s.routes := rfl
@[simp] theorem State.put_doms (s : State) (f : Fld) (n : Nat) : (s.put f n).doms = s.doms := rfl
@[simp] theorem State.put_resps (s : State) (f : Fld) (n : Nat) : (s.put f n).resps = s.resps := rfl
@[simp] theorem State.put_rin (s : State) (f : Fld) (n : Nat) : (s.put f n).rin = s.rin := rfl
@[simp] theorem State.put_quiet (s : State) (f : Fld) (n : Nat) : (s.put f n).quiet = s.quiet := rfl
@[simp] theorem State.put_quietLeft (s : State) (f : Fld) (n : Nat) : (s.put f n).quietLeft = s.quietLeft := rfl
@[simp] theorem State.put_firstBnd (s : State) (f : Fld) (n : Nat) : (s.put f n).firstBnd = s.firstBnd := rfl
@[simp] theorem State.put_ctlSent (s : State) (f : Fld) (n : Nat) : (s.put f n).ctlSent = s.ctlSent := rfl
@[simp] theorem State.put_ctlWait (s : State) (f : Fld) (n : Nat) : (s.put f n).ctlWait = s.ctlWait := rfl
@[simp] theorem State.put_fports (s : State) (f : Fld) (n : Nat) : (s.put f n).fports = s.fports := rfl
@[simp] theorem State.put_vlfsr (s : State) (f : Fld) (n : Nat) : (s.put f n).vlfsr = s.vlfsr := rfl
@[simp] theorem State.put_bankCopy (s : State) (f : Fld) (n : Nat) : (s.put f n).bankCopy = s.bankCopy := rfl
@[simp] theorem State.put_copyQ (s : State) (f : Fld) (n : Nat) : (s.put f n).copyQ = s.copyQ := rfl
@[simp] theorem State.put_grps (s : State) (f : Fld) (n : Nat) : (s.put f n).grps = s.grps := rfl
@[simp] theorem State.put_cvys (s : State) (f : Fld) (n : Nat) : (s.put f n).cvys = s.cvys := rfl
@[simp] theorem State.put_portCnt (s : State) (f : Fld) (n : Nat) : (s.put f n).portCnt = s.portCnt := rfl
@[simp] theorem State.put_roomQ (s : State) (f : Fld) (n : Nat) : (s.put f n).roomQ = s.roomQ := rfl
@[simp] theorem State.put_sync (s : State) (f : Fld) (n : Nat) : (s.put f n).sync = s.sync := rfl
@[simp] theorem State.put_syncTx (s : State) (f : Fld) (n : Nat) : (s.put f n).syncTx = s.syncTx := rfl
@[simp] theorem State.put_syncRx (s : State) (f : Fld) (n : Nat) : (s.put f n).syncRx = s.syncRx := rfl
@[simp] theorem State.put_tb (s : State) (f : Fld) (n : Nat) : (s.put f n).tb = s.tb := rfl
@[simp] theorem State.put_fmLeft (s : State) (f : Fld) (n : Nat) : (s.put f n).fmLeft = s.fmLeft := rfl
@[simp] theorem State.put_bwLeft (s : State) (f : Fld) (n : Nat) : (s.put f n).bwLeft = s.bwLeft := rfl
@[simp] theorem State.put_bwBase (s : State) (f : Fld) (n : Nat) : (s.put f n).bwBase = s.bwBase := rfl
@[simp] theorem State.put_clkHold (s : State) (f : Fld) (n : Nat) : (s.put f n).clkHold = s.clkHold := rfl
@[simp] theorem State.put_locks (s : State) (f : Fld) (n : Nat) : (s.put f n).locks = s.locks := rfl
@[simp] theorem State.put_sess (s : State) (f : Fld) (n : Nat) : (s.put f n).sess = s.sess := rfl
@[simp] theorem State.put_ide (s : State) (f : Fld) (n : Nat) : (s.put f n).ide = s.ide := rfl
@[simp] theorem State.put_fmKey (s : State) (f : Fld) (n : Nat) : (s.put f n).fmKey = s.fmKey := rfl
@[simp] theorem State.put_mbxTag (s : State) (f : Fld) (n : Nat) : (s.put f n).mbxTag = s.mbxTag := rfl
@[simp] theorem State.put_mbxLeft (s : State) (f : Fld) (n : Nat) : (s.put f n).mbxLeft = s.mbxLeft := rfl
@[simp] theorem State.put_ledStart (s : State) (f : Fld) (n : Nat) : (s.put f n).ledStart = s.ledStart := rfl
@[simp] theorem State.put_ledMerged (s : State) (f : Fld) (n : Nat) : (s.put f n).ledMerged = s.ledMerged := rfl
@[simp] theorem State.put_ledDue (s : State) (f : Fld) (n : Nat) : (s.put f n).ledDue = s.ledDue := rfl
@[simp] theorem State.put_ledSeq (s : State) (f : Fld) (n : Nat) : (s.put f n).ledSeq = s.ledSeq := rfl
@[simp] theorem State.put_ledDoms (s : State) (f : Fld) (n : Nat) : (s.put f n).ledDoms = s.ledDoms := rfl
@[simp] theorem State.put_train (s : State) (f : Fld) (n : Nat) : (s.put f n).train = s.train := rfl
@[simp] theorem State.put_mods (s : State) (f : Fld) (n : Nat) : (s.put f n).mods = s.mods := rfl
@[simp] theorem State.put_cmisQ (s : State) (f : Fld) (n : Nat) : (s.put f n).cmisQ = s.cmisQ := rfl
@[simp] theorem State.put_cages (s : State) (f : Fld) (n : Nat) : (s.put f n).cages = s.cages := rfl
@[simp] theorem State.put_snap (s : State) (f : Fld) (n : Nat) : (s.put f n).snap = s.snap := rfl
@[simp] theorem State.put_snapSeq (s : State) (f : Fld) (n : Nat) : (s.put f n).snapSeq = s.snapSeq := rfl
@[simp] theorem State.put_snapSkip (s : State) (f : Fld) (n : Nat) : (s.put f n).snapSkip = s.snapSkip := rfl
@[simp] theorem State.put_snapOver (s : State) (f : Fld) (n : Nat) : (s.put f n).snapOver = s.snapOver := rfl
@[simp] theorem State.put_modeReq (s : State) (f : Fld) (n : Nat) : (s.put f n).modeReq = s.modeReq := rfl
@[simp] theorem State.put_commitReq (s : State) (f : Fld) (n : Nat) : (s.put f n).commitReq = s.commitReq := rfl
@[simp] theorem State.put_retDue (s : State) (f : Fld) (n : Nat) : (s.put f n).retDue = s.retDue := rfl
@[simp] theorem State.put_pdLeft (s : State) (f : Fld) (n : Nat) : (s.put f n).pdLeft = s.pdLeft := rfl
@[simp] theorem State.put_pdOver (s : State) (f : Fld) (n : Nat) : (s.put f n).pdOver = s.pdOver := rfl
@[simp] theorem State.put_hold (s : State) (f : Fld) (n : Nat) : (s.put f n).hold = s.hold := rfl
@[simp] theorem State.put_railBad (s : State) (f : Fld) (n : Nat) : (s.put f n).railBad = s.railBad := rfl
@[simp] theorem State.put_slew (s : State) (f : Fld) (n : Nat) : (s.put f n).slew = s.slew := rfl
@[simp] theorem State.put_stageSeen (s : State) (f : Fld) (n : Nat) : (s.put f n).stageSeen = s.stageSeen := rfl
@[simp] theorem State.put_overruns (s : State) (f : Fld) (n : Nat) : (s.put f n).overruns = s.overruns := rfl

/-! ### later -/

@[simp] theorem State.later_regs (s : State) (w : Work) : (s.later w).regs = s.regs := rfl
@[simp] theorem State.later_spend (s : State) (w : Work) : (s.later w).spend = s.spend := rfl
@[simp] theorem State.later_smask (s : State) (w : Work) : (s.later w).smask = s.smask := rfl
@[simp] theorem State.later_hist (s : State) (w : Work) : (s.later w).hist = s.hist := rfl
@[simp] theorem State.later_first (s : State) (w : Work) : (s.later w).first = s.first := rfl
@[simp] theorem State.later_active (s : State) (w : Work) : (s.later w).active = s.active := rfl
@[simp] theorem State.later_fltIrq (s : State) (w : Work) : (s.later w).fltIrq = s.fltIrq := rfl
@[simp] theorem State.later_fltDefer (s : State) (w : Work) : (s.later w).fltDefer = s.fltDefer := rfl
@[simp] theorem State.later_fns (s : State) (w : Work) : (s.later w).fns = s.fns := rfl
@[simp] theorem State.later_ports (s : State) (w : Work) : (s.later w).ports = s.ports := rfl
@[simp] theorem State.later_runs (s : State) (w : Work) : (s.later w).runs = s.runs := rfl
@[simp] theorem State.later_gens (s : State) (w : Work) : (s.later w).gens = s.gens := rfl
@[simp] theorem State.later_readyCtr (s : State) (w : Work) : (s.later w).readyCtr = s.readyCtr := rfl
@[simp] theorem State.later_pcache (s : State) (w : Work) : (s.later w).pcache = s.pcache := rfl
@[simp] theorem State.later_fenced (s : State) (w : Work) : (s.later w).fenced = s.fenced := rfl
@[simp] theorem State.later_ops (s : State) (w : Work) : (s.later w).ops = s.ops := rfl
@[simp] theorem State.later_wqs (s : State) (w : Work) : (s.later w).wqs = s.wqs := rfl
@[simp] theorem State.later_eqs (s : State) (w : Work) : (s.later w).eqs = s.eqs := rfl
@[simp] theorem State.later_ctrs (s : State) (w : Work) : (s.later w).ctrs = s.ctrs := rfl
@[simp] theorem State.later_pas (s : State) (w : Work) : (s.later w).pas = s.pas := rfl
@[simp] theorem State.later_tlb (s : State) (w : Work) : (s.later w).tlb = s.tlb := rfl
@[simp] theorem State.later_walks (s : State) (w : Work) : (s.later w).walks = s.walks := rfl
@[simp] theorem State.later_accs (s : State) (w : Work) : (s.later w).accs = s.accs := rfl
@[simp] theorem State.later_invals (s : State) (w : Work) : (s.later w).invals = s.invals := rfl
@[simp] theorem State.later_nextId (s : State) (w : Work) : (s.later w).nextId = s.nextId := rfl
@[simp] theorem State.later_chans (s : State) (w : Work) : (s.later w).chans = s.chans := rfl
@[simp] theorem State.later_unbound (s : State) (w : Work) : (s.later w).unbound = s.unbound := rfl
@[simp] theorem State.later_tolls (s : State) (w : Work) : (s.later w).tolls = s.tolls := rfl
@[simp] theorem State.later_inj (s : State) (w : Work) : (s.later w).inj = s.inj := rfl
@[simp] theorem State.later_samp (s : State) (w : Work) : (s.later w).samp = s.samp := rfl
@[simp] theorem State.later_ptx (s : State) (w : Work) : (s.later w).ptx = s.ptx := rfl
@[simp] theorem State.later_prx (s : State) (w : Work) : (s.later w).prx = s.prx := rfl
@[simp] theorem State.later_peerInc (s : State) (w : Work) : (s.later w).peerInc = s.peerInc := rfl
@[simp] theorem State.later_kcache (s : State) (w : Work) : (s.later w).kcache = s.kcache := rfl
@[simp] theorem State.later_kuse (s : State) (w : Work) : (s.later w).kuse = s.kuse := rfl
@[simp] theorem State.later_kwait (s : State) (w : Work) : (s.later w).kwait = s.kwait := rfl
@[simp] theorem State.later_lines (s : State) (w : Work) : (s.later w).lines = s.lines := rfl
@[simp] theorem State.later_amoRes (s : State) (w : Work) : (s.later w).amoRes = s.amoRes := rfl
@[simp] theorem State.later_mctx (s : State) (w : Work) : (s.later w).mctx = s.mctx := rfl
@[simp] theorem State.later_msgs (s : State) (w : Work) : (s.later w).msgs = s.msgs := rfl
@[simp] theorem State.later_preds (s : State) (w : Work) : (s.later w).preds = s.preds := rfl
@[simp] theorem State.later_secret (s : State) (w : Work) : (s.later w).secret = s.secret := rfl
@[simp] theorem State.later_freeCtr (s : State) (w : Work) : (s.later w).freeCtr = s.freeCtr := rfl
@[simp] theorem State.later_outs (s : State) (w : Work) : (s.later w).outs = s.outs := rfl
@[simp] theorem State.later_work (s : State) (w : Work) : (s.later w).work = s.work ++ [w] := rfl
@[simp] theorem State.later_pending (s : State) (w : Work) : (s.later w).pending = s.pending := rfl
@[simp] theorem State.later_eps (s : State) (w : Work) : (s.later w).eps = s.eps := rfl
@[simp] theorem State.later_routes (s : State) (w : Work) : (s.later w).routes = s.routes := rfl
@[simp] theorem State.later_doms (s : State) (w : Work) : (s.later w).doms = s.doms := rfl
@[simp] theorem State.later_resps (s : State) (w : Work) : (s.later w).resps = s.resps := rfl
@[simp] theorem State.later_rin (s : State) (w : Work) : (s.later w).rin = s.rin := rfl
@[simp] theorem State.later_quiet (s : State) (w : Work) : (s.later w).quiet = s.quiet := rfl
@[simp] theorem State.later_quietLeft (s : State) (w : Work) : (s.later w).quietLeft = s.quietLeft := rfl
@[simp] theorem State.later_firstBnd (s : State) (w : Work) : (s.later w).firstBnd = s.firstBnd := rfl
@[simp] theorem State.later_ctlSent (s : State) (w : Work) : (s.later w).ctlSent = s.ctlSent := rfl
@[simp] theorem State.later_ctlWait (s : State) (w : Work) : (s.later w).ctlWait = s.ctlWait := rfl
@[simp] theorem State.later_fports (s : State) (w : Work) : (s.later w).fports = s.fports := rfl
@[simp] theorem State.later_vlfsr (s : State) (w : Work) : (s.later w).vlfsr = s.vlfsr := rfl
@[simp] theorem State.later_bankCopy (s : State) (w : Work) : (s.later w).bankCopy = s.bankCopy := rfl
@[simp] theorem State.later_copyQ (s : State) (w : Work) : (s.later w).copyQ = s.copyQ := rfl
@[simp] theorem State.later_grps (s : State) (w : Work) : (s.later w).grps = s.grps := rfl
@[simp] theorem State.later_cvys (s : State) (w : Work) : (s.later w).cvys = s.cvys := rfl
@[simp] theorem State.later_portCnt (s : State) (w : Work) : (s.later w).portCnt = s.portCnt := rfl
@[simp] theorem State.later_roomQ (s : State) (w : Work) : (s.later w).roomQ = s.roomQ := rfl
@[simp] theorem State.later_sync (s : State) (w : Work) : (s.later w).sync = s.sync := rfl
@[simp] theorem State.later_syncTx (s : State) (w : Work) : (s.later w).syncTx = s.syncTx := rfl
@[simp] theorem State.later_syncRx (s : State) (w : Work) : (s.later w).syncRx = s.syncRx := rfl
@[simp] theorem State.later_tb (s : State) (w : Work) : (s.later w).tb = s.tb := rfl
@[simp] theorem State.later_fmLeft (s : State) (w : Work) : (s.later w).fmLeft = s.fmLeft := rfl
@[simp] theorem State.later_bwLeft (s : State) (w : Work) : (s.later w).bwLeft = s.bwLeft := rfl
@[simp] theorem State.later_bwBase (s : State) (w : Work) : (s.later w).bwBase = s.bwBase := rfl
@[simp] theorem State.later_clkHold (s : State) (w : Work) : (s.later w).clkHold = s.clkHold := rfl
@[simp] theorem State.later_locks (s : State) (w : Work) : (s.later w).locks = s.locks := rfl
@[simp] theorem State.later_sess (s : State) (w : Work) : (s.later w).sess = s.sess := rfl
@[simp] theorem State.later_ide (s : State) (w : Work) : (s.later w).ide = s.ide := rfl
@[simp] theorem State.later_fmKey (s : State) (w : Work) : (s.later w).fmKey = s.fmKey := rfl
@[simp] theorem State.later_mbxTag (s : State) (w : Work) : (s.later w).mbxTag = s.mbxTag := rfl
@[simp] theorem State.later_mbxLeft (s : State) (w : Work) : (s.later w).mbxLeft = s.mbxLeft := rfl
@[simp] theorem State.later_ledStart (s : State) (w : Work) : (s.later w).ledStart = s.ledStart := rfl
@[simp] theorem State.later_ledMerged (s : State) (w : Work) : (s.later w).ledMerged = s.ledMerged := rfl
@[simp] theorem State.later_ledDue (s : State) (w : Work) : (s.later w).ledDue = s.ledDue := rfl
@[simp] theorem State.later_ledSeq (s : State) (w : Work) : (s.later w).ledSeq = s.ledSeq := rfl
@[simp] theorem State.later_ledDoms (s : State) (w : Work) : (s.later w).ledDoms = s.ledDoms := rfl
@[simp] theorem State.later_train (s : State) (w : Work) : (s.later w).train = s.train := rfl
@[simp] theorem State.later_mods (s : State) (w : Work) : (s.later w).mods = s.mods := rfl
@[simp] theorem State.later_cmisQ (s : State) (w : Work) : (s.later w).cmisQ = s.cmisQ := rfl
@[simp] theorem State.later_cages (s : State) (w : Work) : (s.later w).cages = s.cages := rfl
@[simp] theorem State.later_snap (s : State) (w : Work) : (s.later w).snap = s.snap := rfl
@[simp] theorem State.later_snapSeq (s : State) (w : Work) : (s.later w).snapSeq = s.snapSeq := rfl
@[simp] theorem State.later_snapSkip (s : State) (w : Work) : (s.later w).snapSkip = s.snapSkip := rfl
@[simp] theorem State.later_snapOver (s : State) (w : Work) : (s.later w).snapOver = s.snapOver := rfl
@[simp] theorem State.later_modeReq (s : State) (w : Work) : (s.later w).modeReq = s.modeReq := rfl
@[simp] theorem State.later_commitReq (s : State) (w : Work) : (s.later w).commitReq = s.commitReq := rfl
@[simp] theorem State.later_retDue (s : State) (w : Work) : (s.later w).retDue = s.retDue := rfl
@[simp] theorem State.later_pdLeft (s : State) (w : Work) : (s.later w).pdLeft = s.pdLeft := rfl
@[simp] theorem State.later_pdOver (s : State) (w : Work) : (s.later w).pdOver = s.pdOver := rfl
@[simp] theorem State.later_hold (s : State) (w : Work) : (s.later w).hold = s.hold := rfl
@[simp] theorem State.later_railBad (s : State) (w : Work) : (s.later w).railBad = s.railBad := rfl
@[simp] theorem State.later_slew (s : State) (w : Work) : (s.later w).slew = s.slew := rfl
@[simp] theorem State.later_stageSeen (s : State) (w : Work) : (s.later w).stageSeen = s.stageSeen := rfl
@[simp] theorem State.later_overruns (s : State) (w : Work) : (s.later w).overruns = s.overruns := rfl

/-! ### updRun -/

@[simp] theorem State.updRun_regs (s : State) (k : Nat) (f : Run → Run) : (s.updRun k f).regs = s.regs := rfl
@[simp] theorem State.updRun_spend (s : State) (k : Nat) (f : Run → Run) : (s.updRun k f).spend = s.spend := rfl
@[simp] theorem State.updRun_smask (s : State) (k : Nat) (f : Run → Run) : (s.updRun k f).smask = s.smask := rfl
@[simp] theorem State.updRun_hist (s : State) (k : Nat) (f : Run → Run) : (s.updRun k f).hist = s.hist := rfl
@[simp] theorem State.updRun_first (s : State) (k : Nat) (f : Run → Run) : (s.updRun k f).first = s.first := rfl
@[simp] theorem State.updRun_active (s : State) (k : Nat) (f : Run → Run) : (s.updRun k f).active = s.active := rfl
@[simp] theorem State.updRun_fltIrq (s : State) (k : Nat) (f : Run → Run) : (s.updRun k f).fltIrq = s.fltIrq := rfl
@[simp] theorem State.updRun_fltDefer (s : State) (k : Nat) (f : Run → Run) : (s.updRun k f).fltDefer = s.fltDefer := rfl
@[simp] theorem State.updRun_fns (s : State) (k : Nat) (f : Run → Run) : (s.updRun k f).fns = s.fns := rfl
@[simp] theorem State.updRun_ports (s : State) (k : Nat) (f : Run → Run) : (s.updRun k f).ports = s.ports := rfl
@[simp] theorem State.updRun_runs (s : State) (k : Nat) (f : Run → Run) : (s.updRun k f).runs = s.runs.upd k f := rfl
@[simp] theorem State.updRun_gens (s : State) (k : Nat) (f : Run → Run) : (s.updRun k f).gens = s.gens := rfl
@[simp] theorem State.updRun_readyCtr (s : State) (k : Nat) (f : Run → Run) : (s.updRun k f).readyCtr = s.readyCtr := rfl
@[simp] theorem State.updRun_pcache (s : State) (k : Nat) (f : Run → Run) : (s.updRun k f).pcache = s.pcache := rfl
@[simp] theorem State.updRun_fenced (s : State) (k : Nat) (f : Run → Run) : (s.updRun k f).fenced = s.fenced := rfl
@[simp] theorem State.updRun_ops (s : State) (k : Nat) (f : Run → Run) : (s.updRun k f).ops = s.ops := rfl
@[simp] theorem State.updRun_wqs (s : State) (k : Nat) (f : Run → Run) : (s.updRun k f).wqs = s.wqs := rfl
@[simp] theorem State.updRun_eqs (s : State) (k : Nat) (f : Run → Run) : (s.updRun k f).eqs = s.eqs := rfl
@[simp] theorem State.updRun_ctrs (s : State) (k : Nat) (f : Run → Run) : (s.updRun k f).ctrs = s.ctrs := rfl
@[simp] theorem State.updRun_pas (s : State) (k : Nat) (f : Run → Run) : (s.updRun k f).pas = s.pas := rfl
@[simp] theorem State.updRun_tlb (s : State) (k : Nat) (f : Run → Run) : (s.updRun k f).tlb = s.tlb := rfl
@[simp] theorem State.updRun_walks (s : State) (k : Nat) (f : Run → Run) : (s.updRun k f).walks = s.walks := rfl
@[simp] theorem State.updRun_accs (s : State) (k : Nat) (f : Run → Run) : (s.updRun k f).accs = s.accs := rfl
@[simp] theorem State.updRun_invals (s : State) (k : Nat) (f : Run → Run) : (s.updRun k f).invals = s.invals := rfl
@[simp] theorem State.updRun_nextId (s : State) (k : Nat) (f : Run → Run) : (s.updRun k f).nextId = s.nextId := rfl
@[simp] theorem State.updRun_chans (s : State) (k : Nat) (f : Run → Run) : (s.updRun k f).chans = s.chans := rfl
@[simp] theorem State.updRun_unbound (s : State) (k : Nat) (f : Run → Run) : (s.updRun k f).unbound = s.unbound := rfl
@[simp] theorem State.updRun_tolls (s : State) (k : Nat) (f : Run → Run) : (s.updRun k f).tolls = s.tolls := rfl
@[simp] theorem State.updRun_inj (s : State) (k : Nat) (f : Run → Run) : (s.updRun k f).inj = s.inj := rfl
@[simp] theorem State.updRun_samp (s : State) (k : Nat) (f : Run → Run) : (s.updRun k f).samp = s.samp := rfl
@[simp] theorem State.updRun_ptx (s : State) (k : Nat) (f : Run → Run) : (s.updRun k f).ptx = s.ptx := rfl
@[simp] theorem State.updRun_prx (s : State) (k : Nat) (f : Run → Run) : (s.updRun k f).prx = s.prx := rfl
@[simp] theorem State.updRun_peerInc (s : State) (k : Nat) (f : Run → Run) : (s.updRun k f).peerInc = s.peerInc := rfl
@[simp] theorem State.updRun_kcache (s : State) (k : Nat) (f : Run → Run) : (s.updRun k f).kcache = s.kcache := rfl
@[simp] theorem State.updRun_kuse (s : State) (k : Nat) (f : Run → Run) : (s.updRun k f).kuse = s.kuse := rfl
@[simp] theorem State.updRun_kwait (s : State) (k : Nat) (f : Run → Run) : (s.updRun k f).kwait = s.kwait := rfl
@[simp] theorem State.updRun_lines (s : State) (k : Nat) (f : Run → Run) : (s.updRun k f).lines = s.lines := rfl
@[simp] theorem State.updRun_amoRes (s : State) (k : Nat) (f : Run → Run) : (s.updRun k f).amoRes = s.amoRes := rfl
@[simp] theorem State.updRun_mctx (s : State) (k : Nat) (f : Run → Run) : (s.updRun k f).mctx = s.mctx := rfl
@[simp] theorem State.updRun_msgs (s : State) (k : Nat) (f : Run → Run) : (s.updRun k f).msgs = s.msgs := rfl
@[simp] theorem State.updRun_preds (s : State) (k : Nat) (f : Run → Run) : (s.updRun k f).preds = s.preds := rfl
@[simp] theorem State.updRun_secret (s : State) (k : Nat) (f : Run → Run) : (s.updRun k f).secret = s.secret := rfl
@[simp] theorem State.updRun_freeCtr (s : State) (k : Nat) (f : Run → Run) : (s.updRun k f).freeCtr = s.freeCtr := rfl
@[simp] theorem State.updRun_outs (s : State) (k : Nat) (f : Run → Run) : (s.updRun k f).outs = s.outs := rfl
@[simp] theorem State.updRun_work (s : State) (k : Nat) (f : Run → Run) : (s.updRun k f).work = s.work := rfl
@[simp] theorem State.updRun_pending (s : State) (k : Nat) (f : Run → Run) : (s.updRun k f).pending = s.pending := rfl
@[simp] theorem State.updRun_eps (s : State) (k : Nat) (f : Run → Run) : (s.updRun k f).eps = s.eps := rfl
@[simp] theorem State.updRun_routes (s : State) (k : Nat) (f : Run → Run) : (s.updRun k f).routes = s.routes := rfl
@[simp] theorem State.updRun_doms (s : State) (k : Nat) (f : Run → Run) : (s.updRun k f).doms = s.doms := rfl
@[simp] theorem State.updRun_resps (s : State) (k : Nat) (f : Run → Run) : (s.updRun k f).resps = s.resps := rfl
@[simp] theorem State.updRun_rin (s : State) (k : Nat) (f : Run → Run) : (s.updRun k f).rin = s.rin := rfl
@[simp] theorem State.updRun_quiet (s : State) (k : Nat) (f : Run → Run) : (s.updRun k f).quiet = s.quiet := rfl
@[simp] theorem State.updRun_quietLeft (s : State) (k : Nat) (f : Run → Run) : (s.updRun k f).quietLeft = s.quietLeft := rfl
@[simp] theorem State.updRun_firstBnd (s : State) (k : Nat) (f : Run → Run) : (s.updRun k f).firstBnd = s.firstBnd := rfl
@[simp] theorem State.updRun_ctlSent (s : State) (k : Nat) (f : Run → Run) : (s.updRun k f).ctlSent = s.ctlSent := rfl
@[simp] theorem State.updRun_ctlWait (s : State) (k : Nat) (f : Run → Run) : (s.updRun k f).ctlWait = s.ctlWait := rfl
@[simp] theorem State.updRun_fports (s : State) (k : Nat) (f : Run → Run) : (s.updRun k f).fports = s.fports := rfl
@[simp] theorem State.updRun_vlfsr (s : State) (k : Nat) (f : Run → Run) : (s.updRun k f).vlfsr = s.vlfsr := rfl
@[simp] theorem State.updRun_bankCopy (s : State) (k : Nat) (f : Run → Run) : (s.updRun k f).bankCopy = s.bankCopy := rfl
@[simp] theorem State.updRun_copyQ (s : State) (k : Nat) (f : Run → Run) : (s.updRun k f).copyQ = s.copyQ := rfl
@[simp] theorem State.updRun_grps (s : State) (k : Nat) (f : Run → Run) : (s.updRun k f).grps = s.grps := rfl
@[simp] theorem State.updRun_cvys (s : State) (k : Nat) (f : Run → Run) : (s.updRun k f).cvys = s.cvys := rfl
@[simp] theorem State.updRun_portCnt (s : State) (k : Nat) (f : Run → Run) : (s.updRun k f).portCnt = s.portCnt := rfl
@[simp] theorem State.updRun_roomQ (s : State) (k : Nat) (f : Run → Run) : (s.updRun k f).roomQ = s.roomQ := rfl
@[simp] theorem State.updRun_sync (s : State) (k : Nat) (f : Run → Run) : (s.updRun k f).sync = s.sync := rfl
@[simp] theorem State.updRun_syncTx (s : State) (k : Nat) (f : Run → Run) : (s.updRun k f).syncTx = s.syncTx := rfl
@[simp] theorem State.updRun_syncRx (s : State) (k : Nat) (f : Run → Run) : (s.updRun k f).syncRx = s.syncRx := rfl
@[simp] theorem State.updRun_tb (s : State) (k : Nat) (f : Run → Run) : (s.updRun k f).tb = s.tb := rfl
@[simp] theorem State.updRun_fmLeft (s : State) (k : Nat) (f : Run → Run) : (s.updRun k f).fmLeft = s.fmLeft := rfl
@[simp] theorem State.updRun_bwLeft (s : State) (k : Nat) (f : Run → Run) : (s.updRun k f).bwLeft = s.bwLeft := rfl
@[simp] theorem State.updRun_bwBase (s : State) (k : Nat) (f : Run → Run) : (s.updRun k f).bwBase = s.bwBase := rfl
@[simp] theorem State.updRun_clkHold (s : State) (k : Nat) (f : Run → Run) : (s.updRun k f).clkHold = s.clkHold := rfl
@[simp] theorem State.updRun_locks (s : State) (k : Nat) (f : Run → Run) : (s.updRun k f).locks = s.locks := rfl
@[simp] theorem State.updRun_sess (s : State) (k : Nat) (f : Run → Run) : (s.updRun k f).sess = s.sess := rfl
@[simp] theorem State.updRun_ide (s : State) (k : Nat) (f : Run → Run) : (s.updRun k f).ide = s.ide := rfl
@[simp] theorem State.updRun_fmKey (s : State) (k : Nat) (f : Run → Run) : (s.updRun k f).fmKey = s.fmKey := rfl
@[simp] theorem State.updRun_mbxTag (s : State) (k : Nat) (f : Run → Run) : (s.updRun k f).mbxTag = s.mbxTag := rfl
@[simp] theorem State.updRun_mbxLeft (s : State) (k : Nat) (f : Run → Run) : (s.updRun k f).mbxLeft = s.mbxLeft := rfl
@[simp] theorem State.updRun_ledStart (s : State) (k : Nat) (f : Run → Run) : (s.updRun k f).ledStart = s.ledStart := rfl
@[simp] theorem State.updRun_ledMerged (s : State) (k : Nat) (f : Run → Run) : (s.updRun k f).ledMerged = s.ledMerged := rfl
@[simp] theorem State.updRun_ledDue (s : State) (k : Nat) (f : Run → Run) : (s.updRun k f).ledDue = s.ledDue := rfl
@[simp] theorem State.updRun_ledSeq (s : State) (k : Nat) (f : Run → Run) : (s.updRun k f).ledSeq = s.ledSeq := rfl
@[simp] theorem State.updRun_ledDoms (s : State) (k : Nat) (f : Run → Run) : (s.updRun k f).ledDoms = s.ledDoms := rfl
@[simp] theorem State.updRun_train (s : State) (k : Nat) (f : Run → Run) : (s.updRun k f).train = s.train := rfl
@[simp] theorem State.updRun_mods (s : State) (k : Nat) (f : Run → Run) : (s.updRun k f).mods = s.mods := rfl
@[simp] theorem State.updRun_cmisQ (s : State) (k : Nat) (f : Run → Run) : (s.updRun k f).cmisQ = s.cmisQ := rfl
@[simp] theorem State.updRun_cages (s : State) (k : Nat) (f : Run → Run) : (s.updRun k f).cages = s.cages := rfl
@[simp] theorem State.updRun_snap (s : State) (k : Nat) (f : Run → Run) : (s.updRun k f).snap = s.snap := rfl
@[simp] theorem State.updRun_snapSeq (s : State) (k : Nat) (f : Run → Run) : (s.updRun k f).snapSeq = s.snapSeq := rfl
@[simp] theorem State.updRun_snapSkip (s : State) (k : Nat) (f : Run → Run) : (s.updRun k f).snapSkip = s.snapSkip := rfl
@[simp] theorem State.updRun_snapOver (s : State) (k : Nat) (f : Run → Run) : (s.updRun k f).snapOver = s.snapOver := rfl
@[simp] theorem State.updRun_modeReq (s : State) (k : Nat) (f : Run → Run) : (s.updRun k f).modeReq = s.modeReq := rfl
@[simp] theorem State.updRun_commitReq (s : State) (k : Nat) (f : Run → Run) : (s.updRun k f).commitReq = s.commitReq := rfl
@[simp] theorem State.updRun_retDue (s : State) (k : Nat) (f : Run → Run) : (s.updRun k f).retDue = s.retDue := rfl
@[simp] theorem State.updRun_pdLeft (s : State) (k : Nat) (f : Run → Run) : (s.updRun k f).pdLeft = s.pdLeft := rfl
@[simp] theorem State.updRun_pdOver (s : State) (k : Nat) (f : Run → Run) : (s.updRun k f).pdOver = s.pdOver := rfl
@[simp] theorem State.updRun_hold (s : State) (k : Nat) (f : Run → Run) : (s.updRun k f).hold = s.hold := rfl
@[simp] theorem State.updRun_railBad (s : State) (k : Nat) (f : Run → Run) : (s.updRun k f).railBad = s.railBad := rfl
@[simp] theorem State.updRun_slew (s : State) (k : Nat) (f : Run → Run) : (s.updRun k f).slew = s.slew := rfl
@[simp] theorem State.updRun_stageSeen (s : State) (k : Nat) (f : Run → Run) : (s.updRun k f).stageSeen = s.stageSeen := rfl
@[simp] theorem State.updRun_overruns (s : State) (k : Nat) (f : Run → Run) : (s.updRun k f).overruns = s.overruns := rfl

/-! ### updOp -/

@[simp] theorem State.updOp_regs (s : State) (k : Nat) (f : Op → Op) : (s.updOp k f).regs = s.regs := rfl
@[simp] theorem State.updOp_spend (s : State) (k : Nat) (f : Op → Op) : (s.updOp k f).spend = s.spend := rfl
@[simp] theorem State.updOp_smask (s : State) (k : Nat) (f : Op → Op) : (s.updOp k f).smask = s.smask := rfl
@[simp] theorem State.updOp_hist (s : State) (k : Nat) (f : Op → Op) : (s.updOp k f).hist = s.hist := rfl
@[simp] theorem State.updOp_first (s : State) (k : Nat) (f : Op → Op) : (s.updOp k f).first = s.first := rfl
@[simp] theorem State.updOp_active (s : State) (k : Nat) (f : Op → Op) : (s.updOp k f).active = s.active := rfl
@[simp] theorem State.updOp_fltIrq (s : State) (k : Nat) (f : Op → Op) : (s.updOp k f).fltIrq = s.fltIrq := rfl
@[simp] theorem State.updOp_fltDefer (s : State) (k : Nat) (f : Op → Op) : (s.updOp k f).fltDefer = s.fltDefer := rfl
@[simp] theorem State.updOp_fns (s : State) (k : Nat) (f : Op → Op) : (s.updOp k f).fns = s.fns := rfl
@[simp] theorem State.updOp_ports (s : State) (k : Nat) (f : Op → Op) : (s.updOp k f).ports = s.ports := rfl
@[simp] theorem State.updOp_runs (s : State) (k : Nat) (f : Op → Op) : (s.updOp k f).runs = s.runs := rfl
@[simp] theorem State.updOp_gens (s : State) (k : Nat) (f : Op → Op) : (s.updOp k f).gens = s.gens := rfl
@[simp] theorem State.updOp_readyCtr (s : State) (k : Nat) (f : Op → Op) : (s.updOp k f).readyCtr = s.readyCtr := rfl
@[simp] theorem State.updOp_pcache (s : State) (k : Nat) (f : Op → Op) : (s.updOp k f).pcache = s.pcache := rfl
@[simp] theorem State.updOp_fenced (s : State) (k : Nat) (f : Op → Op) : (s.updOp k f).fenced = s.fenced := rfl
@[simp] theorem State.updOp_ops (s : State) (k : Nat) (f : Op → Op) : (s.updOp k f).ops = s.ops.upd k f := rfl
@[simp] theorem State.updOp_wqs (s : State) (k : Nat) (f : Op → Op) : (s.updOp k f).wqs = s.wqs := rfl
@[simp] theorem State.updOp_eqs (s : State) (k : Nat) (f : Op → Op) : (s.updOp k f).eqs = s.eqs := rfl
@[simp] theorem State.updOp_ctrs (s : State) (k : Nat) (f : Op → Op) : (s.updOp k f).ctrs = s.ctrs := rfl
@[simp] theorem State.updOp_pas (s : State) (k : Nat) (f : Op → Op) : (s.updOp k f).pas = s.pas := rfl
@[simp] theorem State.updOp_tlb (s : State) (k : Nat) (f : Op → Op) : (s.updOp k f).tlb = s.tlb := rfl
@[simp] theorem State.updOp_walks (s : State) (k : Nat) (f : Op → Op) : (s.updOp k f).walks = s.walks := rfl
@[simp] theorem State.updOp_accs (s : State) (k : Nat) (f : Op → Op) : (s.updOp k f).accs = s.accs := rfl
@[simp] theorem State.updOp_invals (s : State) (k : Nat) (f : Op → Op) : (s.updOp k f).invals = s.invals := rfl
@[simp] theorem State.updOp_nextId (s : State) (k : Nat) (f : Op → Op) : (s.updOp k f).nextId = s.nextId := rfl
@[simp] theorem State.updOp_chans (s : State) (k : Nat) (f : Op → Op) : (s.updOp k f).chans = s.chans := rfl
@[simp] theorem State.updOp_unbound (s : State) (k : Nat) (f : Op → Op) : (s.updOp k f).unbound = s.unbound := rfl
@[simp] theorem State.updOp_tolls (s : State) (k : Nat) (f : Op → Op) : (s.updOp k f).tolls = s.tolls := rfl
@[simp] theorem State.updOp_inj (s : State) (k : Nat) (f : Op → Op) : (s.updOp k f).inj = s.inj := rfl
@[simp] theorem State.updOp_samp (s : State) (k : Nat) (f : Op → Op) : (s.updOp k f).samp = s.samp := rfl
@[simp] theorem State.updOp_ptx (s : State) (k : Nat) (f : Op → Op) : (s.updOp k f).ptx = s.ptx := rfl
@[simp] theorem State.updOp_prx (s : State) (k : Nat) (f : Op → Op) : (s.updOp k f).prx = s.prx := rfl
@[simp] theorem State.updOp_peerInc (s : State) (k : Nat) (f : Op → Op) : (s.updOp k f).peerInc = s.peerInc := rfl
@[simp] theorem State.updOp_kcache (s : State) (k : Nat) (f : Op → Op) : (s.updOp k f).kcache = s.kcache := rfl
@[simp] theorem State.updOp_kuse (s : State) (k : Nat) (f : Op → Op) : (s.updOp k f).kuse = s.kuse := rfl
@[simp] theorem State.updOp_kwait (s : State) (k : Nat) (f : Op → Op) : (s.updOp k f).kwait = s.kwait := rfl
@[simp] theorem State.updOp_lines (s : State) (k : Nat) (f : Op → Op) : (s.updOp k f).lines = s.lines := rfl
@[simp] theorem State.updOp_amoRes (s : State) (k : Nat) (f : Op → Op) : (s.updOp k f).amoRes = s.amoRes := rfl
@[simp] theorem State.updOp_mctx (s : State) (k : Nat) (f : Op → Op) : (s.updOp k f).mctx = s.mctx := rfl
@[simp] theorem State.updOp_msgs (s : State) (k : Nat) (f : Op → Op) : (s.updOp k f).msgs = s.msgs := rfl
@[simp] theorem State.updOp_preds (s : State) (k : Nat) (f : Op → Op) : (s.updOp k f).preds = s.preds := rfl
@[simp] theorem State.updOp_secret (s : State) (k : Nat) (f : Op → Op) : (s.updOp k f).secret = s.secret := rfl
@[simp] theorem State.updOp_freeCtr (s : State) (k : Nat) (f : Op → Op) : (s.updOp k f).freeCtr = s.freeCtr := rfl
@[simp] theorem State.updOp_outs (s : State) (k : Nat) (f : Op → Op) : (s.updOp k f).outs = s.outs := rfl
@[simp] theorem State.updOp_work (s : State) (k : Nat) (f : Op → Op) : (s.updOp k f).work = s.work := rfl
@[simp] theorem State.updOp_pending (s : State) (k : Nat) (f : Op → Op) : (s.updOp k f).pending = s.pending := rfl
@[simp] theorem State.updOp_eps (s : State) (k : Nat) (f : Op → Op) : (s.updOp k f).eps = s.eps := rfl
@[simp] theorem State.updOp_routes (s : State) (k : Nat) (f : Op → Op) : (s.updOp k f).routes = s.routes := rfl
@[simp] theorem State.updOp_doms (s : State) (k : Nat) (f : Op → Op) : (s.updOp k f).doms = s.doms := rfl
@[simp] theorem State.updOp_resps (s : State) (k : Nat) (f : Op → Op) : (s.updOp k f).resps = s.resps := rfl
@[simp] theorem State.updOp_rin (s : State) (k : Nat) (f : Op → Op) : (s.updOp k f).rin = s.rin := rfl
@[simp] theorem State.updOp_quiet (s : State) (k : Nat) (f : Op → Op) : (s.updOp k f).quiet = s.quiet := rfl
@[simp] theorem State.updOp_quietLeft (s : State) (k : Nat) (f : Op → Op) : (s.updOp k f).quietLeft = s.quietLeft := rfl
@[simp] theorem State.updOp_firstBnd (s : State) (k : Nat) (f : Op → Op) : (s.updOp k f).firstBnd = s.firstBnd := rfl
@[simp] theorem State.updOp_ctlSent (s : State) (k : Nat) (f : Op → Op) : (s.updOp k f).ctlSent = s.ctlSent := rfl
@[simp] theorem State.updOp_ctlWait (s : State) (k : Nat) (f : Op → Op) : (s.updOp k f).ctlWait = s.ctlWait := rfl
@[simp] theorem State.updOp_fports (s : State) (k : Nat) (f : Op → Op) : (s.updOp k f).fports = s.fports := rfl
@[simp] theorem State.updOp_vlfsr (s : State) (k : Nat) (f : Op → Op) : (s.updOp k f).vlfsr = s.vlfsr := rfl
@[simp] theorem State.updOp_bankCopy (s : State) (k : Nat) (f : Op → Op) : (s.updOp k f).bankCopy = s.bankCopy := rfl
@[simp] theorem State.updOp_copyQ (s : State) (k : Nat) (f : Op → Op) : (s.updOp k f).copyQ = s.copyQ := rfl
@[simp] theorem State.updOp_grps (s : State) (k : Nat) (f : Op → Op) : (s.updOp k f).grps = s.grps := rfl
@[simp] theorem State.updOp_cvys (s : State) (k : Nat) (f : Op → Op) : (s.updOp k f).cvys = s.cvys := rfl
@[simp] theorem State.updOp_portCnt (s : State) (k : Nat) (f : Op → Op) : (s.updOp k f).portCnt = s.portCnt := rfl
@[simp] theorem State.updOp_roomQ (s : State) (k : Nat) (f : Op → Op) : (s.updOp k f).roomQ = s.roomQ := rfl
@[simp] theorem State.updOp_sync (s : State) (k : Nat) (f : Op → Op) : (s.updOp k f).sync = s.sync := rfl
@[simp] theorem State.updOp_syncTx (s : State) (k : Nat) (f : Op → Op) : (s.updOp k f).syncTx = s.syncTx := rfl
@[simp] theorem State.updOp_syncRx (s : State) (k : Nat) (f : Op → Op) : (s.updOp k f).syncRx = s.syncRx := rfl
@[simp] theorem State.updOp_tb (s : State) (k : Nat) (f : Op → Op) : (s.updOp k f).tb = s.tb := rfl
@[simp] theorem State.updOp_fmLeft (s : State) (k : Nat) (f : Op → Op) : (s.updOp k f).fmLeft = s.fmLeft := rfl
@[simp] theorem State.updOp_bwLeft (s : State) (k : Nat) (f : Op → Op) : (s.updOp k f).bwLeft = s.bwLeft := rfl
@[simp] theorem State.updOp_bwBase (s : State) (k : Nat) (f : Op → Op) : (s.updOp k f).bwBase = s.bwBase := rfl
@[simp] theorem State.updOp_clkHold (s : State) (k : Nat) (f : Op → Op) : (s.updOp k f).clkHold = s.clkHold := rfl
@[simp] theorem State.updOp_locks (s : State) (k : Nat) (f : Op → Op) : (s.updOp k f).locks = s.locks := rfl
@[simp] theorem State.updOp_sess (s : State) (k : Nat) (f : Op → Op) : (s.updOp k f).sess = s.sess := rfl
@[simp] theorem State.updOp_ide (s : State) (k : Nat) (f : Op → Op) : (s.updOp k f).ide = s.ide := rfl
@[simp] theorem State.updOp_fmKey (s : State) (k : Nat) (f : Op → Op) : (s.updOp k f).fmKey = s.fmKey := rfl
@[simp] theorem State.updOp_mbxTag (s : State) (k : Nat) (f : Op → Op) : (s.updOp k f).mbxTag = s.mbxTag := rfl
@[simp] theorem State.updOp_mbxLeft (s : State) (k : Nat) (f : Op → Op) : (s.updOp k f).mbxLeft = s.mbxLeft := rfl
@[simp] theorem State.updOp_ledStart (s : State) (k : Nat) (f : Op → Op) : (s.updOp k f).ledStart = s.ledStart := rfl
@[simp] theorem State.updOp_ledMerged (s : State) (k : Nat) (f : Op → Op) : (s.updOp k f).ledMerged = s.ledMerged := rfl
@[simp] theorem State.updOp_ledDue (s : State) (k : Nat) (f : Op → Op) : (s.updOp k f).ledDue = s.ledDue := rfl
@[simp] theorem State.updOp_ledSeq (s : State) (k : Nat) (f : Op → Op) : (s.updOp k f).ledSeq = s.ledSeq := rfl
@[simp] theorem State.updOp_ledDoms (s : State) (k : Nat) (f : Op → Op) : (s.updOp k f).ledDoms = s.ledDoms := rfl
@[simp] theorem State.updOp_train (s : State) (k : Nat) (f : Op → Op) : (s.updOp k f).train = s.train := rfl
@[simp] theorem State.updOp_mods (s : State) (k : Nat) (f : Op → Op) : (s.updOp k f).mods = s.mods := rfl
@[simp] theorem State.updOp_cmisQ (s : State) (k : Nat) (f : Op → Op) : (s.updOp k f).cmisQ = s.cmisQ := rfl
@[simp] theorem State.updOp_cages (s : State) (k : Nat) (f : Op → Op) : (s.updOp k f).cages = s.cages := rfl
@[simp] theorem State.updOp_snap (s : State) (k : Nat) (f : Op → Op) : (s.updOp k f).snap = s.snap := rfl
@[simp] theorem State.updOp_snapSeq (s : State) (k : Nat) (f : Op → Op) : (s.updOp k f).snapSeq = s.snapSeq := rfl
@[simp] theorem State.updOp_snapSkip (s : State) (k : Nat) (f : Op → Op) : (s.updOp k f).snapSkip = s.snapSkip := rfl
@[simp] theorem State.updOp_snapOver (s : State) (k : Nat) (f : Op → Op) : (s.updOp k f).snapOver = s.snapOver := rfl
@[simp] theorem State.updOp_modeReq (s : State) (k : Nat) (f : Op → Op) : (s.updOp k f).modeReq = s.modeReq := rfl
@[simp] theorem State.updOp_commitReq (s : State) (k : Nat) (f : Op → Op) : (s.updOp k f).commitReq = s.commitReq := rfl
@[simp] theorem State.updOp_retDue (s : State) (k : Nat) (f : Op → Op) : (s.updOp k f).retDue = s.retDue := rfl
@[simp] theorem State.updOp_pdLeft (s : State) (k : Nat) (f : Op → Op) : (s.updOp k f).pdLeft = s.pdLeft := rfl
@[simp] theorem State.updOp_pdOver (s : State) (k : Nat) (f : Op → Op) : (s.updOp k f).pdOver = s.pdOver := rfl
@[simp] theorem State.updOp_hold (s : State) (k : Nat) (f : Op → Op) : (s.updOp k f).hold = s.hold := rfl
@[simp] theorem State.updOp_railBad (s : State) (k : Nat) (f : Op → Op) : (s.updOp k f).railBad = s.railBad := rfl
@[simp] theorem State.updOp_slew (s : State) (k : Nat) (f : Op → Op) : (s.updOp k f).slew = s.slew := rfl
@[simp] theorem State.updOp_stageSeen (s : State) (k : Nat) (f : Op → Op) : (s.updOp k f).stageSeen = s.stageSeen := rfl
@[simp] theorem State.updOp_overruns (s : State) (k : Nat) (f : Op → Op) : (s.updOp k f).overruns = s.overruns := rfl

/-! ### updHost -/

@[simp] theorem State.updHost_regs (s : State) (k : Nat) (f : HostPort → HostPort) : (s.updHost k f).regs = s.regs := rfl
@[simp] theorem State.updHost_spend (s : State) (k : Nat) (f : HostPort → HostPort) : (s.updHost k f).spend = s.spend := rfl
@[simp] theorem State.updHost_smask (s : State) (k : Nat) (f : HostPort → HostPort) : (s.updHost k f).smask = s.smask := rfl
@[simp] theorem State.updHost_hist (s : State) (k : Nat) (f : HostPort → HostPort) : (s.updHost k f).hist = s.hist := rfl
@[simp] theorem State.updHost_first (s : State) (k : Nat) (f : HostPort → HostPort) : (s.updHost k f).first = s.first := rfl
@[simp] theorem State.updHost_active (s : State) (k : Nat) (f : HostPort → HostPort) : (s.updHost k f).active = s.active := rfl
@[simp] theorem State.updHost_fltIrq (s : State) (k : Nat) (f : HostPort → HostPort) : (s.updHost k f).fltIrq = s.fltIrq := rfl
@[simp] theorem State.updHost_fltDefer (s : State) (k : Nat) (f : HostPort → HostPort) : (s.updHost k f).fltDefer = s.fltDefer := rfl
@[simp] theorem State.updHost_fns (s : State) (k : Nat) (f : HostPort → HostPort) : (s.updHost k f).fns = s.fns := rfl
@[simp] theorem State.updHost_ports (s : State) (k : Nat) (f : HostPort → HostPort) : (s.updHost k f).ports = s.ports.upd k f := rfl
@[simp] theorem State.updHost_runs (s : State) (k : Nat) (f : HostPort → HostPort) : (s.updHost k f).runs = s.runs := rfl
@[simp] theorem State.updHost_gens (s : State) (k : Nat) (f : HostPort → HostPort) : (s.updHost k f).gens = s.gens := rfl
@[simp] theorem State.updHost_readyCtr (s : State) (k : Nat) (f : HostPort → HostPort) : (s.updHost k f).readyCtr = s.readyCtr := rfl
@[simp] theorem State.updHost_pcache (s : State) (k : Nat) (f : HostPort → HostPort) : (s.updHost k f).pcache = s.pcache := rfl
@[simp] theorem State.updHost_fenced (s : State) (k : Nat) (f : HostPort → HostPort) : (s.updHost k f).fenced = s.fenced := rfl
@[simp] theorem State.updHost_ops (s : State) (k : Nat) (f : HostPort → HostPort) : (s.updHost k f).ops = s.ops := rfl
@[simp] theorem State.updHost_wqs (s : State) (k : Nat) (f : HostPort → HostPort) : (s.updHost k f).wqs = s.wqs := rfl
@[simp] theorem State.updHost_eqs (s : State) (k : Nat) (f : HostPort → HostPort) : (s.updHost k f).eqs = s.eqs := rfl
@[simp] theorem State.updHost_ctrs (s : State) (k : Nat) (f : HostPort → HostPort) : (s.updHost k f).ctrs = s.ctrs := rfl
@[simp] theorem State.updHost_pas (s : State) (k : Nat) (f : HostPort → HostPort) : (s.updHost k f).pas = s.pas := rfl
@[simp] theorem State.updHost_tlb (s : State) (k : Nat) (f : HostPort → HostPort) : (s.updHost k f).tlb = s.tlb := rfl
@[simp] theorem State.updHost_walks (s : State) (k : Nat) (f : HostPort → HostPort) : (s.updHost k f).walks = s.walks := rfl
@[simp] theorem State.updHost_accs (s : State) (k : Nat) (f : HostPort → HostPort) : (s.updHost k f).accs = s.accs := rfl
@[simp] theorem State.updHost_invals (s : State) (k : Nat) (f : HostPort → HostPort) : (s.updHost k f).invals = s.invals := rfl
@[simp] theorem State.updHost_nextId (s : State) (k : Nat) (f : HostPort → HostPort) : (s.updHost k f).nextId = s.nextId := rfl
@[simp] theorem State.updHost_chans (s : State) (k : Nat) (f : HostPort → HostPort) : (s.updHost k f).chans = s.chans := rfl
@[simp] theorem State.updHost_unbound (s : State) (k : Nat) (f : HostPort → HostPort) : (s.updHost k f).unbound = s.unbound := rfl
@[simp] theorem State.updHost_tolls (s : State) (k : Nat) (f : HostPort → HostPort) : (s.updHost k f).tolls = s.tolls := rfl
@[simp] theorem State.updHost_inj (s : State) (k : Nat) (f : HostPort → HostPort) : (s.updHost k f).inj = s.inj := rfl
@[simp] theorem State.updHost_samp (s : State) (k : Nat) (f : HostPort → HostPort) : (s.updHost k f).samp = s.samp := rfl
@[simp] theorem State.updHost_ptx (s : State) (k : Nat) (f : HostPort → HostPort) : (s.updHost k f).ptx = s.ptx := rfl
@[simp] theorem State.updHost_prx (s : State) (k : Nat) (f : HostPort → HostPort) : (s.updHost k f).prx = s.prx := rfl
@[simp] theorem State.updHost_peerInc (s : State) (k : Nat) (f : HostPort → HostPort) : (s.updHost k f).peerInc = s.peerInc := rfl
@[simp] theorem State.updHost_kcache (s : State) (k : Nat) (f : HostPort → HostPort) : (s.updHost k f).kcache = s.kcache := rfl
@[simp] theorem State.updHost_kuse (s : State) (k : Nat) (f : HostPort → HostPort) : (s.updHost k f).kuse = s.kuse := rfl
@[simp] theorem State.updHost_kwait (s : State) (k : Nat) (f : HostPort → HostPort) : (s.updHost k f).kwait = s.kwait := rfl
@[simp] theorem State.updHost_lines (s : State) (k : Nat) (f : HostPort → HostPort) : (s.updHost k f).lines = s.lines := rfl
@[simp] theorem State.updHost_amoRes (s : State) (k : Nat) (f : HostPort → HostPort) : (s.updHost k f).amoRes = s.amoRes := rfl
@[simp] theorem State.updHost_mctx (s : State) (k : Nat) (f : HostPort → HostPort) : (s.updHost k f).mctx = s.mctx := rfl
@[simp] theorem State.updHost_msgs (s : State) (k : Nat) (f : HostPort → HostPort) : (s.updHost k f).msgs = s.msgs := rfl
@[simp] theorem State.updHost_preds (s : State) (k : Nat) (f : HostPort → HostPort) : (s.updHost k f).preds = s.preds := rfl
@[simp] theorem State.updHost_secret (s : State) (k : Nat) (f : HostPort → HostPort) : (s.updHost k f).secret = s.secret := rfl
@[simp] theorem State.updHost_freeCtr (s : State) (k : Nat) (f : HostPort → HostPort) : (s.updHost k f).freeCtr = s.freeCtr := rfl
@[simp] theorem State.updHost_outs (s : State) (k : Nat) (f : HostPort → HostPort) : (s.updHost k f).outs = s.outs := rfl
@[simp] theorem State.updHost_work (s : State) (k : Nat) (f : HostPort → HostPort) : (s.updHost k f).work = s.work := rfl
@[simp] theorem State.updHost_pending (s : State) (k : Nat) (f : HostPort → HostPort) : (s.updHost k f).pending = s.pending := rfl
@[simp] theorem State.updHost_eps (s : State) (k : Nat) (f : HostPort → HostPort) : (s.updHost k f).eps = s.eps := rfl
@[simp] theorem State.updHost_routes (s : State) (k : Nat) (f : HostPort → HostPort) : (s.updHost k f).routes = s.routes := rfl
@[simp] theorem State.updHost_doms (s : State) (k : Nat) (f : HostPort → HostPort) : (s.updHost k f).doms = s.doms := rfl
@[simp] theorem State.updHost_resps (s : State) (k : Nat) (f : HostPort → HostPort) : (s.updHost k f).resps = s.resps := rfl
@[simp] theorem State.updHost_rin (s : State) (k : Nat) (f : HostPort → HostPort) : (s.updHost k f).rin = s.rin := rfl
@[simp] theorem State.updHost_quiet (s : State) (k : Nat) (f : HostPort → HostPort) : (s.updHost k f).quiet = s.quiet := rfl
@[simp] theorem State.updHost_quietLeft (s : State) (k : Nat) (f : HostPort → HostPort) : (s.updHost k f).quietLeft = s.quietLeft := rfl
@[simp] theorem State.updHost_firstBnd (s : State) (k : Nat) (f : HostPort → HostPort) : (s.updHost k f).firstBnd = s.firstBnd := rfl
@[simp] theorem State.updHost_ctlSent (s : State) (k : Nat) (f : HostPort → HostPort) : (s.updHost k f).ctlSent = s.ctlSent := rfl
@[simp] theorem State.updHost_ctlWait (s : State) (k : Nat) (f : HostPort → HostPort) : (s.updHost k f).ctlWait = s.ctlWait := rfl
@[simp] theorem State.updHost_fports (s : State) (k : Nat) (f : HostPort → HostPort) : (s.updHost k f).fports = s.fports := rfl
@[simp] theorem State.updHost_vlfsr (s : State) (k : Nat) (f : HostPort → HostPort) : (s.updHost k f).vlfsr = s.vlfsr := rfl
@[simp] theorem State.updHost_bankCopy (s : State) (k : Nat) (f : HostPort → HostPort) : (s.updHost k f).bankCopy = s.bankCopy := rfl
@[simp] theorem State.updHost_copyQ (s : State) (k : Nat) (f : HostPort → HostPort) : (s.updHost k f).copyQ = s.copyQ := rfl
@[simp] theorem State.updHost_grps (s : State) (k : Nat) (f : HostPort → HostPort) : (s.updHost k f).grps = s.grps := rfl
@[simp] theorem State.updHost_cvys (s : State) (k : Nat) (f : HostPort → HostPort) : (s.updHost k f).cvys = s.cvys := rfl
@[simp] theorem State.updHost_portCnt (s : State) (k : Nat) (f : HostPort → HostPort) : (s.updHost k f).portCnt = s.portCnt := rfl
@[simp] theorem State.updHost_roomQ (s : State) (k : Nat) (f : HostPort → HostPort) : (s.updHost k f).roomQ = s.roomQ := rfl
@[simp] theorem State.updHost_sync (s : State) (k : Nat) (f : HostPort → HostPort) : (s.updHost k f).sync = s.sync := rfl
@[simp] theorem State.updHost_syncTx (s : State) (k : Nat) (f : HostPort → HostPort) : (s.updHost k f).syncTx = s.syncTx := rfl
@[simp] theorem State.updHost_syncRx (s : State) (k : Nat) (f : HostPort → HostPort) : (s.updHost k f).syncRx = s.syncRx := rfl
@[simp] theorem State.updHost_tb (s : State) (k : Nat) (f : HostPort → HostPort) : (s.updHost k f).tb = s.tb := rfl
@[simp] theorem State.updHost_fmLeft (s : State) (k : Nat) (f : HostPort → HostPort) : (s.updHost k f).fmLeft = s.fmLeft := rfl
@[simp] theorem State.updHost_bwLeft (s : State) (k : Nat) (f : HostPort → HostPort) : (s.updHost k f).bwLeft = s.bwLeft := rfl
@[simp] theorem State.updHost_bwBase (s : State) (k : Nat) (f : HostPort → HostPort) : (s.updHost k f).bwBase = s.bwBase := rfl
@[simp] theorem State.updHost_clkHold (s : State) (k : Nat) (f : HostPort → HostPort) : (s.updHost k f).clkHold = s.clkHold := rfl
@[simp] theorem State.updHost_locks (s : State) (k : Nat) (f : HostPort → HostPort) : (s.updHost k f).locks = s.locks := rfl
@[simp] theorem State.updHost_sess (s : State) (k : Nat) (f : HostPort → HostPort) : (s.updHost k f).sess = s.sess := rfl
@[simp] theorem State.updHost_ide (s : State) (k : Nat) (f : HostPort → HostPort) : (s.updHost k f).ide = s.ide := rfl
@[simp] theorem State.updHost_fmKey (s : State) (k : Nat) (f : HostPort → HostPort) : (s.updHost k f).fmKey = s.fmKey := rfl
@[simp] theorem State.updHost_mbxTag (s : State) (k : Nat) (f : HostPort → HostPort) : (s.updHost k f).mbxTag = s.mbxTag := rfl
@[simp] theorem State.updHost_mbxLeft (s : State) (k : Nat) (f : HostPort → HostPort) : (s.updHost k f).mbxLeft = s.mbxLeft := rfl
@[simp] theorem State.updHost_ledStart (s : State) (k : Nat) (f : HostPort → HostPort) : (s.updHost k f).ledStart = s.ledStart := rfl
@[simp] theorem State.updHost_ledMerged (s : State) (k : Nat) (f : HostPort → HostPort) : (s.updHost k f).ledMerged = s.ledMerged := rfl
@[simp] theorem State.updHost_ledDue (s : State) (k : Nat) (f : HostPort → HostPort) : (s.updHost k f).ledDue = s.ledDue := rfl
@[simp] theorem State.updHost_ledSeq (s : State) (k : Nat) (f : HostPort → HostPort) : (s.updHost k f).ledSeq = s.ledSeq := rfl
@[simp] theorem State.updHost_ledDoms (s : State) (k : Nat) (f : HostPort → HostPort) : (s.updHost k f).ledDoms = s.ledDoms := rfl
@[simp] theorem State.updHost_train (s : State) (k : Nat) (f : HostPort → HostPort) : (s.updHost k f).train = s.train := rfl
@[simp] theorem State.updHost_mods (s : State) (k : Nat) (f : HostPort → HostPort) : (s.updHost k f).mods = s.mods := rfl
@[simp] theorem State.updHost_cmisQ (s : State) (k : Nat) (f : HostPort → HostPort) : (s.updHost k f).cmisQ = s.cmisQ := rfl
@[simp] theorem State.updHost_cages (s : State) (k : Nat) (f : HostPort → HostPort) : (s.updHost k f).cages = s.cages := rfl
@[simp] theorem State.updHost_snap (s : State) (k : Nat) (f : HostPort → HostPort) : (s.updHost k f).snap = s.snap := rfl
@[simp] theorem State.updHost_snapSeq (s : State) (k : Nat) (f : HostPort → HostPort) : (s.updHost k f).snapSeq = s.snapSeq := rfl
@[simp] theorem State.updHost_snapSkip (s : State) (k : Nat) (f : HostPort → HostPort) : (s.updHost k f).snapSkip = s.snapSkip := rfl
@[simp] theorem State.updHost_snapOver (s : State) (k : Nat) (f : HostPort → HostPort) : (s.updHost k f).snapOver = s.snapOver := rfl
@[simp] theorem State.updHost_modeReq (s : State) (k : Nat) (f : HostPort → HostPort) : (s.updHost k f).modeReq = s.modeReq := rfl
@[simp] theorem State.updHost_commitReq (s : State) (k : Nat) (f : HostPort → HostPort) : (s.updHost k f).commitReq = s.commitReq := rfl
@[simp] theorem State.updHost_retDue (s : State) (k : Nat) (f : HostPort → HostPort) : (s.updHost k f).retDue = s.retDue := rfl
@[simp] theorem State.updHost_pdLeft (s : State) (k : Nat) (f : HostPort → HostPort) : (s.updHost k f).pdLeft = s.pdLeft := rfl
@[simp] theorem State.updHost_pdOver (s : State) (k : Nat) (f : HostPort → HostPort) : (s.updHost k f).pdOver = s.pdOver := rfl
@[simp] theorem State.updHost_hold (s : State) (k : Nat) (f : HostPort → HostPort) : (s.updHost k f).hold = s.hold := rfl
@[simp] theorem State.updHost_railBad (s : State) (k : Nat) (f : HostPort → HostPort) : (s.updHost k f).railBad = s.railBad := rfl
@[simp] theorem State.updHost_slew (s : State) (k : Nat) (f : HostPort → HostPort) : (s.updHost k f).slew = s.slew := rfl
@[simp] theorem State.updHost_stageSeen (s : State) (k : Nat) (f : HostPort → HostPort) : (s.updHost k f).stageSeen = s.stageSeen := rfl
@[simp] theorem State.updHost_overruns (s : State) (k : Nat) (f : HostPort → HostPort) : (s.updHost k f).overruns = s.overruns := rfl

/-! ### updFn -/

@[simp] theorem State.updFn_regs (s : State) (p k : Nat) (f : HostFn → HostFn) : (s.updFn p k f).regs = s.regs := rfl
@[simp] theorem State.updFn_spend (s : State) (p k : Nat) (f : HostFn → HostFn) : (s.updFn p k f).spend = s.spend := rfl
@[simp] theorem State.updFn_smask (s : State) (p k : Nat) (f : HostFn → HostFn) : (s.updFn p k f).smask = s.smask := rfl
@[simp] theorem State.updFn_hist (s : State) (p k : Nat) (f : HostFn → HostFn) : (s.updFn p k f).hist = s.hist := rfl
@[simp] theorem State.updFn_first (s : State) (p k : Nat) (f : HostFn → HostFn) : (s.updFn p k f).first = s.first := rfl
@[simp] theorem State.updFn_active (s : State) (p k : Nat) (f : HostFn → HostFn) : (s.updFn p k f).active = s.active := rfl
@[simp] theorem State.updFn_fltIrq (s : State) (p k : Nat) (f : HostFn → HostFn) : (s.updFn p k f).fltIrq = s.fltIrq := rfl
@[simp] theorem State.updFn_fltDefer (s : State) (p k : Nat) (f : HostFn → HostFn) : (s.updFn p k f).fltDefer = s.fltDefer := rfl
@[simp] theorem State.updFn_fns (s : State) (p k : Nat) (f : HostFn → HostFn) : (s.updFn p k f).fns = s.fns.upd (fnKey p k) f := rfl
@[simp] theorem State.updFn_ports (s : State) (p k : Nat) (f : HostFn → HostFn) : (s.updFn p k f).ports = s.ports := rfl
@[simp] theorem State.updFn_runs (s : State) (p k : Nat) (f : HostFn → HostFn) : (s.updFn p k f).runs = s.runs := rfl
@[simp] theorem State.updFn_gens (s : State) (p k : Nat) (f : HostFn → HostFn) : (s.updFn p k f).gens = s.gens := rfl
@[simp] theorem State.updFn_readyCtr (s : State) (p k : Nat) (f : HostFn → HostFn) : (s.updFn p k f).readyCtr = s.readyCtr := rfl
@[simp] theorem State.updFn_pcache (s : State) (p k : Nat) (f : HostFn → HostFn) : (s.updFn p k f).pcache = s.pcache := rfl
@[simp] theorem State.updFn_fenced (s : State) (p k : Nat) (f : HostFn → HostFn) : (s.updFn p k f).fenced = s.fenced := rfl
@[simp] theorem State.updFn_ops (s : State) (p k : Nat) (f : HostFn → HostFn) : (s.updFn p k f).ops = s.ops := rfl
@[simp] theorem State.updFn_wqs (s : State) (p k : Nat) (f : HostFn → HostFn) : (s.updFn p k f).wqs = s.wqs := rfl
@[simp] theorem State.updFn_eqs (s : State) (p k : Nat) (f : HostFn → HostFn) : (s.updFn p k f).eqs = s.eqs := rfl
@[simp] theorem State.updFn_ctrs (s : State) (p k : Nat) (f : HostFn → HostFn) : (s.updFn p k f).ctrs = s.ctrs := rfl
@[simp] theorem State.updFn_pas (s : State) (p k : Nat) (f : HostFn → HostFn) : (s.updFn p k f).pas = s.pas := rfl
@[simp] theorem State.updFn_tlb (s : State) (p k : Nat) (f : HostFn → HostFn) : (s.updFn p k f).tlb = s.tlb := rfl
@[simp] theorem State.updFn_walks (s : State) (p k : Nat) (f : HostFn → HostFn) : (s.updFn p k f).walks = s.walks := rfl
@[simp] theorem State.updFn_accs (s : State) (p k : Nat) (f : HostFn → HostFn) : (s.updFn p k f).accs = s.accs := rfl
@[simp] theorem State.updFn_invals (s : State) (p k : Nat) (f : HostFn → HostFn) : (s.updFn p k f).invals = s.invals := rfl
@[simp] theorem State.updFn_nextId (s : State) (p k : Nat) (f : HostFn → HostFn) : (s.updFn p k f).nextId = s.nextId := rfl
@[simp] theorem State.updFn_chans (s : State) (p k : Nat) (f : HostFn → HostFn) : (s.updFn p k f).chans = s.chans := rfl
@[simp] theorem State.updFn_unbound (s : State) (p k : Nat) (f : HostFn → HostFn) : (s.updFn p k f).unbound = s.unbound := rfl
@[simp] theorem State.updFn_tolls (s : State) (p k : Nat) (f : HostFn → HostFn) : (s.updFn p k f).tolls = s.tolls := rfl
@[simp] theorem State.updFn_inj (s : State) (p k : Nat) (f : HostFn → HostFn) : (s.updFn p k f).inj = s.inj := rfl
@[simp] theorem State.updFn_samp (s : State) (p k : Nat) (f : HostFn → HostFn) : (s.updFn p k f).samp = s.samp := rfl
@[simp] theorem State.updFn_ptx (s : State) (p k : Nat) (f : HostFn → HostFn) : (s.updFn p k f).ptx = s.ptx := rfl
@[simp] theorem State.updFn_prx (s : State) (p k : Nat) (f : HostFn → HostFn) : (s.updFn p k f).prx = s.prx := rfl
@[simp] theorem State.updFn_peerInc (s : State) (p k : Nat) (f : HostFn → HostFn) : (s.updFn p k f).peerInc = s.peerInc := rfl
@[simp] theorem State.updFn_kcache (s : State) (p k : Nat) (f : HostFn → HostFn) : (s.updFn p k f).kcache = s.kcache := rfl
@[simp] theorem State.updFn_kuse (s : State) (p k : Nat) (f : HostFn → HostFn) : (s.updFn p k f).kuse = s.kuse := rfl
@[simp] theorem State.updFn_kwait (s : State) (p k : Nat) (f : HostFn → HostFn) : (s.updFn p k f).kwait = s.kwait := rfl
@[simp] theorem State.updFn_lines (s : State) (p k : Nat) (f : HostFn → HostFn) : (s.updFn p k f).lines = s.lines := rfl
@[simp] theorem State.updFn_amoRes (s : State) (p k : Nat) (f : HostFn → HostFn) : (s.updFn p k f).amoRes = s.amoRes := rfl
@[simp] theorem State.updFn_mctx (s : State) (p k : Nat) (f : HostFn → HostFn) : (s.updFn p k f).mctx = s.mctx := rfl
@[simp] theorem State.updFn_msgs (s : State) (p k : Nat) (f : HostFn → HostFn) : (s.updFn p k f).msgs = s.msgs := rfl
@[simp] theorem State.updFn_preds (s : State) (p k : Nat) (f : HostFn → HostFn) : (s.updFn p k f).preds = s.preds := rfl
@[simp] theorem State.updFn_secret (s : State) (p k : Nat) (f : HostFn → HostFn) : (s.updFn p k f).secret = s.secret := rfl
@[simp] theorem State.updFn_freeCtr (s : State) (p k : Nat) (f : HostFn → HostFn) : (s.updFn p k f).freeCtr = s.freeCtr := rfl
@[simp] theorem State.updFn_outs (s : State) (p k : Nat) (f : HostFn → HostFn) : (s.updFn p k f).outs = s.outs := rfl
@[simp] theorem State.updFn_work (s : State) (p k : Nat) (f : HostFn → HostFn) : (s.updFn p k f).work = s.work := rfl
@[simp] theorem State.updFn_pending (s : State) (p k : Nat) (f : HostFn → HostFn) : (s.updFn p k f).pending = s.pending := rfl
@[simp] theorem State.updFn_eps (s : State) (p k : Nat) (f : HostFn → HostFn) : (s.updFn p k f).eps = s.eps := rfl
@[simp] theorem State.updFn_routes (s : State) (p k : Nat) (f : HostFn → HostFn) : (s.updFn p k f).routes = s.routes := rfl
@[simp] theorem State.updFn_doms (s : State) (p k : Nat) (f : HostFn → HostFn) : (s.updFn p k f).doms = s.doms := rfl
@[simp] theorem State.updFn_resps (s : State) (p k : Nat) (f : HostFn → HostFn) : (s.updFn p k f).resps = s.resps := rfl
@[simp] theorem State.updFn_rin (s : State) (p k : Nat) (f : HostFn → HostFn) : (s.updFn p k f).rin = s.rin := rfl
@[simp] theorem State.updFn_quiet (s : State) (p k : Nat) (f : HostFn → HostFn) : (s.updFn p k f).quiet = s.quiet := rfl
@[simp] theorem State.updFn_quietLeft (s : State) (p k : Nat) (f : HostFn → HostFn) : (s.updFn p k f).quietLeft = s.quietLeft := rfl
@[simp] theorem State.updFn_firstBnd (s : State) (p k : Nat) (f : HostFn → HostFn) : (s.updFn p k f).firstBnd = s.firstBnd := rfl
@[simp] theorem State.updFn_ctlSent (s : State) (p k : Nat) (f : HostFn → HostFn) : (s.updFn p k f).ctlSent = s.ctlSent := rfl
@[simp] theorem State.updFn_ctlWait (s : State) (p k : Nat) (f : HostFn → HostFn) : (s.updFn p k f).ctlWait = s.ctlWait := rfl
@[simp] theorem State.updFn_fports (s : State) (p k : Nat) (f : HostFn → HostFn) : (s.updFn p k f).fports = s.fports := rfl
@[simp] theorem State.updFn_vlfsr (s : State) (p k : Nat) (f : HostFn → HostFn) : (s.updFn p k f).vlfsr = s.vlfsr := rfl
@[simp] theorem State.updFn_bankCopy (s : State) (p k : Nat) (f : HostFn → HostFn) : (s.updFn p k f).bankCopy = s.bankCopy := rfl
@[simp] theorem State.updFn_copyQ (s : State) (p k : Nat) (f : HostFn → HostFn) : (s.updFn p k f).copyQ = s.copyQ := rfl
@[simp] theorem State.updFn_grps (s : State) (p k : Nat) (f : HostFn → HostFn) : (s.updFn p k f).grps = s.grps := rfl
@[simp] theorem State.updFn_cvys (s : State) (p k : Nat) (f : HostFn → HostFn) : (s.updFn p k f).cvys = s.cvys := rfl
@[simp] theorem State.updFn_portCnt (s : State) (p k : Nat) (f : HostFn → HostFn) : (s.updFn p k f).portCnt = s.portCnt := rfl
@[simp] theorem State.updFn_roomQ (s : State) (p k : Nat) (f : HostFn → HostFn) : (s.updFn p k f).roomQ = s.roomQ := rfl
@[simp] theorem State.updFn_sync (s : State) (p k : Nat) (f : HostFn → HostFn) : (s.updFn p k f).sync = s.sync := rfl
@[simp] theorem State.updFn_syncTx (s : State) (p k : Nat) (f : HostFn → HostFn) : (s.updFn p k f).syncTx = s.syncTx := rfl
@[simp] theorem State.updFn_syncRx (s : State) (p k : Nat) (f : HostFn → HostFn) : (s.updFn p k f).syncRx = s.syncRx := rfl
@[simp] theorem State.updFn_tb (s : State) (p k : Nat) (f : HostFn → HostFn) : (s.updFn p k f).tb = s.tb := rfl
@[simp] theorem State.updFn_fmLeft (s : State) (p k : Nat) (f : HostFn → HostFn) : (s.updFn p k f).fmLeft = s.fmLeft := rfl
@[simp] theorem State.updFn_bwLeft (s : State) (p k : Nat) (f : HostFn → HostFn) : (s.updFn p k f).bwLeft = s.bwLeft := rfl
@[simp] theorem State.updFn_bwBase (s : State) (p k : Nat) (f : HostFn → HostFn) : (s.updFn p k f).bwBase = s.bwBase := rfl
@[simp] theorem State.updFn_clkHold (s : State) (p k : Nat) (f : HostFn → HostFn) : (s.updFn p k f).clkHold = s.clkHold := rfl
@[simp] theorem State.updFn_locks (s : State) (p k : Nat) (f : HostFn → HostFn) : (s.updFn p k f).locks = s.locks := rfl
@[simp] theorem State.updFn_sess (s : State) (p k : Nat) (f : HostFn → HostFn) : (s.updFn p k f).sess = s.sess := rfl
@[simp] theorem State.updFn_ide (s : State) (p k : Nat) (f : HostFn → HostFn) : (s.updFn p k f).ide = s.ide := rfl
@[simp] theorem State.updFn_fmKey (s : State) (p k : Nat) (f : HostFn → HostFn) : (s.updFn p k f).fmKey = s.fmKey := rfl
@[simp] theorem State.updFn_mbxTag (s : State) (p k : Nat) (f : HostFn → HostFn) : (s.updFn p k f).mbxTag = s.mbxTag := rfl
@[simp] theorem State.updFn_mbxLeft (s : State) (p k : Nat) (f : HostFn → HostFn) : (s.updFn p k f).mbxLeft = s.mbxLeft := rfl
@[simp] theorem State.updFn_ledStart (s : State) (p k : Nat) (f : HostFn → HostFn) : (s.updFn p k f).ledStart = s.ledStart := rfl
@[simp] theorem State.updFn_ledMerged (s : State) (p k : Nat) (f : HostFn → HostFn) : (s.updFn p k f).ledMerged = s.ledMerged := rfl
@[simp] theorem State.updFn_ledDue (s : State) (p k : Nat) (f : HostFn → HostFn) : (s.updFn p k f).ledDue = s.ledDue := rfl
@[simp] theorem State.updFn_ledSeq (s : State) (p k : Nat) (f : HostFn → HostFn) : (s.updFn p k f).ledSeq = s.ledSeq := rfl
@[simp] theorem State.updFn_ledDoms (s : State) (p k : Nat) (f : HostFn → HostFn) : (s.updFn p k f).ledDoms = s.ledDoms := rfl
@[simp] theorem State.updFn_train (s : State) (p k : Nat) (f : HostFn → HostFn) : (s.updFn p k f).train = s.train := rfl
@[simp] theorem State.updFn_mods (s : State) (p k : Nat) (f : HostFn → HostFn) : (s.updFn p k f).mods = s.mods := rfl
@[simp] theorem State.updFn_cmisQ (s : State) (p k : Nat) (f : HostFn → HostFn) : (s.updFn p k f).cmisQ = s.cmisQ := rfl
@[simp] theorem State.updFn_cages (s : State) (p k : Nat) (f : HostFn → HostFn) : (s.updFn p k f).cages = s.cages := rfl
@[simp] theorem State.updFn_snap (s : State) (p k : Nat) (f : HostFn → HostFn) : (s.updFn p k f).snap = s.snap := rfl
@[simp] theorem State.updFn_snapSeq (s : State) (p k : Nat) (f : HostFn → HostFn) : (s.updFn p k f).snapSeq = s.snapSeq := rfl
@[simp] theorem State.updFn_snapSkip (s : State) (p k : Nat) (f : HostFn → HostFn) : (s.updFn p k f).snapSkip = s.snapSkip := rfl
@[simp] theorem State.updFn_snapOver (s : State) (p k : Nat) (f : HostFn → HostFn) : (s.updFn p k f).snapOver = s.snapOver := rfl
@[simp] theorem State.updFn_modeReq (s : State) (p k : Nat) (f : HostFn → HostFn) : (s.updFn p k f).modeReq = s.modeReq := rfl
@[simp] theorem State.updFn_commitReq (s : State) (p k : Nat) (f : HostFn → HostFn) : (s.updFn p k f).commitReq = s.commitReq := rfl
@[simp] theorem State.updFn_retDue (s : State) (p k : Nat) (f : HostFn → HostFn) : (s.updFn p k f).retDue = s.retDue := rfl
@[simp] theorem State.updFn_pdLeft (s : State) (p k : Nat) (f : HostFn → HostFn) : (s.updFn p k f).pdLeft = s.pdLeft := rfl
@[simp] theorem State.updFn_pdOver (s : State) (p k : Nat) (f : HostFn → HostFn) : (s.updFn p k f).pdOver = s.pdOver := rfl
@[simp] theorem State.updFn_hold (s : State) (p k : Nat) (f : HostFn → HostFn) : (s.updFn p k f).hold = s.hold := rfl
@[simp] theorem State.updFn_railBad (s : State) (p k : Nat) (f : HostFn → HostFn) : (s.updFn p k f).railBad = s.railBad := rfl
@[simp] theorem State.updFn_slew (s : State) (p k : Nat) (f : HostFn → HostFn) : (s.updFn p k f).slew = s.slew := rfl
@[simp] theorem State.updFn_stageSeen (s : State) (p k : Nat) (f : HostFn → HostFn) : (s.updFn p k f).stageSeen = s.stageSeen := rfl
@[simp] theorem State.updFn_overruns (s : State) (p k : Nat) (f : HostFn → HostFn) : (s.updFn p k f).overruns = s.overruns := rfl

/-! ### updCtx -/

@[simp] theorem State.updCtx_regs (s : State) (k : Nat) (f : Mctx → Mctx) : (s.updCtx k f).regs = s.regs := rfl
@[simp] theorem State.updCtx_spend (s : State) (k : Nat) (f : Mctx → Mctx) : (s.updCtx k f).spend = s.spend := rfl
@[simp] theorem State.updCtx_smask (s : State) (k : Nat) (f : Mctx → Mctx) : (s.updCtx k f).smask = s.smask := rfl
@[simp] theorem State.updCtx_hist (s : State) (k : Nat) (f : Mctx → Mctx) : (s.updCtx k f).hist = s.hist := rfl
@[simp] theorem State.updCtx_first (s : State) (k : Nat) (f : Mctx → Mctx) : (s.updCtx k f).first = s.first := rfl
@[simp] theorem State.updCtx_active (s : State) (k : Nat) (f : Mctx → Mctx) : (s.updCtx k f).active = s.active := rfl
@[simp] theorem State.updCtx_fltIrq (s : State) (k : Nat) (f : Mctx → Mctx) : (s.updCtx k f).fltIrq = s.fltIrq := rfl
@[simp] theorem State.updCtx_fltDefer (s : State) (k : Nat) (f : Mctx → Mctx) : (s.updCtx k f).fltDefer = s.fltDefer := rfl
@[simp] theorem State.updCtx_fns (s : State) (k : Nat) (f : Mctx → Mctx) : (s.updCtx k f).fns = s.fns := rfl
@[simp] theorem State.updCtx_ports (s : State) (k : Nat) (f : Mctx → Mctx) : (s.updCtx k f).ports = s.ports := rfl
@[simp] theorem State.updCtx_runs (s : State) (k : Nat) (f : Mctx → Mctx) : (s.updCtx k f).runs = s.runs := rfl
@[simp] theorem State.updCtx_gens (s : State) (k : Nat) (f : Mctx → Mctx) : (s.updCtx k f).gens = s.gens := rfl
@[simp] theorem State.updCtx_readyCtr (s : State) (k : Nat) (f : Mctx → Mctx) : (s.updCtx k f).readyCtr = s.readyCtr := rfl
@[simp] theorem State.updCtx_pcache (s : State) (k : Nat) (f : Mctx → Mctx) : (s.updCtx k f).pcache = s.pcache := rfl
@[simp] theorem State.updCtx_fenced (s : State) (k : Nat) (f : Mctx → Mctx) : (s.updCtx k f).fenced = s.fenced := rfl
@[simp] theorem State.updCtx_ops (s : State) (k : Nat) (f : Mctx → Mctx) : (s.updCtx k f).ops = s.ops := rfl
@[simp] theorem State.updCtx_wqs (s : State) (k : Nat) (f : Mctx → Mctx) : (s.updCtx k f).wqs = s.wqs := rfl
@[simp] theorem State.updCtx_eqs (s : State) (k : Nat) (f : Mctx → Mctx) : (s.updCtx k f).eqs = s.eqs := rfl
@[simp] theorem State.updCtx_ctrs (s : State) (k : Nat) (f : Mctx → Mctx) : (s.updCtx k f).ctrs = s.ctrs := rfl
@[simp] theorem State.updCtx_pas (s : State) (k : Nat) (f : Mctx → Mctx) : (s.updCtx k f).pas = s.pas := rfl
@[simp] theorem State.updCtx_tlb (s : State) (k : Nat) (f : Mctx → Mctx) : (s.updCtx k f).tlb = s.tlb := rfl
@[simp] theorem State.updCtx_walks (s : State) (k : Nat) (f : Mctx → Mctx) : (s.updCtx k f).walks = s.walks := rfl
@[simp] theorem State.updCtx_accs (s : State) (k : Nat) (f : Mctx → Mctx) : (s.updCtx k f).accs = s.accs := rfl
@[simp] theorem State.updCtx_invals (s : State) (k : Nat) (f : Mctx → Mctx) : (s.updCtx k f).invals = s.invals := rfl
@[simp] theorem State.updCtx_nextId (s : State) (k : Nat) (f : Mctx → Mctx) : (s.updCtx k f).nextId = s.nextId := rfl
@[simp] theorem State.updCtx_chans (s : State) (k : Nat) (f : Mctx → Mctx) : (s.updCtx k f).chans = s.chans := rfl
@[simp] theorem State.updCtx_unbound (s : State) (k : Nat) (f : Mctx → Mctx) : (s.updCtx k f).unbound = s.unbound := rfl
@[simp] theorem State.updCtx_tolls (s : State) (k : Nat) (f : Mctx → Mctx) : (s.updCtx k f).tolls = s.tolls := rfl
@[simp] theorem State.updCtx_inj (s : State) (k : Nat) (f : Mctx → Mctx) : (s.updCtx k f).inj = s.inj := rfl
@[simp] theorem State.updCtx_samp (s : State) (k : Nat) (f : Mctx → Mctx) : (s.updCtx k f).samp = s.samp := rfl
@[simp] theorem State.updCtx_ptx (s : State) (k : Nat) (f : Mctx → Mctx) : (s.updCtx k f).ptx = s.ptx := rfl
@[simp] theorem State.updCtx_prx (s : State) (k : Nat) (f : Mctx → Mctx) : (s.updCtx k f).prx = s.prx := rfl
@[simp] theorem State.updCtx_peerInc (s : State) (k : Nat) (f : Mctx → Mctx) : (s.updCtx k f).peerInc = s.peerInc := rfl
@[simp] theorem State.updCtx_kcache (s : State) (k : Nat) (f : Mctx → Mctx) : (s.updCtx k f).kcache = s.kcache := rfl
@[simp] theorem State.updCtx_kuse (s : State) (k : Nat) (f : Mctx → Mctx) : (s.updCtx k f).kuse = s.kuse := rfl
@[simp] theorem State.updCtx_kwait (s : State) (k : Nat) (f : Mctx → Mctx) : (s.updCtx k f).kwait = s.kwait := rfl
@[simp] theorem State.updCtx_lines (s : State) (k : Nat) (f : Mctx → Mctx) : (s.updCtx k f).lines = s.lines := rfl
@[simp] theorem State.updCtx_amoRes (s : State) (k : Nat) (f : Mctx → Mctx) : (s.updCtx k f).amoRes = s.amoRes := rfl
@[simp] theorem State.updCtx_mctx (s : State) (k : Nat) (f : Mctx → Mctx) : (s.updCtx k f).mctx = s.mctx.upd k f := rfl
@[simp] theorem State.updCtx_msgs (s : State) (k : Nat) (f : Mctx → Mctx) : (s.updCtx k f).msgs = s.msgs := rfl
@[simp] theorem State.updCtx_preds (s : State) (k : Nat) (f : Mctx → Mctx) : (s.updCtx k f).preds = s.preds := rfl
@[simp] theorem State.updCtx_secret (s : State) (k : Nat) (f : Mctx → Mctx) : (s.updCtx k f).secret = s.secret := rfl
@[simp] theorem State.updCtx_freeCtr (s : State) (k : Nat) (f : Mctx → Mctx) : (s.updCtx k f).freeCtr = s.freeCtr := rfl
@[simp] theorem State.updCtx_outs (s : State) (k : Nat) (f : Mctx → Mctx) : (s.updCtx k f).outs = s.outs := rfl
@[simp] theorem State.updCtx_work (s : State) (k : Nat) (f : Mctx → Mctx) : (s.updCtx k f).work = s.work := rfl
@[simp] theorem State.updCtx_pending (s : State) (k : Nat) (f : Mctx → Mctx) : (s.updCtx k f).pending = s.pending := rfl
@[simp] theorem State.updCtx_eps (s : State) (k : Nat) (f : Mctx → Mctx) : (s.updCtx k f).eps = s.eps := rfl
@[simp] theorem State.updCtx_routes (s : State) (k : Nat) (f : Mctx → Mctx) : (s.updCtx k f).routes = s.routes := rfl
@[simp] theorem State.updCtx_doms (s : State) (k : Nat) (f : Mctx → Mctx) : (s.updCtx k f).doms = s.doms := rfl
@[simp] theorem State.updCtx_resps (s : State) (k : Nat) (f : Mctx → Mctx) : (s.updCtx k f).resps = s.resps := rfl
@[simp] theorem State.updCtx_rin (s : State) (k : Nat) (f : Mctx → Mctx) : (s.updCtx k f).rin = s.rin := rfl
@[simp] theorem State.updCtx_quiet (s : State) (k : Nat) (f : Mctx → Mctx) : (s.updCtx k f).quiet = s.quiet := rfl
@[simp] theorem State.updCtx_quietLeft (s : State) (k : Nat) (f : Mctx → Mctx) : (s.updCtx k f).quietLeft = s.quietLeft := rfl
@[simp] theorem State.updCtx_firstBnd (s : State) (k : Nat) (f : Mctx → Mctx) : (s.updCtx k f).firstBnd = s.firstBnd := rfl
@[simp] theorem State.updCtx_ctlSent (s : State) (k : Nat) (f : Mctx → Mctx) : (s.updCtx k f).ctlSent = s.ctlSent := rfl
@[simp] theorem State.updCtx_ctlWait (s : State) (k : Nat) (f : Mctx → Mctx) : (s.updCtx k f).ctlWait = s.ctlWait := rfl
@[simp] theorem State.updCtx_fports (s : State) (k : Nat) (f : Mctx → Mctx) : (s.updCtx k f).fports = s.fports := rfl
@[simp] theorem State.updCtx_vlfsr (s : State) (k : Nat) (f : Mctx → Mctx) : (s.updCtx k f).vlfsr = s.vlfsr := rfl
@[simp] theorem State.updCtx_bankCopy (s : State) (k : Nat) (f : Mctx → Mctx) : (s.updCtx k f).bankCopy = s.bankCopy := rfl
@[simp] theorem State.updCtx_copyQ (s : State) (k : Nat) (f : Mctx → Mctx) : (s.updCtx k f).copyQ = s.copyQ := rfl
@[simp] theorem State.updCtx_grps (s : State) (k : Nat) (f : Mctx → Mctx) : (s.updCtx k f).grps = s.grps := rfl
@[simp] theorem State.updCtx_cvys (s : State) (k : Nat) (f : Mctx → Mctx) : (s.updCtx k f).cvys = s.cvys := rfl
@[simp] theorem State.updCtx_portCnt (s : State) (k : Nat) (f : Mctx → Mctx) : (s.updCtx k f).portCnt = s.portCnt := rfl
@[simp] theorem State.updCtx_roomQ (s : State) (k : Nat) (f : Mctx → Mctx) : (s.updCtx k f).roomQ = s.roomQ := rfl
@[simp] theorem State.updCtx_sync (s : State) (k : Nat) (f : Mctx → Mctx) : (s.updCtx k f).sync = s.sync := rfl
@[simp] theorem State.updCtx_syncTx (s : State) (k : Nat) (f : Mctx → Mctx) : (s.updCtx k f).syncTx = s.syncTx := rfl
@[simp] theorem State.updCtx_syncRx (s : State) (k : Nat) (f : Mctx → Mctx) : (s.updCtx k f).syncRx = s.syncRx := rfl
@[simp] theorem State.updCtx_tb (s : State) (k : Nat) (f : Mctx → Mctx) : (s.updCtx k f).tb = s.tb := rfl
@[simp] theorem State.updCtx_fmLeft (s : State) (k : Nat) (f : Mctx → Mctx) : (s.updCtx k f).fmLeft = s.fmLeft := rfl
@[simp] theorem State.updCtx_bwLeft (s : State) (k : Nat) (f : Mctx → Mctx) : (s.updCtx k f).bwLeft = s.bwLeft := rfl
@[simp] theorem State.updCtx_bwBase (s : State) (k : Nat) (f : Mctx → Mctx) : (s.updCtx k f).bwBase = s.bwBase := rfl
@[simp] theorem State.updCtx_clkHold (s : State) (k : Nat) (f : Mctx → Mctx) : (s.updCtx k f).clkHold = s.clkHold := rfl
@[simp] theorem State.updCtx_locks (s : State) (k : Nat) (f : Mctx → Mctx) : (s.updCtx k f).locks = s.locks := rfl
@[simp] theorem State.updCtx_sess (s : State) (k : Nat) (f : Mctx → Mctx) : (s.updCtx k f).sess = s.sess := rfl
@[simp] theorem State.updCtx_ide (s : State) (k : Nat) (f : Mctx → Mctx) : (s.updCtx k f).ide = s.ide := rfl
@[simp] theorem State.updCtx_fmKey (s : State) (k : Nat) (f : Mctx → Mctx) : (s.updCtx k f).fmKey = s.fmKey := rfl
@[simp] theorem State.updCtx_mbxTag (s : State) (k : Nat) (f : Mctx → Mctx) : (s.updCtx k f).mbxTag = s.mbxTag := rfl
@[simp] theorem State.updCtx_mbxLeft (s : State) (k : Nat) (f : Mctx → Mctx) : (s.updCtx k f).mbxLeft = s.mbxLeft := rfl
@[simp] theorem State.updCtx_ledStart (s : State) (k : Nat) (f : Mctx → Mctx) : (s.updCtx k f).ledStart = s.ledStart := rfl
@[simp] theorem State.updCtx_ledMerged (s : State) (k : Nat) (f : Mctx → Mctx) : (s.updCtx k f).ledMerged = s.ledMerged := rfl
@[simp] theorem State.updCtx_ledDue (s : State) (k : Nat) (f : Mctx → Mctx) : (s.updCtx k f).ledDue = s.ledDue := rfl
@[simp] theorem State.updCtx_ledSeq (s : State) (k : Nat) (f : Mctx → Mctx) : (s.updCtx k f).ledSeq = s.ledSeq := rfl
@[simp] theorem State.updCtx_ledDoms (s : State) (k : Nat) (f : Mctx → Mctx) : (s.updCtx k f).ledDoms = s.ledDoms := rfl
@[simp] theorem State.updCtx_train (s : State) (k : Nat) (f : Mctx → Mctx) : (s.updCtx k f).train = s.train := rfl
@[simp] theorem State.updCtx_mods (s : State) (k : Nat) (f : Mctx → Mctx) : (s.updCtx k f).mods = s.mods := rfl
@[simp] theorem State.updCtx_cmisQ (s : State) (k : Nat) (f : Mctx → Mctx) : (s.updCtx k f).cmisQ = s.cmisQ := rfl
@[simp] theorem State.updCtx_cages (s : State) (k : Nat) (f : Mctx → Mctx) : (s.updCtx k f).cages = s.cages := rfl
@[simp] theorem State.updCtx_snap (s : State) (k : Nat) (f : Mctx → Mctx) : (s.updCtx k f).snap = s.snap := rfl
@[simp] theorem State.updCtx_snapSeq (s : State) (k : Nat) (f : Mctx → Mctx) : (s.updCtx k f).snapSeq = s.snapSeq := rfl
@[simp] theorem State.updCtx_snapSkip (s : State) (k : Nat) (f : Mctx → Mctx) : (s.updCtx k f).snapSkip = s.snapSkip := rfl
@[simp] theorem State.updCtx_snapOver (s : State) (k : Nat) (f : Mctx → Mctx) : (s.updCtx k f).snapOver = s.snapOver := rfl
@[simp] theorem State.updCtx_modeReq (s : State) (k : Nat) (f : Mctx → Mctx) : (s.updCtx k f).modeReq = s.modeReq := rfl
@[simp] theorem State.updCtx_commitReq (s : State) (k : Nat) (f : Mctx → Mctx) : (s.updCtx k f).commitReq = s.commitReq := rfl
@[simp] theorem State.updCtx_retDue (s : State) (k : Nat) (f : Mctx → Mctx) : (s.updCtx k f).retDue = s.retDue := rfl
@[simp] theorem State.updCtx_pdLeft (s : State) (k : Nat) (f : Mctx → Mctx) : (s.updCtx k f).pdLeft = s.pdLeft := rfl
@[simp] theorem State.updCtx_pdOver (s : State) (k : Nat) (f : Mctx → Mctx) : (s.updCtx k f).pdOver = s.pdOver := rfl
@[simp] theorem State.updCtx_hold (s : State) (k : Nat) (f : Mctx → Mctx) : (s.updCtx k f).hold = s.hold := rfl
@[simp] theorem State.updCtx_railBad (s : State) (k : Nat) (f : Mctx → Mctx) : (s.updCtx k f).railBad = s.railBad := rfl
@[simp] theorem State.updCtx_slew (s : State) (k : Nat) (f : Mctx → Mctx) : (s.updCtx k f).slew = s.slew := rfl
@[simp] theorem State.updCtx_stageSeen (s : State) (k : Nat) (f : Mctx → Mctx) : (s.updCtx k f).stageSeen = s.stageSeen := rfl
@[simp] theorem State.updCtx_overruns (s : State) (k : Nat) (f : Mctx → Mctx) : (s.updCtx k f).overruns = s.overruns := rfl

/-! ### updMsg -/

@[simp] theorem State.updMsg_regs (s : State) (k : Nat) (f : Msg → Msg) : (s.updMsg k f).regs = s.regs := rfl
@[simp] theorem State.updMsg_spend (s : State) (k : Nat) (f : Msg → Msg) : (s.updMsg k f).spend = s.spend := rfl
@[simp] theorem State.updMsg_smask (s : State) (k : Nat) (f : Msg → Msg) : (s.updMsg k f).smask = s.smask := rfl
@[simp] theorem State.updMsg_hist (s : State) (k : Nat) (f : Msg → Msg) : (s.updMsg k f).hist = s.hist := rfl
@[simp] theorem State.updMsg_first (s : State) (k : Nat) (f : Msg → Msg) : (s.updMsg k f).first = s.first := rfl
@[simp] theorem State.updMsg_active (s : State) (k : Nat) (f : Msg → Msg) : (s.updMsg k f).active = s.active := rfl
@[simp] theorem State.updMsg_fltIrq (s : State) (k : Nat) (f : Msg → Msg) : (s.updMsg k f).fltIrq = s.fltIrq := rfl
@[simp] theorem State.updMsg_fltDefer (s : State) (k : Nat) (f : Msg → Msg) : (s.updMsg k f).fltDefer = s.fltDefer := rfl
@[simp] theorem State.updMsg_fns (s : State) (k : Nat) (f : Msg → Msg) : (s.updMsg k f).fns = s.fns := rfl
@[simp] theorem State.updMsg_ports (s : State) (k : Nat) (f : Msg → Msg) : (s.updMsg k f).ports = s.ports := rfl
@[simp] theorem State.updMsg_runs (s : State) (k : Nat) (f : Msg → Msg) : (s.updMsg k f).runs = s.runs := rfl
@[simp] theorem State.updMsg_gens (s : State) (k : Nat) (f : Msg → Msg) : (s.updMsg k f).gens = s.gens := rfl
@[simp] theorem State.updMsg_readyCtr (s : State) (k : Nat) (f : Msg → Msg) : (s.updMsg k f).readyCtr = s.readyCtr := rfl
@[simp] theorem State.updMsg_pcache (s : State) (k : Nat) (f : Msg → Msg) : (s.updMsg k f).pcache = s.pcache := rfl
@[simp] theorem State.updMsg_fenced (s : State) (k : Nat) (f : Msg → Msg) : (s.updMsg k f).fenced = s.fenced := rfl
@[simp] theorem State.updMsg_ops (s : State) (k : Nat) (f : Msg → Msg) : (s.updMsg k f).ops = s.ops := rfl
@[simp] theorem State.updMsg_wqs (s : State) (k : Nat) (f : Msg → Msg) : (s.updMsg k f).wqs = s.wqs := rfl
@[simp] theorem State.updMsg_eqs (s : State) (k : Nat) (f : Msg → Msg) : (s.updMsg k f).eqs = s.eqs := rfl
@[simp] theorem State.updMsg_ctrs (s : State) (k : Nat) (f : Msg → Msg) : (s.updMsg k f).ctrs = s.ctrs := rfl
@[simp] theorem State.updMsg_pas (s : State) (k : Nat) (f : Msg → Msg) : (s.updMsg k f).pas = s.pas := rfl
@[simp] theorem State.updMsg_tlb (s : State) (k : Nat) (f : Msg → Msg) : (s.updMsg k f).tlb = s.tlb := rfl
@[simp] theorem State.updMsg_walks (s : State) (k : Nat) (f : Msg → Msg) : (s.updMsg k f).walks = s.walks := rfl
@[simp] theorem State.updMsg_accs (s : State) (k : Nat) (f : Msg → Msg) : (s.updMsg k f).accs = s.accs := rfl
@[simp] theorem State.updMsg_invals (s : State) (k : Nat) (f : Msg → Msg) : (s.updMsg k f).invals = s.invals := rfl
@[simp] theorem State.updMsg_nextId (s : State) (k : Nat) (f : Msg → Msg) : (s.updMsg k f).nextId = s.nextId := rfl
@[simp] theorem State.updMsg_chans (s : State) (k : Nat) (f : Msg → Msg) : (s.updMsg k f).chans = s.chans := rfl
@[simp] theorem State.updMsg_unbound (s : State) (k : Nat) (f : Msg → Msg) : (s.updMsg k f).unbound = s.unbound := rfl
@[simp] theorem State.updMsg_tolls (s : State) (k : Nat) (f : Msg → Msg) : (s.updMsg k f).tolls = s.tolls := rfl
@[simp] theorem State.updMsg_inj (s : State) (k : Nat) (f : Msg → Msg) : (s.updMsg k f).inj = s.inj := rfl
@[simp] theorem State.updMsg_samp (s : State) (k : Nat) (f : Msg → Msg) : (s.updMsg k f).samp = s.samp := rfl
@[simp] theorem State.updMsg_ptx (s : State) (k : Nat) (f : Msg → Msg) : (s.updMsg k f).ptx = s.ptx := rfl
@[simp] theorem State.updMsg_prx (s : State) (k : Nat) (f : Msg → Msg) : (s.updMsg k f).prx = s.prx := rfl
@[simp] theorem State.updMsg_peerInc (s : State) (k : Nat) (f : Msg → Msg) : (s.updMsg k f).peerInc = s.peerInc := rfl
@[simp] theorem State.updMsg_kcache (s : State) (k : Nat) (f : Msg → Msg) : (s.updMsg k f).kcache = s.kcache := rfl
@[simp] theorem State.updMsg_kuse (s : State) (k : Nat) (f : Msg → Msg) : (s.updMsg k f).kuse = s.kuse := rfl
@[simp] theorem State.updMsg_kwait (s : State) (k : Nat) (f : Msg → Msg) : (s.updMsg k f).kwait = s.kwait := rfl
@[simp] theorem State.updMsg_lines (s : State) (k : Nat) (f : Msg → Msg) : (s.updMsg k f).lines = s.lines := rfl
@[simp] theorem State.updMsg_amoRes (s : State) (k : Nat) (f : Msg → Msg) : (s.updMsg k f).amoRes = s.amoRes := rfl
@[simp] theorem State.updMsg_mctx (s : State) (k : Nat) (f : Msg → Msg) : (s.updMsg k f).mctx = s.mctx := rfl
@[simp] theorem State.updMsg_msgs (s : State) (k : Nat) (f : Msg → Msg) : (s.updMsg k f).msgs = s.msgs.upd k f := rfl
@[simp] theorem State.updMsg_preds (s : State) (k : Nat) (f : Msg → Msg) : (s.updMsg k f).preds = s.preds := rfl
@[simp] theorem State.updMsg_secret (s : State) (k : Nat) (f : Msg → Msg) : (s.updMsg k f).secret = s.secret := rfl
@[simp] theorem State.updMsg_freeCtr (s : State) (k : Nat) (f : Msg → Msg) : (s.updMsg k f).freeCtr = s.freeCtr := rfl
@[simp] theorem State.updMsg_outs (s : State) (k : Nat) (f : Msg → Msg) : (s.updMsg k f).outs = s.outs := rfl
@[simp] theorem State.updMsg_work (s : State) (k : Nat) (f : Msg → Msg) : (s.updMsg k f).work = s.work := rfl
@[simp] theorem State.updMsg_pending (s : State) (k : Nat) (f : Msg → Msg) : (s.updMsg k f).pending = s.pending := rfl
@[simp] theorem State.updMsg_eps (s : State) (k : Nat) (f : Msg → Msg) : (s.updMsg k f).eps = s.eps := rfl
@[simp] theorem State.updMsg_routes (s : State) (k : Nat) (f : Msg → Msg) : (s.updMsg k f).routes = s.routes := rfl
@[simp] theorem State.updMsg_doms (s : State) (k : Nat) (f : Msg → Msg) : (s.updMsg k f).doms = s.doms := rfl
@[simp] theorem State.updMsg_resps (s : State) (k : Nat) (f : Msg → Msg) : (s.updMsg k f).resps = s.resps := rfl
@[simp] theorem State.updMsg_rin (s : State) (k : Nat) (f : Msg → Msg) : (s.updMsg k f).rin = s.rin := rfl
@[simp] theorem State.updMsg_quiet (s : State) (k : Nat) (f : Msg → Msg) : (s.updMsg k f).quiet = s.quiet := rfl
@[simp] theorem State.updMsg_quietLeft (s : State) (k : Nat) (f : Msg → Msg) : (s.updMsg k f).quietLeft = s.quietLeft := rfl
@[simp] theorem State.updMsg_firstBnd (s : State) (k : Nat) (f : Msg → Msg) : (s.updMsg k f).firstBnd = s.firstBnd := rfl
@[simp] theorem State.updMsg_ctlSent (s : State) (k : Nat) (f : Msg → Msg) : (s.updMsg k f).ctlSent = s.ctlSent := rfl
@[simp] theorem State.updMsg_ctlWait (s : State) (k : Nat) (f : Msg → Msg) : (s.updMsg k f).ctlWait = s.ctlWait := rfl
@[simp] theorem State.updMsg_fports (s : State) (k : Nat) (f : Msg → Msg) : (s.updMsg k f).fports = s.fports := rfl
@[simp] theorem State.updMsg_vlfsr (s : State) (k : Nat) (f : Msg → Msg) : (s.updMsg k f).vlfsr = s.vlfsr := rfl
@[simp] theorem State.updMsg_bankCopy (s : State) (k : Nat) (f : Msg → Msg) : (s.updMsg k f).bankCopy = s.bankCopy := rfl
@[simp] theorem State.updMsg_copyQ (s : State) (k : Nat) (f : Msg → Msg) : (s.updMsg k f).copyQ = s.copyQ := rfl
@[simp] theorem State.updMsg_grps (s : State) (k : Nat) (f : Msg → Msg) : (s.updMsg k f).grps = s.grps := rfl
@[simp] theorem State.updMsg_cvys (s : State) (k : Nat) (f : Msg → Msg) : (s.updMsg k f).cvys = s.cvys := rfl
@[simp] theorem State.updMsg_portCnt (s : State) (k : Nat) (f : Msg → Msg) : (s.updMsg k f).portCnt = s.portCnt := rfl
@[simp] theorem State.updMsg_roomQ (s : State) (k : Nat) (f : Msg → Msg) : (s.updMsg k f).roomQ = s.roomQ := rfl
@[simp] theorem State.updMsg_sync (s : State) (k : Nat) (f : Msg → Msg) : (s.updMsg k f).sync = s.sync := rfl
@[simp] theorem State.updMsg_syncTx (s : State) (k : Nat) (f : Msg → Msg) : (s.updMsg k f).syncTx = s.syncTx := rfl
@[simp] theorem State.updMsg_syncRx (s : State) (k : Nat) (f : Msg → Msg) : (s.updMsg k f).syncRx = s.syncRx := rfl
@[simp] theorem State.updMsg_tb (s : State) (k : Nat) (f : Msg → Msg) : (s.updMsg k f).tb = s.tb := rfl
@[simp] theorem State.updMsg_fmLeft (s : State) (k : Nat) (f : Msg → Msg) : (s.updMsg k f).fmLeft = s.fmLeft := rfl
@[simp] theorem State.updMsg_bwLeft (s : State) (k : Nat) (f : Msg → Msg) : (s.updMsg k f).bwLeft = s.bwLeft := rfl
@[simp] theorem State.updMsg_bwBase (s : State) (k : Nat) (f : Msg → Msg) : (s.updMsg k f).bwBase = s.bwBase := rfl
@[simp] theorem State.updMsg_clkHold (s : State) (k : Nat) (f : Msg → Msg) : (s.updMsg k f).clkHold = s.clkHold := rfl
@[simp] theorem State.updMsg_locks (s : State) (k : Nat) (f : Msg → Msg) : (s.updMsg k f).locks = s.locks := rfl
@[simp] theorem State.updMsg_sess (s : State) (k : Nat) (f : Msg → Msg) : (s.updMsg k f).sess = s.sess := rfl
@[simp] theorem State.updMsg_ide (s : State) (k : Nat) (f : Msg → Msg) : (s.updMsg k f).ide = s.ide := rfl
@[simp] theorem State.updMsg_fmKey (s : State) (k : Nat) (f : Msg → Msg) : (s.updMsg k f).fmKey = s.fmKey := rfl
@[simp] theorem State.updMsg_mbxTag (s : State) (k : Nat) (f : Msg → Msg) : (s.updMsg k f).mbxTag = s.mbxTag := rfl
@[simp] theorem State.updMsg_mbxLeft (s : State) (k : Nat) (f : Msg → Msg) : (s.updMsg k f).mbxLeft = s.mbxLeft := rfl
@[simp] theorem State.updMsg_ledStart (s : State) (k : Nat) (f : Msg → Msg) : (s.updMsg k f).ledStart = s.ledStart := rfl
@[simp] theorem State.updMsg_ledMerged (s : State) (k : Nat) (f : Msg → Msg) : (s.updMsg k f).ledMerged = s.ledMerged := rfl
@[simp] theorem State.updMsg_ledDue (s : State) (k : Nat) (f : Msg → Msg) : (s.updMsg k f).ledDue = s.ledDue := rfl
@[simp] theorem State.updMsg_ledSeq (s : State) (k : Nat) (f : Msg → Msg) : (s.updMsg k f).ledSeq = s.ledSeq := rfl
@[simp] theorem State.updMsg_ledDoms (s : State) (k : Nat) (f : Msg → Msg) : (s.updMsg k f).ledDoms = s.ledDoms := rfl
@[simp] theorem State.updMsg_train (s : State) (k : Nat) (f : Msg → Msg) : (s.updMsg k f).train = s.train := rfl
@[simp] theorem State.updMsg_mods (s : State) (k : Nat) (f : Msg → Msg) : (s.updMsg k f).mods = s.mods := rfl
@[simp] theorem State.updMsg_cmisQ (s : State) (k : Nat) (f : Msg → Msg) : (s.updMsg k f).cmisQ = s.cmisQ := rfl
@[simp] theorem State.updMsg_cages (s : State) (k : Nat) (f : Msg → Msg) : (s.updMsg k f).cages = s.cages := rfl
@[simp] theorem State.updMsg_snap (s : State) (k : Nat) (f : Msg → Msg) : (s.updMsg k f).snap = s.snap := rfl
@[simp] theorem State.updMsg_snapSeq (s : State) (k : Nat) (f : Msg → Msg) : (s.updMsg k f).snapSeq = s.snapSeq := rfl
@[simp] theorem State.updMsg_snapSkip (s : State) (k : Nat) (f : Msg → Msg) : (s.updMsg k f).snapSkip = s.snapSkip := rfl
@[simp] theorem State.updMsg_snapOver (s : State) (k : Nat) (f : Msg → Msg) : (s.updMsg k f).snapOver = s.snapOver := rfl
@[simp] theorem State.updMsg_modeReq (s : State) (k : Nat) (f : Msg → Msg) : (s.updMsg k f).modeReq = s.modeReq := rfl
@[simp] theorem State.updMsg_commitReq (s : State) (k : Nat) (f : Msg → Msg) : (s.updMsg k f).commitReq = s.commitReq := rfl
@[simp] theorem State.updMsg_retDue (s : State) (k : Nat) (f : Msg → Msg) : (s.updMsg k f).retDue = s.retDue := rfl
@[simp] theorem State.updMsg_pdLeft (s : State) (k : Nat) (f : Msg → Msg) : (s.updMsg k f).pdLeft = s.pdLeft := rfl
@[simp] theorem State.updMsg_pdOver (s : State) (k : Nat) (f : Msg → Msg) : (s.updMsg k f).pdOver = s.pdOver := rfl
@[simp] theorem State.updMsg_hold (s : State) (k : Nat) (f : Msg → Msg) : (s.updMsg k f).hold = s.hold := rfl
@[simp] theorem State.updMsg_railBad (s : State) (k : Nat) (f : Msg → Msg) : (s.updMsg k f).railBad = s.railBad := rfl
@[simp] theorem State.updMsg_slew (s : State) (k : Nat) (f : Msg → Msg) : (s.updMsg k f).slew = s.slew := rfl
@[simp] theorem State.updMsg_stageSeen (s : State) (k : Nat) (f : Msg → Msg) : (s.updMsg k f).stageSeen = s.stageSeen := rfl
@[simp] theorem State.updMsg_overruns (s : State) (k : Nat) (f : Msg → Msg) : (s.updMsg k f).overruns = s.overruns := rfl

/-! ### updMod -/

@[simp] theorem State.updMod_regs (s : State) (k : Nat) (f : Modl → Modl) : (s.updMod k f).regs = s.regs := rfl
@[simp] theorem State.updMod_spend (s : State) (k : Nat) (f : Modl → Modl) : (s.updMod k f).spend = s.spend := rfl
@[simp] theorem State.updMod_smask (s : State) (k : Nat) (f : Modl → Modl) : (s.updMod k f).smask = s.smask := rfl
@[simp] theorem State.updMod_hist (s : State) (k : Nat) (f : Modl → Modl) : (s.updMod k f).hist = s.hist := rfl
@[simp] theorem State.updMod_first (s : State) (k : Nat) (f : Modl → Modl) : (s.updMod k f).first = s.first := rfl
@[simp] theorem State.updMod_active (s : State) (k : Nat) (f : Modl → Modl) : (s.updMod k f).active = s.active := rfl
@[simp] theorem State.updMod_fltIrq (s : State) (k : Nat) (f : Modl → Modl) : (s.updMod k f).fltIrq = s.fltIrq := rfl
@[simp] theorem State.updMod_fltDefer (s : State) (k : Nat) (f : Modl → Modl) : (s.updMod k f).fltDefer = s.fltDefer := rfl
@[simp] theorem State.updMod_fns (s : State) (k : Nat) (f : Modl → Modl) : (s.updMod k f).fns = s.fns := rfl
@[simp] theorem State.updMod_ports (s : State) (k : Nat) (f : Modl → Modl) : (s.updMod k f).ports = s.ports := rfl
@[simp] theorem State.updMod_runs (s : State) (k : Nat) (f : Modl → Modl) : (s.updMod k f).runs = s.runs := rfl
@[simp] theorem State.updMod_gens (s : State) (k : Nat) (f : Modl → Modl) : (s.updMod k f).gens = s.gens := rfl
@[simp] theorem State.updMod_readyCtr (s : State) (k : Nat) (f : Modl → Modl) : (s.updMod k f).readyCtr = s.readyCtr := rfl
@[simp] theorem State.updMod_pcache (s : State) (k : Nat) (f : Modl → Modl) : (s.updMod k f).pcache = s.pcache := rfl
@[simp] theorem State.updMod_fenced (s : State) (k : Nat) (f : Modl → Modl) : (s.updMod k f).fenced = s.fenced := rfl
@[simp] theorem State.updMod_ops (s : State) (k : Nat) (f : Modl → Modl) : (s.updMod k f).ops = s.ops := rfl
@[simp] theorem State.updMod_wqs (s : State) (k : Nat) (f : Modl → Modl) : (s.updMod k f).wqs = s.wqs := rfl
@[simp] theorem State.updMod_eqs (s : State) (k : Nat) (f : Modl → Modl) : (s.updMod k f).eqs = s.eqs := rfl
@[simp] theorem State.updMod_ctrs (s : State) (k : Nat) (f : Modl → Modl) : (s.updMod k f).ctrs = s.ctrs := rfl
@[simp] theorem State.updMod_pas (s : State) (k : Nat) (f : Modl → Modl) : (s.updMod k f).pas = s.pas := rfl
@[simp] theorem State.updMod_tlb (s : State) (k : Nat) (f : Modl → Modl) : (s.updMod k f).tlb = s.tlb := rfl
@[simp] theorem State.updMod_walks (s : State) (k : Nat) (f : Modl → Modl) : (s.updMod k f).walks = s.walks := rfl
@[simp] theorem State.updMod_accs (s : State) (k : Nat) (f : Modl → Modl) : (s.updMod k f).accs = s.accs := rfl
@[simp] theorem State.updMod_invals (s : State) (k : Nat) (f : Modl → Modl) : (s.updMod k f).invals = s.invals := rfl
@[simp] theorem State.updMod_nextId (s : State) (k : Nat) (f : Modl → Modl) : (s.updMod k f).nextId = s.nextId := rfl
@[simp] theorem State.updMod_chans (s : State) (k : Nat) (f : Modl → Modl) : (s.updMod k f).chans = s.chans := rfl
@[simp] theorem State.updMod_unbound (s : State) (k : Nat) (f : Modl → Modl) : (s.updMod k f).unbound = s.unbound := rfl
@[simp] theorem State.updMod_tolls (s : State) (k : Nat) (f : Modl → Modl) : (s.updMod k f).tolls = s.tolls := rfl
@[simp] theorem State.updMod_inj (s : State) (k : Nat) (f : Modl → Modl) : (s.updMod k f).inj = s.inj := rfl
@[simp] theorem State.updMod_samp (s : State) (k : Nat) (f : Modl → Modl) : (s.updMod k f).samp = s.samp := rfl
@[simp] theorem State.updMod_ptx (s : State) (k : Nat) (f : Modl → Modl) : (s.updMod k f).ptx = s.ptx := rfl
@[simp] theorem State.updMod_prx (s : State) (k : Nat) (f : Modl → Modl) : (s.updMod k f).prx = s.prx := rfl
@[simp] theorem State.updMod_peerInc (s : State) (k : Nat) (f : Modl → Modl) : (s.updMod k f).peerInc = s.peerInc := rfl
@[simp] theorem State.updMod_kcache (s : State) (k : Nat) (f : Modl → Modl) : (s.updMod k f).kcache = s.kcache := rfl
@[simp] theorem State.updMod_kuse (s : State) (k : Nat) (f : Modl → Modl) : (s.updMod k f).kuse = s.kuse := rfl
@[simp] theorem State.updMod_kwait (s : State) (k : Nat) (f : Modl → Modl) : (s.updMod k f).kwait = s.kwait := rfl
@[simp] theorem State.updMod_lines (s : State) (k : Nat) (f : Modl → Modl) : (s.updMod k f).lines = s.lines := rfl
@[simp] theorem State.updMod_amoRes (s : State) (k : Nat) (f : Modl → Modl) : (s.updMod k f).amoRes = s.amoRes := rfl
@[simp] theorem State.updMod_mctx (s : State) (k : Nat) (f : Modl → Modl) : (s.updMod k f).mctx = s.mctx := rfl
@[simp] theorem State.updMod_msgs (s : State) (k : Nat) (f : Modl → Modl) : (s.updMod k f).msgs = s.msgs := rfl
@[simp] theorem State.updMod_preds (s : State) (k : Nat) (f : Modl → Modl) : (s.updMod k f).preds = s.preds := rfl
@[simp] theorem State.updMod_secret (s : State) (k : Nat) (f : Modl → Modl) : (s.updMod k f).secret = s.secret := rfl
@[simp] theorem State.updMod_freeCtr (s : State) (k : Nat) (f : Modl → Modl) : (s.updMod k f).freeCtr = s.freeCtr := rfl
@[simp] theorem State.updMod_outs (s : State) (k : Nat) (f : Modl → Modl) : (s.updMod k f).outs = s.outs := rfl
@[simp] theorem State.updMod_work (s : State) (k : Nat) (f : Modl → Modl) : (s.updMod k f).work = s.work := rfl
@[simp] theorem State.updMod_pending (s : State) (k : Nat) (f : Modl → Modl) : (s.updMod k f).pending = s.pending := rfl
@[simp] theorem State.updMod_eps (s : State) (k : Nat) (f : Modl → Modl) : (s.updMod k f).eps = s.eps := rfl
@[simp] theorem State.updMod_routes (s : State) (k : Nat) (f : Modl → Modl) : (s.updMod k f).routes = s.routes := rfl
@[simp] theorem State.updMod_doms (s : State) (k : Nat) (f : Modl → Modl) : (s.updMod k f).doms = s.doms := rfl
@[simp] theorem State.updMod_resps (s : State) (k : Nat) (f : Modl → Modl) : (s.updMod k f).resps = s.resps := rfl
@[simp] theorem State.updMod_rin (s : State) (k : Nat) (f : Modl → Modl) : (s.updMod k f).rin = s.rin := rfl
@[simp] theorem State.updMod_quiet (s : State) (k : Nat) (f : Modl → Modl) : (s.updMod k f).quiet = s.quiet := rfl
@[simp] theorem State.updMod_quietLeft (s : State) (k : Nat) (f : Modl → Modl) : (s.updMod k f).quietLeft = s.quietLeft := rfl
@[simp] theorem State.updMod_firstBnd (s : State) (k : Nat) (f : Modl → Modl) : (s.updMod k f).firstBnd = s.firstBnd := rfl
@[simp] theorem State.updMod_ctlSent (s : State) (k : Nat) (f : Modl → Modl) : (s.updMod k f).ctlSent = s.ctlSent := rfl
@[simp] theorem State.updMod_ctlWait (s : State) (k : Nat) (f : Modl → Modl) : (s.updMod k f).ctlWait = s.ctlWait := rfl
@[simp] theorem State.updMod_fports (s : State) (k : Nat) (f : Modl → Modl) : (s.updMod k f).fports = s.fports := rfl
@[simp] theorem State.updMod_vlfsr (s : State) (k : Nat) (f : Modl → Modl) : (s.updMod k f).vlfsr = s.vlfsr := rfl
@[simp] theorem State.updMod_bankCopy (s : State) (k : Nat) (f : Modl → Modl) : (s.updMod k f).bankCopy = s.bankCopy := rfl
@[simp] theorem State.updMod_copyQ (s : State) (k : Nat) (f : Modl → Modl) : (s.updMod k f).copyQ = s.copyQ := rfl
@[simp] theorem State.updMod_grps (s : State) (k : Nat) (f : Modl → Modl) : (s.updMod k f).grps = s.grps := rfl
@[simp] theorem State.updMod_cvys (s : State) (k : Nat) (f : Modl → Modl) : (s.updMod k f).cvys = s.cvys := rfl
@[simp] theorem State.updMod_portCnt (s : State) (k : Nat) (f : Modl → Modl) : (s.updMod k f).portCnt = s.portCnt := rfl
@[simp] theorem State.updMod_roomQ (s : State) (k : Nat) (f : Modl → Modl) : (s.updMod k f).roomQ = s.roomQ := rfl
@[simp] theorem State.updMod_sync (s : State) (k : Nat) (f : Modl → Modl) : (s.updMod k f).sync = s.sync := rfl
@[simp] theorem State.updMod_syncTx (s : State) (k : Nat) (f : Modl → Modl) : (s.updMod k f).syncTx = s.syncTx := rfl
@[simp] theorem State.updMod_syncRx (s : State) (k : Nat) (f : Modl → Modl) : (s.updMod k f).syncRx = s.syncRx := rfl
@[simp] theorem State.updMod_tb (s : State) (k : Nat) (f : Modl → Modl) : (s.updMod k f).tb = s.tb := rfl
@[simp] theorem State.updMod_fmLeft (s : State) (k : Nat) (f : Modl → Modl) : (s.updMod k f).fmLeft = s.fmLeft := rfl
@[simp] theorem State.updMod_bwLeft (s : State) (k : Nat) (f : Modl → Modl) : (s.updMod k f).bwLeft = s.bwLeft := rfl
@[simp] theorem State.updMod_bwBase (s : State) (k : Nat) (f : Modl → Modl) : (s.updMod k f).bwBase = s.bwBase := rfl
@[simp] theorem State.updMod_clkHold (s : State) (k : Nat) (f : Modl → Modl) : (s.updMod k f).clkHold = s.clkHold := rfl
@[simp] theorem State.updMod_locks (s : State) (k : Nat) (f : Modl → Modl) : (s.updMod k f).locks = s.locks := rfl
@[simp] theorem State.updMod_sess (s : State) (k : Nat) (f : Modl → Modl) : (s.updMod k f).sess = s.sess := rfl
@[simp] theorem State.updMod_ide (s : State) (k : Nat) (f : Modl → Modl) : (s.updMod k f).ide = s.ide := rfl
@[simp] theorem State.updMod_fmKey (s : State) (k : Nat) (f : Modl → Modl) : (s.updMod k f).fmKey = s.fmKey := rfl
@[simp] theorem State.updMod_mbxTag (s : State) (k : Nat) (f : Modl → Modl) : (s.updMod k f).mbxTag = s.mbxTag := rfl
@[simp] theorem State.updMod_mbxLeft (s : State) (k : Nat) (f : Modl → Modl) : (s.updMod k f).mbxLeft = s.mbxLeft := rfl
@[simp] theorem State.updMod_ledStart (s : State) (k : Nat) (f : Modl → Modl) : (s.updMod k f).ledStart = s.ledStart := rfl
@[simp] theorem State.updMod_ledMerged (s : State) (k : Nat) (f : Modl → Modl) : (s.updMod k f).ledMerged = s.ledMerged := rfl
@[simp] theorem State.updMod_ledDue (s : State) (k : Nat) (f : Modl → Modl) : (s.updMod k f).ledDue = s.ledDue := rfl
@[simp] theorem State.updMod_ledSeq (s : State) (k : Nat) (f : Modl → Modl) : (s.updMod k f).ledSeq = s.ledSeq := rfl
@[simp] theorem State.updMod_ledDoms (s : State) (k : Nat) (f : Modl → Modl) : (s.updMod k f).ledDoms = s.ledDoms := rfl
@[simp] theorem State.updMod_train (s : State) (k : Nat) (f : Modl → Modl) : (s.updMod k f).train = s.train := rfl
@[simp] theorem State.updMod_mods (s : State) (k : Nat) (f : Modl → Modl) : (s.updMod k f).mods = s.mods.upd k f := rfl
@[simp] theorem State.updMod_cmisQ (s : State) (k : Nat) (f : Modl → Modl) : (s.updMod k f).cmisQ = s.cmisQ := rfl
@[simp] theorem State.updMod_cages (s : State) (k : Nat) (f : Modl → Modl) : (s.updMod k f).cages = s.cages := rfl
@[simp] theorem State.updMod_snap (s : State) (k : Nat) (f : Modl → Modl) : (s.updMod k f).snap = s.snap := rfl
@[simp] theorem State.updMod_snapSeq (s : State) (k : Nat) (f : Modl → Modl) : (s.updMod k f).snapSeq = s.snapSeq := rfl
@[simp] theorem State.updMod_snapSkip (s : State) (k : Nat) (f : Modl → Modl) : (s.updMod k f).snapSkip = s.snapSkip := rfl
@[simp] theorem State.updMod_snapOver (s : State) (k : Nat) (f : Modl → Modl) : (s.updMod k f).snapOver = s.snapOver := rfl
@[simp] theorem State.updMod_modeReq (s : State) (k : Nat) (f : Modl → Modl) : (s.updMod k f).modeReq = s.modeReq := rfl
@[simp] theorem State.updMod_commitReq (s : State) (k : Nat) (f : Modl → Modl) : (s.updMod k f).commitReq = s.commitReq := rfl
@[simp] theorem State.updMod_retDue (s : State) (k : Nat) (f : Modl → Modl) : (s.updMod k f).retDue = s.retDue := rfl
@[simp] theorem State.updMod_pdLeft (s : State) (k : Nat) (f : Modl → Modl) : (s.updMod k f).pdLeft = s.pdLeft := rfl
@[simp] theorem State.updMod_pdOver (s : State) (k : Nat) (f : Modl → Modl) : (s.updMod k f).pdOver = s.pdOver := rfl
@[simp] theorem State.updMod_hold (s : State) (k : Nat) (f : Modl → Modl) : (s.updMod k f).hold = s.hold := rfl
@[simp] theorem State.updMod_railBad (s : State) (k : Nat) (f : Modl → Modl) : (s.updMod k f).railBad = s.railBad := rfl
@[simp] theorem State.updMod_slew (s : State) (k : Nat) (f : Modl → Modl) : (s.updMod k f).slew = s.slew := rfl
@[simp] theorem State.updMod_stageSeen (s : State) (k : Nat) (f : Modl → Modl) : (s.updMod k f).stageSeen = s.stageSeen := rfl
@[simp] theorem State.updMod_overruns (s : State) (k : Nat) (f : Modl → Modl) : (s.updMod k f).overruns = s.overruns := rfl

/-! ### updCage -/

@[simp] theorem State.updCage_regs (s : State) (k : Nat) (f : Cage → Cage) : (s.updCage k f).regs = s.regs := rfl
@[simp] theorem State.updCage_spend (s : State) (k : Nat) (f : Cage → Cage) : (s.updCage k f).spend = s.spend := rfl
@[simp] theorem State.updCage_smask (s : State) (k : Nat) (f : Cage → Cage) : (s.updCage k f).smask = s.smask := rfl
@[simp] theorem State.updCage_hist (s : State) (k : Nat) (f : Cage → Cage) : (s.updCage k f).hist = s.hist := rfl
@[simp] theorem State.updCage_first (s : State) (k : Nat) (f : Cage → Cage) : (s.updCage k f).first = s.first := rfl
@[simp] theorem State.updCage_active (s : State) (k : Nat) (f : Cage → Cage) : (s.updCage k f).active = s.active := rfl
@[simp] theorem State.updCage_fltIrq (s : State) (k : Nat) (f : Cage → Cage) : (s.updCage k f).fltIrq = s.fltIrq := rfl
@[simp] theorem State.updCage_fltDefer (s : State) (k : Nat) (f : Cage → Cage) : (s.updCage k f).fltDefer = s.fltDefer := rfl
@[simp] theorem State.updCage_fns (s : State) (k : Nat) (f : Cage → Cage) : (s.updCage k f).fns = s.fns := rfl
@[simp] theorem State.updCage_ports (s : State) (k : Nat) (f : Cage → Cage) : (s.updCage k f).ports = s.ports := rfl
@[simp] theorem State.updCage_runs (s : State) (k : Nat) (f : Cage → Cage) : (s.updCage k f).runs = s.runs := rfl
@[simp] theorem State.updCage_gens (s : State) (k : Nat) (f : Cage → Cage) : (s.updCage k f).gens = s.gens := rfl
@[simp] theorem State.updCage_readyCtr (s : State) (k : Nat) (f : Cage → Cage) : (s.updCage k f).readyCtr = s.readyCtr := rfl
@[simp] theorem State.updCage_pcache (s : State) (k : Nat) (f : Cage → Cage) : (s.updCage k f).pcache = s.pcache := rfl
@[simp] theorem State.updCage_fenced (s : State) (k : Nat) (f : Cage → Cage) : (s.updCage k f).fenced = s.fenced := rfl
@[simp] theorem State.updCage_ops (s : State) (k : Nat) (f : Cage → Cage) : (s.updCage k f).ops = s.ops := rfl
@[simp] theorem State.updCage_wqs (s : State) (k : Nat) (f : Cage → Cage) : (s.updCage k f).wqs = s.wqs := rfl
@[simp] theorem State.updCage_eqs (s : State) (k : Nat) (f : Cage → Cage) : (s.updCage k f).eqs = s.eqs := rfl
@[simp] theorem State.updCage_ctrs (s : State) (k : Nat) (f : Cage → Cage) : (s.updCage k f).ctrs = s.ctrs := rfl
@[simp] theorem State.updCage_pas (s : State) (k : Nat) (f : Cage → Cage) : (s.updCage k f).pas = s.pas := rfl
@[simp] theorem State.updCage_tlb (s : State) (k : Nat) (f : Cage → Cage) : (s.updCage k f).tlb = s.tlb := rfl
@[simp] theorem State.updCage_walks (s : State) (k : Nat) (f : Cage → Cage) : (s.updCage k f).walks = s.walks := rfl
@[simp] theorem State.updCage_accs (s : State) (k : Nat) (f : Cage → Cage) : (s.updCage k f).accs = s.accs := rfl
@[simp] theorem State.updCage_invals (s : State) (k : Nat) (f : Cage → Cage) : (s.updCage k f).invals = s.invals := rfl
@[simp] theorem State.updCage_nextId (s : State) (k : Nat) (f : Cage → Cage) : (s.updCage k f).nextId = s.nextId := rfl
@[simp] theorem State.updCage_chans (s : State) (k : Nat) (f : Cage → Cage) : (s.updCage k f).chans = s.chans := rfl
@[simp] theorem State.updCage_unbound (s : State) (k : Nat) (f : Cage → Cage) : (s.updCage k f).unbound = s.unbound := rfl
@[simp] theorem State.updCage_tolls (s : State) (k : Nat) (f : Cage → Cage) : (s.updCage k f).tolls = s.tolls := rfl
@[simp] theorem State.updCage_inj (s : State) (k : Nat) (f : Cage → Cage) : (s.updCage k f).inj = s.inj := rfl
@[simp] theorem State.updCage_samp (s : State) (k : Nat) (f : Cage → Cage) : (s.updCage k f).samp = s.samp := rfl
@[simp] theorem State.updCage_ptx (s : State) (k : Nat) (f : Cage → Cage) : (s.updCage k f).ptx = s.ptx := rfl
@[simp] theorem State.updCage_prx (s : State) (k : Nat) (f : Cage → Cage) : (s.updCage k f).prx = s.prx := rfl
@[simp] theorem State.updCage_peerInc (s : State) (k : Nat) (f : Cage → Cage) : (s.updCage k f).peerInc = s.peerInc := rfl
@[simp] theorem State.updCage_kcache (s : State) (k : Nat) (f : Cage → Cage) : (s.updCage k f).kcache = s.kcache := rfl
@[simp] theorem State.updCage_kuse (s : State) (k : Nat) (f : Cage → Cage) : (s.updCage k f).kuse = s.kuse := rfl
@[simp] theorem State.updCage_kwait (s : State) (k : Nat) (f : Cage → Cage) : (s.updCage k f).kwait = s.kwait := rfl
@[simp] theorem State.updCage_lines (s : State) (k : Nat) (f : Cage → Cage) : (s.updCage k f).lines = s.lines := rfl
@[simp] theorem State.updCage_amoRes (s : State) (k : Nat) (f : Cage → Cage) : (s.updCage k f).amoRes = s.amoRes := rfl
@[simp] theorem State.updCage_mctx (s : State) (k : Nat) (f : Cage → Cage) : (s.updCage k f).mctx = s.mctx := rfl
@[simp] theorem State.updCage_msgs (s : State) (k : Nat) (f : Cage → Cage) : (s.updCage k f).msgs = s.msgs := rfl
@[simp] theorem State.updCage_preds (s : State) (k : Nat) (f : Cage → Cage) : (s.updCage k f).preds = s.preds := rfl
@[simp] theorem State.updCage_secret (s : State) (k : Nat) (f : Cage → Cage) : (s.updCage k f).secret = s.secret := rfl
@[simp] theorem State.updCage_freeCtr (s : State) (k : Nat) (f : Cage → Cage) : (s.updCage k f).freeCtr = s.freeCtr := rfl
@[simp] theorem State.updCage_outs (s : State) (k : Nat) (f : Cage → Cage) : (s.updCage k f).outs = s.outs := rfl
@[simp] theorem State.updCage_work (s : State) (k : Nat) (f : Cage → Cage) : (s.updCage k f).work = s.work := rfl
@[simp] theorem State.updCage_pending (s : State) (k : Nat) (f : Cage → Cage) : (s.updCage k f).pending = s.pending := rfl
@[simp] theorem State.updCage_eps (s : State) (k : Nat) (f : Cage → Cage) : (s.updCage k f).eps = s.eps := rfl
@[simp] theorem State.updCage_routes (s : State) (k : Nat) (f : Cage → Cage) : (s.updCage k f).routes = s.routes := rfl
@[simp] theorem State.updCage_doms (s : State) (k : Nat) (f : Cage → Cage) : (s.updCage k f).doms = s.doms := rfl
@[simp] theorem State.updCage_resps (s : State) (k : Nat) (f : Cage → Cage) : (s.updCage k f).resps = s.resps := rfl
@[simp] theorem State.updCage_rin (s : State) (k : Nat) (f : Cage → Cage) : (s.updCage k f).rin = s.rin := rfl
@[simp] theorem State.updCage_quiet (s : State) (k : Nat) (f : Cage → Cage) : (s.updCage k f).quiet = s.quiet := rfl
@[simp] theorem State.updCage_quietLeft (s : State) (k : Nat) (f : Cage → Cage) : (s.updCage k f).quietLeft = s.quietLeft := rfl
@[simp] theorem State.updCage_firstBnd (s : State) (k : Nat) (f : Cage → Cage) : (s.updCage k f).firstBnd = s.firstBnd := rfl
@[simp] theorem State.updCage_ctlSent (s : State) (k : Nat) (f : Cage → Cage) : (s.updCage k f).ctlSent = s.ctlSent := rfl
@[simp] theorem State.updCage_ctlWait (s : State) (k : Nat) (f : Cage → Cage) : (s.updCage k f).ctlWait = s.ctlWait := rfl
@[simp] theorem State.updCage_fports (s : State) (k : Nat) (f : Cage → Cage) : (s.updCage k f).fports = s.fports := rfl
@[simp] theorem State.updCage_vlfsr (s : State) (k : Nat) (f : Cage → Cage) : (s.updCage k f).vlfsr = s.vlfsr := rfl
@[simp] theorem State.updCage_bankCopy (s : State) (k : Nat) (f : Cage → Cage) : (s.updCage k f).bankCopy = s.bankCopy := rfl
@[simp] theorem State.updCage_copyQ (s : State) (k : Nat) (f : Cage → Cage) : (s.updCage k f).copyQ = s.copyQ := rfl
@[simp] theorem State.updCage_grps (s : State) (k : Nat) (f : Cage → Cage) : (s.updCage k f).grps = s.grps := rfl
@[simp] theorem State.updCage_cvys (s : State) (k : Nat) (f : Cage → Cage) : (s.updCage k f).cvys = s.cvys := rfl
@[simp] theorem State.updCage_portCnt (s : State) (k : Nat) (f : Cage → Cage) : (s.updCage k f).portCnt = s.portCnt := rfl
@[simp] theorem State.updCage_roomQ (s : State) (k : Nat) (f : Cage → Cage) : (s.updCage k f).roomQ = s.roomQ := rfl
@[simp] theorem State.updCage_sync (s : State) (k : Nat) (f : Cage → Cage) : (s.updCage k f).sync = s.sync := rfl
@[simp] theorem State.updCage_syncTx (s : State) (k : Nat) (f : Cage → Cage) : (s.updCage k f).syncTx = s.syncTx := rfl
@[simp] theorem State.updCage_syncRx (s : State) (k : Nat) (f : Cage → Cage) : (s.updCage k f).syncRx = s.syncRx := rfl
@[simp] theorem State.updCage_tb (s : State) (k : Nat) (f : Cage → Cage) : (s.updCage k f).tb = s.tb := rfl
@[simp] theorem State.updCage_fmLeft (s : State) (k : Nat) (f : Cage → Cage) : (s.updCage k f).fmLeft = s.fmLeft := rfl
@[simp] theorem State.updCage_bwLeft (s : State) (k : Nat) (f : Cage → Cage) : (s.updCage k f).bwLeft = s.bwLeft := rfl
@[simp] theorem State.updCage_bwBase (s : State) (k : Nat) (f : Cage → Cage) : (s.updCage k f).bwBase = s.bwBase := rfl
@[simp] theorem State.updCage_clkHold (s : State) (k : Nat) (f : Cage → Cage) : (s.updCage k f).clkHold = s.clkHold := rfl
@[simp] theorem State.updCage_locks (s : State) (k : Nat) (f : Cage → Cage) : (s.updCage k f).locks = s.locks := rfl
@[simp] theorem State.updCage_sess (s : State) (k : Nat) (f : Cage → Cage) : (s.updCage k f).sess = s.sess := rfl
@[simp] theorem State.updCage_ide (s : State) (k : Nat) (f : Cage → Cage) : (s.updCage k f).ide = s.ide := rfl
@[simp] theorem State.updCage_fmKey (s : State) (k : Nat) (f : Cage → Cage) : (s.updCage k f).fmKey = s.fmKey := rfl
@[simp] theorem State.updCage_mbxTag (s : State) (k : Nat) (f : Cage → Cage) : (s.updCage k f).mbxTag = s.mbxTag := rfl
@[simp] theorem State.updCage_mbxLeft (s : State) (k : Nat) (f : Cage → Cage) : (s.updCage k f).mbxLeft = s.mbxLeft := rfl
@[simp] theorem State.updCage_ledStart (s : State) (k : Nat) (f : Cage → Cage) : (s.updCage k f).ledStart = s.ledStart := rfl
@[simp] theorem State.updCage_ledMerged (s : State) (k : Nat) (f : Cage → Cage) : (s.updCage k f).ledMerged = s.ledMerged := rfl
@[simp] theorem State.updCage_ledDue (s : State) (k : Nat) (f : Cage → Cage) : (s.updCage k f).ledDue = s.ledDue := rfl
@[simp] theorem State.updCage_ledSeq (s : State) (k : Nat) (f : Cage → Cage) : (s.updCage k f).ledSeq = s.ledSeq := rfl
@[simp] theorem State.updCage_ledDoms (s : State) (k : Nat) (f : Cage → Cage) : (s.updCage k f).ledDoms = s.ledDoms := rfl
@[simp] theorem State.updCage_train (s : State) (k : Nat) (f : Cage → Cage) : (s.updCage k f).train = s.train := rfl
@[simp] theorem State.updCage_mods (s : State) (k : Nat) (f : Cage → Cage) : (s.updCage k f).mods = s.mods := rfl
@[simp] theorem State.updCage_cmisQ (s : State) (k : Nat) (f : Cage → Cage) : (s.updCage k f).cmisQ = s.cmisQ := rfl
@[simp] theorem State.updCage_cages (s : State) (k : Nat) (f : Cage → Cage) : (s.updCage k f).cages = s.cages.upd k f := rfl
@[simp] theorem State.updCage_snap (s : State) (k : Nat) (f : Cage → Cage) : (s.updCage k f).snap = s.snap := rfl
@[simp] theorem State.updCage_snapSeq (s : State) (k : Nat) (f : Cage → Cage) : (s.updCage k f).snapSeq = s.snapSeq := rfl
@[simp] theorem State.updCage_snapSkip (s : State) (k : Nat) (f : Cage → Cage) : (s.updCage k f).snapSkip = s.snapSkip := rfl
@[simp] theorem State.updCage_snapOver (s : State) (k : Nat) (f : Cage → Cage) : (s.updCage k f).snapOver = s.snapOver := rfl
@[simp] theorem State.updCage_modeReq (s : State) (k : Nat) (f : Cage → Cage) : (s.updCage k f).modeReq = s.modeReq := rfl
@[simp] theorem State.updCage_commitReq (s : State) (k : Nat) (f : Cage → Cage) : (s.updCage k f).commitReq = s.commitReq := rfl
@[simp] theorem State.updCage_retDue (s : State) (k : Nat) (f : Cage → Cage) : (s.updCage k f).retDue = s.retDue := rfl
@[simp] theorem State.updCage_pdLeft (s : State) (k : Nat) (f : Cage → Cage) : (s.updCage k f).pdLeft = s.pdLeft := rfl
@[simp] theorem State.updCage_pdOver (s : State) (k : Nat) (f : Cage → Cage) : (s.updCage k f).pdOver = s.pdOver := rfl
@[simp] theorem State.updCage_hold (s : State) (k : Nat) (f : Cage → Cage) : (s.updCage k f).hold = s.hold := rfl
@[simp] theorem State.updCage_railBad (s : State) (k : Nat) (f : Cage → Cage) : (s.updCage k f).railBad = s.railBad := rfl
@[simp] theorem State.updCage_slew (s : State) (k : Nat) (f : Cage → Cage) : (s.updCage k f).slew = s.slew := rfl
@[simp] theorem State.updCage_stageSeen (s : State) (k : Nat) (f : Cage → Cage) : (s.updCage k f).stageSeen = s.stageSeen := rfl
@[simp] theorem State.updCage_overruns (s : State) (k : Nat) (f : Cage → Cage) : (s.updCage k f).overruns = s.overruns := rfl

/-! ### updPort -/

@[simp] theorem State.updPort_regs (s : State) (k : Nat) (f : FPort → FPort) : (s.updPort k f).regs = s.regs := rfl
@[simp] theorem State.updPort_spend (s : State) (k : Nat) (f : FPort → FPort) : (s.updPort k f).spend = s.spend := rfl
@[simp] theorem State.updPort_smask (s : State) (k : Nat) (f : FPort → FPort) : (s.updPort k f).smask = s.smask := rfl
@[simp] theorem State.updPort_hist (s : State) (k : Nat) (f : FPort → FPort) : (s.updPort k f).hist = s.hist := rfl
@[simp] theorem State.updPort_first (s : State) (k : Nat) (f : FPort → FPort) : (s.updPort k f).first = s.first := rfl
@[simp] theorem State.updPort_active (s : State) (k : Nat) (f : FPort → FPort) : (s.updPort k f).active = s.active := rfl
@[simp] theorem State.updPort_fltIrq (s : State) (k : Nat) (f : FPort → FPort) : (s.updPort k f).fltIrq = s.fltIrq := rfl
@[simp] theorem State.updPort_fltDefer (s : State) (k : Nat) (f : FPort → FPort) : (s.updPort k f).fltDefer = s.fltDefer := rfl
@[simp] theorem State.updPort_fns (s : State) (k : Nat) (f : FPort → FPort) : (s.updPort k f).fns = s.fns := rfl
@[simp] theorem State.updPort_ports (s : State) (k : Nat) (f : FPort → FPort) : (s.updPort k f).ports = s.ports := rfl
@[simp] theorem State.updPort_runs (s : State) (k : Nat) (f : FPort → FPort) : (s.updPort k f).runs = s.runs := rfl
@[simp] theorem State.updPort_gens (s : State) (k : Nat) (f : FPort → FPort) : (s.updPort k f).gens = s.gens := rfl
@[simp] theorem State.updPort_readyCtr (s : State) (k : Nat) (f : FPort → FPort) : (s.updPort k f).readyCtr = s.readyCtr := rfl
@[simp] theorem State.updPort_pcache (s : State) (k : Nat) (f : FPort → FPort) : (s.updPort k f).pcache = s.pcache := rfl
@[simp] theorem State.updPort_fenced (s : State) (k : Nat) (f : FPort → FPort) : (s.updPort k f).fenced = s.fenced := rfl
@[simp] theorem State.updPort_ops (s : State) (k : Nat) (f : FPort → FPort) : (s.updPort k f).ops = s.ops := rfl
@[simp] theorem State.updPort_wqs (s : State) (k : Nat) (f : FPort → FPort) : (s.updPort k f).wqs = s.wqs := rfl
@[simp] theorem State.updPort_eqs (s : State) (k : Nat) (f : FPort → FPort) : (s.updPort k f).eqs = s.eqs := rfl
@[simp] theorem State.updPort_ctrs (s : State) (k : Nat) (f : FPort → FPort) : (s.updPort k f).ctrs = s.ctrs := rfl
@[simp] theorem State.updPort_pas (s : State) (k : Nat) (f : FPort → FPort) : (s.updPort k f).pas = s.pas := rfl
@[simp] theorem State.updPort_tlb (s : State) (k : Nat) (f : FPort → FPort) : (s.updPort k f).tlb = s.tlb := rfl
@[simp] theorem State.updPort_walks (s : State) (k : Nat) (f : FPort → FPort) : (s.updPort k f).walks = s.walks := rfl
@[simp] theorem State.updPort_accs (s : State) (k : Nat) (f : FPort → FPort) : (s.updPort k f).accs = s.accs := rfl
@[simp] theorem State.updPort_invals (s : State) (k : Nat) (f : FPort → FPort) : (s.updPort k f).invals = s.invals := rfl
@[simp] theorem State.updPort_nextId (s : State) (k : Nat) (f : FPort → FPort) : (s.updPort k f).nextId = s.nextId := rfl
@[simp] theorem State.updPort_chans (s : State) (k : Nat) (f : FPort → FPort) : (s.updPort k f).chans = s.chans := rfl
@[simp] theorem State.updPort_unbound (s : State) (k : Nat) (f : FPort → FPort) : (s.updPort k f).unbound = s.unbound := rfl
@[simp] theorem State.updPort_tolls (s : State) (k : Nat) (f : FPort → FPort) : (s.updPort k f).tolls = s.tolls := rfl
@[simp] theorem State.updPort_inj (s : State) (k : Nat) (f : FPort → FPort) : (s.updPort k f).inj = s.inj := rfl
@[simp] theorem State.updPort_samp (s : State) (k : Nat) (f : FPort → FPort) : (s.updPort k f).samp = s.samp := rfl
@[simp] theorem State.updPort_ptx (s : State) (k : Nat) (f : FPort → FPort) : (s.updPort k f).ptx = s.ptx := rfl
@[simp] theorem State.updPort_prx (s : State) (k : Nat) (f : FPort → FPort) : (s.updPort k f).prx = s.prx := rfl
@[simp] theorem State.updPort_peerInc (s : State) (k : Nat) (f : FPort → FPort) : (s.updPort k f).peerInc = s.peerInc := rfl
@[simp] theorem State.updPort_kcache (s : State) (k : Nat) (f : FPort → FPort) : (s.updPort k f).kcache = s.kcache := rfl
@[simp] theorem State.updPort_kuse (s : State) (k : Nat) (f : FPort → FPort) : (s.updPort k f).kuse = s.kuse := rfl
@[simp] theorem State.updPort_kwait (s : State) (k : Nat) (f : FPort → FPort) : (s.updPort k f).kwait = s.kwait := rfl
@[simp] theorem State.updPort_lines (s : State) (k : Nat) (f : FPort → FPort) : (s.updPort k f).lines = s.lines := rfl
@[simp] theorem State.updPort_amoRes (s : State) (k : Nat) (f : FPort → FPort) : (s.updPort k f).amoRes = s.amoRes := rfl
@[simp] theorem State.updPort_mctx (s : State) (k : Nat) (f : FPort → FPort) : (s.updPort k f).mctx = s.mctx := rfl
@[simp] theorem State.updPort_msgs (s : State) (k : Nat) (f : FPort → FPort) : (s.updPort k f).msgs = s.msgs := rfl
@[simp] theorem State.updPort_preds (s : State) (k : Nat) (f : FPort → FPort) : (s.updPort k f).preds = s.preds := rfl
@[simp] theorem State.updPort_secret (s : State) (k : Nat) (f : FPort → FPort) : (s.updPort k f).secret = s.secret := rfl
@[simp] theorem State.updPort_freeCtr (s : State) (k : Nat) (f : FPort → FPort) : (s.updPort k f).freeCtr = s.freeCtr := rfl
@[simp] theorem State.updPort_outs (s : State) (k : Nat) (f : FPort → FPort) : (s.updPort k f).outs = s.outs := rfl
@[simp] theorem State.updPort_work (s : State) (k : Nat) (f : FPort → FPort) : (s.updPort k f).work = s.work := rfl
@[simp] theorem State.updPort_pending (s : State) (k : Nat) (f : FPort → FPort) : (s.updPort k f).pending = s.pending := rfl
@[simp] theorem State.updPort_eps (s : State) (k : Nat) (f : FPort → FPort) : (s.updPort k f).eps = s.eps := rfl
@[simp] theorem State.updPort_routes (s : State) (k : Nat) (f : FPort → FPort) : (s.updPort k f).routes = s.routes := rfl
@[simp] theorem State.updPort_doms (s : State) (k : Nat) (f : FPort → FPort) : (s.updPort k f).doms = s.doms := rfl
@[simp] theorem State.updPort_resps (s : State) (k : Nat) (f : FPort → FPort) : (s.updPort k f).resps = s.resps := rfl
@[simp] theorem State.updPort_rin (s : State) (k : Nat) (f : FPort → FPort) : (s.updPort k f).rin = s.rin := rfl
@[simp] theorem State.updPort_quiet (s : State) (k : Nat) (f : FPort → FPort) : (s.updPort k f).quiet = s.quiet := rfl
@[simp] theorem State.updPort_quietLeft (s : State) (k : Nat) (f : FPort → FPort) : (s.updPort k f).quietLeft = s.quietLeft := rfl
@[simp] theorem State.updPort_firstBnd (s : State) (k : Nat) (f : FPort → FPort) : (s.updPort k f).firstBnd = s.firstBnd := rfl
@[simp] theorem State.updPort_ctlSent (s : State) (k : Nat) (f : FPort → FPort) : (s.updPort k f).ctlSent = s.ctlSent := rfl
@[simp] theorem State.updPort_ctlWait (s : State) (k : Nat) (f : FPort → FPort) : (s.updPort k f).ctlWait = s.ctlWait := rfl
@[simp] theorem State.updPort_fports (s : State) (k : Nat) (f : FPort → FPort) : (s.updPort k f).fports = s.fports.upd k f := rfl
@[simp] theorem State.updPort_vlfsr (s : State) (k : Nat) (f : FPort → FPort) : (s.updPort k f).vlfsr = s.vlfsr := rfl
@[simp] theorem State.updPort_bankCopy (s : State) (k : Nat) (f : FPort → FPort) : (s.updPort k f).bankCopy = s.bankCopy := rfl
@[simp] theorem State.updPort_copyQ (s : State) (k : Nat) (f : FPort → FPort) : (s.updPort k f).copyQ = s.copyQ := rfl
@[simp] theorem State.updPort_grps (s : State) (k : Nat) (f : FPort → FPort) : (s.updPort k f).grps = s.grps := rfl
@[simp] theorem State.updPort_cvys (s : State) (k : Nat) (f : FPort → FPort) : (s.updPort k f).cvys = s.cvys := rfl
@[simp] theorem State.updPort_portCnt (s : State) (k : Nat) (f : FPort → FPort) : (s.updPort k f).portCnt = s.portCnt := rfl
@[simp] theorem State.updPort_roomQ (s : State) (k : Nat) (f : FPort → FPort) : (s.updPort k f).roomQ = s.roomQ := rfl
@[simp] theorem State.updPort_sync (s : State) (k : Nat) (f : FPort → FPort) : (s.updPort k f).sync = s.sync := rfl
@[simp] theorem State.updPort_syncTx (s : State) (k : Nat) (f : FPort → FPort) : (s.updPort k f).syncTx = s.syncTx := rfl
@[simp] theorem State.updPort_syncRx (s : State) (k : Nat) (f : FPort → FPort) : (s.updPort k f).syncRx = s.syncRx := rfl
@[simp] theorem State.updPort_tb (s : State) (k : Nat) (f : FPort → FPort) : (s.updPort k f).tb = s.tb := rfl
@[simp] theorem State.updPort_fmLeft (s : State) (k : Nat) (f : FPort → FPort) : (s.updPort k f).fmLeft = s.fmLeft := rfl
@[simp] theorem State.updPort_bwLeft (s : State) (k : Nat) (f : FPort → FPort) : (s.updPort k f).bwLeft = s.bwLeft := rfl
@[simp] theorem State.updPort_bwBase (s : State) (k : Nat) (f : FPort → FPort) : (s.updPort k f).bwBase = s.bwBase := rfl
@[simp] theorem State.updPort_clkHold (s : State) (k : Nat) (f : FPort → FPort) : (s.updPort k f).clkHold = s.clkHold := rfl
@[simp] theorem State.updPort_locks (s : State) (k : Nat) (f : FPort → FPort) : (s.updPort k f).locks = s.locks := rfl
@[simp] theorem State.updPort_sess (s : State) (k : Nat) (f : FPort → FPort) : (s.updPort k f).sess = s.sess := rfl
@[simp] theorem State.updPort_ide (s : State) (k : Nat) (f : FPort → FPort) : (s.updPort k f).ide = s.ide := rfl
@[simp] theorem State.updPort_fmKey (s : State) (k : Nat) (f : FPort → FPort) : (s.updPort k f).fmKey = s.fmKey := rfl
@[simp] theorem State.updPort_mbxTag (s : State) (k : Nat) (f : FPort → FPort) : (s.updPort k f).mbxTag = s.mbxTag := rfl
@[simp] theorem State.updPort_mbxLeft (s : State) (k : Nat) (f : FPort → FPort) : (s.updPort k f).mbxLeft = s.mbxLeft := rfl
@[simp] theorem State.updPort_ledStart (s : State) (k : Nat) (f : FPort → FPort) : (s.updPort k f).ledStart = s.ledStart := rfl
@[simp] theorem State.updPort_ledMerged (s : State) (k : Nat) (f : FPort → FPort) : (s.updPort k f).ledMerged = s.ledMerged := rfl
@[simp] theorem State.updPort_ledDue (s : State) (k : Nat) (f : FPort → FPort) : (s.updPort k f).ledDue = s.ledDue := rfl
@[simp] theorem State.updPort_ledSeq (s : State) (k : Nat) (f : FPort → FPort) : (s.updPort k f).ledSeq = s.ledSeq := rfl
@[simp] theorem State.updPort_ledDoms (s : State) (k : Nat) (f : FPort → FPort) : (s.updPort k f).ledDoms = s.ledDoms := rfl
@[simp] theorem State.updPort_train (s : State) (k : Nat) (f : FPort → FPort) : (s.updPort k f).train = s.train := rfl
@[simp] theorem State.updPort_mods (s : State) (k : Nat) (f : FPort → FPort) : (s.updPort k f).mods = s.mods := rfl
@[simp] theorem State.updPort_cmisQ (s : State) (k : Nat) (f : FPort → FPort) : (s.updPort k f).cmisQ = s.cmisQ := rfl
@[simp] theorem State.updPort_cages (s : State) (k : Nat) (f : FPort → FPort) : (s.updPort k f).cages = s.cages := rfl
@[simp] theorem State.updPort_snap (s : State) (k : Nat) (f : FPort → FPort) : (s.updPort k f).snap = s.snap := rfl
@[simp] theorem State.updPort_snapSeq (s : State) (k : Nat) (f : FPort → FPort) : (s.updPort k f).snapSeq = s.snapSeq := rfl
@[simp] theorem State.updPort_snapSkip (s : State) (k : Nat) (f : FPort → FPort) : (s.updPort k f).snapSkip = s.snapSkip := rfl
@[simp] theorem State.updPort_snapOver (s : State) (k : Nat) (f : FPort → FPort) : (s.updPort k f).snapOver = s.snapOver := rfl
@[simp] theorem State.updPort_modeReq (s : State) (k : Nat) (f : FPort → FPort) : (s.updPort k f).modeReq = s.modeReq := rfl
@[simp] theorem State.updPort_commitReq (s : State) (k : Nat) (f : FPort → FPort) : (s.updPort k f).commitReq = s.commitReq := rfl
@[simp] theorem State.updPort_retDue (s : State) (k : Nat) (f : FPort → FPort) : (s.updPort k f).retDue = s.retDue := rfl
@[simp] theorem State.updPort_pdLeft (s : State) (k : Nat) (f : FPort → FPort) : (s.updPort k f).pdLeft = s.pdLeft := rfl
@[simp] theorem State.updPort_pdOver (s : State) (k : Nat) (f : FPort → FPort) : (s.updPort k f).pdOver = s.pdOver := rfl
@[simp] theorem State.updPort_hold (s : State) (k : Nat) (f : FPort → FPort) : (s.updPort k f).hold = s.hold := rfl
@[simp] theorem State.updPort_railBad (s : State) (k : Nat) (f : FPort → FPort) : (s.updPort k f).railBad = s.railBad := rfl
@[simp] theorem State.updPort_slew (s : State) (k : Nat) (f : FPort → FPort) : (s.updPort k f).slew = s.slew := rfl
@[simp] theorem State.updPort_stageSeen (s : State) (k : Nat) (f : FPort → FPort) : (s.updPort k f).stageSeen = s.stageSeen := rfl
@[simp] theorem State.updPort_overruns (s : State) (k : Nat) (f : FPort → FPort) : (s.updPort k f).overruns = s.overruns := rfl

/-! ### updTx -/

@[simp] theorem State.updTx_regs (s : State) (k : Nat) (f : PairTx → PairTx) : (s.updTx k f).regs = s.regs := rfl
@[simp] theorem State.updTx_spend (s : State) (k : Nat) (f : PairTx → PairTx) : (s.updTx k f).spend = s.spend := rfl
@[simp] theorem State.updTx_smask (s : State) (k : Nat) (f : PairTx → PairTx) : (s.updTx k f).smask = s.smask := rfl
@[simp] theorem State.updTx_hist (s : State) (k : Nat) (f : PairTx → PairTx) : (s.updTx k f).hist = s.hist := rfl
@[simp] theorem State.updTx_first (s : State) (k : Nat) (f : PairTx → PairTx) : (s.updTx k f).first = s.first := rfl
@[simp] theorem State.updTx_active (s : State) (k : Nat) (f : PairTx → PairTx) : (s.updTx k f).active = s.active := rfl
@[simp] theorem State.updTx_fltIrq (s : State) (k : Nat) (f : PairTx → PairTx) : (s.updTx k f).fltIrq = s.fltIrq := rfl
@[simp] theorem State.updTx_fltDefer (s : State) (k : Nat) (f : PairTx → PairTx) : (s.updTx k f).fltDefer = s.fltDefer := rfl
@[simp] theorem State.updTx_fns (s : State) (k : Nat) (f : PairTx → PairTx) : (s.updTx k f).fns = s.fns := rfl
@[simp] theorem State.updTx_ports (s : State) (k : Nat) (f : PairTx → PairTx) : (s.updTx k f).ports = s.ports := rfl
@[simp] theorem State.updTx_runs (s : State) (k : Nat) (f : PairTx → PairTx) : (s.updTx k f).runs = s.runs := rfl
@[simp] theorem State.updTx_gens (s : State) (k : Nat) (f : PairTx → PairTx) : (s.updTx k f).gens = s.gens := rfl
@[simp] theorem State.updTx_readyCtr (s : State) (k : Nat) (f : PairTx → PairTx) : (s.updTx k f).readyCtr = s.readyCtr := rfl
@[simp] theorem State.updTx_pcache (s : State) (k : Nat) (f : PairTx → PairTx) : (s.updTx k f).pcache = s.pcache := rfl
@[simp] theorem State.updTx_fenced (s : State) (k : Nat) (f : PairTx → PairTx) : (s.updTx k f).fenced = s.fenced := rfl
@[simp] theorem State.updTx_ops (s : State) (k : Nat) (f : PairTx → PairTx) : (s.updTx k f).ops = s.ops := rfl
@[simp] theorem State.updTx_wqs (s : State) (k : Nat) (f : PairTx → PairTx) : (s.updTx k f).wqs = s.wqs := rfl
@[simp] theorem State.updTx_eqs (s : State) (k : Nat) (f : PairTx → PairTx) : (s.updTx k f).eqs = s.eqs := rfl
@[simp] theorem State.updTx_ctrs (s : State) (k : Nat) (f : PairTx → PairTx) : (s.updTx k f).ctrs = s.ctrs := rfl
@[simp] theorem State.updTx_pas (s : State) (k : Nat) (f : PairTx → PairTx) : (s.updTx k f).pas = s.pas := rfl
@[simp] theorem State.updTx_tlb (s : State) (k : Nat) (f : PairTx → PairTx) : (s.updTx k f).tlb = s.tlb := rfl
@[simp] theorem State.updTx_walks (s : State) (k : Nat) (f : PairTx → PairTx) : (s.updTx k f).walks = s.walks := rfl
@[simp] theorem State.updTx_accs (s : State) (k : Nat) (f : PairTx → PairTx) : (s.updTx k f).accs = s.accs := rfl
@[simp] theorem State.updTx_invals (s : State) (k : Nat) (f : PairTx → PairTx) : (s.updTx k f).invals = s.invals := rfl
@[simp] theorem State.updTx_nextId (s : State) (k : Nat) (f : PairTx → PairTx) : (s.updTx k f).nextId = s.nextId := rfl
@[simp] theorem State.updTx_chans (s : State) (k : Nat) (f : PairTx → PairTx) : (s.updTx k f).chans = s.chans := rfl
@[simp] theorem State.updTx_unbound (s : State) (k : Nat) (f : PairTx → PairTx) : (s.updTx k f).unbound = s.unbound := rfl
@[simp] theorem State.updTx_tolls (s : State) (k : Nat) (f : PairTx → PairTx) : (s.updTx k f).tolls = s.tolls := rfl
@[simp] theorem State.updTx_inj (s : State) (k : Nat) (f : PairTx → PairTx) : (s.updTx k f).inj = s.inj := rfl
@[simp] theorem State.updTx_samp (s : State) (k : Nat) (f : PairTx → PairTx) : (s.updTx k f).samp = s.samp := rfl
@[simp] theorem State.updTx_ptx (s : State) (k : Nat) (f : PairTx → PairTx) : (s.updTx k f).ptx = s.ptx.upd k f := rfl
@[simp] theorem State.updTx_prx (s : State) (k : Nat) (f : PairTx → PairTx) : (s.updTx k f).prx = s.prx := rfl
@[simp] theorem State.updTx_peerInc (s : State) (k : Nat) (f : PairTx → PairTx) : (s.updTx k f).peerInc = s.peerInc := rfl
@[simp] theorem State.updTx_kcache (s : State) (k : Nat) (f : PairTx → PairTx) : (s.updTx k f).kcache = s.kcache := rfl
@[simp] theorem State.updTx_kuse (s : State) (k : Nat) (f : PairTx → PairTx) : (s.updTx k f).kuse = s.kuse := rfl
@[simp] theorem State.updTx_kwait (s : State) (k : Nat) (f : PairTx → PairTx) : (s.updTx k f).kwait = s.kwait := rfl
@[simp] theorem State.updTx_lines (s : State) (k : Nat) (f : PairTx → PairTx) : (s.updTx k f).lines = s.lines := rfl
@[simp] theorem State.updTx_amoRes (s : State) (k : Nat) (f : PairTx → PairTx) : (s.updTx k f).amoRes = s.amoRes := rfl
@[simp] theorem State.updTx_mctx (s : State) (k : Nat) (f : PairTx → PairTx) : (s.updTx k f).mctx = s.mctx := rfl
@[simp] theorem State.updTx_msgs (s : State) (k : Nat) (f : PairTx → PairTx) : (s.updTx k f).msgs = s.msgs := rfl
@[simp] theorem State.updTx_preds (s : State) (k : Nat) (f : PairTx → PairTx) : (s.updTx k f).preds = s.preds := rfl
@[simp] theorem State.updTx_secret (s : State) (k : Nat) (f : PairTx → PairTx) : (s.updTx k f).secret = s.secret := rfl
@[simp] theorem State.updTx_freeCtr (s : State) (k : Nat) (f : PairTx → PairTx) : (s.updTx k f).freeCtr = s.freeCtr := rfl
@[simp] theorem State.updTx_outs (s : State) (k : Nat) (f : PairTx → PairTx) : (s.updTx k f).outs = s.outs := rfl
@[simp] theorem State.updTx_work (s : State) (k : Nat) (f : PairTx → PairTx) : (s.updTx k f).work = s.work := rfl
@[simp] theorem State.updTx_pending (s : State) (k : Nat) (f : PairTx → PairTx) : (s.updTx k f).pending = s.pending := rfl
@[simp] theorem State.updTx_eps (s : State) (k : Nat) (f : PairTx → PairTx) : (s.updTx k f).eps = s.eps := rfl
@[simp] theorem State.updTx_routes (s : State) (k : Nat) (f : PairTx → PairTx) : (s.updTx k f).routes = s.routes := rfl
@[simp] theorem State.updTx_doms (s : State) (k : Nat) (f : PairTx → PairTx) : (s.updTx k f).doms = s.doms := rfl
@[simp] theorem State.updTx_resps (s : State) (k : Nat) (f : PairTx → PairTx) : (s.updTx k f).resps = s.resps := rfl
@[simp] theorem State.updTx_rin (s : State) (k : Nat) (f : PairTx → PairTx) : (s.updTx k f).rin = s.rin := rfl
@[simp] theorem State.updTx_quiet (s : State) (k : Nat) (f : PairTx → PairTx) : (s.updTx k f).quiet = s.quiet := rfl
@[simp] theorem State.updTx_quietLeft (s : State) (k : Nat) (f : PairTx → PairTx) : (s.updTx k f).quietLeft = s.quietLeft := rfl
@[simp] theorem State.updTx_firstBnd (s : State) (k : Nat) (f : PairTx → PairTx) : (s.updTx k f).firstBnd = s.firstBnd := rfl
@[simp] theorem State.updTx_ctlSent (s : State) (k : Nat) (f : PairTx → PairTx) : (s.updTx k f).ctlSent = s.ctlSent := rfl
@[simp] theorem State.updTx_ctlWait (s : State) (k : Nat) (f : PairTx → PairTx) : (s.updTx k f).ctlWait = s.ctlWait := rfl
@[simp] theorem State.updTx_fports (s : State) (k : Nat) (f : PairTx → PairTx) : (s.updTx k f).fports = s.fports := rfl
@[simp] theorem State.updTx_vlfsr (s : State) (k : Nat) (f : PairTx → PairTx) : (s.updTx k f).vlfsr = s.vlfsr := rfl
@[simp] theorem State.updTx_bankCopy (s : State) (k : Nat) (f : PairTx → PairTx) : (s.updTx k f).bankCopy = s.bankCopy := rfl
@[simp] theorem State.updTx_copyQ (s : State) (k : Nat) (f : PairTx → PairTx) : (s.updTx k f).copyQ = s.copyQ := rfl
@[simp] theorem State.updTx_grps (s : State) (k : Nat) (f : PairTx → PairTx) : (s.updTx k f).grps = s.grps := rfl
@[simp] theorem State.updTx_cvys (s : State) (k : Nat) (f : PairTx → PairTx) : (s.updTx k f).cvys = s.cvys := rfl
@[simp] theorem State.updTx_portCnt (s : State) (k : Nat) (f : PairTx → PairTx) : (s.updTx k f).portCnt = s.portCnt := rfl
@[simp] theorem State.updTx_roomQ (s : State) (k : Nat) (f : PairTx → PairTx) : (s.updTx k f).roomQ = s.roomQ := rfl
@[simp] theorem State.updTx_sync (s : State) (k : Nat) (f : PairTx → PairTx) : (s.updTx k f).sync = s.sync := rfl
@[simp] theorem State.updTx_syncTx (s : State) (k : Nat) (f : PairTx → PairTx) : (s.updTx k f).syncTx = s.syncTx := rfl
@[simp] theorem State.updTx_syncRx (s : State) (k : Nat) (f : PairTx → PairTx) : (s.updTx k f).syncRx = s.syncRx := rfl
@[simp] theorem State.updTx_tb (s : State) (k : Nat) (f : PairTx → PairTx) : (s.updTx k f).tb = s.tb := rfl
@[simp] theorem State.updTx_fmLeft (s : State) (k : Nat) (f : PairTx → PairTx) : (s.updTx k f).fmLeft = s.fmLeft := rfl
@[simp] theorem State.updTx_bwLeft (s : State) (k : Nat) (f : PairTx → PairTx) : (s.updTx k f).bwLeft = s.bwLeft := rfl
@[simp] theorem State.updTx_bwBase (s : State) (k : Nat) (f : PairTx → PairTx) : (s.updTx k f).bwBase = s.bwBase := rfl
@[simp] theorem State.updTx_clkHold (s : State) (k : Nat) (f : PairTx → PairTx) : (s.updTx k f).clkHold = s.clkHold := rfl
@[simp] theorem State.updTx_locks (s : State) (k : Nat) (f : PairTx → PairTx) : (s.updTx k f).locks = s.locks := rfl
@[simp] theorem State.updTx_sess (s : State) (k : Nat) (f : PairTx → PairTx) : (s.updTx k f).sess = s.sess := rfl
@[simp] theorem State.updTx_ide (s : State) (k : Nat) (f : PairTx → PairTx) : (s.updTx k f).ide = s.ide := rfl
@[simp] theorem State.updTx_fmKey (s : State) (k : Nat) (f : PairTx → PairTx) : (s.updTx k f).fmKey = s.fmKey := rfl
@[simp] theorem State.updTx_mbxTag (s : State) (k : Nat) (f : PairTx → PairTx) : (s.updTx k f).mbxTag = s.mbxTag := rfl
@[simp] theorem State.updTx_mbxLeft (s : State) (k : Nat) (f : PairTx → PairTx) : (s.updTx k f).mbxLeft = s.mbxLeft := rfl
@[simp] theorem State.updTx_ledStart (s : State) (k : Nat) (f : PairTx → PairTx) : (s.updTx k f).ledStart = s.ledStart := rfl
@[simp] theorem State.updTx_ledMerged (s : State) (k : Nat) (f : PairTx → PairTx) : (s.updTx k f).ledMerged = s.ledMerged := rfl
@[simp] theorem State.updTx_ledDue (s : State) (k : Nat) (f : PairTx → PairTx) : (s.updTx k f).ledDue = s.ledDue := rfl
@[simp] theorem State.updTx_ledSeq (s : State) (k : Nat) (f : PairTx → PairTx) : (s.updTx k f).ledSeq = s.ledSeq := rfl
@[simp] theorem State.updTx_ledDoms (s : State) (k : Nat) (f : PairTx → PairTx) : (s.updTx k f).ledDoms = s.ledDoms := rfl
@[simp] theorem State.updTx_train (s : State) (k : Nat) (f : PairTx → PairTx) : (s.updTx k f).train = s.train := rfl
@[simp] theorem State.updTx_mods (s : State) (k : Nat) (f : PairTx → PairTx) : (s.updTx k f).mods = s.mods := rfl
@[simp] theorem State.updTx_cmisQ (s : State) (k : Nat) (f : PairTx → PairTx) : (s.updTx k f).cmisQ = s.cmisQ := rfl
@[simp] theorem State.updTx_cages (s : State) (k : Nat) (f : PairTx → PairTx) : (s.updTx k f).cages = s.cages := rfl
@[simp] theorem State.updTx_snap (s : State) (k : Nat) (f : PairTx → PairTx) : (s.updTx k f).snap = s.snap := rfl
@[simp] theorem State.updTx_snapSeq (s : State) (k : Nat) (f : PairTx → PairTx) : (s.updTx k f).snapSeq = s.snapSeq := rfl
@[simp] theorem State.updTx_snapSkip (s : State) (k : Nat) (f : PairTx → PairTx) : (s.updTx k f).snapSkip = s.snapSkip := rfl
@[simp] theorem State.updTx_snapOver (s : State) (k : Nat) (f : PairTx → PairTx) : (s.updTx k f).snapOver = s.snapOver := rfl
@[simp] theorem State.updTx_modeReq (s : State) (k : Nat) (f : PairTx → PairTx) : (s.updTx k f).modeReq = s.modeReq := rfl
@[simp] theorem State.updTx_commitReq (s : State) (k : Nat) (f : PairTx → PairTx) : (s.updTx k f).commitReq = s.commitReq := rfl
@[simp] theorem State.updTx_retDue (s : State) (k : Nat) (f : PairTx → PairTx) : (s.updTx k f).retDue = s.retDue := rfl
@[simp] theorem State.updTx_pdLeft (s : State) (k : Nat) (f : PairTx → PairTx) : (s.updTx k f).pdLeft = s.pdLeft := rfl
@[simp] theorem State.updTx_pdOver (s : State) (k : Nat) (f : PairTx → PairTx) : (s.updTx k f).pdOver = s.pdOver := rfl
@[simp] theorem State.updTx_hold (s : State) (k : Nat) (f : PairTx → PairTx) : (s.updTx k f).hold = s.hold := rfl
@[simp] theorem State.updTx_railBad (s : State) (k : Nat) (f : PairTx → PairTx) : (s.updTx k f).railBad = s.railBad := rfl
@[simp] theorem State.updTx_slew (s : State) (k : Nat) (f : PairTx → PairTx) : (s.updTx k f).slew = s.slew := rfl
@[simp] theorem State.updTx_stageSeen (s : State) (k : Nat) (f : PairTx → PairTx) : (s.updTx k f).stageSeen = s.stageSeen := rfl
@[simp] theorem State.updTx_overruns (s : State) (k : Nat) (f : PairTx → PairTx) : (s.updTx k f).overruns = s.overruns := rfl

/-! ### updRx -/

@[simp] theorem State.updRx_regs (s : State) (k : Nat) (f : PairRx → PairRx) : (s.updRx k f).regs = s.regs := rfl
@[simp] theorem State.updRx_spend (s : State) (k : Nat) (f : PairRx → PairRx) : (s.updRx k f).spend = s.spend := rfl
@[simp] theorem State.updRx_smask (s : State) (k : Nat) (f : PairRx → PairRx) : (s.updRx k f).smask = s.smask := rfl
@[simp] theorem State.updRx_hist (s : State) (k : Nat) (f : PairRx → PairRx) : (s.updRx k f).hist = s.hist := rfl
@[simp] theorem State.updRx_first (s : State) (k : Nat) (f : PairRx → PairRx) : (s.updRx k f).first = s.first := rfl
@[simp] theorem State.updRx_active (s : State) (k : Nat) (f : PairRx → PairRx) : (s.updRx k f).active = s.active := rfl
@[simp] theorem State.updRx_fltIrq (s : State) (k : Nat) (f : PairRx → PairRx) : (s.updRx k f).fltIrq = s.fltIrq := rfl
@[simp] theorem State.updRx_fltDefer (s : State) (k : Nat) (f : PairRx → PairRx) : (s.updRx k f).fltDefer = s.fltDefer := rfl
@[simp] theorem State.updRx_fns (s : State) (k : Nat) (f : PairRx → PairRx) : (s.updRx k f).fns = s.fns := rfl
@[simp] theorem State.updRx_ports (s : State) (k : Nat) (f : PairRx → PairRx) : (s.updRx k f).ports = s.ports := rfl
@[simp] theorem State.updRx_runs (s : State) (k : Nat) (f : PairRx → PairRx) : (s.updRx k f).runs = s.runs := rfl
@[simp] theorem State.updRx_gens (s : State) (k : Nat) (f : PairRx → PairRx) : (s.updRx k f).gens = s.gens := rfl
@[simp] theorem State.updRx_readyCtr (s : State) (k : Nat) (f : PairRx → PairRx) : (s.updRx k f).readyCtr = s.readyCtr := rfl
@[simp] theorem State.updRx_pcache (s : State) (k : Nat) (f : PairRx → PairRx) : (s.updRx k f).pcache = s.pcache := rfl
@[simp] theorem State.updRx_fenced (s : State) (k : Nat) (f : PairRx → PairRx) : (s.updRx k f).fenced = s.fenced := rfl
@[simp] theorem State.updRx_ops (s : State) (k : Nat) (f : PairRx → PairRx) : (s.updRx k f).ops = s.ops := rfl
@[simp] theorem State.updRx_wqs (s : State) (k : Nat) (f : PairRx → PairRx) : (s.updRx k f).wqs = s.wqs := rfl
@[simp] theorem State.updRx_eqs (s : State) (k : Nat) (f : PairRx → PairRx) : (s.updRx k f).eqs = s.eqs := rfl
@[simp] theorem State.updRx_ctrs (s : State) (k : Nat) (f : PairRx → PairRx) : (s.updRx k f).ctrs = s.ctrs := rfl
@[simp] theorem State.updRx_pas (s : State) (k : Nat) (f : PairRx → PairRx) : (s.updRx k f).pas = s.pas := rfl
@[simp] theorem State.updRx_tlb (s : State) (k : Nat) (f : PairRx → PairRx) : (s.updRx k f).tlb = s.tlb := rfl
@[simp] theorem State.updRx_walks (s : State) (k : Nat) (f : PairRx → PairRx) : (s.updRx k f).walks = s.walks := rfl
@[simp] theorem State.updRx_accs (s : State) (k : Nat) (f : PairRx → PairRx) : (s.updRx k f).accs = s.accs := rfl
@[simp] theorem State.updRx_invals (s : State) (k : Nat) (f : PairRx → PairRx) : (s.updRx k f).invals = s.invals := rfl
@[simp] theorem State.updRx_nextId (s : State) (k : Nat) (f : PairRx → PairRx) : (s.updRx k f).nextId = s.nextId := rfl
@[simp] theorem State.updRx_chans (s : State) (k : Nat) (f : PairRx → PairRx) : (s.updRx k f).chans = s.chans := rfl
@[simp] theorem State.updRx_unbound (s : State) (k : Nat) (f : PairRx → PairRx) : (s.updRx k f).unbound = s.unbound := rfl
@[simp] theorem State.updRx_tolls (s : State) (k : Nat) (f : PairRx → PairRx) : (s.updRx k f).tolls = s.tolls := rfl
@[simp] theorem State.updRx_inj (s : State) (k : Nat) (f : PairRx → PairRx) : (s.updRx k f).inj = s.inj := rfl
@[simp] theorem State.updRx_samp (s : State) (k : Nat) (f : PairRx → PairRx) : (s.updRx k f).samp = s.samp := rfl
@[simp] theorem State.updRx_ptx (s : State) (k : Nat) (f : PairRx → PairRx) : (s.updRx k f).ptx = s.ptx := rfl
@[simp] theorem State.updRx_prx (s : State) (k : Nat) (f : PairRx → PairRx) : (s.updRx k f).prx = s.prx.upd k f := rfl
@[simp] theorem State.updRx_peerInc (s : State) (k : Nat) (f : PairRx → PairRx) : (s.updRx k f).peerInc = s.peerInc := rfl
@[simp] theorem State.updRx_kcache (s : State) (k : Nat) (f : PairRx → PairRx) : (s.updRx k f).kcache = s.kcache := rfl
@[simp] theorem State.updRx_kuse (s : State) (k : Nat) (f : PairRx → PairRx) : (s.updRx k f).kuse = s.kuse := rfl
@[simp] theorem State.updRx_kwait (s : State) (k : Nat) (f : PairRx → PairRx) : (s.updRx k f).kwait = s.kwait := rfl
@[simp] theorem State.updRx_lines (s : State) (k : Nat) (f : PairRx → PairRx) : (s.updRx k f).lines = s.lines := rfl
@[simp] theorem State.updRx_amoRes (s : State) (k : Nat) (f : PairRx → PairRx) : (s.updRx k f).amoRes = s.amoRes := rfl
@[simp] theorem State.updRx_mctx (s : State) (k : Nat) (f : PairRx → PairRx) : (s.updRx k f).mctx = s.mctx := rfl
@[simp] theorem State.updRx_msgs (s : State) (k : Nat) (f : PairRx → PairRx) : (s.updRx k f).msgs = s.msgs := rfl
@[simp] theorem State.updRx_preds (s : State) (k : Nat) (f : PairRx → PairRx) : (s.updRx k f).preds = s.preds := rfl
@[simp] theorem State.updRx_secret (s : State) (k : Nat) (f : PairRx → PairRx) : (s.updRx k f).secret = s.secret := rfl
@[simp] theorem State.updRx_freeCtr (s : State) (k : Nat) (f : PairRx → PairRx) : (s.updRx k f).freeCtr = s.freeCtr := rfl
@[simp] theorem State.updRx_outs (s : State) (k : Nat) (f : PairRx → PairRx) : (s.updRx k f).outs = s.outs := rfl
@[simp] theorem State.updRx_work (s : State) (k : Nat) (f : PairRx → PairRx) : (s.updRx k f).work = s.work := rfl
@[simp] theorem State.updRx_pending (s : State) (k : Nat) (f : PairRx → PairRx) : (s.updRx k f).pending = s.pending := rfl
@[simp] theorem State.updRx_eps (s : State) (k : Nat) (f : PairRx → PairRx) : (s.updRx k f).eps = s.eps := rfl
@[simp] theorem State.updRx_routes (s : State) (k : Nat) (f : PairRx → PairRx) : (s.updRx k f).routes = s.routes := rfl
@[simp] theorem State.updRx_doms (s : State) (k : Nat) (f : PairRx → PairRx) : (s.updRx k f).doms = s.doms := rfl
@[simp] theorem State.updRx_resps (s : State) (k : Nat) (f : PairRx → PairRx) : (s.updRx k f).resps = s.resps := rfl
@[simp] theorem State.updRx_rin (s : State) (k : Nat) (f : PairRx → PairRx) : (s.updRx k f).rin = s.rin := rfl
@[simp] theorem State.updRx_quiet (s : State) (k : Nat) (f : PairRx → PairRx) : (s.updRx k f).quiet = s.quiet := rfl
@[simp] theorem State.updRx_quietLeft (s : State) (k : Nat) (f : PairRx → PairRx) : (s.updRx k f).quietLeft = s.quietLeft := rfl
@[simp] theorem State.updRx_firstBnd (s : State) (k : Nat) (f : PairRx → PairRx) : (s.updRx k f).firstBnd = s.firstBnd := rfl
@[simp] theorem State.updRx_ctlSent (s : State) (k : Nat) (f : PairRx → PairRx) : (s.updRx k f).ctlSent = s.ctlSent := rfl
@[simp] theorem State.updRx_ctlWait (s : State) (k : Nat) (f : PairRx → PairRx) : (s.updRx k f).ctlWait = s.ctlWait := rfl
@[simp] theorem State.updRx_fports (s : State) (k : Nat) (f : PairRx → PairRx) : (s.updRx k f).fports = s.fports := rfl
@[simp] theorem State.updRx_vlfsr (s : State) (k : Nat) (f : PairRx → PairRx) : (s.updRx k f).vlfsr = s.vlfsr := rfl
@[simp] theorem State.updRx_bankCopy (s : State) (k : Nat) (f : PairRx → PairRx) : (s.updRx k f).bankCopy = s.bankCopy := rfl
@[simp] theorem State.updRx_copyQ (s : State) (k : Nat) (f : PairRx → PairRx) : (s.updRx k f).copyQ = s.copyQ := rfl
@[simp] theorem State.updRx_grps (s : State) (k : Nat) (f : PairRx → PairRx) : (s.updRx k f).grps = s.grps := rfl
@[simp] theorem State.updRx_cvys (s : State) (k : Nat) (f : PairRx → PairRx) : (s.updRx k f).cvys = s.cvys := rfl
@[simp] theorem State.updRx_portCnt (s : State) (k : Nat) (f : PairRx → PairRx) : (s.updRx k f).portCnt = s.portCnt := rfl
@[simp] theorem State.updRx_roomQ (s : State) (k : Nat) (f : PairRx → PairRx) : (s.updRx k f).roomQ = s.roomQ := rfl
@[simp] theorem State.updRx_sync (s : State) (k : Nat) (f : PairRx → PairRx) : (s.updRx k f).sync = s.sync := rfl
@[simp] theorem State.updRx_syncTx (s : State) (k : Nat) (f : PairRx → PairRx) : (s.updRx k f).syncTx = s.syncTx := rfl
@[simp] theorem State.updRx_syncRx (s : State) (k : Nat) (f : PairRx → PairRx) : (s.updRx k f).syncRx = s.syncRx := rfl
@[simp] theorem State.updRx_tb (s : State) (k : Nat) (f : PairRx → PairRx) : (s.updRx k f).tb = s.tb := rfl
@[simp] theorem State.updRx_fmLeft (s : State) (k : Nat) (f : PairRx → PairRx) : (s.updRx k f).fmLeft = s.fmLeft := rfl
@[simp] theorem State.updRx_bwLeft (s : State) (k : Nat) (f : PairRx → PairRx) : (s.updRx k f).bwLeft = s.bwLeft := rfl
@[simp] theorem State.updRx_bwBase (s : State) (k : Nat) (f : PairRx → PairRx) : (s.updRx k f).bwBase = s.bwBase := rfl
@[simp] theorem State.updRx_clkHold (s : State) (k : Nat) (f : PairRx → PairRx) : (s.updRx k f).clkHold = s.clkHold := rfl
@[simp] theorem State.updRx_locks (s : State) (k : Nat) (f : PairRx → PairRx) : (s.updRx k f).locks = s.locks := rfl
@[simp] theorem State.updRx_sess (s : State) (k : Nat) (f : PairRx → PairRx) : (s.updRx k f).sess = s.sess := rfl
@[simp] theorem State.updRx_ide (s : State) (k : Nat) (f : PairRx → PairRx) : (s.updRx k f).ide = s.ide := rfl
@[simp] theorem State.updRx_fmKey (s : State) (k : Nat) (f : PairRx → PairRx) : (s.updRx k f).fmKey = s.fmKey := rfl
@[simp] theorem State.updRx_mbxTag (s : State) (k : Nat) (f : PairRx → PairRx) : (s.updRx k f).mbxTag = s.mbxTag := rfl
@[simp] theorem State.updRx_mbxLeft (s : State) (k : Nat) (f : PairRx → PairRx) : (s.updRx k f).mbxLeft = s.mbxLeft := rfl
@[simp] theorem State.updRx_ledStart (s : State) (k : Nat) (f : PairRx → PairRx) : (s.updRx k f).ledStart = s.ledStart := rfl
@[simp] theorem State.updRx_ledMerged (s : State) (k : Nat) (f : PairRx → PairRx) : (s.updRx k f).ledMerged = s.ledMerged := rfl
@[simp] theorem State.updRx_ledDue (s : State) (k : Nat) (f : PairRx → PairRx) : (s.updRx k f).ledDue = s.ledDue := rfl
@[simp] theorem State.updRx_ledSeq (s : State) (k : Nat) (f : PairRx → PairRx) : (s.updRx k f).ledSeq = s.ledSeq := rfl
@[simp] theorem State.updRx_ledDoms (s : State) (k : Nat) (f : PairRx → PairRx) : (s.updRx k f).ledDoms = s.ledDoms := rfl
@[simp] theorem State.updRx_train (s : State) (k : Nat) (f : PairRx → PairRx) : (s.updRx k f).train = s.train := rfl
@[simp] theorem State.updRx_mods (s : State) (k : Nat) (f : PairRx → PairRx) : (s.updRx k f).mods = s.mods := rfl
@[simp] theorem State.updRx_cmisQ (s : State) (k : Nat) (f : PairRx → PairRx) : (s.updRx k f).cmisQ = s.cmisQ := rfl
@[simp] theorem State.updRx_cages (s : State) (k : Nat) (f : PairRx → PairRx) : (s.updRx k f).cages = s.cages := rfl
@[simp] theorem State.updRx_snap (s : State) (k : Nat) (f : PairRx → PairRx) : (s.updRx k f).snap = s.snap := rfl
@[simp] theorem State.updRx_snapSeq (s : State) (k : Nat) (f : PairRx → PairRx) : (s.updRx k f).snapSeq = s.snapSeq := rfl
@[simp] theorem State.updRx_snapSkip (s : State) (k : Nat) (f : PairRx → PairRx) : (s.updRx k f).snapSkip = s.snapSkip := rfl
@[simp] theorem State.updRx_snapOver (s : State) (k : Nat) (f : PairRx → PairRx) : (s.updRx k f).snapOver = s.snapOver := rfl
@[simp] theorem State.updRx_modeReq (s : State) (k : Nat) (f : PairRx → PairRx) : (s.updRx k f).modeReq = s.modeReq := rfl
@[simp] theorem State.updRx_commitReq (s : State) (k : Nat) (f : PairRx → PairRx) : (s.updRx k f).commitReq = s.commitReq := rfl
@[simp] theorem State.updRx_retDue (s : State) (k : Nat) (f : PairRx → PairRx) : (s.updRx k f).retDue = s.retDue := rfl
@[simp] theorem State.updRx_pdLeft (s : State) (k : Nat) (f : PairRx → PairRx) : (s.updRx k f).pdLeft = s.pdLeft := rfl
@[simp] theorem State.updRx_pdOver (s : State) (k : Nat) (f : PairRx → PairRx) : (s.updRx k f).pdOver = s.pdOver := rfl
@[simp] theorem State.updRx_hold (s : State) (k : Nat) (f : PairRx → PairRx) : (s.updRx k f).hold = s.hold := rfl
@[simp] theorem State.updRx_railBad (s : State) (k : Nat) (f : PairRx → PairRx) : (s.updRx k f).railBad = s.railBad := rfl
@[simp] theorem State.updRx_slew (s : State) (k : Nat) (f : PairRx → PairRx) : (s.updRx k f).slew = s.slew := rfl
@[simp] theorem State.updRx_stageSeen (s : State) (k : Nat) (f : PairRx → PairRx) : (s.updRx k f).stageSeen = s.stageSeen := rfl
@[simp] theorem State.updRx_overruns (s : State) (k : Nat) (f : PairRx → PairRx) : (s.updRx k f).overruns = s.overruns := rfl

/-! ### updChan -/

@[simp] theorem State.updChan_regs (s : State) (k : Nat) (f : Chan → Chan) : (s.updChan k f).regs = s.regs := rfl
@[simp] theorem State.updChan_spend (s : State) (k : Nat) (f : Chan → Chan) : (s.updChan k f).spend = s.spend := rfl
@[simp] theorem State.updChan_smask (s : State) (k : Nat) (f : Chan → Chan) : (s.updChan k f).smask = s.smask := rfl
@[simp] theorem State.updChan_hist (s : State) (k : Nat) (f : Chan → Chan) : (s.updChan k f).hist = s.hist := rfl
@[simp] theorem State.updChan_first (s : State) (k : Nat) (f : Chan → Chan) : (s.updChan k f).first = s.first := rfl
@[simp] theorem State.updChan_active (s : State) (k : Nat) (f : Chan → Chan) : (s.updChan k f).active = s.active := rfl
@[simp] theorem State.updChan_fltIrq (s : State) (k : Nat) (f : Chan → Chan) : (s.updChan k f).fltIrq = s.fltIrq := rfl
@[simp] theorem State.updChan_fltDefer (s : State) (k : Nat) (f : Chan → Chan) : (s.updChan k f).fltDefer = s.fltDefer := rfl
@[simp] theorem State.updChan_fns (s : State) (k : Nat) (f : Chan → Chan) : (s.updChan k f).fns = s.fns := rfl
@[simp] theorem State.updChan_ports (s : State) (k : Nat) (f : Chan → Chan) : (s.updChan k f).ports = s.ports := rfl
@[simp] theorem State.updChan_runs (s : State) (k : Nat) (f : Chan → Chan) : (s.updChan k f).runs = s.runs := rfl
@[simp] theorem State.updChan_gens (s : State) (k : Nat) (f : Chan → Chan) : (s.updChan k f).gens = s.gens := rfl
@[simp] theorem State.updChan_readyCtr (s : State) (k : Nat) (f : Chan → Chan) : (s.updChan k f).readyCtr = s.readyCtr := rfl
@[simp] theorem State.updChan_pcache (s : State) (k : Nat) (f : Chan → Chan) : (s.updChan k f).pcache = s.pcache := rfl
@[simp] theorem State.updChan_fenced (s : State) (k : Nat) (f : Chan → Chan) : (s.updChan k f).fenced = s.fenced := rfl
@[simp] theorem State.updChan_ops (s : State) (k : Nat) (f : Chan → Chan) : (s.updChan k f).ops = s.ops := rfl
@[simp] theorem State.updChan_wqs (s : State) (k : Nat) (f : Chan → Chan) : (s.updChan k f).wqs = s.wqs := rfl
@[simp] theorem State.updChan_eqs (s : State) (k : Nat) (f : Chan → Chan) : (s.updChan k f).eqs = s.eqs := rfl
@[simp] theorem State.updChan_ctrs (s : State) (k : Nat) (f : Chan → Chan) : (s.updChan k f).ctrs = s.ctrs := rfl
@[simp] theorem State.updChan_pas (s : State) (k : Nat) (f : Chan → Chan) : (s.updChan k f).pas = s.pas := rfl
@[simp] theorem State.updChan_tlb (s : State) (k : Nat) (f : Chan → Chan) : (s.updChan k f).tlb = s.tlb := rfl
@[simp] theorem State.updChan_walks (s : State) (k : Nat) (f : Chan → Chan) : (s.updChan k f).walks = s.walks := rfl
@[simp] theorem State.updChan_accs (s : State) (k : Nat) (f : Chan → Chan) : (s.updChan k f).accs = s.accs := rfl
@[simp] theorem State.updChan_invals (s : State) (k : Nat) (f : Chan → Chan) : (s.updChan k f).invals = s.invals := rfl
@[simp] theorem State.updChan_nextId (s : State) (k : Nat) (f : Chan → Chan) : (s.updChan k f).nextId = s.nextId := rfl
@[simp] theorem State.updChan_chans (s : State) (k : Nat) (f : Chan → Chan) : (s.updChan k f).chans = s.chans.upd k f := rfl
@[simp] theorem State.updChan_unbound (s : State) (k : Nat) (f : Chan → Chan) : (s.updChan k f).unbound = s.unbound := rfl
@[simp] theorem State.updChan_tolls (s : State) (k : Nat) (f : Chan → Chan) : (s.updChan k f).tolls = s.tolls := rfl
@[simp] theorem State.updChan_inj (s : State) (k : Nat) (f : Chan → Chan) : (s.updChan k f).inj = s.inj := rfl
@[simp] theorem State.updChan_samp (s : State) (k : Nat) (f : Chan → Chan) : (s.updChan k f).samp = s.samp := rfl
@[simp] theorem State.updChan_ptx (s : State) (k : Nat) (f : Chan → Chan) : (s.updChan k f).ptx = s.ptx := rfl
@[simp] theorem State.updChan_prx (s : State) (k : Nat) (f : Chan → Chan) : (s.updChan k f).prx = s.prx := rfl
@[simp] theorem State.updChan_peerInc (s : State) (k : Nat) (f : Chan → Chan) : (s.updChan k f).peerInc = s.peerInc := rfl
@[simp] theorem State.updChan_kcache (s : State) (k : Nat) (f : Chan → Chan) : (s.updChan k f).kcache = s.kcache := rfl
@[simp] theorem State.updChan_kuse (s : State) (k : Nat) (f : Chan → Chan) : (s.updChan k f).kuse = s.kuse := rfl
@[simp] theorem State.updChan_kwait (s : State) (k : Nat) (f : Chan → Chan) : (s.updChan k f).kwait = s.kwait := rfl
@[simp] theorem State.updChan_lines (s : State) (k : Nat) (f : Chan → Chan) : (s.updChan k f).lines = s.lines := rfl
@[simp] theorem State.updChan_amoRes (s : State) (k : Nat) (f : Chan → Chan) : (s.updChan k f).amoRes = s.amoRes := rfl
@[simp] theorem State.updChan_mctx (s : State) (k : Nat) (f : Chan → Chan) : (s.updChan k f).mctx = s.mctx := rfl
@[simp] theorem State.updChan_msgs (s : State) (k : Nat) (f : Chan → Chan) : (s.updChan k f).msgs = s.msgs := rfl
@[simp] theorem State.updChan_preds (s : State) (k : Nat) (f : Chan → Chan) : (s.updChan k f).preds = s.preds := rfl
@[simp] theorem State.updChan_secret (s : State) (k : Nat) (f : Chan → Chan) : (s.updChan k f).secret = s.secret := rfl
@[simp] theorem State.updChan_freeCtr (s : State) (k : Nat) (f : Chan → Chan) : (s.updChan k f).freeCtr = s.freeCtr := rfl
@[simp] theorem State.updChan_outs (s : State) (k : Nat) (f : Chan → Chan) : (s.updChan k f).outs = s.outs := rfl
@[simp] theorem State.updChan_work (s : State) (k : Nat) (f : Chan → Chan) : (s.updChan k f).work = s.work := rfl
@[simp] theorem State.updChan_pending (s : State) (k : Nat) (f : Chan → Chan) : (s.updChan k f).pending = s.pending := rfl
@[simp] theorem State.updChan_eps (s : State) (k : Nat) (f : Chan → Chan) : (s.updChan k f).eps = s.eps := rfl
@[simp] theorem State.updChan_routes (s : State) (k : Nat) (f : Chan → Chan) : (s.updChan k f).routes = s.routes := rfl
@[simp] theorem State.updChan_doms (s : State) (k : Nat) (f : Chan → Chan) : (s.updChan k f).doms = s.doms := rfl
@[simp] theorem State.updChan_resps (s : State) (k : Nat) (f : Chan → Chan) : (s.updChan k f).resps = s.resps := rfl
@[simp] theorem State.updChan_rin (s : State) (k : Nat) (f : Chan → Chan) : (s.updChan k f).rin = s.rin := rfl
@[simp] theorem State.updChan_quiet (s : State) (k : Nat) (f : Chan → Chan) : (s.updChan k f).quiet = s.quiet := rfl
@[simp] theorem State.updChan_quietLeft (s : State) (k : Nat) (f : Chan → Chan) : (s.updChan k f).quietLeft = s.quietLeft := rfl
@[simp] theorem State.updChan_firstBnd (s : State) (k : Nat) (f : Chan → Chan) : (s.updChan k f).firstBnd = s.firstBnd := rfl
@[simp] theorem State.updChan_ctlSent (s : State) (k : Nat) (f : Chan → Chan) : (s.updChan k f).ctlSent = s.ctlSent := rfl
@[simp] theorem State.updChan_ctlWait (s : State) (k : Nat) (f : Chan → Chan) : (s.updChan k f).ctlWait = s.ctlWait := rfl
@[simp] theorem State.updChan_fports (s : State) (k : Nat) (f : Chan → Chan) : (s.updChan k f).fports = s.fports := rfl
@[simp] theorem State.updChan_vlfsr (s : State) (k : Nat) (f : Chan → Chan) : (s.updChan k f).vlfsr = s.vlfsr := rfl
@[simp] theorem State.updChan_bankCopy (s : State) (k : Nat) (f : Chan → Chan) : (s.updChan k f).bankCopy = s.bankCopy := rfl
@[simp] theorem State.updChan_copyQ (s : State) (k : Nat) (f : Chan → Chan) : (s.updChan k f).copyQ = s.copyQ := rfl
@[simp] theorem State.updChan_grps (s : State) (k : Nat) (f : Chan → Chan) : (s.updChan k f).grps = s.grps := rfl
@[simp] theorem State.updChan_cvys (s : State) (k : Nat) (f : Chan → Chan) : (s.updChan k f).cvys = s.cvys := rfl
@[simp] theorem State.updChan_portCnt (s : State) (k : Nat) (f : Chan → Chan) : (s.updChan k f).portCnt = s.portCnt := rfl
@[simp] theorem State.updChan_roomQ (s : State) (k : Nat) (f : Chan → Chan) : (s.updChan k f).roomQ = s.roomQ := rfl
@[simp] theorem State.updChan_sync (s : State) (k : Nat) (f : Chan → Chan) : (s.updChan k f).sync = s.sync := rfl
@[simp] theorem State.updChan_syncTx (s : State) (k : Nat) (f : Chan → Chan) : (s.updChan k f).syncTx = s.syncTx := rfl
@[simp] theorem State.updChan_syncRx (s : State) (k : Nat) (f : Chan → Chan) : (s.updChan k f).syncRx = s.syncRx := rfl
@[simp] theorem State.updChan_tb (s : State) (k : Nat) (f : Chan → Chan) : (s.updChan k f).tb = s.tb := rfl
@[simp] theorem State.updChan_fmLeft (s : State) (k : Nat) (f : Chan → Chan) : (s.updChan k f).fmLeft = s.fmLeft := rfl
@[simp] theorem State.updChan_bwLeft (s : State) (k : Nat) (f : Chan → Chan) : (s.updChan k f).bwLeft = s.bwLeft := rfl
@[simp] theorem State.updChan_bwBase (s : State) (k : Nat) (f : Chan → Chan) : (s.updChan k f).bwBase = s.bwBase := rfl
@[simp] theorem State.updChan_clkHold (s : State) (k : Nat) (f : Chan → Chan) : (s.updChan k f).clkHold = s.clkHold := rfl
@[simp] theorem State.updChan_locks (s : State) (k : Nat) (f : Chan → Chan) : (s.updChan k f).locks = s.locks := rfl
@[simp] theorem State.updChan_sess (s : State) (k : Nat) (f : Chan → Chan) : (s.updChan k f).sess = s.sess := rfl
@[simp] theorem State.updChan_ide (s : State) (k : Nat) (f : Chan → Chan) : (s.updChan k f).ide = s.ide := rfl
@[simp] theorem State.updChan_fmKey (s : State) (k : Nat) (f : Chan → Chan) : (s.updChan k f).fmKey = s.fmKey := rfl
@[simp] theorem State.updChan_mbxTag (s : State) (k : Nat) (f : Chan → Chan) : (s.updChan k f).mbxTag = s.mbxTag := rfl
@[simp] theorem State.updChan_mbxLeft (s : State) (k : Nat) (f : Chan → Chan) : (s.updChan k f).mbxLeft = s.mbxLeft := rfl
@[simp] theorem State.updChan_ledStart (s : State) (k : Nat) (f : Chan → Chan) : (s.updChan k f).ledStart = s.ledStart := rfl
@[simp] theorem State.updChan_ledMerged (s : State) (k : Nat) (f : Chan → Chan) : (s.updChan k f).ledMerged = s.ledMerged := rfl
@[simp] theorem State.updChan_ledDue (s : State) (k : Nat) (f : Chan → Chan) : (s.updChan k f).ledDue = s.ledDue := rfl
@[simp] theorem State.updChan_ledSeq (s : State) (k : Nat) (f : Chan → Chan) : (s.updChan k f).ledSeq = s.ledSeq := rfl
@[simp] theorem State.updChan_ledDoms (s : State) (k : Nat) (f : Chan → Chan) : (s.updChan k f).ledDoms = s.ledDoms := rfl
@[simp] theorem State.updChan_train (s : State) (k : Nat) (f : Chan → Chan) : (s.updChan k f).train = s.train := rfl
@[simp] theorem State.updChan_mods (s : State) (k : Nat) (f : Chan → Chan) : (s.updChan k f).mods = s.mods := rfl
@[simp] theorem State.updChan_cmisQ (s : State) (k : Nat) (f : Chan → Chan) : (s.updChan k f).cmisQ = s.cmisQ := rfl
@[simp] theorem State.updChan_cages (s : State) (k : Nat) (f : Chan → Chan) : (s.updChan k f).cages = s.cages := rfl
@[simp] theorem State.updChan_snap (s : State) (k : Nat) (f : Chan → Chan) : (s.updChan k f).snap = s.snap := rfl
@[simp] theorem State.updChan_snapSeq (s : State) (k : Nat) (f : Chan → Chan) : (s.updChan k f).snapSeq = s.snapSeq := rfl
@[simp] theorem State.updChan_snapSkip (s : State) (k : Nat) (f : Chan → Chan) : (s.updChan k f).snapSkip = s.snapSkip := rfl
@[simp] theorem State.updChan_snapOver (s : State) (k : Nat) (f : Chan → Chan) : (s.updChan k f).snapOver = s.snapOver := rfl
@[simp] theorem State.updChan_modeReq (s : State) (k : Nat) (f : Chan → Chan) : (s.updChan k f).modeReq = s.modeReq := rfl
@[simp] theorem State.updChan_commitReq (s : State) (k : Nat) (f : Chan → Chan) : (s.updChan k f).commitReq = s.commitReq := rfl
@[simp] theorem State.updChan_retDue (s : State) (k : Nat) (f : Chan → Chan) : (s.updChan k f).retDue = s.retDue := rfl
@[simp] theorem State.updChan_pdLeft (s : State) (k : Nat) (f : Chan → Chan) : (s.updChan k f).pdLeft = s.pdLeft := rfl
@[simp] theorem State.updChan_pdOver (s : State) (k : Nat) (f : Chan → Chan) : (s.updChan k f).pdOver = s.pdOver := rfl
@[simp] theorem State.updChan_hold (s : State) (k : Nat) (f : Chan → Chan) : (s.updChan k f).hold = s.hold := rfl
@[simp] theorem State.updChan_railBad (s : State) (k : Nat) (f : Chan → Chan) : (s.updChan k f).railBad = s.railBad := rfl
@[simp] theorem State.updChan_slew (s : State) (k : Nat) (f : Chan → Chan) : (s.updChan k f).slew = s.slew := rfl
@[simp] theorem State.updChan_stageSeen (s : State) (k : Nat) (f : Chan → Chan) : (s.updChan k f).stageSeen = s.stageSeen := rfl
@[simp] theorem State.updChan_overruns (s : State) (k : Nat) (f : Chan → Chan) : (s.updChan k f).overruns = s.overruns := rfl

/-! ### updGrp -/

@[simp] theorem State.updGrp_regs (s : State) (k : Nat) (f : Cgrp → Cgrp) : (s.updGrp k f).regs = s.regs := rfl
@[simp] theorem State.updGrp_spend (s : State) (k : Nat) (f : Cgrp → Cgrp) : (s.updGrp k f).spend = s.spend := rfl
@[simp] theorem State.updGrp_smask (s : State) (k : Nat) (f : Cgrp → Cgrp) : (s.updGrp k f).smask = s.smask := rfl
@[simp] theorem State.updGrp_hist (s : State) (k : Nat) (f : Cgrp → Cgrp) : (s.updGrp k f).hist = s.hist := rfl
@[simp] theorem State.updGrp_first (s : State) (k : Nat) (f : Cgrp → Cgrp) : (s.updGrp k f).first = s.first := rfl
@[simp] theorem State.updGrp_active (s : State) (k : Nat) (f : Cgrp → Cgrp) : (s.updGrp k f).active = s.active := rfl
@[simp] theorem State.updGrp_fltIrq (s : State) (k : Nat) (f : Cgrp → Cgrp) : (s.updGrp k f).fltIrq = s.fltIrq := rfl
@[simp] theorem State.updGrp_fltDefer (s : State) (k : Nat) (f : Cgrp → Cgrp) : (s.updGrp k f).fltDefer = s.fltDefer := rfl
@[simp] theorem State.updGrp_fns (s : State) (k : Nat) (f : Cgrp → Cgrp) : (s.updGrp k f).fns = s.fns := rfl
@[simp] theorem State.updGrp_ports (s : State) (k : Nat) (f : Cgrp → Cgrp) : (s.updGrp k f).ports = s.ports := rfl
@[simp] theorem State.updGrp_runs (s : State) (k : Nat) (f : Cgrp → Cgrp) : (s.updGrp k f).runs = s.runs := rfl
@[simp] theorem State.updGrp_gens (s : State) (k : Nat) (f : Cgrp → Cgrp) : (s.updGrp k f).gens = s.gens := rfl
@[simp] theorem State.updGrp_readyCtr (s : State) (k : Nat) (f : Cgrp → Cgrp) : (s.updGrp k f).readyCtr = s.readyCtr := rfl
@[simp] theorem State.updGrp_pcache (s : State) (k : Nat) (f : Cgrp → Cgrp) : (s.updGrp k f).pcache = s.pcache := rfl
@[simp] theorem State.updGrp_fenced (s : State) (k : Nat) (f : Cgrp → Cgrp) : (s.updGrp k f).fenced = s.fenced := rfl
@[simp] theorem State.updGrp_ops (s : State) (k : Nat) (f : Cgrp → Cgrp) : (s.updGrp k f).ops = s.ops := rfl
@[simp] theorem State.updGrp_wqs (s : State) (k : Nat) (f : Cgrp → Cgrp) : (s.updGrp k f).wqs = s.wqs := rfl
@[simp] theorem State.updGrp_eqs (s : State) (k : Nat) (f : Cgrp → Cgrp) : (s.updGrp k f).eqs = s.eqs := rfl
@[simp] theorem State.updGrp_ctrs (s : State) (k : Nat) (f : Cgrp → Cgrp) : (s.updGrp k f).ctrs = s.ctrs := rfl
@[simp] theorem State.updGrp_pas (s : State) (k : Nat) (f : Cgrp → Cgrp) : (s.updGrp k f).pas = s.pas := rfl
@[simp] theorem State.updGrp_tlb (s : State) (k : Nat) (f : Cgrp → Cgrp) : (s.updGrp k f).tlb = s.tlb := rfl
@[simp] theorem State.updGrp_walks (s : State) (k : Nat) (f : Cgrp → Cgrp) : (s.updGrp k f).walks = s.walks := rfl
@[simp] theorem State.updGrp_accs (s : State) (k : Nat) (f : Cgrp → Cgrp) : (s.updGrp k f).accs = s.accs := rfl
@[simp] theorem State.updGrp_invals (s : State) (k : Nat) (f : Cgrp → Cgrp) : (s.updGrp k f).invals = s.invals := rfl
@[simp] theorem State.updGrp_nextId (s : State) (k : Nat) (f : Cgrp → Cgrp) : (s.updGrp k f).nextId = s.nextId := rfl
@[simp] theorem State.updGrp_chans (s : State) (k : Nat) (f : Cgrp → Cgrp) : (s.updGrp k f).chans = s.chans := rfl
@[simp] theorem State.updGrp_unbound (s : State) (k : Nat) (f : Cgrp → Cgrp) : (s.updGrp k f).unbound = s.unbound := rfl
@[simp] theorem State.updGrp_tolls (s : State) (k : Nat) (f : Cgrp → Cgrp) : (s.updGrp k f).tolls = s.tolls := rfl
@[simp] theorem State.updGrp_inj (s : State) (k : Nat) (f : Cgrp → Cgrp) : (s.updGrp k f).inj = s.inj := rfl
@[simp] theorem State.updGrp_samp (s : State) (k : Nat) (f : Cgrp → Cgrp) : (s.updGrp k f).samp = s.samp := rfl
@[simp] theorem State.updGrp_ptx (s : State) (k : Nat) (f : Cgrp → Cgrp) : (s.updGrp k f).ptx = s.ptx := rfl
@[simp] theorem State.updGrp_prx (s : State) (k : Nat) (f : Cgrp → Cgrp) : (s.updGrp k f).prx = s.prx := rfl
@[simp] theorem State.updGrp_peerInc (s : State) (k : Nat) (f : Cgrp → Cgrp) : (s.updGrp k f).peerInc = s.peerInc := rfl
@[simp] theorem State.updGrp_kcache (s : State) (k : Nat) (f : Cgrp → Cgrp) : (s.updGrp k f).kcache = s.kcache := rfl
@[simp] theorem State.updGrp_kuse (s : State) (k : Nat) (f : Cgrp → Cgrp) : (s.updGrp k f).kuse = s.kuse := rfl
@[simp] theorem State.updGrp_kwait (s : State) (k : Nat) (f : Cgrp → Cgrp) : (s.updGrp k f).kwait = s.kwait := rfl
@[simp] theorem State.updGrp_lines (s : State) (k : Nat) (f : Cgrp → Cgrp) : (s.updGrp k f).lines = s.lines := rfl
@[simp] theorem State.updGrp_amoRes (s : State) (k : Nat) (f : Cgrp → Cgrp) : (s.updGrp k f).amoRes = s.amoRes := rfl
@[simp] theorem State.updGrp_mctx (s : State) (k : Nat) (f : Cgrp → Cgrp) : (s.updGrp k f).mctx = s.mctx := rfl
@[simp] theorem State.updGrp_msgs (s : State) (k : Nat) (f : Cgrp → Cgrp) : (s.updGrp k f).msgs = s.msgs := rfl
@[simp] theorem State.updGrp_preds (s : State) (k : Nat) (f : Cgrp → Cgrp) : (s.updGrp k f).preds = s.preds := rfl
@[simp] theorem State.updGrp_secret (s : State) (k : Nat) (f : Cgrp → Cgrp) : (s.updGrp k f).secret = s.secret := rfl
@[simp] theorem State.updGrp_freeCtr (s : State) (k : Nat) (f : Cgrp → Cgrp) : (s.updGrp k f).freeCtr = s.freeCtr := rfl
@[simp] theorem State.updGrp_outs (s : State) (k : Nat) (f : Cgrp → Cgrp) : (s.updGrp k f).outs = s.outs := rfl
@[simp] theorem State.updGrp_work (s : State) (k : Nat) (f : Cgrp → Cgrp) : (s.updGrp k f).work = s.work := rfl
@[simp] theorem State.updGrp_pending (s : State) (k : Nat) (f : Cgrp → Cgrp) : (s.updGrp k f).pending = s.pending := rfl
@[simp] theorem State.updGrp_eps (s : State) (k : Nat) (f : Cgrp → Cgrp) : (s.updGrp k f).eps = s.eps := rfl
@[simp] theorem State.updGrp_routes (s : State) (k : Nat) (f : Cgrp → Cgrp) : (s.updGrp k f).routes = s.routes := rfl
@[simp] theorem State.updGrp_doms (s : State) (k : Nat) (f : Cgrp → Cgrp) : (s.updGrp k f).doms = s.doms := rfl
@[simp] theorem State.updGrp_resps (s : State) (k : Nat) (f : Cgrp → Cgrp) : (s.updGrp k f).resps = s.resps := rfl
@[simp] theorem State.updGrp_rin (s : State) (k : Nat) (f : Cgrp → Cgrp) : (s.updGrp k f).rin = s.rin := rfl
@[simp] theorem State.updGrp_quiet (s : State) (k : Nat) (f : Cgrp → Cgrp) : (s.updGrp k f).quiet = s.quiet := rfl
@[simp] theorem State.updGrp_quietLeft (s : State) (k : Nat) (f : Cgrp → Cgrp) : (s.updGrp k f).quietLeft = s.quietLeft := rfl
@[simp] theorem State.updGrp_firstBnd (s : State) (k : Nat) (f : Cgrp → Cgrp) : (s.updGrp k f).firstBnd = s.firstBnd := rfl
@[simp] theorem State.updGrp_ctlSent (s : State) (k : Nat) (f : Cgrp → Cgrp) : (s.updGrp k f).ctlSent = s.ctlSent := rfl
@[simp] theorem State.updGrp_ctlWait (s : State) (k : Nat) (f : Cgrp → Cgrp) : (s.updGrp k f).ctlWait = s.ctlWait := rfl
@[simp] theorem State.updGrp_fports (s : State) (k : Nat) (f : Cgrp → Cgrp) : (s.updGrp k f).fports = s.fports := rfl
@[simp] theorem State.updGrp_vlfsr (s : State) (k : Nat) (f : Cgrp → Cgrp) : (s.updGrp k f).vlfsr = s.vlfsr := rfl
@[simp] theorem State.updGrp_bankCopy (s : State) (k : Nat) (f : Cgrp → Cgrp) : (s.updGrp k f).bankCopy = s.bankCopy := rfl
@[simp] theorem State.updGrp_copyQ (s : State) (k : Nat) (f : Cgrp → Cgrp) : (s.updGrp k f).copyQ = s.copyQ := rfl
@[simp] theorem State.updGrp_grps (s : State) (k : Nat) (f : Cgrp → Cgrp) : (s.updGrp k f).grps = s.grps.upd k f := rfl
@[simp] theorem State.updGrp_cvys (s : State) (k : Nat) (f : Cgrp → Cgrp) : (s.updGrp k f).cvys = s.cvys := rfl
@[simp] theorem State.updGrp_portCnt (s : State) (k : Nat) (f : Cgrp → Cgrp) : (s.updGrp k f).portCnt = s.portCnt := rfl
@[simp] theorem State.updGrp_roomQ (s : State) (k : Nat) (f : Cgrp → Cgrp) : (s.updGrp k f).roomQ = s.roomQ := rfl
@[simp] theorem State.updGrp_sync (s : State) (k : Nat) (f : Cgrp → Cgrp) : (s.updGrp k f).sync = s.sync := rfl
@[simp] theorem State.updGrp_syncTx (s : State) (k : Nat) (f : Cgrp → Cgrp) : (s.updGrp k f).syncTx = s.syncTx := rfl
@[simp] theorem State.updGrp_syncRx (s : State) (k : Nat) (f : Cgrp → Cgrp) : (s.updGrp k f).syncRx = s.syncRx := rfl
@[simp] theorem State.updGrp_tb (s : State) (k : Nat) (f : Cgrp → Cgrp) : (s.updGrp k f).tb = s.tb := rfl
@[simp] theorem State.updGrp_fmLeft (s : State) (k : Nat) (f : Cgrp → Cgrp) : (s.updGrp k f).fmLeft = s.fmLeft := rfl
@[simp] theorem State.updGrp_bwLeft (s : State) (k : Nat) (f : Cgrp → Cgrp) : (s.updGrp k f).bwLeft = s.bwLeft := rfl
@[simp] theorem State.updGrp_bwBase (s : State) (k : Nat) (f : Cgrp → Cgrp) : (s.updGrp k f).bwBase = s.bwBase := rfl
@[simp] theorem State.updGrp_clkHold (s : State) (k : Nat) (f : Cgrp → Cgrp) : (s.updGrp k f).clkHold = s.clkHold := rfl
@[simp] theorem State.updGrp_locks (s : State) (k : Nat) (f : Cgrp → Cgrp) : (s.updGrp k f).locks = s.locks := rfl
@[simp] theorem State.updGrp_sess (s : State) (k : Nat) (f : Cgrp → Cgrp) : (s.updGrp k f).sess = s.sess := rfl
@[simp] theorem State.updGrp_ide (s : State) (k : Nat) (f : Cgrp → Cgrp) : (s.updGrp k f).ide = s.ide := rfl
@[simp] theorem State.updGrp_fmKey (s : State) (k : Nat) (f : Cgrp → Cgrp) : (s.updGrp k f).fmKey = s.fmKey := rfl
@[simp] theorem State.updGrp_mbxTag (s : State) (k : Nat) (f : Cgrp → Cgrp) : (s.updGrp k f).mbxTag = s.mbxTag := rfl
@[simp] theorem State.updGrp_mbxLeft (s : State) (k : Nat) (f : Cgrp → Cgrp) : (s.updGrp k f).mbxLeft = s.mbxLeft := rfl
@[simp] theorem State.updGrp_ledStart (s : State) (k : Nat) (f : Cgrp → Cgrp) : (s.updGrp k f).ledStart = s.ledStart := rfl
@[simp] theorem State.updGrp_ledMerged (s : State) (k : Nat) (f : Cgrp → Cgrp) : (s.updGrp k f).ledMerged = s.ledMerged := rfl
@[simp] theorem State.updGrp_ledDue (s : State) (k : Nat) (f : Cgrp → Cgrp) : (s.updGrp k f).ledDue = s.ledDue := rfl
@[simp] theorem State.updGrp_ledSeq (s : State) (k : Nat) (f : Cgrp → Cgrp) : (s.updGrp k f).ledSeq = s.ledSeq := rfl
@[simp] theorem State.updGrp_ledDoms (s : State) (k : Nat) (f : Cgrp → Cgrp) : (s.updGrp k f).ledDoms = s.ledDoms := rfl
@[simp] theorem State.updGrp_train (s : State) (k : Nat) (f : Cgrp → Cgrp) : (s.updGrp k f).train = s.train := rfl
@[simp] theorem State.updGrp_mods (s : State) (k : Nat) (f : Cgrp → Cgrp) : (s.updGrp k f).mods = s.mods := rfl
@[simp] theorem State.updGrp_cmisQ (s : State) (k : Nat) (f : Cgrp → Cgrp) : (s.updGrp k f).cmisQ = s.cmisQ := rfl
@[simp] theorem State.updGrp_cages (s : State) (k : Nat) (f : Cgrp → Cgrp) : (s.updGrp k f).cages = s.cages := rfl
@[simp] theorem State.updGrp_snap (s : State) (k : Nat) (f : Cgrp → Cgrp) : (s.updGrp k f).snap = s.snap := rfl
@[simp] theorem State.updGrp_snapSeq (s : State) (k : Nat) (f : Cgrp → Cgrp) : (s.updGrp k f).snapSeq = s.snapSeq := rfl
@[simp] theorem State.updGrp_snapSkip (s : State) (k : Nat) (f : Cgrp → Cgrp) : (s.updGrp k f).snapSkip = s.snapSkip := rfl
@[simp] theorem State.updGrp_snapOver (s : State) (k : Nat) (f : Cgrp → Cgrp) : (s.updGrp k f).snapOver = s.snapOver := rfl
@[simp] theorem State.updGrp_modeReq (s : State) (k : Nat) (f : Cgrp → Cgrp) : (s.updGrp k f).modeReq = s.modeReq := rfl
@[simp] theorem State.updGrp_commitReq (s : State) (k : Nat) (f : Cgrp → Cgrp) : (s.updGrp k f).commitReq = s.commitReq := rfl
@[simp] theorem State.updGrp_retDue (s : State) (k : Nat) (f : Cgrp → Cgrp) : (s.updGrp k f).retDue = s.retDue := rfl
@[simp] theorem State.updGrp_pdLeft (s : State) (k : Nat) (f : Cgrp → Cgrp) : (s.updGrp k f).pdLeft = s.pdLeft := rfl
@[simp] theorem State.updGrp_pdOver (s : State) (k : Nat) (f : Cgrp → Cgrp) : (s.updGrp k f).pdOver = s.pdOver := rfl
@[simp] theorem State.updGrp_hold (s : State) (k : Nat) (f : Cgrp → Cgrp) : (s.updGrp k f).hold = s.hold := rfl
@[simp] theorem State.updGrp_railBad (s : State) (k : Nat) (f : Cgrp → Cgrp) : (s.updGrp k f).railBad = s.railBad := rfl
@[simp] theorem State.updGrp_slew (s : State) (k : Nat) (f : Cgrp → Cgrp) : (s.updGrp k f).slew = s.slew := rfl
@[simp] theorem State.updGrp_stageSeen (s : State) (k : Nat) (f : Cgrp → Cgrp) : (s.updGrp k f).stageSeen = s.stageSeen := rfl
@[simp] theorem State.updGrp_overruns (s : State) (k : Nat) (f : Cgrp → Cgrp) : (s.updGrp k f).overruns = s.overruns := rfl

/-! ### updCvy -/

@[simp] theorem State.updCvy_regs (s : State) (k : Nat) (f : Cvy → Cvy) : (s.updCvy k f).regs = s.regs := rfl
@[simp] theorem State.updCvy_spend (s : State) (k : Nat) (f : Cvy → Cvy) : (s.updCvy k f).spend = s.spend := rfl
@[simp] theorem State.updCvy_smask (s : State) (k : Nat) (f : Cvy → Cvy) : (s.updCvy k f).smask = s.smask := rfl
@[simp] theorem State.updCvy_hist (s : State) (k : Nat) (f : Cvy → Cvy) : (s.updCvy k f).hist = s.hist := rfl
@[simp] theorem State.updCvy_first (s : State) (k : Nat) (f : Cvy → Cvy) : (s.updCvy k f).first = s.first := rfl
@[simp] theorem State.updCvy_active (s : State) (k : Nat) (f : Cvy → Cvy) : (s.updCvy k f).active = s.active := rfl
@[simp] theorem State.updCvy_fltIrq (s : State) (k : Nat) (f : Cvy → Cvy) : (s.updCvy k f).fltIrq = s.fltIrq := rfl
@[simp] theorem State.updCvy_fltDefer (s : State) (k : Nat) (f : Cvy → Cvy) : (s.updCvy k f).fltDefer = s.fltDefer := rfl
@[simp] theorem State.updCvy_fns (s : State) (k : Nat) (f : Cvy → Cvy) : (s.updCvy k f).fns = s.fns := rfl
@[simp] theorem State.updCvy_ports (s : State) (k : Nat) (f : Cvy → Cvy) : (s.updCvy k f).ports = s.ports := rfl
@[simp] theorem State.updCvy_runs (s : State) (k : Nat) (f : Cvy → Cvy) : (s.updCvy k f).runs = s.runs := rfl
@[simp] theorem State.updCvy_gens (s : State) (k : Nat) (f : Cvy → Cvy) : (s.updCvy k f).gens = s.gens := rfl
@[simp] theorem State.updCvy_readyCtr (s : State) (k : Nat) (f : Cvy → Cvy) : (s.updCvy k f).readyCtr = s.readyCtr := rfl
@[simp] theorem State.updCvy_pcache (s : State) (k : Nat) (f : Cvy → Cvy) : (s.updCvy k f).pcache = s.pcache := rfl
@[simp] theorem State.updCvy_fenced (s : State) (k : Nat) (f : Cvy → Cvy) : (s.updCvy k f).fenced = s.fenced := rfl
@[simp] theorem State.updCvy_ops (s : State) (k : Nat) (f : Cvy → Cvy) : (s.updCvy k f).ops = s.ops := rfl
@[simp] theorem State.updCvy_wqs (s : State) (k : Nat) (f : Cvy → Cvy) : (s.updCvy k f).wqs = s.wqs := rfl
@[simp] theorem State.updCvy_eqs (s : State) (k : Nat) (f : Cvy → Cvy) : (s.updCvy k f).eqs = s.eqs := rfl
@[simp] theorem State.updCvy_ctrs (s : State) (k : Nat) (f : Cvy → Cvy) : (s.updCvy k f).ctrs = s.ctrs := rfl
@[simp] theorem State.updCvy_pas (s : State) (k : Nat) (f : Cvy → Cvy) : (s.updCvy k f).pas = s.pas := rfl
@[simp] theorem State.updCvy_tlb (s : State) (k : Nat) (f : Cvy → Cvy) : (s.updCvy k f).tlb = s.tlb := rfl
@[simp] theorem State.updCvy_walks (s : State) (k : Nat) (f : Cvy → Cvy) : (s.updCvy k f).walks = s.walks := rfl
@[simp] theorem State.updCvy_accs (s : State) (k : Nat) (f : Cvy → Cvy) : (s.updCvy k f).accs = s.accs := rfl
@[simp] theorem State.updCvy_invals (s : State) (k : Nat) (f : Cvy → Cvy) : (s.updCvy k f).invals = s.invals := rfl
@[simp] theorem State.updCvy_nextId (s : State) (k : Nat) (f : Cvy → Cvy) : (s.updCvy k f).nextId = s.nextId := rfl
@[simp] theorem State.updCvy_chans (s : State) (k : Nat) (f : Cvy → Cvy) : (s.updCvy k f).chans = s.chans := rfl
@[simp] theorem State.updCvy_unbound (s : State) (k : Nat) (f : Cvy → Cvy) : (s.updCvy k f).unbound = s.unbound := rfl
@[simp] theorem State.updCvy_tolls (s : State) (k : Nat) (f : Cvy → Cvy) : (s.updCvy k f).tolls = s.tolls := rfl
@[simp] theorem State.updCvy_inj (s : State) (k : Nat) (f : Cvy → Cvy) : (s.updCvy k f).inj = s.inj := rfl
@[simp] theorem State.updCvy_samp (s : State) (k : Nat) (f : Cvy → Cvy) : (s.updCvy k f).samp = s.samp := rfl
@[simp] theorem State.updCvy_ptx (s : State) (k : Nat) (f : Cvy → Cvy) : (s.updCvy k f).ptx = s.ptx := rfl
@[simp] theorem State.updCvy_prx (s : State) (k : Nat) (f : Cvy → Cvy) : (s.updCvy k f).prx = s.prx := rfl
@[simp] theorem State.updCvy_peerInc (s : State) (k : Nat) (f : Cvy → Cvy) : (s.updCvy k f).peerInc = s.peerInc := rfl
@[simp] theorem State.updCvy_kcache (s : State) (k : Nat) (f : Cvy → Cvy) : (s.updCvy k f).kcache = s.kcache := rfl
@[simp] theorem State.updCvy_kuse (s : State) (k : Nat) (f : Cvy → Cvy) : (s.updCvy k f).kuse = s.kuse := rfl
@[simp] theorem State.updCvy_kwait (s : State) (k : Nat) (f : Cvy → Cvy) : (s.updCvy k f).kwait = s.kwait := rfl
@[simp] theorem State.updCvy_lines (s : State) (k : Nat) (f : Cvy → Cvy) : (s.updCvy k f).lines = s.lines := rfl
@[simp] theorem State.updCvy_amoRes (s : State) (k : Nat) (f : Cvy → Cvy) : (s.updCvy k f).amoRes = s.amoRes := rfl
@[simp] theorem State.updCvy_mctx (s : State) (k : Nat) (f : Cvy → Cvy) : (s.updCvy k f).mctx = s.mctx := rfl
@[simp] theorem State.updCvy_msgs (s : State) (k : Nat) (f : Cvy → Cvy) : (s.updCvy k f).msgs = s.msgs := rfl
@[simp] theorem State.updCvy_preds (s : State) (k : Nat) (f : Cvy → Cvy) : (s.updCvy k f).preds = s.preds := rfl
@[simp] theorem State.updCvy_secret (s : State) (k : Nat) (f : Cvy → Cvy) : (s.updCvy k f).secret = s.secret := rfl
@[simp] theorem State.updCvy_freeCtr (s : State) (k : Nat) (f : Cvy → Cvy) : (s.updCvy k f).freeCtr = s.freeCtr := rfl
@[simp] theorem State.updCvy_outs (s : State) (k : Nat) (f : Cvy → Cvy) : (s.updCvy k f).outs = s.outs := rfl
@[simp] theorem State.updCvy_work (s : State) (k : Nat) (f : Cvy → Cvy) : (s.updCvy k f).work = s.work := rfl
@[simp] theorem State.updCvy_pending (s : State) (k : Nat) (f : Cvy → Cvy) : (s.updCvy k f).pending = s.pending := rfl
@[simp] theorem State.updCvy_eps (s : State) (k : Nat) (f : Cvy → Cvy) : (s.updCvy k f).eps = s.eps := rfl
@[simp] theorem State.updCvy_routes (s : State) (k : Nat) (f : Cvy → Cvy) : (s.updCvy k f).routes = s.routes := rfl
@[simp] theorem State.updCvy_doms (s : State) (k : Nat) (f : Cvy → Cvy) : (s.updCvy k f).doms = s.doms := rfl
@[simp] theorem State.updCvy_resps (s : State) (k : Nat) (f : Cvy → Cvy) : (s.updCvy k f).resps = s.resps := rfl
@[simp] theorem State.updCvy_rin (s : State) (k : Nat) (f : Cvy → Cvy) : (s.updCvy k f).rin = s.rin := rfl
@[simp] theorem State.updCvy_quiet (s : State) (k : Nat) (f : Cvy → Cvy) : (s.updCvy k f).quiet = s.quiet := rfl
@[simp] theorem State.updCvy_quietLeft (s : State) (k : Nat) (f : Cvy → Cvy) : (s.updCvy k f).quietLeft = s.quietLeft := rfl
@[simp] theorem State.updCvy_firstBnd (s : State) (k : Nat) (f : Cvy → Cvy) : (s.updCvy k f).firstBnd = s.firstBnd := rfl
@[simp] theorem State.updCvy_ctlSent (s : State) (k : Nat) (f : Cvy → Cvy) : (s.updCvy k f).ctlSent = s.ctlSent := rfl
@[simp] theorem State.updCvy_ctlWait (s : State) (k : Nat) (f : Cvy → Cvy) : (s.updCvy k f).ctlWait = s.ctlWait := rfl
@[simp] theorem State.updCvy_fports (s : State) (k : Nat) (f : Cvy → Cvy) : (s.updCvy k f).fports = s.fports := rfl
@[simp] theorem State.updCvy_vlfsr (s : State) (k : Nat) (f : Cvy → Cvy) : (s.updCvy k f).vlfsr = s.vlfsr := rfl
@[simp] theorem State.updCvy_bankCopy (s : State) (k : Nat) (f : Cvy → Cvy) : (s.updCvy k f).bankCopy = s.bankCopy := rfl
@[simp] theorem State.updCvy_copyQ (s : State) (k : Nat) (f : Cvy → Cvy) : (s.updCvy k f).copyQ = s.copyQ := rfl
@[simp] theorem State.updCvy_grps (s : State) (k : Nat) (f : Cvy → Cvy) : (s.updCvy k f).grps = s.grps := rfl
@[simp] theorem State.updCvy_cvys (s : State) (k : Nat) (f : Cvy → Cvy) : (s.updCvy k f).cvys = s.cvys.upd k f := rfl
@[simp] theorem State.updCvy_portCnt (s : State) (k : Nat) (f : Cvy → Cvy) : (s.updCvy k f).portCnt = s.portCnt := rfl
@[simp] theorem State.updCvy_roomQ (s : State) (k : Nat) (f : Cvy → Cvy) : (s.updCvy k f).roomQ = s.roomQ := rfl
@[simp] theorem State.updCvy_sync (s : State) (k : Nat) (f : Cvy → Cvy) : (s.updCvy k f).sync = s.sync := rfl
@[simp] theorem State.updCvy_syncTx (s : State) (k : Nat) (f : Cvy → Cvy) : (s.updCvy k f).syncTx = s.syncTx := rfl
@[simp] theorem State.updCvy_syncRx (s : State) (k : Nat) (f : Cvy → Cvy) : (s.updCvy k f).syncRx = s.syncRx := rfl
@[simp] theorem State.updCvy_tb (s : State) (k : Nat) (f : Cvy → Cvy) : (s.updCvy k f).tb = s.tb := rfl
@[simp] theorem State.updCvy_fmLeft (s : State) (k : Nat) (f : Cvy → Cvy) : (s.updCvy k f).fmLeft = s.fmLeft := rfl
@[simp] theorem State.updCvy_bwLeft (s : State) (k : Nat) (f : Cvy → Cvy) : (s.updCvy k f).bwLeft = s.bwLeft := rfl
@[simp] theorem State.updCvy_bwBase (s : State) (k : Nat) (f : Cvy → Cvy) : (s.updCvy k f).bwBase = s.bwBase := rfl
@[simp] theorem State.updCvy_clkHold (s : State) (k : Nat) (f : Cvy → Cvy) : (s.updCvy k f).clkHold = s.clkHold := rfl
@[simp] theorem State.updCvy_locks (s : State) (k : Nat) (f : Cvy → Cvy) : (s.updCvy k f).locks = s.locks := rfl
@[simp] theorem State.updCvy_sess (s : State) (k : Nat) (f : Cvy → Cvy) : (s.updCvy k f).sess = s.sess := rfl
@[simp] theorem State.updCvy_ide (s : State) (k : Nat) (f : Cvy → Cvy) : (s.updCvy k f).ide = s.ide := rfl
@[simp] theorem State.updCvy_fmKey (s : State) (k : Nat) (f : Cvy → Cvy) : (s.updCvy k f).fmKey = s.fmKey := rfl
@[simp] theorem State.updCvy_mbxTag (s : State) (k : Nat) (f : Cvy → Cvy) : (s.updCvy k f).mbxTag = s.mbxTag := rfl
@[simp] theorem State.updCvy_mbxLeft (s : State) (k : Nat) (f : Cvy → Cvy) : (s.updCvy k f).mbxLeft = s.mbxLeft := rfl
@[simp] theorem State.updCvy_ledStart (s : State) (k : Nat) (f : Cvy → Cvy) : (s.updCvy k f).ledStart = s.ledStart := rfl
@[simp] theorem State.updCvy_ledMerged (s : State) (k : Nat) (f : Cvy → Cvy) : (s.updCvy k f).ledMerged = s.ledMerged := rfl
@[simp] theorem State.updCvy_ledDue (s : State) (k : Nat) (f : Cvy → Cvy) : (s.updCvy k f).ledDue = s.ledDue := rfl
@[simp] theorem State.updCvy_ledSeq (s : State) (k : Nat) (f : Cvy → Cvy) : (s.updCvy k f).ledSeq = s.ledSeq := rfl
@[simp] theorem State.updCvy_ledDoms (s : State) (k : Nat) (f : Cvy → Cvy) : (s.updCvy k f).ledDoms = s.ledDoms := rfl
@[simp] theorem State.updCvy_train (s : State) (k : Nat) (f : Cvy → Cvy) : (s.updCvy k f).train = s.train := rfl
@[simp] theorem State.updCvy_mods (s : State) (k : Nat) (f : Cvy → Cvy) : (s.updCvy k f).mods = s.mods := rfl
@[simp] theorem State.updCvy_cmisQ (s : State) (k : Nat) (f : Cvy → Cvy) : (s.updCvy k f).cmisQ = s.cmisQ := rfl
@[simp] theorem State.updCvy_cages (s : State) (k : Nat) (f : Cvy → Cvy) : (s.updCvy k f).cages = s.cages := rfl
@[simp] theorem State.updCvy_snap (s : State) (k : Nat) (f : Cvy → Cvy) : (s.updCvy k f).snap = s.snap := rfl
@[simp] theorem State.updCvy_snapSeq (s : State) (k : Nat) (f : Cvy → Cvy) : (s.updCvy k f).snapSeq = s.snapSeq := rfl
@[simp] theorem State.updCvy_snapSkip (s : State) (k : Nat) (f : Cvy → Cvy) : (s.updCvy k f).snapSkip = s.snapSkip := rfl
@[simp] theorem State.updCvy_snapOver (s : State) (k : Nat) (f : Cvy → Cvy) : (s.updCvy k f).snapOver = s.snapOver := rfl
@[simp] theorem State.updCvy_modeReq (s : State) (k : Nat) (f : Cvy → Cvy) : (s.updCvy k f).modeReq = s.modeReq := rfl
@[simp] theorem State.updCvy_commitReq (s : State) (k : Nat) (f : Cvy → Cvy) : (s.updCvy k f).commitReq = s.commitReq := rfl
@[simp] theorem State.updCvy_retDue (s : State) (k : Nat) (f : Cvy → Cvy) : (s.updCvy k f).retDue = s.retDue := rfl
@[simp] theorem State.updCvy_pdLeft (s : State) (k : Nat) (f : Cvy → Cvy) : (s.updCvy k f).pdLeft = s.pdLeft := rfl
@[simp] theorem State.updCvy_pdOver (s : State) (k : Nat) (f : Cvy → Cvy) : (s.updCvy k f).pdOver = s.pdOver := rfl
@[simp] theorem State.updCvy_hold (s : State) (k : Nat) (f : Cvy → Cvy) : (s.updCvy k f).hold = s.hold := rfl
@[simp] theorem State.updCvy_railBad (s : State) (k : Nat) (f : Cvy → Cvy) : (s.updCvy k f).railBad = s.railBad := rfl
@[simp] theorem State.updCvy_slew (s : State) (k : Nat) (f : Cvy → Cvy) : (s.updCvy k f).slew = s.slew := rfl
@[simp] theorem State.updCvy_stageSeen (s : State) (k : Nat) (f : Cvy → Cvy) : (s.updCvy k f).stageSeen = s.stageSeen := rfl
@[simp] theorem State.updCvy_overruns (s : State) (k : Nat) (f : Cvy → Cvy) : (s.updCvy k f).overruns = s.overruns := rfl

end Sys2Proof.Machine
end

