-- ==== Sys2Proof/Laws/Tab.lean ====
section
/-!
SUPPORT. Laws of the sparse tables: a read after a write, and that every operation keeps the canonical form.
-/
namespace Sys2Proof

section
variable {α : Type}

/-- Removing key `k` makes it read as the default and leaves every other key. -/
theorem Tab.lookD_drop (d : Nat → α) (t : Tab α) (k j : Nat) : Tab.lookD d (Tab.drop t k) j = if j = k then d j else Tab.lookD d t j := by
  induction t with
  | nil => simp [Tab.drop, Tab.lookD]
  | cons e t ih =>
    obtain ⟨i, a⟩ := e
    by_cases h : i = k
    · subst h
      have hd : Tab.drop ((i, a) :: t) i = Tab.drop t i := by simp [Tab.drop]
      rw [hd, ih]
      by_cases hj : j = i
      · simp [hj]
      · have : ¬ i = j := fun e => hj e.symm
        simp [Tab.lookD, hj, this]
    · have hd : Tab.drop ((i, a) :: t) k = (i, a) :: Tab.drop t k := by simp [Tab.drop, h]
      rw [hd]
      simp only [Tab.lookD, ih]
      by_cases hj : i = j
      · subst hj; simp [h]
      · simp [hj]

/-- Listing `v` under `k` makes it read `v` and leaves every other key. -/
theorem Tab.lookD_ins (d : Nat → α) (t : Tab α) (k : Nat) (v : α) (j : Nat) :
    Tab.lookD d (Tab.ins t k v) j = if j = k then v else Tab.lookD d t j := by
  induction t with
  | nil => simp [Tab.ins, Tab.lookD, eq_comm]
  | cons e t ih =>
    obtain ⟨i, a⟩ := e
    simp only [Tab.ins]
    split
    · simp [Tab.lookD, eq_comm]
    · split
      · rename_i h2; subst h2; by_cases hj : j = k
        · simp [Tab.lookD, hj]
        · have : ¬ k = j := fun e => hj e.symm
          simp [Tab.lookD, hj, this]
      · rename_i h1 h2
        simp only [Tab.lookD, ih]
        by_cases hj : i = j
        · subst hj; simp [Ne.symm h2]
        · simp [hj]

variable [DecidableEq α]

/-- A read after a write. -/
theorem Tab.lookD_putD (d : Nat → α) (t : Tab α) (k : Nat) (v : α) (j : Nat) :
    Tab.lookD d (Tab.putD d t k v) j = if j = k then v else Tab.lookD d t j := by
  unfold Tab.putD
  split
  · rename_i h; rw [Tab.lookD_drop]; by_cases hj : j = k
    · subst hj; simp [h]
    · simp [hj]
  · exact Tab.lookD_ins d t k v j

@[simp] theorem Tab.lookD_putD_self (d : Nat → α) (t : Tab α) (k : Nat) (v : α) : Tab.lookD d (Tab.putD d t k v) k = v := by
  simp [Tab.lookD_putD]

theorem Tab.lookD_putD_other (d : Nat → α) (t : Tab α) {k j : Nat} (v : α) (h : j ≠ k) :
    Tab.lookD d (Tab.putD d t k v) j = Tab.lookD d t j := by
  simp [Tab.lookD_putD, h]

/-- The canonical form as a statement about pairs of entries. -/
theorem Tab.wfD_iff (d : Nat → α) (t : Tab α) :
    Tab.wfD d t = true ↔ t.Pairwise (fun a b => a.1 < b.1) ∧ ∀ e ∈ t, e.2 ≠ d e.1 := by
  induction t with
  | nil => simp [Tab.wfD]
  | cons e t ih =>
    obtain ⟨k, v⟩ := e
    cases t with
    | nil => simp [Tab.wfD]
    | cons f t =>
      obtain ⟨j, w⟩ := f
      simp only [Tab.wfD, Bool.and_eq_true, decide_eq_true_eq, ih, List.pairwise_cons, List.mem_cons, forall_eq_or_imp]
      constructor
      · rintro ⟨⟨h1, h2⟩, ⟨h3, h4⟩, h5, h6⟩
        exact ⟨⟨⟨h2, fun a ha => lt_trans h2 (h3 a ha)⟩, h3, h4⟩, h1, h5, h6⟩
      · rintro ⟨⟨⟨h1, _⟩, h3, h4⟩, h5, h6, h7⟩
        exact ⟨⟨h5, h1⟩, ⟨h3, h4⟩, h6, h7⟩

/-- Removal keeps the canonical form. -/
theorem Tab.wfD_drop (d : Nat → α) (t : Tab α) (k : Nat) (h : Tab.wfD d t = true) : Tab.wfD d (Tab.drop t k) = true := by
  rw [Tab.wfD_iff] at h ⊢
  exact ⟨h.1.filter _, fun e he => h.2 e (List.mem_of_mem_filter he)⟩

omit [DecidableEq α] in
theorem Tab.mem_ins (t : Tab α) (k : Nat) (v : α) (e : Nat × α) (h : e ∈ Tab.ins t k v) : e = (k, v) ∨ e ∈ t := by
  induction t with
  | nil => simpa [Tab.ins] using h
  | cons f t ih =>
    obtain ⟨i, a⟩ := f
    simp only [Tab.ins] at h
    split at h
    · simpa using h
    · split at h
      · simp only [List.mem_cons] at h ⊢; tauto
      · simp only [List.mem_cons] at h ⊢; rcases h with h | h
        · tauto
        · rcases ih h with h | h <;> tauto

omit [DecidableEq α] in
theorem Tab.pairwise_ins (t : Tab α) (k : Nat) (v : α) (h : t.Pairwise fun a b => a.1 < b.1) :
    (Tab.ins t k v).Pairwise fun a b => a.1 < b.1 := by
  induction t with
  | nil => simp [Tab.ins]
  | cons f t ih =>
    obtain ⟨i, a⟩ := f
    simp only [Tab.ins]
    rw [List.pairwise_cons] at h
    split
    · rename_i hk
      refine List.pairwise_cons.2 ⟨fun e he => ?_, List.pairwise_cons.2 h⟩
      rcases List.mem_cons.1 he with rfl | he
      · exact hk
      · exact lt_trans hk (h.1 e he)
    · split
      · rename_i h1 h2; subst h2; exact List.pairwise_cons.2 h
      · rename_i h1 h2
        refine List.pairwise_cons.2 ⟨fun e he => ?_, ih h.2⟩
        rcases Tab.mem_ins t k v e he with rfl | he
        · show i < k; omega
        · exact h.1 e he

/-- A write keeps the canonical form. -/
theorem Tab.wfD_putD (d : Nat → α) (t : Tab α) (k : Nat) (v : α) (h : Tab.wfD d t = true) : Tab.wfD d (Tab.putD d t k v) = true := by
  unfold Tab.putD
  split
  · exact Tab.wfD_drop d t k h
  · rename_i hv
    rw [Tab.wfD_iff] at h ⊢
    refine ⟨Tab.pairwise_ins t k v h.1, fun e he => ?_⟩
    rcases Tab.mem_ins t k v e he with rfl | he
    · exact hv
    · exact h.2 e he

variable [Inhabited α]

/-- A read after a write of one record. -/
theorem Tab.look_put (t : Tab α) (k : Nat) (v : α) (j : Nat) : (t.put k v).look j = if j = k then v else t.look j :=
  Tab.lookD_putD _ t k v j

@[simp] theorem Tab.look_put_self (t : Tab α) (k : Nat) (v : α) : (t.put k v).look k = v := by simp [Tab.look_put]

theorem Tab.look_put_other (t : Tab α) {k j : Nat} (v : α) (h : j ≠ k) : (t.put k v).look j = t.look j := by simp [Tab.look_put, h]

/-- A read after a change of one record. -/
theorem Tab.look_upd (t : Tab α) (k : Nat) (f : α → α) (j : Nat) : (t.upd k f).look j = if j = k then f (t.look k) else t.look j :=
  Tab.look_put t k _ j

@[simp] theorem Tab.look_upd_self (t : Tab α) (k : Nat) (f : α → α) : (t.upd k f).look k = f (t.look k) := by simp [Tab.look_upd]

theorem Tab.look_upd_other (t : Tab α) {k j : Nat} (f : α → α) (h : j ≠ k) : (t.upd k f).look j = t.look j := by simp [Tab.look_upd, h]

/-- A read after forgetting a record. -/
theorem Tab.look_del (t : Tab α) (k j : Nat) : (t.del k).look j = if j = k then default else t.look j := Tab.look_put t k _ j

omit [DecidableEq α] in
@[simp] theorem Tab.look_nil (k : Nat) : Tab.look ([] : Tab α) k = default := rfl

theorem Tab.wf_put (t : Tab α) (k : Nat) (v : α) (h : t.wf = true) : (t.put k v).wf = true := Tab.wfD_putD _ t k v h

theorem Tab.wf_upd (t : Tab α) (k : Nat) (f : α → α) (h : t.wf = true) : (t.upd k f).wf = true := Tab.wf_put t k _ h

theorem Tab.wf_del (t : Tab α) (k : Nat) (h : t.wf = true) : (t.del k).wf = true := Tab.wf_put t k _ h

theorem Tab.wf_mapKeys (t : Tab α) (f : Nat → α → α) (h : t.wf = true) : (t.mapKeys f).wf = true := by
  unfold Tab.wf at h ⊢
  rw [Tab.wfD_iff] at h ⊢
  refine ⟨?_, fun e he => ?_⟩
  · unfold Tab.mapKeys
    refine List.Pairwise.filter _ (List.pairwise_map.2 ?_)
    exact h.1
  · have := (List.mem_filter.1 he).2
    simpa using this

theorem Tab.wf_mapAll (t : Tab α) (f : α → α) (h : t.wf = true) : (t.mapAll f).wf = true := Tab.wf_mapKeys t (fun _ a => f a) h

end

end Sys2Proof
end

