-- ==== Sys2Proof/Laws/Reg.lean ====
section
/-!
SUPPORT. Laws of the register file: a field reads as it was set, up to its width, and setting it leaves every other field and register.
-/
namespace Sys2Proof.Machine

/-- A field within a word. -/
abbrev Fld.ok (f : Fld) : Prop := f.lo ≤ f.hi ∧ f.hi < 64

/-- The bits of a number put together from a high part, a field and a low part. -/
theorem testBit_parts (w n hi lo i : Nat) (h : lo ≤ hi) :
    (w / 2 ^ (hi + 1) * 2 ^ (hi + 1) + n % 2 ^ (hi + 1 - lo) * 2 ^ lo + w % 2 ^ lo).testBit i =
      if lo ≤ i ∧ i ≤ hi then n.testBit (i - lo) else w.testBit i := by
  have e : w / 2 ^ (hi + 1) * 2 ^ (hi + 1) + n % 2 ^ (hi + 1 - lo) * 2 ^ lo + w % 2 ^ lo =
      2 ^ lo * (2 ^ (hi + 1 - lo) * (w / 2 ^ (hi + 1)) + n % 2 ^ (hi + 1 - lo)) + w % 2 ^ lo := by
    have : 2 ^ (hi + 1) = 2 ^ lo * 2 ^ (hi + 1 - lo) := by rw [← pow_add]; congr 1; omega
    rw [Nat.mul_add, ← Nat.mul_assoc, ← this]; ring
  rw [e, Nat.testBit_two_pow_mul_add _ (Nat.mod_lt _ (Nat.two_pow_pos _)), Nat.testBit_two_pow_mul_add _ (Nat.mod_lt _ (Nat.two_pow_pos _))]
  by_cases h1 : i < lo
  · have : ¬ (lo ≤ i ∧ i ≤ hi) := by omega
    simp [h1, this, Nat.testBit_mod_two_pow]
  · by_cases h2 : i ≤ hi
    · have h3 : i - lo < hi + 1 - lo := by omega
      have h4 : lo ≤ i ∧ i ≤ hi := by omega
      simp [h1, h4, h3, Nat.testBit_mod_two_pow]
    · have h3 : ¬ (i - lo < hi + 1 - lo) := by omega
      have h4 : ¬ (lo ≤ i ∧ i ≤ hi) := by omega
      have h5 : hi + 1 + (i - lo - (hi + 1 - lo)) = i := by omega
      simp only [h1, h3, h4, if_false, Nat.testBit_div_two_pow]
      congr 1; omega

/-- A word with a field replaced, bit by bit. -/
theorem Fld.getLsbD_into (f : Fld) (w : Word) (n i : Nat) (h : f.lo ≤ f.hi) (hi : i < 64) :
    (f.into w n).getLsbD i = if f.lo ≤ i ∧ i ≤ f.hi then n.testBit (i - f.lo) else w.getLsbD i := by
  rw [Fld.into, BitVec.getLsbD_ofNat, testBit_parts _ _ _ _ _ h]
  simp [hi, BitVec.getLsbD]

/-- A field's value, bit by bit. -/
theorem Fld.testBit_of (f : Fld) (w : Word) (i : Nat) (h : f.ok) : (f.of w).testBit i = (decide (i ≤ f.hi - f.lo) && w.getLsbD (f.lo + i)) := by
  obtain ⟨h1, h2⟩ := h
  rw [Fld.of, wbits, bitsOf]
  rw [Nat.testBit_mod_two_pow, Nat.testBit_shiftRight, BitVec.getLsbD]
  have : (i < f.hi + 1 - f.lo) = (i ≤ f.hi - f.lo) := by apply propext; omega
  simp only [this]

theorem Fld.of_into (f : Fld) (w : Word) (n : Nat) (h : f.ok) : f.of (f.into w n) = n % 2 ^ (f.hi + 1 - f.lo) := by
  apply Nat.eq_of_testBit_eq
  intro i
  rw [Fld.testBit_of _ _ _ h, Nat.testBit_mod_two_pow]
  by_cases hi : i ≤ f.hi - f.lo
  · have h3 : i < f.hi + 1 - f.lo := by have := h.1; omega
    rw [Fld.getLsbD_into _ _ _ _ h.1 (by have := h.1; have := h.2; omega)]
    have h4 : f.lo ≤ f.lo + i ∧ f.lo + i ≤ f.hi := by have := h.1; omega
    simp [hi, h3, h4]
  · have h3 : ¬ i < f.hi + 1 - f.lo := by have := h.1; omega
    simp [hi, h3]

theorem Fld.of_into_other (f g : Fld) (w : Word) (n : Nat) (hf : f.ok) (hg : g.ok) (h : g.hi < f.lo ∨ f.hi < g.lo) :
    g.of (f.into w n) = g.of w := by
  apply Nat.eq_of_testBit_eq
  intro i
  rw [Fld.testBit_of _ _ _ hg, Fld.testBit_of _ _ _ hg]
  by_cases hi : i ≤ g.hi - g.lo
  · have h1 := hf.1; have h2 := hg.1; have h3 := hg.2
    rw [Fld.getLsbD_into _ _ _ _ hf.1 (by omega)]
    have h4 : ¬ (f.lo ≤ g.lo + i ∧ g.lo + i ≤ f.hi) := by omega
    simp [h4]
  · simp [hi]

/-! ### The register file of State -/

@[simp] theorem State.reg_setReg_self (s : State) (off : Nat) (w : Word) : (s.setReg off w).reg off = w := by
  simp [State.reg, State.setReg]

theorem State.reg_setReg_other (s : State) {off o : Nat} (w : Word) (h : o ≠ off) : (s.setReg off w).reg o = s.reg o := by
  simp [State.reg, State.setReg, Tab.lookD_putD_other _ _ _ h]

theorem State.reg_put_other (s : State) (f : Fld) (n : Nat) {o : Nat} (h : o ≠ f.off) : (s.put f n).reg o = s.reg o :=
  State.reg_setReg_other s _ h

@[simp] theorem State.reg_put_self (s : State) (f : Fld) (n : Nat) : (s.put f n).reg f.off = f.into (s.reg f.off) n := by
  simp [State.put]

/-- A field reads as it was set. -/
theorem State.get_put_self (s : State) (f : Fld) (n : Nat) (h : f.ok) : (s.put f n).get f = n % 2 ^ (f.hi + 1 - f.lo) := by
  simp [State.get, Fld.of_into _ _ _ h]

/-- Setting a field leaves the fields of other registers. -/
theorem State.get_put_off (s : State) {f g : Fld} (n : Nat) (h : g.off ≠ f.off) : (s.put f n).get g = s.get g := by
  simp [State.get, State.reg_put_other _ _ _ h]

/-- Setting a field leaves the other fields of its register. -/
theorem State.get_put_other (s : State) {f g : Fld} (n : Nat) (hf : f.ok) (hg : g.ok) (h : g.off ≠ f.off ∨ g.hi < f.lo ∨ f.hi < g.lo) :
    (s.put f n).get g = s.get g := by
  by_cases ho : g.off = f.off
  · have : g.hi < f.lo ∨ f.hi < g.lo := by tauto
    simp only [State.get, ho, State.reg_put_self]
    exact Fld.of_into_other f g _ n hf hg this
  · exact State.get_put_off s n ho

theorem State.get_setReg_off (s : State) {off : Nat} {g : Fld} (w : Word) (h : g.off ≠ off) : (s.setReg off w).get g = s.get g := by
  simp [State.get, State.reg_setReg_other _ _ h]

/-- What depends on the registers alone is kept when they are. -/
theorem State.reg_congr {s t : State} (h : t.regs = s.regs) (off : Nat) : t.reg off = s.reg off := by simp [State.reg, h]

theorem State.get_congr {s t : State} (h : t.regs = s.regs) (f : Fld) : t.get f = s.get f := by simp [State.get, State.reg, h]

end Sys2Proof.Machine
end

