-- ==== Sys2Proof/Laws/Settle.lean ====
section
/-!
SUPPORT. What ends every command: outputs and the collector's pin change nothing but registers and outputs; on a calm state settling brings DEV_BRINGUP.SYNC and
the collector's summary up to date and does nothing else; and the step takes the front command.
-/
namespace Sys2Proof.Machine

/-! ### Registers and outputs alone -/

/-- A state that differs from another in its registers and outputs alone. -/
def State.edge (s t : State) : Prop := ∃ r o, t = { s with regs := r, outs := o }

theorem State.edge_refl (s : State) : s.edge s := ⟨s.regs, s.outs, rfl⟩

theorem State.edge_setReg {s t : State} (off : Nat) (w : Word) (h : s.edge t) : s.edge (t.setReg off w) := by
  obtain ⟨r, o, rfl⟩ := h
  exact ⟨_, o, rfl⟩

theorem State.edge_put {s t : State} (f : Fld) (n : Nat) (h : s.edge t) : s.edge (t.put f n) := State.edge_setReg _ _ h

/-- Counting events changes registers only. -/
theorem State.edge_count {s t : State} (ev i n : Nat) (d : Option Nat) (h : s.edge t) : s.edge (t.count ev i n d) := by
  unfold State.count
  split
  · exact h
  · rename_i hn
    clear hn
    generalize List.filter _ t.regs = l
    induction l generalizing t with
    | nil => exact h
    | cons e l ih =>
      simp only [List.foldl_cons]
      apply ih
      split
      · exact State.edge_setReg _ _ h
      · exact h

/-- An output changes registers and the record of outputs only. -/
theorem State.edge_out {s t : State} (x : Out) (h : s.edge t) : s.edge (t.out x) := by
  have h' : s.edge { t with outs := x :: t.outs } := by obtain ⟨r, o, rfl⟩ := h; exact ⟨r, _, rfl⟩
  unfold State.out
  cases x <;> first | exact h' | exact State.edge_count _ _ _ _ h'

/-- An output that is no host request is recorded, and nothing else. -/
theorem State.out_plain (s : State) (o : Out) (h : ∀ i p f c, o ≠ .hostRead i p f c) (h' : ∀ p f c b, o ≠ .hostWrite p f c b) :
    s.out o = { s with outs := o :: s.outs } := by
  cases o <;> first | rfl | exact absurd rfl (h _ _ _ _) | exact absurd rfl (h' _ _ _ _)

theorem State.reg_pin (s : State) (name : String) (level : Bool) (off : Nat) : (s.out (.pin name level)).reg off = s.reg off := rfl

theorem State.outs_pin (s : State) (name : String) (level : Bool) : (s.out (.pin name level)).outs = .pin name level :: s.outs := rfl

/-- The collector's summary is brought up to date, and its pin may be driven. -/
theorem State.errPin_form (s : State) : ∃ (n m k : Nat) (b l : Bool),
    s.errPin = bif b then ((s.put F.FLT_STATUS_ANY n).put F.FLT_STATUS_PENDING_MAX m).put F.FLT_STATUS_ERR_N_LOW k
      else (((s.put F.FLT_STATUS_ANY n).put F.FLT_STATUS_PENDING_MAX m).put F.FLT_STATUS_ERR_N_LOW k).out (.pin "ERR_N" l) := by
  refine ⟨b2n (s.anyPending fun _ => true), s.pendingMax, b2n s.errLow, decide (s.errLow = s.flag F.FLT_STATUS_ERR_N_LOW), !s.errLow, ?_⟩
  rw [Bool.cond_decide]
  rfl

theorem State.edge_errPin {s t : State} (h : s.edge t) : s.edge t.errPin := by
  obtain ⟨n, m, k, b, l, e⟩ := t.errPin_form
  have h3 := State.edge_put F.FLT_STATUS_ERR_N_LOW k (State.edge_put F.FLT_STATUS_PENDING_MAX m (State.edge_put F.FLT_STATUS_ANY n h))
  rw [e]
  cases b
  · rw [cond_false]; exact State.edge_out _ h3
  · rw [cond_true]; exact h3

theorem State.errPin_reg (s : State) {off : Nat} (h : off ≠ 0x30000) : s.errPin.reg off = s.reg off := by
  obtain ⟨n, m, k, b, l, e⟩ := s.errPin_form
  have key : (((s.put F.FLT_STATUS_ANY n).put F.FLT_STATUS_PENDING_MAX m).put F.FLT_STATUS_ERR_N_LOW k).reg off = s.reg off := by
    rw [State.reg_put_other _ _ _ h, State.reg_put_other _ _ _ h, State.reg_put_other _ _ _ h]
  rw [e]
  cases b
  · rw [cond_false]; exact (State.reg_pin _ _ _ _).trans key
  · rw [cond_true]; exact key

/-! ### Settling -/

theorem drain_nil (n : Nat) (s : State) (h : s.work = []) : drain n s = s := by
  cases n with
  | zero => rfl
  | succ n => simp [drain, h]

theorem State.pdAttempt_nil (s : State) (h : s.pdOver = []) : s.pdAttempt = s := by simp [State.pdAttempt, h]

theorem State.wakeRoom_nil (s : State) (h : s.roomQ = []) : s.wakeRoom = s := by simp [State.wakeRoom, h]

theorem State.revokeCheck_nil (s : State) (h : s.revoking = []) : s.revokeCheck = s := by simp [State.revokeCheck, h]

theorem State.reactionsEnd_nil (s : State) (h : s.active = []) : s.reactionsEnd = s := by
  cases s; simp only at h; subst h; rfl

theorem State.follow_calm (s : State) (h : s.calm) : s.follow = s := by
  obtain ⟨_, h2, h3, _, h5, h6, h7⟩ := h
  have : (s.pdAttempt.wakeRoom).revokeCheck = s := by
    rw [State.pdAttempt_nil s h2, State.wakeRoom_nil s h3, State.revokeCheck_nil s h5]
  simp [State.follow, h7, this, h6]

theorem rounds_calm (n : Nat) (s : State) (h : s.calm) : rounds n s = s := by
  cases n with
  | zero => rfl
  | succ n =>
    have h1 := h.1
    unfold rounds
    rw [drain_nil _ s h1, State.follow_calm s h]
    simp [h1]

/-- Settling a calm state. -/
theorem State.settle_calm (s : State) (h : s.calm) : s.settle = (s.put F.DEV_BRINGUP_SYNC (b2n s.synced)).errPin := by
  have hw : ({ s with work := [] } : State) = s := by have := h.1; cases s; simp only at this; subst this; rfl
  have e1 : ({ rounds 256 s with work := [] } : State).reactionsEnd = s := by
    rw [rounds_calm _ _ h, hw, State.reactionsEnd_nil s h.2.2.2.1]
  unfold State.settle
  simp only [e1]
  rw [if_pos h.2.2.2.2.2.2]

/-- Settling a calm state changes registers and outputs only. -/
theorem State.edge_settle (s : State) (h : s.calm) : s.edge s.settle := by
  rw [State.settle_calm s h]
  exact State.edge_errPin (State.edge_put _ _ s.edge_refl)

/-- Of the registers it changes DEV_BRINGUP and FLT_STATUS. -/
theorem State.settle_reg (s : State) (h : s.calm) {off : Nat} (h1 : off ≠ 0x10018) (h2 : off ≠ 0x30000) : s.settle.reg off = s.reg off := by
  rw [State.settle_calm s h, State.errPin_reg _ h2, State.reg_put_other _ _ _ h1]

theorem State.settle_get (s : State) (h : s.calm) {f : Fld} (h1 : f.off ≠ 0x10018) (h2 : f.off ≠ 0x30000) : s.settle.get f = s.get f := by
  simp [State.get, State.settle_reg s h h1 h2]

/-- It records no output but a change of ERR_N. -/
theorem State.settle_outs (s : State) (h : s.calm) : s.settle.outs = s.outs ∨ ∃ l, s.settle.outs = .pin "ERR_N" l :: s.outs := by
  rw [State.settle_calm s h]
  obtain ⟨n, m, k, b, l, e⟩ := (s.put F.DEV_BRINGUP_SYNC (b2n s.synced)).errPin_form
  rw [e]
  cases b
  · rw [cond_false, State.outs_pin]; simp only [State.put_outs]; exact .inr ⟨l, rfl⟩
  · rw [cond_true]; left; simp only [State.put_outs]

/-- A state that agrees with a calm one in what calm names is calm. -/
theorem State.calm_congr {s t : State} (h : s.calm) (hw : t.work = s.work) (hp : t.pdOver = s.pdOver) (hr : t.roomQ = s.roomQ) (ha : t.active = s.active)
    (ho : t.ops = s.ops) (hh : t.hold = s.hold) (hm : t.reg 0x10000 = s.reg 0x10000) : t.calm := by
  obtain ⟨h1, h2, h3, h4, h5, h6, h7⟩ := h
  refine ⟨hw.trans h1, hp.trans h2, hr.trans h3, ha.trans h4, ?_, ?_, hh.trans h7⟩
  · simpa [State.revoking, ho] using h5
  · have : t.mode = s.mode := by simp [State.mode, State.get, F.DEV_MODE_MODE, hm]
    rw [this]; exact h6

/-! ### Completion -/

theorem ended_true (ok : Bool) (s : State) (h : ok = true) : ended ok s = .next s.settle := by simp [ended, ranged, h]

theorem ended_false (ok : Bool) (s : State) (h : ok = false) : ended ok s = .fault .noSuchInstance := by simp [ended, ranged, h]

theorem State.fabric_on (s : State) (k : State → State) (h : s.hold = .none) : s.fabric k = k s := by simp [State.fabric, h]

theorem State.powered_on (s : State) (k : State → State) (h : s.hold ≠ .off) : s.powered k = k s := by simp [State.powered, h]

/-- The step takes the command at the front of the queue. -/
theorem step_cons (s : State) (c : Instr) (rest : List Instr) (h : s.pending = c :: rest) : step s = exec c { s with pending := rest } := by
  simp [step, h]

/-! ### Fields that a change of registers and outputs leaves -/

theorem State.edge_spend {s t : State} (h : s.edge t) : t.spend = s.spend := by obtain ⟨r, o, rfl⟩ := h; rfl
theorem State.edge_smask {s t : State} (h : s.edge t) : t.smask = s.smask := by obtain ⟨r, o, rfl⟩ := h; rfl
theorem State.edge_hist {s t : State} (h : s.edge t) : t.hist = s.hist := by obtain ⟨r, o, rfl⟩ := h; rfl
theorem State.edge_first {s t : State} (h : s.edge t) : t.first = s.first := by obtain ⟨r, o, rfl⟩ := h; rfl
theorem State.edge_active {s t : State} (h : s.edge t) : t.active = s.active := by obtain ⟨r, o, rfl⟩ := h; rfl
theorem State.edge_fltIrq {s t : State} (h : s.edge t) : t.fltIrq = s.fltIrq := by obtain ⟨r, o, rfl⟩ := h; rfl
theorem State.edge_fltDefer {s t : State} (h : s.edge t) : t.fltDefer = s.fltDefer := by obtain ⟨r, o, rfl⟩ := h; rfl
theorem State.edge_fns {s t : State} (h : s.edge t) : t.fns = s.fns := by obtain ⟨r, o, rfl⟩ := h; rfl
theorem State.edge_ports {s t : State} (h : s.edge t) : t.ports = s.ports := by obtain ⟨r, o, rfl⟩ := h; rfl
theorem State.edge_runs {s t : State} (h : s.edge t) : t.runs = s.runs := by obtain ⟨r, o, rfl⟩ := h; rfl
theorem State.edge_gens {s t : State} (h : s.edge t) : t.gens = s.gens := by obtain ⟨r, o, rfl⟩ := h; rfl
theorem State.edge_readyCtr {s t : State} (h : s.edge t) : t.readyCtr = s.readyCtr := by obtain ⟨r, o, rfl⟩ := h; rfl
theorem State.edge_pcache {s t : State} (h : s.edge t) : t.pcache = s.pcache := by obtain ⟨r, o, rfl⟩ := h; rfl
theorem State.edge_fenced {s t : State} (h : s.edge t) : t.fenced = s.fenced := by obtain ⟨r, o, rfl⟩ := h; rfl
theorem State.edge_ops {s t : State} (h : s.edge t) : t.ops = s.ops := by obtain ⟨r, o, rfl⟩ := h; rfl
theorem State.edge_wqs {s t : State} (h : s.edge t) : t.wqs = s.wqs := by obtain ⟨r, o, rfl⟩ := h; rfl
theorem State.edge_eqs {s t : State} (h : s.edge t) : t.eqs = s.eqs := by obtain ⟨r, o, rfl⟩ := h; rfl
theorem State.edge_ctrs {s t : State} (h : s.edge t) : t.ctrs = s.ctrs := by obtain ⟨r, o, rfl⟩ := h; rfl
theorem State.edge_pas {s t : State} (h : s.edge t) : t.pas = s.pas := by obtain ⟨r, o, rfl⟩ := h; rfl
theorem State.edge_tlb {s t : State} (h : s.edge t) : t.tlb = s.tlb := by obtain ⟨r, o, rfl⟩ := h; rfl
theorem State.edge_walks {s t : State} (h : s.edge t) : t.walks = s.walks := by obtain ⟨r, o, rfl⟩ := h; rfl
theorem State.edge_accs {s t : State} (h : s.edge t) : t.accs = s.accs := by obtain ⟨r, o, rfl⟩ := h; rfl
theorem State.edge_invals {s t : State} (h : s.edge t) : t.invals = s.invals := by obtain ⟨r, o, rfl⟩ := h; rfl
theorem State.edge_nextId {s t : State} (h : s.edge t) : t.nextId = s.nextId := by obtain ⟨r, o, rfl⟩ := h; rfl
theorem State.edge_chans {s t : State} (h : s.edge t) : t.chans = s.chans := by obtain ⟨r, o, rfl⟩ := h; rfl
theorem State.edge_unbound {s t : State} (h : s.edge t) : t.unbound = s.unbound := by obtain ⟨r, o, rfl⟩ := h; rfl
theorem State.edge_tolls {s t : State} (h : s.edge t) : t.tolls = s.tolls := by obtain ⟨r, o, rfl⟩ := h; rfl
theorem State.edge_inj {s t : State} (h : s.edge t) : t.inj = s.inj := by obtain ⟨r, o, rfl⟩ := h; rfl
theorem State.edge_samp {s t : State} (h : s.edge t) : t.samp = s.samp := by obtain ⟨r, o, rfl⟩ := h; rfl
theorem State.edge_ptx {s t : State} (h : s.edge t) : t.ptx = s.ptx := by obtain ⟨r, o, rfl⟩ := h; rfl
theorem State.edge_prx {s t : State} (h : s.edge t) : t.prx = s.prx := by obtain ⟨r, o, rfl⟩ := h; rfl
theorem State.edge_peerInc {s t : State} (h : s.edge t) : t.peerInc = s.peerInc := by obtain ⟨r, o, rfl⟩ := h; rfl
theorem State.edge_kcache {s t : State} (h : s.edge t) : t.kcache = s.kcache := by obtain ⟨r, o, rfl⟩ := h; rfl
theorem State.edge_kuse {s t : State} (h : s.edge t) : t.kuse = s.kuse := by obtain ⟨r, o, rfl⟩ := h; rfl
theorem State.edge_kwait {s t : State} (h : s.edge t) : t.kwait = s.kwait := by obtain ⟨r, o, rfl⟩ := h; rfl
theorem State.edge_lines {s t : State} (h : s.edge t) : t.lines = s.lines := by obtain ⟨r, o, rfl⟩ := h; rfl
theorem State.edge_amoRes {s t : State} (h : s.edge t) : t.amoRes = s.amoRes := by obtain ⟨r, o, rfl⟩ := h; rfl
theorem State.edge_mctx {s t : State} (h : s.edge t) : t.mctx = s.mctx := by obtain ⟨r, o, rfl⟩ := h; rfl
theorem State.edge_msgs {s t : State} (h : s.edge t) : t.msgs = s.msgs := by obtain ⟨r, o, rfl⟩ := h; rfl
theorem State.edge_preds {s t : State} (h : s.edge t) : t.preds = s.preds := by obtain ⟨r, o, rfl⟩ := h; rfl
theorem State.edge_secret {s t : State} (h : s.edge t) : t.secret = s.secret := by obtain ⟨r, o, rfl⟩ := h; rfl
theorem State.edge_freeCtr {s t : State} (h : s.edge t) : t.freeCtr = s.freeCtr := by obtain ⟨r, o, rfl⟩ := h; rfl
theorem State.edge_work {s t : State} (h : s.edge t) : t.work = s.work := by obtain ⟨r, o, rfl⟩ := h; rfl
theorem State.edge_pending {s t : State} (h : s.edge t) : t.pending = s.pending := by obtain ⟨r, o, rfl⟩ := h; rfl
theorem State.edge_eps {s t : State} (h : s.edge t) : t.eps = s.eps := by obtain ⟨r, o, rfl⟩ := h; rfl
theorem State.edge_routes {s t : State} (h : s.edge t) : t.routes = s.routes := by obtain ⟨r, o, rfl⟩ := h; rfl
theorem State.edge_doms {s t : State} (h : s.edge t) : t.doms = s.doms := by obtain ⟨r, o, rfl⟩ := h; rfl
theorem State.edge_resps {s t : State} (h : s.edge t) : t.resps = s.resps := by obtain ⟨r, o, rfl⟩ := h; rfl
theorem State.edge_rin {s t : State} (h : s.edge t) : t.rin = s.rin := by obtain ⟨r, o, rfl⟩ := h; rfl
theorem State.edge_quiet {s t : State} (h : s.edge t) : t.quiet = s.quiet := by obtain ⟨r, o, rfl⟩ := h; rfl
theorem State.edge_quietLeft {s t : State} (h : s.edge t) : t.quietLeft = s.quietLeft := by obtain ⟨r, o, rfl⟩ := h; rfl
theorem State.edge_firstBnd {s t : State} (h : s.edge t) : t.firstBnd = s.firstBnd := by obtain ⟨r, o, rfl⟩ := h; rfl
theorem State.edge_ctlSent {s t : State} (h : s.edge t) : t.ctlSent = s.ctlSent := by obtain ⟨r, o, rfl⟩ := h; rfl
theorem State.edge_ctlWait {s t : State} (h : s.edge t) : t.ctlWait = s.ctlWait := by obtain ⟨r, o, rfl⟩ := h; rfl
theorem State.edge_fports {s t : State} (h : s.edge t) : t.fports = s.fports := by obtain ⟨r, o, rfl⟩ := h; rfl
theorem State.edge_vlfsr {s t : State} (h : s.edge t) : t.vlfsr = s.vlfsr := by obtain ⟨r, o, rfl⟩ := h; rfl
theorem State.edge_bankCopy {s t : State} (h : s.edge t) : t.bankCopy = s.bankCopy := by obtain ⟨r, o, rfl⟩ := h; rfl
theorem State.edge_copyQ {s t : State} (h : s.edge t) : t.copyQ = s.copyQ := by obtain ⟨r, o, rfl⟩ := h; rfl
theorem State.edge_grps {s t : State} (h : s.edge t) : t.grps = s.grps := by obtain ⟨r, o, rfl⟩ := h; rfl
theorem State.edge_cvys {s t : State} (h : s.edge t) : t.cvys = s.cvys := by obtain ⟨r, o, rfl⟩ := h; rfl
theorem State.edge_portCnt {s t : State} (h : s.edge t) : t.portCnt = s.portCnt := by obtain ⟨r, o, rfl⟩ := h; rfl
theorem State.edge_roomQ {s t : State} (h : s.edge t) : t.roomQ = s.roomQ := by obtain ⟨r, o, rfl⟩ := h; rfl
theorem State.edge_sync {s t : State} (h : s.edge t) : t.sync = s.sync := by obtain ⟨r, o, rfl⟩ := h; rfl
theorem State.edge_syncTx {s t : State} (h : s.edge t) : t.syncTx = s.syncTx := by obtain ⟨r, o, rfl⟩ := h; rfl
theorem State.edge_syncRx {s t : State} (h : s.edge t) : t.syncRx = s.syncRx := by obtain ⟨r, o, rfl⟩ := h; rfl
theorem State.edge_tb {s t : State} (h : s.edge t) : t.tb = s.tb := by obtain ⟨r, o, rfl⟩ := h; rfl
theorem State.edge_fmLeft {s t : State} (h : s.edge t) : t.fmLeft = s.fmLeft := by obtain ⟨r, o, rfl⟩ := h; rfl
theorem State.edge_bwLeft {s t : State} (h : s.edge t) : t.bwLeft = s.bwLeft := by obtain ⟨r, o, rfl⟩ := h; rfl
theorem State.edge_bwBase {s t : State} (h : s.edge t) : t.bwBase = s.bwBase := by obtain ⟨r, o, rfl⟩ := h; rfl
theorem State.edge_clkHold {s t : State} (h : s.edge t) : t.clkHold = s.clkHold := by obtain ⟨r, o, rfl⟩ := h; rfl
theorem State.edge_locks {s t : State} (h : s.edge t) : t.locks = s.locks := by obtain ⟨r, o, rfl⟩ := h; rfl
theorem State.edge_sess {s t : State} (h : s.edge t) : t.sess = s.sess := by obtain ⟨r, o, rfl⟩ := h; rfl
theorem State.edge_ide {s t : State} (h : s.edge t) : t.ide = s.ide := by obtain ⟨r, o, rfl⟩ := h; rfl
theorem State.edge_fmKey {s t : State} (h : s.edge t) : t.fmKey = s.fmKey := by obtain ⟨r, o, rfl⟩ := h; rfl
theorem State.edge_mbxTag {s t : State} (h : s.edge t) : t.mbxTag = s.mbxTag := by obtain ⟨r, o, rfl⟩ := h; rfl
theorem State.edge_mbxLeft {s t : State} (h : s.edge t) : t.mbxLeft = s.mbxLeft := by obtain ⟨r, o, rfl⟩ := h; rfl
theorem State.edge_ledStart {s t : State} (h : s.edge t) : t.ledStart = s.ledStart := by obtain ⟨r, o, rfl⟩ := h; rfl
theorem State.edge_ledMerged {s t : State} (h : s.edge t) : t.ledMerged = s.ledMerged := by obtain ⟨r, o, rfl⟩ := h; rfl
theorem State.edge_ledDue {s t : State} (h : s.edge t) : t.ledDue = s.ledDue := by obtain ⟨r, o, rfl⟩ := h; rfl
theorem State.edge_ledSeq {s t : State} (h : s.edge t) : t.ledSeq = s.ledSeq := by obtain ⟨r, o, rfl⟩ := h; rfl
theorem State.edge_ledDoms {s t : State} (h : s.edge t) : t.ledDoms = s.ledDoms := by obtain ⟨r, o, rfl⟩ := h; rfl
theorem State.edge_train {s t : State} (h : s.edge t) : t.train = s.train := by obtain ⟨r, o, rfl⟩ := h; rfl
theorem State.edge_mods {s t : State} (h : s.edge t) : t.mods = s.mods := by obtain ⟨r, o, rfl⟩ := h; rfl
theorem State.edge_cmisQ {s t : State} (h : s.edge t) : t.cmisQ = s.cmisQ := by obtain ⟨r, o, rfl⟩ := h; rfl
theorem State.edge_cages {s t : State} (h : s.edge t) : t.cages = s.cages := by obtain ⟨r, o, rfl⟩ := h; rfl
theorem State.edge_snap {s t : State} (h : s.edge t) : t.snap = s.snap := by obtain ⟨r, o, rfl⟩ := h; rfl
theorem State.edge_snapSeq {s t : State} (h : s.edge t) : t.snapSeq = s.snapSeq := by obtain ⟨r, o, rfl⟩ := h; rfl
theorem State.edge_snapSkip {s t : State} (h : s.edge t) : t.snapSkip = s.snapSkip := by obtain ⟨r, o, rfl⟩ := h; rfl
theorem State.edge_snapOver {s t : State} (h : s.edge t) : t.snapOver = s.snapOver := by obtain ⟨r, o, rfl⟩ := h; rfl
theorem State.edge_modeReq {s t : State} (h : s.edge t) : t.modeReq = s.modeReq := by obtain ⟨r, o, rfl⟩ := h; rfl
theorem State.edge_commitReq {s t : State} (h : s.edge t) : t.commitReq = s.commitReq := by obtain ⟨r, o, rfl⟩ := h; rfl
theorem State.edge_retDue {s t : State} (h : s.edge t) : t.retDue = s.retDue := by obtain ⟨r, o, rfl⟩ := h; rfl
theorem State.edge_pdLeft {s t : State} (h : s.edge t) : t.pdLeft = s.pdLeft := by obtain ⟨r, o, rfl⟩ := h; rfl
theorem State.edge_pdOver {s t : State} (h : s.edge t) : t.pdOver = s.pdOver := by obtain ⟨r, o, rfl⟩ := h; rfl
theorem State.edge_hold {s t : State} (h : s.edge t) : t.hold = s.hold := by obtain ⟨r, o, rfl⟩ := h; rfl
theorem State.edge_railBad {s t : State} (h : s.edge t) : t.railBad = s.railBad := by obtain ⟨r, o, rfl⟩ := h; rfl
theorem State.edge_slew {s t : State} (h : s.edge t) : t.slew = s.slew := by obtain ⟨r, o, rfl⟩ := h; rfl
theorem State.edge_stageSeen {s t : State} (h : s.edge t) : t.stageSeen = s.stageSeen := by obtain ⟨r, o, rfl⟩ := h; rfl
theorem State.edge_overruns {s t : State} (h : s.edge t) : t.overruns = s.overruns := by obtain ⟨r, o, rfl⟩ := h; rfl

/-! ### Fields that settling a calm state leaves -/

theorem State.settle_spend (s : State) (h : s.calm) : s.settle.spend = s.spend := State.edge_spend (s.edge_settle h)
theorem State.settle_smask (s : State) (h : s.calm) : s.settle.smask = s.smask := State.edge_smask (s.edge_settle h)
theorem State.settle_hist (s : State) (h : s.calm) : s.settle.hist = s.hist := State.edge_hist (s.edge_settle h)
theorem State.settle_first (s : State) (h : s.calm) : s.settle.first = s.first := State.edge_first (s.edge_settle h)
theorem State.settle_active (s : State) (h : s.calm) : s.settle.active = s.active := State.edge_active (s.edge_settle h)
theorem State.settle_fltIrq (s : State) (h : s.calm) : s.settle.fltIrq = s.fltIrq := State.edge_fltIrq (s.edge_settle h)
theorem State.settle_fltDefer (s : State) (h : s.calm) : s.settle.fltDefer = s.fltDefer := State.edge_fltDefer (s.edge_settle h)
theorem State.settle_fns (s : State) (h : s.calm) : s.settle.fns = s.fns := State.edge_fns (s.edge_settle h)
theorem State.settle_ports (s : State) (h : s.calm) : s.settle.ports = s.ports := State.edge_ports (s.edge_settle h)
theorem State.settle_runs (s : State) (h : s.calm) : s.settle.runs = s.runs := State.edge_runs (s.edge_settle h)
theorem State.settle_gens (s : State) (h : s.calm) : s.settle.gens = s.gens := State.edge_gens (s.edge_settle h)
theorem State.settle_readyCtr (s : State) (h : s.calm) : s.settle.readyCtr = s.readyCtr := State.edge_readyCtr (s.edge_settle h)
theorem State.settle_pcache (s : State) (h : s.calm) : s.settle.pcache = s.pcache := State.edge_pcache (s.edge_settle h)
theorem State.settle_fenced (s : State) (h : s.calm) : s.settle.fenced = s.fenced := State.edge_fenced (s.edge_settle h)
theorem State.settle_ops (s : State) (h : s.calm) : s.settle.ops = s.ops := State.edge_ops (s.edge_settle h)
theorem State.settle_wqs (s : State) (h : s.calm) : s.settle.wqs = s.wqs := State.edge_wqs (s.edge_settle h)
theorem State.settle_eqs (s : State) (h : s.calm) : s.settle.eqs = s.eqs := State.edge_eqs (s.edge_settle h)
theorem State.settle_ctrs (s : State) (h : s.calm) : s.settle.ctrs = s.ctrs := State.edge_ctrs (s.edge_settle h)
theorem State.settle_pas (s : State) (h : s.calm) : s.settle.pas = s.pas := State.edge_pas (s.edge_settle h)
theorem State.settle_tlb (s : State) (h : s.calm) : s.settle.tlb = s.tlb := State.edge_tlb (s.edge_settle h)
theorem State.settle_walks (s : State) (h : s.calm) : s.settle.walks = s.walks := State.edge_walks (s.edge_settle h)
theorem State.settle_accs (s : State) (h : s.calm) : s.settle.accs = s.accs := State.edge_accs (s.edge_settle h)
theorem State.settle_invals (s : State) (h : s.calm) : s.settle.invals = s.invals := State.edge_invals (s.edge_settle h)
theorem State.settle_nextId (s : State) (h : s.calm) : s.settle.nextId = s.nextId := State.edge_nextId (s.edge_settle h)
theorem State.settle_chans (s : State) (h : s.calm) : s.settle.chans = s.chans := State.edge_chans (s.edge_settle h)
theorem State.settle_unbound (s : State) (h : s.calm) : s.settle.unbound = s.unbound := State.edge_unbound (s.edge_settle h)
theorem State.settle_tolls (s : State) (h : s.calm) : s.settle.tolls = s.tolls := State.edge_tolls (s.edge_settle h)
theorem State.settle_inj (s : State) (h : s.calm) : s.settle.inj = s.inj := State.edge_inj (s.edge_settle h)
theorem State.settle_samp (s : State) (h : s.calm) : s.settle.samp = s.samp := State.edge_samp (s.edge_settle h)
theorem State.settle_ptx (s : State) (h : s.calm) : s.settle.ptx = s.ptx := State.edge_ptx (s.edge_settle h)
theorem State.settle_prx (s : State) (h : s.calm) : s.settle.prx = s.prx := State.edge_prx (s.edge_settle h)
theorem State.settle_peerInc (s : State) (h : s.calm) : s.settle.peerInc = s.peerInc := State.edge_peerInc (s.edge_settle h)
theorem State.settle_kcache (s : State) (h : s.calm) : s.settle.kcache = s.kcache := State.edge_kcache (s.edge_settle h)
theorem State.settle_kuse (s : State) (h : s.calm) : s.settle.kuse = s.kuse := State.edge_kuse (s.edge_settle h)
theorem State.settle_kwait (s : State) (h : s.calm) : s.settle.kwait = s.kwait := State.edge_kwait (s.edge_settle h)
theorem State.settle_lines (s : State) (h : s.calm) : s.settle.lines = s.lines := State.edge_lines (s.edge_settle h)
theorem State.settle_amoRes (s : State) (h : s.calm) : s.settle.amoRes = s.amoRes := State.edge_amoRes (s.edge_settle h)
theorem State.settle_mctx (s : State) (h : s.calm) : s.settle.mctx = s.mctx := State.edge_mctx (s.edge_settle h)
theorem State.settle_msgs (s : State) (h : s.calm) : s.settle.msgs = s.msgs := State.edge_msgs (s.edge_settle h)
theorem State.settle_preds (s : State) (h : s.calm) : s.settle.preds = s.preds := State.edge_preds (s.edge_settle h)
theorem State.settle_secret (s : State) (h : s.calm) : s.settle.secret = s.secret := State.edge_secret (s.edge_settle h)
theorem State.settle_freeCtr (s : State) (h : s.calm) : s.settle.freeCtr = s.freeCtr := State.edge_freeCtr (s.edge_settle h)
theorem State.settle_work (s : State) (h : s.calm) : s.settle.work = s.work := State.edge_work (s.edge_settle h)
theorem State.settle_pending (s : State) (h : s.calm) : s.settle.pending = s.pending := State.edge_pending (s.edge_settle h)
theorem State.settle_eps (s : State) (h : s.calm) : s.settle.eps = s.eps := State.edge_eps (s.edge_settle h)
theorem State.settle_routes (s : State) (h : s.calm) : s.settle.routes = s.routes := State.edge_routes (s.edge_settle h)
theorem State.settle_doms (s : State) (h : s.calm) : s.settle.doms = s.doms := State.edge_doms (s.edge_settle h)
theorem State.settle_resps (s : State) (h : s.calm) : s.settle.resps = s.resps := State.edge_resps (s.edge_settle h)
theorem State.settle_rin (s : State) (h : s.calm) : s.settle.rin = s.rin := State.edge_rin (s.edge_settle h)
theorem State.settle_quiet (s : State) (h : s.calm) : s.settle.quiet = s.quiet := State.edge_quiet (s.edge_settle h)
theorem State.settle_quietLeft (s : State) (h : s.calm) : s.settle.quietLeft = s.quietLeft := State.edge_quietLeft (s.edge_settle h)
theorem State.settle_firstBnd (s : State) (h : s.calm) : s.settle.firstBnd = s.firstBnd := State.edge_firstBnd (s.edge_settle h)
theorem State.settle_ctlSent (s : State) (h : s.calm) : s.settle.ctlSent = s.ctlSent := State.edge_ctlSent (s.edge_settle h)
theorem State.settle_ctlWait (s : State) (h : s.calm) : s.settle.ctlWait = s.ctlWait := State.edge_ctlWait (s.edge_settle h)
theorem State.settle_fports (s : State) (h : s.calm) : s.settle.fports = s.fports := State.edge_fports (s.edge_settle h)
theorem State.settle_vlfsr (s : State) (h : s.calm) : s.settle.vlfsr = s.vlfsr := State.edge_vlfsr (s.edge_settle h)
theorem State.settle_bankCopy (s : State) (h : s.calm) : s.settle.bankCopy = s.bankCopy := State.edge_bankCopy (s.edge_settle h)
theorem State.settle_copyQ (s : State) (h : s.calm) : s.settle.copyQ = s.copyQ := State.edge_copyQ (s.edge_settle h)
theorem State.settle_grps (s : State) (h : s.calm) : s.settle.grps = s.grps := State.edge_grps (s.edge_settle h)
theorem State.settle_cvys (s : State) (h : s.calm) : s.settle.cvys = s.cvys := State.edge_cvys (s.edge_settle h)
theorem State.settle_portCnt (s : State) (h : s.calm) : s.settle.portCnt = s.portCnt := State.edge_portCnt (s.edge_settle h)
theorem State.settle_roomQ (s : State) (h : s.calm) : s.settle.roomQ = s.roomQ := State.edge_roomQ (s.edge_settle h)
theorem State.settle_sync (s : State) (h : s.calm) : s.settle.sync = s.sync := State.edge_sync (s.edge_settle h)
theorem State.settle_syncTx (s : State) (h : s.calm) : s.settle.syncTx = s.syncTx := State.edge_syncTx (s.edge_settle h)
theorem State.settle_syncRx (s : State) (h : s.calm) : s.settle.syncRx = s.syncRx := State.edge_syncRx (s.edge_settle h)
theorem State.settle_tb (s : State) (h : s.calm) : s.settle.tb = s.tb := State.edge_tb (s.edge_settle h)
theorem State.settle_fmLeft (s : State) (h : s.calm) : s.settle.fmLeft = s.fmLeft := State.edge_fmLeft (s.edge_settle h)
theorem State.settle_bwLeft (s : State) (h : s.calm) : s.settle.bwLeft = s.bwLeft := State.edge_bwLeft (s.edge_settle h)
theorem State.settle_bwBase (s : State) (h : s.calm) : s.settle.bwBase = s.bwBase := State.edge_bwBase (s.edge_settle h)
theorem State.settle_clkHold (s : State) (h : s.calm) : s.settle.clkHold = s.clkHold := State.edge_clkHold (s.edge_settle h)
theorem State.settle_locks (s : State) (h : s.calm) : s.settle.locks = s.locks := State.edge_locks (s.edge_settle h)
theorem State.settle_sess (s : State) (h : s.calm) : s.settle.sess = s.sess := State.edge_sess (s.edge_settle h)
theorem State.settle_ide (s : State) (h : s.calm) : s.settle.ide = s.ide := State.edge_ide (s.edge_settle h)
theorem State.settle_fmKey (s : State) (h : s.calm) : s.settle.fmKey = s.fmKey := State.edge_fmKey (s.edge_settle h)
theorem State.settle_mbxTag (s : State) (h : s.calm) : s.settle.mbxTag = s.mbxTag := State.edge_mbxTag (s.edge_settle h)
theorem State.settle_mbxLeft (s : State) (h : s.calm) : s.settle.mbxLeft = s.mbxLeft := State.edge_mbxLeft (s.edge_settle h)
theorem State.settle_ledStart (s : State) (h : s.calm) : s.settle.ledStart = s.ledStart := State.edge_ledStart (s.edge_settle h)
theorem State.settle_ledMerged (s : State) (h : s.calm) : s.settle.ledMerged = s.ledMerged := State.edge_ledMerged (s.edge_settle h)
theorem State.settle_ledDue (s : State) (h : s.calm) : s.settle.ledDue = s.ledDue := State.edge_ledDue (s.edge_settle h)
theorem State.settle_ledSeq (s : State) (h : s.calm) : s.settle.ledSeq = s.ledSeq := State.edge_ledSeq (s.edge_settle h)
theorem State.settle_ledDoms (s : State) (h : s.calm) : s.settle.ledDoms = s.ledDoms := State.edge_ledDoms (s.edge_settle h)
theorem State.settle_train (s : State) (h : s.calm) : s.settle.train = s.train := State.edge_train (s.edge_settle h)
theorem State.settle_mods (s : State) (h : s.calm) : s.settle.mods = s.mods := State.edge_mods (s.edge_settle h)
theorem State.settle_cmisQ (s : State) (h : s.calm) : s.settle.cmisQ = s.cmisQ := State.edge_cmisQ (s.edge_settle h)
theorem State.settle_cages (s : State) (h : s.calm) : s.settle.cages = s.cages := State.edge_cages (s.edge_settle h)
theorem State.settle_snap (s : State) (h : s.calm) : s.settle.snap = s.snap := State.edge_snap (s.edge_settle h)
theorem State.settle_snapSeq (s : State) (h : s.calm) : s.settle.snapSeq = s.snapSeq := State.edge_snapSeq (s.edge_settle h)
theorem State.settle_snapSkip (s : State) (h : s.calm) : s.settle.snapSkip = s.snapSkip := State.edge_snapSkip (s.edge_settle h)
theorem State.settle_snapOver (s : State) (h : s.calm) : s.settle.snapOver = s.snapOver := State.edge_snapOver (s.edge_settle h)
theorem State.settle_modeReq (s : State) (h : s.calm) : s.settle.modeReq = s.modeReq := State.edge_modeReq (s.edge_settle h)
theorem State.settle_commitReq (s : State) (h : s.calm) : s.settle.commitReq = s.commitReq := State.edge_commitReq (s.edge_settle h)
theorem State.settle_retDue (s : State) (h : s.calm) : s.settle.retDue = s.retDue := State.edge_retDue (s.edge_settle h)
theorem State.settle_pdLeft (s : State) (h : s.calm) : s.settle.pdLeft = s.pdLeft := State.edge_pdLeft (s.edge_settle h)
theorem State.settle_pdOver (s : State) (h : s.calm) : s.settle.pdOver = s.pdOver := State.edge_pdOver (s.edge_settle h)
theorem State.settle_hold (s : State) (h : s.calm) : s.settle.hold = s.hold := State.edge_hold (s.edge_settle h)
theorem State.settle_railBad (s : State) (h : s.calm) : s.settle.railBad = s.railBad := State.edge_railBad (s.edge_settle h)
theorem State.settle_slew (s : State) (h : s.calm) : s.settle.slew = s.slew := State.edge_slew (s.edge_settle h)
theorem State.settle_stageSeen (s : State) (h : s.calm) : s.settle.stageSeen = s.stageSeen := State.edge_stageSeen (s.edge_settle h)
theorem State.settle_overruns (s : State) (h : s.calm) : s.settle.overruns = s.overruns := State.edge_overruns (s.edge_settle h)

/-! ### Fields that an output leaves -/

@[simp] theorem State.out_spend (s : State) (o : Out) : (s.out o).spend = s.spend := State.edge_spend (State.edge_out o s.edge_refl)
@[simp] theorem State.out_smask (s : State) (o : Out) : (s.out o).smask = s.smask := State.edge_smask (State.edge_out o s.edge_refl)
@[simp] theorem State.out_hist (s : State) (o : Out) : (s.out o).hist = s.hist := State.edge_hist (State.edge_out o s.edge_refl)
@[simp] theorem State.out_first (s : State) (o : Out) : (s.out o).first = s.first := State.edge_first (State.edge_out o s.edge_refl)
@[simp] theorem State.out_active (s : State) (o : Out) : (s.out o).active = s.active := State.edge_active (State.edge_out o s.edge_refl)
@[simp] theorem State.out_fltIrq (s : State) (o : Out) : (s.out o).fltIrq = s.fltIrq := State.edge_fltIrq (State.edge_out o s.edge_refl)
@[simp] theorem State.out_fltDefer (s : State) (o : Out) : (s.out o).fltDefer = s.fltDefer := State.edge_fltDefer (State.edge_out o s.edge_refl)
@[simp] theorem State.out_fns (s : State) (o : Out) : (s.out o).fns = s.fns := State.edge_fns (State.edge_out o s.edge_refl)
@[simp] theorem State.out_ports (s : State) (o : Out) : (s.out o).ports = s.ports := State.edge_ports (State.edge_out o s.edge_refl)
@[simp] theorem State.out_runs (s : State) (o : Out) : (s.out o).runs = s.runs := State.edge_runs (State.edge_out o s.edge_refl)
@[simp] theorem State.out_gens (s : State) (o : Out) : (s.out o).gens = s.gens := State.edge_gens (State.edge_out o s.edge_refl)
@[simp] theorem State.out_readyCtr (s : State) (o : Out) : (s.out o).readyCtr = s.readyCtr := State.edge_readyCtr (State.edge_out o s.edge_refl)
@[simp] theorem State.out_pcache (s : State) (o : Out) : (s.out o).pcache = s.pcache := State.edge_pcache (State.edge_out o s.edge_refl)
@[simp] theorem State.out_fenced (s : State) (o : Out) : (s.out o).fenced = s.fenced := State.edge_fenced (State.edge_out o s.edge_refl)
@[simp] theorem State.out_ops (s : State) (o : Out) : (s.out o).ops = s.ops := State.edge_ops (State.edge_out o s.edge_refl)
@[simp] theorem State.out_wqs (s : State) (o : Out) : (s.out o).wqs = s.wqs := State.edge_wqs (State.edge_out o s.edge_refl)
@[simp] theorem State.out_eqs (s : State) (o : Out) : (s.out o).eqs = s.eqs := State.edge_eqs (State.edge_out o s.edge_refl)
@[simp] theorem State.out_ctrs (s : State) (o : Out) : (s.out o).ctrs = s.ctrs := State.edge_ctrs (State.edge_out o s.edge_refl)
@[simp] theorem State.out_pas (s : State) (o : Out) : (s.out o).pas = s.pas := State.edge_pas (State.edge_out o s.edge_refl)
@[simp] theorem State.out_tlb (s : State) (o : Out) : (s.out o).tlb = s.tlb := State.edge_tlb (State.edge_out o s.edge_refl)
@[simp] theorem State.out_walks (s : State) (o : Out) : (s.out o).walks = s.walks := State.edge_walks (State.edge_out o s.edge_refl)
@[simp] theorem State.out_accs (s : State) (o : Out) : (s.out o).accs = s.accs := State.edge_accs (State.edge_out o s.edge_refl)
@[simp] theorem State.out_invals (s : State) (o : Out) : (s.out o).invals = s.invals := State.edge_invals (State.edge_out o s.edge_refl)
@[simp] theorem State.out_nextId (s : State) (o : Out) : (s.out o).nextId = s.nextId := State.edge_nextId (State.edge_out o s.edge_refl)
@[simp] theorem State.out_chans (s : State) (o : Out) : (s.out o).chans = s.chans := State.edge_chans (State.edge_out o s.edge_refl)
@[simp] theorem State.out_unbound (s : State) (o : Out) : (s.out o).unbound = s.unbound := State.edge_unbound (State.edge_out o s.edge_refl)
@[simp] theorem State.out_tolls (s : State) (o : Out) : (s.out o).tolls = s.tolls := State.edge_tolls (State.edge_out o s.edge_refl)
@[simp] theorem State.out_inj (s : State) (o : Out) : (s.out o).inj = s.inj := State.edge_inj (State.edge_out o s.edge_refl)
@[simp] theorem State.out_samp (s : State) (o : Out) : (s.out o).samp = s.samp := State.edge_samp (State.edge_out o s.edge_refl)
@[simp] theorem State.out_ptx (s : State) (o : Out) : (s.out o).ptx = s.ptx := State.edge_ptx (State.edge_out o s.edge_refl)
@[simp] theorem State.out_prx (s : State) (o : Out) : (s.out o).prx = s.prx := State.edge_prx (State.edge_out o s.edge_refl)
@[simp] theorem State.out_peerInc (s : State) (o : Out) : (s.out o).peerInc = s.peerInc := State.edge_peerInc (State.edge_out o s.edge_refl)
@[simp] theorem State.out_kcache (s : State) (o : Out) : (s.out o).kcache = s.kcache := State.edge_kcache (State.edge_out o s.edge_refl)
@[simp] theorem State.out_kuse (s : State) (o : Out) : (s.out o).kuse = s.kuse := State.edge_kuse (State.edge_out o s.edge_refl)
@[simp] theorem State.out_kwait (s : State) (o : Out) : (s.out o).kwait = s.kwait := State.edge_kwait (State.edge_out o s.edge_refl)
@[simp] theorem State.out_lines (s : State) (o : Out) : (s.out o).lines = s.lines := State.edge_lines (State.edge_out o s.edge_refl)
@[simp] theorem State.out_amoRes (s : State) (o : Out) : (s.out o).amoRes = s.amoRes := State.edge_amoRes (State.edge_out o s.edge_refl)
@[simp] theorem State.out_mctx (s : State) (o : Out) : (s.out o).mctx = s.mctx := State.edge_mctx (State.edge_out o s.edge_refl)
@[simp] theorem State.out_msgs (s : State) (o : Out) : (s.out o).msgs = s.msgs := State.edge_msgs (State.edge_out o s.edge_refl)
@[simp] theorem State.out_preds (s : State) (o : Out) : (s.out o).preds = s.preds := State.edge_preds (State.edge_out o s.edge_refl)
@[simp] theorem State.out_secret (s : State) (o : Out) : (s.out o).secret = s.secret := State.edge_secret (State.edge_out o s.edge_refl)
@[simp] theorem State.out_freeCtr (s : State) (o : Out) : (s.out o).freeCtr = s.freeCtr := State.edge_freeCtr (State.edge_out o s.edge_refl)
@[simp] theorem State.out_work (s : State) (o : Out) : (s.out o).work = s.work := State.edge_work (State.edge_out o s.edge_refl)
@[simp] theorem State.out_pending (s : State) (o : Out) : (s.out o).pending = s.pending := State.edge_pending (State.edge_out o s.edge_refl)
@[simp] theorem State.out_eps (s : State) (o : Out) : (s.out o).eps = s.eps := State.edge_eps (State.edge_out o s.edge_refl)
@[simp] theorem State.out_routes (s : State) (o : Out) : (s.out o).routes = s.routes := State.edge_routes (State.edge_out o s.edge_refl)
@[simp] theorem State.out_doms (s : State) (o : Out) : (s.out o).doms = s.doms := State.edge_doms (State.edge_out o s.edge_refl)
@[simp] theorem State.out_resps (s : State) (o : Out) : (s.out o).resps = s.resps := State.edge_resps (State.edge_out o s.edge_refl)
@[simp] theorem State.out_rin (s : State) (o : Out) : (s.out o).rin = s.rin := State.edge_rin (State.edge_out o s.edge_refl)
@[simp] theorem State.out_quiet (s : State) (o : Out) : (s.out o).quiet = s.quiet := State.edge_quiet (State.edge_out o s.edge_refl)
@[simp] theorem State.out_quietLeft (s : State) (o : Out) : (s.out o).quietLeft = s.quietLeft := State.edge_quietLeft (State.edge_out o s.edge_refl)
@[simp] theorem State.out_firstBnd (s : State) (o : Out) : (s.out o).firstBnd = s.firstBnd := State.edge_firstBnd (State.edge_out o s.edge_refl)
@[simp] theorem State.out_ctlSent (s : State) (o : Out) : (s.out o).ctlSent = s.ctlSent := State.edge_ctlSent (State.edge_out o s.edge_refl)
@[simp] theorem State.out_ctlWait (s : State) (o : Out) : (s.out o).ctlWait = s.ctlWait := State.edge_ctlWait (State.edge_out o s.edge_refl)
@[simp] theorem State.out_fports (s : State) (o : Out) : (s.out o).fports = s.fports := State.edge_fports (State.edge_out o s.edge_refl)
@[simp] theorem State.out_vlfsr (s : State) (o : Out) : (s.out o).vlfsr = s.vlfsr := State.edge_vlfsr (State.edge_out o s.edge_refl)
@[simp] theorem State.out_bankCopy (s : State) (o : Out) : (s.out o).bankCopy = s.bankCopy := State.edge_bankCopy (State.edge_out o s.edge_refl)
@[simp] theorem State.out_copyQ (s : State) (o : Out) : (s.out o).copyQ = s.copyQ := State.edge_copyQ (State.edge_out o s.edge_refl)
@[simp] theorem State.out_grps (s : State) (o : Out) : (s.out o).grps = s.grps := State.edge_grps (State.edge_out o s.edge_refl)
@[simp] theorem State.out_cvys (s : State) (o : Out) : (s.out o).cvys = s.cvys := State.edge_cvys (State.edge_out o s.edge_refl)
@[simp] theorem State.out_portCnt (s : State) (o : Out) : (s.out o).portCnt = s.portCnt := State.edge_portCnt (State.edge_out o s.edge_refl)
@[simp] theorem State.out_roomQ (s : State) (o : Out) : (s.out o).roomQ = s.roomQ := State.edge_roomQ (State.edge_out o s.edge_refl)
@[simp] theorem State.out_sync (s : State) (o : Out) : (s.out o).sync = s.sync := State.edge_sync (State.edge_out o s.edge_refl)
@[simp] theorem State.out_syncTx (s : State) (o : Out) : (s.out o).syncTx = s.syncTx := State.edge_syncTx (State.edge_out o s.edge_refl)
@[simp] theorem State.out_syncRx (s : State) (o : Out) : (s.out o).syncRx = s.syncRx := State.edge_syncRx (State.edge_out o s.edge_refl)
@[simp] theorem State.out_tb (s : State) (o : Out) : (s.out o).tb = s.tb := State.edge_tb (State.edge_out o s.edge_refl)
@[simp] theorem State.out_fmLeft (s : State) (o : Out) : (s.out o).fmLeft = s.fmLeft := State.edge_fmLeft (State.edge_out o s.edge_refl)
@[simp] theorem State.out_bwLeft (s : State) (o : Out) : (s.out o).bwLeft = s.bwLeft := State.edge_bwLeft (State.edge_out o s.edge_refl)
@[simp] theorem State.out_bwBase (s : State) (o : Out) : (s.out o).bwBase = s.bwBase := State.edge_bwBase (State.edge_out o s.edge_refl)
@[simp] theorem State.out_clkHold (s : State) (o : Out) : (s.out o).clkHold = s.clkHold := State.edge_clkHold (State.edge_out o s.edge_refl)
@[simp] theorem State.out_locks (s : State) (o : Out) : (s.out o).locks = s.locks := State.edge_locks (State.edge_out o s.edge_refl)
@[simp] theorem State.out_sess (s : State) (o : Out) : (s.out o).sess = s.sess := State.edge_sess (State.edge_out o s.edge_refl)
@[simp] theorem State.out_ide (s : State) (o : Out) : (s.out o).ide = s.ide := State.edge_ide (State.edge_out o s.edge_refl)
@[simp] theorem State.out_fmKey (s : State) (o : Out) : (s.out o).fmKey = s.fmKey := State.edge_fmKey (State.edge_out o s.edge_refl)
@[simp] theorem State.out_mbxTag (s : State) (o : Out) : (s.out o).mbxTag = s.mbxTag := State.edge_mbxTag (State.edge_out o s.edge_refl)
@[simp] theorem State.out_mbxLeft (s : State) (o : Out) : (s.out o).mbxLeft = s.mbxLeft := State.edge_mbxLeft (State.edge_out o s.edge_refl)
@[simp] theorem State.out_ledStart (s : State) (o : Out) : (s.out o).ledStart = s.ledStart := State.edge_ledStart (State.edge_out o s.edge_refl)
@[simp] theorem State.out_ledMerged (s : State) (o : Out) : (s.out o).ledMerged = s.ledMerged := State.edge_ledMerged (State.edge_out o s.edge_refl)
@[simp] theorem State.out_ledDue (s : State) (o : Out) : (s.out o).ledDue = s.ledDue := State.edge_ledDue (State.edge_out o s.edge_refl)
@[simp] theorem State.out_ledSeq (s : State) (o : Out) : (s.out o).ledSeq = s.ledSeq := State.edge_ledSeq (State.edge_out o s.edge_refl)
@[simp] theorem State.out_ledDoms (s : State) (o : Out) : (s.out o).ledDoms = s.ledDoms := State.edge_ledDoms (State.edge_out o s.edge_refl)
@[simp] theorem State.out_train (s : State) (o : Out) : (s.out o).train = s.train := State.edge_train (State.edge_out o s.edge_refl)
@[simp] theorem State.out_mods (s : State) (o : Out) : (s.out o).mods = s.mods := State.edge_mods (State.edge_out o s.edge_refl)
@[simp] theorem State.out_cmisQ (s : State) (o : Out) : (s.out o).cmisQ = s.cmisQ := State.edge_cmisQ (State.edge_out o s.edge_refl)
@[simp] theorem State.out_cages (s : State) (o : Out) : (s.out o).cages = s.cages := State.edge_cages (State.edge_out o s.edge_refl)
@[simp] theorem State.out_snap (s : State) (o : Out) : (s.out o).snap = s.snap := State.edge_snap (State.edge_out o s.edge_refl)
@[simp] theorem State.out_snapSeq (s : State) (o : Out) : (s.out o).snapSeq = s.snapSeq := State.edge_snapSeq (State.edge_out o s.edge_refl)
@[simp] theorem State.out_snapSkip (s : State) (o : Out) : (s.out o).snapSkip = s.snapSkip := State.edge_snapSkip (State.edge_out o s.edge_refl)
@[simp] theorem State.out_snapOver (s : State) (o : Out) : (s.out o).snapOver = s.snapOver := State.edge_snapOver (State.edge_out o s.edge_refl)
@[simp] theorem State.out_modeReq (s : State) (o : Out) : (s.out o).modeReq = s.modeReq := State.edge_modeReq (State.edge_out o s.edge_refl)
@[simp] theorem State.out_commitReq (s : State) (o : Out) : (s.out o).commitReq = s.commitReq := State.edge_commitReq (State.edge_out o s.edge_refl)
@[simp] theorem State.out_retDue (s : State) (o : Out) : (s.out o).retDue = s.retDue := State.edge_retDue (State.edge_out o s.edge_refl)
@[simp] theorem State.out_pdLeft (s : State) (o : Out) : (s.out o).pdLeft = s.pdLeft := State.edge_pdLeft (State.edge_out o s.edge_refl)
@[simp] theorem State.out_pdOver (s : State) (o : Out) : (s.out o).pdOver = s.pdOver := State.edge_pdOver (State.edge_out o s.edge_refl)
@[simp] theorem State.out_hold (s : State) (o : Out) : (s.out o).hold = s.hold := State.edge_hold (State.edge_out o s.edge_refl)
@[simp] theorem State.out_railBad (s : State) (o : Out) : (s.out o).railBad = s.railBad := State.edge_railBad (State.edge_out o s.edge_refl)
@[simp] theorem State.out_slew (s : State) (o : Out) : (s.out o).slew = s.slew := State.edge_slew (State.edge_out o s.edge_refl)
@[simp] theorem State.out_stageSeen (s : State) (o : Out) : (s.out o).stageSeen = s.stageSeen := State.edge_stageSeen (State.edge_out o s.edge_refl)
@[simp] theorem State.out_overruns (s : State) (o : Out) : (s.out o).overruns = s.overruns := State.edge_overruns (State.edge_out o s.edge_refl)

end Sys2Proof.Machine
end

