-- ==== Sys2Proof/Laws/Fault.lean ====
section
/-!
SUPPORT. What an occurrence of a fault source does (R513, R518, R519): the source's pending bit is set, and only what the collector records and its
registers change, beside the pending bits of MSI-X vectors.
-/
namespace Sys2Proof.Machine

/-- A state that differs from another in what the collector records alone. -/
def State.noted (s t : State) : Prop :=
  (∃ r o h f i d n, t = { s with regs := r, outs := o, hist := h, first := f, fltIrq := i, fltDefer := d, fns := n }) ∧
  ∀ off, ¬ following off → off < 0x30000 ∨ 0x34000 ≤ off → t.reg off = s.reg off

theorem State.noted_refl (s : State) : s.noted s := ⟨⟨_, _, _, _, _, _, _, rfl⟩, fun _ _ _ => rfl⟩

theorem State.noted_put {s t : State} (f : Fld) (n : Nat) (hf : 0x30000 ≤ f.off ∧ f.off < 0x34000) (h : s.noted t) : s.noted (t.put f n) := by
  obtain ⟨⟨r, o, hi, fi, i, d, fn, e⟩, hr⟩ := h
  refine ⟨⟨_, o, hi, fi, i, d, fn, by rw [e]; rfl⟩, fun off hn ho => ?_⟩
  rw [State.reg_put_other _ _ _ (by omega), hr off hn ho]

theorem State.noted_hist {s t : State} (k : Nat) (x : FltRec) (h : s.noted t) : s.noted { t with hist := t.hist.put k x } := by
  obtain ⟨⟨r, o, hi, fi, i, d, fn, e⟩, hr⟩ := h
  exact ⟨⟨r, o, _, fi, i, d, fn, by rw [e]⟩, hr⟩

theorem State.noted_first {s t : State} (x : FltRec) (h : s.noted t) : s.noted { t with first := x } := by
  obtain ⟨⟨r, o, hi, fi, i, d, fn, e⟩, hr⟩ := h
  exact ⟨⟨r, o, hi, x, i, d, fn, by rw [e]⟩, hr⟩

theorem State.noted_irq {s t : State} (x : List Nat) (h : s.noted t) : s.noted { t with fltIrq := x } := by
  obtain ⟨⟨r, o, hi, fi, i, d, fn, e⟩, hr⟩ := h
  exact ⟨⟨r, o, hi, fi, x, d, fn, by rw [e]⟩, hr⟩

theorem State.noted_defer {s t : State} (x : List Nat) (h : s.noted t) : s.noted { t with fltDefer := x } := by
  obtain ⟨⟨r, o, hi, fi, i, d, fn, e⟩, hr⟩ := h
  exact ⟨⟨r, o, hi, fi, i, x, fn, by rw [e]⟩, hr⟩

theorem State.noted_errPin {s t : State} (h : s.noted t) : s.noted t.errPin := by
  obtain ⟨⟨r, o, hi, fi, i, d, fn, e⟩, hr⟩ := h
  obtain ⟨r', o', e'⟩ := State.edge_errPin t.edge_refl
  refine ⟨⟨r', o', hi, fi, i, d, fn, by rw [e', e]⟩, fun off hn ho => ?_⟩
  rw [State.errPin_reg _ (fun h0 => hn (.inr (.inl h0))), hr off hn ho]

theorem State.noted_msix {s t : State} (p f v : Nat) (h : s.noted t) : s.noted (t.msix p f v) := by
  obtain ⟨⟨r, o, hi, fi, i, d, fn, e⟩, hr⟩ := h
  unfold State.msix
  simp only []
  split
  · exact ⟨⟨r, o, hi, fi, i, d, fn, e⟩, hr⟩
  · split
    · exact ⟨⟨r, _, hi, fi, i, d, fn, by rw [e]; rfl⟩, hr⟩
    · split
      · exact ⟨⟨r, o, hi, fi, i, d, fn, e⟩, hr⟩
      · exact ⟨⟨r, o, hi, fi, i, d, _, by rw [e]; rfl⟩, hr⟩

theorem State.noted_fltMsg {s t : State} (h : s.noted t) : s.noted t.fltMsg := by
  unfold State.fltMsg
  generalize List.range 4 = l
  induction l generalizing t with
  | nil => exact h
  | cons p l ih =>
    simp only [List.foldl_cons]
    apply ih
    split
    · exact State.noted_msix _ _ _ h
    · exact h

theorem State.noted_trans {s t u : State} (h : s.noted t) (h' : t.noted u) : s.noted u := by
  obtain ⟨⟨r, o, hi, fi, i, d, fn, e⟩, hr⟩ := h
  obtain ⟨⟨r', o', hi', fi', i', d', fn', e'⟩, hr'⟩ := h'
  exact ⟨⟨r', o', hi', fi', i', d', fn', by rw [e', e]⟩, fun off hn ho => (hr' off hn ho).trans (hr off hn ho)⟩

/-- A source's pending bit lies in its register. -/
theorem fltPend_ok (src : Nat) : (fltPend src).ok := ⟨Nat.le_refl _, Nat.mod_lt _ (by decide)⟩

theorem fltPend_off (src : Nat) (h : src < 512) : 0x30100 ≤ (fltPend src).off ∧ (fltPend src).off < 0x30140 := by
  simp only [fltPend]; omega

/-- What an occurrence changes. -/
theorem State.noted_occur (s : State) (src : Nat) (syn : Word) (forced : Bool) (port : Option Nat) (h : src < 512) : s.noted (s.occur src syn forced port).1 := by
  unfold State.occur
  split
  · exact s.noted_refl
  · rename_i c hc
    simp only []
    have h0 : s.noted ((s.bump (F.FLT_SRC_COUNT src) 1).put (fltPend src) 1) := by
      refine State.noted_put _ _ ?_ (State.noted_put _ _ ?_ s.noted_refl)
      · have := fltPend_off src h; omega
      · simp only [F.FLT_SRC_COUNT]; omega
    have hS : ∀ (u : State) (b : Bool) (n : Nat), s.noted u → s.noted (if b then u.put F.FLT_STATUS_TOTAL n else u) := by
      intro u b n hu; split
      · exact State.noted_put _ _ (by decide) hu
      · exact hu
    have hH : ∀ (u : State) (b : Bool) (k : Nat) (x : FltRec), s.noted u → s.noted (if b then { u with hist := u.hist.put k x } else u) := by
      intro u b k x hu; split
      · exact State.noted_hist _ _ hu
      · exact hu
    have hF : ∀ (u : State) (b : Bool) (x : FltRec), s.noted u → s.noted (if b then { u with first := x } else u) := by
      intro u b x hu; split
      · exact State.noted_first _ hu
      · exact hu
    have hI : ∀ u : State, s.noted u → s.noted (if u.flag (F.FLT_SRC_IRQ_EN src) then
        (if u.fltIrq.contains src then (if u.fltDefer.contains src then u else { u with fltDefer := u.fltDefer ++ [src] })
         else { u.fltMsg with fltIrq := src :: u.fltIrq }) else u) := by
      intro u hu
      split
      · split
        · split
          · exact hu
          · exact State.noted_defer _ hu
        · exact State.noted_irq _ (State.noted_fltMsg hu)
      · exact hu
    exact hI _ (State.noted_errPin (hF _ _ _ (hH _ _ _ _ (hS _ _ _ h0))))

end Sys2Proof.Machine
end

