-- ==== Sys2Proof/Laws/Gives.lean ====
section
/-!
SUPPORT. How a command is shown to complete: its meaning is the settling of a calm state, which is the next state but for what follows every command.
-/
namespace Sys2Proof.Machine

theorem State.upTo_settle (u : State) (h : u.calm) : u.upTo u.settle := by
  refine ⟨?_, fun off ho => ?_, u.settle_outs h⟩
  · obtain ⟨r, o, e⟩ := u.edge_settle h
    rw [e]
  · exact u.settle_reg h (fun h1 => ho (.inl h1)) (fun h2 => ho (.inr (.inl h2)))

/-- A command whose meaning settles a calm state gives that state. -/
theorem State.gives_settle {s u : State} {c : Instr} (he : exec c s = .next u.settle) (hc : u.calm) : s.gives c u :=
  ⟨_, he, u.upTo_settle hc⟩

theorem State.upTo_congr {u v t : State} (h : u.upTo t) (he : v = { u with regs := v.regs, outs := v.outs }) (ho : v.outs = u.outs)
    (hr : ∀ off, ¬ following off → v.reg off = u.reg off) : v.upTo t := by
  obtain ⟨h1, h2, h3⟩ := h
  refine ⟨?_, fun off hf => (h2 off hf).trans (hr off hf).symm, ?_⟩
  · rw [he]; exact h1
  · rw [ho]; exact h3

/-- The same of a command that meets a fault. -/
theorem State.upToFault_settle {u v : State} (h : v.calm) (hn : u.noted v) : u.upToFault v.settle := by
  obtain ⟨⟨r, o, hi, f, i, d, n, e⟩, hr⟩ := hn
  refine ⟨?_, fun off ho h2 => ?_⟩
  · obtain ⟨r', o', e'⟩ := v.edge_settle h
    rw [e', e]
  · rw [v.settle_reg h (fun h1 => ho (.inl h1)) (fun h2 => ho (.inr (.inl h2)))]
    exact hr off ho h2

end Sys2Proof.Machine
end

