-- ==== Sys2Proof/Tests/Slice0.lean ====
section
/-!
SUPPORT. Tests: the spec's own tables and formats on fixed values, ill-formed operands, and for every clause of a statement a state and operands that meet
its hypotheses, with the clause's conclusion on them.
-/
namespace Sys2Proof.Tests
open Sys2Proof Sys2Proof.Machine
set_option maxRecDepth 100000
set_option Elab.async false
set_option linter.unusedVariables false
set_option linter.unusedSimpArgs false

/-! ### Checkers -/

/-- Registers beside those that follow the state. -/
def steady (t : State) : Tab Word := t.regs.filter fun e => decide (¬ following e.1)

/-- A command completes with a state of which a check holds. -/
def completesB (s : State) (c : Instr) (p : State → Bool) : Bool := match exec c s with | .next t => p t | _ => false

/-- What State.gives says, on lists. -/
def givesB (s : State) (c : Instr) (u : State) : Bool :=
  completesB s c fun t => decide (t = { u with regs := t.regs, outs := t.outs }) && decide (steady t = steady u) &&
    (decide (t.outs = u.outs) || decide (t.outs.drop 1 = u.outs))

/-- Registers beside those and beside the collector's. -/
def apart (t : State) : Tab Word := (steady t).filter fun e => decide (e.1 < 0x30000 ∨ 0x34000 ≤ e.1)

/-- What State.givesFault says, on lists. -/
def givesFaultB (s : State) (c : Instr) (u : State) (src : Nat) : Bool :=
  completesB s c fun t => decide (t = { u with regs := t.regs, outs := t.outs, hist := t.hist, first := t.first, fltIrq := t.fltIrq, fltDefer := t.fltDefer, fns := t.fns }) &&
    decide (apart t = apart u) && t.flag (fltPend src)

/-! ### States -/

/-- Out of reset, in Operational, with nothing in it. -/
def base : State := { State.reset with hold := .none }.put F.DEV_MODE_MODE 2

/-- Several fields. -/
def puts (s : State) (l : List (Fld × Nat)) : State := l.foldl (fun s e => s.put e.1 e.2) s

/-! ### Statements on Stages and clocks (spec/03): for each clause a state that meets its hypotheses -/

theorem wit_ReferenceSelection_1 :
    ((fun (s : State) (r : RefObs) => decide (s.calm) && decide (r.aFails = true) && decide (r.bFails = false) && decide (s.get F.CLK_STATUS_REF_SEL = 0) && decide (s.get F.CLK_STATUS_HOLDOVER = 0) && decide (s.get F.CLK_STATUS_B_QUAL = 1) && (givesFaultB s (.refclkFail r)
        ((((s.put F.CLK_STATUS_A_FAIL 1).put F.CLK_STATUS_A_QUAL 0).put F.CLK_QUAL_A_CYCLES 0).put F.CLK_STATUS_REF_SEL 1) 0x004)) (puts base [(F.CLK_STATUS_B_QUAL, 1), (F.CLK_STATUS_A_QUAL, 1)]) (⟨true, false, true, false⟩)) = true := by decide +kernel

theorem wit_ReferenceSelection_2 :
    ((fun (s : State) (r : RefObs) => decide (s.calm) && decide (r.aFails = false) && decide (r.bFails = true) && decide (s.get F.CLK_REF_CTRL_B_PRESENT = 1) && decide (s.get F.CLK_STATUS_REF_SEL = 0) && (givesB s (.refclkFail r) (((s.put F.CLK_STATUS_B_FAIL 1).put F.CLK_STATUS_B_QUAL 0).put F.CLK_QUAL_B_CYCLES 0))) (puts base [(F.CLK_REF_CTRL_B_PRESENT, 1), (F.CLK_STATUS_B_QUAL, 1)]) (⟨false, true, true, false⟩)) = true := by decide +kernel

theorem wit_ReferenceSelection_3 :
    ((fun (s : State) => decide (s.calm) && decide (s.get F.CLK_STATUS_HOLDOVER = 0) && (givesB s (.refclkQualified false)
        (((s.put F.CLK_STATUS_A_FAIL 0).put F.CLK_STATUS_A_QUAL 1).put F.CLK_QUAL_A_CYCLES (max (s.get F.CLK_QUAL_A_CYCLES) 4100)))) (base)) = true := by decide +kernel

theorem wit_ReferenceSelection_4 :
    ((fun (s : State) => decide (s.calm) && decide (s.get F.CLK_STATUS_HOLDOVER = 1) && decide (s.get F.CLK_REF_CTRL_B_PRESENT = 1) && (givesB s (.refclkQualified true)
        ((((((s.put F.CLK_STATUS_B_FAIL 0).put F.CLK_STATUS_B_QUAL 1).put F.CLK_QUAL_B_CYCLES (max (s.get F.CLK_QUAL_B_CYCLES) 4100)).put
          F.CLK_STATUS_HOLDOVER 0).put F.CLK_STATUS_REF_SEL 1).put F.CLK_STATUS_TB_LOCK 1))) (puts base [(F.CLK_STATUS_HOLDOVER, 1), (F.CLK_REF_CTRL_B_PRESENT, 1)])) = true := by decide +kernel

theorem wit_ReferenceSelection_5 :
    ((fun (s : State) => decide (s.calm) && decide (s.get F.CLK_STATUS_COAST = 1) && decide (s.get F.CLK_STATUS_HOLDOVER = 0) && (givesB s .corePllRelock ((s.put F.CLK_STATUS_COAST 0).put F.CLK_STATUS_CORE_LOCK 1))) (puts base [(F.CLK_STATUS_COAST, 1)])) = true := by decide +kernel

theorem wit_ReferenceSelection_6 :
    ((fun (s : State) (o : Origin) => decide (s.calm) && decide (s.mayWrite o 0x20008) && decide (s.get F.CLK_STATUS_A_QUAL = 1) && decide (s.get F.CLK_STATUS_REF_SEL = 1) && (givesFaultB s (.revert o) (s.put F.CLK_STATUS_REF_SEL 0) 0x004)) (puts base [(F.CLK_STATUS_A_QUAL, 1), (F.CLK_STATUS_REF_SEL, 1)]) (.sideband)) = true := by decide +kernel

theorem wit_LocksAndHostReferences_1 :
    ((fun (s : State) => decide (s.calm) && decide (s.vacant) && decide (s.mode = 2) && decide (s.get F.CLK_STATUS_TB_LOCK = 1) && decide (s.get F.CLK_STATUS_REF_SEL = 0) && decide (s.get F.CLK_STATUS_A_QUAL = 1) && decide (s.get F.CLK_STATUS_HOLDOVER = 0) && (completesB s .tbPllUnlock fun t => decide (
        t.get F.CLK_STATUS_TB_LOCK = 0 ∧ t.halted = true ∧ t.mode = 4 ∧ t.get F.DEV_MODE_RETURN = 2 ∧ t.flag (fltPend 0x007) = true))) (puts base [(F.CLK_STATUS_TB_LOCK, 1), (F.CLK_STATUS_A_QUAL, 1)])) = true := by decide +kernel

theorem wit_LocksAndHostReferences_2 :
    ((fun (s : State) => decide (s.calm) && decide (s.vacant) && decide (s.mode = 2) && decide (s.get F.CLK_STATUS_TB_LOCK = 1) && decide (s.get F.CLK_STATUS_CORE_LOCK = 1) && (completesB s .corePllUnlock fun t => decide (
        t.get F.CLK_STATUS_CORE_LOCK = 0 ∧ t.halted = true ∧ t.mode = 4 ∧ t.get F.DEV_MODE_RETURN = 2 ∧ t.flag (fltPend 0x008) = true))) (puts base [(F.CLK_STATUS_TB_LOCK, 1), (F.CLK_STATUS_CORE_LOCK, 1)])) = true := by decide +kernel

theorem wit_LocksAndHostReferences_3 :
    ((fun (s : State) => decide (s.calm) && decide (s.sealed = false) && decide (s.halted = false) && decide (s.mode = 2) && decide (s.get F.CLK_STATUS_MGMT_LOCK = 1) && (completesB s .mgmtPllUnlock fun t => decide (
        t.get F.CLK_STATUS_MGMT_LOCK = 0 ∧ t.mode = 4 ∧ t.get F.DEV_MODE_RETURN = 2 ∧ t.flag (fltPend 0x009) = true))) (puts base [(F.CLK_STATUS_MGMT_LOCK, 1)])) = true := by decide +kernel

theorem wit_LocksAndHostReferences_4 :
    ((fun (s : State) => decide (s.calm) && decide (s.get F.CLK_STATUS_MGMT_LOCK = 0) && decide (s.cmisQ = []) && decide ((∀ n : Nat, n < 32 → s.get (F.CPW_STATUS_PG n) = 0)) && (givesB s .mgmtPllLock (s.put F.CLK_STATUS_MGMT_LOCK 1))) (base)) = true := by decide +kernel

theorem wit_LocksAndHostReferences_5 :
    ((fun (s : State) (p : Nat) => decide (s.calm) && decide (p < 4) && decide ((s.get F.CLK_STATUS_HOSTREF_OK).testBit p = true) && decide (s.pdHost p ≠ 2) && decide ((s.ports.look p).refQualified = false) && (givesB s (.hostrefFail p) (s.put F.CLK_STATUS_HOSTREF_OK (s.get F.CLK_STATUS_HOSTREF_OK - 2 ^ p)))) (puts base [(F.CLK_STATUS_HOSTREF_OK, 15)]) (3)) = true := by decide +kernel

theorem wit_LocksAndHostReferences_6 :
    ((fun (s : State) (p : Nat) => decide (s.calm) && decide (p < 4) && decide (s.vacant) && decide (s.mode = 2) && decide ((s.get F.CLK_STATUS_HOSTREF_OK).testBit p = true) && decide (s.pdHost p ≠ 2) && decide ((s.ports.look p).refQualified = true) && (completesB s (.hostrefFail p) fun t => decide ( (t.ports.look p).fenced = true ∧ t.mode = 4 ∧ t.flag (fltPend 0x00A) = true))) ({ puts base [(F.CLK_STATUS_HOSTREF_OK, 15)] with ports := [(0, { (default : HostPort) with refQualified := true })] }) (0)) = true := by decide +kernel

theorem wit_LocksAndHostReferences_7 :
    ((fun (s : State) (p : Nat) => decide (s.calm) && decide (p < 4) && decide (s.pdHost p ≠ 2) && (givesB s (.hostrefOk p)
        { s.put F.CLK_STATUS_HOSTREF_OK (s.get F.CLK_STATUS_HOSTREF_OK ||| 2 ^ p) with ports := s.ports.upd p fun h => { h with refQualified := true } })) (base) (2)) = true := by decide +kernel

theorem wit_ClockOutputsAndMeter_1 :
    ((fun (s : State) (o : Origin) (n : Nat) (v : Word) => decide (s.calm) && decide (n < 2) && decide (s.mayWrite o (0x20020 + 8 * n)) && decide (s.reg (0x20020 + 8 * n) ≠ v &&& 7) && decide (n ∉ s.clkHold) && (givesB s (.clkoutConfigWrite o n v)
        { (s.setReg (0x20020 + 8 * n) (v &&& 7)).out (.pin (clkoutPin n) false) with clkHold := n :: s.clkHold })) (base) (.sideband) (1) (5)) = true := by decide +kernel

theorem wit_ClockOutputsAndMeter_2 :
    ((fun (s : State) (n : Nat) => decide (s.calm) && decide (n < 2) && decide (n ∈ s.clkHold) && (givesB s (.clkoutHoldEnd n) { s.out (.pin (clkoutPin n) (s.get (F.CLK_CLKOUT_EN n) != 0)) with clkHold := s.clkHold.erase n })) ({ puts base [(F.CLK_CLKOUT_EN 1, 1)] with clkHold := [1] }) (1)) = true := by decide +kernel

theorem wit_ClockOutputsAndMeter_3 :
    ((fun (s : State) (o : Origin) (v : Word) => decide (s.calm) && decide (s.mayWrite o 0x20030) && decide (s.get F.CLK_FMETER_CTRL_BUSY = 0) && decide (s.get F.CLK_STATUS_MGMT_LOCK = 1) && decide (s.flag (fltPend 0x009) = false) && (completesB s (.fmeterStart o v) fun t => decide (
        t.get F.CLK_FMETER_CTRL_BUSY = 1 ∧ t.get F.CLK_FMETER_RESULT_VALID = 0 ∧ t.get F.CLK_FMETER_RESULT_DISTURBED = 0 ∧
        t.get F.CLK_FMETER_CTRL_WINDOW = wbits v 15 8 ∧ t.get F.CLK_FMETER_CTRL_SRC = wbits v 4 0 ∧ t.fmLeft = some (max (wbits v 15 8) 1 + 1)))) (puts base [(F.CLK_STATUS_MGMT_LOCK, 1)]) (.sideband) (0x8000000000000302)) = true := by decide +kernel

theorem wit_ClockOutputsAndMeter_4 :
    ((fun (s : State) (edges : Nat) => decide (s.calm) && decide (s.fmLeft = some 0) && decide (s.get F.CLK_FMETER_CTRL_SRC < 12) && (givesB s (.fmeterDone edges)
        { ((s.put F.CLK_FMETER_RESULT_COUNT edges).put F.CLK_FMETER_RESULT_VALID 1).put F.CLK_FMETER_CTRL_BUSY 0 with fmLeft := none })) ({ base with fmLeft := some 0 }) (100000)) = true := by decide +kernel

theorem wit_StagesAndSync_1 :
    ((fun (s : State) (p : Nat) (u : TimeSync) (a : Nat) => decide (s.calm) && decide (okPort p = true) && decide (okSync u = true) && decide (s.linkOpen p = true) && decide (s.parentIs p = true) && decide (u.crcOk = true) && (completesB s (.timeSyncReceive p u a) fun t => decide (
      t.sync.missed = 0 ∧ t.sync.pStage = u.stage ∧ t.sync.pTx = u.txTime ∧ t.sync.pCode = u.period ∧ t.syncRx.look p = a ∧
      t.get F.STG_SYNC_STATUS_GM_ROUTER = u.gmRouter))) (puts base [(F.WPR_LINK_STATUS_STATE 5, 2), (F.RTP_CTRL_EN 5, 1), (F.RTP_STATUS_LINK_UP 5, 1), (F.STG_SYNC_CTRL_PARENT_EN, 1), (F.STG_SYNC_CTRL_PARENT_PORT, 5)]) (5) (⟨100, 0, 7, 2, 9, 1, true⟩) (3)) = true := by decide +kernel

theorem wit_StagesAndSync_2 :
    ((fun (s : State) => decide (s.calm) && decide (s.cvys = []) && decide (s.sealed = false) && decide (s.halted = false) && decide (s.mode = 2) && decide (s.get F.STG_SYNC_STATUS_STATE = 2) && decide (s.sync.badOff ≥ 2) && (completesB s (.syncLost .offset) fun t => decide ( t.get F.STG_SYNC_STATUS_STATE = 3 ∧ t.mode = 4 ∧ t.get F.DEV_MODE_RETURN = 2 ∧ t.flag (fltPend 0x003) = true))) ({ puts base [(F.STG_SYNC_STATUS_STATE, 2)] with sync := { base.sync with badOff := 2 } })) = true := by decide +kernel

theorem wit_StagesAndSync_3 :
    ((fun (s : State) (off : Nat) (v m : Word) => decide (s.calm) && decide (s.ops = []) && decide (s.tolls = []) && decide (s.smask = [(off, m)]) && decide (s.spend.look off = v) && decide (off ≠ 0x28010) && decide (off ≠ 0x28018) && decide (¬(0x51000 ≤ off ∧ off < 0x51800)) && (givesB s .sFieldCommit { s.setReg off ((s.reg off &&& ~~~m) ||| (v &&& m)) with spend := [], smask := [] })) ({ base with smask := [(0x30018, 7)], spend := [(0x30018, 3)] }) (0x30018) (3) (7)) = true := by decide +kernel

theorem wit_StagesAndSync_4 :
    ((fun (s : State) => decide (s.calm) && decide (s.get F.STG_PERIOD_NEXT_ARM = 1) && decide (s.get F.STG_PERIOD_NEXT_AT_STAGE ≤ s.now) && decide (s.fmLeft = none) && decide (s.bwLeft = none) && (givesB s .periodChange ((s.put F.STG_PERIOD_CODE (s.get F.STG_PERIOD_NEXT_CODE)).put F.STG_PERIOD_NEXT_ARM 0))) (puts base [(F.STG_PERIOD_NEXT_ARM, 1), (F.STG_PERIOD_NEXT_CODE, 2)])) = true := by decide +kernel

theorem wit_StagesAndSync_5 :
    ((fun (s : State) (rest : List Instr) (now : Nat) => decide (s = { State.reset with pending := rest }) && (completesB s (.stageBoundary ⟨now, []⟩) fun t => decide (
      t.now = 1 ∧ t.frac = 0 ∧ t.tb = now ∧ t.firstBnd = true ∧ t.pending = rest))) (State.reset) ([]) (5)) = true := by decide +kernel

/-! ### Statements on Registers (spec/02): for each clause a state that meets its hypotheses -/

theorem wit_RegisterWrites_1 :
    ((fun (s : State) (o : Origin) (v : Word) => decide (s.calm) && decide (s.mayWrite o 0x10308) && (givesB s (.registerWrite o 0x10308 8 v) (s.setReg 0x10308 ((s.reg 0x10308 &&& ~~~0xFFFF) ||| (v &&& 0xFFFF))))) (base) (.sideband) (0xABCD1234)) = true := by decide +kernel

theorem wit_RegisterWrites_2 :
    ((fun (s : State) (o : Origin) (v : Word) => decide (s.calm) && decide (s.mayWrite o 0x10020) && (givesB s (.registerWrite o 0x10020 8 v) { s with spend := Tab.put [] 0x10020 (v &&& 0xFFFF), smask := [(0x10020, 0xFFFF)] })) (base) (.sideband) (0x77)) = true := by decide +kernel

theorem wit_RegisterWrites_3 :
    ((fun (s : State) (o : Origin) (v : Word) => decide (s.calm) && decide (s.mayWrite o 0x10200) && (givesB s (.registerWrite o 0x10200 8 v) s)) (base) (.sideband) (0x77)) = true := by decide +kernel

theorem wit_RegisterWrites_4 :
    ((fun (s : State) (o : Origin) (v : Word) => decide (s.calm) && decide (s.mayWrite o 0x60008) && decide (s.mode = 1) && (givesB s (.registerWrite o 0x60008 8 v) (s.setReg 0x60008 ((s.reg 0x60008 &&& ~~~7) ||| (v &&& 7))))) (puts base [(F.DEV_MODE_MODE, 1)]) (.sideband) (0x1)) = true := by decide +kernel

theorem wit_RegisterWrites_5 :
    ((fun (s : State) (o : Origin) (v : Word) => decide (s.calm) && decide (s.mayWrite o 0x60008) && decide (s.mode = 2) && decide (v &&& 7 ≠ s.reg 0x60008 &&& 7) && decide (s.get F.DEV_CFG_DROP_VALID = 0) && (givesFaultB s (.registerWrite o 0x60008 8 v) (((s.put F.DEV_CFG_DROP_VALID 1).put F.DEV_CFG_DROP_FIRST_ADDR 0x60008).put F.DEV_CFG_DROP_COUNT 1) 0x001)) (base) (.sideband) (0x1)) = true := by decide +kernel

theorem wit_RegisterWrites_6 :
    ((fun (s : State) (o : Origin) (v : Word) (off size : Nat) => decide (s.calm) && decide (off < 2 ^ 26) && decide (okOrigin o = true) && decide (sizeOk off size = false) && decide (s.regOpen o off true = true) && (givesFaultB s (.registerWrite o off size v) s 0x002)) (base) (.sideband) (0x1) (0x10304) (8)) = true := by decide +kernel

theorem wit_RegisterWrites_7 :
    ((fun (s : State) (o : Origin) (v : Word) (off size : Nat) => decide (s.calm) && decide (off < 2 ^ 26) && decide (okOrigin o = true) && decide (s.regOpen o off true = false) && (givesB s (.registerWrite o off size v) s)) (base) (.pf0 1) (0x1) (0x10308) (8)) = true := by decide +kernel

theorem wit_RegisterReads_1 :
    ((fun (s : State) (o : Origin) => decide (s.calm) && decide (notVf o = true) && decide (okOrigin o = true) && decide (s.regOpen o 0x10308 false = true) && decide (s.spend = []) && decide (s.smask = []) && (givesB s (.rcRead o 0x10308 8) (s.out (.regData o 0x10308 (s.reg 0x10308))))) (base) (.sideband)) = true := by decide +kernel

theorem wit_RegisterReads_2 :
    ((fun (s : State) (o : Origin) => decide (s.calm) && decide (notVf o = true) && decide (okOrigin o = true) && decide (s.regOpen o 0x1030C false = true) && decide (s.spend = []) && decide (s.smask = []) && (givesB s (.rcRead o 0x1030C 4) (s.out (.regData o 0x1030C (s.reg 0x10308 >>> 32))))) (base) (.sideband)) = true := by decide +kernel

theorem wit_RegisterReads_3 :
    ((fun (s : State) (o : Origin) => decide (s.calm) && decide (notVf o = true) && decide (okOrigin o = true) && decide (s.regOpen o 0x10058 false = true) && decide (s.spend = []) && decide (s.smask = []) && (givesB s (.rcRead o 0x10058 8) ((s.setReg 0x10058 (s.reg 0x10058 &&& ~~~0xFFFFFFFF00000000)).out (.regData o 0x10058 (s.reg 0x10058))))) (base.setReg 0x10058 0x500000100) (.sideband)) = true := by decide +kernel

theorem wit_RegisterReads_4 :
    ((fun (s : State) (o : Origin) => decide (s.calm) && decide (notVf o = true) && decide (okOrigin o = true) && decide (s.regOpen o 0x10058 false = true) && decide (s.spend = []) && decide (s.smask = []) && (givesB s (.rcRead o 0x10058 4) (s.out (.regData o 0x10058 (s.reg 0x10058 &&& 0xFFFFFFFF))))) (base.setReg 0x10058 0x500000100) (.sideband)) = true := by decide +kernel

theorem wit_RegisterReads_5 :
    ((fun (s : State) (o : Origin) (v : Word) => decide (s.calm) && decide (notVf o = true) && decide (okOrigin o = true) && decide (s.regOpen o 0x10020 false = true) && decide (s.smask = [(0x10020, 0xFFFF)]) && decide (s.spend.look 0x10020 = v) && decide (v &&& 0xFFFF = v) && (givesB s (.rcRead o 0x10020 8) (s.out (.regData o 0x10020 ((s.reg 0x10020 &&& ~~~0xFFFF) ||| v))))) ({ base with smask := [(0x10020, 0xFFFF)], spend := [(0x10020, 5)] }) (.sideband) (5)) = true := by decide +kernel

/-! ### Runs -/

/-- An instruction word (R84) without flags. -/
def insW (oc opf ra rb rc rd imm : Nat) : Word := packW [(56, oc), (48, opf), (44, ra), (40, rb), (36, rc), (32, rd), (0, imm)]

/-- A run of a program, with G1 = 7 and G2 = −2. -/
def runOf (ws : List Word) : Run :=
  { (default : Run) with st := .running, limit := 100, prog := .inline ws, pasid := some 1, dom := 5, port := 1, fn := 2, wq := 9
                         g := [(1, 7), (2, 0xFFFFFFFFFFFFFFFE)] }

/-- A state with one run, in context 3. -/
def withRun (r : Run) : State := { base with runs := [(3, r)] }

/-- The state with a translation of page 16 of address space 1 to frame 99, and the port of the space open. -/
def mapped (s : State) : State :=
  { s with
    pas := [(1, { (default : Pas) with st := .active, port := 1, fn := 2, dom := some 5 })]
    tlb := [(0, ⟨true, 1, 16, 0, 99, true, true, true, false⟩)]
    ports := [(1, { (default : HostPort) with up := true })]
    fns := [(131, { (default : HostFn) with bme := true, dom := some 5 })] }

/-! ### Statements on Instructions of Dexez (spec/04, spec/05): for each clause a state that meets its hypotheses -/

theorem wit_EndAndIllegal_1 :
    ((fun (s : State) (ctx : Nat) (i : Ins) => decide (s.unladen ctx) && decide (s.locks = []) && decide (s.due ctx i) && decide (i.opcode = 0x00) && (givesB s (.nop ctx) (s.went ctx ((s.runs.look ctx).pc + 1) id))) (withRun (runOf [(insW 0 0 1 2 0 3 5)])) (3) (Ins.of (insW 0 0 1 2 0 3 5) 0)) = true := by decide +kernel

theorem wit_EndAndIllegal_2 :
    ((fun (s : State) (ctx : Nat) (i : Ins) => decide (s.unladen ctx) && decide (s.locks = []) && decide (s.due ctx i) && decide (i.opcode = 0x01) && (givesB s (.progEnd ctx) (s.over ctx stOk))) (withRun (runOf [(insW 1 0 1 2 0 3 5)])) (3) (Ins.of (insW 1 0 1 2 0 3 5) 0)) = true := by decide +kernel

theorem wit_EndAndIllegal_3 :
    ((fun (s : State) (ctx : Nat) (i : Ins) => decide (s.unladen ctx) && decide (s.locks = []) && decide (s.fetched ctx i) && decide (unassigned i.opcode = true) && (givesB s (.unassignedOpcode ctx) (s.over ctx stIllegal))) (withRun (runOf [(insW 19 0 1 2 0 3 5)])) (3) (Ins.of (insW 19 0 1 2 0 3 5) 0)) = true := by decide +kernel

theorem wit_EndAndIllegal_4 :
    ((fun (s : State) (ctx : Nat) (i : Ins) => decide (s.unladen ctx) && decide (s.locks = []) && decide (s.calm) && decide (ctx ≤ 8192) && decide ((s.runs.look ctx).st = .running) && decide ((s.runs.look ctx).await = none) && decide ((s.runs.look ctx).faults = []) && decide ((s.runs.look ctx).prog.len ≤ (s.runs.look ctx).pc) && (givesB s (.nop ctx) (s.over ctx stIllegal))) (withRun { runOf [] with pc := 2 }) (3) (default)) = true := by decide +kernel

theorem wit_EndAndIllegal_5 :
    ((fun (s : State) (ctx : Nat) (i : Ins) => decide (s.unladen ctx) && decide (s.locks = []) && decide (s.calm) && decide (ctx ≤ 8192) && decide ((s.runs.look ctx).st = .running) && decide ((s.runs.look ctx).await = none) && decide ((s.runs.look ctx).faults = []) && decide (s.fetchAt (s.runs.look ctx) (s.runs.look ctx).pc = .word i.w) && decide (wbits i.w 63 56 = 0x06) && decide ((s.runs.look ctx).steps = (s.runs.look ctx).limit) && (givesB s (.add ctx) (s.over ctx stStep))) (withRun { runOf [(insW 6 0 1 2 0 3 5)] with limit := 0 }) (3) (Ins.of (insW 6 0 1 2 0 3 5) 0)) = true := by decide +kernel

theorem wit_EndAndIllegal_6 :
    ((fun (s : State) (ctx : Nat) (i : Ins) => decide (s.unladen ctx) && decide (s.locks = []) && decide (s.fetched ctx i) && decide (i.opcode = 0x88) && decide (s.authority ctx (s.runs.look ctx) = false) && (givesB s (.epset ctx) (s.over ctx stPriv))) (withRun (runOf [(insW 136 0 1 2 0 3 5)])) (3) (Ins.of (insW 136 0 1 2 0 3 5) 0)) = true := by decide +kernel

theorem wit_RegisterInstructions_1 :
    ((fun (s : State) (ctx : Nat) (i : Ins) => decide (s.due ctx i) && decide (i.opcode = 0x02) && (givesB s (.ldq ctx) (s.went ctx ((s.runs.look ctx).pc + 2) fun r => r.setG i.rd i.w2))) (withRun (runOf [(insW 2 0 0 0 0 4 0), 77])) (3) (Ins.of (insW 2 0 0 0 0 4 0) 77)) = true := by decide +kernel

theorem wit_RegisterInstructions_2 :
    ((fun (s : State) (ctx : Nat) (i : Ins) => decide (s.due ctx i) && decide (i.opcode = 0x03) && (givesB s (.ldi ctx) (s.went ctx ((s.runs.look ctx).pc + 1) fun r => r.setG i.rd ((BitVec.ofNat 32 i.imm).signExtend 64)))) (withRun (runOf [(insW 3 0 1 2 0 3 2147483648)])) (3) (Ins.of (insW 3 0 1 2 0 3 2147483648) 0)) = true := by decide +kernel

theorem wit_RegisterInstructions_3 :
    ((fun (s : State) (ctx : Nat) (i : Ins) => decide (s.due ctx i) && decide (i.opcode = 0x06) && (givesB s (.add ctx) (s.went ctx ((s.runs.look ctx).pc + 1) fun r => r.setG i.rd (r.rg i.ra + i.x r)))) (withRun (runOf [(insW 6 0 1 2 0 3 5)])) (3) (Ins.of (insW 6 0 1 2 0 3 5) 0)) = true := by decide +kernel

theorem wit_RegisterInstructions_4 :
    ((fun (s : State) (ctx : Nat) (i : Ins) => decide (s.due ctx i) && decide (i.opcode = 0x07) && (givesB s (.sub ctx) (s.went ctx ((s.runs.look ctx).pc + 1) fun r => r.setG i.rd (r.rg i.ra - i.x r)))) (withRun (runOf [(insW 7 0 1 2 0 3 5)])) (3) (Ins.of (insW 7 0 1 2 0 3 5) 0)) = true := by decide +kernel

theorem wit_RegisterInstructions_5 :
    ((fun (s : State) (ctx : Nat) (i : Ins) => decide (s.due ctx i) && decide (i.opcode = 0x08) && (givesB s (.and ctx) (s.went ctx ((s.runs.look ctx).pc + 1) fun r => r.setG i.rd (r.rg i.ra &&& i.x r)))) (withRun (runOf [(insW 8 0 1 2 0 3 5)])) (3) (Ins.of (insW 8 0 1 2 0 3 5) 0)) = true := by decide +kernel

theorem wit_RegisterInstructions_6 :
    ((fun (s : State) (ctx : Nat) (i : Ins) => decide (s.due ctx i) && decide (i.opcode = 0x09) && (givesB s (.or ctx) (s.went ctx ((s.runs.look ctx).pc + 1) fun r => r.setG i.rd (r.rg i.ra ||| i.x r)))) (withRun (runOf [(insW 9 0 1 2 0 3 5)])) (3) (Ins.of (insW 9 0 1 2 0 3 5) 0)) = true := by decide +kernel

theorem wit_RegisterInstructions_7 :
    ((fun (s : State) (ctx : Nat) (i : Ins) => decide (s.due ctx i) && decide (i.opcode = 0x0A) && (givesB s (.xor ctx) (s.went ctx ((s.runs.look ctx).pc + 1) fun r => r.setG i.rd (r.rg i.ra ^^^ i.x r)))) (withRun (runOf [(insW 10 0 1 2 0 3 5)])) (3) (Ins.of (insW 10 0 1 2 0 3 5) 0)) = true := by decide +kernel

theorem wit_RegisterInstructions_8 :
    ((fun (s : State) (ctx : Nat) (i : Ins) => decide (s.due ctx i) && decide (i.opcode = 0x0B) && (givesB s (.shl ctx)
      (s.went ctx ((s.runs.look ctx).pc + 1) fun r => r.setG i.rd (BitVec.ofNat 64 ((r.rg i.ra).toNat * 2 ^ ((i.x r).toNat % 64)))))) (withRun (runOf [(insW 11 0 1 2 0 3 5)])) (3) (Ins.of (insW 11 0 1 2 0 3 5) 0)) = true := by decide +kernel

theorem wit_RegisterInstructions_9 :
    ((fun (s : State) (ctx : Nat) (i : Ins) => decide (s.due ctx i) && decide (i.opcode = 0x0C) && (givesB s (.shr ctx)
      (s.went ctx ((s.runs.look ctx).pc + 1) fun r => r.setG i.rd (BitVec.ofNat 64 ((r.rg i.ra).toNat / 2 ^ ((i.x r).toNat % 64)))))) (withRun (runOf [(insW 12 0 1 2 0 3 5)])) (3) (Ins.of (insW 12 0 1 2 0 3 5) 0)) = true := by decide +kernel

theorem wit_RegisterInstructions_10 :
    ((fun (s : State) (ctx : Nat) (i : Ins) => decide (s.due ctx i) && decide (i.opcode = 0x0D) && (givesB s (.mov ctx) (s.went ctx ((s.runs.look ctx).pc + 1) fun r => r.setG i.rd (r.rg i.ra)))) (withRun (runOf [(insW 13 0 1 2 0 3 5)])) (3) (Ins.of (insW 13 0 1 2 0 3 5) 0)) = true := by decide +kernel

theorem wit_Branches_1 :
    ((fun (s : State) (ctx : Nat) (i : Ins) => decide (s.due ctx i) && decide (i.opcode = 0x10) && (givesB s (.br ctx) (s.went ctx (i.imm % 65536) id))) (withRun (runOf [(insW 16 0 1 2 0 3 5)])) (3) (Ins.of (insW 16 0 1 2 0 3 5) 0)) = true := by decide +kernel

theorem wit_Branches_2 :
    ((fun (s : State) (ctx : Nat) (i : Ins) => decide (s.due ctx i) && decide (i.opcode = 0x11) && (givesB s (.brc ctx) (s.went ctx
        (if (match i.opf with
          | 0 => decide ((s.runs.look ctx).rg i.ra = (s.runs.look ctx).rg i.rb)
          | 1 => decide ((s.runs.look ctx).rg i.ra ≠ (s.runs.look ctx).rg i.rb)
          | 2 => decide (((s.runs.look ctx).rg i.ra).toNat < ((s.runs.look ctx).rg i.rb).toNat)
          | 3 => decide (((s.runs.look ctx).rg i.ra).toNat ≥ ((s.runs.look ctx).rg i.rb).toNat)
          | 4 => decide (((s.runs.look ctx).rg i.ra).toInt < ((s.runs.look ctx).rg i.rb).toInt)
          | _ => decide (((s.runs.look ctx).rg i.ra).toInt ≥ ((s.runs.look ctx).rg i.rb).toInt)) = true
        then i.imm % 65536 else (s.runs.look ctx).pc + 1) id))) (withRun (runOf [(insW 17 0 1 2 0 3 5)])) (3) (Ins.of (insW 17 0 1 2 0 3 5) 0)) = true := by decide +kernel

theorem wit_Branches_3 :
    ((fun (s : State) (ctx : Nat) (i : Ins) => decide (s.due ctx i) && decide (i.opcode = 0x12) && (givesB s (.brs ctx) (s.went ctx
        (if (match i.opf with
          | 0 => decide (wbits ((s.runs.look ctx).rg 15) 7 0 = i.imm / 65536 % 256)
          | 1 => decide (wbits ((s.runs.look ctx).rg 15) 7 0 ≠ i.imm / 65536 % 256)
          | _ => decide (wbits ((s.runs.look ctx).rg 15) 7 0 ≠ stOk)) = true
        then i.imm % 65536 else (s.runs.look ctx).pc + 1) id))) (withRun (runOf [(insW 18 0 1 2 0 3 5)])) (3) (Ins.of (insW 18 0 1 2 0 3 5) 0)) = true := by decide +kernel

theorem wit_ParameterAccess_1 :
    ((fun (s : State) (ctx : Nat) (i : Ins) (ws : List Word) => decide (s.due ctx i) && decide (i.opcode = 0x04) && decide ((s.runs.look ctx).params = .msg ws) && decide (((s.runs.look ctx).rg i.ra).toNat + i.imm < ws.length) && (givesB s (.ld ctx) (s.went ctx ((s.runs.look ctx).pc + 1) fun r => r.setG i.rd (ws.getD ((r.rg i.ra).toNat + i.imm) 0)))) (withRun { runOf [(insW 4 0 1 2 0 3 5)] with params := .msg [10, 11, 12, 13, 14, 15, 16, 17, 18, 19, 20, 21, 22] }) (3) (Ins.of (insW 4 0 1 2 0 3 5) 0) ([10, 11, 12, 13, 14, 15, 16, 17, 18, 19, 20, 21, 22])) = true := by decide +kernel

theorem wit_ParameterAccess_2 :
    ((fun (s : State) (ctx : Nat) (i : Ins) (ws : List Word) => decide (s.due ctx i) && decide (i.opcode = 0x05) && decide ((s.runs.look ctx).params = .msg ws) && decide (((s.runs.look ctx).rg i.ra).toNat + i.imm < ws.length) && (givesB s (.st ctx) (s.went ctx ((s.runs.look ctx).pc + 1) fun r => { r with params := .msg (ws.set ((r.rg i.ra).toNat + i.imm) (r.rg i.rb)) }))) (withRun { runOf [(insW 5 0 1 2 0 3 5)] with params := .msg [10, 11, 12, 13, 14, 15, 16, 17, 18, 19, 20, 21, 22] }) (3) (Ins.of (insW 5 0 1 2 0 3 5) 0) ([10, 11, 12, 13, 14, 15, 16, 17, 18, 19, 20, 21, 22])) = true := by decide +kernel

theorem wit_ParameterAccess_3 :
    ((fun (s : State) (ctx : Nat) (i : Ins) (ptr words pa : Nat) => decide (s.due ctx i) && decide (i.opcode = 0x04) && decide ((s.runs.look ctx).params = .host ptr words) && decide (((s.runs.look ctx).rg i.ra).toNat + i.imm < words) && decide (s.maps ((s.runs.look ctx).pasid.getD 0) (s.runs.look ctx).dom .read (ptr + (((s.runs.look ctx).rg i.ra).toNat + i.imm) * 8) 8 pa) && (completesB s (.ld ctx) fun t => decide (
        (.hostRead s.nextId (s.pas.look ((s.runs.look ctx).pasid.getD 0)).port (s.pas.look ((s.runs.look ctx).pasid.getD 0)).fn [(pa, 8)]) ∈ s.newOuts t ∧
        (t.runs.look ctx).st = .blocked ∧ (t.runs.look ctx).block = .ld i.rd ∧ (t.runs.look ctx).await = some s.nextId ∧
        (t.runs.look ctx).pc = (s.runs.look ctx).pc ∧ (t.runs.look ctx).g = (s.runs.look ctx).g))) (mapped (withRun { runOf [(insW 4 0 1 2 0 3 5)] with params := .host 0x10000 20 })) (3) (Ins.of (insW 4 0 1 2 0 3 5) 0) (0x10000) (20) (0x63060)) = true := by decide +kernel

theorem wit_ParameterAccess_4 :
    ((fun (s : State) (ctx : Nat) (i : Ins) (ptr words pa : Nat) => decide (s.due ctx i) && decide (i.opcode = 0x05) && decide ((s.runs.look ctx).params = .host ptr words) && decide (((s.runs.look ctx).rg i.ra).toNat + i.imm < words) && decide (s.maps ((s.runs.look ctx).pasid.getD 0) (s.runs.look ctx).dom .write (ptr + (((s.runs.look ctx).rg i.ra).toNat + i.imm) * 8) 8 pa) && decide (s.portUp (s.pas.look ((s.runs.look ctx).pasid.getD 0)).port = true) && decide ((s.fnOf (s.pas.look ((s.runs.look ctx).pasid.getD 0)).port (s.pas.look ((s.runs.look ctx).pasid.getD 0)).fn).bme = true) && (completesB s (.st ctx) fun t => decide (
        .hostWrite (s.pas.look ((s.runs.look ctx).pasid.getD 0)).port (s.pas.look ((s.runs.look ctx).pasid.getD 0)).fn [(pa, 8)]
          (leBytes ((s.runs.look ctx).rg i.rb).toNat 8) ∈ s.newOuts t ∧
        (t.runs.look ctx).st = .running ∧ (t.runs.look ctx).pc = (s.runs.look ctx).pc + 1 ∧ (t.runs.look ctx).steps = (s.runs.look ctx).steps + 1 ∧
        (t.runs.look ctx).g = (s.runs.look ctx).g))) (mapped (withRun { runOf [(insW 5 0 1 2 0 3 5)] with params := .host 0x10000 20 })) (3) (Ins.of (insW 5 0 1 2 0 3 5) 0) (0x10000) (20) (0x63060)) = true := by decide +kernel

theorem wit_ParameterAccess_5 :
    ((fun (s : State) (ctx : Nat) (i : Ins) (ws : List Word) => decide (s.due ctx i) && decide (i.opcode = 0x04) && decide (s.unladen ctx) && decide (s.locks = []) && decide ((s.runs.look ctx).params = .msg ws) && decide (ws.length ≤ ((s.runs.look ctx).rg i.ra).toNat + i.imm) && (givesB s (.ld ctx) (s.over ctx stBounds))) (withRun { runOf [(insW 4 0 1 2 0 3 6)] with params := .msg [10, 11, 12, 13, 14, 15, 16, 17, 18, 19, 20, 21, 22] }) (3) (Ins.of (insW 4 0 1 2 0 3 6) 0) ([10, 11, 12, 13, 14, 15, 16, 17, 18, 19, 20, 21, 22])) = true := by decide +kernel

/-- A run whose message carries its parameter words. -/
def runMsg (ws ms : List Word) : Run := { runOf ws with params := .msg ms }

/-- Endpoint 7 of router 9, with a key of domain 5, and the pair channel from function 2 of port 1 to its function 3 at its limit of packets in flight. -/
def reaching (s : State) : State :=
  { s with
    eps := [(7, 2 ^ 31 + 9)]
    doms := [(5, { (default : Dom) with st := .keyed, cur := some 11 })]
    ptx := [(pairKey 1 2 7 3 1, { (default : PairTx) with
      live := true, port := 1, fn := 2, node := 7, func := 3, chan := 1, nextPsn := 2 ^ 23, pkts := [{ (default : TxPkt) with psn := 0 }] })] }

/-- The endpoint word of a descriptor: node 7, function 3, channel 1. -/
def target : Word := packW [(0, 7), (20, 3), (28, 1)]

/-- A formed group 6 of the run's function and another. -/
def grouped (s : State) (joined : Bool) : State :=
  { s with grps := [(6, { (default : Cgrp) with
      st := 2, dom := 5, root := true, bufSegs := 4, mems := [⟨0, 1, true, 0, none, 0, 0⟩, ⟨1, 2, joined, 0, none, 0, 0⟩] })] }

/-! ### Statements on === CounterInstructions: for each clause a state that meets its hypotheses -/

theorem wit_CounterInstructions_1 :
    ((fun (s : State) (ctx : Nat) (i : Ins) => decide (s.due ctx i) && decide (s.unladen ctx) && decide (i.opcode = 0x40) && decide ((s.ctrs.look (i.imm % 65536)).dom = some (s.runs.look ctx).dom) && decide ((if i.opf % 2 = 1 then i.imm / 65536 else ((s.runs.look ctx).rg i.ra).toNat) ≤ (s.ctrs.look (i.imm % 65536)).val.toNat) && (givesB s (.wait ctx) (s.wentOp ctx i stOk none 0))) ({ withRun (runOf [(insW 64 0 1 2 0 3 5)]) with ctrs := [(5, ⟨40, some 5⟩)] }) (3) (Ins.of (insW 64 0 1 2 0 3 5) 0)) = true := by decide +kernel

theorem wit_CounterInstructions_2 :
    ((fun (s : State) (ctx : Nat) (i : Ins) (target wait : Nat) => decide (s.due ctx i) && decide (s.unladen ctx) && decide (i.opcode = 0x40) && decide ((s.ctrs.look (i.imm % 65536)).dom = some (s.runs.look ctx).dom) && decide (target = (if i.opf % 2 = 1 then i.imm / 65536 else ((s.runs.look ctx).rg i.ra).toNat)) && decide ((s.ctrs.look (i.imm % 65536)).val.toNat < target) && decide (wait = wbits ((s.runs.look ctx).rg i.rb) 31 0) && (givesB s (.wait ctx) ((s.accepted ctx 0 i { mkOp (s.runs.look ctx) i .ctr with
          arg := i.imm % 65536, x := { (default : Xfer) with operand := BitVec.ofNat 64 target }, due := if wait = 0 then 0 else wait + 1 }).updRun ctx fun r =>
        { r with st := .waiting, waitOn := some (i.imm % 65536, target, if wait = 0 then 0 else s.now + wait) }))) ({ withRun (runOf [(insW 64 1 1 1 0 3 (50 * 65536 + 5))]) with ctrs := [(5, ⟨40, some 5⟩)] }) (3) (Ins.of (insW 64 1 1 1 0 3 (50 * 65536 + 5)) 0) (50) (7)) = true := by decide +kernel

theorem wit_CounterInstructions_3 :
    ((fun (s : State) (ctx : Nat) (i : Ins) => decide (s.due ctx i) && decide (s.unladen ctx) && decide (i.opcode = 0x41) && decide ((s.ctrs.look (i.imm % 65536)).dom = some (s.runs.look ctx).dom) && decide (s.unwaited (i.imm % 65536)) && (givesB s (.signal ctx) { s.wentOp ctx i stOk none 0 with
        ctrs := s.ctrs.upd (i.imm % 65536) fun v => { v with val := v.val + if i.opf % 2 = 1 then (s.runs.look ctx).rg i.ra else 1 } })) ({ withRun (runOf [(insW 65 1 1 2 0 3 5)]) with ctrs := [(5, ⟨40, some 5⟩)] }) (3) (Ins.of (insW 65 1 1 2 0 3 5) 0)) = true := by decide +kernel

theorem wit_CounterInstructions_4 :
    ((fun (s : State) (ctx : Nat) (i : Ins) => decide (s.due ctx i) && decide (s.unladen ctx) && decide (i.opcode = 0x42) && decide ((s.ctrs.look (i.imm % 65536)).dom = some (s.runs.look ctx).dom) && decide (s.unwaited (i.imm % 65536)) && (givesB s (.cset ctx) { s.wentOp ctx i stOk none 0 with ctrs := s.ctrs.upd (i.imm % 65536) fun v => { v with val := (s.runs.look ctx).rg i.ra } })) ({ withRun (runOf [(insW 66 0 1 2 0 3 5)]) with ctrs := [(5, ⟨40, some 5⟩)] }) (3) (Ins.of (insW 66 0 1 2 0 3 5) 0)) = true := by decide +kernel

theorem wit_CounterInstructions_5 :
    ((fun (s : State) (ctx : Nat) (i : Ins) => decide (s.due ctx i) && decide (s.unladen ctx) && decide (i.opcode = 0x42) && decide ((s.ctrs.look (i.imm % 65536)).dom ≠ some (s.runs.look ctx).dom) && (givesB s (.cset ctx) (s.wentOp ctx i stRights none 0))) (withRun (runOf [(insW 66 0 1 2 0 3 5)])) (3) (Ins.of (insW 66 0 1 2 0 3 5) 0)) = true := by decide +kernel

theorem wit_CounterInstructions_6 :
    ((fun (s : State) (ctx : Nat) (i : Ins) => decide (s.due ctx i) && decide (s.unladen ctx) && decide (i.opcode = 0x43) && (givesB s (.fence ctx) (s.wentOp ctx i stOk none 0))) (withRun (runOf [(insW 67 0 1 2 0 3 5)])) (3) (Ins.of (insW 67 0 1 2 0 3 5) 0)) = true := by decide +kernel

theorem wit_LocksAndEventsOfRuns_1 :
    ((fun (s : State) (ctx : Nat) (i : Ins) => decide (s.due ctx i) && decide (s.unladen ctx) && decide (s.unbound = []) && decide (s.chans = []) && decide (i.opcode = 0x60) && decide ((s.locks.look (i.imm % 64)).owner = none) && decide (((s.locks.look (i.imm % 64)).resv = none ∨ (s.locks.look (i.imm % 64)).resv = some (s.runOwner ctx))) && (completesB s (.lock ctx) fun t => decide (
        (t.locks.look (i.imm % 64)).owner = some (s.runOwner ctx) ∧ (t.locks.look (i.imm % 64)).run = some ctx ∧ (t.locks.look (i.imm % 64)).aband = false ∧
        (t.locks.look (i.imm % 64)).resv = none ∧ (t.runs.look ctx).st = .ready ∧ (t.runs.look ctx).pc = (s.runs.look ctx).pc + 1 ∧
        (t.runs.look ctx).rg 15 = g15 (if (s.locks.look (i.imm % 64)).aband then stLockAband else stOk) 0x60 0 ∧
        (i.rd ≠ 15 → (t.runs.look ctx).rg i.rd = 0)))) ({ withRun (runOf [(insW 96 0 0 2 0 3 9)]) with locks := [(9, { (default : HLock) with aband := true })] }) (3) (Ins.of (insW 96 0 0 2 0 3 9) 0)) = true := by decide +kernel

theorem wit_LocksAndEventsOfRuns_2 :
    ((fun (s : State) (ctx : Nat) (i : Ins) => decide (s.due ctx i) && decide (s.unladen ctx) && decide (i.opcode = 0x61) && decide ((s.locks.look (i.imm % 64)).owner = some (s.runOwner ctx)) && decide (s.lockWaiters (i.imm % 64) = []) && (completesB s (.unlock ctx) fun t => decide (
        (t.locks.look (i.imm % 64)).owner = none ∧ (t.locks.look (i.imm % 64)).run = none ∧ (t.locks.look (i.imm % 64)).aband = false ∧
        (t.locks.look (i.imm % 64)).resv = (if (s.locks.look (i.imm % 64)).waiting then some (s.locks.look (i.imm % 64)).cand else none) ∧
        (t.runs.look ctx).st = .running ∧ (t.runs.look ctx).pc = (s.runs.look ctx).pc + 1 ∧ (t.runs.look ctx).rg 15 = g15 stOk 0x61 0))) ({ withRun (runOf [(insW 97 0 1 2 0 3 9)]) with locks := [(9, { (default : HLock) with owner := some (State.runOwner (withRun (runOf [])) 3), waiting := true, cand := ⟨129, 0⟩ })] }) (3) (Ins.of (insW 97 0 1 2 0 3 9) 0)) = true := by decide +kernel

theorem wit_LocksAndEventsOfRuns_3 :
    ((fun (s : State) (ctx : Nat) (i : Ins) => decide (s.due ctx i) && decide (s.unladen ctx) && decide (i.opcode = 0x61) && decide ((s.locks.look (i.imm % 64)).owner ≠ some (s.runOwner ctx)) && (givesB s (.unlock ctx) (s.wentOp ctx i stRights none 0))) (withRun (runOf [(insW 97 0 1 2 0 3 9)])) (3) (Ins.of (insW 97 0 1 2 0 3 9) 0)) = true := by decide +kernel

theorem wit_LocksAndEventsOfRuns_4 :
    ((fun (s : State) (ctx : Nat) (i : Ins) (e : Nat) (ev : Ev) => decide (s.due ctx i) && decide (s.unladen ctx) && decide (s.eventsTo (s.runs.look ctx).wq e) && decide (i.opcode = 0x70) && decide (ev = ⟨packW [(0, 4), (8, stOk), (16, 0x70), (32, (s.runs.look ctx).wq % 65536), (48, (s.runs.look ctx).pc % 4096)],
        packW [(0, wbits ((s.runs.look ctx).rg i.rb) 31 0), (32, (s.runs.look ctx).idx % 2 ^ 32)], (s.runs.look ctx).rg i.ra, s.timeWord, .op (ctx * 64)⟩) && (completesB s (.event ctx) fun t => decide (
        (t.eqs.look e).held = (s.eqs.look e).held ++ [ev] ∧ (t.runs.look ctx).st = (if i.nb then .running else .blocked) ∧
        (t.runs.look ctx).steps = (s.runs.look ctx).steps + 1))) ({ withRun (runOf [(insW 112 0 1 2 0 3 5)]) with wqs := [(9, { (default : Wq) with st := .running, eqEn := true, eq := 2 })], eqs := [(2, { (default : Evq) with st := .active, log2 := 4, writing := true, held := [default] })] }) (3) (Ins.of (insW 112 0 1 2 0 3 5) 0) (2) (⟨packW [(0, 4), (16, 0x70), (32, 9)], packW [(0, 0xFFFFFFFE), (32, 0)], 7, State.timeWord base, .op 192⟩)) = true := by decide +kernel

theorem wit_LocksAndEventsOfRuns_5 :
    ((fun (s : State) (ctx : Nat) (i : Ins) (e : Nat) (ev : Ev) => decide (s.due ctx i) && decide (s.unladen ctx) && decide (s.eventsTo (s.runs.look ctx).wq e) && decide (i.opcode = 0x71) && decide (ev = ⟨packW [(0, 5), (8, stOk), (16, 0x71), (32, (s.runs.look ctx).wq % 65536), (48, (s.runs.look ctx).pc % 4096)],
        packW [(0, min i.imm (2 ^ 32 - 1)), (32, (s.runs.look ctx).idx % 2 ^ 32)], (s.runs.look ctx).rg i.ra, s.timeWord, .op (ctx * 64)⟩) && (completesB s (.trap ctx) fun t => decide (
        (t.eqs.look e).held = (s.eqs.look e).held ++ [ev] ∧ (t.runs.look ctx).st = .blocked ∧ (t.runs.look ctx).steps = (s.runs.look ctx).steps + 1))) ({ withRun (runOf [(insW 113 0 1 2 0 3 5)]) with wqs := [(9, { (default : Wq) with st := .running, eqEn := true, eq := 2 })], eqs := [(2, { (default : Evq) with st := .active, log2 := 4, writing := true, held := [default] })] }) (3) (Ins.of (insW 113 0 1 2 0 3 5) 0) (2) (⟨packW [(0, 5), (16, 0x71), (32, 9)], packW [(0, 5), (32, 0)], 7, State.timeWord base, .op 192⟩)) = true := by decide +kernel

theorem wit_RemoteDataInstructions_1 :
    ((fun (s : State) (ctx : Nat) (i : Ins) (ws : List Word) (n c p la : Nat) (frs : List (Nat × Nat)) => decide (s.due ctx i) && decide (s.channelFor ctx n c i (some p)) && decide (s.reaches ctx (wbits (ws.getD 0 0) 19 0) (wbits (ws.getD 0 0) 27 20) (wbits (ws.getD 0 0) 29 28) p) && decide (wbits (ws.getD 0 0) 27 20 ≤ 128) && decide (wbits (ws.getD 0 0) 29 28 ≤ 1) && decide (i.opcode = 0x20) && decide (i.opf = 0) && decide (s.hasDesc ctx i 5 ws) && decide (s.resolves ctx (ws.getD 3 0) (wbits (ws.getD 4 0) 31 0) frs la) && (givesB s (.put ctx) (s.boundTo ctx n c i { bulkOp (s.runs.look ctx) i { (default : Xfer) with
        node := wbits (ws.getD 0 0) 19 0, func := wbits (ws.getD 0 0) 27 20, chan := wbits (ws.getD 0 0) 29 28, key := ws.getD 1 0
        roff := (ws.getD 2 0).toNat, total := wbits (ws.getD 4 0) 31 0, la := la, frs := frs } with src := (p, 0) }))) (reaching (withRun (runMsg [(insW 32 0 0 2 0 3 5)] [target, 0xABC, 0x100, 0x7000, 5000]))) (3) (Ins.of (insW 32 0 0 2 0 3 5) 0) ([target, 0xABC, 0x100, 0x7000, 5000]) (0) (0) (pairKey 1 2 7 3 1) (0x7000) ([])) = true := by decide +kernel

theorem wit_RemoteDataInstructions_2 :
    ((fun (s : State) (ctx : Nat) (i : Ins) (ws : List Word) (n c p la : Nat) (frs : List (Nat × Nat)) => decide (s.due ctx i) && decide (s.channelFor ctx n c i (some p)) && decide (s.reaches ctx (wbits (ws.getD 0 0) 19 0) (wbits (ws.getD 0 0) 27 20) (wbits (ws.getD 0 0) 29 28) p) && decide (wbits (ws.getD 0 0) 27 20 ≤ 128) && decide (wbits (ws.getD 0 0) 29 28 ≤ 1) && decide (i.opcode = 0x20) && decide (i.opf = 1) && decide (s.hasDesc ctx i 5 ws) && decide (1 ≤ wbits (ws.getD 4 0) 31 0) && decide (wbits (ws.getD 4 0) 31 0 ≤ 8) && (givesB s (.put ctx) (s.boundTo ctx n c i { bulkOp (s.runs.look ctx) i { (default : Xfer) with
        node := wbits (ws.getD 0 0) 19 0, func := wbits (ws.getD 0 0) 27 20, chan := wbits (ws.getD 0 0) 29 28, key := ws.getD 1 0
        roff := (ws.getD 2 0).toNat, total := wbits (ws.getD 4 0) 31 0
        inl := some (leBytes ((s.runs.look ctx).rg i.rb).toNat (wbits (ws.getD 4 0) 31 0)) } with
        src := (p, 0), acc := leBytes ((s.runs.look ctx).rg i.rb).toNat (wbits (ws.getD 4 0) 31 0) }))) (reaching (withRun (runMsg [(insW 32 1 0 2 0 3 5)] [target, 0xABC, 0x100, 0x7000, 3]))) (3) (Ins.of (insW 32 1 0 2 0 3 5) 0) ([target, 0xABC, 0x100, 0x7000, 3]) (0) (0) (pairKey 1 2 7 3 1) (0x7000) ([])) = true := by decide +kernel

theorem wit_RemoteDataInstructions_3 :
    ((fun (s : State) (ctx : Nat) (i : Ins) (ws : List Word) (n c p la : Nat) (frs : List (Nat × Nat)) => decide (s.due ctx i) && decide (s.channelFor ctx n c i (some p)) && decide (s.reaches ctx (wbits (ws.getD 0 0) 19 0) (wbits (ws.getD 0 0) 27 20) (wbits (ws.getD 0 0) 29 28) p) && decide (wbits (ws.getD 0 0) 27 20 ≤ 128) && decide (wbits (ws.getD 0 0) 29 28 ≤ 1) && decide (i.opcode = 0x21) && decide (s.hasDesc ctx i 5 ws) && decide (s.resolves ctx (ws.getD 3 0) (wbits (ws.getD 4 0) 31 0) frs la) && (givesB s (.get ctx) (s.boundTo ctx n c i { bulkOp (s.runs.look ctx) i { (default : Xfer) with
        node := wbits (ws.getD 0 0) 19 0, func := wbits (ws.getD 0 0) 27 20, chan := wbits (ws.getD 0 0) 29 28, key := ws.getD 1 0
        roff := (ws.getD 2 0).toNat, total := wbits (ws.getD 4 0) 31 0, la := la, frs := frs } with src := (p, 0) }))) (reaching (withRun (runMsg [(insW 33 0 0 2 0 3 5)] [target, 0xABC, 0x100, 0x7000, 5000]))) (3) (Ins.of (insW 33 0 0 2 0 3 5) 0) ([target, 0xABC, 0x100, 0x7000, 5000]) (0) (0) (pairKey 1 2 7 3 1) (0x7000) ([])) = true := by decide +kernel

theorem wit_RemoteDataInstructions_4 :
    ((fun (s : State) (ctx : Nat) (i : Ins) (ws : List Word) (n c p la : Nat) (frs : List (Nat × Nat)) (count esize : Nat) => decide (s.due ctx i) && decide (s.channelFor ctx n c i (some p)) && decide (s.reaches ctx (wbits (ws.getD 0 0) 19 0) (wbits (ws.getD 0 0) 27 20) (wbits (ws.getD 0 0) 29 28) p) && decide (wbits (ws.getD 0 0) 27 20 ≤ 128) && decide (wbits (ws.getD 0 0) 29 28 ≤ 1) && decide (i.opcode = 0x22) && decide (s.hasDesc ctx i 6 ws) && decide (count = wbits (ws.getD 5 0) 31 0) && decide (esize = wbits (ws.getD 5 0) 44 32) && decide ((ws.getD 4 0).toNat % 4 = 0) && decide (1 ≤ esize) && decide (esize ≤ 4096) && decide (count * esize ≤ 0xFFFFFFFF) && decide (s.resolves ctx (ws.getD 3 0) (if i.opf % 2 = 1 then count * esize else 0) frs la) && (givesB s (.putx ctx) (s.boundTo ctx n c i { bulkOp (s.runs.look ctx) i { (default : Xfer) with
        node := wbits (ws.getD 0 0) 19 0, func := wbits (ws.getD 0 0) 27 20, chan := wbits (ws.getD 0 0) 29 28, key := ws.getD 1 0
        roff := (ws.getD 2 0).toNat, la := la, frs := frs, total := count * esize, esize := esize, count := count, itab := (ws.getD 4 0).toNat
        mode := if i.opf % 2 = 1 then 2 else 1 } with src := (p, 0) }))) (reaching (withRun (runMsg [(insW 34 1 0 2 0 3 5)] [target, 0xABC, 0x100, 0x7000, 0x9000, packW [(0, 5), (32, 64)]]))) (3) (Ins.of (insW 34 1 0 2 0 3 5) 0) ([target, 0xABC, 0x100, 0x7000, 0x9000, packW [(0, 5), (32, 64)]]) (0) (0) (pairKey 1 2 7 3 1) (0x7000) ([]) (5) (64)) = true := by decide +kernel

theorem wit_RemoteDataInstructions_5 :
    ((fun (s : State) (ctx : Nat) (i : Ins) (ws : List Word) (n c p la : Nat) (frs : List (Nat × Nat)) (count esize : Nat) => decide (s.due ctx i) && decide (s.channelFor ctx n c i (some p)) && decide (s.reaches ctx (wbits (ws.getD 0 0) 19 0) (wbits (ws.getD 0 0) 27 20) (wbits (ws.getD 0 0) 29 28) p) && decide (wbits (ws.getD 0 0) 27 20 ≤ 128) && decide (wbits (ws.getD 0 0) 29 28 ≤ 1) && decide (i.opcode = 0x23) && decide (s.hasDesc ctx i 6 ws) && decide (count = wbits (ws.getD 5 0) 31 0) && decide (esize = wbits (ws.getD 5 0) 44 32) && decide ((ws.getD 4 0).toNat % 4 = 0) && decide (1 ≤ esize) && decide (esize ≤ 4096) && decide (count * esize ≤ 0xFFFFFFFF) && decide (s.resolves ctx (ws.getD 3 0) (if i.opf % 2 = 1 then count * esize else 0) frs la) && (givesB s (.getx ctx) (s.boundTo ctx n c i { bulkOp (s.runs.look ctx) i { (default : Xfer) with
        node := wbits (ws.getD 0 0) 19 0, func := wbits (ws.getD 0 0) 27 20, chan := wbits (ws.getD 0 0) 29 28, key := ws.getD 1 0
        roff := (ws.getD 2 0).toNat, la := la, frs := frs, total := count * esize, esize := esize, count := count, itab := (ws.getD 4 0).toNat
        mode := if i.opf % 2 = 1 then 2 else 1 } with src := (p, 0) }))) (reaching (withRun (runMsg [(insW 35 0 0 2 0 3 5)] [target, 0xABC, 0x100, 0x7000, 0x9000, packW [(0, 5), (32, 64)]]))) (3) (Ins.of (insW 35 0 0 2 0 3 5) 0) ([target, 0xABC, 0x100, 0x7000, 0x9000, packW [(0, 5), (32, 64)]]) (0) (0) (pairKey 1 2 7 3 1) (0x7000) ([]) (5) (64)) = true := by decide +kernel

theorem wit_RemoteDataInstructions_6 :
    ((fun (s : State) (ctx : Nat) (i : Ins) (ws : List Word) (n c p la : Nat) (frs : List (Nat × Nat)) => decide (s.due ctx i) && decide (s.channelFor ctx n c i (some p)) && decide (s.reaches ctx (wbits (ws.getD 0 0) 19 0) (wbits (ws.getD 0 0) 27 20) (wbits (ws.getD 0 0) 29 28) p) && decide (wbits (ws.getD 0 0) 27 20 ≤ 128) && decide (wbits (ws.getD 0 0) 29 28 ≤ 1) && decide (i.opcode = 0x24) && decide (s.hasDesc ctx i 3 ws) && decide ((if wbit (ws.getD 0 0) 32 then i.opf ≠ 1 ∧ i.opf ≠ 11 else i.opf ≠ 2)) && (givesB s (.amo ctx) (s.boundTo ctx n c i { bulkOp (s.runs.look ctx) i { (default : Xfer) with
        node := wbits (ws.getD 0 0) 19 0, func := wbits (ws.getD 0 0) 27 20, chan := wbits (ws.getD 0 0) 29 28, key := ws.getD 1 0
        roff := (ws.getD 2 0).toNat, total := if wbit (ws.getD 0 0) 32 then 4 else 8, sub := i.opf, w32 := wbit (ws.getD 0 0) 32, fetch := false
        operand := if wbit (ws.getD 0 0) 32 then (s.runs.look ctx).rg i.rb &&& 0xFFFFFFFF else (s.runs.look ctx).rg i.rb
        cmp := if wbit (ws.getD 0 0) 32 then (s.runs.look ctx).rg i.rc &&& 0xFFFFFFFF else (s.runs.look ctx).rg i.rc } with src := (p, 0) }))) (reaching (withRun (runMsg [(insW 36 2 0 2 1 3 5)] [target ||| packW [(32, 1)], 0xABC, 0x100]))) (3) (Ins.of (insW 36 2 0 2 1 3 5) 0) ([target ||| packW [(32, 1)], 0xABC, 0x100]) (0) (0) (pairKey 1 2 7 3 1) (0x7000) ([])) = true := by decide +kernel

theorem wit_RemoteDataInstructions_7 :
    ((fun (s : State) (ctx : Nat) (i : Ins) (ws : List Word) (n c p la : Nat) (frs : List (Nat × Nat)) => decide (s.due ctx i) && decide (s.channelFor ctx n c i (some p)) && decide (s.reaches ctx (wbits (ws.getD 0 0) 19 0) (wbits (ws.getD 0 0) 27 20) (wbits (ws.getD 0 0) 29 28) p) && decide (wbits (ws.getD 0 0) 27 20 ≤ 128) && decide (wbits (ws.getD 0 0) 29 28 ≤ 1) && decide (i.opcode = 0x25) && decide (s.hasDesc ctx i 3 ws) && decide ((if wbit (ws.getD 0 0) 32 then i.opf ≠ 1 ∧ i.opf ≠ 11 else i.opf ≠ 2)) && (givesB s (.amof ctx) (s.boundTo ctx n c i { bulkOp (s.runs.look ctx) i { (default : Xfer) with
        node := wbits (ws.getD 0 0) 19 0, func := wbits (ws.getD 0 0) 27 20, chan := wbits (ws.getD 0 0) 29 28, key := ws.getD 1 0
        roff := (ws.getD 2 0).toNat, total := if wbit (ws.getD 0 0) 32 then 4 else 8, sub := i.opf, w32 := wbit (ws.getD 0 0) 32, fetch := true
        operand := if wbit (ws.getD 0 0) 32 then (s.runs.look ctx).rg i.rb &&& 0xFFFFFFFF else (s.runs.look ctx).rg i.rb
        cmp := if wbit (ws.getD 0 0) 32 then (s.runs.look ctx).rg i.rc &&& 0xFFFFFFFF else (s.runs.look ctx).rg i.rc } with src := (p, 0), rd := some i.rd }))) (reaching (withRun (runMsg [(insW 37 2 0 2 1 3 5)] [target ||| packW [(32, 1)], 0xABC, 0x100]))) (3) (Ins.of (insW 37 2 0 2 1 3 5) 0) ([target ||| packW [(32, 1)], 0xABC, 0x100]) (0) (0) (pairKey 1 2 7 3 1) (0x7000) ([])) = true := by decide +kernel

theorem wit_RemoteDataInstructions_8 :
    ((fun (s : State) (ctx : Nat) (i : Ins) (ws : List Word) (n c p la : Nat) (frs : List (Nat × Nat)) => decide (s.due ctx i) && decide (s.channelFor ctx n c i (some p)) && decide (s.reaches ctx (wbits (ws.getD 0 0) 19 0) (wbits (ws.getD 0 0) 27 20) (wbits (ws.getD 0 0) 29 28) p) && decide (wbits (ws.getD 0 0) 27 20 ≤ 128) && decide (wbits (ws.getD 0 0) 29 28 ≤ 1) && decide (i.opcode = 0x30) && decide (s.hasDesc ctx i 4 ws) && decide (s.resolves ctx (ws.getD 2 0) (wbits (ws.getD 3 0) 31 0) frs la) && (givesB s (.send ctx) (s.boundTo ctx n c i { bulkOp (s.runs.look ctx) i { (default : Xfer) with
        node := wbits (ws.getD 0 0) 19 0, func := wbits (ws.getD 0 0) 27 20, chan := wbits (ws.getD 0 0) 29 28, ctx := wbits (ws.getD 0 0) 47 32, tag := ws.getD 1 0
        la := la, frs := frs, total := wbits (ws.getD 3 0) 31 0 } with src := (p, 0), arg := if wbits (ws.getD 3 0) 31 0 ≤ s.eagerLimit then 0 else 1 }))) (reaching (withRun (runMsg [(insW 48 0 0 2 0 3 5)] [target, 0xABC, 0x7000, 300]))) (3) (Ins.of (insW 48 0 0 2 0 3 5) 0) ([target, 0xABC, 0x7000, 300]) (0) (0) (pairKey 1 2 7 3 1) (0x7000) ([])) = true := by decide +kernel

theorem wit_LocalDataInstructions_1 :
    ((fun (s : State) (ctx : Nat) (i : Ins) (ws : List Word) (n c la dst total : Nat) (frs frs2 : List (Nat × Nat)) => decide (s.due ctx i) && decide (i.opcode = 0x26) && decide (s.hasDesc ctx i 4 ws) && decide (s.channelFor ctx n c i none) && decide (wbits (ws.getD 2 0) 49 48 ≠ 3) && decide ((wbits (ws.getD 2 0) 49 48 = 0 ∨ (1 ≤ wbits (ws.getD 2 0) 44 32 ∧ wbits (ws.getD 2 0) 44 32 ≤ 4096 ∧ (ws.getD 3 0).toNat % 4 = 0))) && decide (total = (if wbits (ws.getD 2 0) 49 48 = 0 then wbits (ws.getD 2 0) 31 0 else wbits (ws.getD 2 0) 31 0 * wbits (ws.getD 2 0) 44 32)) && decide (total ≠ 0) && decide (s.resolves ctx (ws.getD 0 0) (if wbits (ws.getD 2 0) 49 48 = 1 then 0 else total) frs la) && decide (s.resolves ctx (ws.getD 1 0) (if wbits (ws.getD 2 0) 49 48 = 2 then 0 else total) frs2 dst) && (givesB s (.copy ctx) (s.boundTo ctx n c i (bulkOp (s.runs.look ctx) i { (default : Xfer) with
        la := la, frs := frs, dst := dst, frs2 := frs2, total := total, esize := wbits (ws.getD 2 0) 44 32
        count := if wbits (ws.getD 2 0) 49 48 = 0 then 0 else wbits (ws.getD 2 0) 31 0, itab := (ws.getD 3 0).toNat, mode := wbits (ws.getD 2 0) 49 48 })))) (withRun (runMsg [(insW 38 0 0 2 0 3 5)] [0x7000, 0x9000, packW [(0, 5), (32, 64), (48, 1)], 0x400])) (3) (Ins.of (insW 38 0 0 2 0 3 5) 0) ([0x7000, 0x9000, packW [(0, 5), (32, 64), (48, 1)], 0x400]) (0) (0) (0x7000) (0x9000) (320) ([]) ([])) = true := by decide +kernel

theorem wit_LocalDataInstructions_2 :
    ((fun (s : State) (ctx : Nat) (i : Ins) (ws : List Word) (n la c : Nat) (frs : List (Nat × Nat)) => decide (s.due ctx i) && decide (i.opcode = 0x31) && decide (s.hasDesc ctx i 5 ws) && decide (s.slotFor ctx n) && decide (s.resolves ctx (ws.getD 3 0) (wbits (ws.getD 4 0) 31 0) frs la) && decide ((s.runs.look ctx).pasid.isSome = true) && decide (s.lctrOk (s.runs.look ctx) i = true) && decide (s.pdHost (s.runs.look ctx).port = 0) && decide (s.pdMat = 0) && decide (c = wbits (ws.getD 0 0) 15 0) && decide ((s.mctx.look c).st = .enabled) && decide ((s.mctx.look c).dom = (s.runs.look ctx).dom) && decide (some (s.mctx.look c).pasid = (s.runs.look ctx).pasid) && decide ((s.mctx.look c).ready = true) && decide ((s.mctx.look c).loading ≠ some false) && decide ((s.mctx.look c).allUnexp = []) && decide ((s.mctx.look c).postedSpill = []) && decide ((s.mctx.look c).used + 2 ≤ (s.mctx.look c).res) && decide (s.msgs = []) && decide (s.preds = []) && decide (i.nb = false) && (completesB s (.post ctx) fun t => decide (
        (t.mctx.look c).posted = (s.mctx.look c).posted ++ [⟨ctx * 64 + n, wbits (ws.getD 0 0) 35 16, wbits (ws.getD 0 0) 43 36, wbit (ws.getD 0 0) 44, wbit (ws.getD 0 0) 45,
          ws.getD 1 0, ws.getD 2 0, la, wbits (ws.getD 4 0) 31 0, (s.mctx.look c).posts⟩] ∧
        (t.runs.look ctx).rg i.rd = (if i.rd = 0 then 0 else s.postHandle c (ctx * 64 + n)) ∧ (t.runs.look ctx).st = .blocked ∧
        (t.ops.look (ctx * 64 + n)).live = true ∧ (t.ops.look (ctx * 64 + n)).opcode = 0x31))) ({ withRun (runMsg [(insW 49 0 0 2 0 3 5)] [packW [(0, 8), (16, 7), (36, 3), (45, 1)], 0xABC, 0xF, 0x7000, 300]) with mctx := [(8, { (default : Mctx) with st := .enabled, port := 1, fn := 2, pasid := 1, dom := 5, res := 8, posts := 4 })] }) (3) (Ins.of (insW 49 0 0 2 0 3 5) 0) ([packW [(0, 8), (16, 7), (36, 3), (45, 1)], 0xABC, 0xF, 0x7000, 300]) (0) (0x7000) (8) ([])) = true := by decide +kernel

theorem wit_LocalDataInstructions_3 :
    ((fun (s : State) (ctx : Nat) (i : Ins) (ws : List Word) => decide (s.due ctx i) && decide (i.opcode = 0x32) && decide (s.unladen ctx) && decide (s.handleOp ((s.runs.look ctx).rg i.ra) = none) && decide (((s.mctx.look (wbits ((s.runs.look ctx).rg i.ra) 63 48)).st = .free ∨ (s.mctx.look (wbits ((s.runs.look ctx).rg i.ra) 63 48)).dom = (s.runs.look ctx).dom)) && (givesB s (.cancel ctx) (s.wentOp ctx i stOk (some i.rd) 0))) (withRun (runMsg [(insW 50 0 1 2 0 3 5)] [])) (3) (Ins.of (insW 50 0 1 2 0 3 5) 0) ([])) = true := by decide +kernel

theorem wit_LocalDataInstructions_4 :
    ((fun (s : State) (ctx : Nat) (i : Ins) (ws : List Word) (k c n : Nat) => decide (s.due ctx i) && decide (i.opcode = 0x32) && decide (s.slotFor ctx n) && decide (s.handleOp ((s.runs.look ctx).rg i.ra) = some k) && decide (c = wbits ((s.runs.look ctx).rg i.ra) 63 48) && decide ((s.mctx.look c).st = .enabled) && decide ((s.mctx.look c).dom = (s.runs.look ctx).dom) && decide ((s.mctx.look c).ready = true) && decide ((s.mctx.look c).loading ≠ some false) && decide (s.msgs = []) && decide (s.preds = []) && decide ((s.mctx.look c).posted.any (fun r => r.op == k) = true) && (completesB s (.cancel ctx) fun t => decide (
        (t.mctx.look c).allPosted.any (fun r => r.op == k) = false ∧ (i.rd ≠ 0 → i.rd ≠ 15 → (t.runs.look ctx).rg i.rd = 1) ∧
        (t.runs.look ctx).pc = (s.runs.look ctx).pc + 1))) ({ withRun { runOf [(insW 50 0 4 2 0 3 5)] with g := [(4, packW [(0, 3), (32, 5), (48, 8)])] } with ops := [(197, { (default : Op) with live := true, opcode := 0x31, eng := .mat, x := { (default : Xfer) with ctx := 8 } })], mctx := [(8, { (default : Mctx) with st := .enabled, dom := 5, res := 8, posted := [{ (default : Recv) with op := 197 }] })] }) (3) (Ins.of (insW 50 0 4 2 0 3 5) 0) ([]) (197) (8) (0)) = true := by decide +kernel

theorem wit_LocalDataInstructions_5 :
    ((fun (s : State) (ctx : Nat) (i : Ins) (ws : List Word) (g j n : Nat) => decide (s.due ctx i) && decide (i.opcode = 0x50) && decide (i.nb = false) && decide (s.slotFor ctx n) && decide (g = i.imm % 4096) && decide (s.lctrOk (s.runs.look ctx) i = true) && decide (s.memberOf ctx g j) && decide (((s.grps.look g).mems.getD j default).joined = false) && (completesB s (.join ctx) fun t => decide (
        ((t.grps.look g).mems.getD j default).joined = true ∧ ((t.grps.look g).mems.getD j default).seq = 0 ∧
        ((t.grps.look g).mems.getD j default).op = some (ctx * 64 + n) ∧
        (t.grps.look g).slots.any (fun x => x.seq == 0 && x.seg == 0 && x.ins.any (fun y => y.1 == (s.grps.look g).children.length + j)) = true ∧
        (t.runs.look ctx).st = .blocked))) (grouped (withRun (runMsg [(insW 80 0 1 2 0 3 6)] [])) false) (3) (Ins.of (insW 80 0 1 2 0 3 6) 0) ([]) (6) (1) (0)) = true := by decide +kernel

theorem wit_LocalDataInstructions_6 :
    ((fun (s : State) (ctx : Nat) (i : Ins) (ws : List Word) (g j n : Nat) => decide (s.due ctx i) && decide (i.opcode = 0x53) && decide (i.nb = false) && decide (s.slotFor ctx n) && decide (g = i.imm % 4096) && decide (s.lctrOk (s.runs.look ctx) i = true) && decide (s.memberOf ctx g j) && decide (((s.grps.look g).mems.getD j default).joined = true) && (completesB s (.barrier ctx) fun t => decide (
        ((t.grps.look g).mems.getD j default).seq = (((s.grps.look g).mems.getD j default).seq + 1) % 65536 ∧
        ((t.grps.look g).mems.getD j default).op = some (ctx * 64 + n) ∧
        (t.grps.look g).slots.any (fun x => x.seq == (((s.grps.look g).mems.getD j default).seq + 1) % 65536 && x.seg == 0 &&
          x.ins.any (fun y => y.1 == (s.grps.look g).children.length + j)) = true ∧
        (t.runs.look ctx).st = .blocked))) (grouped (withRun (runMsg [(insW 83 0 1 2 0 3 6)] [])) true) (3) (Ins.of (insW 83 0 1 2 0 3 6) 0) ([]) (6) (1) (0)) = true := by decide +kernel

theorem wit_LocalDataInstructions_7 :
    ((fun (s : State) (ctx : Nat) (i : Ins) (ws : List Word) (g j n c la dst total : Nat) (frs frs2 : List (Nat × Nat)) => decide (s.due ctx i) && decide (i.opcode = 0x51) && decide (i.nb = false) && decide (s.hasDesc ctx i 4 ws) && decide (s.channelFor ctx n c i none) && decide (g = wbits (ws.getD 0 0) 11 0) && decide (s.memberOf ctx g j) && decide (((s.grps.look g).mems.getD j default).joined = true) && decide ((i.opf ≤ 2 ∨ 4 ≤ wbits (ws.getD 0 0) 18 16)) && decide ((wbit (ws.getD 0 0) 20 = true → wbits (ws.getD 0 0) 18 16 = 2 ∨ wbits (ws.getD 0 0) 18 16 = 3)) && decide (total = wbits (ws.getD 3 0) 31 0 * typeSize (wbits (ws.getD 0 0) 18 16)) && decide (0 < total) && decide (total ≤ 0xFFFFFFFF) && decide (s.resolves ctx (ws.getD 1 0) total frs la) && decide (s.resolves ctx (ws.getD 2 0) total frs2 dst) && (completesB s (.reduce ctx) fun t => decide (
        ((t.grps.look g).mems.getD j default).seq = (((s.grps.look g).mems.getD j default).seq + 1) % 65536 ∧
        ((t.grps.look g).mems.getD j default).op = some (ctx * 64 + n) ∧
        (t.ops.look (ctx * 64 + n)).live = true ∧ (t.ops.look (ctx * 64 + n)).bound = some c ∧ (t.ops.look (ctx * 64 + n)).opf = i.opf ∧
        (t.ops.look (ctx * 64 + n)).x = { (default : Xfer) with
          la := la, frs := frs, dst := dst, frs2 := frs2, total := total, esize := typeSize (wbits (ws.getD 0 0) 18 16), count := wbits (ws.getD 3 0) 31 0
          sub := wbits (ws.getD 0 0) 18 16, w32 := wbit (ws.getD 0 0) 20 } ∧
        (t.runs.look ctx).st = .blocked))) (grouped (withRun (runMsg [(insW 81 3 0 2 0 3 5)] [packW [(0, 6), (16, 5)], 0x7000, 0x9000, 100])) true) (3) (Ins.of (insW 81 3 0 2 0 3 5) 0) ([packW [(0, 6), (16, 5)], 0x7000, 0x9000, 100]) (6) (1) (0) (0) (0x7000) (0x9000) (100 * typeSize 5) ([]) ([])) = true := by decide +kernel

theorem wit_LocalDataInstructions_8 :
    ((fun (s : State) (ctx : Nat) (i : Ins) (ws : List Word) (g j n c la : Nat) (frs : List (Nat × Nat)) => decide (s.due ctx i) && decide (i.opcode = 0x52) && decide (i.nb = false) && decide (s.hasDesc ctx i 3 ws) && decide (s.channelFor ctx n c i none) && decide (g = wbits (ws.getD 0 0) 11 0) && decide (s.memberOf ctx g j) && decide (((s.grps.look g).mems.getD j default).joined = true) && decide (0 < wbits (ws.getD 2 0) 31 0) && decide (s.resolves ctx (ws.getD 1 0) (wbits (ws.getD 2 0) 31 0) frs la) && (completesB s (.bcast ctx) fun t => decide (
        ((t.grps.look g).mems.getD j default).seq = (((s.grps.look g).mems.getD j default).seq + 1) % 65536 ∧
        ((t.grps.look g).mems.getD j default).op = some (ctx * 64 + n) ∧
        (t.ops.look (ctx * 64 + n)).live = true ∧ (t.ops.look (ctx * 64 + n)).bound = some c ∧
        (t.ops.look (ctx * 64 + n)).x = { (default : Xfer) with
          la := la, frs := frs, total := wbits (ws.getD 2 0) 31 0, mode := if wbit (ws.getD 0 0) 12 then 3 else 0 } ∧
        (t.runs.look ctx).st = .blocked))) (grouped (withRun (runMsg [(insW 82 0 0 2 0 3 5)] [packW [(0, 6), (12, 1)], 0x7000, 100])) true) (3) (Ins.of (insW 82 0 0 2 0 3 5) 0) ([packW [(0, 6), (12, 1)], 0x7000, 100]) (6) (1) (0) (0) (0x7000) ([])) = true := by decide +kernel

/-! ### Statements on === PrivilegedRouting: for each clause a state that meets its hypotheses -/

theorem wit_PrivilegedRouting_1 :
    ((fun (s : State) (ctx : Nat) (i : Ins) => decide (s.due ctx i) && decide (s.unladen ctx) && decide (i.ext = false) && decide (i.opcode = 0x80) && decide (i.opf = 0) && decide (s.bankCopy = none) && (givesB s (.rtsetWrite ctx) { s.wentOp ctx i stOk none 0 with
        routes := s.routes.put ((1 - s.get F.RTC_BANK_ACTIVE) * 65536 + wbits ((s.runs.look ctx).rg i.ra) 15 0) ((s.runs.look ctx).rg i.rb) })) (puts (withRun { runOf [(insW 0x80 0 4 5 6 3 0)] with wq := 0, g := [(4, 77), (5, 0x123)] }) [(F.DEV_AUTH_STRAP, 1)]) (3) (Ins.of (insW 0x80 0 4 5 6 3 0) 0)) = true := by decide +kernel

theorem wit_PrivilegedRouting_2 :
    ((fun (s : State) (ctx : Nat) (i : Ins) => decide (s.due ctx i) && decide (s.unladen ctx) && decide (i.ext = false) && decide (i.opcode = 0x80) && decide (i.opf = 1) && (givesB s (.rtsetSwap ctx) ((s.accepted ctx 0 i (mkOp (s.runs.look ctx) i .boundary)).put F.RTC_BANK_SWAP 1))) (puts (withRun { runOf [(insW 0x80 1 4 5 6 3 0)] with wq := 0, g := [] }) [(F.DEV_AUTH_STRAP, 1)]) (3) (Ins.of (insW 0x80 1 4 5 6 3 0) 0)) = true := by decide +kernel

theorem wit_PrivilegedRouting_3 :
    ((fun (s : State) (ctx : Nat) (i : Ins) => decide (s.due ctx i) && decide (s.unladen ctx) && decide (i.ext = false) && decide (i.opcode = 0x80) && decide (i.opf = 2) && decide (s.bankCopy = none) && (givesB s (.rtsetCopy ctx) { (s.accepted ctx 0 i (mkOp (s.runs.look ctx) i .boundary)).put F.RTC_BANK_COPY_BUSY 1 with bankCopy := some (0, some (ctx * 64)) })) (puts (withRun { runOf [(insW 0x80 2 4 5 6 3 0)] with wq := 0, g := [] }) [(F.DEV_AUTH_STRAP, 1)]) (3) (Ins.of (insW 0x80 2 4 5 6 3 0) 0)) = true := by decide +kernel

theorem wit_PrivilegedRouting_4 :
    ((fun (s : State) (ctx : Nat) (i : Ins) => decide (s.due ctx i) && decide (s.unladen ctx) && decide (i.ext = false) && decide (i.opcode = 0x88) && (givesB s (.epset ctx) { s.wentOp ctx i stOk none 0 with
        eps := s.eps.put (wbits ((s.runs.look ctx).rg i.ra) 19 0)
          (wbits ((s.runs.look ctx).rg i.rb) 17 0 + wbits ((s.runs.look ctx).rg i.rb) 31 31 * 2 ^ 31) })) (puts (withRun { runOf [(insW 0x88 0 4 5 6 3 0)] with wq := 0, g := [(4, 77), (5, 0x80030005)] }) [(F.DEV_AUTH_STRAP, 1)]) (3) (Ins.of (insW 0x88 0 4 5 6 3 0) 0)) = true := by decide +kernel

theorem wit_PrivilegedRouting_5 :
    ((fun (s : State) (ctx : Nat) (i : Ins) (ws : List Word) (v role out p : Nat) => decide (s.due ctx i) && decide (s.unladen ctx) && decide (i.ext = false) && decide (i.opcode = 0x81) && decide (i.opf = 0) && decide (s.hasDesc ctx i 6 ws) && decide (v = wbits (ws.getD 0 0) 9 0) && decide (role = wbits (ws.getD 0 0) 13 12) && decide (out = wbits (ws.getD 0 0) 45 40) && decide (p = cvyP (s.get F.STG_PERIOD_CODE)) && decide (role ≤ 2) && decide (0 < (ws.getD 4 0).toNat) && decide ((ws.getD 4 0).toNat ≤ p * 0xFFFFFFFF) && decide (s.now + 16 ≤ wbits (ws.getD 1 0) 47 0) && decide ((s.cvys.look v).st = 0) && decide (s.locked = true) && decide (s.flag (fltPend 0x003) = false) && decide (s.workMode ≠ 3) && decide ((role = 2 ∨ (pop16 (s.cvyNamed out ||| wbits (ws.getD 2 0) 15 0) ≤ 12 ∧ s.cvyNamed out &&& wbits (ws.getD 2 0) 15 0 = 0 ∧ s.pdQuad out = 0))) && (givesB s (.convoySetup ctx) { s.wentOp ctx i stOk none 0 with cvys := s.cvys.put v { (default : Cvy) with
        st := 1, role := role, inPort := wbits (ws.getD 0 0) 37 32, outPort := out, dom := wbits (ws.getD 0 0) 63 48, start := wbits (ws.getD 1 0) 47 0
        slots := if role = 2 then 0 else wbits (ws.getD 2 0) 15 0, va := (ws.getD 3 0).toNat, len := (ws.getD 4 0).toNat, pasid := wbits (ws.getD 5 0) 19 0
        n := ((ws.getD 4 0).toNat + p - 1) / p } })) (puts (withRun { runOf [(insW 0x81 0 0 5 6 3 0)] with wq := 0, g := [], params := .msg [packW [(0, 9), (12, 0), (32, 3), (40, 4), (48, 5)], 100, 0x15, 0x7000, 30000, 1] }) [(F.DEV_AUTH_STRAP, 1), (F.STG_SYNC_STATUS_STATE, 2), (F.STG_PERIOD_CODE, 1)]) (3) (Ins.of (insW 0x81 0 0 5 6 3 0) 0) ([packW [(0, 9), (12, 0), (32, 3), (40, 4), (48, 5)], 100, 0x15, 0x7000, 30000, 1]) (9) (0) (4) (cvyP 1)) = true := by decide +kernel

theorem wit_PrivilegedRouting_6 :
    ((fun (s : State) (ctx : Nat) (i : Ins) => decide (s.due ctx i) && decide (s.unladen ctx) && decide (i.ext = false) && decide (i.opcode = 0x81) && decide (i.opf = 1) && decide ((s.cvys.look (wbits ((s.runs.look ctx).rg i.ra) 9 0)).st ≠ 0) && (givesB s (.convoyTeardown ctx) { s.wentOp ctx i stOk none 0 with
        cvys := s.cvys.upd (wbits ((s.runs.look ctx).rg i.ra) 9 0) fun c => { c with teardown := some (max (wbits ((s.runs.look ctx).rg i.rb) 47 0) (s.now + 1)) } })) (puts { withRun { runOf [(insW 0x81 1 4 5 6 3 0)] with wq := 0, g := [(4, 9), (5, 77)] } with cvys := [(9, { (default : Cvy) with st := 2 })] } [(F.DEV_AUTH_STRAP, 1)]) (3) (Ins.of (insW 0x81 1 4 5 6 3 0) 0)) = true := by decide +kernel

theorem wit_PrivilegedRouting_7 :
    ((fun (s : State) (ctx : Nat) (i : Ins) (ws : List Word) => decide (s.due ctx i) && decide (s.unladen ctx) && decide (i.ext = false) && decide (i.opcode = 0x82) && decide (s.hasDesc ctx i 3 ws) && decide (wbits (ws.getD 0 0) 34 32 ≤ 2) && decide ((wbits (ws.getD 0 0) 39 38 = 0 ∨ (wbits (ws.getD 0 0) 39 38 = 1 ∧ wbits (ws.getD 0 0) 31 16 = 0))) && (givesB s (.tollset ctx) { s.accepted ctx 0 i (mkOp (s.runs.look ctx) i .boundary) with
        tolls := s.tolls.upd (wbits (ws.getD 0 0) 13 0) fun t => { t with next := some ws } })) (puts (withRun { runOf [(insW 0x82 0 0 5 6 3 0)] with wq := 0, g := [], params := .msg [packW [(0, 6), (32, 1)], 5, 6] }) [(F.DEV_AUTH_STRAP, 1)]) (3) (Ins.of (insW 0x82 0 0 5 6 3 0) 0) ([packW [(0, 6), (32, 1)], 5, 6])) = true := by decide +kernel

theorem wit_PrivilegedRouting_8 :
    ((fun (s : State) (ctx : Nat) (i : Ins) => decide (s.due ctx i) && decide (s.unladen ctx) && decide (i.ext = false) && decide (i.opcode = 0x89) && decide (i.opf = 0) && decide (s.spend = []) && decide (s.smask = []) && (givesB s (.stagecfgPeriod ctx) { s.accepted ctx 0 i (mkOp (s.runs.look ctx) i .boundary) with
        smask := [(0x28010, 0x8003FFFFFFFFFFFF)]
        spend := [(0x28010, packW [(63, 1), (48, wbits ((s.runs.look ctx).rg i.ra) 1 0), (0, wbits ((s.runs.look ctx).rg i.rb) 47 0)])] })) (puts (withRun { runOf [(insW 0x89 0 4 5 6 3 0)] with wq := 0, g := [(4, 2), (5, 1000)] }) [(F.DEV_AUTH_STRAP, 1)]) (3) (Ins.of (insW 0x89 0 4 5 6 3 0) 0)) = true := by decide +kernel

theorem wit_PrivilegedRouting_9 :
    ((fun (s : State) (ctx : Nat) (i : Ins) => decide (s.due ctx i) && decide (s.unladen ctx) && decide (i.ext = false) && decide (i.opcode = 0x89) && decide (i.opf = 1) && decide (s.spend = []) && decide (s.smask = []) && (givesB s (.stagecfgSync ctx) { s.accepted ctx 0 i (mkOp (s.runs.look ctx) i .boundary) with
        smask := [(0x28018, 0xC03FFF0F)], spend := Tab.put [] 0x28018 ((s.runs.look ctx).rg i.ra &&& 0xC03FFF0F) })) (puts (withRun { runOf [(insW 0x89 1 4 5 6 3 0)] with wq := 0, g := [(4, 0xFFFFFFFF)] }) [(F.DEV_AUTH_STRAP, 1)]) (3) (Ins.of (insW 0x89 1 4 5 6 3 0) 0)) = true := by decide +kernel

theorem wit_PrivilegedTenancy_1 :
    ((fun (s : State) (ctx : Nat) (i : Ins) (d : Nat) => decide (s.due ctx i) && decide (s.unladen ctx) && decide (i.ext = false) && decide (i.opcode = 0x83) && decide (i.opf = 0) && decide (d = wbits ((s.runs.look ctx).rg i.ra) 15 0) && decide (d ≠ 0) && decide (s.domLive d = false) && decide ((s.doms.filter fun e => e.1 != 0 && e.2.st != .inactive).length + 1 < 4096) && (completesB s (.domainActivate ctx) fun t => decide (
        (t.doms.look d).st = .active ∧ (t.doms.look d).cur = (s.doms.look d).cur ∧ (t.runs.look ctx).rg 15 = g15 stOk 0x83 0 ∧ (t.runs.look ctx).pc = (s.runs.look ctx).pc + 1))) (puts (withRun { runOf [(insW 0x83 0 4 5 6 3 0)] with wq := 0, g := [(4, 6)] }) [(F.DEV_AUTH_STRAP, 1)]) (3) (Ins.of (insW 0x83 0 4 5 6 3 0) 0) (6)) = true := by decide +kernel

theorem wit_PrivilegedTenancy_2 :
    ((fun (s : State) (ctx : Nat) (i : Ins) (d : Nat) => decide (s.due ctx i) && decide (s.unladen ctx) && decide (i.ext = false) && decide (i.opcode = 0x83) && decide (i.opf = 1) && decide (d = wbits ((s.runs.look ctx).rg i.ra) 15 0) && decide (d ≠ 0) && decide (d ≠ (s.runs.look ctx).dom) && decide (s.domLive d = true) && decide (s.flag F.SEC_LEDGER_CTRL_EN = false) && decide (s.ops = []) && decide (s.grps = []) && decide (s.cvys = []) && decide (s.msgs = []) && decide ((s.fns.keysOf fun h => h.tdi == .locked || h.tdi == .run) = []) && (completesB s (.domainRetire ctx) fun t => decide (
        (t.doms.look d).st = .inactive ∧ (t.doms.look d).cur = none ∧ (t.doms.look d).alt = none ∧ (∀ k ∈ s.fns.keysOf fun h => h.dom == some d, (t.fns.look k).dom = none) ∧
        (t.pas.keysOf fun a => a.dom == some d) = [] ∧ (t.ctrs.keysOf fun c => c.dom == some d) = [] ∧ (t.kcache.keysOf fun k => k.dom == d) = [] ∧
        (t.runs.look ctx).rg 15 = g15 stOk 0x83 0))) (puts { withRun { runOf [(insW 0x83 1 4 5 6 3 0)] with wq := 0, g := [(4, 6)] } with doms := [(6, { (default : Dom) with st := .keyed, cur := some 1 })], fns := [(130, { (default : HostFn) with dom := some 6 })], pas := [(2, { (default : Pas) with st := .active, dom := some 6 })], ctrs := [(8, ⟨4, some 6⟩)], kcache := [(1, { (default : KeyEnt) with dom := 6 })] } [(F.DEV_AUTH_STRAP, 1)]) (3) (Ins.of (insW 0x83 1 4 5 6 3 0) 0) (6)) = true := by decide +kernel

theorem wit_PrivilegedTenancy_3 :
    ((fun (s : State) (ctx : Nat) (i : Ins) (d p f : Nat) => decide (s.due ctx i) && decide (s.unladen ctx) && decide (i.ext = false) && decide (i.opcode = 0x83) && decide (i.opf = 2) && decide (d = wbits ((s.runs.look ctx).rg i.ra) 15 0) && decide (p = wbits ((s.runs.look ctx).rg i.rb) 9 8) && decide (f = wbits ((s.runs.look ctx).rg i.rb) 7 0) && decide (1 ≤ f) && decide (f ≤ 128) && decide (s.domLive d = true) && decide ((s.fnOf p f).tdi = .unlocked) && decide ((s.fnOf p f).dom ≠ some d) && (givesB s (.bindFunc ctx) { s.wentOp ctx i stOk none 0 with fns := s.fns.upd (fnKey p f) fun h => { h with dom := some d } })) (puts { withRun { runOf [(insW 0x83 2 4 5 6 3 0)] with wq := 0, g := [(4, 6), (5, 0x105)] } with doms := [(6, { (default : Dom) with st := .keyed, cur := some 1 })] } [(F.DEV_AUTH_STRAP, 1)]) (3) (Ins.of (insW 0x83 2 4 5 6 3 0) 0) (6) (1) (5)) = true := by decide +kernel

theorem wit_PrivilegedTenancy_4 :
    ((fun (s : State) (ctx : Nat) (i : Ins) (d a : Nat) => decide (s.due ctx i) && decide (s.unladen ctx) && decide (i.ext = false) && decide (i.opcode = 0x83) && decide (i.opf = 3) && decide (d = wbits ((s.runs.look ctx).rg i.ra) 15 0) && decide (a = wbits ((s.runs.look ctx).rg i.rb) 19 0) && decide (s.domLive d = true) && decide ((s.pas.look a).st = .active) && decide ((s.pas.look a).dom = none) && decide (s.fnDom (s.pas.look a).port (s.pas.look a).fn = some d) && (givesB s (.bindPasid ctx) { s.wentOp ctx i stOk none 0 with pas := s.pas.upd a fun x => { x with dom := some d } })) (puts { withRun { runOf [(insW 0x83 3 4 5 6 3 0)] with wq := 0, g := [(4, 6), (5, 2)] } with doms := [(6, { (default : Dom) with st := .keyed, cur := some 1 })], fns := [(130, { (default : HostFn) with dom := some 6 })], pas := [(2, { (default : Pas) with st := .active, port := 1, fn := 1 })] } [(F.DEV_AUTH_STRAP, 1)]) (3) (Ins.of (insW 0x83 3 4 5 6 3 0) 0) (6) (2)) = true := by decide +kernel

theorem wit_PrivilegedTenancy_5 :
    ((fun (s : State) (ctx : Nat) (i : Ins) (d first n : Nat) => decide (s.due ctx i) && decide (s.unladen ctx) && decide (i.ext = false) && decide (i.opcode = 0x83) && decide (i.opf = 4) && decide (d = wbits ((s.runs.look ctx).rg i.ra) 15 0) && decide (first = wbits ((s.runs.look ctx).rg i.rb) 15 0) && decide (n = wbits ((s.runs.look ctx).rg i.rb) 31 16 + 1) && decide (s.domLive d = true) && decide (first + n ≤ 65536) && decide ((s.ctrs.any fun e => decide (first ≤ e.1 ∧ e.1 < first + n) && e.2.dom.isSome && e.2.dom != some d) = false) && decide (s.ops = []) && (completesB s (.bindCtr ctx) fun t => decide (
        (∀ c, c < n → t.ctrs.look (first + c) = ⟨0, some d⟩) ∧ (t.ctrs.filter fun e => decide (e.1 < first ∨ first + n ≤ e.1)) = (s.ctrs.filter fun e => decide (e.1 < first ∨ first + n ≤ e.1)) ∧
        (t.runs.look ctx).rg 15 = g15 stOk 0x83 0))) (puts { withRun { runOf [(insW 0x83 4 4 5 6 3 0)] with wq := 0, g := [(4, 6), (5, 0x00020007)] } with doms := [(6, { (default : Dom) with st := .keyed, cur := some 1 })], ctrs := [(4, ⟨9, some 5⟩), (8, ⟨4, some 6⟩)] } [(F.DEV_AUTH_STRAP, 1)]) (3) (Ins.of (insW 0x83 4 4 5 6 3 0) 0) (6) (7) (3)) = true := by decide +kernel

theorem wit_PrivilegedTenancy_6 :
    (fun (s : State) (ctx : Nat) (i : Ins) (ws : List Word) (index : Nat) (e : KeyEnt) => (s.due ctx i) ∧ (s.unladen ctx) ∧ (i.ext = false) ∧ (s.unbound = []) ∧ (s.chans = []) ∧ (i.opcode = 0x84) ∧ (i.opf = 0) ∧ (s.hasDesc ctx i 3 ws) ∧ (index = wbits (ws.getD 0 0) 23 0) ∧ (s.flag F.RMA_KTAB_CTRL_EN = true) ∧ (index < 2 ^ s.ktabLog2) ∧ ((s.pas.look (wbits (ws.getD 0 0) 63 44)).dom = some (wbits (ws.getD 0 0) 39 24)) ∧ (s.kcache.find? (fun x => x.1 == index) = some (index, e)) ∧ ((e.valid = false ∨ e.epoch ≠ s.inc)) ∧ (i.nb = false)) (puts { withRun { runOf [(insW 0x84 0 0 5 6 3 0)] with wq := 0, g := [], params := .msg [packW [(0, 30), (24, 6), (40, 3), (44, 2)], 0x1000, 0x2000] } with pas := [(2, { (default : Pas) with st := .active, dom := some 6 })], kcache := [(30, { (default : KeyEnt) with valid := false, gen := 8, dom := 6, epoch := 1 })] } [(F.DEV_AUTH_STRAP, 1), (F.RMA_KTAB_CTRL_EN, 1)]) (3) (Ins.of (insW 0x84 0 0 5 6 3 0) 0) ([packW [(0, 30), (24, 6), (40, 3), (44, 2)], 0x1000, 0x2000]) (30) ({ (default : KeyEnt) with valid := false, gen := 8, dom := 6, epoch := 1 }) := by
  refine ⟨?_, ?_, ?_, ?_, ?_, ?_, ?_, ?_, ?_, ?_, ?_, ?_, ?_, ?_, ?_⟩ <;> first | rfl | exact ⟨rfl, rfl⟩ | decide +kernel

theorem wit_PrivilegedTenancy_7 :
    (fun (s : State) (ctx : Nat) (i : Ins) (index : Nat) (e : KeyEnt) => (s.due ctx i) ∧ (s.unladen ctx) ∧ (i.ext = false) ∧ (s.unbound = []) ∧ (s.chans = []) ∧ (i.opcode = 0x84) ∧ (i.opf = 1) ∧ (s.flag F.RMA_KTAB_CTRL_EN = true) ∧ (index < 2 ^ s.ktabLog2) ∧ (s.kcache.find? (fun x => x.1 == index) = some (index, e)) ∧ (e.valid = true) ∧ (e.epoch = s.inc) ∧ (e.gen < 2 ^ 16) ∧ ((s.runs.look ctx).rg i.ra = s.keyOf index e.gen e.dom)) (puts { withRun { runOf [(insW 0x84 1 4 5 6 3 0)] with wq := 0, g := [(4, State.keyOf base 30 8 6)] } with pas := [(2, { (default : Pas) with st := .active, dom := some 6 })], kcache := [(30, { (default : KeyEnt) with valid := true, gen := 8, dom := 6, epoch := 1 })] } [(F.DEV_AUTH_STRAP, 1), (F.RMA_KTAB_CTRL_EN, 1)]) (3) (Ins.of (insW 0x84 1 4 5 6 3 0) 0) (30) ({ (default : KeyEnt) with valid := true, gen := 8, dom := 6, epoch := 1 }) := by
  refine ⟨?_, ?_, ?_, ?_, ?_, ?_, ?_, ?_, ?_, ?_, ?_, ?_, ?_, ?_⟩ <;> first | rfl | exact ⟨rfl, rfl⟩ | decide +kernel

theorem wit_PrivilegedTenancy_8 :
    (fun (s : State) (ctx : Nat) (i : Ins) (ws : List Word) (index : Nat) (e : KeyEnt) => (s.due ctx i) ∧ (s.unladen ctx) ∧ (i.ext = false) ∧ (s.unbound = []) ∧ (s.chans = []) ∧ (i.opcode = 0x84) ∧ (i.opf = 2) ∧ (s.hasDesc ctx i 3 ws) ∧ (s.flag F.RMA_KTAB_CTRL_EN = true) ∧ (index < 2 ^ s.ktabLog2) ∧ (s.kcache.find? (fun x => x.1 == index) = some (index, e)) ∧ (e.valid = true) ∧ (e.epoch = s.inc) ∧ (e.gen < 2 ^ 16) ∧ (ws.getD 0 0 = s.keyOf index e.gen e.dom)) (puts { withRun { runOf [(insW 0x84 2 0 5 6 3 0)] with wq := 0, params := .msg [State.keyOf base 30 8 6, 0x1000, 0x2000] } with pas := [(2, { (default : Pas) with st := .active, dom := some 6 })], kcache := [(30, { (default : KeyEnt) with valid := true, gen := 8, dom := 6, epoch := 1 })] } [(F.DEV_AUTH_STRAP, 1), (F.RMA_KTAB_CTRL_EN, 1)]) (3) (Ins.of (insW 0x84 2 0 5 6 3 0) 0) ([State.keyOf base 30 8 6, 0x1000, 0x2000]) (30) ({ (default : KeyEnt) with valid := true, gen := 8, dom := 6, epoch := 1 }) := by
  refine ⟨?_, ?_, ?_, ?_, ?_, ?_, ?_, ?_, ?_, ?_, ?_, ?_, ?_, ?_, ?_⟩ <;> first | rfl | exact ⟨rfl, rfl⟩ | decide +kernel

theorem wit_PrivilegedTenancy_9 :
    ((fun (s : State) (ctx : Nat) (i : Ins) => decide (s.due ctx i) && decide (s.unladen ctx) && decide (i.ext = false) && decide (i.opcode = 0x85) && decide (i.opf = 0) && decide ((s.wqs.look (wbits ((s.runs.look ctx).rg i.ra) 15 0)).st = .stopped) && (givesB s (.ctxflushQueue ctx) { s.wentOp ctx i stOk none 0 with
        wqs := s.wqs.upd (wbits ((s.runs.look ctx).rg i.ra) 15 0) fun w => { (default : Wq) with
          st := w.st, qcb := w.qcb, pasid := w.pasid, port := w.port, fn := w.fn, c := w.c, prod := w.prod, err := w.err, boost := w.boost, sched := w.sched, rang := w.rang } })) (puts { withRun { runOf [(insW 0x85 0 4 5 6 3 0)] with wq := 0, g := [(4, 12)] } with wqs := [(12, { (default : Wq) with st := .stopped, weight := 4, qcb := 0x1000 })] } [(F.DEV_AUTH_STRAP, 1)]) (3) (Ins.of (insW 0x85 0 4 5 6 3 0) 0)) = true := by decide +kernel

theorem wit_PrivilegedTenancy_10 :
    ((fun (s : State) (ctx : Nat) (i : Ins) => decide (s.due ctx i) && decide (s.unladen ctx) && decide (i.ext = false) && decide (i.opcode = 0x85) && decide (i.opf = 1) && decide ((s.mctx.look (wbits ((s.runs.look ctx).rg i.ra) 15 0)).st = .enabled) && decide ((s.mctx.look (wbits ((s.runs.look ctx).rg i.ra) 15 0)).unexp = []) && decide ((s.mctx.look (wbits ((s.runs.look ctx).rg i.ra) 15 0)).posted.length ≤ 1) && decide ((s.mctx.look (wbits ((s.runs.look ctx).rg i.ra) 15 0)).postedSpill = []) && (completesB s (.ctxflushMatch ctx) fun t => decide (
        (t.mctx.look (wbits ((s.runs.look ctx).rg i.ra) 15 0)).posted = [] ∧ (t.runs.look ctx).steps = (s.runs.look ctx).steps + 1))) (puts { withRun { runOf [(insW 0x85 1 4 5 6 3 0)] with wq := 0, g := [(4, 8)] } with mctx := [(8, { (default : Mctx) with st := .enabled, res := 8, spillLog2 := 4, posted := [default] })] } [(F.DEV_AUTH_STRAP, 1)]) (3) (Ins.of (insW 0x85 1 4 5 6 3 0) 0)) = true := by decide +kernel

theorem wit_PrivilegedTenancy_11 :
    ((fun (s : State) (ctx : Nat) (i : Ins) (d : Nat) => decide (s.due ctx i) && decide (s.unladen ctx) && decide (i.ext = false) && decide (i.opcode = 0x85) && decide (i.opf = 2) && decide (d = wbits ((s.runs.look ctx).rg i.ra) 15 0) && decide (s.msgs = []) && (givesB s (.ctxflushDomain ctx) { s.wentOp ctx i stOk none 0 with
        kcache := s.kcache.filter fun e => e.2.dom != d
        pcache := s.pcache.filter fun l => (s.pas.look l.1).dom != some d
        preds := s.preds.filter fun e => (s.mctx.look e.2.ctx).dom != d
        tlb := s.tlb.filter fun e => (s.pas.look e.2.pasid).dom != some d })) (puts { withRun { runOf [(insW 0x85 2 4 5 6 3 0)] with wq := 0, g := [(4, 6)] } with pas := [(2, { (default : Pas) with st := .active, dom := some 6 })], kcache := [(30, { (default : KeyEnt) with valid := true, gen := 8, dom := 6, epoch := 1 })], tlb := [(0, { (default : Tlbe) with pasid := 2 }), (1, { (default : Tlbe) with pasid := 3 })] } [(F.DEV_AUTH_STRAP, 1)]) (3) (Ins.of (insW 0x85 2 4 5 6 3 0) 0) (6)) = true := by decide +kernel

theorem wit_PrivilegedTenancy_12 :
    ((fun (s : State) (ctx : Nat) (i : Ins) => decide (s.due ctx i) && decide (s.unladen ctx) && decide (i.ext = false) && decide (i.opcode = 0x86) && decide (i.opf = 0) && decide (s.walks = []) && decide (s.accs = []) && (givesB s (.tlbinvAll ctx) { s.accepted ctx 0 i (mkOp (s.runs.look ctx) i .inval) with
        tlb := [], pcache := [], nextId := s.nextId + 1
        invals := s.invals.put s.nextId { (default : Inval) with byOp := some (ctx * 64), live := true } })) (puts { withRun { runOf [(insW 0x86 0 4 5 6 3 0)] with wq := 0, g := [] } with tlb := [(0, { (default : Tlbe) with valid := true, pasid := 2, page := 512, size := 1 }), (1, { (default : Tlbe) with valid := true, pasid := 3, page := 512 })], pcache := [(2, 0x200040, [])] } [(F.DEV_AUTH_STRAP, 1)]) (3) (Ins.of (insW 0x86 0 4 5 6 3 0) 0)) = true := by decide +kernel

theorem wit_PrivilegedTenancy_13 :
    ((fun (s : State) (ctx : Nat) (i : Ins) (a : Nat) => decide (s.due ctx i) && decide (s.unladen ctx) && decide (i.ext = false) && decide (i.opcode = 0x86) && decide (i.opf = 1) && decide (s.walks = []) && decide (s.accs = []) && decide (a = wbits ((s.runs.look ctx).rg i.ra) 19 0) && (givesB s (.tlbinvPasid ctx) { s.accepted ctx 0 i (mkOp (s.runs.look ctx) i .inval) with
        tlb := s.tlb.filter fun e => e.2.pasid != a, pcache := s.pcache.filter fun l => l.1 != a, nextId := s.nextId + 1
        invals := s.invals.put s.nextId { (default : Inval) with byOp := some (ctx * 64), live := true } })) (puts { withRun { runOf [(insW 0x86 1 4 5 6 3 0)] with wq := 0, g := [(4, 2)] } with tlb := [(0, { (default : Tlbe) with valid := true, pasid := 2, page := 512, size := 1 }), (1, { (default : Tlbe) with valid := true, pasid := 3, page := 512 })], pcache := [(2, 0x200040, [])] } [(F.DEV_AUTH_STRAP, 1)]) (3) (Ins.of (insW 0x86 1 4 5 6 3 0) 0) (2)) = true := by decide +kernel

theorem wit_PrivilegedTenancy_14 :
    ((fun (s : State) (ctx : Nat) (i : Ins) (a page : Nat) => decide (s.due ctx i) && decide (s.unladen ctx) && decide (i.ext = false) && decide (i.opcode = 0x86) && decide (i.opf = 2) && decide (s.walks = []) && decide (s.accs = []) && decide (a = wbits ((s.runs.look ctx).rg i.ra) 19 0) && decide (page = ((s.runs.look ctx).rg i.rb).toNat / 4096) && (givesB s (.tlbinvPage ctx) { s.accepted ctx 0 i (mkOp (s.runs.look ctx) i .inval) with
        tlb := s.tlb.filter fun e => !(e.2.pasid == a && page / pagesOf e.2.size == e.2.page / pagesOf e.2.size)
        pcache := s.pcache.filter fun l => !(l.1 == a && l.2.1 / 4096 == page), nextId := s.nextId + 1
        invals := s.invals.put s.nextId { (default : Inval) with byOp := some (ctx * 64), live := true } })) (puts { withRun { runOf [(insW 0x86 2 4 5 6 3 0)] with wq := 0, g := [(4, 2), (5, 0x200FFF)] } with tlb := [(0, { (default : Tlbe) with valid := true, pasid := 2, page := 512, size := 1 }), (1, { (default : Tlbe) with valid := true, pasid := 3, page := 512 })], pcache := [(2, 0x200040, [])] } [(F.DEV_AUTH_STRAP, 1)]) (3) (Ins.of (insW 0x86 2 4 5 6 3 0) 0) (2) (512)) = true := by decide +kernel

theorem wit_PrivilegedTenancy_15 :
    ((fun (s : State) (ctx : Nat) (i : Ins) (a addr len : Nat) => decide (s.due ctx i) && decide (s.unladen ctx) && decide (i.ext = false) && decide (i.opcode = 0x86) && decide (i.opf = 3) && decide (s.walks = []) && decide (s.accs = []) && decide (a = wbits ((s.runs.look ctx).rg i.ra) 19 0) && decide (addr = ((s.runs.look ctx).rg i.rb).toNat) && decide (len = ((s.runs.look ctx).rg i.rc).toNat) && decide (0 < len) && (givesB s (.tlbinvRange ctx) { s.accepted ctx 0 i (mkOp (s.runs.look ctx) i .inval) with
        tlb := s.tlb.filter fun e => !(e.2.pasid == a &&
          decide (e.2.page / pagesOf e.2.size * pagesOf e.2.size ≤ (addr + len - 1) / 4096 ∧ addr / 4096 ≤ e.2.page / pagesOf e.2.size * pagesOf e.2.size + pagesOf e.2.size - 1))
        pcache := s.pcache.filter fun l => !(l.1 == a && decide (l.2.1 / 4096 ≤ (addr + len - 1) / 4096 ∧ addr / 4096 ≤ l.2.1 / 4096)), nextId := s.nextId + 1
        invals := s.invals.put s.nextId { (default : Inval) with byOp := some (ctx * 64), live := true } })) (puts { withRun { runOf [(insW 0x86 3 4 5 6 3 0)] with wq := 0, g := [(4, 2), (5, 0x1FFFFF), (6, 2)] } with tlb := [(0, { (default : Tlbe) with valid := true, pasid := 2, page := 512, size := 1 }), (1, { (default : Tlbe) with valid := true, pasid := 3, page := 512 })], pcache := [(2, 0x200040, [])] } [(F.DEV_AUTH_STRAP, 1)]) (3) (Ins.of (insW 0x86 3 4 5 6 3 0) 0) (2) (0x1FFFFF) (2)) = true := by decide +kernel

theorem wit_PrivilegedTenancy_16 :
    ((fun (s : State) (ctx : Nat) (i : Ins) (ws : List Word) (g : Nat) => decide (s.due ctx i) && decide (s.unladen ctx) && decide (i.ext = false) && decide (i.opcode = 0x87) && decide (i.opf = 0) && decide (s.hasDesc ctx i 4 ws) && decide (g = wbits (ws.getD 0 0) 11 0) && decide (wbits (ws.getD 0 0) 43 40 ≤ 8) && decide (1 ≤ wbits (ws.getD 0 0) 43 40) && decide (ws.getD 1 0 = 0) && decide (wbit (ws.getD 0 0) 38 = true) && decide ((s.grps.look g).st = 0) && decide (s.colUnits + 64 * 9 ≤ 1024) && decide ((s.key (wbits (ws.getD 0 0) 31 16)).isSome = true) && (completesB s (.groupsetCreate ctx) fun t => decide (
        (t.grps.look g).st = 2 ∧ (t.grps.look g).dom = wbits (ws.getD 0 0) 31 16 ∧ (t.grps.look g).root = true ∧ (t.grps.look g).edges = [] ∧
        (t.grps.look g).mems.length = wbits (ws.getD 0 0) 43 40 ∧ ((t.grps.look g).mems.getD 0 default).port = wbits (ws.getD 2 0) 9 8 ∧
        ((t.grps.look g).mems.getD 0 default).fn = wbits (ws.getD 2 0) 7 0 ∧ ((t.grps.look g).mems.getD 0 default).joined = false ∧
        (t.runs.look ctx).rg 15 = g15 stOk 0x87 0))) (puts { withRun { runOf [(insW 0x87 0 0 5 6 3 0)] with wq := 0, g := [], params := .msg [packW [(0, 6), (16, 5), (38, 1), (40, 2)], 0, packW [(0, 0x102), (16, 0x001)], 0] } with doms := [(5, { (default : Dom) with st := .keyed, cur := some 1 })] } [(F.DEV_AUTH_STRAP, 1)]) (3) (Ins.of (insW 0x87 0 0 5 6 3 0) 0) ([packW [(0, 6), (16, 5), (38, 1), (40, 2)], 0, packW [(0, 0x102), (16, 0x001)], 0]) (6)) = true := by decide +kernel

theorem wit_PrivilegedTenancy_17 :
    ((fun (s : State) (ctx : Nat) (i : Ins) (g : Nat) => decide (s.due ctx i) && decide (s.unladen ctx) && decide (i.ext = false) && decide (s.unbound = []) && decide (s.chans = []) && decide (i.opcode = 0x87) && decide (i.opf = 1) && decide (g = wbits ((s.runs.look ctx).rg i.ra) 11 0) && decide ((s.grps.look g).st ≠ 0) && decide ((s.grps.look g).destroyOp = none) && decide ((s.grps.look g).mems = []) && decide ((s.grps.look g).edges = []) && decide (s.fports = []) && decide (s.rin = []) && (completesB s (.groupsetDestroy ctx) fun t => decide ( (t.grps.look g).st = 0 ∧ (t.runs.look ctx).rg 15 = g15 stOk 0x87 0 ∧ (t.runs.look ctx).steps = (s.runs.look ctx).steps + 1))) (puts { withRun { runOf [(insW 0x87 1 4 5 6 3 0)] with wq := 0, g := [(4, 6)] } with grps := [(6, { (default : Cgrp) with st := 2 })] } [(F.DEV_AUTH_STRAP, 1)]) (3) (Ins.of (insW 0x87 1 4 5 6 3 0) 0) (6)) = true := by decide +kernel

theorem wit_CompletionSignals_1 :
    ((fun (s : State) (ctx : Nat) (i : Ins) => decide (s.due ctx i) && decide (s.unladen ctx) && decide (i.opcode = 0x88) && decide (i.ext = true) && decide (i.sigl = true) && decide (i.tag = 0) && decide ((s.ctrs.look i.lctr).dom = some (s.runs.look ctx).dom) && decide (s.unwaited i.lctr) && (givesB s (.epset ctx) { s.wentOp ctx i stOk none 0 with
        eps := s.eps.put (wbits ((s.runs.look ctx).rg i.ra) 19 0)
          (wbits ((s.runs.look ctx).rg i.rb) 17 0 + wbits ((s.runs.look ctx).rg i.rb) 31 31 * 2 ^ 31)
        ctrs := s.ctrs.upd i.lctr fun v => { v with val := v.val + 1 } })) (puts { withRun { runOf [(packW [(56, 0x88), (55, 1), (53, 1), (44, 4), (40, 5)]), packW [(48, 8)]] with wq := 0, g := [(4, 77), (5, 0x80030005)] } with ctrs := [(8, ⟨4, some 5⟩)] } [(F.DEV_AUTH_STRAP, 1)]) (3) (Ins.of (packW [(56, 0x88), (55, 1), (53, 1), (44, 4), (40, 5)]) (packW [(48, 8)]))) = true := by decide +kernel

theorem wit_CompletionSignals_2 :
    ((fun (s : State) (ctx : Nat) (i : Ins) => decide (s.due ctx i) && decide (s.unladen ctx) && decide (i.opcode = 0x88) && decide (i.ext = true) && decide (i.sigl = true) && decide (i.tag = 0) && decide ((s.ctrs.look i.lctr).dom ≠ some (s.runs.look ctx).dom) && (givesB s (.epset ctx) (s.wentOp ctx i stRights none 0))) (puts { withRun { runOf [(packW [(56, 0x88), (55, 1), (53, 1), (44, 4), (40, 5)]), packW [(48, 8)]] with wq := 0, g := [(4, 77), (5, 0x80030005)] } with ctrs := [(8, ⟨4, some 6⟩)] } [(F.DEV_AUTH_STRAP, 1)]) (3) (Ins.of (packW [(56, 0x88), (55, 1), (53, 1), (44, 4), (40, 5)]) (packW [(48, 8)]))) = true := by decide +kernel

theorem wit_CompletionSignals_3 :
    ((fun (s : State) (ctx : Nat) (i : Ins) (e : Nat) (ev : Ev) => decide (s.due ctx i) && decide (s.unladen ctx) && decide (i.opcode = 0x88) && decide (i.ext = true) && decide (s.eventsTo (s.runs.look ctx).wq e) && decide (i.sigl = false) && decide (i.tag ≠ 0) && decide (ev = ⟨packW [(0, 2), (8, stOk), (16, 0x88), (32, (s.runs.look ctx).wq % 65536), (48, (s.runs.look ctx).pc % 4096)],
        packW [(0, 0), (32, (s.runs.look ctx).idx % 2 ^ 32)], BitVec.ofNat 64 i.tag, s.timeWord, .op (ctx * 64)⟩) && (completesB s (.epset ctx) fun t => decide (
        (t.eqs.look e).held = (s.eqs.look e).held ++ [ev] ∧ (t.runs.look ctx).steps = (s.runs.look ctx).steps + 1))) (puts { withRun { runOf [(packW [(56, 0x88), (55, 1), (53, 0), (44, 4), (40, 5)]), packW [(0, 0xBEEF)]] with wq := 0, g := [(4, 77), (5, 0x80030005)] } with wqs := [(0, { (default : Wq) with st := .running, eqEn := true, eq := 2 })], eqs := [(2, { (default : Evq) with st := .active, log2 := 4, writing := true, held := [default] })] } [(F.DEV_AUTH_STRAP, 1)]) (3) (Ins.of (packW [(56, 0x88), (55, 1), (53, 0), (44, 4), (40, 5)]) (packW [(0, 0xBEEF)])) (2) (⟨packW [(0, 2), (16, 0x88), (32, 0)], packW [(32, 0)], 0xBEEF, State.timeWord base, .op 192⟩)) = true := by decide +kernel

/-! ### Statements on Runs outside their instructions (spec/04): for each clause a state that meets its hypotheses -/

theorem wit_ReadsOfRuns_1 :
    ((fun (s : State) (c k : Nat) => decide (s.calm) && decide (c < 16) && decide (s.readyFor c = [k]) && decide (s.residents c < 128) && (completesB s (.runRestore c) fun t => decide (
        (t.runs.look k).st = .running ∧ (t.runs.look k).cluster = c ∧ (t.runs.look k).resid = 0 ∧ (t.runs.look k).preempt = false ∧
        (t.runs.look k).pc = (s.runs.look k).pc ∧ (t.runs.look k).g = (s.runs.look k).g ∧ (t.runs.look k).steps = (s.runs.look k).steps))) ({ base with runs := [(3, { runOf [] with st := .ready, wq := 9 })] }) (2) (3)) = true := by decide +kernel

theorem wit_ReadsOfRuns_2 :
    ((fun (s : State) (id ctx va : Nat) (ws : List Word) => decide (s.calm) && decide (s.awaits id ctx (.fetch ctx)) && decide ((s.accs.look id).orig = [(va, 64)]) && decide (ws.length = 8) && decide (s.invals = []) && (givesB s (.imageFetchReturn id (.ok ws)) { s.updRun ctx fun r => { r with await := none } with
        pcache := ((s.accs.look id).pasid, va, ws) :: (s.pcache.filter fun l => !(l.1 == (s.accs.look id).pasid && l.2.1 == va)).take 8191
        accs := s.accs.del id })) ({ withRun { runOf [] with await := some 4 } with accs := [(4, { (default : Access) with client := .fetch 3, pasid := 1, orig := [(0x1000, 64)], st := .issued })] }) (4) (3) (0x1000) ([1, 2, 3, 4, 5, 6, 7, 8])) = true := by decide +kernel

theorem wit_ReadsOfRuns_3 :
    ((fun (s : State) (id ctx va rd : Nat) (v : Word) => decide (s.calm) && decide (s.awaits id ctx (.ld ctx)) && decide ((s.accs.look id).orig = [(va, 8)]) && decide ((s.runs.look ctx).st = .blocked) && decide ((s.runs.look ctx).block = .ld rd) && (givesB s (.ldReturn id (.ok [v])) { s.updRun ctx fun r => { r.setG rd v with
          await := none, pc := r.nextPc, steps := r.steps + 1, st := .ready, block := .none, waitOn := none, readySeq := s.readyCtr } with
        readyCtr := s.readyCtr + 1, accs := s.accs.del id })) ({ withRun { runOf [] with st := .blocked, block := .ld 5, nextPc := 1, await := some 4 } with accs := [(4, { (default : Access) with client := .ld 3, pasid := 1, orig := [(0x1000, 8)], st := .issued })] }) (4) (3) (0x1000) (5) (99)) = true := by decide +kernel

theorem wit_ReadsOfRuns_4 :
    ((fun (s : State) (id ctx va n : Nat) (ws : List Word) => decide (s.calm) && decide (s.awaits id ctx (.desc ctx)) && decide ((s.accs.look id).orig = [(va, 8 * n)]) && decide (ws.length = n) && (givesB s (.descriptorReadReturn id (.ok ws)) { s.updRun ctx fun r => { r with await := none, desc := some ws } with accs := s.accs.del id })) ({ withRun { runOf [] with await := some 4 } with accs := [(4, { (default : Access) with client := .desc 3, pasid := 1, orig := [(0x1000, 16)], st := .issued })] }) (4) (3) (0x1000) (2) ([1, 2])) = true := by decide +kernel

theorem wit_ReadsOfRuns_5 :
    ((fun (s : State) (id ctx va n : Nat) (ws : List Word) => decide (s.calm) && decide (s.awaits id ctx (.frag ctx va)) && decide ((s.accs.look id).orig = [(va, 8 * n)]) && decide (ws.length = n) && (givesB s (.fragmentTableReadReturn id (.ok ws)) { s.updRun ctx fun r => { r with await := none, frags := r.frags ++ [(va, ws)] } with accs := s.accs.del id })) ({ withRun { runOf [] with await := some 4 } with accs := [(4, { (default : Access) with client := .frag 3 0x1000, pasid := 1, orig := [(0x1000, 16)], st := .issued })] }) (4) (3) (0x1000) (2) ([1, 2])) = true := by decide +kernel

theorem wit_OperationEnds_1 :
    ((fun (s : State) (ctx n st bytes : Nat) => decide (s.calm) && decide (s.unbound = []) && decide (s.chans = []) && decide (ctx ≤ 8192) && decide (n < 64) && decide (s.opsOf ctx = [ctx * 64 + n]) && decide ((s.ops.look (ctx * 64 + n)).live = true) && decide ((s.ops.look (ctx * 64 + n)).fin = some (st, bytes, none)) && decide ((s.ops.look (ctx * 64 + n)).reporting = false) && decide ((s.ops.look (ctx * 64 + n)).noCtr = false) && decide ((s.ops.look (ctx * 64 + n)).tag = 0) && decide ((s.ops.look (ctx * 64 + n)).sigl = false) && decide ((s.ops.look (ctx * 64 + n)).rd = none) && decide ((s.ops.look (ctx * 64 + n)).opcode = 0x20) && decide ((s.runs.look ctx).st = .blocked) && decide ((s.runs.look ctx).block = .op n) && (givesB s (.opLocalCompletion ctx n) { (s.updRun ctx fun r => { r.setG 15 (g15 st 0x20 bytes) with
          pc := r.nextPc, st := .ready, block := .none, waitOn := none, readySeq := s.readyCtr }).ledger (s.runs.look ctx).dom ldOps 1 with
        ops := s.ops.del (ctx * 64 + n), readyCtr := s.readyCtr + 1 })) ({ withRun { runOf [] with st := .blocked, block := .op 2, nextPc := 1 } with ops := [(194, { (default : Op) with live := true, opcode := 0x20, fin := some (3, 77, none) })] }) (3) (2) (3) (77)) = true := by decide +kernel

theorem wit_OperationEnds_2 :
    ((fun (s : State) (ctx n : Nat) => decide (s.calm) && decide (s.unbound = []) && decide (s.chans = []) && decide (ctx ≤ 8192) && decide (n < 64) && decide (s.opsOf ctx = [ctx * 64 + n]) && decide ((s.ops.look (ctx * 64 + n)).live = true) && decide ((s.ops.look (ctx * 64 + n)).fin = none) && decide ((s.ops.look (ctx * 64 + n)).opcode = 0x40) && decide ((s.ops.look (ctx * 64 + n)).due = 1) && decide ((s.ops.look (ctx * 64 + n)).tag = 0) && decide ((s.ops.look (ctx * 64 + n)).sigl = false) && decide ((s.ops.look (ctx * 64 + n)).noCtr = false) && decide ((s.ops.look (ctx * 64 + n)).reporting = false) && decide ((s.ops.look (ctx * 64 + n)).rd = none) && decide ((s.runs.look ctx).st = .waiting) && decide ((s.runs.look ctx).block = .op n) && decide ((s.ctrs.look (s.ops.look (ctx * 64 + n)).arg).dom = some (s.runs.look ctx).dom) && decide ((s.ctrs.look (s.ops.look (ctx * 64 + n)).arg).val.toNat < (s.ops.look (ctx * 64 + n)).x.operand.toNat) && (completesB s (.waitTimeout ctx) fun t => decide (
        (t.runs.look ctx).st = .ready ∧ (t.runs.look ctx).rg 15 = g15 stTimeout 0x40 0 ∧ (t.runs.look ctx).pc = (s.runs.look ctx).nextPc ∧ (t.runs.look ctx).waitOn = none ∧
        t.opsOf ctx = []))) ({ withRun { runOf [] with st := .waiting, block := .op 2, nextPc := 1, waitOn := some (5, 9, 2) } with ops := [(194, { (default : Op) with live := true, opcode := 0x40, due := 1, arg := 5, x := { (default : Xfer) with operand := 9 } })], ctrs := [(5, ⟨4, some 5⟩)] }) (3) (2)) = true := by decide +kernel

theorem wit_OperationEnds_3 :
    ((fun (s : State) (ctx n d : Nat) (w : Owner) => decide (s.calm) && decide (s.unbound = []) && decide (s.chans = []) && decide (ctx ≤ 8192) && decide (n < 64) && decide (s.opsOf ctx = [ctx * 64 + n]) && decide ((s.ops.look (ctx * 64 + n)).live = true) && decide ((s.ops.look (ctx * 64 + n)).fin = none) && decide ((s.ops.look (ctx * 64 + n)).opcode = 0x60) && decide ((s.ops.look (ctx * 64 + n)).due = 1) && decide ((s.ops.look (ctx * 64 + n)).tag = 0) && decide ((s.ops.look (ctx * 64 + n)).sigl = false) && decide ((s.ops.look (ctx * 64 + n)).noCtr = false) && decide ((s.ops.look (ctx * 64 + n)).reporting = false) && decide ((s.ops.look (ctx * 64 + n)).rd = some d) && decide (d ≠ 0) && decide (d ≠ 15) && decide ((s.runs.look ctx).st = .blocked) && decide ((s.runs.look ctx).block = .op n) && decide ((s.locks.look (s.ops.look (ctx * 64 + n)).arg).owner = some w) && (completesB s (.lockTimeout ctx) fun t => decide (
        (t.runs.look ctx).st = .ready ∧ (t.runs.look ctx).rg 15 = g15 stTimeout 0x60 0 ∧ (t.runs.look ctx).rg d = BitVec.ofNat 64 w.master ∧
        (t.runs.look ctx).pc = (s.runs.look ctx).nextPc ∧ t.opsOf ctx = []))) ({ withRun { runOf [] with st := .blocked, block := .op 2, nextPc := 1 } with ops := [(194, { (default : Op) with live := true, opcode := 0x60, due := 1, arg := 5, rd := some 6 })], locks := [(5, { (default : HLock) with owner := some ⟨0xF000, 0⟩ })] }) (3) (2) (6) (⟨0xF000, 0⟩)) = true := by decide +kernel

theorem wit_OperationEnds_4 :
    ((fun (s : State) (ctx : Nat) => decide (s.calm) && decide (s.unbound = []) && decide (s.chans = []) && decide (ctx < 8192) && decide ((s.runs.look ctx).st = .ending) && decide ((s.runs.look ctx).reported = false) && decide (s.opsOf ctx = []) && decide ((s.runs.look ctx).wq ≠ 4) && decide ((s.wqs.look (s.runs.look ctx).wq).st = .running) && decide ((s.runs.look ctx).evmode = 0) && decide ((s.runs.look ctx).ctrEn = false) && (givesB s (.runFree ctx) { s with runs := s.runs.del ctx, gens := s.gens.put ctx ((s.gens.look ctx + 1) % 65536) })) ({ withRun { runOf [] with st := .ending } with wqs := [(9, { (default : Wq) with st := .running })], gens := [(3, 65535)] }) (3)) = true := by decide +kernel

theorem wit_OperationEnds_5 :
    ((fun (s : State) (ctx e : Nat) (ev : Ev) => decide (s.calm) && decide (s.unbound = []) && decide (s.chans = []) && decide (ctx < 8192) && decide ((s.runs.look ctx).st = .ending) && decide ((s.runs.look ctx).reported = false) && decide (s.opsOf ctx = []) && decide ((s.wqs.look (s.runs.look ctx).wq).st = .running) && decide (s.eventsTo (s.runs.look ctx).wq e) && decide ((s.runs.look ctx).evmode = 2) && decide (ev = ⟨packW [(0, 1), (8, (s.runs.look ctx).endSt % 256), (16, 0), (32, (s.runs.look ctx).wq % 65536), (48, (s.runs.look ctx).pc % 4096)],
        packW [(0, 0), (32, (s.runs.look ctx).idx % 2 ^ 32)], BitVec.ofNat 64 (s.runs.look ctx).etag, s.timeWord, .entry ctx⟩) && (completesB s (.runFree ctx) fun t => decide ( (t.eqs.look e).held = (s.eqs.look e).held ++ [ev] ∧ (t.runs.look ctx).reported = true))) ({ withRun { runOf [] with st := .ending, evmode := 2, endSt := 1, pc := 4, idx := 6, etag := 0x55 } with wqs := [(9, { (default : Wq) with st := .running, eqEn := true, eq := 2 })], eqs := [(2, { (default : Evq) with st := .active, log2 := 4, writing := true, held := [default] })] }) (3) (2) (⟨packW [(0, 1), (8, 1), (32, 9), (48, 4)], packW [(32, 6)], 0x55, State.timeWord base, .entry 3⟩)) = true := by decide +kernel

theorem wit_ParkingAndErrors_1 :
    ((fun (s : State) (ctx : Nat) (f : RunFault) => decide (s.calm) && decide (ctx < 8192) && decide ((s.runs.look ctx).st = .running) && decide ((s.runs.look ctx).faults = [f]) && decide (f.eng = 0) && decide ((s.eqs.look (s.pas.look ((s.runs.look ctx).pasid.getD 0)).faultEq).st = .free) && (givesB s (.runPark ctx) (s.updRun ctx fun r => { r with
        prev := .running, prevBlock := .none, st := .parked, block := .none, preempt := false, faults := [], parks := min (r.parks + 1) 255, faultPc := f.pc, faultVa := f.va }))) (withRun { runOf [] with faults := [⟨0, 1, 2, 0, 0x5000, 7⟩], parks := 255 }) (3) (⟨0, 1, 2, 0, 0x5000, 7⟩)) = true := by decide +kernel

theorem wit_ParkingAndErrors_2 :
    ((fun (s : State) (o : Origin) (ctx : Nat) => decide (s.calm) && decide (ctx < 8192) && decide (s.mayWrite o 0x200300) && decide (okOrigin o = true) && decide ((s.runs.look ctx).st = .parked) && decide ((s.runs.look ctx).parkedOps = []) && decide ((s.runs.look ctx).deferred = []) && decide ((s.runs.look ctx).doneParked = false) && decide ((s.runs.look ctx).prev = .running) && (completesB s (.runResume o (BitVec.ofNat 32 (s.handle ctx))) fun t => decide (
        t.runs.look ctx = { s.runs.look ctx with st := .ready, block := .none, readySeq := s.readyCtr } ∧ t.get F.SEQ_RUN_CMD_RESULT_RESULT = 0 ∧
        t.get F.SEQ_RUN_CMD_RESULT_CMD = 0 ∧ t.get F.SEQ_RUN_CMD_RESULT_HANDLE = s.handle ctx))) (withRun { runOf [] with st := .parked, prev := .running }) (.sideband) (3)) = true := by decide +kernel

theorem wit_ParkingAndErrors_3 :
    ((fun (s : State) (o : Origin) (ctx : Nat) => decide (s.calm) && decide (ctx < 8192) && decide (s.mayWrite o 0x200308) && decide (okOrigin o = true) && decide ((s.runs.look ctx).st = .parked) && decide ((s.runs.look ctx).parkedOps = []) && decide ((s.runs.look ctx).prev = .running) && decide (s.unladen ctx) && decide (s.locks = []) && (completesB s (.runAbort o (BitVec.ofNat 32 (s.handle ctx))) fun t => decide (
        (t.runs.look ctx).st = .ending ∧ (t.runs.look ctx).endSt = stAborted ∧ (t.runs.look ctx).outside = true ∧ t.get F.SEQ_RUN_CMD_RESULT_RESULT = 0 ∧
        t.get F.SEQ_RUN_CMD_RESULT_CMD = 1))) (withRun { runOf [] with st := .parked, prev := .running }) (.sideband) (3)) = true := by decide +kernel

theorem wit_ParkingAndErrors_4 :
    ((fun (s : State) (o : Origin) => decide (s.calm) && decide (s.mayWrite o 0x200210) && decide (okOrigin o = true) && decide (s.accs = []) && (completesB s (.pcacheInvalidate o (bitW 61)) fun t => decide ( t.pcache = [] ∧ t.runs = s.runs ∧ t.accs = []))) ({ base with pcache := [(1, 0x40, [])] }) (.sideband)) = true := by decide +kernel

theorem wit_ParkingAndErrors_5 :
    ((fun (s : State) (o : Origin) (p : Nat) => decide (s.calm) && decide (p < 2 ^ 20) && decide (s.mayWrite o 0x200210) && decide (okOrigin o = true) && decide (s.accs = []) && (completesB s (.pcacheInvalidate o (BitVec.ofNat 64 p)) fun t => decide ( t.pcache = s.pcache.filter (fun l => l.1 != p) ∧ t.runs = s.runs))) ({ base with pcache := [(1, 0x40, []), (2, 0x40, [])] }) (.sideband) (2)) = true := by decide +kernel

theorem wit_ParkingAndErrors_6 :
    ((fun (s : State) => decide (s.calm) && decide (s.mayWrite .sideband 0x2010C0) && decide (s.get F.SEQ_SB_CTRL_STATE = 0) && decide (s.halted = false) && decide (s.sealed = false) && decide (s.mode ≠ 0) && (completesB s (.sidebandRunStart .sideband) fun t => decide (
        (t.runs.look sbCtx).st = .running ∧ (t.runs.look sbCtx).pc = 0 ∧ (t.runs.look sbCtx).steps = 0 ∧ (t.runs.look sbCtx).prog = .sideband ∧
        (∀ n : Nat, n < 14 → (t.runs.look sbCtx).rg (n + 1) = s.reg (0x201040 + 8 * n)) ∧ (t.runs.look sbCtx).rg 15 = 0 ∧ t.get F.SEQ_SB_CTRL_STATE = 1))) (puts base [(F.SEQ_SB_G_VALUE 0, 5), (F.SEQ_SB_G_VALUE 13, 9)])) = true := by decide +kernel

theorem wit_ParkingAndErrors_7 :
    ((fun (s : State) (ctx : Nat) => decide (s.calm) && decide (ctx < 8192) && decide ((s.runs.look ctx).st = .running) && decide (s.unladen ctx) && decide (s.locks = []) && (completesB s (.seqCtxEcc ctx) fun t => decide (
        (t.runs.look ctx).st = .ending ∧ (t.runs.look ctx).endSt = stAborted ∧ t.flag (fltPend 0x048) = true ∧ t.mode = s.mode))) (withRun (runOf [])) (3)) = true := by decide +kernel

theorem wit_ParkingAndErrors_8 :
    ((fun (s : State) (c : Nat) => decide (s.calm) && decide (c < 16) && decide (s.mode = 2) && decide (s.sealed = false) && decide (s.halted = false) && decide (s.ops = []) && decide (s.locks = []) && (completesB s (.seqClusterEcc c) fun t => decide (
        c ∈ t.fenced ∧ t.flag (fltPend 0x049) = true ∧ t.mode = 4 ∧ t.get F.DEV_MODE_RETURN = 2 ∧
        (∀ k ∈ s.runs.keysOf (fun r => r.st == .running && r.cluster == c && r.wq != 65536), (s.runs.look k).st = .running → (t.runs.look k).st = .ending)))) (withRun { runOf [] with cluster := 4 }) (4)) = true := by decide +kernel

/-- Queue 9 of function 2 of port 1, RUNNING in address space 1 of domain 5, its control block and ring on the mapped page. -/
def queue : Wq :=
  { (default : Wq) with st := .running, qcb := 0x10000, pasid := 1, port := 1, fn := 2, base := 0x10100, log2 := 6, weight := 2, burst := 3, conc := 4, c := 5, prod := 5, sched := true }

/-- A state with the queue and its port in order. -/
def queued (w : Wq) : State := { mapped base with wqs := [(9, w)] }

/-- A control block: PRODUCER 8, CONSUMER 5, ring at 0x11000, LOG2 6, WEIGHT 2, BURST 3, CONC 4, POLL 1, EQ 7. -/
def qcbWords (eqEn : Nat) : List Word := [8, 5, 0x11000, packW [(0, 6), (8, 2), (16, 3), (24, 4), (32, 1), (48, 7), (62, eqEn)]]

/-- The arguments of a register command set: address 0x2000, address space 1, port 1, function 2. -/
def argued (s : State) : State :=
  puts s [(F.QUE_CMD_ARG0_ADDR 2, 0x2000), (F.QUE_CMD_ARG1_PASID 2, 1), (F.QUE_CMD_ARG1_PORT 2, 1), (F.QUE_CMD_ARG1_FUNCTION 2, 2), (F.DEV_HOSTPORT_NUMVF 1, 5),
    (F.QUE_CMD_ARG1_LOG2_SIZE 2, 20), (F.QUE_CMD_ARG1_VECTOR 2, 63), (F.QUE_CMD_ARG1_MOD_COUNT 2, 3)]

/-! ### Statements on Queues, events and counters (spec/06): for each clause a state that meets its hypotheses -/

theorem wit_QueueCommands_1 :
    ((fun (s : State) (r index : Nat) (ws : List Word) (d : Nat) (w : Wq) => decide (s.mayCommand) && decide (s.setsIdle r) && decide (index < 65536) && decide (index ≠ 4) && decide ((s.wqs.look index).st = .free) && decide (s.get (F.QUE_CMD_ARG0_ADDR r) % 64 = 0) && decide (s.get (F.QUE_CMD_ARG1_FUNCTION r) ≤ s.get (F.DEV_HOSTPORT_NUMVF (s.get (F.QUE_CMD_ARG1_PORT r)))) && decide ((s.pas.look (s.get (F.QUE_CMD_ARG1_PASID r))).dom = some d) && decide (s.fnDom (s.get (F.QUE_CMD_ARG1_PORT r)) (s.get (F.QUE_CMD_ARG1_FUNCTION r)) = some d) && decide ((index ≤ 3 → s.get (F.QUE_CMD_ARG1_FUNCTION r) = 0 ∧ s.get (F.QUE_CMD_ARG1_PORT r) = index ∧ d = 0)) && decide (qcbFieldsOk ws = true) && decide (w = { (default : Wq) with
        st := .stopped, qcb := s.get (F.QUE_CMD_ARG0_ADDR r), pasid := s.get (F.QUE_CMD_ARG1_PASID r), port := s.get (F.QUE_CMD_ARG1_PORT r)
        fn := s.get (F.QUE_CMD_ARG1_FUNCTION r), c := (ws.getD 1 0).toNat % 2 ^ 32, prod := (ws.getD 1 0).toNat % 2 ^ 32, base := (ws.getD 2 0).toNat
        log2 := wbits (ws.getD 3 0) 4 0, own := wbit (ws.getD 3 0) 5, weight := wbits (ws.getD 3 0) 15 8, burst := wbits (ws.getD 3 0) 22 16
        conc := wbits (ws.getD 3 0) 30 24, poll := wbits (ws.getD 3 0) 38 32, lockPrio := wbits (ws.getD 3 0) 42 40, eq := wbits (ws.getD 3 0) 61 48
        eqEn := wbit (ws.getD 3 0) 62, pollLeft := wbits (ws.getD 3 0) 38 32 }) && decide ((w.eqEn = true → (s.eqs.look w.eq).st = .active ∧ (s.eqs.look w.eq).dom = d)) && (givesB s (.createWq r index (.ok ws)) { s.queDone r 0 index with wqs := s.wqs.put index w })) ({ argued (mapped base) with eqs := [(7, { (default : Evq) with st := .active, dom := 5 })] }) (2) (9) (qcbWords 1) (5) ({ (default : Wq) with st := .stopped, qcb := 0x2000, pasid := 1, port := 1, fn := 2, c := 5, prod := 5, base := 0x11000, log2 := 6, weight := 2, burst := 3, conc := 4, poll := 1, eq := 7, eqEn := true, pollLeft := 1 })) = true := by decide +kernel

theorem wit_QueueCommands_2 :
    ((fun (s : State) (r index : Nat) (ws : List Word) => decide (s.mayCommand) && decide (s.setsIdle r) && decide (index < 65536) && decide (index ≠ 4) && decide ((s.wqs.look index).st = .stopped) && decide (qcbFieldsOk ws = true) && decide (wbit (ws.getD 3 0) 62 = false) && decide (wbit (ws.getD 3 0) 5 = false) && decide (fwd 32 (s.wqs.look index).c ((ws.getD 0 0).toNat % 2 ^ 32) ≤ 2 ^ wbits (ws.getD 3 0) 4 0) && (givesB s (.startWq r index (.ok ws)) { s.queDone r 1 index with wqs := s.wqs.upd index fun w => { w with
        st := .running, found := none, prod := (ws.getD 0 0).toNat % 2 ^ 32, sched := decide (fwd 32 w.c ((ws.getD 0 0).toNat % 2 ^ 32) ≠ 0) || w.rang
        base := (ws.getD 2 0).toNat, log2 := wbits (ws.getD 3 0) 4 0, own := false, weight := wbits (ws.getD 3 0) 15 8, burst := wbits (ws.getD 3 0) 22 16
        conc := wbits (ws.getD 3 0) 30 24, poll := wbits (ws.getD 3 0) 38 32, lockPrio := wbits (ws.getD 3 0) 42 40, eq := wbits (ws.getD 3 0) 61 48
        eqEn := false, pollLeft := wbits (ws.getD 3 0) 38 32 } })) (queued { queue with st := .stopped }) (2) (9) (qcbWords 0)) = true := by decide +kernel

theorem wit_QueueCommands_3 :
    ((fun (s : State) (r index : Nat) => decide (s.mayCommand) && decide (s.setsIdle r) && decide (index < 65536) && decide (index ≠ 4) && decide ((s.wqs.look index).st = .running) && decide (s.runs = []) && (completesB s (.stopWq r index) fun t => decide (
        (t.wqs.look index).st = .stopped ∧ (t.wqs.look index).c = (s.wqs.look index).c % 2 ^ 32 ∧ (t.wqs.look index).owed = [] ∧
        t.get (F.QUE_CMD_BUSY r) = 0 ∧ t.get (F.QUE_CMD_RESULT r) = 0))) (queued queue) (2) (9)) = true := by decide +kernel

theorem wit_QueueCommands_4 :
    ((fun (s : State) (r index : Nat) (p : Nat) => decide (s.mayCommand) && decide (s.setsIdle r) && decide (index < 65536) && decide (index ≠ 4) && decide ((s.wqs.look index).st = .running) && decide (s.runs = []) && decide (s.locks = []) && decide ((s.wqs.look index).eqEn = false) && decide (p < 2 ^ 32) && decide (fwd 32 (s.wqs.look index).c p ≤ 1) && (completesB s (.resetWq r index (.ok [BitVec.ofNat 64 p])) fun t => decide (
        (t.wqs.look index).st = .stopped ∧ (t.wqs.look index).c = ((s.wqs.look index).c + fwd 32 (s.wqs.look index).c p) % 2 ^ 32 ∧ (t.wqs.look index).owed = [] ∧
        t.get (F.QUE_CMD_BUSY r) = 0 ∧ t.get (F.QUE_CMD_RESULT r) = 0))) (queued queue) (2) (9) (6)) = true := by decide +kernel

theorem wit_QueueCommands_5 :
    ((fun (s : State) (r index : Nat) (p : Nat) => decide (s.mayCommand) && decide (s.setsIdle r) && decide (index < 65536) && decide (index ≠ 4) && decide ((s.wqs.look index).st = .stopped) && decide (s.runs = []) && decide (s.locks = []) && decide ((s.wqs.look index).eqEn = false) && decide (p < 2 ^ 32) && decide (fwd 32 (s.wqs.look index).c p ≤ 1) && (completesB s (.destroyWq r index (.ok [BitVec.ofNat 64 p])) fun t => decide (
        (t.wqs.look index).st = .free ∧ t.get (F.QUE_CMD_BUSY r) = 0 ∧ t.get (F.QUE_CMD_RESULT r) = 0))) (queued { queue with st := .stopped }) (2) (9) (5)) = true := by decide +kernel

theorem wit_QueueCommands_6 :
    ((fun (s : State) (r index : Nat) (slot d : Nat) => decide (s.mayCommand) && decide (s.setsIdle r) && decide (index < 65536) && decide (index < 16384) && decide (slot < 512) && decide ((s.eqs.look index).st = .free) && decide (s.get (F.QUE_CMD_ARG0_ADDR r) % 4096 = 0) && decide (6 ≤ s.get (F.QUE_CMD_ARG1_LOG2_SIZE r)) && decide (s.get (F.QUE_CMD_ARG1_LOG2_SIZE r) ≤ 20) && decide (s.get (F.QUE_CMD_ARG1_FUNCTION r) ≤ s.get (F.DEV_HOSTPORT_NUMVF (s.get (F.QUE_CMD_ARG1_PORT r)))) && decide (s.get (F.QUE_CMD_ARG1_MOD_COUNT r) ≠ 0) && decide (s.get (F.QUE_CMD_ARG1_VECTOR r) < (if s.get (F.QUE_CMD_ARG1_FUNCTION r) = 0 then 2048 else 64)) && decide ((s.get (F.QUE_CMD_ARG1_FUNCTION r) = 0 ∨
        (s.eqs.vals.any fun q => q.st != .free && q.port == s.get (F.QUE_CMD_ARG1_PORT r) && q.fn == s.get (F.QUE_CMD_ARG1_FUNCTION r) && q.vfslot == some slot) = false)) && decide (s.fnDom (s.get (F.QUE_CMD_ARG1_PORT r)) (s.get (F.QUE_CMD_ARG1_FUNCTION r)) = some d) && (givesB s (.createEq r index slot) { (s.queDone r 5 index).put (F.QUE_CMD_VFSLOT r) slot with eqs := s.eqs.put index { (default : Evq) with
        st := .active, pasid := s.get (F.QUE_CMD_ARG1_PASID r), port := s.get (F.QUE_CMD_ARG1_PORT r), fn := s.get (F.QUE_CMD_ARG1_FUNCTION r), dom := d
        base := s.get (F.QUE_CMD_ARG0_ADDR r), log2 := s.get (F.QUE_CMD_ARG1_LOG2_SIZE r), vector := s.get (F.QUE_CMD_ARG1_VECTOR r)
        modCount := s.get (F.QUE_CMD_ARG1_MOD_COUNT r), modStages := s.get (F.QUE_CMD_ARG1_MOD_STAGES r)
        vfslot := if s.get (F.QUE_CMD_ARG1_FUNCTION r) = 0 then none else some slot } })) (argued (mapped base)) (2) (9) (511) (5)) = true := by decide +kernel

theorem wit_QueueCommands_7 :
    ((fun (s : State) (r index : Nat) => decide (s.mayCommand) && decide (s.setsIdle r) && decide (index < 65536) && decide (index < 16384) && decide ((s.eqs.look index).st ≠ .free) && decide ((s.eqs.look index).held = []) && decide ((s.wqs.vals.any fun w => w.st != .free && w.eqEn && w.eq == index) = false) && decide ((s.pas.vals.any fun p => p.st != .free && p.faultEq == index) = false) && (givesB s (.destroyEq r index) { s.queDone r 6 index with eqs := s.eqs.del index })) ({ base with eqs := [(9, { (default : Evq) with st := .active })] }) (2) (9)) = true := by decide +kernel

theorem wit_EventQueuesAndCounters_1 :
    ((fun (s : State) (o : Origin) (e : Nat) (v : Word) => decide (s.calm) && decide (e < 16384) && decide (s.mayWrite o (0x120000 + 8 * e)) && decide (okOrigin o = true) && decide ((s.eqs.look e).st = .active) && decide ((s.eqs.look e).held = []) && decide (wbit v 63 = false) && decide (fwd 32 (s.eqs.look e).cons (wbits v 31 0) ≤ fwd 32 (s.eqs.look e).cons (s.eqs.look e).prod) && (givesB s (.eqConsumerWrite o e v) { s with eqs := s.eqs.upd e fun q => { q with cons := wbits v 31 0 } })) ({ base with eqs := [(9, { (default : Evq) with st := .active, log2 := 6, prod := 3, cons := 0xFFFFFFFF })] }) (.sideband) (9) (3)) = true := by decide +kernel

theorem wit_EventQueuesAndCounters_2 :
    ((fun (s : State) (o : Origin) (e : Nat) (v : Word) => decide (s.calm) && decide (e < 16384) && decide (s.mayWrite o (0x120000 + 8 * e)) && decide (okOrigin o = true) && decide ((s.eqs.look e).st = .active) && decide (wbit v 63 = false) && decide (fwd 32 (s.eqs.look e).cons (s.eqs.look e).prod < fwd 32 (s.eqs.look e).cons (wbits v 31 0)) && (givesFaultB s (.eqConsumerWrite o e v) s 0x045)) ({ base with eqs := [(9, { (default : Evq) with st := .active, log2 := 6, prod := 3, cons := 0xFFFFFFFF })] }) (.sideband) (9) (4)) = true := by decide +kernel

theorem wit_EventQueuesAndCounters_3 :
    ((fun (s : State) (o : Origin) (e : Nat) => decide (s.calm) && decide (e < 16384) && decide (s.mayWrite o (0x120000 + 8 * e)) && decide (s.regOpen o (0x120004 + 8 * e) true = true) && decide (okOrigin o = true) && decide ((s.eqs.look e).st = .active) && decide ((s.eqs.look e).prod = (s.eqs.look e).cons) && (givesB s (.eqArm o e) { s with eqs := s.eqs.upd e fun q => { q with arm := true, since := 0, sinceStages := 0 } })) ({ base with eqs := [(9, { (default : Evq) with st := .active, log2 := 6, prod := 3, cons := 3 })] }) (.sideband) (9)) = true := by decide +kernel

theorem wit_EventQueuesAndCounters_4 :
    ((fun (s : State) (o : Origin) (e : Nat) => decide (s.calm) && decide (e < 16384) && decide (s.mayWrite o (0x120000 + 8 * e)) && decide (s.regOpen o (0x120004 + 8 * e) true = true) && decide (okOrigin o = true) && decide ((s.eqs.look e).st = .active) && decide ((s.eqs.look e).prod ≠ (s.eqs.look e).cons) && decide (s.vectorOpen (s.eqs.look e).port (s.eqs.look e).fn (s.eqs.look e).vector) && (givesB s (.eqArm o e) { s.out (.msix (s.eqs.look e).port (s.eqs.look e).fn (s.eqs.look e).vector) with
        eqs := s.eqs.upd e fun q => { q with arm := false, since := 0, sinceStages := 0 } })) ({ mapped base with eqs := [(9, { (default : Evq) with st := .active, log2 := 6, prod := 4, cons := 3, port := 1, fn := 2, vector := 6 })], fns := [(131, { (default : HostFn) with bme := true, msixEn := true, unmasked := [6] })] }) (.sideband) (9)) = true := by decide +kernel

theorem wit_EventQueuesAndCounters_5 :
    ((fun (s : State) (e : Nat) => decide (s.calm) && decide (e < 16384) && decide ((s.eqs.look e).arm = true) && decide (1 ≤ (s.eqs.look e).since) && decide (1 ≤ (s.eqs.look e).modStages) && decide ((s.eqs.look e).modStages ≤ (s.eqs.look e).sinceStages) && decide (s.vectorOpen (s.eqs.look e).port (s.eqs.look e).fn (s.eqs.look e).vector) && (givesB s (.eqModerationTimeout e) { s.out (.msix (s.eqs.look e).port (s.eqs.look e).fn (s.eqs.look e).vector) with eqs := s.eqs.upd e fun q => { q with arm := false } })) ({ mapped base with eqs := [(9, { (default : Evq) with st := .active, log2 := 6, prod := 4, cons := 3, port := 1, fn := 2, vector := 6, arm := true, since := 1, modStages := 2, sinceStages := 2 })], fns := [(131, { (default : HostFn) with bme := true, msixEn := true, unmasked := [6] })] }) (9)) = true := by decide +kernel

theorem wit_EventQueuesAndCounters_6 :
    ((fun (s : State) (o : Origin) (r : Nat) (v : Word) => decide (s.calm) && decide (r < 5) && decide (s.mayWrite o (0x100020 + 64 * r)) && decide (okOrigin o = true) && decide ((s.ctrs.look (s.get (F.QUE_CTR_SEL_COUNTER r))).dom.getD 0 = 0) && decide (s.unwaited (s.get (F.QUE_CTR_SEL_COUNTER r))) && (givesB s (.counterWrite o r v) { s with ctrs := s.ctrs.upd (s.get (F.QUE_CTR_SEL_COUNTER r)) fun c => { c with val := v } })) (puts base [(F.QUE_CTR_SEL_COUNTER 2, 8)]) (.sideband) (2) (0xFFFFFFFFFFFFFFFF)) = true := by decide +kernel

theorem wit_EventQueuesAndCounters_7 :
    ((fun (s : State) (o : Origin) (r : Nat) (v : Word) => decide (s.calm) && decide (r < 5) && decide (s.mayWrite o (0x100020 + 64 * r)) && decide (okOrigin o = true) && decide ((s.ctrs.look (s.get (F.QUE_CTR_SEL_COUNTER r))).dom.getD 0 ≠ 0) && (givesFaultB s (.counterWrite o r v) s 0x046)) (puts { base with ctrs := [(8, ⟨1, some 5⟩)] } [(F.QUE_CTR_SEL_COUNTER 2, 8)]) (.sideband) (2) (9)) = true := by decide +kernel

theorem wit_EventQueuesAndCounters_8 :
    ((fun (s : State) (p q : Nat) => decide (s.calm) && decide (p < 4) && decide (q < 65536) && decide (q ≠ 4) && decide (s.halted = false) && decide (s.sealed = false) && decide ((s.wqs.look q).st = .running) && decide ((s.wqs.look q).port = p) && decide ((s.wqs.look q).own = false) && (givesB s (.doorbell ⟨p, 0, q / 16, BitVec.ofNat 32 q, true⟩) { s with wqs := s.wqs.upd q fun w => { w with sched := true, rang := true } })) (queued { queue with sched := false }) (1) (9)) = true := by decide +kernel

theorem wit_EventQueuesAndCounters_9 :
    ((fun (s : State) (p q page : Nat) => decide (s.calm) && decide (p < 4) && decide (q < 65536) && decide (page < 65536) && decide (page ≠ q / 16) && decide (s.halted = false) && decide (s.sealed = false) && (givesFaultB s (.doorbell ⟨p, 0, page, BitVec.ofNat 32 q, true⟩) s 0x040)) (queued queue) (1) (9) (1)) = true := by decide +kernel

theorem wit_QueueService_1 :
    ((fun (s : State) (q pa : Nat) => decide (s.calm) && decide (q < 65536) && decide ((s.wqs.look q).own = false) && decide ((s.wqs.look q).c = (s.wqs.look q).prod) && decide (s.eligible q = true) && decide (((s.wqs.look q).boost = true ∨ (s.wqs.keys.any fun j => (s.wqs.look j).boost && s.eligible j) = false)) && decide ((s.wqs.look q).used < max (s.wqs.look q).weight 1) && decide (s.maps (s.wqs.look q).pasid ((s.pas.look (s.wqs.look q).pasid).dom.getD 0) .read (s.wqs.look q).qcb 4 pa) && (completesB s (.wqTurn q) fun t => decide (
        (.hostRead s.nextId (s.pas.look (s.wqs.look q).pasid).port (s.pas.look (s.wqs.look q).pasid).fn [(pa, 4)]) ∈ s.newOuts t ∧
        t.wqs = s.wqs.upd q fun w => { w with used := w.used + 1, turn := w.burst, took := false, rang := false, reading := true }))) (queued queue) (9) (0x63000)) = true := by decide +kernel

theorem wit_QueueService_2 :
    ((fun (s : State) (q pa : Nat) (id va p : Nat) => decide (s.calm) && decide (q < 65536) && decide ((s.accs.look id).st = .issued) && decide ((s.accs.look id).client = .prod q) && decide ((s.accs.look id).orig = [(va, 4)]) && decide ((s.wqs.look q).st = .running) && decide ((s.wqs.look q).own = false) && decide (p < 2 ^ 32) && decide (p = (s.wqs.look q).c) && decide ((s.wqs.look q).took = false) && (givesB s (.producerReadReturn id (.ok [BitVec.ofNat 64 p])) { s with
        wqs := s.wqs.upd q fun w => { w with reading := false, prod := p, sched := w.rang, turn := 0, took := false }, accs := s.accs.del id })) ({ queued { queue with reading := true, turn := 3 } with accs := [(4, { (default : Access) with client := .prod 9, st := .issued, orig := [(0x10000, 4)] })] }) (9) (0) (4) (0x10000) (5)) = true := by decide +kernel

theorem wit_QueueService_3 :
    ((fun (s : State) (q pa : Nat) (id va p : Nat) => decide (s.calm) && decide (q < 65536) && decide ((s.accs.look id).st = .issued) && decide ((s.accs.look id).client = .prod q) && decide ((s.accs.look id).orig = [(va, 4)]) && decide ((s.wqs.look q).st = .running) && decide ((s.wqs.look q).own = false) && decide (p < 2 ^ 32) && decide ((s.wqs.look q).c < 2 ^ 32) && decide (fwd 32 (s.wqs.look q).c p ≠ 0) && decide (fwd 32 (s.wqs.look q).c p ≤ 2 ^ (s.wqs.look q).log2) && decide ((s.wqs.look q).turn ≠ 0) && decide (s.liveCount q < (s.wqs.look q).conc) && decide (s.freeContext.isSome = true) && decide (s.maps (s.wqs.look q).pasid ((s.pas.look (s.wqs.look q).pasid).dom.getD 0) .read ((s.wqs.look q).base + (s.wqs.look q).c % 2 ^ (s.wqs.look q).log2 * 64) 64 pa) && (completesB s (.producerReadReturn id (.ok [BitVec.ofNat 64 p])) fun t => decide (
        (.hostRead s.nextId (s.pas.look (s.wqs.look q).pasid).port (s.pas.look (s.wqs.look q).pasid).fn [(pa, 64)]) ∈ s.newOuts t ∧
        (t.wqs.look q).prod = p ∧ (t.wqs.look q).sched = true ∧ (t.wqs.look q).reading = true ∧ (t.wqs.look q).c = (s.wqs.look q).c))) ({ queued { queue with reading := true, turn := 3 } with accs := [(4, { (default : Access) with client := .prod 9, st := .issued, orig := [(0x10000, 4)] })], nextId := 5 }) (9) (0x63240) (4) (0x10000) (69)) = true := by decide +kernel

theorem wit_QueueService_4 :
    ((fun (s : State) (q pa : Nat) (id va ctx d : Nat) (ws : List Word) => decide (s.calm) && decide (q < 65536) && decide ((s.accs.look id).st = .issued) && decide ((s.accs.look id).client = .entry q) && decide ((s.accs.look id).orig = [(va, 64)]) && decide (ws.length = 8) && decide ((s.wqs.look q).st = .running) && decide ((s.wqs.look q).own = false) && decide (s.freeContext = some ctx) && decide ((s.pas.look (s.wqs.look q).pasid).st = .active) && decide ((s.pas.look (s.wqs.look q).pasid).dom = some d) && decide (s.entryOk d ws = true) && decide (wbits (ws.getD 0 0) 62 61 = 0) && decide (wbits (ws.getD 0 0) 54 42 = 0) && decide ((s.wqs.look q).turn = 1) && decide (s.maps (s.wqs.look q).pasid d .write ((s.wqs.look q).qcb + 8) 4 pa) && decide (s.portUp (s.pas.look (s.wqs.look q).pasid).port = true) && decide ((s.fnOf (s.pas.look (s.wqs.look q).pasid).port (s.pas.look (s.wqs.look q).pasid).fn).bme = true) && (completesB s (.entryReadReturn id (.ok ws)) fun t => decide (
        (t.runs.look ctx).wq = q ∧ (t.runs.look ctx).idx = (s.wqs.look q).c ∧ (t.runs.look ctx).g = [] ∧ (t.runs.look ctx).pc = 0 ∧ (t.runs.look ctx).steps = 0 ∧
        (t.runs.look ctx).limit = s.stepLimit q ∧ (t.runs.look ctx).dom = d ∧ (t.runs.look ctx).pasid = some (s.wqs.look q).pasid ∧ (t.runs.look ctx).params = .none ∧
        (t.runs.look ctx).prog = .inline ((ws.drop 1).take (wbits (ws.getD 0 0) 60 58)) ∧ (t.runs.look ctx).etag = wbits (ws.getD 0 0) 15 0 ∧
        ((t.runs.look ctx).st = .running ∨ (t.runs.look ctx).st = .ready) ∧ (t.wqs.look q).c = ((s.wqs.look q).c + 1) % 2 ^ 32 ∧ (t.wqs.look q).turn = 0 ∧
        (.hostWrite (s.pas.look (s.wqs.look q).pasid).port (s.pas.look (s.wqs.look q).pasid).fn [(pa, 4)] (leBytes (((s.wqs.look q).c + 1) % 2 ^ 32) 4)) ∈ s.newOuts t))) ({ queued { queue with reading := true, turn := 1, prod := 6 } with accs := [(4, { (default : Access) with client := .entry 9, st := .issued, orig := [(0x10240, 64)] })], nextId := 5 }) (9) (0x63008) (4) (0x10240) (0) (5) ([packW [(58, 2), (56, 1), (0, 77)], 1, 2, 3, 4, 5, 6, 7])) = true := by decide +kernel

theorem wit_QueueService_5 :
    ((fun (s : State) (q pa : Nat) => decide (s.calm) && decide (q < 65536) && decide ((s.wqs.look q).st = .running) && decide ((s.wqs.look q).own = true) && decide ((s.wqs.look q).reading = false) && decide ((s.wqs.look q).found = none) && decide ((s.wqs.look q).turn = 0) && decide ((s.wqs.look q).pollLeft = 0) && decide (s.mayStart q = true) && decide (s.maps (s.wqs.look q).pasid ((s.pas.look (s.wqs.look q).pasid).dom.getD 0) .read ((s.wqs.look q).base + (s.wqs.look q).c % 2 ^ (s.wqs.look q).log2 * 64) 8 pa) && (completesB s (.ownershipPoll q) fun t => decide (
        (.hostRead s.nextId (s.pas.look (s.wqs.look q).pasid).port (s.pas.look (s.wqs.look q).pasid).fn [(pa, 8)]) ∈ s.newOuts t ∧
        (t.wqs.look q).pollLeft = (s.wqs.look q).poll ∧ (t.wqs.look q).reading = true))) (puts (queued { queue with own := true, poll := 3 }) []) (9) (0x63240)) = true := by decide +kernel

/-! ### Host ports -/

/-- Port 1 with function 2 of it locked on stream 3, and a session on the port. -/
def hosted (tdi : Tdi) : State :=
  { base with
    ports := [(1, { (default : HostPort) with up := true, numVf := 5, vfEn := true })]
    fns := [(131, { (default : HostFn) with bme := true, msixEn := true, unmasked := [9], tdi := tdi, stream := some 3, dom := some 5 }), (258, { (default : HostFn) with bme := true })]
    ide := [(259, .secure true)]
    sess := [(1, { (default : Sess) with live := true, ready := true, via := 1 })] }

/-- Walk 7 of address space 4. -/
def walking : State :=
  { base with
    walks := [(7, { (default : Walk) with live := true, pasid := 4, va := 0x5000, level := 1, table := 0x9000 })]
    pas := [(4, { (default : Pas) with st := .active, port := 1, fn := 2, dom := some 5 })] }

/-! ### Statements on Host ports, functions, TDISP and IDE (spec/02, spec/15, spec/22): for each clause a state that meets its hypotheses -/

theorem wit_HostPortEvents_1 :
    ((fun (s : State) (port : Nat) (rate width : Nat) (flit : Bool) => decide (s.calm) && decide (port < 4) && decide (1 ≤ rate) && decide (rate ≤ 6) && decide (1 ≤ width) && decide (width ≤ 5) && decide ((s.ports.look port).up = false) && decide (s.mode ≠ 0) && decide (s.pdHost port ≠ 2) && decide (s.pdHost port ≠ 3) && (givesB s (.hostLinkUp port rate width flit) (({ s with ports := s.ports.upd port fun h => { h with up := true } }.setReg (0x10220 + port * 8)
        (packW [(7, b2n (flit || rate == 6)), (6, b2n (decide (rate ≤ 3 ∨ width ≤ 2))), (3, width), (0, rate)])).fwdOnly))) (base) (3) (6) (5) (false)) = true := by decide +kernel

theorem wit_HostPortEvents_2 :
    ((fun (s : State) (port : Nat) => decide (s.calm) && decide (port < 4) && decide ((s.ports.look port).up = true) && decide (s.wqs = []) && decide (s.grps = []) && decide (s.locks = []) && (givesB s (.hostLinkDown port) (({ s with
        ports := (s.ports.upd port fun h => { h with up := false }).upd port fun h => { h with numVf := 0, vfEn := false, vfMse := false }
        ide := s.ide.map fun (e : Nat × Ide) => if e.1 / 256 = port && e.2.isSecure then (e.1, Ide.insecure) else e
        fns := (s.fns.keys.filter fun k => k / 129 == port).foldl (fun t k => t.upd k HostFn.cleared) s.fns }.setReg (0x10220 + port * 8) 0).fwdOnly))) (hosted .run) (1)) = true := by decide +kernel

theorem wit_HostPortEvents_3 :
    ((fun (s : State) (port : Nat) => decide (s.calm) && decide (port < 4) && decide ((s.ports.look port).up = true) && decide (s.wqs = []) && decide (s.grps = []) && decide (s.locks = []) && (givesB s (.hostHotReset port) (({ s with
        ports := (s.ports.upd port fun h => { h with up := false }).upd port fun h => { h with numVf := 0, vfEn := false, vfMse := false }
        ide := s.ide.map fun (e : Nat × Ide) => if e.1 / 256 = port && e.2.isSecure then (e.1, Ide.insecure) else e
        fns := (s.fns.keys.filter fun k => k / 129 == port).foldl (fun t k => t.upd k HostFn.cleared) s.fns }.setReg (0x10220 + port * 8) 0).fwdOnly))) (hosted .locked) (1)) = true := by decide +kernel

theorem wit_HostPortEvents_4 :
    ((fun (s : State) (port : Nat) (fn : Nat) => decide (s.calm) && decide (port < 4) && decide (fn ≤ 128) && decide (s.wqs = []) && decide (s.grps = []) && decide (s.locks = []) && (completesB s (.functionLevelReset port fn) fun t => decide (
        t = { s with fns := t.fns, regs := t.regs, outs := t.outs } ∧ t.fnOf port fn = (s.fnOf port fn).cleared ∧
        ∀ f : Nat, f ≤ 128 → f ≠ fn → t.fnOf port f = s.fnOf port f))) (hosted .locked) (1) (2)) = true := by decide +kernel

theorem wit_HostPortEvents_5 :
    ((fun (s : State) (port : Nat) => decide (s.calm) && decide (port < 4) && decide (s.wqs = []) && decide (s.grps = []) && decide (s.locks = []) && (givesB s (.vfEnableClear port) ({ s with
        ports := s.ports.upd port fun h => { h with vfEn := false }
        fns := (s.fns.keys.filter fun k => k / 129 == port && k % 129 != 0).foldl (fun t k => t.upd k HostFn.cleared) s.fns }.put (F.DEV_HOSTPORT_NUMVF port) 0))) (hosted .locked) (1)) = true := by decide +kernel

theorem wit_HostPortEvents_6 :
    ((fun (s : State) (port : Nat) (fn vec : Nat) => decide (s.calm) && decide (port < 4) && decide (fn ≤ 128) && decide (vec < (if fn = 0 then 2048 else 64)) && decide ((s.fnOf port fn).pend = []) && (givesB s (.msixUnmask port fn vec) (s.updFn port fn fun h => { h with unmasked := if h.unmasked.contains vec then h.unmasked else vec :: h.unmasked }))) (hosted .unlocked) (1) (2) (63)) = true := by decide +kernel

theorem wit_HostPortEvents_7 :
    ((fun (s : State) (port : Nat) (fn vec : Nat) => decide (s.calm) && decide (port < 4) && decide (fn ≤ 128) && decide (vec < (if fn = 0 then 2048 else 64)) && decide ((s.fnOf port fn).pend = [vec]) && decide ((s.fnOf port fn).msixEn = true) && decide ((s.fnOf port fn).bme = true) && decide ((s.ports.look port).up = true) && decide (s.sealed = false) && (givesB s (.msixUnmask port fn vec) (((s.updFn port fn fun h => { h with unmasked := if h.unmasked.contains vec then h.unmasked else vec :: h.unmasked }).updFn port fn
        fun h => { h with pend := [] }).out (.msix port fn vec)))) ((hosted .unlocked).updFn 1 2 (fun h => { h with pend := [8] })) (1) (2) (8)) = true := by decide +kernel

theorem wit_HostPortEvents_8 :
    ((fun (s : State) (port : Nat) (fn : Nat) (on : Bool) => decide (s.calm) && decide (port < 4) && decide (fn ≤ 128) && decide ((s.fnOf port fn).pend = []) && (givesB s (.configurationWrite (.busMaster port fn on)) (s.updFn port fn fun h => { h with bme := on }))) (hosted .unlocked) (1) (2) (false)) = true := by decide +kernel

theorem wit_HostPortEvents_9 :
    ((fun (s : State) (port : Nat) (fn : Nat) (on : Bool) => decide (s.calm) && decide (port < 4) && decide (fn ≤ 128) && decide ((s.fnOf port fn).pend = []) && (givesB s (.configurationWrite (.msixEnable port fn on)) (s.updFn port fn fun h => { h with msixEn := on }))) (hosted .unlocked) (1) (128) (true)) = true := by decide +kernel

theorem wit_HostPortEvents_10 :
    ((fun (s : State) (port : Nat) (fn : Nat) (on : Bool) => decide (s.calm) && decide (port < 4) && decide (fn ≤ 128) && (givesB s (.configurationWrite (.memSpace port fn on)) (s.updFn port fn fun h => { h with mse := on }))) (hosted .unlocked) (1) (0) (true)) = true := by decide +kernel

theorem wit_HostPortEvents_11 :
    ((fun (s : State) (port : Nat) (fn vec : Nat) => decide (s.calm) && decide (port < 4) && decide (fn ≤ 128) && decide (vec < (if fn = 0 then 2048 else 64)) && (givesB s (.configurationWrite (.vecMask port fn vec)) (s.updFn port fn fun h => { h with unmasked := h.unmasked.erase vec }))) (hosted .unlocked) (1) (2) (9)) = true := by decide +kernel

theorem wit_HostPortEvents_12 :
    ((fun (s : State) (port : Nat) (n : Nat) => decide (s.calm) && decide (port < 4) && decide (n ≤ 128) && decide ((s.ports.look port).vfEn = false) && (givesB s (.configurationWrite (.numVfs port n)) { s with ports := s.ports.upd port fun h => { h with numVf := n } })) (base) (3) (128)) = true := by decide +kernel

theorem wit_HostPortEvents_13 :
    ((fun (s : State) (port : Nat) => decide (s.calm) && decide (port < 4) && (givesB s (.configurationWrite (.vfEnable port true))
        ({ s with ports := s.ports.upd port fun h => { h with vfEn := true } }.put (F.DEV_HOSTPORT_NUMVF port) (s.ports.look port).numVf))) ({ base with ports := [(2, { (default : HostPort) with numVf := 7 })] }) (2)) = true := by decide +kernel

theorem wit_HostPortEvents_14 :
    ((fun (s : State) (port : Nat) (on : Bool) => decide (s.calm) && decide (port < 4) && (givesB s (.configurationWrite (.vfMemSpace port on)) { s with ports := s.ports.upd port fun h => { h with vfMse := on } })) (base) (0) (true)) = true := by decide +kernel

theorem wit_HostPortEvents_15 :
    ((fun (s : State) (port : Nat) (bars : List (Nat × Nat)) => decide (s.calm) && decide (port < 4) && (givesB s (.configurationWrite (.barBase port bars)) { s with ports := s.ports.upd port fun h => { h with bars := bars } })) (base) (0) ([(0x1000, 4096)])) = true := by decide +kernel

theorem wit_HostPortEvents_16 :
    ((fun (s : State) (port : Nat) (id p : Nat) => decide (s.calm) && decide (port < 4) && decide (id < 2 ^ 59) && decide (s.accs = []) && decide ((s.walks.look id).live = true) && decide ((s.walks.look id).leaf = none) && decide (p = (s.walks.look id).pasid) && decide ((s.pas.look p).st = .active) && (givesFaultB s (.completionTimeout id) { s with
        pas := s.pas.upd p fun a => { a with st := .error }, tlb := s.tlb.filter fun e => !(e.2.pasid == p), walks := s.walks.del id } 0x080)) (walking) (0) (7) (4)) = true := by decide +kernel

theorem wit_HostPortEvents_17 :
    ((fun (s : State) (port : Nat) (vf stream : Nat) => decide (s.calm) && decide (port < 4) && decide (1 ≤ vf) && decide (vf ≤ 128) && decide (stream < 256) && decide (s.flag F.SEC_POLICY_TDISP_EN = true) && decide (s.sealed = false) && decide ((s.fnOf port vf).tdi = .unlocked) && decide ((s.ide.look (port * 256 + stream)).isSecure = true) && (givesB s (.lockInterfaceRequest port vf stream) (s.updFn port vf fun h => { h with tdi := .locked, stream := some stream }))) ((hosted .unlocked).put F.SEC_POLICY_TDISP_EN 1) (1) (2) (3)) = true := by decide +kernel

theorem wit_HostPortEvents_18 :
    ((fun (s : State) (port : Nat) (vf stream : Nat) => decide (s.calm) && decide (port < 4) && decide (1 ≤ vf) && decide (vf ≤ 128) && decide ((s.fnOf port vf).tdi = .locked) && decide (s.sealed = false) && decide ((s.fnOf port vf).stream = some stream) && decide ((s.ide.look (port * 256 + stream)).isSecure = true) && (givesB s (.startInterfaceRequest port vf) (s.updFn port vf fun h => { h with tdi := .run }))) (hosted .locked) (1) (2) (3)) = true := by decide +kernel

theorem wit_HostPortEvents_19 :
    ((fun (s : State) (port : Nat) (vf : Nat) => decide (s.calm) && decide (port < 4) && decide (1 ≤ vf) && decide (vf ≤ 128) && (givesB s (.stopInterfaceRequest port vf) (s.updFn port vf fun h => { h with tdi := .unlocked, stream := none }))) (hosted .run) (1) (2)) = true := by decide +kernel

theorem wit_HostPortEvents_20 :
    ((fun (s : State) (port : Nat) (stream : Nat) (set : Bool) => decide (s.calm) && decide (port < 4) && decide (stream < 256) && decide (s.sealed = false) && decide ((s.sess.vals.any fun x => x.live && x.ready && x.via == port) = true) && decide ((s.ide.filter fun e => e.1 / 256 == port && e.2 != .none).length < 8) && (givesB s (.ideKm port stream set) { s with ide := s.ide.put (port * 256 + stream) (.secure set) })) (hosted .run) (1) (255) (false)) = true := by decide +kernel

theorem wit_HostPortEvents_21 :
    ((fun (s : State) (port : Nat) (stream : Nat) => decide (s.calm) && decide (port < 4) && decide (stream < 256) && decide (s.ide.look (port * 256 + stream) ≠ .none) && (completesB s (.ideStreamInsecure port stream) fun t => decide (
        t = { s with ide := s.ide.put (port * 256 + stream) .insecure, fns := t.fns, regs := t.regs, outs := t.outs } ∧
        ∀ f : Nat, f ≤ 128 → t.fnOf port f = (if (s.fnOf port f).stream = some stream ∧ ((s.fnOf port f).tdi = .locked ∨ (s.fnOf port f).tdi = .run)
          then { s.fnOf port f with tdi := .error } else s.fnOf port f)))) (hosted .run) (1) (3)) = true := by decide +kernel

/-! ### Address translation -/

/-- Address space command set 2 with PASID 4 named, port 1, function 2, fault queue 7 of theirs; a TLB entry of the PASID and one of another. -/
def spaced (st : PasSt) : State :=
  { puts base [(F.MMU_AS_ARG1_PASID 2, 4), (F.MMU_INV_PASID 2, 4), (F.MMU_AS_ARG1_PORT 2, 1), (F.MMU_AS_ARG1_FUNCTION 2, 2), (F.MMU_AS_ARG1_FAULT_EQ 2, 7),
      (F.DEV_HOSTPORT_NUMVF 1, 5), (F.MMU_AS_ARG0_ROOT 2, 0x123), (F.MMU_INV_ADDR_ADDR 2, 0x10FFF), (F.MMU_INV_LEN_LEN 2, 2)] with
    pas := [(4, { (default : Pas) with st := st, port := 1, fn := 2, root := 0x77000, faultEq := 7, lv5 := true, dom := some 5, retryAfter := 1 })]
    eqs := [(7, { (default : Evq) with st := .active, port := 1, fn := 2 })]
    tlb := [(0, ⟨true, 4, 17, 0, 99, true, true, true, false⟩), (1, ⟨true, 6, 17, 0, 98, true, true, true, false⟩)]
    nextId := 50 }

/-- Walk 7 of PASID 4 at a level, its window open. -/
def walked (level : Nat) (leaf : Option Word) : State :=
  { puts base [(F.MMU_WALK_WINDOW_BASE_EN 3, 1), (F.MMU_WALK_WINDOW_BASE_PORT 3, 1), (F.MMU_WALK_WINDOW_LIMIT_LIMIT 3, 0xFFFF), (F.MMU_AD_CTRL_RETRY_LIMIT, 3)] with
    pas := [(4, { (default : Pas) with st := .active, port := 1, fn := 2, root := 0x77000, dom := some 5 })]
    walks := [(7, { (default : Walk) with live := true, pasid := 4, va := 0x7654321000, kind := .write, level := level, table := 0x9000, leaf := leaf })]
    tlb := [(0, ⟨true, 4, 17, 0, 99, true, true, true, false⟩)] }

/-! ### Statements on Address translation (spec/07): for each clause a state that meets its hypotheses -/

theorem wit_AddressSpaceCommands_1 :
    ((fun (s : State) (r p : Nat) => decide (s.asIdle r) && decide (s.get (F.MMU_AS_ARG1_PASID r) = p) && decide ((s.pas.look p).st = .free) && decide (s.get (F.MMU_AS_ARG1_FUNCTION r) ≤ s.get (F.DEV_HOSTPORT_NUMVF (s.get (F.MMU_AS_ARG1_PORT r)))) && decide ((s.eqs.look (s.get (F.MMU_AS_ARG1_FAULT_EQ r))).st = .active) && decide ((s.eqs.look (s.get (F.MMU_AS_ARG1_FAULT_EQ r))).port = s.get (F.MMU_AS_ARG1_PORT r)) && decide ((s.eqs.look (s.get (F.MMU_AS_ARG1_FAULT_EQ r))).fn = s.get (F.MMU_AS_ARG1_FUNCTION r)) && decide (s.pas.count (fun a => a.st != .free) < 16384) && (givesB s (.mmuCreate r) { s.asDone r 0 with pas := s.pas.put p { (default : Pas) with
        st := .active, port := s.get (F.MMU_AS_ARG1_PORT r), fn := s.get (F.MMU_AS_ARG1_FUNCTION r), root := s.get (F.MMU_AS_ARG0_ROOT r) * 4096
        lv5 := s.flag (F.MMU_AS_ARG0_LEVELS5 r), preset := s.flag (F.MMU_AS_ARG0_PRESET r), retryAfter := max (s.get (F.MMU_AS_ARG1_RETRY_AFTER r)) 1
        faultEq := s.get (F.MMU_AS_ARG1_FAULT_EQ r), dom := none, seen := [] } })) ({ spaced .active with pas := [] }) (2) (4)) = true := by decide +kernel

theorem wit_AddressSpaceCommands_2 :
    ((fun (s : State) (r p : Nat) => decide (s.asIdle r) && decide (s.get (F.MMU_AS_ARG1_PASID r) = p) && decide ((s.pas.look p).st ≠ .free) && decide ((s.wqs.vals.any fun w => w.st != .free && w.pasid == p) = false) && decide ((s.eqs.vals.any fun q => q.st != .free && q.pasid == p) = false) && decide ((s.runs.vals.any fun x => x.st == .parked && x.pasid == some p) = false) && (givesB s (.mmuDestroy r) ({ s.invBegun (.pasid p) { (default : Inval) with bySet := some r, cmd := 1, pasid := p } with
        pas := s.pas.put p { s.pas.look p with dom := none } }.put (F.MMU_AS_CMD_OP r) 1 |>.put (F.MMU_AS_CMD_BUSY r) 1))) (spaced .active) (2) (4)) = true := by decide +kernel

theorem wit_AddressSpaceCommands_3 :
    ((fun (s : State) (r p : Nat) => decide (s.asIdle r) && decide (s.get (F.MMU_AS_ARG1_PASID r) = p) && decide ((s.pas.look p).st = .error) && (givesB s (.mmuClear r) { s.asDone r 2 with pas := s.pas.put p { s.pas.look p with st := .active }, tlb := s.tlb.filter fun e => !(e.2.pasid == p) })) (spaced .error) (2) (4)) = true := by decide +kernel

theorem wit_AddressSpaceCommands_4 :
    ((fun (s : State) (r p : Nat) => decide (s.asIdle r) && decide (s.get (F.MMU_AS_ARG1_PASID r) = p) && decide ((s.pas.look p).st = .free) && (givesB s (.mmuQuery r) ((s.asDone r 3).setReg (0x300118 + 64 * r) 0))) ({ spaced .active with pas := [] }) (2) (4)) = true := by decide +kernel

theorem wit_AddressSpaceCommands_5 :
    ((fun (s : State) (r p : Nat) => decide (s.asIdle r) && decide (s.get (F.MMU_AS_ARG1_PASID r) = p) && decide ((s.pas.look p).st = .active) && decide ((s.pas.look p).root < 2 ^ 52) && decide ((s.pas.look p).root % 4096 = 0) && decide ((s.pas.look p).fn ≤ 128) && decide ((s.pas.look p).port < 4) && decide ((s.pas.look p).faultEq < 16384) && decide ((s.pas.look p).retryAfter < 65536) && decide ((s.pas.look p).dom.getD 0 < 65536) && (completesB s (.mmuQuery r) fun t => decide (
        t = { s with regs := t.regs, outs := t.outs } ∧ t.get (F.MMU_AS_ARG0_ROOT r) * 4096 = (s.pas.look p).root ∧ t.flag (F.MMU_AS_ARG0_LEVELS5 r) = (s.pas.look p).lv5 ∧
        t.flag (F.MMU_AS_ARG0_PRESET r) = (s.pas.look p).preset ∧ t.get (F.MMU_AS_ARG1_PORT r) = (s.pas.look p).port ∧ t.get (F.MMU_AS_ARG1_FUNCTION r) = (s.pas.look p).fn ∧
        t.get (F.MMU_AS_ARG1_FAULT_EQ r) = (s.pas.look p).faultEq ∧ t.get (F.MMU_AS_CMD_RESULT r) = 0 ∧ t.get (F.MMU_AS_CMD_BUSY r) = 0 ∧
        wbits (t.reg (0x300118 + 64 * r)) 1 0 = 1 ∧ wbit (t.reg (0x300118 + 64 * r)) 2 = (s.pas.look p).dom.isSome ∧
        wbits (t.reg (0x300118 + 64 * r)) 31 16 = (s.pas.look p).dom.getD 0))) (spaced .active) (2) (4)) = true := by decide +kernel

theorem wit_AddressSpaceCommands_6 :
    ((fun (s : State) (r p : Nat) => decide (s.asIdle r) && decide (s.get (F.MMU_AS_ARG1_PASID r) = p) && decide ((s.pas.look p).st = .active) && (givesB s (.setRoot r) ({ s.invBegun (.pasid p) { (default : Inval) with bySet := some r, cmd := 2, pasid := p } with
        pas := s.pas.put p { s.pas.look p with
          root := s.get (F.MMU_AS_ARG0_ROOT r) * 4096, lv5 := s.flag (F.MMU_AS_ARG0_LEVELS5 r), preset := s.flag (F.MMU_AS_ARG0_PRESET r) } }.put (F.MMU_AS_CMD_OP r) 4
        |>.put (F.MMU_AS_CMD_BUSY r) 1))) (spaced .active) (2) (4)) = true := by decide +kernel

theorem wit_AddressSpaceCommands_7 :
    ((fun (s : State) (r p : Nat) => decide (s.asIdle r) && decide (s.get (F.MMU_AS_ARG1_PASID r) = p) && decide ((s.pas.look p).st = .active) && decide (s.msgs = []) && decide (s.cvys = []) && (givesB s (.mmuRetry r) (s.asDone r 5))) (spaced .active) (2) (4)) = true := by decide +kernel

theorem wit_AddressSpaceCommands_8 :
    ((fun (s : State) (r p : Nat) => decide (s.asIdle r) && decide (s.get (F.MMU_AS_ARG1_PASID r) = p) && decide ((s.pas.look p).st ≠ .active) && (givesB s (.mmuRetry r) (((s.put (F.MMU_AS_CMD_OP r) 5).put (F.MMU_AS_CMD_BUSY r) 0).put (F.MMU_AS_CMD_RESULT r) 1))) (spaced .error) (2) (4)) = true := by decide +kernel

theorem wit_AddressSpaceCommands_9 :
    ((fun (s : State) (r p : Nat) => decide (s.asIdle r) && decide (s.get (F.MMU_INV_PASID r) = p) && (givesB s (.mmuInvAll r) ((s.invBegun .all { (default : Inval) with bySet := some r, pasid := p }).put (F.MMU_INV_SCOPE r) 0 |>.put (F.MMU_INV_BUSY r) 1))) (spaced .active) (2) (4)) = true := by decide +kernel

theorem wit_AddressSpaceCommands_10 :
    ((fun (s : State) (r p : Nat) => decide (s.asIdle r) && decide (s.get (F.MMU_INV_PASID r) = p) && (givesB s (.mmuInvPasid r) ((s.invBegun (.pasid p) { (default : Inval) with bySet := some r, pasid := p }).put (F.MMU_INV_SCOPE r) 1 |>.put (F.MMU_INV_BUSY r) 1))) (spaced .active) (2) (4)) = true := by decide +kernel

theorem wit_AddressSpaceCommands_11 :
    ((fun (s : State) (r p : Nat) => decide (s.asIdle r) && decide (s.get (F.MMU_INV_PASID r) = p) && (givesB s (.mmuInvPage r) ((s.invBegun (.range p (s.get (F.MMU_INV_ADDR_ADDR r) / 4096) (s.get (F.MMU_INV_ADDR_ADDR r) / 4096))
        { (default : Inval) with bySet := some r, pasid := p }).put (F.MMU_INV_SCOPE r) 2 |>.put (F.MMU_INV_BUSY r) 1))) (spaced .active) (2) (4)) = true := by decide +kernel

theorem wit_AddressSpaceCommands_12 :
    ((fun (s : State) (r p : Nat) (n : Nat) => decide (s.asIdle r) && decide (s.get (F.MMU_INV_PASID r) = p) && decide (s.get (F.MMU_INV_LEN_LEN r) = n + 1) && (givesB s (.mmuInvRange r) ((s.invBegun (.range p (s.get (F.MMU_INV_ADDR_ADDR r) / 4096) ((s.get (F.MMU_INV_ADDR_ADDR r) + n) / 4096))
        { (default : Inval) with bySet := some r, pasid := p }).put (F.MMU_INV_SCOPE r) 3 |>.put (F.MMU_INV_BUSY r) 1))) (spaced .active) (2) (4) (1)) = true := by decide +kernel

theorem wit_AddressSpaceCommands_13 :
    ((fun (s : State) (r p : Nat) => decide (s.asIdle r) && decide (s.get (F.MMU_INV_LEN_LEN r) = 0) && (givesB s (.mmuInvRange r) (s.put (F.MMU_INV_SCOPE r) 3))) (base) (2) (4)) = true := by decide +kernel

theorem wit_WalksAndInvalidations_1 :
    ((fun (s : State) (id r : Nat) => decide (s.calm) && decide ((s.invals.look id).live = true) && decide ((s.invals.look id).waits = []) && decide ((s.invals.look id).byOp = none) && decide ((s.invals.look id).bySet = some r) && decide ((s.invals.look id).cmd = 0) && (givesB s (.invalidationDone id) ({ s with invals := s.invals.del id }.put (F.MMU_INV_BUSY r) 0))) ({ base with invals := [(50, { (default : Inval) with live := true, bySet := some 2, pasid := 4 })] }) (50) (2)) = true := by decide +kernel

theorem wit_WalksAndInvalidations_2 :
    ((fun (s : State) (id r : Nat) => decide (s.calm) && decide ((s.invals.look id).live = true) && decide ((s.invals.look id).waits = []) && decide ((s.invals.look id).byOp = none) && decide ((s.invals.look id).bySet = some r) && decide ((s.invals.look id).cmd = 1) && (givesB s (.invalidationDone id) (({ s with invals := s.invals.del id, pas := s.pas.del (s.invals.look id).pasid }.put (F.MMU_AS_CMD_BUSY r) 0).put (F.MMU_AS_CMD_RESULT r) 0))) ({ spaced .active with invals := [(50, { (default : Inval) with live := true, bySet := some 2, pasid := 4, cmd := 1 })] }) (50) (2)) = true := by decide +kernel

theorem wit_WalksAndInvalidations_3 :
    ((fun (s : State) (id r : Nat) => decide (s.calm) && decide ((s.invals.look id).live = true) && decide ((s.invals.look id).waits = []) && decide ((s.invals.look id).byOp = none) && decide ((s.invals.look id).bySet = some r) && decide ((s.invals.look id).cmd = 2) && (givesB s (.invalidationDone id) (({ s with invals := s.invals.del id }.put (F.MMU_AS_CMD_BUSY r) 0).put (F.MMU_AS_CMD_RESULT r) 0))) ({ spaced .active with invals := [(50, { (default : Inval) with live := true, bySet := some 2, pasid := 4, cmd := 2 })] }) (50) (2)) = true := by decide +kernel

theorem wit_WalksAndInvalidations_4 :
    ((fun (s : State) (id port fn entry : Nat) (e : Word) => decide (s.calm) && decide ((s.walks.look id).live = true) && decide ((s.walks.look id).leaf = none) && decide ((s.pas.look (s.walks.look id).pasid).st = .active) && decide ((s.pas.look (s.walks.look id).pasid).port = port) && decide ((s.pas.look (s.walks.look id).pasid).fn = fn) && decide (wbit e 0 = true) && decide (wbit e 5 = false) && decide ((s.walks.look id).level = 3) && decide (entry = wbits e 51 12 * 4096 + (s.walks.look id).va / 2 ^ 21 % 512 * 8) && decide (s.walkAllowed port entry = true) && (givesB s (.walkReadReturn id (.ok [e])) ({ s with walks := s.walks.put id { s.walks.look id with level := 2, table := wbits e 51 12 * 4096 } }.out
        (.hostRead id port fn [(entry, 8)])))) (walked 3 none) (7) (1) (2) ((0x5000 + 0x7654321000 / 2 ^ 21 % 512 * 8)) (0x5001)) = true := by decide +kernel

theorem wit_WalksAndInvalidations_5 :
    ((fun (s : State) (id i : Nat) (e : Word) => decide (s.calm) && decide ((s.walks.look id).live = true) && decide ((s.walks.look id).leaf = none) && decide ((s.pas.look (s.walks.look id).pasid).st = .active) && decide (s.accs = []) && decide (wbit e 0 = true) && decide (wbit e 5 = true) && decide (wbits e 7 6 = 0) && decide ((s.walks.look id).level = 1) && decide (((s.walks.look id).kind ≠ .write → wbit e 1 = true)) && decide (wbit e 3 = true) && decide (((s.walks.look id).kind = .write ∨ (s.walks.look id).kind = .atomic → wbit e 2 = true ∧ wbit e 4 = true)) && decide (s.tlbFree = some i) && (givesB s (.walkReadReturn id (.ok [e])) { s with
        tlb := s.tlb.put i ⟨true, (s.walks.look id).pasid, (s.walks.look id).va / 4096, 0, wbits e 51 12, wbit e 1, wbit e 2, wbit e 4, wbit e 8⟩
        walks := s.walks.del id })) (walked 1 none) (7) (1) (0x503F)) = true := by decide +kernel

theorem wit_WalksAndInvalidations_6 :
    ((fun (s : State) (id port fn entry : Nat) (e : Word) => decide (s.calm) && decide ((s.walks.look id).live = true) && decide ((s.walks.look id).leaf = none) && decide ((s.walks.look id).spec = false) && decide ((s.pas.look (s.walks.look id).pasid).st = .active) && decide ((s.pas.look (s.walks.look id).pasid).port = port) && decide ((s.pas.look (s.walks.look id).pasid).fn = fn) && decide ((s.pas.look (s.walks.look id).pasid).preset = false) && decide (wbit e 0 = true) && decide (wbit e 5 = true) && decide (wbits e 7 6 = 0) && decide ((s.walks.look id).level = 1) && decide ((s.walks.look id).kind = .write) && decide (wbit e 2 = true) && decide ((wbit e 3 && wbit e 4) = false) && decide (entry = (s.walks.look id).table + (s.walks.look id).va / 4096 % 512 * 8) && decide (s.walkAllowed port entry = true) && (givesB s (.walkReadReturn id (.ok [e])) ({ s with walks := s.walks.put id { s.walks.look id with leaf := some e } }.out
        (.hostAtomic id port fn entry 11 8 (e ||| 24) e)))) (walked 1 none) (7) (1) (2) (0x9908) (0x502F)) = true := by decide +kernel

theorem wit_WalksAndInvalidations_7 :
    ((fun (s : State) (id i : Nat) (e : Word) => decide (s.calm) && decide ((s.walks.look id).live = true) && decide ((s.walks.look id).leaf = some e) && decide ((s.pas.look (s.walks.look id).pasid).st = .active) && decide (s.accs = []) && decide ((s.walks.look id).level = 1) && decide ((s.walks.look id).kind = .write) && decide (s.tlbFree = some i) && (givesB s (.adCasReturn id (.ok [e])) { s with
        tlb := s.tlb.put i ⟨true, (s.walks.look id).pasid, (s.walks.look id).va / 4096, 0, wbits (e ||| 24) 51 12, wbit (e ||| 24) 1, wbit (e ||| 24) 2, true, wbit (e ||| 24) 8⟩
        walks := s.walks.del id })) (walked 1 (some 0x502F)) (7) (1) (0x502F)) = true := by decide +kernel

theorem wit_WalksAndInvalidations_8 :
    ((fun (s : State) (id port fn : Nat) (e o : Word) (w : Walk) => decide (s.calm) && decide ((s.walks.look id).live = true) && decide ((s.walks.look id).leaf = some e) && decide (o ≠ e) && decide ((s.pas.look (s.walks.look id).pasid).st = .active) && decide ((s.pas.look (s.walks.look id).pasid).port = port) && decide ((s.pas.look (s.walks.look id).pasid).fn = fn) && decide ((s.walks.look id).fails + 1 < max (s.get F.MMU_AD_CTRL_RETRY_LIMIT) 1) && decide (w = { s.walks.look id with
        fails := (s.walks.look id).fails + 1, leaf := none, level := (if (s.pas.look (s.walks.look id).pasid).lv5 then 5 else 4)
        table := (s.pas.look (s.walks.look id).pasid).root }) && decide (s.walkAllowed port w.entryAt = true) && (givesB s (.adCasReturn id (.ok [o])) ({ s with walks := s.walks.put id w }.out (.hostRead id port fn [(w.entryAt, 8)])))) (walked 1 (some 0x502F)) (7) (1) (2) (0x502F) (0x500F) ({ (default : Walk) with live := true, pasid := 4, va := 0x7654321000, kind := .write, level := 4, table := 0x77000, fails := 1 })) = true := by decide +kernel

/-! ### Packets -/

/-- A packet from function 3 of endpoint 4 to function 2 of endpoint 7, on channel 1, in domain 5 under key 11, with PSN 100, born in stage 0. -/
def packet (op : PktOp) (raddr rkey opid : Word) (len : Nat) (payload : List Byte) (last : Bool) : Packet :=
  { (default : Packet) with
    dstRouter := 9, dstNode := 7, dstFunc := 2, srcNode := 4, srcFunc := 3, domain := 5, inter := 9, psn := 100, srcInc := 8, dstInc := 0, op := op, chan := 1
    first := true, last := last, len := len, raddr := raddr, rkey := rkey, opid := opid, payload := payload, crcOk := true
    sealed := ⟨11, dataIv 4 3 7 2 (pktCode op 1) 100 8 0 (ivLo op raddr), true⟩ }

/-- The pair channel's number. -/
def pairK : Nat := pairKey 1 2 4 3 1

/-- The device is router 9, endpoint 7 its port 1; the pair channel expects PSN 100, the mapped page is there, and domain 5 has its key. -/
def delivering (s : State) : State :=
  let s := (mapped s).put F.RTC_SELF_ROUTER_ID 9
  { s with
    eps := [(4, 2 ^ 31 + 6), (7, 2 ^ 31 + 9 + 2 ^ 16)]
    doms := [(5, { (default : Dom) with st := .keyed, cur := some 11 })]
    quiet := false
    prx := [(pairK, { (default : PairRx) with live := true, port := 1, fn := 2, node := 4, func := 3, chan := 1, dom := 5, expected := 100, srcInc := 8, nextRef := 1 })] }

/-- Context 6 of the endpoint's function: one receive of 100 B for POST operation 3 of context 3, pool of 4 slots. -/
def context : Mctx :=
  { (default : Mctx) with
    st := .enabled, port := 1, fn := 2, pasid := 1, dom := 5, poolBase := 0x10800, res := 8, poolLog2 := 2, slotLog2 := 12
    posted := [{ (default : Recv) with op := 195, anyNode := true, anyFunc := true, tag := 77, buf := 0x10200, len := 100 }] }

/-- Message 9 of the context, of 3 bytes; its POST belongs to a blocked run. -/
def messaged (m : Msg → Msg) : State :=
  { delivering base with
    mctx := [(6, context)]
    msgs := [(9, m { (default : Msg) with
      live := true, pair := pairK, ctx := 6, dom := 5, node := 4, func := 3, tag := 77, len := 3, parts := [(0, [1, 2, 3])], got := 3, st := .waiting })]
    runs := [(3, { runOf [] with st := .blocked, block := .op 3, nextPc := 5 })]
    ops := [(195, { (default : Op) with live := true, opcode := 0x31, x := { (default : Xfer) with la := 0x10200, total := 100 } })] }

/-- Context command set 2 names context 6, its arguments in range. -/
def ctxArgs : State :=
  let s := puts base [(F.MAT_CTX_CMD_CONTEXT 2, 6), (F.MAT_CTX_ARG0_POOL_BASE 2, 0x4000), (F.MAT_CTX_ARG1_SPILL_BASE 2, 0x9000), (F.MAT_CTX_ARG2_ONCHIP_RES 2, 2),
    (F.MAT_CTX_ARG2_SPILL_LOG2 2, 20), (F.MAT_CTX_ARG2_POOL_LOG2 2, 16), (F.MAT_CTX_ARG2_SLOT_LOG2 2, 16), (F.MAT_CTX_ARG3_PORT 2, 1), (F.MAT_CTX_ARG3_FUNCTION 2, 2),
    (F.MAT_CTX_ARG3_PASID 2, 4), (F.DEV_HOSTPORT_NUMVF 1, 2)]
  { s with pas := [(4, { (default : Pas) with st := .active, port := 1, fn := 2, dom := some 5 })] }

/-! ### Statements on Tag matching (spec/08): for each clause a state that meets its hypotheses -/

theorem wit_MatchContextCommands_1 :
    ((fun (s : State) (r c : Nat) (d : Nat) => decide (s.ctxIdle r c) && decide ((s.mctx.look c).st = .free) && decide (s.get (F.MAT_CTX_ARG0_POOL_BASE r) % 4096 = 0) && decide (s.get (F.MAT_CTX_ARG1_SPILL_BASE r) % 4096 = 0) && decide (2 ≤ s.get (F.MAT_CTX_ARG2_ONCHIP_RES r)) && decide (6 ≤ s.get (F.MAT_CTX_ARG2_SPILL_LOG2 r)) && decide (s.get (F.MAT_CTX_ARG2_SPILL_LOG2 r) ≤ 20) && decide (s.get (F.MAT_CTX_ARG2_POOL_LOG2 r) ≤ 16) && decide (12 ≤ s.get (F.MAT_CTX_ARG2_SLOT_LOG2 r)) && decide (s.get (F.MAT_CTX_ARG2_SLOT_LOG2 r) ≤ 16) && decide (s.get (F.MAT_CTX_ARG3_FUNCTION r) ≤ s.get (F.DEV_HOSTPORT_NUMVF (s.get (F.MAT_CTX_ARG3_PORT r)))) && decide (s.mctx.vals.foldl (fun n x => if x.st = .free then n else n + x.res) 0 + s.get (F.MAT_CTX_ARG2_ONCHIP_RES r) ≤ 262144) && decide ((s.pas.look (s.get (F.MAT_CTX_ARG3_PASID r))).port = s.get (F.MAT_CTX_ARG3_PORT r)) && decide ((s.pas.look (s.get (F.MAT_CTX_ARG3_PASID r))).fn = s.get (F.MAT_CTX_ARG3_FUNCTION r)) && decide ((s.pas.look (s.get (F.MAT_CTX_ARG3_PASID r))).st ≠ .free) && decide ((s.pas.look (s.get (F.MAT_CTX_ARG3_PASID r))).dom = some d) && (givesB s (.matCreate r) { (s.put (F.MAT_CTX_CMD_OP r) 0).put (F.MAT_CTX_CMD_RESULT r) 0 with mctx := s.mctx.put c { (default : Mctx) with
        st := .enabled, port := s.get (F.MAT_CTX_ARG3_PORT r), fn := s.get (F.MAT_CTX_ARG3_FUNCTION r), pasid := s.get (F.MAT_CTX_ARG3_PASID r), dom := d
        poolBase := s.get (F.MAT_CTX_ARG0_POOL_BASE r), spillBase := s.get (F.MAT_CTX_ARG1_SPILL_BASE r), spec := s.flag (F.MAT_CTX_ARG2_SPEC r)
        res := s.get (F.MAT_CTX_ARG2_ONCHIP_RES r), spillLog2 := s.get (F.MAT_CTX_ARG2_SPILL_LOG2 r), poolLog2 := s.get (F.MAT_CTX_ARG2_POOL_LOG2 r)
        slotLog2 := s.get (F.MAT_CTX_ARG2_SLOT_LOG2 r) } })) (ctxArgs) (2) (6) (5)) = true := by decide +kernel

theorem wit_MatchContextCommands_2 :
    ((fun (s : State) (r c : Nat) => decide (s.ctxIdle r c) && decide ((s.mctx.look c).st ≠ .free) && (givesB s (.matCreate r) ((s.put (F.MAT_CTX_CMD_OP r) 0).put (F.MAT_CTX_CMD_RESULT r) 1))) ({ ctxArgs with mctx := [(6, context)] }) (2) (6)) = true := by decide +kernel

theorem wit_MatchContextCommands_3 :
    ((fun (s : State) (r c : Nat) => decide (s.ctxIdle r c) && decide ((s.mctx.look c).st ≠ .free) && decide (s.msgs = []) && decide ((s.mctx.look c).posted = []) && decide ((s.mctx.look c).postedSpill = []) && decide ((s.mctx.look c).unexp = []) && decide ((s.mctx.look c).unexpSpill = []) && (givesB s (.matDestroy r) { (s.put (F.MAT_CTX_CMD_OP r) 1).put (F.MAT_CTX_CMD_RESULT r) 0 with
        mctx := s.mctx.del c, preds := s.preds.filter fun e => e.2.ctx != c })) ({ ctxArgs with mctx := [(6, { context with posted := [] })], preds := [(1, { (default : Pred) with valid := true, ctx := 6 })] }) (2) (6)) = true := by decide +kernel

theorem wit_MatchContextCommands_4 :
    ((fun (s : State) (r c : Nat) => decide (s.ctxIdle r c) && decide ((s.mctx.look c).st = .error) && (givesB s (.matClear r) { (s.put (F.MAT_CTX_CMD_OP r) 2).put (F.MAT_CTX_CMD_RESULT r) 0 with mctx := s.mctx.upd c fun x => { x with
        st := .enabled, posted := [], postedSpill := [], unexp := [], unexpSpill := [], pheads := 0, uheads := 0, slots := [], loading := none } })) ({ ctxArgs with mctx := [(6, { context with st := .error })] }) (2) (6)) = true := by decide +kernel

theorem wit_MatchContextCommands_5 :
    ((fun (s : State) (r c : Nat) => decide (s.ctxIdle r c) && decide ((s.mctx.look c).st ≠ .error) && (givesB s (.matClear r) ((s.put (F.MAT_CTX_CMD_OP r) 2).put (F.MAT_CTX_CMD_RESULT r) 1))) ({ ctxArgs with mctx := [(6, context)] }) (2) (6)) = true := by decide +kernel

theorem wit_MatchContextCommands_6 :
    ((fun (s : State) (r c : Nat) => decide (s.ctxIdle r c) && decide ((s.mctx.look c).st = .enabled) && decide ((s.mctx.look c).dom < 65536) && decide ((s.mctx.look c).allPosted.length < 2 ^ 20) && decide ((s.mctx.look c).allUnexp.length < 2 ^ 20) && (completesB s (.matQuery r) fun t => decide (
        t = { s with regs := t.regs, outs := t.outs } ∧ t.get (F.MAT_CTX_INFO_DOMAIN r) = (s.mctx.look c).dom ∧ t.get (F.MAT_CTX_INFO_STATE r) = 1 ∧
        t.get (F.MAT_CTX_INFO_POSTED r) = (s.mctx.look c).allPosted.length ∧ t.get (F.MAT_CTX_INFO_UNEXPECTED r) = (s.mctx.look c).allUnexp.length ∧
        t.get (F.MAT_CTX_CMD_RESULT r) = 0))) ({ ctxArgs with mctx := [(6, context)] }) (2) (6)) = true := by decide +kernel

theorem wit_MessagesAndMatching_1 :
    ((fun (s : State) (p : Packet) (k port ctx : Nat) => decide (s.calm) && decide (s.delivers p k port) && decide (p.op = .eager) && decide (p.first = true) && decide (p.sigr = false) && decide (ctx = wbits p.raddr 47 32) && decide (s.pdMat = 0) && decide ((s.mctx.look ctx).st = .enabled) && decide ((s.mctx.look ctx).dom = p.domain) && decide ((s.mctx.look ctx).port = port) && decide ((s.mctx.look ctx).fn = p.dstFunc) && decide (s.flag F.MAT_CTRL_SPEC_EN = false) && (givesB s (.eagerArrival p) { s with
        msgs := s.msgs.put (msgKey k p.psn) { (default : Msg) with
          live := true, pair := k, ctx := ctx, dom := p.domain, node := p.srcNode, func := p.srcFunc, chan := p.chan, tag := p.rkey, opid := wbits p.opid 31 0
          len := wbits p.raddr 31 0, rctr := p.rctr, firstPsn := p.psn, st := .waiting, parts := [(0, p.payload)], got := p.payload.length }
        prx := s.prx.upd k fun r => { r with idle := 0, dom := p.domain, taken := 1, curDup := false, st := .idle, keyVer := none } })) ({ (delivering base).put F.MAT_CTRL_SPEC_EN 0 with mctx := [(6, context)] }) (packet .eager (packW [(0, 3), (32, 6)]) 77 8 0 [1, 2, 3] true) (pairK) (1) (6)) = true := by decide +kernel

theorem wit_MessagesAndMatching_2 :
    ((fun (s : State) (p : Packet) (k port ctx : Nat) => decide (s.calm) && decide (s.delivers p k port) && decide (p.op = .rts) && decide (p.first = true) && decide (p.sigr = false) && decide (ctx = wbits p.raddr 47 32) && decide (s.pdMat = 0) && decide ((s.mctx.look ctx).st = .enabled) && decide ((s.mctx.look ctx).dom = p.domain) && decide ((s.mctx.look ctx).port = port) && decide ((s.mctx.look ctx).fn = p.dstFunc) && (givesB s (.rtsArrival p) { s with
        msgs := s.msgs.put (msgKey k p.psn) { (default : Msg) with
          live := true, pair := k, ctx := ctx, dom := p.domain, node := p.srcNode, func := p.srcFunc, chan := p.chan, tag := p.rkey, opid := wbits p.opid 31 0
          len := wbits p.raddr 31 0, rctr := p.rctr, firstPsn := p.psn, st := .waiting, rts := true, got := p.payload.length }
        prx := s.prx.upd k fun r => { r with idle := 0, dom := p.domain, taken := 1, curDup := false, st := .idle, keyVer := none } })) ({ delivering base with mctx := [(6, context)] }) (packet .rts (packW [(0, 9000), (32, 6)]) 77 8 0 [] true) (pairK) (1) (6)) = true := by decide +kernel

theorem wit_MessagesAndMatching_3 :
    ((fun (s : State) (key va n pa : Nat) (m : Msg) (c : Mctx) (r : Recv) => decide (s.calm) && decide (m = s.msgs.look key) && decide (c = s.mctx.look m.ctx) && decide (m.live = true) && decide (m.walked = false) && decide (m.rts = false) && decide (m.whole = true) && decide (m.st = .waiting) && decide (m.retryIn = 0) && decide (s.ctxBusy m.ctx = false) && decide (c.postedSpill = []) && decide (c.unexpSpill = []) && decide ((c.posted.find? fun q => q.matches m.node m.func m.tag) = some r) && decide (n = min m.len r.len) && decide (0 < n) && decide ((s.ops.look r.op).localAt 0 n = [(va, n)]) && decide (s.maps c.pasid c.dom .write va n pa) && decide (s.hostOpen c.pasid) && (givesB s (.matchWalkDone key) ({ s with
        mctx := s.mctx.upd m.ctx fun c => { c with loading := none, posted := c.posted.filter fun q => q.op != r.op }
        msgs := s.msgs.upd key fun m => { m with walked := true, recv := some r, st := .reading, retryIn := 0 } }.wrote c.pasid pa n (m.bytes.take n)))) (messaged id) (9) (0x10200) (3) (0x63200) ((messaged id).msgs.look 9) (context) ({ (default : Recv) with op := 195, anyNode := true, anyFunc := true, tag := 77, buf := 0x10200, len := 100 })) = true := by decide +kernel

theorem wit_MessagesAndMatching_4 :
    ((fun (s : State) (key slot : Nat) (m : Msg) (c : Mctx) => decide (s.calm) && decide (m = s.msgs.look key) && decide (c = s.mctx.look m.ctx) && decide (m.live = true) && decide (m.walked = false) && decide (m.rts = false) && decide (m.whole = false) && decide (m.st = .waiting) && decide (s.ctxBusy m.ctx = false) && decide (c.postedSpill = []) && decide (c.unexpSpill = []) && decide ((c.posted.find? fun q => q.matches m.node m.func m.tag) = none) && decide (m.len ≤ 2 ^ c.slotLog2) && decide (((List.range (2 ^ c.poolLog2)).find? fun i => !c.slots.contains i) = some slot) && decide (c.used + 1 ≤ c.res) && (givesB s (.matchWalkDone key) { s with
        mctx := s.mctx.upd m.ctx fun c => { c with
          loading := none, slots := slot :: c.slots, unexp := c.unexp ++ [⟨false, m.node, m.func, m.chan, m.tag, m.opid, slot, m.len, m.rctr, m.sigr, m.pair, some key⟩] }
        msgs := s.msgs.upd key fun m => { m with walked := true, st := .slotted, slot := slot } })) (messaged (fun m => { m with len := 5, tag := 78 })) (9) (0) ((messaged (fun m => { m with len := 5, tag := 78 })).msgs.look 9) (context)) = true := by decide +kernel

theorem wit_MessagesAndMatching_5 :
    ((fun (s : State) (key : Nat) (m : Msg) (c : Mctx) => decide (s.calm) && decide (m = s.msgs.look key) && decide (c = s.mctx.look m.ctx) && decide (m.live = true) && decide (m.walked = false) && decide (m.rts = true) && decide (m.st = .waiting) && decide (s.ctxBusy m.ctx = false) && decide (c.postedSpill = []) && decide (c.unexpSpill = []) && decide ((c.posted.find? fun q => q.matches m.node m.func m.tag) = none) && decide (c.used + 1 ≤ c.res) && decide (s.rxIdle m.pair) && (completesB s (.matchWalkDone key) fun t => decide (
        t.mctx = (s.mctx.upd m.ctx fun c => { c with
          loading := none, unexp := c.unexp ++ [⟨true, m.node, m.func, m.chan, m.tag, m.opid, 0, m.len, m.rctr, m.sigr, m.pair, none⟩] }) ∧
        t.msgs.look key = default ∧ (t.prx.look m.pair).expected = ((s.prx.look m.pair).expected + (s.prx.look m.pair).taken) % 2 ^ 24 ∧ (t.prx.look m.pair).taken = 0 ∧
        (t.prx.look m.pair).owedAcks = 0))) (messaged (fun m => { m with rts := true, tag := 78, len := 9000 })) (9) ((messaged (fun m => { m with rts := true, tag := 78, len := 9000 })).msgs.look 9) (context)) = true := by decide +kernel

theorem wit_MessagesAndMatching_6 :
    ((fun (s : State) (key ctx st : Nat) (m : Msg) (r : Recv) => decide (s.calm) && decide (m = s.msgs.look key) && decide (m.live = true) && decide (m.st = .reading) && decide (m.recv = some r) && decide (m.sigr = false) && decide (s.rxIdle m.pair) && decide (s.chans = []) && decide (s.unbound = []) && decide (ctx = r.op / 64) && decide (s.opsOf ctx = [r.op]) && decide ((s.ops.look r.op).live = true) && decide ((s.ops.look r.op).fin = none) && decide ((s.ops.look r.op).opcode = 0x31) && decide ((s.ops.look r.op).reporting = false) && decide ((s.ops.look r.op).noCtr = false) && decide ((s.ops.look r.op).tag = 0) && decide ((s.ops.look r.op).sigl = false) && decide ((s.ops.look r.op).rd = none) && decide ((s.runs.look ctx).st = .blocked) && decide ((s.runs.look ctx).block = .op (r.op % 64)) && decide (st = (if m.len > r.len then stTrunc else stOk)) && (completesB s (.matchConfirm key) fun t => decide (
        t.msgs = s.msgs.del key ∧ t.ops.look r.op = default ∧ (t.runs.look ctx).rg 15 = g15 st 0x31 (min m.len r.len) ∧ (t.runs.look ctx).st = .ready ∧
        (t.runs.look ctx).pc = (s.runs.look ctx).nextPc ∧
        (t.prx.look m.pair).expected = ((s.prx.look m.pair).expected + (s.prx.look m.pair).taken) % 2 ^ 24 ∧ (t.prx.look m.pair).taken = 0))) (messaged (fun m => { m with st := .reading, recv := some { (default : Recv) with op := 195, len := 2 } })) (9) (3) (stTrunc) ((messaged (fun m => { m with st := .reading, recv := some { (default : Recv) with op := 195, len := 2 } })).msgs.look 9) ({ (default : Recv) with op := 195, len := 2 })) = true := by decide +kernel

theorem wit_MessagesAndMatching_7 :
    ((fun (s : State) (key : Nat) (m : Msg) => decide (s.calm) && decide (m = s.msgs.look key) && decide (m.live = true) && decide (m.st = .speculating) && decide (m.begun = true) && decide (m.specLeft = 0) && decide (m.walked = false) && (givesB s (.speculationExpiry key) (({ s with
        msgs := s.msgs.upd key fun m => { m with st := .waiting, predicted := none, placed := 0, begun := false } }.bump F.MAT_SPEC_COUNT_MISPREDICT 1).bump
        F.MAT_SPEC_OTHER_EXPIRED 1))) (messaged (fun m => { m with st := .speculating, begun := true, retain := 3, placed := 3 })) (9) ((messaged (fun m => { m with st := .speculating, begun := true, retain := 3, placed := 3 })).msgs.look 9)) = true := by decide +kernel

theorem wit_MessagesAndMatching_8 :
    ((fun (s : State) (ctx id : Nat) (ws : List Word) (c : Mctx) (r : Recv) => decide (s.calm) && decide (c = s.mctx.look ctx) && decide (ctx < 65536) && decide ((s.accs.keysOf fun a => a.client == .spill ctx) = [id]) && decide ((s.accs.look id).client = .spill ctx) && decide ((s.accs.look id).st = .issued) && decide (ws.length = (chunkLen (s.accs.look id).orig + 7) / 8) && decide (ws ≠ []) && decide (c.loading = some false) && decide (c.postedSpill = [some r]) && decide (c.unexpSpill = []) && decide (c.used + 2 ≤ c.res) && (givesB s (.spillAccessReturn ctx (.ok ws)) { s with
        accs := s.accs.del id
        mctx := s.mctx.upd ctx fun c => { c with posted := c.posted ++ [r], postedSpill := [], pheads := c.pheads + 1, loading := some true } })) ({ messaged id with mctx := [(6, { context with posted := [], postedSpill := [some (default : Recv)], loading := some false })], accs := [(50, { (default : Access) with client := .spill 6, st := .issued, orig := [(0x4000, 64)] })] }) (6) (50) ([1, 2, 3, 4, 5, 6, 7, 8]) ({ context with posted := [], postedSpill := [some (default : Recv)], loading := some false }) (default)) = true := by decide +kernel

theorem wit_MessagesAndMatching_9 :
    ((fun (s : State) (p : Packet) (k port j va : Nat) => decide (s.calm) && decide (s.delivers p k port) && decide (p.op = .rget) && decide (0 < p.len) && decide (va % 4096 + p.len ≤ 4096) && decide ((s.ops.keysOf fun o => o.live && o.fin.isNone && o.opcode == 0x30 && o.arg != 0 && o.opid == wbits p.opid 31 0 && o.x.node == p.srcNode &&
        o.x.func == p.srcFunc && o.x.chan == p.chan && decide (wbits p.raddr 31 0 + p.len ≤ o.x.total)) = [j]) && decide ((s.opRun j).port = port) && decide ((s.opRun j).fn = p.dstFunc) && decide ((s.ops.look j).localAt (wbits p.raddr 31 0) p.len = [(va, p.len)]) && (givesB s (.rgetArrival p) { s with
        prx := s.prx.upd k fun r => { r with idle := 0, dom := p.domain, cur := some p, curDup := false, st := .readout j }
        chans := s.chans.upd 128 fun ch => { ch with
          jumped := ch.jumped ++ [{ (default : Burst) with
            id := ch.nextId, op := k, kind := .readout, len := p.len, pieces := [(va, p.len)], faulted := some ((s.opRun j).pasid.getD 0, 0, 0) }]
          nextId := ch.nextId + 1 } })) ({ delivering base with runs := [(3, runOf [])], ops := [(195, { (default : Op) with live := true, opcode := 0x30, arg := 1, opid := 8, x := { (default : Xfer) with node := 4, func := 3, chan := 1, la := 0x10200, total := 9 } })] }) (packet .rget 4 0 8 5 [] true) (pairK) (1) (195) (0x10204)) = true := by decide +kernel

theorem wit_MessagesAndMatching_10 :
    ((fun (s : State) (p : Packet) (j ch va port : Nat) => decide (s.calm) && decide (okPacket p = true) && decide (p.op = .rgetResp) && decide (p.crcOk = true) && decide (s.endpoint p.dstNode = some (s.self, port)) && decide (p.last = false) && decide (s.quiet = false) && decide (s.age p.birth ≤ s.lifetime) && decide (s.tagOk p = true) && decide (0 < p.payload.length) && decide (p.payload.length ≤ s.burstSize ch) && decide (va % 4096 + p.payload.length ≤ 4096) && decide ((s.ops.keysOf fun o => o.live && o.fin.isNone && o.eng == .bulk && o.src.1 / 4 * 4 == pairKey port p.dstFunc p.srcNode p.srcFunc 0 &&
        (o.opcode == 0x31 && o.x.sub == wbits p.opid 31 0)) = [j]) && decide (((s.ptx.look (s.ops.look j).src.1).pkts.find? fun x => x.op == j && x.psn == p.psn).isSome = true) && decide (wbits p.raddr 31 0 + p.payload.length ≤ (s.ops.look j).x.total) && decide (covered (s.ops.look j).got (wbits p.raddr 31 0) p.payload.length = false) && decide ((s.ops.look j).bound = some ch) && decide ((s.ops.look j).localAt (wbits p.raddr 31 0) p.payload.length = [(va, p.payload.length)]) && (givesB s (.rgetRespArrival p) { s with
        chans := s.chans.upd ch fun x => { x with
          jumped := x.jumped ++ [{ (default : Burst) with
            id := x.nextId, op := j, kind := .placeResp p.psn, off := wbits p.raddr 31 0, len := p.payload.length, pieces := [(va, p.payload.length)], data := p.payload }]
          nextId := x.nextId + 1 } })) ({ delivering base with ops := [(195, { (default : Op) with live := true, opcode := 0x31, eng := .bulk, src := (pairKey 1 2 4 3 1, 0), bound := some 2, x := { (default : Xfer) with sub := 8, la := 0x10200, total := 9 } })], ptx := [(pairKey 1 2 4 3 1, { (default : PairTx) with pkts := [{ (default : TxPkt) with op := 195, psn := 100 }] })] }) (packet .rgetResp 4 0 8 5 [1, 2, 3, 4, 5] false) (195) (2) (0x10204) (1)) = true := by decide +kernel

/-! ### Keys -/

/-- Entry 2 of the key table: function 2's address space 1 of domain 5, 256 B at 0x10100, every right. -/
def entry : KeyEnt := ⟨true, 1, 5, 1, 15, 0x10100, 256, 1, 0⟩

/-- The entry is cached. -/
def keyState : State := { (delivering base).put F.RMA_KTAB_CTRL_EN 1 with kcache := [(2, entry)], nextId := 50 }

/-- A request under the entry's key. -/
def asking (op : PktOp) (off opid : Word) (payload : List Byte) (last : Bool) : Packet := packet op off (keyState.keyOf 2 1 5) opid payload.length payload last

theorem keyOf_fields (c : Nat) (h : c < 2 ^ 24) :
    keyIndex (packW [(48, 1), (24, 2), (0, c)]) = 2 ∧ keyGen (packW [(48, 1), (24, 2), (0, c)]) = 1 ∧ keyCheck (packW [(48, 1), (24, 2), (0, c)]) = c := by
  have : (packW [(48, 1), (24, 2), (0, c)]).toNat = 2 ^ 48 + 2 ^ 25 + c := by
    simp [packW, BitVec.toNat_ofNat, Nat.shiftLeft_eq]; omega
  simp only [keyIndex, keyGen, keyCheck, wbits, bitsOf, this, Nat.shiftRight_eq_div_pow]
  omega

theorem checkOf_lt (s : State) (i g d : Nat) : s.checkOf i g d < 2 ^ 24 := by
  simp only [State.checkOf, wbits, bitsOf]; exact Nat.mod_lt _ (by decide)

theorem asking_index (op : PktOp) (off opid : Word) (l : List Byte) (b : Bool) : 2 = keyIndex (asking op off opid l b).rkey :=
  (keyOf_fields _ (checkOf_lt _ _ _ _)).1.symm

theorem asking_checks (op : PktOp) (off opid : Word) (l : List Byte) (b : Bool) (hb : boundsOk entry (asking op off opid l b) = true)
    (hr : rightsOk entry (asking op off opid l b) = true) : keyState.keyChecks entry (asking op off opid l b) = none := by
  have hk := keyOf_fields _ (checkOf_lt keyState 2 1 5)
  have h1 : keyIndex (asking op off opid l b).rkey = 2 := hk.1
  have h2 : keyGen (asking op off opid l b).rkey = 1 := hk.2.1
  have h3 : keyCheck (asking op off opid l b).rkey = keyState.checkOf 2 1 5 := hk.2.2
  have h4 : keyState.inc = 1 := by decide +kernel
  have h5 : (keyState.pas.look 1).st = .active := by decide +kernel
  have h6 : (keyState.pas.look 1).dom = some 5 := by decide +kernel
  have h7 : (asking op off opid l b).domain = 5 := rfl
  have h8 : (asking op off opid l b).sigr = false := rfl
  unfold State.keyChecks
  simp only [h1, h2, h3, h4, h7, h8, hb, hr]
  simp [entry, h5, h6]

theorem asking_keyed (op : PktOp) (off opid : Word) (l : List Byte) (b : Bool) (hb : boundsOk entry (asking op off opid l b) = true)
    (hr : rightsOk entry (asking op off opid l b) = true) : keyState.keyed (asking op off opid l b) 2 entry :=
  ⟨by decide +kernel, by decide +kernel, rfl, asking_checks op off opid l b hb hr⟩

/-! ### Statements on Remote memory access (spec/09): for each clause a state that meets its hypotheses -/

theorem wit_RemoteRequestsAtTheTarget_1 :
    (fun (s : State) (p : Packet) (k port i va n pa : Nat) (e : KeyEnt) => (s.calm) ∧ (s.delivers p k port) ∧ (i = keyIndex p.rkey) ∧ (p.sigr = false) ∧ ((s.prx.look k).refusals.length < 4) ∧ (s.keyed p i e) ∧ (p.op = .put) ∧ (p.last = false) ∧ (n = p.payload.length) ∧ (va = (e.base + p.raddr.toNat) % 2 ^ 64) ∧ (s.maps e.pasid e.dom .write va n pa) ∧ (s.hostOpen e.pasid) ∧ ((s.prx.look k).owedAcks < 7)) (keyState) (asking .put 4 0x300000008 [1, 2, 3] false) (pairK) (1) (2) (0x10104) (3) (0x63104) (entry) := by
  refine ⟨?_, ?_, ?_, ?_, ?_, ?_, ?_, ?_, ?_, ?_, ?_, ?_, ?_⟩ <;> first | exact asking_index _ _ _ _ _ | exact asking_keyed _ _ _ _ _ (by decide +kernel) (by decide +kernel) | rfl | exact ⟨rfl, rfl⟩ | decide +kernel

theorem wit_RemoteRequestsAtTheTarget_2 :
    (fun (s : State) (p : Packet) (k port i va n pa : Nat) (e : KeyEnt) => (s.calm) ∧ (s.delivers p k port) ∧ (i = keyIndex p.rkey) ∧ (p.sigr = false) ∧ ((s.prx.look k).refusals.length < 4) ∧ (s.keyed p i e) ∧ (p.op = .put) ∧ (p.last = true) ∧ (n = p.payload.length) ∧ (va = (e.base + p.raddr.toNat) % 2 ^ 64) ∧ (s.maps e.pasid e.dom .write va n pa) ∧ (s.hostOpen e.pasid) ∧ (s.ctlSent = []) ∧ ((s.endpoint p.srcNode).isSome = true)) (keyState) (asking .put 253 0x300000008 [1, 2, 3] true) (pairK) (1) (2) (0x101FD) (3) (0x631FD) (entry) := by
  refine ⟨?_, ?_, ?_, ?_, ?_, ?_, ?_, ?_, ?_, ?_, ?_, ?_, ?_, ?_⟩ <;> first | exact asking_index _ _ _ _ _ | exact asking_keyed _ _ _ _ _ (by decide +kernel) (by decide +kernel) | rfl | exact ⟨rfl, rfl⟩ | decide +kernel

theorem wit_RemoteRequestsAtTheTarget_3 :
    (fun (s : State) (p : Packet) (k port i va n pa : Nat) (e : KeyEnt) => (s.calm) ∧ (s.delivers p k port) ∧ (i = keyIndex p.rkey) ∧ (p.sigr = false) ∧ ((s.prx.look k).refusals.length < 4) ∧ (s.keyed p i e) ∧ (p.op = .get) ∧ (p.first = true) ∧ ((s.prx.look k).gets = []) ∧ (n = wbits p.opid 63 32) ∧ (0 < n) ∧ (va = (e.base + p.raddr.toNat) % 2 ^ 64) ∧ (va % 4096 + n ≤ 4096)) (keyState) (asking .get 0 0x10000000008 [] true) (pairK) (1) (2) (0x10100) (256) (0) (entry) := by
  refine ⟨?_, ?_, ?_, ?_, ?_, ?_, ?_, ?_, ?_, ?_, ?_, ?_, ?_⟩ <;> first | exact asking_index _ _ _ _ _ | exact asking_keyed _ _ _ _ _ (by decide +kernel) (by decide +kernel) | rfl | exact ⟨rfl, rfl⟩ | decide +kernel

theorem wit_RemoteRequestsAtTheTarget_4 :
    (fun (s : State) (p : Packet) (k port i va n pa : Nat) (e : KeyEnt) (line : Nat) => (s.calm) ∧ (s.delivers p k port) ∧ (i = keyIndex p.rkey) ∧ (p.sigr = false) ∧ ((s.prx.look k).refusals.length < 4) ∧ (s.keyed p i e) ∧ (p.op = .amo) ∧ (amoFetch p = false) ∧ (va = (e.base + p.raddr.toNat) % 2 ^ 64) ∧ (s.maps e.pasid e.dom .atomic va (amoBytes p) pa) ∧ (pa < 2 ^ 64) ∧ (line = (bitsOf pa 17 6) ^^^ (bitsOf pa 29 18) ^^^ (bitsOf pa 41 30) ^^^ (bitsOf pa 51 42))) (keyState) (asking .amo 8 0x00000008 [1, 0, 0, 0, 0, 0, 0, 0, 0, 0, 0, 0, 0, 0, 0, 0] true) (pairK) (1) (2) (0x10108) (8) (0x63108) (entry) (0x8C5) := by
  refine ⟨?_, ?_, ?_, ?_, ?_, ?_, ?_, ?_, ?_, ?_, ?_, ?_⟩ <;> first | exact asking_index _ _ _ _ _ | exact asking_keyed _ _ _ _ _ (by decide +kernel) (by decide +kernel) | rfl | exact ⟨rfl, rfl⟩ | decide +kernel

theorem wit_RemoteRequestsAtTheTarget_5 :
    ((fun (s : State) (p : Packet) (k port i va n pa : Nat) (e : KeyEnt) => decide (s.calm) && decide (s.delivers p k port) && decide (i = keyIndex p.rkey) && decide (p.sigr = false) && decide ((s.prx.look k).refusals.length < 4) && decide (p.op = .put) && decide (s.flag F.RMA_KTAB_CTRL_EN = true) && decide (i < 2 ^ s.ktabLog2) && decide ((s.kcache.find? fun x => x.1 == i) = none) && decide ((s.kwait.any fun x => x.1 == i) = false) && (givesB s (.putArrival p) ({ s with
        kwait := s.kwait ++ [(i, KeyWait.pair k)]
        prx := s.prx.upd k fun r => { r with idle := 0, dom := p.domain, cur := some p, curDup := false, st := .key } }.out
        (.hostRead (2 ^ 59 + i) (s.get F.RMA_KTAB_BASE_PORT) 0 [(s.get F.RMA_KTAB_BASE_BASE * 4096 + i * 64, 64)])))) ({ keyState with kcache := [] }) (packet .put 4 (packW [(24, 3)]) 8 3 [1, 2, 3] false) (pairK) (1) (3) (0) (0) (0) (entry)) = true := by decide +kernel

theorem wit_RemoteRequestsAtTheTarget_6 :
    ((fun (s : State) (p : Packet) (k port i va n pa : Nat) (e : KeyEnt) => decide (s.calm) && decide (s.delivers p k port) && decide (i = keyIndex p.rkey) && decide (p.sigr = false) && decide ((s.prx.look k).refusals.length < 4) && decide (p.op = .put) && decide (s.flag F.RMA_KTAB_CTRL_EN = false) && decide (p.last = true) && decide (s.ctlSent = []) && decide ((s.endpoint p.srcNode).isSome = true) && (completesB s (.putArrival p) fun t => decide (
        (t.prx.look k).expected = (p.psn + 1) % 2 ^ 24 ∧ (t.prx.look k).refusals = (s.prx.look k).refusals ++
          [{ (default : Rfsl) with num := (s.prx.look k).nextRef, opid := wbits p.opid 31 0, status := stKeyInvalid, firstPsn := p.psn, lastPsn := p.psn, sent := true }] ∧
        t.sentCtl .refuse p.psn p.srcNode p.srcFunc = true))) ((keyState.put F.RMA_KTAB_CTRL_EN 0)) (packet .put 4 (packW [(24, 3)]) 8 3 [1, 2, 3] true) (pairK) (1) (3) (0) (0) (0) (entry)) = true := by decide +kernel

theorem wit_AtomicsAndResponses_1 :
    ((fun (s : State) (line k pa x : Nat) (ks : List Nat) (p : Packet) => decide (s.calm) && decide ((s.lines.look line).q = k :: ks) && decide ((s.lines.look line).granted = false) && decide ((s.prx.look k).cur = some p) && decide ((s.prx.look k).st = .lineWait x pa) && decide ((s.get F.RMA_ATOMIC_CTRL_ATOMICOP).testBit (s.prx.look k).port = false) && decide ((s.prx.look k).live = true) && (givesB s (.lineLockGrant line) ({ s with
        prx := s.prx.upd k fun r => { r with st := .line line pa }
        lines := s.lines.put line { s.lines.look line with granted := true, pa := pa, atomicOp := false } }.out
        (.hostRead (2 ^ 60 + line) (s.prx.look k).port (s.prx.look k).fn [(pa / 8 * 8, 8)])))) ({ keyState with lines := [(7, ⟨[pairK], false, 0, false⟩)] }.updRx pairK (fun r => { r with cur := some (packet .amo 4 0 8 16 [1] true), st := .lineWait 7 0x6310C })) (7) (pairK) (0x6310C) (7) ([]) (packet .amo 4 0 8 16 [1] true)) = true := by decide +kernel

theorem wit_AtomicsAndResponses_2 :
    ((fun (s : State) (line k pa x : Nat) (ks : List Nat) (p : Packet) => decide (s.calm) && decide ((s.lines.look line).q = k :: ks) && decide ((s.lines.look line).granted = false) && decide ((s.prx.look k).cur = some p) && decide ((s.prx.look k).st = .lineWait x pa) && decide ((s.get F.RMA_ATOMIC_CTRL_ATOMICOP).testBit (s.prx.look k).port = true) && decide ((amoSub p = 0 ∨ amoSub p = 10 ∨ (amoSub p = 11 ∧ amoW32 p = false))) && (givesB s (.lineLockGrant line) ({ s with
        prx := s.prx.upd k fun r => { r with st := .line line pa }
        lines := s.lines.put line { s.lines.look line with granted := true, pa := pa, atomicOp := true } }.out
        (.hostAtomic (2 ^ 60 + line) (s.prx.look k).port (s.prx.look k).fn pa (amoSub p) (amoBytes p) (BitVec.ofNat 64 (ofBytes (p.payload.take 8)))
          (BitVec.ofNat 64 (ofBytes ((p.payload.drop 8).take 8))))))) (({ keyState with lines := [(7, ⟨[pairK, 3], false, 0, false⟩)] }.put F.RMA_ATOMIC_CTRL_ATOMICOP 2).updRx pairK (fun r => { r with cur := some (packet .amo 4 0 8 16 [1] true), st := .lineWait 7 0x6310C })) (7) (pairK) (0x6310C) (7) ([3]) (packet .amo 4 0 8 16 [1] true)) = true := by decide +kernel

theorem wit_AtomicsAndResponses_3 :
    ((fun (s : State) (line k pa x old : Nat) (ks : List Nat) (p : Packet) => decide (s.calm) && decide ((s.lines.look line).q = k :: ks) && decide ((s.lines.look line).granted = true) && decide ((s.lines.look line).atomicOp = false) && decide ((s.prx.look k).cur = some p) && decide ((s.prx.look k).st = .line x pa) && decide ((s.prx.look k).held = []) && decide ((s.prx.look k).dups = []) && decide ((s.prx.look k).curDup = false) && decide (p.sigr = false) && decide (amoW32 p = false) && decide (old < 2 ^ 64) && (completesB s (.atomicReadReturn line (.ok [BitVec.ofNat 64 old])) fun t => decide (
        (.hostWrite (s.prx.look k).port (s.prx.look k).fn [(pa, 8)]
          (leBytes (amoResult (amoSub p) 64 old (ofBytes (p.payload.take 8)) (ofBytes ((p.payload.drop 8).take 8))) 8)) ∈ s.newOuts t ∧
        (t.lines.look line).q = ks ∧ (t.lines.look line).granted = false ∧ (t.prx.look k).cur = none ∧ (t.prx.look k).expected = ((s.prx.look k).expected + 1) % 2 ^ 24 ∧
        (amoFetch p = true → t.amoRes.look (amoKey k p.psn) = ⟨k, p.psn, BitVec.ofNat 64 old, 2 * s.lifetime, false⟩)))) ({ keyState with lines := [(7, ⟨[pairK, 3], true, 0, false⟩)] }.updRx pairK (fun r => { r with cur := some (packet .amo 4 0 0x2000000008 16 [1, 0, 0, 0, 0, 0, 0, 0] true), st := .line 7 0x63108 })) (7) (pairK) (0x63108) (7) ((2 ^ 64 - 1)) ([3]) (packet .amo 4 0 0x2000000008 16 [1, 0, 0, 0, 0, 0, 0, 0] true)) = true := by decide +kernel

theorem wit_AtomicsAndResponses_4 :
    ((fun (s : State) (line k pa x old : Nat) (ks : List Nat) (p : Packet) => decide (s.calm) && decide ((s.lines.look line).q = k :: ks) && decide ((s.lines.look line).granted = true) && decide ((s.lines.look line).atomicOp = true) && decide ((s.prx.look k).cur = some p) && decide ((s.prx.look k).st = .line x pa) && decide ((s.prx.look k).held = []) && decide ((s.prx.look k).dups = []) && decide ((s.prx.look k).curDup = false) && decide (p.sigr = false) && decide (amoW32 p = false) && decide (old < 2 ^ 64) && (completesB s (.atomicopComplete line (.ok [BitVec.ofNat 64 old])) fun t => decide (
        (t.lines.look line).q = ks ∧ (t.lines.look line).granted = false ∧ (t.prx.look k).cur = none ∧ (t.prx.look k).expected = ((s.prx.look k).expected + 1) % 2 ^ 24 ∧
        (amoFetch p = true → t.amoRes.look (amoKey k p.psn) = ⟨k, p.psn, BitVec.ofNat 64 old, 2 * s.lifetime, false⟩)))) ({ keyState with lines := [(7, ⟨[pairK, 3], true, 0, true⟩)] }.updRx pairK (fun r => { r with cur := some (packet .amo 4 0 0x2000000008 16 [1, 0, 0, 0, 0, 0, 0, 0] true), st := .line 7 0x63108 })) (7) (pairK) (0x63108) (7) (5) ([3]) (packet .amo 4 0 0x2000000008 16 [1, 0, 0, 0, 0, 0, 0, 0] true)) = true := by decide +kernel

theorem wit_AtomicsAndResponses_5 :
    ((fun (s : State) (key : Nat) (a : AmoRes) => decide (s.calm) && decide ((s.amoRes.find? fun e => e.1 == key) = some (key, a)) && decide ((a.left = 0 ∨ a.acked = true)) && (givesB s (.amoResultExpiry key) { s with amoRes := s.amoRes.del key })) ({ base with amoRes := [(9, ⟨1, 2, 3, 0, false⟩)] }) (9) (⟨1, 2, 3, 0, false⟩)) = true := by decide +kernel

theorem wit_AtomicsAndResponses_6 :
    ((fun (s : State) (p : Packet) (j ch va port : Nat) (x : TxPkt) => decide (s.calm) && decide (okPacket p = true) && decide (p.op = .getResp) && decide (p.crcOk = true) && decide (s.endpoint p.dstNode = some (s.self, port)) && decide (s.quiet = false) && decide (s.age p.birth ≤ s.lifetime) && decide (s.tagOk p = true) && decide (0 < p.payload.length) && decide (p.payload.length ≤ s.burstSize ch) && decide (va % 4096 + p.payload.length ≤ 4096) && decide ((s.ops.keysOf fun o => o.live && o.fin.isNone && o.eng == .bulk && o.src.1 / 4 * 4 == pairKey port p.dstFunc p.srcNode p.srcFunc 0 &&
        (o.opid == wbits p.opid 31 0 && (o.opcode == 0x21 || o.opcode == 0x23))) = [j]) && decide (((s.ptx.look (s.ops.look j).src.1).pkts.find? fun x => x.op == j && x.psn == p.psn) = some x) && decide (x.loff ≤ wbits p.raddr 31 0) && decide (wbits p.raddr 31 0 + p.payload.length ≤ (s.ops.look j).x.total) && decide (covered (s.ops.look j).got (wbits p.raddr 31 0) p.payload.length = false) && decide ((s.ops.look j).bound = some ch) && decide ((s.chans.look ch).bursts = []) && decide ((s.chans.look ch).jumped = []) && decide ((s.ops.look j).localAt (wbits p.raddr 31 0) p.payload.length = [(va, p.payload.length)]) && (givesB s (.getRespArrival p) { s with
        chans := s.chans.upd ch fun x => { x with
          jumped := [{ (default : Burst) with
            id := x.nextId, op := j, kind := .placeResp p.psn, off := wbits p.raddr 31 0, len := p.payload.length, pieces := [(va, p.payload.length)], data := p.payload }]
          nextId := x.nextId + 1 } })) ({ delivering base with ops := [(195, { (default : Op) with live := true, opcode := 0x21, eng := .bulk, src := (pairKey 1 2 4 3 1, 0), bound := some 2, opid := 8, x := { (default : Xfer) with la := 0x10200, total := 9 } })], ptx := [(pairKey 1 2 4 3 1, { (default : PairTx) with pkts := [{ (default : TxPkt) with op := 195, psn := 100 }] })] }) (packet .getResp 4 0 8 5 [1, 2, 3, 4, 5] false) (195) (2) (0x10204) (1) ({ (default : TxPkt) with op := 195, psn := 100 })) = true := by decide +kernel

theorem wit_AtomicsAndResponses_7 :
    ((fun (s : State) (p : Packet) (j port : Nat) (x : TxPkt) => decide (s.calm) && decide (okPacket p = true) && decide (p.op = .amoResp) && decide (p.crcOk = true) && decide (s.endpoint p.dstNode = some (s.self, port)) && decide (s.quiet = false) && decide (s.age p.birth ≤ s.lifetime) && decide (s.tagOk p = true) && decide (s.unbound = []) && decide (s.chans = []) && decide ((s.ops.keysOf fun o => o.live && o.fin.isNone && o.eng == .bulk && o.src.1 / 4 * 4 == pairKey port p.dstFunc p.srcNode p.srcFunc 0 &&
        (o.opid == wbits p.opid 31 0 && o.opcode == 0x25)) = [j]) && decide ((s.ops.look j).live = true) && decide ((s.ops.look j).fin = none) && decide (((s.ptx.look (s.ops.look j).src.1).pkts.find? fun x => x.op == j && x.psn == p.psn) = some x) && decide ((s.ops.look j).x.w32 = false) && decide (s.ctlSent = []) && decide ((s.endpoint p.srcNode).isSome = true) && decide ((s.key p.domain).isSome = true) && (completesB s (.amoRespArrival p) fun t => decide (
        (t.ops.look j).fin = some (stOk, 8, some (BitVec.ofNat 64 (ofBytes (p.payload.take 8)))) ∧ t.sentCtl .ack p.psn p.srcNode p.srcFunc = true))) ({ delivering base with ops := [(195, { (default : Op) with live := true, opcode := 0x25, eng := .bulk, src := (pairKey 1 2 4 3 1, 0), opid := 8 })], ptx := [(pairKey 1 2 4 3 1, { (default : PairTx) with pkts := [{ (default : TxPkt) with op := 195, psn := 100 }] })] }) (packet .amoResp 0 0 8 8 [1, 2, 3, 4, 5, 6, 7, 8] true) (195) (1) ({ (default : TxPkt) with op := 195, psn := 100 })) = true := by decide +kernel

theorem wit_AtomicsAndResponses_8 :
    ((fun (s : State) (i k : Nat) (ws : List Word) (e : KeyEnt) => decide (s.calm) && decide (i < 2 ^ 24) && decide (e = KeyEnt.ofWords ws) && decide ((e.epoch ≠ s.inc ∨ s.integ i e.head = tagOfWords ws)) && decide (s.flag F.RMA_KTAB_CTRL_EN = true) && decide (s.kwait = [(i, KeyWait.pair k)]) && decide ((s.prx.look k).st ≠ .key) && (givesB s (.keyTableReadReturn i (.ok ws)) ({ s with kwait := [] }.kfill i e))) ({ keyState with kwait := [(2, .pair pairK)] }) (2) (pairK) ([0xF000001000050001, 0x1000, 256, 9, 0, 0, 0, 0]) (KeyEnt.ofWords [0xF000001000050001, 0x1000, 256, 9, 0, 0, 0, 0])) = true := by decide +kernel

theorem wit_AtomicsAndResponses_9 :
    ((fun (s : State) (o : Origin) (v : Word) => decide (s.calm) && decide (s.mayWrite o 0x500000) && decide (okOrigin o = true) && decide (wbit v 0 = false) && (givesB s (.keyTableEnableWrite o v) ({ s with kcache := [] }.put F.RMA_KTAB_CTRL_EN 0))) (keyState) (.sideband) (2)) = true := by decide +kernel

theorem wit_AtomicsAndResponses_10 :
    ((fun (s : State) (o : Origin) (v : Word) => decide (s.calm) && decide (s.mayWrite o 0x500000) && decide (okOrigin o = true) && decide (wbit v 0 = true) && decide (s.flag F.RMA_KTAB_CTRL_EN = false) && (givesB s (.keyTableEnableWrite o v) ((s.put F.RMA_KTAB_CTRL_EN 1).put F.RMA_KTAB_STATUS_LIVE_KEYS 0))) (base) (.sideband) (1)) = true := by decide +kernel

/-! ### The bulk mover -/

/-- A PUT of 9,000 B from 0x10000 of the run in context 3, bound to channel 2; its pair channel is at its limit. -/
def putOp : Op :=
  { (default : Op) with live := true, opcode := 0x20, eng := .bulk, src := (pairKey 1 2 7 3 1, 0), bound := some 2, x := { (default : Xfer) with la := 0x10000, total := 9000 } }

/-- Channel 2 holds the operation. -/
def moving (ch : Chan → Chan) : State :=
  { puts (mapped base) [(F.BLK_CH_CFG_EN 2, 1)] with
    runs := [(3, runOf [])], ops := [(195, putOp)], chans := [(2, ch { (default : Chan) with ops := [195], nextId := 4 })], nextId := 50 }

/-- Channel 2 in the register form, with a set of 32 B in address space 1. -/
def rform (ch : Chan → Chan) : State :=
  { puts (mapped base) [(F.BLK_CH_CFG_EN 2, 1), (F.BLK_CH_CFG_REGFORM 2, 1), (F.BLK_SH_COUNT_COUNT 2, 32), (F.BLK_SH_CTRL_PASID 2, 1), (F.BLK_SH_SRC_SRC 2, 0x10100)] with
    chans := [(2, ch { (default : Chan) with nextId := 4, set := { (default : RfSet) with count := 32, pasid := 1, vector := 9 } })], nextId := 50 }

/-! ### Statements on The bulk mover and tolls (spec/10, spec/14): for each clause a state that meets its hypotheses -/

theorem wit_ChannelsAndBursts_1 :
    ((fun (s : State) (c : Nat) (b : Burst) (port pasid dom va n pa : Nat) => decide (s.calm) && decide (c ≤ 127) && decide (s.chanReady c = some b) && decide (s.burstHome c b = (port, pasid, dom)) && decide (s.outranked c port = false) && decide (b.kind = .read) && decide ((s.chans.look c).jumped = []) && decide (s.flag F.TOL_CTRL_METER_EN = false) && decide (b.pieces = [(va, n)]) && decide (b.data = []) && decide (s.maps pasid dom .read va n pa) && (givesB s (.burstGrant c) ({ s with
        ops := s.ops.upd b.op fun o => { o with asked := o.asked + b.len }
        chans := s.chans.upd c fun ch => { ch with
          bursts := ch.bursts ++ [{ b with id := ch.nextId, issued := true, scav := false, faulted := none }], nextId := ch.nextId + 1 } }.asked
        (.burst c (s.chans.look c).nextId) pasid dom va n pa))) ((moving id).put F.TOL_CTRL_METER_EN 0) (2) ({ (default : Burst) with op := 195, kind := .read, len := (moving id).burstSize 2 , pieces := [(0x10000, (moving id).burstSize 2)] }) (1) (1) (5) (0x10000) ((moving id).burstSize 2) (0x63000)) = true := by decide +kernel

theorem wit_ChannelsAndBursts_2 :
    ((fun (s : State) (c : Nat) (b : Burst) (port pasid dom n : Nat) => decide (s.calm) && decide (c ≤ 127) && decide (s.chanReady c = some b) && decide (s.burstHome c b = (port, pasid, dom)) && decide (s.outranked c port = false) && decide (b.kind = .read) && decide (s.flag F.TOL_CTRL_METER_EN = true) && decide (s.tollOf dom 0 = some n) && decide ((s.tolls.look n).tp < b.len) && decide ((s.tolls.look n).red ≠ 1) && (givesB s (.burstGrant c) ({ s with
        tolls := s.tolls.put n { s.tolls.look n with reds := satAdd 32 (s.tolls.look n).reds 1 }
        chans := s.chans.upd c fun ch => { ch with deferred := some n } }.ledger dom ldRed 1))) ({ (moving id).put F.TOL_CTRL_METER_EN 1 with tolls := [(6, { (default : Toll) with dom := 5, en := true, cbs := 4096, pbs := 4096, tp := 255 })] }) (2) ({ (default : Burst) with op := 195, kind := .read, len := (moving id).burstSize 2 , pieces := [(0x10000, (moving id).burstSize 2)] }) (1) (1) (5) (6)) = true := by decide +kernel

theorem wit_ChannelsAndBursts_3 :
    ((fun (s : State) (c : Nat) (id bid d : Nat) (b : Burst) (bs : List Byte) => decide (s.calm) && decide (c ≤ 127) && decide ((s.accs.keysOf fun a => a.client == .burst c bid) = [id]) && decide ((s.accs.look id).st = .issued) && decide ((s.accs.look id).client = .burst c bid) && decide (bs.length = chunkLen (s.accs.look id).orig) && decide (((s.chans.look c).bursts.find? fun x => x.id == bid) = some b) && decide (b.id = bid) && decide (b.kind = .rfRd d) && (givesB s (.burstComplete c bid (.ok bs)) { s with
        accs := s.accs.del id
        chans := (s.chans.upd c fun ch => { ch with bursts := ch.bursts.filter fun x => x.id != bid }).upd c fun ch => { ch with
          jumped := ch.jumped ++ [{ b with id := ch.nextId, kind := .rfWr, pieces := [(d, b.len)], data := bs, issued := false }], nextId := ch.nextId + 1 } })) ({ rform (fun ch => { ch with act := .busy, bursts := [{ (default : Burst) with id := 3, kind := .rfRd 0x10200, len := 2, issued := true }] }) with accs := [(40, { (default : Access) with client := .burst 2 3, st := .issued, orig := [(0x10100, 2)] })] }) (2) (40) (3) (0x10200) ({ (default : Burst) with id := 3, kind := .rfRd 0x10200, len := 2, issued := true }) ([7, 8])) = true := by decide +kernel

theorem wit_ChannelsAndBursts_4 :
    ((fun (s : State) (c : Nat) (id bid d : Nat) (b : Burst) => decide (s.calm) && decide (c ≤ 127) && decide (s.accs.keysOf (fun a => match a.client with | .burst x _ => x == c | _ => false) = [id]) && decide ((s.accs.keysOf fun a => a.client == .burst c bid) = [id]) && decide ((s.accs.look id).st = .issued) && decide ((s.accs.look id).client = .burst c bid) && decide ((s.chans.look c).bursts = [b]) && decide (b.id = bid) && decide (b.kind = .rfRd d) && decide ((s.chans.look c).jumped = []) && decide ((s.chans.look c).set.irqEn = false) && (completesB s (.burstComplete c bid .busErr) fun t => decide (
        t = { s with accs := t.accs, chans := t.chans, regs := t.regs, outs := t.outs } ∧ (t.chans.look c).lastSt = stBus ∧ (t.chans.look c).act = .halted ∧
        (t.chans.look c).bytes = min (s.chans.look c).bytes b.off ∧ (t.chans.look c).bursts = [] ∧ (t.chans.look c).set = (s.chans.look c).set))) ({ rform (fun ch => { ch with act := .busy, bytes := 9, bursts := [{ (default : Burst) with id := 3, kind := .rfRd 0x10200, off := 4, len := 2, issued := true }] }) with accs := [(40, { (default : Access) with client := .burst 2 3, st := .issued, orig := [(0x10100, 2)] })] }) (2) (40) (3) (0x10200) ({ (default : Burst) with id := 3, kind := .rfRd 0x10200, off := 4, len := 2, issued := true })) = true := by decide +kernel

theorem wit_ChannelsAndBursts_5 :
    ((fun (s : State) (c : Nat) (b : Burst) (bs : List Burst) (cause level va ctx : Nat) => decide (s.calm) && decide (c ≤ 127) && decide ((s.chans.look c).bursts = b :: bs) && decide (b.faulted = some (cause, level, va)) && decide ((s.chans.look c).parked = false) && decide (s.regform c = false) && decide (b.kind = .read) && decide (ctx = b.op / 64) && decide ((s.chans.look c).ops = [b.op]) && (givesB s (.channelPark c) { s with
        chans := s.chans.upd c fun ch => { ch with parked := true, parkOp := s.handle ctx }
        runs := s.runs.upd ctx fun r => { r with
          parkedOps := r.parkedOps ++ [b.op], faults := r.faults ++ [⟨1, cause, level, 0, va, (s.ops.look b.op).pc⟩] } })) (moving (fun ch => { ch with bursts := [{ (default : Burst) with id := 3, op := 195, kind := .read, faulted := some (2, 1, 0x10100) }] })) (2) ({ (default : Burst) with id := 3, op := 195, kind := .read, faulted := some (2, 1, 0x10100) }) ([]) (2) (1) (0x10100) (3)) = true := by decide +kernel

theorem wit_ChannelsAndBursts_6 :
    ((fun (s : State) (c : Nat) (k : Nat) (ks : List Nat) => decide (s.calm) && decide (c ≤ 127) && decide (s.unbound = k :: ks) && decide (s.pickChan (s.opRun k).wq (s.ops.look k).pair = some c) && decide ((s.chans.look c).ops = []) && decide ((s.ops.look k).opcode = 0x26) && decide ((s.ops.look k).failSt = none) && (givesB s .operationBind { s with
        unbound := ks, ops := s.ops.upd k fun o => { o with bound := some c }, chans := s.chans.upd c fun ch => { ch with ops := [k] } })) ({ moving (fun ch => { ch with ops := [] }) with unbound := [195], ops := [(195, { putOp with opcode := 0x26, bound := none })] }) (0) (195) ([])) = true := by decide +kernel

theorem wit_RegisterFormTransfers_1 :
    ((fun (s : State) (o : Origin) (c : Nat) => decide (s.calm) && decide (c < 16) && decide (okOrigin o = true) && decide (s.mayWrite o (0x581030 + 128 * c)) && decide (s.regform c = true) && decide ((s.chans.look c).armed = false) && decide (s.flag (F.BLK_CH_CFG_EN c) = true) && decide ((s.chans.look c).act ≠ .idle) && (givesB s (.rfGo o c) { s with chans := s.chans.upd c fun ch => { ch with armed := true } })) (rform (fun ch => { ch with act := .busy })) (.sideband) (2)) = true := by decide +kernel

theorem wit_RegisterFormTransfers_2 :
    ((fun (s : State) (o : Origin) (c : Nat) (x : RfSet) => decide (s.calm) && decide (c < 16) && decide (okOrigin o = true) && decide (s.mayWrite o (0x581030 + 128 * c)) && decide (s.regform c = true) && decide ((s.chans.look c).armed = false) && decide (s.flag (F.BLK_CH_CFG_EN c) = true) && decide ((s.chans.look c).act = .idle) && decide (x = ⟨s.get (F.BLK_SH_SRC_SRC c), s.get (F.BLK_SH_DST_DST c), s.get (F.BLK_SH_COUNT_COUNT c), s.get (F.BLK_SH_IDX_IDX c), s.flag (F.BLK_SH_CTRL_IRQ_EN c),
        s.get (F.BLK_SH_CTRL_VECTOR c), s.get (F.BLK_SH_CTRL_ESIZE c), s.get (F.BLK_SH_CTRL_MODE c), s.get (F.BLK_SH_CTRL_PASID c)⟩) && decide ((s.pas.look x.pasid).st = .active) && decide ((s.pas.look x.pasid).dom.isSome = true) && decide (x.mode = 0) && decide (x.count ≠ 0) && (givesB s (.rfGo o c) { s with chans := s.chans.upd c fun ch => { ch with
        set := x, armed := false, handSeq := (ch.handSeq + 1) % 65536, bytes := 0, act := .busy, asked := 0, rfIdx := [], rfIdxAsked := 0, bursts := [], jumped := [] } })) (rform id) (.sideband) (2) (⟨0x10100, 0, 32, 0, false, 0, 0, 0, 1⟩)) = true := by decide +kernel

theorem wit_RegisterFormTransfers_3 :
    ((fun (s : State) (o : Origin) (c : Nat) => decide (s.calm) && decide (c < 16) && decide (okOrigin o = true) && decide (s.mayWrite o (0x581030 + 128 * c)) && decide (s.regform c = true) && decide ((s.chans.look c).armed = false) && decide (s.flag (F.BLK_CH_CFG_EN c) = true) && decide ((s.chans.look c).act = .idle) && decide ((s.pas.look (s.get (F.BLK_SH_CTRL_PASID c))).st ≠ .active) && decide (s.flag (F.BLK_SH_CTRL_IRQ_EN c) = false) && decide (s.accs = []) && (completesB s (.rfGo o c) fun t => decide ( (t.chans.look c).lastSt = stAborted ∧ (t.chans.look c).act = .halted ∧ (t.chans.look c).armed = false))) ({ rform id with pas := [] }) (.sideband) (2)) = true := by decide +kernel

theorem wit_RegisterFormTransfers_4 :
    ((fun (s : State) (o : Origin) (c : Nat) => decide (s.calm) && decide (c < 16) && decide (okOrigin o = true) && decide (s.mayWrite o (0x581030 + 128 * c)) && decide (s.regform c = true) && decide ((s.chans.look c).act = .parked) && decide ((s.chans.look c).bursts = []) && (givesB s (.rfResume o c) { s with chans := s.chans.upd c fun ch => { ch with act := .busy, parked := false, parkOp := 0 } })) (rform (fun ch => { ch with act := .parked, parked := true, parkOp := 9 })) (.sideband) (2)) = true := by decide +kernel

theorem wit_RegisterFormTransfers_5 :
    ((fun (s : State) (o : Origin) (c : Nat) => decide (s.calm) && decide (c < 16) && decide (okOrigin o = true) && decide (s.mayWrite o (0x581030 + 128 * c)) && decide (s.regform c = true) && decide ((s.chans.look c).act ≠ .parked) && (givesB s (.rfResume o c) { s with chans := s.chans.upd c fun ch => { ch with cmdIgnored := satAdd 16 ch.cmdIgnored 1 } })) (rform (fun ch => { ch with act := .busy })) (.sideband) (2)) = true := by decide +kernel

theorem wit_RegisterFormTransfers_6 :
    ((fun (s : State) (o : Origin) (c : Nat) => decide (s.calm) && decide (c < 16) && decide (okOrigin o = true) && decide (s.mayWrite o (0x581030 + 128 * c)) && decide (s.regform c = true) && decide ((s.chans.look c).act = .busy) && decide ((s.chans.look c).armed = false) && decide ((s.chans.look c).set.irqEn = false) && decide (s.accs = []) && (givesB s (.rfAbort o c) { s with chans := (s.chans.upd c fun ch => { ch with lastSt := stAborted, bursts := [], jumped := [], parked := false, act := .idle }).upd c (fun ch => { ch with act := .idle }) })) (rform (fun ch => { ch with act := .busy, bytes := 4 })) (.sideband) (2)) = true := by decide +kernel

theorem wit_RegisterFormTransfers_7 :
    ((fun (s : State) (o : Origin) (c : Nat) => decide (s.calm) && decide (c < 16) && decide (okOrigin o = true) && decide (s.mayWrite o (0x581030 + 128 * c)) && decide (s.regform c = true) && decide ((s.chans.look c).act = .busy) && decide ((s.chans.look c).set.irqEn = false) && decide (s.accs = []) && (givesB s (.rfAbortAll o c) { s with chans := (s.chans.upd c fun ch => { ch with lastSt := stAborted, bursts := [], jumped := [], parked := false, act := .idle }).upd c (fun ch => { ch with armed := false, act := .idle }) })) (rform (fun ch => { ch with act := .busy, armed := true })) (.sideband) (2)) = true := by decide +kernel

theorem wit_RegisterFormTransfers_8 :
    ((fun (s : State) (o : Origin) (c : Nat) => decide (s.calm) && decide (c < 16) && decide (okOrigin o = true) && decide (s.mayWrite o (0x581030 + 128 * c)) && decide (s.regform c = true) && decide ((s.chans.look c).act = .halted) && (givesB s (.rfAbortAll o c) { s with chans := s.chans.upd c fun ch => { ch with armed := false, act := .idle } })) (rform (fun ch => { ch with act := .halted, armed := true })) (.sideband) (2)) = true := by decide +kernel

theorem wit_RegisterFormTransfers_9 :
    ((fun (s : State) (o : Origin) (c : Nat) => decide (s.calm) && decide (c < 16) && decide (okOrigin o = true) && decide (s.mayWrite o (0x581030 + 128 * c)) && decide (s.regform c = true) && decide ((s.chans.look c).act = .halted) && decide ((s.chans.look c).armed = false) && (givesB s (.rfContinue o c) { s with chans := s.chans.upd c fun ch => { ch with act := .idle } })) (rform (fun ch => { ch with act := .halted })) (.sideband) (2)) = true := by decide +kernel

theorem wit_RegisterFormTransfers_10 :
    ((fun (s : State) (o : Origin) (c : Nat) => decide (s.calm) && decide (c < 16) && decide (okOrigin o = true) && decide (s.mayWrite o (0x581030 + 128 * c)) && decide (s.regform c = true) && decide ((s.chans.look c).act = .idle) && (givesB s (.rfContinue o c) { s with chans := s.chans.upd c fun ch => { ch with cmdIgnored := satAdd 16 ch.cmdIgnored 1 } })) (rform (fun ch => { ch with act := .idle })) (.sideband) (2)) = true := by decide +kernel

theorem wit_RegisterFormTransfers_11 :
    ((fun (s : State) (o : Origin) (c : Nat) => decide (s.calm) && decide (c < 16) && decide (okOrigin o = true) && decide (s.mayWrite o (0x581030 + 128 * c)) && decide (s.regform c = true) && decide ((s.chans.look c).act = .busy) && decide ((s.chans.look c).set.mode = 0) && decide ((s.chans.look c).set.count ≤ (s.chans.look c).bytes) && decide ((s.chans.look c).bursts = []) && decide ((s.chans.look c).armed = false) && decide ((s.chans.look c).set.irqEn = true) && decide (s.accs = []) && decide ((s.pas.look (s.chans.look c).set.pasid).st = .active) && decide (s.vectorOpen (s.pas.look (s.chans.look c).set.pasid).port (s.pas.look (s.chans.look c).set.pasid).fn (s.chans.look c).set.vector) && (givesB s (.rfTransferComplete c) ({ s with
        chans := (s.chans.upd c fun ch => { ch with lastSt := stOk, bursts := [], jumped := [], parked := false, act := .idle }).upd c fun ch => { ch with act := .idle } }.out
        (.msix (s.pas.look (s.chans.look c).set.pasid).port (s.pas.look (s.chans.look c).set.pasid).fn (s.chans.look c).set.vector)))) ({ rform (fun ch => { ch with act := .busy, bytes := 32, set := { ch.set with irqEn := true } }) with fns := [(131, { (default : HostFn) with bme := true, msixEn := true, unmasked := [9] })] }) (.sideband) (2)) = true := by decide +kernel

/-! ### Collectives -/

/-- Group 6 of domain 5 on port 3, whose peer is router 8. -/
def collecting (g : Cgrp → Cgrp) : State :=
  { (delivering base) with
    grps := [(6, g { (default : Cgrp) with st := 2, dom := 5, parent := 3, bufSegs := 2, edges := [⟨3, true, 4, [], 20, 30, [], 0, true⟩] })]
    fports := [(3, { (default : FPort) with peerRouter := 8 })] }

/-- A collective packet on port 3, travelling down or up. -/
def collPkt (kind seq : Nat) (down : Bool) (opid : Word) : Packet :=
  { (default : Packet) with
    domain := 5, psn := 30, srcInc := 8, op := .coll, chan := 3, raddr := packW [(0, 6), (12, kind), (16, seq)], opid := opid, crcOk := true
    sealed := ⟨11, colIv 8 9 6 down 30 8 0, true⟩ }

/-! ### Statements on Collectives (spec/11): for each clause a state that meets its hypotheses -/

theorem wit_CollectiveGroups_1 :
    ((fun (s : State) (g : Nat) (port : Nat) (p : Packet) (e : CEdge) => decide (s.calm) && decide (g < 4096) && decide (s.collDelivers port g p e) && decide (colKind p = 0) && decide ((s.grps.look g).st = 1) && decide ((s.grps.look g).children = []) && decide ((s.grps.look g).downs = []) && (completesB s (.grantArrival port p) fun t => decide (
        (t.grps.look g).st = 2 ∧ (t.grps.look g).mems = (s.grps.look g).mems ∧
        (t.grps.look g).edges = [{ e with credit := e.credit + wbits p.opid 15 0, granted := true, rxExp := (e.rxExp + 1) % 2 ^ 24, heldAge := 0 }]))) (collecting (fun g => { g with st := 1 })) (6) (3) (collPkt 0 0 true 7) (⟨3, true, 4, [], 20, 30, [], 0, true⟩)) = true := by decide +kernel

theorem wit_CollectiveGroups_2 :
    ((fun (s : State) (g : Nat) (port : Nat) (p : Packet) (e : CEdge) => decide (s.calm) && decide (g < 4096) && decide (s.collDelivers port g p e) && decide (1 ≤ colKind p) && decide (colKind p ≤ 4) && decide (e.up = false) && decide ((s.grps.look g).st = 2) && decide ((s.grps.look g).children = [port]) && decide ((s.grps.look g).slots = []) && (completesB s (.collUpArrival port p) fun t => decide (
        (t.grps.look g).slots = [⟨colSeq p, colSeg p, [(0, p)]⟩] ∧ (t.grps.look g).edges = [{ e with rxExp := (e.rxExp + 1) % 2 ^ 24, heldAge := 0 }] ∧
        (t.grps.look g).mems = (s.grps.look g).mems ∧ (t.grps.look g).downs = (s.grps.look g).downs))) (collecting (fun g => { g with root := true, children := [3], edges := [⟨3, false, 4, [], 20, 30, [], 0, true⟩] })) (6) (3) (collPkt 3 9 false 0) (⟨3, false, 4, [], 20, 30, [], 0, true⟩)) = true := by decide +kernel

theorem wit_CollectiveGroups_3 :
    ((fun (s : State) (g : Nat) (port k : Nat) (p : Packet) (e : CEdge) (m : CMem) => decide (s.calm) && decide (g < 4096) && decide (s.collDelivers port g p e) && decide (colKind p = 1) && decide (colSeg p = 0) && decide (e.up = true) && decide ((s.grps.look g).st = 2) && decide ((s.grps.look g).root = false) && decide ((s.grps.look g).parent = port) && decide ((s.grps.look g).children = []) && decide ((s.grps.look g).downs = []) && decide ((s.grps.look g).mems = [m]) && decide (m.op = some k) && decide (m.seq = colSeq p) && decide (m.placed = 0) && decide ((s.ops.look k).live = true) && decide ((s.ops.look k).fin = none) && decide ((s.ops.look k).opcode = 0x50) && decide ((s.ops.look k).bound = none) && decide ((s.ops.look k).eng ≠ .bulk) && decide (s.chans = []) && decide (s.unbound = []) && (completesB s (.collDownArrival port p) fun t => decide (
        (t.ops.look k).fin = some (stOk, (s.ops.look k).x.total, none) ∧ (t.grps.look g).mems = [{ m with op := none, given := 0, placed := 0 }] ∧ (t.grps.look g).downs = [] ∧
        (t.grps.look g).edges.map (·.rxExp) = [(e.rxExp + 1) % 2 ^ 24]))) ({ collecting (fun g => { g with mems := [⟨1, 2, true, 9, some 195, 1, 0⟩] }) with ops := [(195, { (default : Op) with live := true, opcode := 0x50, eng := .coll })] }) (6) (3) (195) (collPkt 1 9 true 0) (⟨3, true, 4, [], 20, 30, [], 0, true⟩) (⟨1, 2, true, 9, some 195, 1, 0⟩)) = true := by decide +kernel

theorem wit_CollectiveGroups_4 :
    ((fun (s : State) (g : Nat) (port : Nat) (p : Packet) (e : CEdge) => decide (s.calm) && decide (g < 4096) && decide (s.collDelivers port g p e) && decide (colKind p = 5) && decide (((s.grps.look g).st = 1 ∨ (s.grps.look g).st = 2)) && decide ((s.grps.look g).mems = []) && (completesB s (.breakArrival port p) fun t => decide (
        (t.grps.look g).st = 3 ∧ (t.grps.look g).cause = wbits p.opid 3 0 ∧ (t.grps.look g).remote = true ∧ (t.grps.look g).slots = [] ∧ (t.grps.look g).downs = [] ∧
        t.flag (fltPend 0x0C2) = true))) (collecting id) (6) (3) (collPkt 5 0 true 7) (⟨3, true, 4, [], 20, 30, [], 0, true⟩)) = true := by decide +kernel

theorem wit_CollectiveGroups_5 :
    ((fun (s : State) (g : Nat) (seq seg : Nat) (p : Packet) (e : CEdge) (m : CMem) => decide (s.calm) && decide (g < 4096) && decide (seq < 65536) && decide (seg < 2 ^ 24) && decide ((s.grps.look g).st = 2) && decide ((s.grps.look g).root = false) && decide ((s.grps.look g).edges = [e]) && decide (e.port = (s.grps.look g).parent) && decide (0 < e.credit) && decide ((s.grps.look g).children = []) && decide ((s.grps.look g).mems = [m]) && decide (m.op = none) && decide ((s.grps.look g).slots = [⟨seq, seg, [(0, p)]⟩]) && decide (seq = (s.grps.look g).upSeq) && decide (seg = (s.grps.look g).upSeg) && decide ((colKind p = 1 ∨ colKind p = 2)) && (completesB s (.segmentCombine g seq seg) fun t => decide (
        (t.grps.look g).slots = [] ∧ (t.grps.look g).upSeq = (seq + 1) % 65536 ∧ (t.grps.look g).upSeg = 0 ∧ (t.grps.look g).mems = [m] ∧
        (t.grps.look g).edges.map (·.credit) = [e.credit - 1] ∧ (t.grps.look g).edges.map (·.txPsn) = [(e.txPsn + 1) % 2 ^ 24] ∧
        (t.grps.look g).edges.map (fun x => x.tx.length) = [e.tx.length + 1] ∧ (s.key (s.grps.look g).dom ≠ none → s.quiet = false →
          (t.fports.look e.port).oq.length = (s.fports.look e.port).oq.length + 1)))) (collecting (fun g => { g with mems := [⟨1, 2, true, 9, none, 1, 0⟩], slots := [⟨9, 0, [(0, memPkt 6 1 9 0 0 [])]⟩], upSeq := 9 })) (6) (9) (0) (memPkt 6 1 9 0 0 []) (⟨3, true, 4, [], 20, 30, [], 0, true⟩) (⟨1, 2, true, 9, none, 1, 0⟩)) = true := by decide +kernel

theorem wit_CollectiveGroups_6 :
    ((fun (s : State) (g : Nat) => decide (s.calm) && decide (g < 4096) && decide (0 < s.get F.COL_CTRL_STALL_STAGES) && decide (s.get F.COL_CTRL_STALL_STAGES ≤ (s.grps.look g).stall) && decide (((s.grps.look g).st = 1 ∨ (s.grps.look g).st = 2)) && decide ((s.grps.look g).edges = []) && decide ((s.grps.look g).mems = []) && (givesFaultB s (.collStallTimeout g) ({ s with
        grps := s.grps.upd g fun r => { r with st := 3, cause := 6, remote := false, slots := [], downs := [] } }.bump F.COL_BREAKS_BREAKS 1) 0x0C2)) ((collecting (fun g => { g with edges := [], stall := 5 })).put F.COL_CTRL_STALL_STAGES 5) (6)) = true := by decide +kernel

/-! ### Routing -/

/-- Router 9 with port 3 up, usable for router 6, and a packet of domain 5 in the device's own input. -/
def routing (p : Packet) : State :=
  { puts base [(F.RTC_SELF_ROUTER_ID, 9), (F.RTP_STATUS_LINK_UP 3, 1), (F.RTP_CTRL_EN 3, 1), (F.RTC_PORT_HEALTH_HEALTH, 2 ^ 64 - 1), (F.WPR_LINK_STATUS_STATE 3, 2),
      (F.WPR_LINK_STATUS_TX_NEXT 3, 4095)] with
    quiet := false
    routes := [(6, packW [(0, 3), (48, 1)]), (70000, 5)]
    eps := [(4, 2 ^ 31 + 6), (7, 2 ^ 31 + 9 + 2 ^ 16)]
    rin := [(64, [⟨0, 0, false, none, 0, .data p⟩])] }

/-- A packet for router 6. -/
def outward : Packet := { (default : Packet) with dstRouter := 6, inter := 6, dstNode := 4, domain := 5, payload := [1, 2, 3] }

/-- The packet waits at port 3. -/
def leaving (f : FPort → FPort) : State :=
  { routing outward with fports := [(3, f { (default : FPort) with oq := [⟨0, 1, false, none, 0, .data outward⟩], replay := [⟨1, 4094, 3, .data outward⟩] })] }

/-! ### Statements on Routing (spec/12, spec/14): for each clause a state that meets its hypotheses -/

theorem wit_RouteAndEndpointTables_1 :
    ((fun (s : State) (o : Origin) => decide (s.calm) && decide (okOrigin o = true) && decide (s.mayWrite o 0x1400008) && (givesB s (.bankSwapArm o) (s.put F.RTC_BANK_SWAP 1))) (base) (.sideband)) = true := by decide +kernel

theorem wit_RouteAndEndpointTables_2 :
    ((fun (s : State) (o : Origin) => decide (s.calm) && decide (okOrigin o = true) && decide (s.mayWrite o 0x1400008) && decide (s.flag F.RTC_BANK_COPY_BUSY = false) && (givesB s (.bankCopy o) ({ s with bankCopy := some (0, none) }.put F.RTC_BANK_COPY_BUSY 1))) (base) (.sideband)) = true := by decide +kernel

theorem wit_RouteAndEndpointTables_3 :
    ((fun (s : State) (pos r : Nat) => decide (s.calm) && decide (s.bankCopy = some (pos, none)) && decide (s.copyQ = []) && decide (pos ≤ r) && decide (r < 65536) && decide (s.get F.RTC_BANK_ACTIVE = 0) && (completesB s .bankCopyDone fun t => decide (
        t = { s with routes := t.routes, bankCopy := none, regs := t.regs, outs := t.outs } ∧ t.get F.RTC_BANK_COPY_BUSY = 0 ∧
        t.routes.look (65536 + r) = s.routes.look r ∧ t.routes.look r = s.routes.look r))) ({ routing outward with bankCopy := some (0, none) }) (0) (6)) = true := by decide +kernel

theorem wit_RouteAndEndpointTables_4 :
    ((fun (s : State) (pos r : Nat) => decide (s.calm) && decide (s.bankCopy = some (pos, none)) && decide (s.copyQ = []) && decide (pos ≤ r) && decide (r < 65536) && decide (s.get F.RTC_BANK_ACTIVE = 1) && (completesB s .bankCopyDone fun t => decide ( t.routes.look r = s.routes.look (65536 + r) ∧ t.routes.look (65536 + r) = s.routes.look (65536 + r)))) ({ (routing outward).put F.RTC_BANK_ACTIVE 1 with bankCopy := some (64, none) }) (64) (4464)) = true := by decide +kernel

theorem wit_RouteAndEndpointTables_5 :
    ((fun (s : State) => decide (s.calm) && decide (s.flag F.RTC_BANK_SWAP = true) && decide (s.bankCopy = none) && decide ((s.ops.keysOf fun o => o.live && o.opcode == 0x80 && o.opf == 1 && o.fin.isNone) = []) && (givesB s .routeBankSwap (((s.put F.RTC_BANK_SWAP 0).put F.RTC_BANK_ACTIVE (1 - s.get F.RTC_BANK_ACTIVE)).put F.RTC_BANK_SWAPS ((s.get F.RTC_BANK_SWAPS + 1) % 2 ^ 32)))) (base.put F.RTC_BANK_SWAP 1)) = true := by decide +kernel

theorem wit_RouteAndEndpointTables_6 :
    ((fun (s : State) (o : Origin) (bank router : Nat) (v : Word) => decide (s.calm) && decide (okOrigin o = true) && decide (bank < 2) && decide (router < 65536) && decide (s.mayWrite o (0x1500000 + 0x80000 * bank + 8 * router)) && decide (s.bankCopy = none) && (givesB s (.routeRawWrite o bank router 8 v) { s with routes := s.routes.put (bank * 65536 + router) v })) (base) (.sideband) (1) (65535) (0xFFFFFFFFFFFFFFFF)) = true := by decide +kernel

theorem wit_RouteAndEndpointTables_7 :
    ((fun (s : State) (o : Origin) (i : Nat) (v : BitVec 32) => decide (s.calm) && decide (okOrigin o = true) && decide (i < 262144) && decide (s.mayWrite o (0x1600000 + 4 * i)) && (givesB s (.epRawWrite o i v) { s with
        eps := s.eps.put (s.get F.RTC_EP_PAGE_PAGE * 262144 + i) (v.toNat % 2 ^ 18 + v.toNat / 2 ^ 31 * 2 ^ 31) })) (base.put F.RTC_EP_PAGE_PAGE 3) (.sideband) (262143) (0xFFFFFFFF)) = true := by decide +kernel

theorem wit_RoutingAndTransmission_1 :
    ((fun (s : State) (d : Nat) (u : RUnit) (p : Packet) => decide (s.calm) && decide (d < 65536) && decide ((s.inj.look d).q = [u]) && decide (u.body = .data p) && decide (dataFlits p.payload.length * 64 ≤ s.dquant d) && decide (s.quiet = false) && decide (s.halted = false) && decide (s.get F.RTC_ADAPT_MODE = 0) && (givesB s (.domainDrrVisit d false) { s with
        inj := s.inj.upd d fun j => { j with q := [], deficit := 0 }
        rin := s.rin.upd 64 fun l => l ++ [{ u with body := .data { p with inter := p.dstRouter }, since := s.tick }] })) ({ (routing outward).put F.RTC_ADAPT_MODE 0 with inj := [(5, { (default : Inj) with q := [⟨0, 0, false, none, 0, .data outward⟩] })] }) (5) (⟨0, 0, false, none, 0, .data outward⟩) (outward)) = true := by decide +kernel

theorem wit_RoutingAndTransmission_2 :
    ((fun (s : State) (u : RUnit) (rest : List RUnit) (p : Packet) (l q : Nat) => decide (s.calm) && decide (s.rin.look 64 = u :: rest) && decide (u.body = .data p) && decide (u.home = none) && decide (p.inter = p.dstRouter) && decide (p.dstRouter ≠ s.self) && decide (s.best (s.route p.dstRouter) u.cls = some (l, q)) && (givesB s (.packetRoute 64) { s with
        rin := s.rin.put 64 rest, fports := s.fports.upd q fun f => { f with oq := f.oq ++ [{ u with level := 0, since := s.tick }] } })) (routing outward) (⟨0, 0, false, none, 0, .data outward⟩) ([]) (outward) (0) (3)) = true := by decide +kernel

theorem wit_RoutingAndTransmission_3 :
    ((fun (s : State) (u : RUnit) (rest : List RUnit) (p : Packet) (q : Nat) => decide (s.calm) && decide (s.rin.look 64 = u :: rest) && decide (u.body = .data p) && decide (u.home = none) && decide (p.inter = p.dstRouter) && decide (p.dstRouter = s.self) && decide (s.endpoint p.dstNode = some (s.self, q)) && (givesB s (.packetRoute 64) ({ s with rin := s.rin.put 64 rest }.out (.ejected p)))) (routing { outward with dstRouter := 9, inter := 9, dstNode := 7 }) (⟨0, 0, false, none, 0, .data { outward with dstRouter := 9, inter := 9, dstNode := 7 }⟩) ([]) ({ outward with dstRouter := 9, inter := 9, dstNode := 7 }) (1)) = true := by decide +kernel

theorem wit_RoutingAndTransmission_4 :
    ((fun (s : State) (u : RUnit) (rest : List RUnit) (p : Packet) => decide (s.calm) && decide (s.rin.look 64 = u :: rest) && decide (u.body = .data p) && decide (u.home = none) && decide (p.inter = p.dstRouter) && decide (p.dstRouter ≠ s.self) && decide (s.best (s.route p.dstRouter) u.cls = none) && (givesFaultB s (.packetRoute 64) ({ s with rin := s.rin.put 64 rest }.bump F.RTC_DROP_NO_PATH 1) 0x0C3)) (routing { outward with dstRouter := 5, inter := 5 }) (⟨0, 0, false, none, 0, .data { outward with dstRouter := 5, inter := 5 }⟩) ([]) ({ outward with dstRouter := 5, inter := 5 })) = true := by decide +kernel

theorem wit_RoutingAndTransmission_5 :
    ((fun (s : State) (p clear c n seq : Nat) (u : RUnit) => decide (s.calm) && decide (p < 64) && decide (s.linkOpen p = true) && decide ((s.fports.look p).replayFrom = none) && decide ((s.fports.look p).oq = [u]) && decide (u.home = none) && decide (c = u.drrCls) && decide (c < 5) && decide ((s.fports.look p).cur = c) && decide (n = bodyFlits u.body) && decide (n ≤ s.pquant p c) && decide (s.canStart p clear u = true) && decide (seq = s.get (F.WPR_LINK_STATUS_TX_NEXT p)) && (givesB s (.portTransmit p clear) (({ s with
        fports := s.fports.upd p fun f => { f with
          oq := [], deficit := (List.range 5).map fun i => if i = c then 0 else vcAt f.deficit i, cur := (c + 1) % 5
          replay := f.replay ++ [(⟨u.vc, seq, n, u.body⟩ : LinkUnit)], sent := vcAdd f.sent u.vc n }
        portCnt := s.portCnt.upd (p * 4) fun v => (v + n) % 2 ^ 64 }.put (F.WPR_LINK_STATUS_TX_NEXT p) ((seq + 1) % 4096)).out (.linkUnit p ⟨u.vc, seq, n, u.body⟩)))) (leaving id) (3) (0) (0) (2) (4095) (⟨0, 1, false, none, 0, .data outward⟩)) = true := by decide +kernel

theorem wit_RoutingAndTransmission_6 :
    ((fun (s : State) (p clear i : Nat) (u : LinkUnit) => decide (s.calm) && decide (p < 64) && decide (s.linkOpen p = true) && decide ((s.fports.look p).replayFrom = some i) && decide ((s.fports.look p).replay[i]? = some u) && decide ((s.fports.look p).oq = []) && (givesB s (.portTransmit p clear) ({ s with
        fports := s.fports.upd p fun f => { f with replayFrom := if i + 1 < f.replay.length then some (i + 1) else none }
        portCnt := s.portCnt.upd (p * 4) fun v => (v + u.flits) % 2 ^ 64 }.out (.linkUnit p u)))) (leaving (fun f => { f with oq := [], replayFrom := some 0 })) (3) (0) (0) (⟨1, 4094, 3, .data outward⟩)) = true := by decide +kernel

theorem wit_RoutingAndTransmission_7 :
    ((fun (s : State) (p : Nat) (g : Gossip) => decide (s.calm) && decide (p < 64) && decide (s.linkOpen p = true) && decide (okGossip g = true) && decide (g.crcOk = true) && (completesB s (.gossipReceive p g) fun t => decide (
        t = { s with regs := t.regs, outs := t.outs, portCnt := t.portCnt } ∧ t.get (F.RTP_STATUS_NEIGHBOUR p) = g.router ∧ t.get (F.RTP_STATUS_GOSSIP_AGE p) = 0 ∧
        ∀ n : Nat, n < 64 → t.gossipOf p n = g.levels.getD n 0))) (routing outward) (3) (⟨77, [1, 2, 15], true⟩)) = true := by decide +kernel

theorem wit_RoutingAndTransmission_8 :
    ((fun (s : State) (p : Nat) => decide (s.calm) && decide (p < 64) && decide (4 ≤ s.get (F.RTP_STATUS_GOSSIP_AGE p)) && (completesB s (.gossipTimeout p) fun t => decide (
        t = { s with regs := t.regs, outs := t.outs } ∧ ∀ n : Nat, n < 64 → wbits (t.reg (0x1000010 + p * 0x10000 + n / 16 * 8)) (4 * (n % 16) + 3) (4 * (n % 16)) = 0))) ((routing outward).put (F.RTP_STATUS_GOSSIP_AGE 3) 4) (3)) = true := by decide +kernel

/-! ### Convoys -/

/-- Convoy 8 of domain 5, from port 2 to port 3 in slots 0 and 5, at stage 0. -/
def convoying (f : Cvy → Cvy) : State :=
  { puts (delivering base) [(F.STG_SYNC_STATUS_STATE, 2), (F.RTP_STATUS_LINK_UP 3, 1), (F.RTP_CTRL_EN 3, 1)] with
    nextId := 50
    cvys := [(8, f { (default : Cvy) with st := 2, role := 1, inPort := 2, outPort := 3, dom := 5, slots := 33, n := 3, len := 6000, va := 0x10000, pasid := 1 })] }

/-- The record. -/
def convoyOf (s : State) : Cvy := s.cvys.look 8

/-- A frame of the convoy. -/
def frameOf (seq len : Nat) (payload : List Byte) : Frame := ⟨8, 5, seq, len, 8, 6, payload, ⟨11, cvyIv 8 6 seq 8 0, true⟩, true⟩

/-! ### Statements on Convoys (spec/12): for each clause a state that meets its hypotheses -/

theorem wit_Convoys_1 :
    ((fun (s : State) (v : Nat) (c : Cvy) => decide (s.calm) && decide (v < 1024) && decide (c = s.cvys.look v) && decide (c.st = 1) && decide (c.start ≤ s.now) && decide (s.locked = true) && decide (c.role = 1) && (givesB s (.convoyActivate v) ({ s with cvys := s.cvys.upd v fun r => { r with st := 2, chan := none } }.cvyShow c.outPort))) (convoying (fun c => { c with st := 1 })) (8) (convoyOf (convoying (fun c => { c with st := 1 })))) = true := by decide +kernel

theorem wit_Convoys_2 :
    ((fun (s : State) (v : Nat) (c : Cvy) => decide (s.calm) && decide (v < 1024) && decide (c = s.cvys.look v) && decide (c.st = 1) && decide (c.start ≤ s.now) && decide (s.locked = false) && decide (c.role = 1) && decide (c.chan = none) && (givesB s (.convoyActivate v) ({ s with cvys := s.cvys.upd v fun r => { r with st := 4, cause := 2, left := 4, slots := 0 } }.cvyShow c.outPort))) ((convoying (fun c => { c with st := 1 })).put F.STG_SYNC_STATUS_STATE 1) (8) (convoyOf (convoying (fun c => { c with st := 1 })))) = true := by decide +kernel

theorem wit_Convoys_3 :
    ((fun (s : State) (v : Nat) (c : Cvy) (f : Frame) (fs : List Frame) => decide (s.calm) && decide (v < 1024) && decide (c = s.cvys.look v) && decide (s.halted = false) && decide (s.sealed = false) && decide (s.portLive c.outPort = true) && decide (c.slots ≠ 0) && decide (c.role = 1) && decide (c.st = 2) && decide (c.buf = f :: fs) && decide (f.len = cvyP (s.get F.STG_PERIOD_CODE)) && (givesB s (.convoySlot v) ({ s with
        cvys := s.cvys.upd v fun r => { r with buf := fs, forwarded := (r.forwarded + 1) % 2 ^ 32 }
        portCnt := s.portCnt.upd (c.outPort * 4) fun n => (n + cvyFlits (s.get F.STG_PERIOD_CODE)) % 2 ^ 64 }.out (.frame c.outPort f)))) ((convoying (fun c => { c with buf := [frameOf 1 5888 []] })).put F.STG_PERIOD_CODE 1) (8) (convoyOf (convoying (fun c => { c with buf := [frameOf 1 5888 []] }))) (frameOf 1 5888 []) ([])) = true := by decide +kernel

theorem wit_Convoys_4 :
    ((fun (s : State) (v : Nat) (c : Cvy) (key : Key) (d : List Byte) (p : Nat) => decide (s.calm) && decide (v < 1024) && decide (c = s.cvys.look v) && decide (s.halted = false) && decide (s.sealed = false) && decide (s.portLive c.outPort = true) && decide (c.slots ≠ 0) && decide (c.role = 0) && decide (c.st = 2) && decide (c.tx = []) && decide (p = cvyP (s.get F.STG_PERIOD_CODE)) && decide (d.length = p) && decide (c.frameData p c.nextSeq = some d) && decide (c.nextSeq < c.n) && decide (c.nextSeq < c.cum + 64) && decide (c.chan.isSome = true) && decide (c.n ≤ c.asked) && decide (s.key c.dom = some key) && (givesB s (.convoySlot v) ({ s with
        cvys := s.cvys.upd v fun r => { r with
          got := r.got.filter fun g => !decide (c.nextSeq * p ≤ g.1 ∧ g.1 < c.nextSeq * p + p), tx := [⟨c.nextSeq, s.now, 0, false, d, c.forwarded⟩]
          nextSeq := c.nextSeq + 1, forwarded := c.forwarded + 1 }
        portCnt := s.portCnt.upd (c.outPort * 4) fun n => (n + cvyFlits (s.get F.STG_PERIOD_CODE)) % 2 ^ 64 }.out
        (.frame c.outPort ⟨v, c.dom, c.nextSeq, d.length, s.inc, s.self, d, ⟨key, cvyIv v s.self c.nextSeq s.inc c.start, true⟩, true⟩)))) ((convoying (fun c => { c with role := 0, chan := some 2, asked := 3, got := [(0, List.replicate 2688 7)] })).put F.STG_PERIOD_CODE 0) (8) (convoyOf (convoying (fun c => { c with role := 0, chan := some 2, asked := 3, got := [(0, List.replicate 2688 7)] }))) (11) (List.replicate 2688 7) (2688)) = true := by decide +kernel

theorem wit_Convoys_5 :
    ((fun (s : State) (v : Nat) (c : Cvy) (port : Nat) (f : Frame) => decide (s.calm) && decide (v < 1024) && decide (c = s.cvys.look v) && decide (port < 64) && decide (okFrame f = true) && decide (f.convoy = v) && decide (c.st = 2) && decide (c.role = 1) && decide (c.inPort = port) && decide (c.buf.length < 2 * pop16 c.slots) && (givesB s (.convoyFrameForward port f) { s with cvys := s.cvys.upd v fun r => { r with buf := r.buf ++ [f] } })) (convoying id) (8) (convoyOf (convoying id)) (2) (frameOf 1 5 [])) = true := by decide +kernel

theorem wit_Convoys_6 :
    ((fun (s : State) (v : Nat) (c : Cvy) (port : Nat) (f : Frame) => decide (s.calm) && decide (v < 1024) && decide (c = s.cvys.look v) && decide (port < 64) && decide (okFrame f = true) && decide (f.convoy = v) && decide (c.st = 0) && (givesB s (.convoyFrameForward port f) (s.bump F.RTC_CVY_COUNT_STRAY 1))) (convoying (fun c => { c with st := 0 })) (8) (convoyOf (convoying (fun c => { c with st := 0 }))) (2) (frameOf 1 5 [])) = true := by decide +kernel

theorem wit_Convoys_7 :
    ((fun (s : State) (v : Nat) (c : Cvy) (port pa va p : Nat) (f : Frame) => decide (s.calm) && decide (v < 1024) && decide (c = s.cvys.look v) && decide (port < 64) && decide (okFrame f = true) && decide (f.convoy = v) && decide (c.st = 2) && decide (c.role = 2) && decide (c.inPort = port) && decide (f.domain = c.dom) && decide (f.seq = c.cum) && decide (c.cum + 1 < c.n) && decide (c.seen = []) && decide (c.pend = []) && decide (p = cvyP (s.get F.STG_PERIOD_CODE)) && decide (f.len = c.frameLen p f.seq) && decide (f.payload.length = f.len) && decide (f.crcOk = true) && decide (f.sealed.intact = true) && decide (f.sealed.iv = cvyIv v f.srcRouter f.seq f.srcInc c.start) && decide ((s.doms.look c.dom).cur = some f.sealed.key) && decide (va = (c.va + f.seq * p) % 2 ^ 64) && decide (s.maps c.pasid c.dom .write va f.len pa) && decide (s.hostOpen c.pasid) && (givesB s (.convoyFrameReceive port f) (({ s with
        cvys := s.cvys.upd v fun r => { r with srcInc := f.srcInc, srcRouter := f.srcRouter, cum := c.cum + 1 } }.wrote c.pasid pa f.len f.payload).ledger c.dom ldRx f.len))) ((convoying (fun c => { c with role := 2, len := 5379, cum := 0 })).put F.STG_PERIOD_CODE 0) (8) (convoyOf (convoying (fun c => { c with role := 2, len := 5379, cum := 0 }))) (2) (0x63000) (0x10000) (2688) (frameOf 0 2688 (List.replicate 2688 7))) = true := by decide +kernel

theorem wit_Convoys_8 :
    ((fun (s : State) (v : Nat) (c : Cvy) (a : Ctl) (x : CvyTx) => decide (s.calm) && decide (v < 1024) && decide (c = s.cvys.look v) && decide (okCtl a = true) && decide (a.kind = .cvyAck) && decide (a.crcOk = true) && decide (s.quiet = false) && decide (s.age a.birth ≤ s.lifetime) && decide ((a.dstInc = 0 ∨ a.dstInc = s.inc)) && decide (s.ctlOk a = true) && decide (s.endpoint a.srcNode = none) && decide (v = wbits (a.body.getD 0 0) 9 0) && decide (c.role = 0) && decide (c.st = 2) && decide (c.dom = a.domain) && decide (c.tx = [x]) && decide (x.seq < wbits (a.body.getD 0 0) 63 32) && decide (wbits (a.body.getD 0 0) 63 32 ≠ c.n) && decide (c.n ≤ c.asked) && (givesB s (.cvyAck a) ({ s with
        cvys := s.cvys.upd v fun r => { r with cum := max r.cum (wbits (a.body.getD 0 0) 63 32), tx := [] } }.ledger c.dom ldTx
        (c.frameLen (cvyP (s.get F.STG_PERIOD_CODE)) x.seq)))) (convoying (fun c => { c with role := 0, chan := some 2, asked := 3, tx := [⟨0, 0, 0, false, [], 0⟩] })) (8) (convoyOf (convoying (fun c => { c with role := 0, chan := some 2, asked := 3, tx := [⟨0, 0, 0, false, [], 0⟩] }))) ({ dstRouter := 9, dstNode := 0, dstFunc := 0, srcNode := 0, srcFunc := 0, domain := 5, inter := 9, psn := 0, srcInc := 8, dstInc := 0, birth := 0, kind := .cvyAck, chan := 0, status := 0, arg := 0, body := [packW [(0, 8), (32, 1)], 0], sealed := ⟨11, ctlIv 0 0 0 0 9 0 0 8 0, true⟩, crcOk := true }) (⟨0, 0, 0, false, [], 0⟩)) = true := by decide +kernel

theorem wit_Convoys_9 :
    ((fun (s : State) (v : Nat) (c : Cvy) (x : CvyTx) (p ch va n : Nat) => decide (s.calm) && decide (v < 1024) && decide (c = s.cvys.look v) && decide (c.tx = [x]) && decide (x.seq < 2 ^ 32) && decide (x.due = false) && decide (c.st = 2) && decide (x.sentAt + max (s.get F.RTC_CVY_CTRL_RTO_STAGES) 1 ≤ s.now) && decide (x.resends < max (s.get F.RTC_CVY_CTRL_RESEND_LIMIT) 1) && decide (p = cvyP (s.get F.STG_PERIOD_CODE)) && decide (c.chan = some ch) && decide (n = c.frameLen p x.seq) && decide (0 < n) && decide (n ≤ s.burstSize ch) && decide (va = (c.va + x.seq * p) % 2 ^ 64) && decide (va % 4096 + n ≤ 4096) && (givesB s (.convoyFrameTimeout v x.seq) { s with
        cvys := s.cvys.upd v fun r => { r with tx := [{ x with due := true }] }
        chans := s.chans.upd ch fun d => { d with
          jumped := d.jumped ++ [{ (default : Burst) with id := d.nextId, op := noOp, kind := .cvyRd v (x.seq * p), off := x.seq * p, len := n, pieces := [(va, n)] }]
          nextId := d.nextId + 1 } })) ({ (convoying (fun c => { c with role := 0, chan := some 2, n := 1, len := 200, asked := 1, tx := [⟨0, 0, 0, false, [], 0⟩] })).put F.RTC_CVY_CTRL_RTO_STAGES 2 with stageSeen := 0 }.put F.STG_NOW_STAGE 9) (8) (convoyOf (convoying (fun c => { c with role := 0, chan := some 2, n := 1, len := 200, asked := 1, tx := [⟨0, 0, 0, false, [], 0⟩] }))) (⟨0, 0, 0, false, [], 0⟩) (cvyP (base.get F.STG_PERIOD_CODE)) (2) (0x10000) (200)) = true := by decide +kernel

theorem wit_Convoys_10 :
    ((fun (s : State) (v : Nat) (c : Cvy) (ch va n pa off : Nat) (b : Burst) (flt : Nat × Nat × Nat) => decide (s.calm) && decide (v < 1024) && decide (c = s.cvys.look v) && decide (c.st = 2) && decide (c.role = 0) && decide (c.retryIn = 0) && decide (c.chan = some ch) && decide (ch < 128) && decide (s.regform ch = false) && decide ((s.chans.look ch).parked = true) && decide ((s.chans.look ch).bursts = [b]) && decide (b.faulted = some flt) && decide (b.kind = .cvyRd v off) && decide (b.pieces = [(va, n)]) && decide (b.data = []) && decide (s.maps c.pasid c.dom .read va n pa) && (givesB s (.convoySourceRetry v) ({ s with
        chans := s.chans.upd ch fun d => { d with parked := false, parkOp := 0, bursts := [{ b with faulted := none, issued := true }] } }.asked
        (.burst ch b.id) c.pasid c.dom va n pa))) ({ convoying (fun c => { c with role := 0, chan := some 2 }) with chans := [(2, { (default : Chan) with parked := true, bursts := [{ (default : Burst) with id := 3, op := noOp, kind := .cvyRd 8 0, len := 9, pieces := [(0x10000, 9)], faulted := some (1, 1, 0x10000) }] })] }) (8) (convoyOf (convoying (fun c => { c with role := 0, chan := some 2 }))) (2) (0x10000) (9) (0x63000) (0) ({ (default : Burst) with id := 3, op := noOp, kind := .cvyRd 8 0, len := 9, pieces := [(0x10000, 9)], faulted := some (1, 1, 0x10000) }) ((1, 1, 0x10000))) = true := by decide +kernel

theorem wit_Convoys_11 :
    ((fun (s : State) (v : Nat) (c : Cvy) (t : Nat) => decide (s.calm) && decide (v < 1024) && decide (c = s.cvys.look v) && decide (c.teardown = some t) && decide (t ≤ s.now) && decide (c.st ≠ 0) && decide (c.chan = none) && (givesB s (.convoyRelease v) ({ s with cvys := s.cvys.del v }.cvyShow c.outPort))) (convoying (fun c => { c with teardown := some 0 })) (8) (convoyOf (convoying (fun c => { c with teardown := some 0 }))) (0)) = true := by decide +kernel

theorem wit_Convoys_12 :
    ((fun (s : State) (v : Nat) (c : Cvy) => decide (s.calm) && decide (v < 1024) && decide (c = s.cvys.look v) && decide (c.st = 4) && decide (c.left = 0) && (givesB s (.convoyBrokenRelease v) ({ s with cvys := s.cvys.upd v fun r => { r with slots := 0, buf := [], left := 0 } }.cvyShow c.outPort))) (convoying (fun c => { c with st := 4 })) (8) (convoyOf (convoying (fun c => { c with st := 4 })))) = true := by decide +kernel

/-! ### Statements on Links (spec/13): for each clause a state that meets its hypotheses -/

theorem wit_Links_1 :
    ((fun (s : State) (p : Nat) (f : FPort) (cause : Nat) => decide (s.calm) && decide (p < 64) && decide (f = s.fports.look p) && decide (1 ≤ cause) && decide (cause ≤ 5) && decide (s.get (F.WPR_LINK_STATUS_STATE p) ≠ 0) && decide (s.grps = []) && decide (s.cvys = []) && (completesB s (.linkDown p cause) fun t => decide (
        t.get (F.WPR_LINK_STATUS_STATE p) = 0 ∧ t.get (F.WPR_LINK_STATUS_DOWN_CAUSE p) = cause ∧ t.get (F.RTP_STATUS_LINK_UP p) = 0 ∧
        (t.get F.RTC_PORT_HEALTH_HEALTH).testBit p = false ∧ (t.fports.look p).oq = [] ∧ (t.fports.look p).replay = [] ∧ t.flag (fltPend 0x0C5) = true))) (leaving id) (3) ((leaving id).fports.look 3) (5)) = true := by decide +kernel

theorem wit_Links_2 :
    ((fun (s : State) (p : Nat) (f : FPort) (cause : Nat) => decide (s.calm) && decide (p < 64) && decide (f = s.fports.look p) && decide (1 ≤ cause) && decide (cause ≤ 5) && decide (s.get (F.WPR_LINK_STATUS_STATE p) ≠ 0) && decide (s.grps = []) && decide (s.cvys = []) && decide (s.flag (F.RTP_STATUS_LINK_UP p) = true) && decide (s.parentIs p = true) && decide (s.locked = true) && (completesB s (.linkDown p cause) fun t => decide ( t.get F.STG_SYNC_STATUS_STATE = 3 ∧ t.flag (fltPend 0x003) = true))) (puts (leaving id) [(F.STG_SYNC_STATUS_STATE, 2), (F.STG_SYNC_CTRL_GM, 0), (F.STG_SYNC_CTRL_PARENT_EN, 1), (F.STG_SYNC_CTRL_PARENT_PORT, 3)]) (3) ((leaving id).fports.look 3) (1)) = true := by decide +kernel

theorem wit_Links_3 :
    ((fun (s : State) (p : Nat) (f : FPort) (u : LinkUnit) (seq : Nat) => decide (s.calm) && decide (p < 64) && decide (f = s.fports.look p) && decide (okUnit u = true) && decide (s.linkOpen p = true) && decide (u.lseq = s.get (F.WPR_LINK_STATUS_RX_NEXT p)) && decide (s.age (unitBirth u.body) ≤ s.lifetime) && decide (seq = u.lseq) && (givesB s (.linkUnitReceive p u true) ({ s with
        rin := s.rin.upd p fun l => l ++ [(⟨u.vc / 5, u.vc % 5, false, some (p, u.vc), s.tick, u.body⟩ : RUnit)]
        fports := s.fports.upd p fun g => { g with nak := false, nakSent := false }
        portCnt := s.portCnt.upd (p * 4 + 1) fun v => (v + u.flits) % 2 ^ 64 }.put (F.WPR_LINK_STATUS_RX_NEXT p) ((seq + 1) % 4096)))) (leaving id) (3) ((leaving id).fports.look 3) (⟨1, 0, 3, .data outward⟩) (0)) = true := by decide +kernel

theorem wit_Links_4 :
    ((fun (s : State) (p : Nat) (f : FPort) (u : LinkUnit) => decide (s.calm) && decide (p < 64) && decide (f = s.fports.look p) && decide (okUnit u = true) && decide (s.linkOpen p = true) && decide (u.lseq ≠ s.get (F.WPR_LINK_STATUS_RX_NEXT p)) && decide (f.nakSent = false) && (givesB s (.linkUnitReceive p u true) ({ s with
        fports := s.fports.upd p fun g => { g with nak := true, nakSent := false }
        portCnt := s.portCnt.upd (p * 4 + 1) fun v => (v + u.flits) % 2 ^ 64 }.bump (F.WPR_LINK_COUNT_B_OUT_OF_SEQ p) 1))) (leaving id) (3) ((leaving id).fports.look 3) (⟨1, 4095, 3, .data outward⟩)) = true := by decide +kernel

theorem wit_Links_5 :
    ((fun (s : State) (p : Nat) (f : FPort) (l : Lcf) (i : Nat) => decide (s.calm) && decide (p < 64) && decide (f = s.fports.look p) && decide (okLcf l = true) && decide (l.ok = true) && decide (l.nak = false) && decide (s.get (F.WPR_LINK_STATUS_STATE p) = 2) && decide (f.mark = none) && decide (f.replayFrom = none) && decide ((f.replay.findIdx? fun u => u.lseq == l.lack) = some i) && (givesB s (.lcfReceive p l) { s with fports := s.fports.upd p fun g => { g with replay := g.replay.drop (i + 1), peerFreed := l.freed.take 25 } })) (leaving id) (3) ((leaving id).fports.look 3) (⟨4094, false, [1, 2], true⟩) (0)) = true := by decide +kernel

theorem wit_Links_6 :
    ((fun (s : State) (p : Nat) (f : FPort) (u : LinkUnit) (us : List LinkUnit) => decide (s.calm) && decide (p < 64) && decide (f = s.fports.look p) && decide (f.replay = u :: us) && decide (f.mark = none) && decide (s.get (F.WPR_LINK_STATUS_STATE p) = 2) && decide (s.get (F.WPR_LINK_STATUS_FAILED_REPLAYS p) < 8) && (givesB s (.replayTimeout p) (({ s with
        fports := s.fports.upd p fun g => { g with replayFrom := some 0, mark := some u.lseq }
        portCnt := s.portCnt.upd (p * 4 + 2) fun v => (v + 1) % 2 ^ 64 }.put (F.WPR_LINK_STATUS_FAILED_REPLAYS p) (s.get (F.WPR_LINK_STATUS_FAILED_REPLAYS p))).bump
        (F.WPR_LINK_COUNT_REPLAYS p) 1))) (leaving id) (3) ((leaving id).fports.look 3) (⟨1, 4094, 3, .data outward⟩) ([])) = true := by decide +kernel

theorem wit_Links_7 :
    ((fun (s : State) (p : Nat) (f : FPort) (m : Nat) => decide (s.calm) && decide (p < 64) && decide (f = s.fports.look p) && decide (f.replay ≠ []) && decide (f.mark = some m) && decide (s.get (F.WPR_LINK_STATUS_STATE p) = 2) && decide (s.get (F.WPR_LINK_STATUS_FAILED_REPLAYS p) = 7) && decide (s.grps = []) && decide (s.cvys = []) && (completesB s (.replayTimeout p) fun t => decide ( t.get (F.WPR_LINK_STATUS_STATE p) = 0 ∧ t.get (F.WPR_LINK_STATUS_DOWN_CAUSE p) = 1 ∧ (t.fports.look p).replay = []))) ((leaving (fun f => { f with mark := some 4094 })).put (F.WPR_LINK_STATUS_FAILED_REPLAYS 3) 7) (3) ((leaving (fun f => { f with mark := some 4094 })).fports.look 3) (4094)) = true := by decide +kernel

theorem wit_Links_8 :
    ((fun (s : State) (p : Nat) (f : FPort) => decide (s.calm) && decide (p < 64) && decide (f = s.fports.look p) && decide (s.linkOpen p = true) && (givesB s (.lcfSend p) ({ s with
        fports := s.fports.upd p fun g => { g with nak := false, nakSent := g.nakSent || g.nak }, portCnt := s.portCnt.upd (p * 4) fun v => (v + 1) % 2 ^ 64 }.out
        (.lcf p ⟨(s.get (F.WPR_LINK_STATUS_RX_NEXT p) + 4095) % 4096, f.nak, (List.range 32).map fun v => if v < 25 then vcAt f.freed v else 0, true⟩)))) (leaving (fun f => { f with nak := true, freed := [0, 7] })) (3) ((leaving (fun f => { f with nak := true, freed := [0, 7] })).fports.look 3)) = true := by decide +kernel

theorem wit_Links_9 :
    ((fun (s : State) (p : Nat) (f : FPort) => decide (s.calm) && decide (p < 64) && decide (f = s.fports.look p) && decide (f.trained = true) && decide (s.get (F.WPR_LINK_STATUS_STATE p) ≠ 2) && decide (s.flag (F.RTP_CTRL_EN p) = true) && decide (s.halted = false) && decide (s.sealed = false) && decide (f.linitRx = false) && (givesB s (.linitSend p) (({ s with
        fports := s.fports.upd p fun g => { g with linitTx := true }, portCnt := s.portCnt.upd (p * 4) fun v => (v + 1) % 2 ^ 64 }.put
        (F.WPR_LINK_STATUS_STATE p) 1).out (.linit p ⟨s.self, s.inc, p, s.get F.STG_PERIOD_CODE⟩)))) ((leaving (fun f => { f with trained := true })).put (F.WPR_LINK_STATUS_STATE 3) 0) (3) ((leaving (fun f => { f with trained := true })).fports.look 3)) = true := by decide +kernel

theorem wit_Links_10 :
    ((fun (s : State) (p : Nat) (f : FPort) => decide (s.calm) && decide (p < 64) && decide (f = s.fports.look p) && decide (f.trained = true) && decide (s.get (F.WPR_LINK_STATUS_STATE p) ≠ 2) && decide (s.flag (F.RTP_CTRL_EN p) = true) && decide (s.halted = false) && decide (s.sealed = false) && decide (f.linitRx = true) && (completesB s (.linitSend p) fun t => decide (
        t.get (F.WPR_LINK_STATUS_STATE p) = 2 ∧ t.get (F.RTP_STATUS_LINK_UP p) = 1 ∧ t.get (F.WPR_LINK_STATUS_TX_NEXT p) = 0 ∧ t.get (F.WPR_LINK_STATUS_RX_NEXT p) = 0 ∧
        (t.fports.look p).replay = [] ∧ (t.fports.look p).sent = [] ∧ (t.fports.look p).oq = f.oq))) ((leaving (fun f => { f with trained := true, linitRx := true })).put (F.WPR_LINK_STATUS_STATE 3) 1) (3) ((leaving (fun f => { f with trained := true, linitRx := true })).fports.look 3)) = true := by decide +kernel

theorem wit_Links_11 :
    ((fun (s : State) (p : Nat) (f : FPort) (l : Linit) => decide (s.calm) && decide (p < 64) && decide (f = s.fports.look p) && decide (okLinit l = true) && decide (f.trained = true) && decide (s.get (F.WPR_LINK_STATUS_STATE p) ≠ 2) && decide (s.flag (F.RTP_CTRL_EN p) = true) && decide (s.halted = false) && decide (s.sealed = false) && decide (f.linitTx = false) && (givesB s (.linitReceive p l) (({ s with
        fports := s.fports.upd p fun g => { g with linitRx := true, peerRouter := l.router }, portCnt := s.portCnt.upd (p * 4 + 1) fun v => (v + 1) % 2 ^ 64 }.put
        (F.WPR_LINK_STATUS_STATE p) 1).put (F.WPR_LINK_STATUS_PEER_INC p) l.inc))) ((leaving (fun f => { f with trained := true })).put (F.WPR_LINK_STATUS_STATE 3) 0) (3) ((leaving (fun f => { f with trained := true })).fports.look 3) (⟨6, 8, 2, 1⟩)) = true := by decide +kernel

theorem wit_Links_12 :
    ((fun (s : State) (p : Nat) (f : FPort) (l : Linit) => decide (s.calm) && decide (p < 64) && decide (f = s.fports.look p) && decide (okLinit l = true) && decide (f.trained = true) && decide (s.get (F.WPR_LINK_STATUS_STATE p) = 2) && decide (s.flag (F.RTP_CTRL_EN p) = true) && decide (s.halted = false) && decide (s.sealed = false) && decide (s.grps = []) && decide (s.cvys = []) && (completesB s (.linitReceive p l) fun t => decide ( t.get (F.WPR_LINK_STATUS_STATE p) = 0 ∧ t.get (F.WPR_LINK_STATUS_DOWN_CAUSE p) = 3))) (leaving (fun f => { f with trained := true })) (3) ((leaving (fun f => { f with trained := true })).fports.look 3) (⟨6, 8, 2, 1⟩)) = true := by decide +kernel

theorem wit_Links_13 :
    ((fun (s : State) (p : Nat) (f : FPort) (o : Origin) => decide (s.calm) && decide (p < 64) && decide (f = s.fports.look p) && decide (okOrigin o = true) && decide (s.mayWrite o (0x701000 + 32 * p)) && decide (s.get (F.WPR_LINK_STATUS_STATE p) ≠ 0) && decide (s.grps = []) && decide (s.cvys = []) && (completesB s (.linkRetrain o p) fun t => decide ( t.get (F.WPR_LINK_STATUS_STATE p) = 0 ∧ t.get (F.WPR_LINK_STATUS_DOWN_CAUSE p) = 3))) (leaving id) (3) ((leaving id).fports.look 3) (.sideband)) = true := by decide +kernel

/-! ### Control packets -/

/-- A packet of PSN 20 and 50 B whose bytes lie at 0x10000. -/
def sentPkt (f : TxPkt → TxPkt) : TxPkt := f { (default : TxPkt) with psn := 20, op := 195, dom := 5, pop := .put, len := 50, pieces := [(0x10000, 50)] }

/-- A pair channel of endpoint 7, function 2 to function 3 of endpoint 4, on channel 1, its router 6 in incarnation 8; operation 195 is a PUT of 50 B over it. -/
def sending (f : PairTx → PairTx) (o : Op → Op) : State :=
  { delivering base with
    peerInc := [(6, 8)]
    ptx := [(pairK, f { (default : PairTx) with live := true, port := 1, fn := 2, node := 4, func := 3, chan := 1, router := 6, nextPsn := 21, idle := 3 })]
    ops := [(195, o { (default : Op) with
      live := true, opcode := 0x20, eng := .bulk, src := (pairK, 0), opid := 77, allFormed := true, quota := 50, x := { (default : Xfer) with total := 50 } })] }

/-- The record. -/
def sentBy (f : PairTx → PairTx) : PairTx := (sending f id).ptx.look pairK

/-- A control packet for the pair channel. -/
def control (kind : CtlKind) (psn status : Nat) (arg : Word) : Ctl :=
  ⟨9, 7, 2, 4, 3, 5, 9, psn, 8, 0, 0, kind, 1, status, arg, [], ⟨11, ctlIv 4 3 7 2 (ctlCode kind) 1 psn 8 0, true⟩, true⟩

/-- The receive record of the pair channel, changed. -/
def receiving (f : PairRx → PairRx) : State := { (sending id id) with ops := [] }.updRx pairK f

/-! ### Statements on Control packets and timers (spec/13): for each clause a state that meets its hypotheses -/

theorem wit_SourceOfAPairChannel_1 :
    ((fun (s : State) (k : Nat) (tx : PairTx) (c : Ctl) (x : TxPkt) (j : Nat) => decide (s.calm) && decide (tx = s.ptx.look k) && decide (tx.live = true) && decide (s.hears c .ack) && decide (s.knows c) && decide (k = s.ctlPair c) && decide (tx.pkts = [x]) && decide (x.psn = c.psn) && decide (x.acked = false) && decide (x.isReq = false) && decide (x.op = j) && decide (j < 2 ^ 40) && decide (tx.refusalsApplied = wbits c.arg 7 0) && decide (s.noChannelWork) && decide ((s.ops.keysOf fun o => o.live && o.fin.isNone && o.allFormed && o.eng == .bulk && o.src.1 == k) = [j]) && decide ((s.ops.look j).live = true) && decide ((s.ops.look j).fin = none) && decide ((s.ops.look j).failSt = none) && decide ((s.ops.look j).opcode = 0x20) && (completesB s (.ack c) fun t => decide (
        (t.ops.look j).fin = some (stOk, (s.ops.look j).x.total, none) ∧ (t.ops.look j).acked = (s.ops.look j).acked + x.len ∧
        t.ptx.look k = { tx with pkts := [{ x with acked := true, retryIn := none, afterAck := false, op := noOp }], refusalsSeen := wbits c.arg 7 0, idle := 0, heldAge := 0 }))) (sending (fun t => { t with pkts := [sentPkt id] }) id) (pairK) (sentBy (fun t => { t with pkts := [sentPkt id] })) (control .ack 20 0 0) (sentPkt id) (195)) = true := by decide +kernel

theorem wit_SourceOfAPairChannel_2 :
    ((fun (s : State) (k : Nat) (tx : PairTx) (c : Ctl) (x y : TxPkt) => decide (s.calm) && decide (tx = s.ptx.look k) && decide (tx.live = true) && decide (s.hears c .nackSeqGap) && decide (s.knows c) && decide (k = s.ctlPair c) && decide (tx.pkts = [y, x]) && decide (x.psn = c.psn) && decide (y.psn = wbits c.arg 23 0) && decide (psnAhead x.psn y.psn = true) && decide (x.acked = false) && decide (y.acked = false) && decide (x.retryIn = none) && decide (y.afterAck = false) && decide (s.now < y.sentAt + s.gapStages) && (givesB s (.nackSeqGap c) { s with ptx := s.ptx.upd k fun t => { t with idle := 0, pkts := [y, { x with afterAck := true }] } })) ((sending (fun t => { t with pkts := [sentPkt (fun x => { x with psn := 19, sentAt := 0 }), sentPkt id] }) id).put F.WPR_E2E_CTRL_GAP_STAGES 8) (pairK) (sentBy (fun t => { t with pkts := [sentPkt (fun x => { x with psn := 19, sentAt := 0 }), sentPkt id] })) (control .nackSeqGap 20 0 19) (sentPkt id) (sentPkt (fun x => { x with psn := 19, sentAt := 0 }))) = true := by decide +kernel

theorem wit_SourceOfAPairChannel_3 :
    ((fun (s : State) (k : Nat) (tx : PairTx) (c : Ctl) (x : TxPkt) => decide (s.calm) && decide (tx = s.ptx.look k) && decide (tx.live = true) && decide (s.hears c .nackRnr) && decide (s.knows c) && decide (k = s.ctlPair c) && decide (tx.pkts = [x]) && decide (x.psn = c.psn) && decide (x.acked = false) && (givesB s (.nackRnr c) { s with ptx := s.ptx.upd k fun t => { t with idle := 0, pkts := [{ x with retryIn := some (wbits c.arg 7 0) }] } })) (sending (fun t => { t with pkts := [sentPkt id] }) id) (pairK) (sentBy (fun t => { t with pkts := [sentPkt id] })) (control .nackRnr 20 0 5) (sentPkt id)) = true := by decide +kernel

theorem wit_SourceOfAPairChannel_4 :
    ((fun (s : State) (k : Nat) (tx : PairTx) (c : Ctl) (x : TxPkt) => decide (s.calm) && decide (tx = s.ptx.look k) && decide (tx.live = true) && decide (s.hears c .nackXlate) && decide (s.knows c) && decide (k = s.ctlPair c) && decide (tx.pkts = [x]) && decide (x.psn = c.psn) && decide (x.acked = false) && (givesB s (.nackXlate c) { s with ptx := s.ptx.upd k fun t => { t with idle := 0, pkts := [{ x with retryIn := some (wbits c.arg 7 0) }] } })) (sending (fun t => { t with pkts := [sentPkt id] }) id) (pairK) (sentBy (fun t => { t with pkts := [sentPkt id] })) (control .nackXlate 20 0 5) (sentPkt id)) = true := by decide +kernel

theorem wit_SourceOfAPairChannel_5 :
    ((fun (s : State) (k : Nat) (tx : PairTx) (c : Ctl) (router port : Nat) => decide (s.calm) && decide (tx = s.ptx.look k) && decide (tx.live = true) && decide (s.hears c .nackStale) && decide (k = s.ctlPair c) && decide (s.endpoint c.srcNode = some (router, port)) && decide (s.peerInc.look router ≠ 0) && decide (s.peerInc.look router ≠ c.srcInc) && decide ((s.ptx.keysOf fun t => t.live && (match s.endpoint t.node with | some (r, _) => r == router | none => t.router == router)) = [k]) && decide (tx.router = router) && decide (tx.node = c.srcNode) && decide (s.ops = []) && (givesB s (.nackStale c) { s with ptx := s.ptx.del k, peerInc := s.peerInc.put router c.srcInc })) ({ sending id id with ops := [], peerInc := [(6, 4)] }) (pairK) (sentBy id) (control .nackStale 20 0 0) (6) (0)) = true := by decide +kernel

theorem wit_SourceOfAPairChannel_6 :
    ((fun (s : State) (k : Nat) (tx : PairTx) (c : Ctl) (x : TxPkt) (j : Nat) => decide (s.calm) && decide (tx = s.ptx.look k) && decide (tx.live = true) && decide (s.hears c .refuse) && decide (s.knows c) && decide (k = s.ctlPair c) && decide (wbits c.arg 39 32 = (tx.refusalsApplied + 1) % 256) && decide (tx.refusalsSeen = tx.refusalsApplied) && decide (tx.refusalsApplied < 256) && decide (tx.pkts = [x]) && decide (x.psn = c.psn) && decide (wbits c.arg 63 40 = c.psn) && decide (x.acked = false) && decide (x.isReq = false) && decide (x.op = j) && decide (j < 2 ^ 40) && decide (s.noChannelWork) && decide ((s.ops.keysOf fun o => o.live && o.fin.isNone && o.src.1 == k && o.opid == wbits c.arg 31 0 && o.eng == .bulk) = [j]) && decide ((s.ops.look j).live = true) && decide ((s.ops.look j).fin = none) && decide ((s.ops.look j).src.1 = k) && decide ((s.ops.look j).eng = .bulk) && decide ((s.ops.look j).opid = wbits c.arg 31 0) && decide ((s.ops.look j).bound = none) && decide ((s.ops.look j).failSt = none) && decide ((s.ops.look j).opcode = 0x20) && decide (s.answers tx.node c.domain) && (completesB s (.refuse c) fun t => decide (
        (t.ops.look j).fin = some (c.status, min ((s.ops.look j).acked + x.len) (min (s.ops.look j).quota x.loff), none) ∧
        (t.ptx.look k).refusalsApplied = wbits c.arg 39 32 ∧ t.sentCtl .refuseAck 0 tx.node tx.func = true))) (sending (fun t => { t with pkts := [sentPkt id] }) id) (pairK) (sentBy (fun t => { t with pkts := [sentPkt id] })) (control .refuse 20 3 0x000014010000004D) (sentPkt id) (195)) = true := by decide +kernel

theorem wit_SourceOfAPairChannel_7 :
    ((fun (s : State) (k : Nat) (tx : PairTx) (c : Ctl) => decide (s.calm) && decide (tx = s.ptx.look k) && decide (tx.live = true) && decide (s.hears c .syncAck) && decide (s.knows c) && decide (k = s.ctlPair c) && decide (tx.sync.map (·.1) = some c.psn) && decide (s.noChannelWork) && (givesB s (.syncAck c) { s with ptx := s.ptx.upd k fun t => { t with idle := 0, sync := none, abandoned := false } })) (sending (fun t => { t with sync := some (21, 3, 2) }) id) (pairK) (sentBy (fun t => { t with sync := some (21, 3, 2) })) (control .syncAck 21 0 0)) = true := by decide +kernel

theorem wit_SourceOfAPairChannel_8 :
    ((fun (s : State) (k : Nat) (tx : PairTx) (x : TxPkt) (ch : Nat) => decide (s.calm) && decide (tx = s.ptx.look k) && decide (tx.live = true) && decide (k < 2 ^ 60) && decide (tx.pkts = [x]) && decide (x.psn < 2 ^ 24) && decide (x.acked = false) && decide (s.timeout ≤ x.age) && decide (x.resends < s.resendLimit) && decide (x.reading = false) && decide (x.pieces ≠ []) && decide ((s.ops.look x.op).bound = some ch) && decide (s.resps = []) && (givesB s (.packetTimeout k x.psn) ({ s with
        ptx := s.ptx.upd k fun t => { t with pkts := [{ x with resends := x.resends + 1, age := 0, retryIn := none, afterAck := false, reading := true }] }
        chans := s.chans.upd ch fun c => { c with
          jumped := c.jumped ++ [{ (default : Burst) with id := c.nextId, op := x.op, kind := .resend k x.psn, len := x.len, pieces := x.pieces }]
          nextId := c.nextId + 1 } }.bump F.WPR_E2E_COUNT_A_RESENDS 1))) (sending (fun t => { t with pkts := [sentPkt (fun x => { x with age := 1000 })] }) (fun o => { o with bound := some 2 })) (pairK) (sentBy (fun t => { t with pkts := [sentPkt (fun x => { x with age := 1000 })] })) (sentPkt (fun x => { x with age := 1000 })) (2)) = true := by decide +kernel

theorem wit_SourceOfAPairChannel_9 :
    ((fun (s : State) (k : Nat) (tx : PairTx) (x : TxPkt) => decide (s.calm) && decide (tx = s.ptx.look k) && decide (tx.live = true) && decide (tx.pkts = [x]) && decide (x.psn < 2 ^ 24) && decide (x.acked = false) && decide (x.retryIn = some 0) && decide (s.resendLimit ≤ x.resends) && decide (s.ops = []) && decide (s.answers tx.node x.dom) && (completesB s (.retryAfterExpiry k x.psn) fun t => decide (
        t.ptx.look k = { tx with pkts := [{ x with acked := true }], sync := some (tx.nextPsn, 0, 0) } ∧ t.sentCtl .sync tx.nextPsn tx.node tx.func = true))) ({ sending (fun t => { t with pkts := [sentPkt (fun x => { x with retryIn := some 0, resends := 900 })] }) id with ops := [] }) (pairK) (sentBy (fun t => { t with pkts := [sentPkt (fun x => { x with retryIn := some 0, resends := 900 })] })) (sentPkt (fun x => { x with retryIn := some 0, resends := 900 }))) = true := by decide +kernel

theorem wit_SourceOfAPairChannel_10 :
    ((fun (s : State) (k : Nat) (tx : PairTx) (j : Nat) => decide (s.calm) && decide (tx = s.ptx.look k) && decide (tx.live = true) && decide (tx.refusalsApplied ≠ tx.refusalsSeen) && decide ((s.resendLimit + 1) * s.timeout ≤ tx.heldAge) && decide (tx.pkts = []) && decide (s.noChannelWork) && decide ((s.ops.keysOf fun o => o.live && o.fin.isNone && o.src.1 == k && o.eng == .bulk) = [j]) && decide ((s.ops.look j).live = true) && decide ((s.ops.look j).fin = none) && decide ((s.ops.look j).allFormed = true) && decide ((s.ops.look j).opcode ≠ 0x31) && (completesB s (.refusalWaitExpiry k) fun t => decide (
        (t.ops.look j).fin = some (stUnreach, (s.ops.look j).failBytes, none) ∧ t.ptx.look k = { tx with refusalsApplied := tx.refusalsSeen, heldAge := 0 }))) (sending (fun t => { t with refusalsSeen := 1, heldAge := 65536 }) id) (pairK) (sentBy (fun t => { t with refusalsSeen := 1, heldAge := 65536 })) (195)) = true := by decide +kernel

theorem wit_SourceOfAPairChannel_11 :
    ((fun (s : State) (k : Nat) (tx : PairTx) (p age since : Nat) (x : TxPkt) => decide (s.calm) && decide (tx = s.ptx.look k) && decide (tx.live = true) && decide (tx.sync = some (p, age, since)) && decide (s.timeout ≤ since) && decide (tx.pkts = [x]) && decide (s.answers tx.node x.dom) && (completesB s (.syncResend k) fun t => decide ( t.ptx.look k = { tx with sync := some (p, age, 0) } ∧ t.sentCtl .sync p tx.node tx.func = true))) (sending (fun t => { t with sync := some (21, 900, 900), pkts := [sentPkt id] }) id) (pairK) (sentBy (fun t => { t with sync := some (21, 900, 900), pkts := [sentPkt id] })) (21) (900) (900) (sentPkt id)) = true := by decide +kernel

theorem wit_SourceOfAPairChannel_12 :
    ((fun (s : State) (k : Nat) (tx : PairTx) (p age since : Nat) => decide (s.calm) && decide (tx = s.ptx.look k) && decide (tx.live = true) && decide (tx.sync = some (p, age, since)) && decide (8 * s.timeout ≤ age) && decide (s.noChannelWork) && (givesB s (.syncAbandon k) { s with ptx := s.ptx.upd k fun t => { t with abandoned := true } })) (sending (fun t => { t with sync := some (21, 9000, 900) }) id) (pairK) (sentBy (fun t => { t with sync := some (21, 9000, 900) })) (21) (9000) (900)) = true := by decide +kernel

theorem wit_SourceOfAPairChannel_13 :
    ((fun (s : State) (k : Nat) (tx : PairTx) => decide (s.calm) && decide (tx = s.ptx.look k) && decide (tx.live = true) && decide (s.ops = []) && decide (tx.sync = none) && decide (s.retain + s.lifetime + 1 ≤ tx.idle) && (givesB s (.sendRecordExpiry k) { s with ptx := s.ptx.del k })) ({ sending (fun t => { t with idle := 65536 }) id with ops := [] }) (pairK) (sentBy (fun t => { t with idle := 65536 }))) = true := by decide +kernel

theorem wit_TargetOfAPairChannel_1 :
    ((fun (s : State) (k : Nat) (r : PairRx) (c : Ctl) (port : Nat) => decide (s.calm) && decide (r = s.prx.look k) && decide (s.hears c .sync) && decide (s.knows c) && decide (s.endpoint c.dstNode = some (s.self, port)) && decide (k = pairKey port c.dstFunc c.srcNode c.srcFunc c.chan) && decide (s.msgs = []) && decide (s.answers c.srcNode c.domain) && decide (r.live = true) && decide (r.srcInc = c.srcInc) && (completesB s (.sync c) fun t => decide (
        t.prx.look k = { r with
          live := true, node := c.srcNode, func := c.srcFunc, port := port, fn := c.dstFunc, chan := c.chan, dom := c.domain, expected := c.psn
          taken := 0, held := [], cur := none, curDup := false, st := .idle, refusing := none, idle := 0 } ∧
        t.sentCtl .syncAck c.psn c.srcNode c.srcFunc = true))) (receiving (fun r => { r with held := [packet .put 4 0 8 3 [1, 2, 3] true] })) (pairK) ((receiving (fun r => { r with held := [packet .put 4 0 8 3 [1, 2, 3] true] })).prx.look pairK) (control .sync 500 0 0) (1)) = true := by decide +kernel

theorem wit_TargetOfAPairChannel_2 :
    ((fun (s : State) (k : Nat) (r : PairRx) (c : Ctl) (port : Nat) => decide (s.calm) && decide (r = s.prx.look k) && decide (s.hears c .refuseAck) && decide (s.knows c) && decide (s.endpoint c.dstNode = some (s.self, port)) && decide (k = pairKey port c.dstFunc c.srcNode c.srcFunc c.chan) && (givesB s (.refuseAck c) { s with prx := s.prx.upd k fun r => { r with refusals := r.refusals.filter (·.num != wbits c.arg 39 32) } })) (receiving (fun r => { r with refusals := [{ (default : Rfsl) with num := 3, lastPsn := 70 }] })) (pairK) ((receiving (fun r => { r with refusals := [{ (default : Rfsl) with num := 3, lastPsn := 70 }] })).prx.look pairK) (control .refuseAck 0 0 0x300000000) (1)) = true := by decide +kernel

theorem wit_TargetOfAPairChannel_3 :
    ((fun (s : State) (k : Nat) (r : PairRx) => decide (s.calm) && decide (r = s.prx.look k) && decide (k < 2 ^ 60) && decide (r.live = true) && decide (r.held ≠ []) && decide (r.cur = none) && decide (s.gapStages ≤ r.heldAge) && decide (s.answers r.node r.dom) && (completesB s (.seqGapReport k) fun t => decide (
        t.prx.look k = { r with heldAge := 0 } ∧ t.get F.WPR_NACK_SENT_SEQ_GAP = satAdd 16 (s.get F.WPR_NACK_SENT_SEQ_GAP) 1 ∧ t.sentCtl .nackSeqGap r.expected r.node r.func = true))) (receiving (fun r => { r with heldAge := 300, held := [packet .put 4 0 8 3 [1, 2, 3] true] })) (pairK) ((receiving (fun r => { r with heldAge := 300, held := [packet .put 4 0 8 3 [1, 2, 3] true] })).prx.look pairK)) = true := by decide +kernel

theorem wit_TargetOfAPairChannel_4 :
    ((fun (s : State) (k : Nat) (r : PairRx) (f : Rfsl) => decide (s.calm) && decide (r = s.prx.look k) && decide (r.refusals = [f]) && decide (f.num < 256) && decide (s.timeout ≤ f.age) && decide (f.resends < s.resendLimit) && decide (s.answers r.node r.dom) && (completesB s (.refuseResend k f.num) fun t => decide (
        t.prx.look k = { r with refusals := [{ f with age := 0, resends := f.resends + 1 }] } ∧ t.sentCtl .refuse f.lastPsn r.node r.func = true))) (receiving (fun r => { r with refusals := [{ (default : Rfsl) with num := 3, lastPsn := 70, age := 5000 }] })) (pairK) ((receiving (fun r => { r with refusals := [{ (default : Rfsl) with num := 3, lastPsn := 70, age := 5000 }] })).prx.look pairK) ({ (default : Rfsl) with num := 3, lastPsn := 70, age := 5000 })) = true := by decide +kernel

theorem wit_TargetOfAPairChannel_5 :
    ((fun (s : State) (k : Nat) (r : PairRx) (f : Rfsl) => decide (s.calm) && decide (r = s.prx.look k) && decide (r.refusals = [f]) && decide (f.num < 256) && decide (s.timeout ≤ f.age) && decide (s.resendLimit ≤ f.resends) && (givesB s (.refuseResend k f.num) { s with prx := s.prx.upd k fun r => { r with refusals := [] } })) (receiving (fun r => { r with refusals := [{ (default : Rfsl) with num := 3, lastPsn := 70, age := 5000, resends := 300 }] })) (pairK) ((receiving (fun r => { r with refusals := [{ (default : Rfsl) with num := 3, lastPsn := 70, age := 5000, resends := 300 }] })).prx.look pairK) ({ (default : Rfsl) with num := 3, lastPsn := 70, age := 5000, resends := 300 })) = true := by decide +kernel

theorem wit_TargetOfAPairChannel_6 :
    ((fun (s : State) (k : Nat) (r : PairRx) => decide (s.calm) && decide (r = s.prx.look k) && decide (r.live = true) && decide (0 < r.owedAcks) && decide (s.answers r.node r.dom) && (completesB s (.ackTimer k) fun t => decide ( t.prx.look k = { r with owedAcks := 0 } ∧ t.sentCtl .ack ((r.expected + 2 ^ 24 - 1) % 2 ^ 24) r.node r.func = true))) (receiving (fun r => { r with owedAcks := 3 })) (pairK) ((receiving (fun r => { r with owedAcks := 3 })).prx.look pairK)) = true := by decide +kernel

theorem wit_TargetOfAPairChannel_7 :
    ((fun (s : State) (k : Nat) (r : PairRx) (p : Packet) => decide (s.calm) && decide (r = s.prx.look k) && decide (r.held = [p]) && decide (p.psn < 2 ^ 24) && decide (s.lifetime < s.age p.birth) && (givesB s (.lifetimeExpiry k p.psn) ({ s with prx := s.prx.upd k fun r => { r with held := [] } }.bump F.WPR_E2E_COUNT_B_LIFETIME_DROPS 1))) ((receiving (fun r => { r with held := [packet .put 4 0 8 3 [1, 2, 3] true] })).put F.STG_NOW_STAGE 500) (pairK) ((receiving (fun r => { r with held := [packet .put 4 0 8 3 [1, 2, 3] true] })).prx.look pairK) (packet .put 4 0 8 3 [1, 2, 3] true)) = true := by decide +kernel

theorem wit_TargetOfAPairChannel_8 :
    ((fun (s : State) (k : Nat) (r : PairRx) => decide (s.calm) && decide (r = s.prx.look k) && decide (r.live = true) && decide (r.held = []) && decide (r.cur = none) && decide (r.taken = 0) && decide (r.refusals = []) && decide (r.refusing = none) && decide (s.retain ≤ r.idle) && (givesB s (.receiveRecordExpiry k) { s with prx := s.prx.del k })) (receiving (fun r => { r with idle := 65536 })) (pairK) ((receiving (fun r => { r with idle := 65536 })).prx.look pairK)) = true := by decide +kernel

theorem wit_TargetOfAPairChannel_9 :
    ((fun (s : State) (k : Nat) (r : PairRx) => decide (s.calm) && decide (r = s.prx.look k) && decide (s.firstBnd = true) && decide (s.quietLeft = 0) && (givesB s .incarnationQuietEnd { s with quiet := false })) ({ base with firstBnd := true, quietLeft := 0, quiet := true }) (0) (default)) = true := by decide +kernel

/-! ### Trust -/

/-- A management message for this device. -/
def message (kind : Nat) (f : Mgmt → Mgmt) : Mgmt := f ⟨9, 0, kind, 9, 1, 4, 7, 8, [0x0041000000000000], [5], [], true, true, true⟩

/-- The generator of P-384. -/
def generator : List Word :=
  [0xaa87ca22be8b0537, 0x8eb1c71ef320ad74, 0x6e1d3b628ba79b98, 0x59f741e082542a38, 0x5502f25dbf55296c, 0x3a545e3872760ab7,
   0x3617de4a96262c6f, 0x5d9e98bf9292dc29, 0xf8f41dbd289a147c, 0xe9da3113b5f0b8c0, 0x0a60b1ce1d7e819d, 0x7a431d7c90ea0e5f]

/-- Words staged for the fabric manager key. -/
def staged (ws : List Word) : State := (List.range 12).foldl (fun s k => s.setReg (0x60020 + 8 * k) (ws.getD k 0)) base

/-- Session 2 of the sideband, and domain 5 with two keys. -/
def session (ready : Bool) : State :=
  { puts (delivering base) [(F.SEC_STATUS_IDENTITY_OK, 1), (F.SEC_POLICY_SB_KEYS, 1), (F.SEC_STATUS_SESSIONS, 1), (F.SEC_STATUS_KEYED, 1)] with
    sess := [(2, ⟨true, 4, ready⟩)], doms := [(5, { (default : Dom) with st := .keyed, cur := some 11, alt := some 12 }), (6, { (default : Dom) with st := .active })] }

/-- The ledger enabled in a ring at port 1. -/
def billing : State :=
  { puts (delivering base) [(F.SEC_LEDGER_CTRL_EN, 1), (F.SEC_LEDGER_CTRL_STATE, 1), (F.SEC_LEDGER_BASE_PORT, 1), (F.SEC_LEDGER_BASE_BASE, 0x40)] with
    ledDue := some 4096, fns := [(129, { (default : HostFn) with bme := true })] }

theorem ne_next (x : BitVec 128) : x + 1 ≠ x := by bv_omega

/-! ### Statements on Management messages, SPDM, keys, billing and seals (spec/15): for each clause a state that meets its hypotheses -/

theorem wit_ManagementMessages_1 :
    ((fun (s : State) (m : Mgmt) (ctx : Nat) => decide (s.calm) && decide (okMgmt m = true) && decide (m.crcOk = true) && decide (s.age m.birth ≤ s.lifetime) && decide (s.mode ≠ 0) && decide (s.halted = false) && decide (s.sealed = false) && decide (m.kind = 1) && decide (s.freeContext = some ctx) && decide (m.formatOk = true) && decide (m.prog ≠ []) && decide (m.param.length ≤ 495) && decide (m.target = s.self) && decide (m.targetInc = s.inc) && decide (m.sigOk = true) && decide (s.fmKey ≠ []) && decide (s.get F.DEV_AUTH_SEQ_SEQ < m.seq) && decide (m.seq < 2 ^ 32) && (completesB s (.wq4Program m) fun t => decide (
        (t.runs.look ctx).wq = 4 ∧ (t.runs.look ctx).dom = 0 ∧ (t.runs.look ctx).prog = .message m.prog ∧ (t.runs.look ctx).params = .msg m.param ∧ (t.runs.look ctx).pc = 0 ∧
        (t.runs.look ctx).g = [] ∧ (t.runs.look ctx).limit = s.stepLimit 4 ∧ ((t.runs.look ctx).st = .running ∨ (t.runs.look ctx).st = .ready) ∧ t.get F.DEV_AUTH_SEQ_SEQ = m.seq))) ({ delivering base with fmKey := generator }) (message 1 id) (0)) = true := by decide +kernel

theorem wit_ManagementMessages_2 :
    ((fun (s : State) (m : Mgmt) (ctx : Nat) => decide (s.calm) && decide (okMgmt m = true) && decide (m.crcOk = true) && decide (s.age m.birth ≤ s.lifetime) && decide (s.mode ≠ 0) && decide (s.halted = false) && decide (s.sealed = false) && decide (m.kind = 1) && decide (s.freeContext = some ctx) && decide ((m.formatOk = false ∨ m.target ≠ s.self ∨ m.targetInc ≠ s.inc ∨ m.sigOk = false ∨ m.seq ≤ s.get F.DEV_AUTH_SEQ_SEQ)) && (givesFaultB s (.wq4Program m) s 0x047)) ({ delivering base with fmKey := generator }) (message 1 (fun m => { m with sigOk := false })) (0)) = true := by decide +kernel

theorem wit_ManagementMessages_3 :
    ((fun (s : State) (o : Origin) (ws : List Word) => decide (s.calm) && decide (s.mayWrite o 0x60018) && decide (okOrigin o = true) && decide (s.originAuth o = true) && decide (s.sealed = false) && decide (s.flag F.SEC_STATUS_FMKEY_LOCKED = false) && decide (ws = ((List.range 12).map fun k => s.reg (0x60020 + 8 * k))) && decide (p384Point ws = true) && (givesB s (.fmKeyRegister o) ((({ s with fmKey := ws }.put F.SEC_FM_KEY_CTRL_VALID 1).put F.SEC_FM_KEY_CTRL_INVALID 0).put F.SEC_STATUS_FMKEY_VALID 1))) (staged generator) (.sideband) (generator)) = true := by decide +kernel

theorem wit_ManagementMessages_4 :
    ((fun (s : State) (o : Origin) (ws : List Word) => decide (s.calm) && decide (s.mayWrite o 0x60018) && decide (okOrigin o = true) && decide (s.originAuth o = true) && decide (s.sealed = false) && decide (s.flag F.SEC_STATUS_FMKEY_LOCKED = false) && decide (ws = ((List.range 12).map fun k => s.reg (0x60020 + 8 * k))) && decide (p384Point ws = false) && (givesB s (.fmKeyRegister o) ((({ s with fmKey := [] }.put F.SEC_FM_KEY_CTRL_VALID 0).put F.SEC_FM_KEY_CTRL_INVALID 1).put F.SEC_STATUS_FMKEY_VALID 0))) (staged (generator.drop 1 ++ [1])) (.sideband) (generator.drop 1 ++ [1])) = true := by decide +kernel

theorem wit_ManagementMessages_5 :
    ((fun (s : State) (m : Mgmt) => decide (s.calm) && decide (okMgmt m = true) && decide (m.crcOk = true) && decide (s.age m.birth ≤ s.lifetime) && decide (m.formatOk = true) && decide ((m.kind = 2 ∨ m.kind = 3)) && decide (m.target ≠ s.self) && (givesB s (.mgmtForward m false) (s.toRouter 4 (.mgmt { m with dstRouter := m.target })))) (delivering base) (message 3 (fun m => { m with target := 12 }))) = true := by decide +kernel

theorem wit_ManagementMessages_6 :
    ((fun (s : State) (m : Mgmt) (answer : List Byte) => decide (s.calm) && decide (okMgmt m = true) && decide (m.crcOk = true) && decide (s.age m.birth ≤ s.lifetime) && decide (m.formatOk = true) && decide (m.kind = 2) && decide (m.target = s.self) && decide (s.sealed = false) && decide (s.mode ≠ 0) && decide (s.quiet = false) && (givesB s (.spdmFabricRequest m answer)
        (s.toRouter 4 (.mgmt ⟨m.origin, s.now % 4096, 3, m.origin, 0, m.origin, m.mtag, 0, [], [], answer, false, true, true⟩)))) (delivering base) (message 2 id) ([1, 2, 3])) = true := by decide +kernel

theorem wit_ManagementMessages_7 :
    ((fun (s : State) (m : Mgmt) => decide (s.calm) && decide (okMgmt m = true) && decide (m.crcOk = true) && decide (s.age m.birth ≤ s.lifetime) && decide (m.formatOk = true) && decide (m.kind = 3) && decide (m.target = s.self) && decide (s.sealed = false) && decide (s.flag F.SEC_MBX_CTRL_BUSY = true) && decide (m.mtag = s.mbxTag) && (givesB s (.spdmFabricResponse m) ((({ s with mbxLeft := 0 }.fillWindow 0x62000 m.body).put F.SEC_MBX_CTRL_BUSY 0).put F.SEC_MBX_CTRL_RESULT 0 |>.put F.SEC_MBX_CTRL_RX_LEN m.body.length))) ({ (delivering base).put F.SEC_MBX_CTRL_BUSY 1 with mbxTag := 7, mbxLeft := 90 }) (message 3 (fun m => { m with body := [1, 2, 3, 4, 5, 6, 7, 8, 9] }))) = true := by decide +kernel

theorem wit_ManagementMessages_8 :
    ((fun (s : State) (o : Origin) (v : Word) (n dst tag : Nat) => decide (s.calm) && decide (s.mayWrite o 0x60100) && decide (okOrigin o = true) && decide (s.flag F.SEC_MBX_CTRL_BUSY = false) && decide (s.quiet = false) && decide (n = wbits v 27 16) && decide (0 < n) && decide (n ≤ 4064) && decide (dst = wbits v 47 32) && decide (tag = (s.mbxTag + 1) % 65536) && (givesB s (.mailboxSend o v) ({ ((s.put F.SEC_MBX_CTRL_TARGET dst).put F.SEC_MBX_CTRL_TX_LEN n).put F.SEC_MBX_CTRL_BUSY 1 with mbxTag := tag, mbxLeft := 1025 }.toRouter 4
        (.mgmt ⟨dst, s.now % 4096, 2, dst, 0, s.self, tag, 0, [], [], s.window 0x61000 n, false, true, true⟩)))) ((delivering base).setReg 0x61000 0x123456789A) (.sideband) (0x0000000C00030000) (3) (12) (1)) = true := by decide +kernel

theorem wit_ManagementMessages_9 :
    ((fun (s : State) => decide (s.calm) && decide (s.flag F.SEC_MBX_CTRL_BUSY = true) && decide (s.mbxLeft = 1) && (givesB s .mailboxTimeout { (s.put F.SEC_MBX_CTRL_BUSY 0).put F.SEC_MBX_CTRL_RESULT 1 with mbxLeft := 0 })) ({ base.put F.SEC_MBX_CTRL_BUSY 1 with mbxLeft := 1 })) = true := by decide +kernel

theorem wit_SpdmResponder_1 :
    (fun (s : State) (t : Transport) (n : Nat) => (s.calm) ∧ (okTransport t = true) ∧ (s.spdmUp t = true)) (base) (.sideband) (0) := by
  refine ⟨?_, ?_, ?_⟩ <;> first | rfl | exact ⟨rfl, rfl⟩ | decide +kernel

theorem wit_SpdmResponder_2 :
    (fun (s : State) (t : Transport) (n : Nat) => (s.calm) ∧ (okTransport t = true) ∧ (s.spdmUp t = true)) (base) (.sideband) (0) := by
  refine ⟨?_, ?_, ?_⟩ <;> first | rfl | exact ⟨rfl, rfl⟩ | decide +kernel

theorem wit_SpdmResponder_3 :
    (fun (s : State) (t : Transport) (n : Nat) => (s.calm) ∧ (okTransport t = true) ∧ (s.spdmUp t = true)) (base) (.sideband) (0) := by
  refine ⟨?_, ?_, ?_⟩ <;> first | rfl | exact ⟨rfl, rfl⟩ | decide +kernel

theorem wit_SpdmResponder_4 :
    ((fun (s : State) (t : Transport) (n : Nat) => decide (s.calm) && decide (okTransport t = true) && decide (s.spdmUp t = true) && (givesB s (.negotiateAlgorithms t false) (s.spdmSay t 0x7F [0x07]))) (base) (.sideband) (0)) = true := by decide +kernel

theorem wit_SpdmResponder_5 :
    (fun (s : State) (t : Transport) (n : Nat) => (s.calm) ∧ (okTransport t = true) ∧ (s.spdmUp t = true)) (base) (.fabric 3 4) (0) := by
  refine ⟨?_, ?_, ?_⟩ <;> first | rfl | exact ⟨rfl, rfl⟩ | decide +kernel

theorem wit_SpdmResponder_6 :
    (fun (s : State) (t : Transport) (n : Nat) => (s.calm) ∧ (okTransport t = true) ∧ (s.spdmUp t = true)) (base) (.sideband) (0) := by
  refine ⟨?_, ?_, ?_⟩ <;> first | rfl | exact ⟨rfl, rfl⟩ | decide +kernel

theorem wit_SpdmResponder_7 :
    (fun (s : State) (t : Transport) (n : Nat) (slot : Nat) => (s.calm) ∧ (okTransport t = true) ∧ (s.spdmUp t = true) ∧ (0 < slot) ∧ (slot < 8)) (base) (.sideband) (0) (7) := by
  refine ⟨?_, ?_, ?_, ?_, ?_⟩ <;> first | rfl | exact ⟨rfl, rfl⟩ | decide +kernel

theorem wit_SpdmResponder_8 :
    (fun (s : State) (t : Transport) (n : Nat) => (s.calm) ∧ (okTransport t = true) ∧ (s.spdmUp t = true) ∧ (s.flag F.SEC_STATUS_IDENTITY_OK = true)) (session true) (.pcie 1) (0) := by
  refine ⟨?_, ?_, ?_, ?_⟩ <;> first | rfl | exact ⟨rfl, rfl⟩ | decide +kernel

theorem wit_SpdmResponder_9 :
    (fun (s : State) (t : Transport) (n : Nat) => (s.calm) ∧ (okTransport t = true) ∧ (s.spdmUp t = true) ∧ (s.flag F.SEC_STATUS_IDENTITY_OK = false)) (base) (.sideband) (0) := by
  refine ⟨?_, ?_, ?_, ?_⟩ <;> first | rfl | exact ⟨rfl, rfl⟩ | decide +kernel

theorem wit_SpdmResponder_10 :
    (fun (s : State) (t : Transport) (n : Nat) (i : Nat) (bs : List Byte) => (s.calm) ∧ (okTransport t = true) ∧ (s.spdmUp t = true) ∧ (i < 256) ∧ (s.flag F.SEC_STATUS_IDENTITY_OK = true) ∧ (s.measure i = some bs)) (session true) (.pcie 1) (0) (1) ([0x20, 0x51, 0, 0, 0xB0]) := by
  refine ⟨?_, ?_, ?_, ?_, ?_, ?_⟩ <;> first | rfl | exact ⟨rfl, rfl⟩ | decide +kernel

theorem wit_SpdmResponder_11 :
    (fun (s : State) (t : Transport) (n : Nat) (i : Nat) => (s.calm) ∧ (okTransport t = true) ∧ (s.spdmUp t = true) ∧ (s.flag F.SEC_STATUS_IDENTITY_OK = true) ∧ (s.sealed = false) ∧ (i < 32) ∧ ((s.sess.look (i + 1)).live = false) ∧ ((∀ j, j < i → (s.sess.look (j + 1)).live = true))) ({ session true with sess := [(1, ⟨true, 4, true⟩), (2, ⟨true, 4, true⟩)] }) (.sideband) (0) (2) := by
  refine ⟨?_, ?_, ?_, ?_, ?_, ?_, ?_, ?_⟩ <;> first | rfl | exact ⟨rfl, rfl⟩ | decide +kernel

theorem wit_SpdmResponder_12 :
    (fun (s : State) (t : Transport) (n : Nat) => (s.calm) ∧ (okTransport t = true) ∧ (s.spdmUp t = true) ∧ (s.inSession t n false)) (session false) (.sideband) (2) := by
  refine ⟨?_, ?_, ?_, ?_⟩ <;> first | rfl | exact ⟨rfl, rfl⟩ | decide +kernel

theorem wit_SpdmResponder_13 :
    (fun (s : State) (t : Transport) (n : Nat) => (s.calm) ∧ (okTransport t = true) ∧ (s.spdmUp t = true) ∧ (s.inSession t n false)) (session false) (.sideband) (2) := by
  refine ⟨?_, ?_, ?_, ?_⟩ <;> first | rfl | exact ⟨rfl, rfl⟩ | decide +kernel

theorem wit_SpdmResponder_14 :
    (fun (s : State) (t : Transport) (n : Nat) => (s.calm) ∧ (okTransport t = true) ∧ (s.spdmUp t = true) ∧ (s.inSession t n true)) (session true) (.sideband) (2) := by
  refine ⟨?_, ?_, ?_, ?_⟩ <;> first | rfl | exact ⟨rfl, rfl⟩ | decide +kernel

theorem wit_SpdmResponder_15 :
    (fun (s : State) (t : Transport) (n : Nat) => (s.calm) ∧ (okTransport t = true) ∧ (s.spdmUp t = true) ∧ (s.inSession t n true)) (session true) (.sideband) (2) := by
  refine ⟨?_, ?_, ?_, ?_⟩ <;> first | rfl | exact ⟨rfl, rfl⟩ | decide +kernel

theorem wit_SpdmResponder_16 :
    (fun (s : State) (t : Transport) (n : Nat) => (s.calm) ∧ (okTransport t = true) ∧ (s.spdmUp t = true) ∧ (s.inSession t n true)) (session true) (.sideband) (2) := by
  refine ⟨?_, ?_, ?_, ?_⟩ <;> first | rfl | exact ⟨rfl, rfl⟩ | decide +kernel

theorem wit_SpdmResponder_17 :
    ((fun (s : State) (t : Transport) (n : Nat) (c : Nat) => decide (s.calm) && decide (okTransport t = true) && decide (s.spdmUp t = true) && decide (c < 256) && (givesB s (.spdmUnsupportedRequest t c) (s.spdmSay t 0x7F [0x07]))) (base) (.sideband) (0) (0x81)) = true := by decide +kernel

theorem wit_KeyOperations_1 :
    (fun (s : State) (t : Transport) (n d : Nat) (key : Key) => (s.inSession t n true) ∧ (d < 65536) ∧ ((viaCode t = 4 → s.flag F.SEC_POLICY_SB_KEYS = true)) ∧ ((d = 0 → s.flag F.DEV_MODE_COMMITTED = false)) ∧ (s.domSt d = .active)) (session true) (.sideband) (2) (6) (44) := by
  refine ⟨?_, ?_, ?_, ?_, ?_⟩ <;> first | rfl | exact ⟨rfl, rfl⟩ | decide +kernel

theorem wit_KeyOperations_2 :
    (fun (s : State) (t : Transport) (n d : Nat) (key cur : Key) (proof : BitVec 128) => (s.inSession t n true) ∧ (d < 65536) ∧ ((viaCode t = 4 → s.flag F.SEC_POLICY_SB_KEYS = true)) ∧ ((s.doms.look d).cur = some cur) ∧ (proof = s.keyProof 2 d cur (keyPrint d (some key)))) (session true) (.sideband) (2) (5) (44) (11) ((session true).keyProof 2 5 11 (keyPrint 5 (some 44))) := by
  refine ⟨?_, ?_, ?_, ?_, ?_⟩ <;> first | rfl | exact ⟨rfl, rfl⟩ | decide +kernel

theorem wit_KeyOperations_3 :
    (fun (s : State) (t : Transport) (n d : Nat) (key cur : Key) (proof : BitVec 128) => (s.inSession t n true) ∧ (d < 65536) ∧ ((viaCode t = 4 → s.flag F.SEC_POLICY_SB_KEYS = true)) ∧ ((s.doms.look d).cur = some cur) ∧ (proof ≠ s.keyProof 2 d cur (keyPrint d (some key)))) (session true) (.sideband) (2) (5) (44) (11) ((session true).keyProof 2 5 11 (keyPrint 5 (some 44)) + 1) := by
  refine ⟨?_, ?_, ?_, ?_, ?_⟩ <;> first | exact ne_next _ | exact ne_next _ | rfl | exact ⟨rfl, rfl⟩ | decide +kernel

theorem wit_KeyOperations_4 :
    (fun (s : State) (t : Transport) (n d : Nat) (cur alt : Key) (proof : BitVec 128) => (s.inSession t n true) ∧ (d < 65536) ∧ ((viaCode t = 4 → s.flag F.SEC_POLICY_SB_KEYS = true)) ∧ ((s.doms.look d).cur = some cur) ∧ ((s.doms.look d).alt = some alt) ∧ (proof = s.keyProof 3 d cur [0, 0])) (session true) (.sideband) (2) (5) (11) (12) ((session true).keyProof 3 5 11 [0, 0]) := by
  refine ⟨?_, ?_, ?_, ?_, ?_, ?_⟩ <;> first | rfl | exact ⟨rfl, rfl⟩ | decide +kernel

theorem wit_KeyOperations_5 :
    (fun (s : State) (t : Transport) (n d : Nat) (cur alt : Key) (proof : BitVec 128) => (s.inSession t n true) ∧ (d < 65536) ∧ ((viaCode t = 4 → s.flag F.SEC_POLICY_SB_KEYS = true)) ∧ ((s.doms.look d).cur = some cur) ∧ ((s.doms.look d).alt = some alt) ∧ (proof = s.keyProof 4 d cur [0, 0])) (session true) (.sideband) (2) (5) (11) (12) ((session true).keyProof 4 5 11 [0, 0]) := by
  refine ⟨?_, ?_, ?_, ?_, ?_, ?_⟩ <;> first | rfl | exact ⟨rfl, rfl⟩ | decide +kernel

theorem wit_KeyOperations_6 :
    (fun (s : State) (t : Transport) (n d : Nat) (cur : Key) (proof : BitVec 128) => (s.inSession t n true) ∧ (d < 65536) ∧ ((viaCode t = 4 → s.flag F.SEC_POLICY_SB_KEYS = true)) ∧ ((s.doms.look d).cur = some cur) ∧ (s.domSt d = .keyed) ∧ (d ≠ 0) ∧ (proof = s.keyProof 5 d cur [0, 0]) ∧ (s.ops = []) ∧ (s.grps = []) ∧ (s.cvys = [])) (session true) (.sideband) (2) (5) (11) ((session true).keyProof 5 5 11 [0, 0]) := by
  refine ⟨?_, ?_, ?_, ?_, ?_, ?_, ?_, ?_, ?_, ?_⟩ <;> first | rfl | exact ⟨rfl, rfl⟩ | decide +kernel

theorem wit_KeyOperations_7 :
    (fun (s : State) (t : Transport) (n d : Nat) => (s.inSession t n true) ∧ (d < 65536) ∧ ((viaCode t = 4 → s.flag F.SEC_POLICY_SB_KEYS = true))) (session true) (.sideband) (2) (5) := by
  refine ⟨?_, ?_, ?_⟩ <;> first | rfl | exact ⟨rfl, rfl⟩ | decide +kernel

theorem wit_BillingAndSeals_1 :
    ((fun (s : State) (n : Nat) => decide (s.calm) && decide (s.ledDue = some n) && decide (s.ledDoms = []) && decide (s.ledOk 1 = true) && decide (s.ledPort = true)) (billing) (4096)) = true := by decide +kernel

theorem wit_BillingAndSeals_2 :
    ((fun (s : State) (n : Nat) (ok : Bool) => decide (s.calm) && decide (s.ledDue = some n) && decide (s.ledOk 1 = false) && (givesB s (.billingPeriodClose ok) { s with ledDue := none, ledMerged := true })) ({ base with ledDue := some 4096 }) (4096) (true)) = true := by decide +kernel

theorem wit_BillingAndSeals_3 :
    ((fun (s : State) (n : Nat) => decide (s.calm) && decide (s.ledDue = some n) && decide (s.ledDoms = []) && decide (s.ledOk 1 = true) && (givesFaultB s (.billingPeriodClose false) { (s.put F.SEC_LEDGER_CTRL_EN 0).put F.SEC_LEDGER_CTRL_STATE 0 with ledDue := none, ledMerged := true } 0x087)) (billing) (4096)) = true := by decide +kernel

theorem wit_BillingAndSeals_4 :
    ((fun (s : State) (o : Origin) (v : Word) => decide (s.calm) && decide (s.mayWrite o 0x60010) && decide (okOrigin o = true) && decide (s.originAuth o = true) && decide (wbit v 0 = true) && decide (wbits v 63 48 = 0x5EA1) && decide (s.quietFabric) && decide (s.mode ≠ 0) && (completesB s (.sealRequest o v) fun t => decide ( t.isSealed 2 ∧ .pin "SEAL_N" false ∈ s.newOuts t))) (session true) (.sideband) (0x5EA1000000000001)) = true := by decide +kernel

theorem wit_BillingAndSeals_5 :
    ((fun (s : State) (o : Origin) (v : Word) => decide (s.calm) && decide (s.mayWrite o 0x60010) && decide (okOrigin o = true) && decide (s.sealed = false) && decide ((s.originAuth o = false ∨ wbit v 0 = false ∨ wbits v 63 48 ≠ 0x5EA1)) && (givesFaultB s (.sealRequest o v) s 0x010)) (session true) (.sideband) (0x5EA0000000000001)) = true := by decide +kernel

theorem wit_BillingAndSeals_6 :
    ((fun (s : State) => decide (s.calm) && decide (s.flag F.SEC_POLICY_SB_SEAL_EN = true) && decide (s.quietFabric) && decide (s.mode ≠ 0) && (completesB s .sidebandSealCommand fun t => decide ( t.isSealed 3 ∧ .pin "SEAL_N" false ∈ s.newOuts t))) ((session true).put F.SEC_POLICY_SB_SEAL_EN 1)) = true := by decide +kernel

theorem wit_BillingAndSeals_7 :
    ((fun (s : State) (store : Nat) => decide (s.calm) && decide (s.quietFabric) && decide (s.mode ≠ 0) && (completesB s (.keystoreEcc store) fun t => decide ( t.isSealed 1 ∧ .pin "SEAL_N" false ∈ s.newOuts t ∧ t.flag (fltPend 0x011) = true))) (session true) (2)) = true := by decide +kernel

/-! ### Lanes -/

/-- Port 3's lanes are ON and its training at a step, its link in a state. -/
def training (step link : Nat) : State :=
  (List.range 4).foldl (fun s j => puts s [(F.LAN_CTRL_TX_PWR (12 + j), 0), (F.LAN_CTRL_RX_PWR (12 + j), 0), (F.LAN_STATUS_TX_STATE (12 + j), 0), (F.LAN_STATUS_RX_STATE (12 + j), 0),
    (F.LAN_STATUS_LOS (12 + j), 0), (F.LAN_STATUS_LOL (12 + j), 0), (F.LAN_STATUS_TRAIN_STEP (12 + j), step), (F.LAN_STATUS_STATE (12 + j), 1)])
    (puts base [(F.WPR_LINK_STATUS_STATE 3, link), (F.RTP_STATUS_LINK_UP 3, link / 2)])

/-! ### Statements on Lanes and training (spec/16): for each clause a state that meets its hypotheses -/

theorem wit_LanesAndTraining_1 :
    ((fun (s : State) (p l : Nat) (o : Origin) (v : Word) (n : Nat) => decide (s.calm) && decide (p < 64) && decide (l < 256) && decide (okOrigin o = true) && decide (s.mayWrite o (0x2000000 + 16384 * l)) && decide (s.pdQuad (l / 4) < 2) && decide (s.half l true = 0) && decide (n = wbits v 63 62) && decide (0 < n) && decide (wbits v 61 60 = s.half l false) && decide (wbit v 0 = false) && decide (wbit v 56 = s.flag (F.LAN_CTRL_MEDIA l)) && decide (wbits v 53 52 = s.get (F.LAN_CTRL_RATE l)) && decide (p = l / 4) && decide (s.get (F.WPR_LINK_STATUS_STATE p) = 0) && (completesB s (.lanePowerWrite o l v) fun t => decide (
        t.half l true = n ∧ t.half l false = s.half l false ∧ t.trainsAt p 0 ∧ (t.fports.look p).trained = false ∧
        (t.train.look p).kept = (n != 3 && ((s.fports.look p).trained || (s.train.look p).kept))))) ({ training 7 0 with fports := [(3, { (default : FPort) with trained := true })] }) (3) (13) (.sideband) (0x4000003200000000) (1)) = true := by decide +kernel

theorem wit_LanesAndTraining_2 :
    ((fun (s : State) (p l : Nat) (tx : Bool) => decide (s.calm) && decide (p < 64) && decide (l < 256) && decide (s.get (if tx then F.LAN_CTRL_TX_PWR l else F.LAN_CTRL_RX_PWR l) = 0) && decide ((s.half l tx = 1 ∨ s.half l tx = 2)) && (completesB s (.laneWakeDone l tx) fun t => decide ( t.half l tx = 0))) ((training 0 0).put (F.LAN_STATUS_TX_STATE 13) 2) (3) (13) (true)) = true := by decide +kernel

theorem wit_LanesAndTraining_3 :
    ((fun (s : State) (p l : Nat) (o : Origin) => decide (s.calm) && decide (p < 64) && decide (l < 256) && decide (okOrigin o = true) && decide (l = 4 * p) && decide (s.mayWrite o (0x2000000 + 16384 * l)) && decide (s.get (F.LAN_CTRL_TX_PWR l) = s.half l true) && decide (s.get (F.LAN_CTRL_RX_PWR l) = s.half l false) && decide (s.get (F.WPR_LINK_STATUS_STATE p) = 2) && decide (s.grps = []) && decide (s.cvys = []) && (completesB s (.laneRetrain o l) fun t => decide ( t.get (F.WPR_LINK_STATUS_STATE p) = 0 ∧ t.get (F.WPR_LINK_STATUS_DOWN_CAUSE p) = 2))) (training 7 2) (3) (12) (.sideband)) = true := by decide +kernel

theorem wit_LanesAndTraining_4 :
    ((fun (s : State) (p l : Nat) (o : Origin) => decide (s.calm) && decide (p < 64) && decide (l < 256) && decide (okOrigin o = true) && decide (l = 4 * p) && decide (s.mayWrite o (0x2000000 + 16384 * l)) && decide (s.get (F.LAN_CTRL_TX_PWR l) = 0) && decide (s.get (F.LAN_CTRL_RX_PWR l) = 0) && decide (s.mayTrain p = true) && (completesB s (.laneRetrain o l) fun t => decide ( t.trainsAt p 1 ∧ (t.train.look p).kept = false))) (training 5 0) (3) (12) (.sideband)) = true := by decide +kernel

theorem wit_LanesAndTraining_5 :
    ((fun (s : State) (p l : Nat) (peaks : List Nat) (taps : List Word) => decide (s.calm) && decide (p < 64) && decide (l < 256) && decide (s.trainStep p = 1) && decide (s.mayTrain p = true) && (completesB s (.trainingStepAdvance p peaks taps) fun t => decide ( t.trainsAt p 2))) (training 1 0) (3) (12) ([]) ([])) = true := by decide +kernel

theorem wit_LanesAndTraining_6 :
    ((fun (s : State) (p l : Nat) (peaks : List Nat) (taps : List Word) => decide (s.calm) && decide (p < 64) && decide (l < 256) && decide (s.trainStep p = 2) && decide (s.mayTrain p = true) && decide ((∀ j : Nat, j < 4 → s.get (F.LAN_STATUS_LOS (4 * p + j)) = 0)) && (completesB s (.trainingStepAdvance p peaks taps) fun t => decide ( t.trainsAt p 3))) (training 2 0) (3) (12) ([]) ([])) = true := by decide +kernel

theorem wit_LanesAndTraining_7 :
    ((fun (s : State) (p l : Nat) (peaks : List Nat) (taps : List Word) => decide (s.calm) && decide (p < 64) && decide (l < 256) && decide (s.trainStep p = 2) && decide (l / 4 = p) && decide (s.get (F.LAN_STATUS_LOS l) = 1) && (givesB s (.trainingStepAdvance p peaks taps) s)) ((training 2 0).put (F.LAN_STATUS_LOS 15) 1) (3) (15) ([]) ([])) = true := by decide +kernel

theorem wit_LanesAndTraining_8 :
    ((fun (s : State) (p l : Nat) (peaks : List Nat) (taps : List Word) => decide (s.calm) && decide (p < 64) && decide (l < 256) && decide (s.trainStep p = 3) && decide (s.mayTrain p = true) && decide ((∀ j : Nat, j < 4 → s.get (F.LAN_STATUS_LOL (4 * p + j)) = 0)) && (completesB s (.trainingStepAdvance p peaks taps) fun t => decide ( t.trainsAt p 4))) (training 3 0) (3) (12) ([]) ([])) = true := by decide +kernel

theorem wit_LanesAndTraining_9 :
    ((fun (s : State) (p l : Nat) (peaks : List Nat) (taps : List Word) => decide (s.calm) && decide (p < 64) && decide (l < 256) && decide (s.trainStep p = 4) && decide (s.mayTrain p = true) && decide (s.get (F.LAN_EQ_CTLE_ADAPT (4 * p + 3)) = 1) && (completesB s (.trainingStepAdvance p peaks taps) fun t => decide ( t.trainsAt p 5 ∧ t.get (F.LAN_STATUS_PEAK_NOW (4 * p + 3)) = min 48 (peaks.getD 3 0)))) (training 4 0) (3) (12) ([1, 2, 3, 60]) ([])) = true := by decide +kernel

theorem wit_LanesAndTraining_10 :
    ((fun (s : State) (p l : Nat) => decide (s.calm) && decide (p < 64) && decide (l < 256) && decide (s.trainStep p = 6) && decide (s.mayTrain p = true) && (completesB s (.trainingGateEnd p 0) fun t => decide ( t.trainsAt p 7 ∧ (t.fports.look p).trained = true ∧ (t.train.look p).ok = true ∧ t.get (F.LAN_STATUS_STATE (4 * p)) = 2))) (training 6 0) (3) (12)) = true := by decide +kernel

theorem wit_LanesAndTraining_11 :
    ((fun (s : State) (p l : Nat) (n : Nat) => decide (s.calm) && decide (p < 64) && decide (l < 256) && decide (s.trainStep p = 6) && decide (s.mayTrain p = true) && decide (0 < n) && (completesB s (.trainingGateEnd p n) fun t => decide ( t.trainsAt p 4 ∧ (t.fports.look p).trained = false))) (training 6 0) (3) (12) (2)) = true := by decide +kernel

theorem wit_LanesAndTraining_12 :
    ((fun (s : State) (p l : Nat) => decide (s.calm) && decide (p < 64) && decide (l < 256) && decide (1 ≤ s.trainStep p) && decide (s.trainStep p ≤ 6) && decide (s.mayTrain p = true) && (completesB s (.trainingTimeout p) fun t => decide (
        t.trainsAt p 1 ∧ t.get (F.LAN_STATUS_TRAIN_FAILS (4 * p)) = satAdd 16 (s.get (F.LAN_STATUS_TRAIN_FAILS (4 * p))) 1 ∧ ((s.train.look p).ok = true → t.flag (fltPend 0x0C6) = true)))) ({ training 6 0 with train := [(3, ⟨false, true⟩)] }) (3) (12)) = true := by decide +kernel

theorem wit_LanesAndTraining_13 :
    ((fun (s : State) (p l : Nat) => decide (s.calm) && decide (p < 64) && decide (l < 256) && decide (p = l / 4) && decide (s.half l false = 0) && decide (s.get (F.LAN_STATUS_LOS l) = 0) && decide (s.get (F.WPR_LINK_STATUS_STATE p) = 2) && decide (s.grps = []) && decide (s.cvys = []) && (completesB s (.losAssert l) fun t => decide ( t.get (F.LAN_STATUS_LOS_SEEN l) = 1 ∧ t.get (F.WPR_LINK_STATUS_STATE p) = 0 ∧ t.get (F.WPR_LINK_STATUS_DOWN_CAUSE p) = 2))) (training 7 2) (3) (15)) = true := by decide +kernel

theorem wit_LanesAndTraining_14 :
    ((fun (s : State) (p l : Nat) => decide (s.calm) && decide (p < 64) && decide (l < 256) && decide (p = l / 4) && decide (s.half l false = 0) && decide (s.get (F.LAN_STATUS_LOL l) = 0) && decide (s.mayTrain p = true) && decide (2 < s.trainStep p) && (completesB s (.lolAssert l) fun t => decide ( t.get (F.LAN_STATUS_LOL l) = 1 ∧ t.get (F.LAN_STATUS_LOL_SEEN l) = 1 ∧ t.trainsAt p 2))) (training 5 0) (3) (12)) = true := by decide +kernel

theorem wit_LanesAndTraining_15 :
    ((fun (s : State) (p l : Nat) => decide (s.calm) && decide (p < 64) && decide (l < 256) && decide (s.half l false = 0) && (givesB s (.losDeassert l) (s.put (F.LAN_STATUS_LOS l) 0))) ((training 2 0).put (F.LAN_STATUS_LOS 15) 1) (3) (15)) = true := by decide +kernel

theorem wit_LanesAndTraining_16 :
    ((fun (s : State) (p l : Nat) => decide (s.calm) && decide (p < 64) && decide (l < 256) && decide (s.half l false = 0) && (givesB s (.lolDeassert l) (s.put (F.LAN_STATUS_LOL l) 0))) ((training 3 0).put (F.LAN_STATUS_LOL 15) 1) (3) (15)) = true := by decide +kernel

/-! ### Modules -/

/-- Cage 17 powered, its module in a state with a record. -/
def moduled (st : Nat) (f : Modl → Modl) : State :=
  { puts base [(F.MOD_STATUS_STATE 17, st), (F.CPW_STATUS_PG 17, 1), (F.CLK_STATUS_MGMT_LOCK, 1), (F.MOD_LIFE_RATED_H 17, 10)] with
    mods := [(17, f { (default : Modl) with ident := true, apps := [0, 1], rated := 20000 })] }

/-! ### Statements on Modules (spec/16): for each clause a state that meets its hypotheses -/

theorem wit_Modules_1 :
    ((fun (s : State) (n : Nat) (i : ModuleInfo) (count wear flags : Nat) => decide (s.calm) && decide (n < 32) && decide (s.mgmtFenced = false) && decide (s.get (F.MOD_STATUS_STATE n) = 1) && decide (i.ready = true) && decide (newest i.ledger = some (count, wear, flags)) && decide (s.get (F.MOD_CTRL_AUTH_EN n) = 1) && (completesB s (.moduleIdentify n i) fun t => decide (
        t.get (F.MOD_STATUS_STATE n) = 2 ∧ t.get (F.MOD_STATUS_CMIS_REV n) = i.cmisRev % 256 ∧ t.get (F.MOD_STATUS_OUI n) = i.oui % 2 ^ 24 ∧
        t.get (F.MOD_STATUS_LEDGER_NEW n) = 0 ∧ t.get (F.MOD_STATUS_VERIFIED n) = 0 ∧ t.get (F.MOD_LIFE_WEAR n) = wear % 2 ^ 32 ∧
        t.get (F.MOD_LIFE_RATED_H n) = max (s.get (F.MOD_CTRL_RATED_DEFAULT_H n)) 1 ∧
        t.mods.look n = { s.mods.look n with ident := true, count := count, flags := flags % 4, apps := i.apps, rated := i.ratedH }))) (moduled 1 id) (17) (⟨true, 0x50, 0x123456, [1, 2], [3, 4], 30000, [(4, 100, 1), (9, 200, 5)], [0]⟩) (9) (200) (5)) = true := by decide +kernel

theorem wit_Modules_2 :
    ((fun (s : State) (n : Nat) (i : ModuleInfo) => decide (s.calm) && decide (n < 32) && decide (s.mgmtFenced = false) && decide (s.get (F.MOD_STATUS_STATE n) = 1) && decide (i.ready = false) && (givesB s (.moduleIdentify n i) (s.put (F.MOD_STATUS_STATE n) 5))) (moduled 1 id) (17) (⟨false, 0, 0, [], [], 0, [], []⟩)) = true := by decide +kernel

theorem wit_Modules_3 :
    ((fun (s : State) (n : Nat) => decide (s.calm) && decide (n < 32) && decide (s.mgmtFenced = false) && decide (s.get (F.MOD_STATUS_STATE n) = 1) && (givesB s (.moduleReadyTimeout n) (s.put (F.MOD_STATUS_STATE n) 5))) (moduled 1 id) (17)) = true := by decide +kernel

theorem wit_Modules_4 :
    ((fun (s : State) (n : Nat) => decide (s.calm) && decide (n < 32) && decide (s.mgmtFenced = false) && decide (s.get (F.MOD_STATUS_STATE n) = 2) && decide ((s.mods.look n).flags.testBit 1 = false) && decide (s.modFits n = true) && (givesB s (.moduleAuthDone n true) (((s.put (F.MOD_STATUS_VERIFIED n) 1).put (F.MOD_LIFE_RATED_H n) (s.mods.look n).rated).put (F.MOD_STATUS_STATE n) 3))) (moduled 2 id) (17)) = true := by decide +kernel

theorem wit_Modules_5 :
    ((fun (s : State) (n : Nat) => decide (s.calm) && decide (n < 32) && decide (s.mgmtFenced = false) && decide (s.get (F.MOD_STATUS_STATE n) = 2) && decide ((s.mods.look n).flags.testBit 1 = false) && decide (s.get (F.MOD_CTRL_USE_UNVERIFIED n) = 0) && decide (s.get (F.MOD_STATUS_VERIFIED n) = 0) && (givesFaultB s (.moduleAuthDone n false) (s.put (F.MOD_STATUS_STATE n) 4) 0x100)) ((moduled 2 id).put (F.MOD_CTRL_USE_UNVERIFIED 17) 0) (17)) = true := by decide +kernel

theorem wit_Modules_6 :
    ((fun (s : State) (n : Nat) (o : Origin) => decide (s.calm) && decide (n < 32) && decide (s.mgmtFenced = false) && decide (okOrigin o = true) && decide (s.mayWrite o (0x2400000 + 4096 * n)) && decide (s.get (F.CPW_STATUS_PG n) = 1) && (givesB s (.moduleRescan o n) (s.put (F.MOD_STATUS_STATE n) 1))) (moduled 3 id) (17) (.sideband)) = true := by decide +kernel

theorem wit_Modules_7 :
    ((fun (s : State) (n : Nat) (o : Origin) (v : Word) (len : Nat) => decide (s.calm) && decide (n < 32) && decide (s.mgmtFenced = false) && decide (okOrigin o = true) && decide (s.mayWrite o (0x2400038 + 4096 * n)) && decide (s.get (F.MOD_CMIS_CMD_BUSY n) = 0) && decide (s.get (F.MOD_STATUS_STATE n) ≠ 0) && decide (s.cmisQ.look (n / 16) = []) && decide (wbit v 61 = false) && decide (len = min 128 (max (wbits v 39 32) 1)) && decide (wbits v 7 0 + len ≤ 256) && (completesB s (.cmisTransaction o n v) fun t => decide (
        t.get (F.MOD_CMIS_CMD_BUSY n) = 1 ∧ t.cmisQ.look (n / 16) = [n] ∧ .cmis n false (wbits v 23 16) (wbits v 7 0) [] ∈ s.newOuts t))) (moduled 3 id) (17) (.sideband) (0x00000008000100F8) (8)) = true := by decide +kernel

theorem wit_Modules_8 :
    ((fun (s : State) (n : Nat) (o : Origin) (v : Word) (len : Nat) => decide (s.calm) && decide (n < 32) && decide (s.mgmtFenced = false) && decide (okOrigin o = true) && decide (s.mayWrite o (0x2400038 + 4096 * n)) && decide (s.get (F.MOD_CMIS_CMD_BUSY n) = 0) && decide (wbit v 61 = true) && decide (len = min 128 (max (wbits v 39 32) 1)) && decide (wbits v 7 0 + len ≤ 256) && decide (((0xB0 ≤ wbits v 23 16 ∧ wbits v 23 16 ≤ 0xB7) ∨ (wbits v 23 16 = 3 ∧ 128 ≤ wbits v 7 0 + len - 1))) && (completesB s (.cmisTransaction o n v) fun t => decide ( t.get (F.MOD_CMIS_CMD_BUSY n) = 0 ∧ t.get (F.MOD_CMIS_CMD_RESULT n) = 3 ∧ t.cmisQ = s.cmisQ))) (moduled 3 id) (17) (.sideband) (0x2000000100B70080) (1)) = true := by decide +kernel

theorem wit_Modules_9 :
    ((fun (s : State) (n : Nat) (data : List Byte) => decide (s.calm) && decide (n < 32) && decide (s.mgmtFenced = false) && decide (s.cmisQ.look (n / 16) = [n]) && decide (s.get (F.MOD_CMIS_CMD_WRITE n) = 0) && decide (data.length = s.cmisLen n) && (givesB s (.cmisTransactionDone n true data) (({ s.fillWindow (0x2400800 + n * 0x1000) (data ++ (s.window (0x2400800 + n * 0x1000) 128).drop (s.cmisLen n)) with
        cmisQ := s.cmisQ.put (n / 16) [] }.put (F.MOD_CMIS_CMD_BUSY n) 0).put (F.MOD_CMIS_CMD_RESULT n) 0))) ({ (moduled 3 id).put (F.MOD_CMIS_CMD_LEN 17) 3 with cmisQ := [(1, [17])] }) (17) ([1, 2, 3])) = true := by decide +kernel

theorem wit_Modules_10 :
    ((fun (s : State) (n : Nat) (data : List Byte) => decide (s.calm) && decide (n < 32) && decide (s.mgmtFenced = false) && decide (s.cmisQ.look (n / 16) = [n]) && (givesB s (.cmisTransactionDone n false data) (({ s with cmisQ := s.cmisQ.put (n / 16) [] }.put (F.MOD_CMIS_CMD_BUSY n) 0).put (F.MOD_CMIS_CMD_RESULT n) 2))) ({ moduled 3 id with cmisQ := [(1, [17])] }) (17) ([])) = true := by decide +kernel

theorem wit_Modules_11 :
    ((fun (s : State) (n : Nat) (temp : Option Int) (w : Nat) => decide (s.calm) && decide (n < 32) && decide (s.mgmtFenced = false) && decide ((s.mods.look n).ident = true) && decide ((s.mods.look n).minutes < 59) && decide ((s.mods.look n).again = false) && decide (w = satAdd 32 (s.get (F.MOD_LIFE_WEAR n)) (wearAdd temp)) && decide (w * 10 < s.get (F.MOD_LIFE_RATED_H n) * 240 * 9) && (givesB s (.wearAccrual n true temp) ({ s with mods := s.mods.upd n fun m => { m with minutes := m.minutes + 1 } }.put (F.MOD_LIFE_WEAR n) w))) (moduled 3 id) (17) (some 11520) (6)) = true := by decide +kernel

theorem wit_Modules_12 :
    ((fun (s : State) (n : Nat) (temp : Option Int) (w : Nat) => decide (s.calm) && decide (n < 32) && decide (s.mgmtFenced = false) && decide ((s.mods.look n).ident = true) && decide ((s.mods.look n).raised.testBit 0 = false) && decide (w = satAdd 32 (s.get (F.MOD_LIFE_WEAR n)) (wearAdd temp)) && decide (s.get (F.MOD_LIFE_RATED_H n) * 240 * 9 ≤ w * 10) && decide (w < s.get (F.MOD_LIFE_RATED_H n) * 240) && (completesB s (.wearAccrual n true temp) fun t => decide ( t.get (F.MOD_LIFE_WEAR n) = w ∧ t.get (F.MOD_STATUS_LIFE_WARN n) = 1 ∧ t.flag (fltPend 0x102) = true))) ((moduled 3 id).put (F.MOD_LIFE_WEAR 17) 2150) (17) (some 14080) (2160)) = true := by decide +kernel

theorem wit_Modules_13 :
    ((fun (s : State) (n : Nat) (temp : Option Int) (w : Nat) => decide (s.calm) && decide (n < 32) && decide (s.mgmtFenced = false) && decide ((s.mods.look n).ident = true) && decide ((s.mods.look n).raised.testBit 1 = false) && decide (w = satAdd 32 (s.get (F.MOD_LIFE_WEAR n)) (wearAdd temp)) && decide (s.get (F.MOD_LIFE_RATED_H n) * 240 ≤ w) && decide (2 ≤ s.get (F.MOD_CTRL_EOL_ACTION n)) && (completesB s (.wearAccrual n true temp) fun t => decide ( t.get (F.MOD_STATUS_LIFE_END n) = 1 ∧ t.get (F.MOD_STATUS_STATE n) = 4 ∧ t.flag (fltPend 0x103) = true))) (((moduled 3 (fun m => { m with raised := 1 })).put (F.MOD_LIFE_WEAR 17) 2390).put (F.MOD_CTRL_EOL_ACTION 17) 2) (17) (some 14080) (2400)) = true := by decide +kernel

theorem wit_Modules_14 :
    ((fun (s : State) (n : Nat) (c : Nat) (bs : List Byte) => decide (s.calm) && decide (n < 32) && decide (s.mgmtFenced = false) && decide ((s.mods.look n).ident = true) && decide ((s.mods.look n).writeDue = true) && decide ((c, bs) = s.ledgerRecord n) && (givesB s (.lifeLedgerWrite n true) ({ s with mods := s.mods.upd n fun m => { m with writeDue := false, count := c } }.out (.cmis n true 3 (if c % 2 = 0 then 128 else 192) bs)))) (moduled 3 (fun m => { m with writeDue := true, count := 6 })) (17) (7) (((moduled 3 (fun m => { m with writeDue := true, count := 6 })).ledgerRecord 17).2)) = true := by decide +kernel

theorem wit_Modules_15 :
    ((fun (s : State) (n : Nat) => decide (s.calm) && decide (n < 32) && decide (s.mgmtFenced = false) && decide ((s.mods.look n).ident = true) && decide ((s.mods.look n).writeDue = true) && (completesB s (.lifeLedgerWrite n false) fun t => decide ( t.mods.look n = { s.mods.look n with writeDue := false, again := true } ∧ t.flag (fltPend 0x101) = true))) (moduled 3 (fun m => { m with writeDue := true, count := 6 })) (17)) = true := by decide +kernel

/-! ### Cages -/

/-- Cage 17 in a state, enabled, on a feed, both feeds good. -/
def caged (st feed : Nat) (l : List (Fld × Nat)) : State :=
  puts base ([(F.CPW_STATUS_STATE 17, st), (F.CPW_STATUS_PRESENT 17, 1), (F.CPW_CTRL_EN 17, 1), (F.CPW_STATUS_FEED 17, feed), (F.CPW_STATUS_A_GOOD 17, 1),
    (F.CPW_STATUS_B_GOOD 17, 1), (F.CLK_STATUS_MGMT_LOCK, 1)] ++ l)

/-! ### Statements on Cage power (spec/17): for each clause a state that meets its hypotheses -/

theorem wit_CagePower_1 :
    ((fun (s : State) (n : Nat) => decide (s.calm) && decide (n < 32) && decide (s.cage n = 0) && decide ((s.cages.look n).latched = false) && decide (s.get (F.CPW_CTRL_EN n) = 1) && decide (s.get (F.CPW_STATUS_WAIT_MS n) = 0) && decide (s.get (F.MOD_STATUS_STATE n) = 0) && (givesB s (.cagePresent n) ((s.put (F.CPW_STATUS_PRESENT n) 1).qualifying n false))) (caged 0 0 []) (17)) = true := by decide +kernel

theorem wit_CagePower_2 :
    ((fun (s : State) (n : Nat) => decide (s.calm) && decide (n < 32) && decide (s.cage n = 0) && decide ((s.cages.look n).latched = true) && decide (s.get (F.MOD_STATUS_STATE n) = 0) && (givesB s (.cagePresent n) ((s.put (F.CPW_STATUS_PRESENT n) 1).cageAt n 7))) ({ caged 0 0 [] with cages := [(17, ⟨true, false, 0⟩)] }) (17)) = true := by decide +kernel

theorem wit_CagePower_3 :
    ((fun (s : State) (n : Nat) => decide (s.calm) && decide (n < 32) && decide (s.cage n = 0) && decide ((s.cages.look n).latched = false) && decide (s.get (F.CPW_CTRL_EN n) = 0) && decide (s.get (F.MOD_STATUS_STATE n) = 0) && (givesB s (.cagePresent n) ((s.put (F.CPW_STATUS_PRESENT n) 1).cageAt n 1))) (caged 0 0 [(F.CPW_CTRL_EN 17, 0)]) (17)) = true := by decide +kernel

theorem wit_CagePower_4 :
    ((fun (s : State) (n : Nat) => decide (s.calm) && decide (n < 32) && decide (s.get (F.MOD_STATUS_STATE n) = 0) && (givesB s (.cageAbsent n) ((s.put (F.CPW_STATUS_PRESENT n) 0).cageAt n 0))) (caged 4 1 [(F.CPW_STATUS_PG 17, 1)]) (17)) = true := by decide +kernel

theorem wit_CagePower_5 :
    ((fun (s : State) (n : Nat) => decide (s.calm) && decide (n < 32) && decide (s.get (F.CPW_STATUS_PRESENT n) = 0) && (givesB s (.absenceClear n) { (s.put (F.CPW_STATUS_RETRIES n) 0).put (F.CPW_STATUS_WAIT_MS n) 0 with cages := s.cages.upd n fun c => { c with latched := false } })) ({ caged 0 0 [(F.CPW_STATUS_PRESENT 17, 0), (F.CPW_STATUS_RETRIES 17, 3)] with cages := [(17, ⟨true, false, 0⟩)] }) (17)) = true := by decide +kernel

theorem wit_CagePower_6 :
    ((fun (s : State) (n : Nat) (b : Bool) => decide (s.calm) && decide (n < 32) && decide (s.cage n ≤ 1) && decide (s.get (if b then F.CPW_CTRL_B_EN n else F.CPW_CTRL_A_EN n) = 1) && decide (s.get (F.CPW_WINDOW_UV_MV n) < s.get (F.CPW_WINDOW_OV_MV n)) && (givesB s (.feedGood n b) (s.put (if b then F.CPW_STATUS_B_GOOD n else F.CPW_STATUS_A_GOOD n) 1))) (caged 1 0 [(F.CPW_STATUS_B_GOOD 17, 0)]) (17) (true)) = true := by decide +kernel

theorem wit_CagePower_7 :
    ((fun (s : State) (n : Nat) (b : Bool) => decide (s.calm) && decide (n < 32) && decide (s.cage n = 4) && decide (s.get (F.CPW_STATUS_FEED n) = (if b then 2 else 1)) && decide (s.get (if b then F.CPW_STATUS_A_GOOD n else F.CPW_STATUS_B_GOOD n) = 1) && (givesFaultB s (.feedBad n b) ({ (((s.put (if b then F.CPW_STATUS_B_GOOD n else F.CPW_STATUS_A_GOOD n) 0).put (F.CPW_STATUS_STATE n) 5).put (F.CPW_STATUS_FEED n) 0) with
        cages := s.cages.upd n fun c => { c with feed := if b then 1 else 2 } }.bump (F.CPW_COUNT_SWAPS n) 1) 0x107)) (caged 4 1 []) (17) (false)) = true := by decide +kernel

theorem wit_CagePower_8 :
    ((fun (s : State) (n : Nat) (b : Bool) => decide (s.calm) && decide (n < 32) && decide (s.cage n = 4) && decide (s.get (F.CPW_STATUS_FEED n) = (if b then 2 else 1)) && decide (s.get (if b then F.CPW_STATUS_A_GOOD n else F.CPW_STATUS_B_GOOD n) = 0) && (completesB s (.feedBad n b) fun t => decide (
        t.cage n = 2 ∧ t.get (F.CPW_STATUS_FEED n) = 0 ∧ t.get (F.CPW_STATUS_PG n) = 0 ∧ t.get (F.MOD_STATUS_STATE n) = 0 ∧ (t.cages.look n).feed = 0 ∧ t.flag (fltPend 0x106) = true))) (caged 4 1 [(F.CPW_STATUS_B_GOOD 17, 0), (F.CPW_STATUS_PG 17, 1), (F.MOD_STATUS_STATE 17, 3)]) (17) (false)) = true := by decide +kernel

theorem wit_CagePower_9 :
    ((fun (s : State) (n : Nat) (o : Origin) => decide (s.calm) && decide (n < 32) && decide (okOrigin o = true) && decide (s.mayWrite o (0x80000 + 64 * n)) && decide (s.get (F.CPW_CTRL_EN n) = 0) && decide (s.cage n = 1) && decide ((s.cages.look n).latched = false) && decide (s.get (F.CPW_STATUS_WAIT_MS n) = 0) && (completesB s (.cageEnWrite o n true) fun t => decide ( t.get (F.CPW_CTRL_EN n) = 1 ∧ t.cage n = 2 ∧ (t.cages.look n).feed = t.selected n))) (caged 1 0 [(F.CPW_CTRL_EN 17, 0)]) (17) (.sideband)) = true := by decide +kernel

theorem wit_CagePower_10 :
    ((fun (s : State) (n : Nat) (o : Origin) => decide (s.calm) && decide (n < 32) && decide (okOrigin o = true) && decide (s.mayWrite o (0x80000 + 64 * n)) && decide (2 ≤ s.cage n) && decide (s.cage n ≤ 6) && (completesB s (.cageEnWrite o n false) fun t => decide (
        t.get (F.CPW_CTRL_EN n) = 0 ∧ t.cage n = 1 ∧ t.get (F.CPW_STATUS_FEED n) = 0 ∧ t.get (F.CPW_STATUS_PG n) = 0 ∧ t.get (F.MOD_STATUS_STATE n) = 0))) (caged 6 0 [(F.CPW_STATUS_WAIT_MS 17, 500)]) (17) (.sideband)) = true := by decide +kernel

theorem wit_CagePower_11 :
    ((fun (s : State) (n : Nat) (o : Origin) (v : Word) => decide (s.calm) && decide (n < 32) && decide (okOrigin o = true) && decide (s.mayWrite o (0x80000 + 64 * n)) && decide (s.cage n ≤ 1) && (completesB s (.cageFeedConfigWrite o n v) fun t => decide (
        t.get (F.CPW_CTRL_EN n) = s.get (F.CPW_CTRL_EN n) ∧ t.get (F.CPW_CTRL_PREFER n) = wbits v 62 62 ∧ t.get (F.CPW_CTRL_A_EN n) = wbits v 61 61 ∧
        t.get (F.CPW_CTRL_B_EN n) = wbits v 60 60 ∧ t.get (F.CPW_STATUS_A_GOOD n) = wbits v 61 61 * s.get (F.CPW_STATUS_A_GOOD n) ∧
        t.get (F.CPW_STATUS_B_GOOD n) = wbits v 60 60 * s.get (F.CPW_STATUS_B_GOOD n) ∧ t.cage n = s.cage n))) (caged 1 0 []) (17) (.sideband) (0x5000000000000000)) = true := by decide +kernel

theorem wit_CagePower_12 :
    ((fun (s : State) (n : Nat) (f : Nat) => decide (s.calm) && decide (n < 32) && decide (s.cage n = 2) && decide ((s.cages.look n).feed = f) && decide (f ≠ 0) && decide (s.selected n = f) && decide ((s.cages.look n).retry = true) && (givesB s (.cageQualified n) { ((s.put (F.CPW_STATUS_STATE n) 3).put (F.CPW_STATUS_FEED n) f).put (F.CPW_STATUS_RETRIES n) (min 8 (s.get (F.CPW_STATUS_RETRIES n) + 1)) with
        cages := s.cages.upd n fun c => { c with retry := false } })) ({ caged 2 0 [] with cages := [(17, ⟨false, true, 1⟩)] }) (17) (1)) = true := by decide +kernel

theorem wit_CagePower_13 :
    ((fun (s : State) (n : Nat) => decide (s.calm) && decide (n < 32) && decide (s.cage n = 3) && decide (s.get (F.CPW_STATUS_FEED n) ≠ 0) && decide (s.get (F.CPW_STATUS_PG n) = 0) && (givesB s (.powerGood n) (((s.put (F.CPW_STATUS_PG n) 1).put (F.CPW_STATUS_STATE n) 4).put (F.MOD_STATUS_STATE n) 1))) (caged 3 1 []) (17)) = true := by decide +kernel

theorem wit_CagePower_14 :
    ((fun (s : State) (n : Nat) => decide (s.calm) && decide (n < 32) && decide (s.get (F.MOD_STATUS_STATE n) ≠ 0) && decide (s.get (F.MOD_CMIS_CMD_BUSY n) = 0) && (completesB s (.powerGoodLost n) fun t => decide (
        t.get (F.CPW_STATUS_PG n) = 0 ∧ t.get (F.MOD_STATUS_STATE n) = 0 ∧ t.mods.look n = default ∧ t.reg (0x2400010 + n * 0x1000) = 0))) (caged 4 1 [(F.CPW_STATUS_PG 17, 1), (F.MOD_STATUS_STATE 17, 3)]) (17)) = true := by decide +kernel

theorem wit_CagePower_15 :
    ((fun (s : State) (n : Nat) (ms : Nat) => decide (s.calm) && decide (n < 32) && decide (s.cage n = 3) && decide (s.get (F.CPW_STATUS_RETRIES n) < 8) && (completesB s (.rampTimeout n ms) fun t => decide ( s.tripped t n 3 ms))) (caged 3 1 []) (17) (20)) = true := by decide +kernel

theorem wit_CagePower_16 :
    ((fun (s : State) (n : Nat) (ms : Nat) => decide (s.calm) && decide (n < 32) && decide (3 ≤ s.cage n) && decide (s.cage n ≤ 5) && decide (s.get (F.CPW_STATUS_RETRIES n) < 8) && (completesB s (.fastTrip n ms) fun t => decide ( s.tripped t n 1 ms))) (caged 5 0 []) (17) (5)) = true := by decide +kernel

theorem wit_CagePower_17 :
    ((fun (s : State) (n : Nat) (ms : Nat) => decide (s.calm) && decide (n < 32) && decide (s.cage n = 4) && decide (s.get (F.CPW_STATUS_RETRIES n) < 8) && (completesB s (.overcurrent n ms) fun t => decide ( s.tripped t n 2 ms))) (caged 4 1 []) (17) (2000000)) = true := by decide +kernel

theorem wit_CagePower_18 :
    ((fun (s : State) (n : Nat) (ms : Nat) => decide (s.calm) && decide (n < 32) && decide (s.cage n = 4) && decide (8 ≤ s.get (F.CPW_STATUS_RETRIES n)) && (completesB s (.overcurrent n ms) fun t => decide (
        t.cage n = 7 ∧ (t.cages.look n).latched = true ∧ t.get (F.CPW_STATUS_FEED n) = 0 ∧ t.flag (fltPend 0x104) = true ∧ t.flag (fltPend 0x105) = true))) (caged 4 1 [(F.CPW_STATUS_RETRIES 17, 8)]) (17) (20)) = true := by decide +kernel

theorem wit_CagePower_19 :
    ((fun (s : State) (n : Nat) => decide (s.calm) && decide (n < 32) && decide (s.cage n = 6) && decide (s.get (F.CPW_STATUS_WAIT_MS n) ≠ 0) && decide (s.get (F.MOD_STATUS_STATE n) = 0) && (givesB s (.retryWaitEnd n) ((s.put (F.CPW_STATUS_WAIT_MS n) 0).qualifying n true))) (caged 6 0 [(F.CPW_STATUS_WAIT_MS 17, 500)]) (17)) = true := by decide +kernel

theorem wit_CagePower_20 :
    ((fun (s : State) (n : Nat) => decide (s.calm) && decide (n < 32) && decide (s.cage n ≠ 6) && decide (s.get (F.CPW_STATUS_WAIT_MS n) ≠ 0) && (givesB s (.retryWaitEnd n) (s.put (F.CPW_STATUS_WAIT_MS n) 0))) (caged 1 0 [(F.CPW_STATUS_WAIT_MS 17, 500)]) (17)) = true := by decide +kernel

theorem wit_CagePower_21 :
    ((fun (s : State) (n : Nat) => decide (s.calm) && decide (n < 32) && decide (s.cage n = 5) && decide (s.get (F.CPW_STATUS_FEED n) = 0) && (givesB s (.swapDeadTimeEnd n) (s.put (F.CPW_STATUS_FEED n) (s.cages.look n).feed))) ({ caged 5 0 [] with cages := [(17, ⟨false, false, 2⟩)] }) (17)) = true := by decide +kernel

theorem wit_CagePower_22 :
    ((fun (s : State) (n : Nat) => decide (s.calm) && decide (n < 32) && decide (s.cage n = 4) && decide (s.get (F.CPW_STATUS_FEED n) ≠ s.preferred n) && decide (s.feedOk n (s.preferred n) = true) && (givesFaultB s (.feedRevert n) ({ (s.put (F.CPW_STATUS_STATE n) 5).put (F.CPW_STATUS_FEED n) 0 with cages := s.cages.upd n fun c => { c with feed := s.preferred n } }.bump
        (F.CPW_COUNT_SWAPS n) 1) 0x107)) (caged 4 2 []) (17)) = true := by decide +kernel

/-! ### Locks and telemetry -/

/-- Lock 9 as given. -/
def locked (f : HLock → HLock) : State := { base with locks := [(9, f default)] }

/-- A snapshot of section 0 captured, its ring at port 1. -/
def captured : State :=
  { puts (mapped base) [(F.TEL_RING_BASE_PORT, 1), (F.TEL_RING_BASE_BASE, 0x40), (F.TEL_SNAP_CFG_EN, 1), (F.TEL_SNAP_STATUS_STATE, 1)] with
    fns := [(129, { (default : HostFn) with bme := true })], snap := some ⟨7, 0, 0, 1, []⟩ }

/-! ### Statements on Hardware locks, snapshots and the bandwidth meter (spec/18, spec/19): for each clause a state that meets its hypotheses -/

theorem wit_LocksAndSnapshots_1 :
    ((fun (s : State) (n : Nat) (o : Origin) (w : Owner) => decide (s.calm) && decide (n < 64) && decide (okOrigin o = true) && decide (originOwner o = some w) && decide (s.regOpen o (0x40000 + 8 * n) false = true) && decide ((s.locks.look n).owner = none) && decide ((s.locks.look n).resv = none) && (givesB s (.lockAcquireRead o n) ({ s with locks := s.locks.upd n (heldBy w) }.out
        (.regData o (0x40000 + 8 * n) (if (s.locks.look n).aband then 0x40000000 else 0))))) (locked (fun l => { l with aband := true })) (9) (.sideband) (⟨0xF000, 0⟩)) = true := by decide +kernel

theorem wit_LocksAndSnapshots_2 :
    ((fun (s : State) (n : Nat) (o : Origin) (w v : Owner) => decide (s.calm) && decide (n < 64) && decide (okOrigin o = true) && decide (originOwner o = some w) && decide (s.regOpen o (0x40000 + 8 * n) false = true) && decide ((s.locks.look n).owner = some v) && decide (v ≠ w) && decide (v.master < 65536) && decide (((s.locks.look n).waiting = false ∨ (s.locks.look n).waitPri < s.ownerPri w)) && (givesB s (.lockAcquireRead o n) ({ s with locks := s.locks.upd n fun l => { l with waiting := true, waitPri := s.ownerPri w, cand := w } }.out
        (.regData o (0x40000 + 8 * n) (BitVec.ofNat 64 (0x80000000 + v.master)))))) (locked (fun l => { l with owner := some ⟨0x1007, 7⟩ })) (9) (.sideband) (⟨0xF000, 0⟩) (⟨0x1007, 7⟩)) = true := by decide +kernel

theorem wit_LocksAndSnapshots_3 :
    ((fun (s : State) (n : Nat) (o : Origin) (w : Owner) => decide (s.calm) && decide (n < 64) && decide (okOrigin o = true) && decide (originOwner o = some w) && decide (s.mayWrite o (0x40000 + 8 * n)) && decide (s.reg (0x40000 + 8 * n) = 0) && decide ((s.locks.look n).owner = some w) && decide (s.ops = []) && (givesB s (.lockReleaseWrite o n) { s with locks := s.locks.upd n fun l => { l with
        owner := none, run := none, aband := false, notified := 0, boost := false, waiters := []
        resv := if l.waiting then some l.cand else none, resvLeft := if l.waiting then 2 else 0 } })) (locked (fun l => { l with owner := some ⟨0xF000, 0⟩, waiting := true, cand := ⟨0x1007, 7⟩ })) (9) (.sideband) (⟨0xF000, 0⟩)) = true := by decide +kernel

theorem wit_LocksAndSnapshots_4 :
    ((fun (s : State) (n : Nat) (o : Origin) (w : Owner) => decide (s.calm) && decide (n < 64) && decide (okOrigin o = true) && decide (originOwner o = some w) && decide (s.mayWrite o (0x40000 + 8 * n)) && decide (s.reg (0x40000 + 8 * n) = 0) && decide ((s.locks.look n).owner ≠ some w) && (givesB s (.lockReleaseWrite o n) (s.bump F.LCK_COUNT_REL_BAD 1))) (locked (fun l => { l with owner := some ⟨0x1007, 7⟩ })) (9) (.sideband) (⟨0xF000, 0⟩)) = true := by decide +kernel

theorem wit_LocksAndSnapshots_5 :
    ((fun (s : State) (n : Nat) (o : Origin) => decide (s.calm) && decide (n < 64) && decide (okOrigin o = true) && decide (s.mayWrite o 0x40600) && decide ((o = .sideband ∨ (originOwner o).isSome = true ∧ s.originAuth o = true)) && decide ((s.locks.look n).owner.isSome = true) && decide (s.ops = []) && (completesB s (.lockForce o n) fun t => decide (
        (t.locks.look n).owner = none ∧ (t.locks.look n).aband = true ∧ t.get F.LCK_COUNT_ABANDONS = satAdd 32 (s.get F.LCK_COUNT_ABANDONS) 1))) (locked (fun l => { l with owner := some ⟨0x1007, 7⟩ })) (9) (.sideband)) = true := by decide +kernel

theorem wit_LocksAndSnapshots_6 :
    ((fun (s : State) (n : Nat) (p : Nat) => decide (s.calm) && decide (n < 64) && decide (p < 4) && decide (s.mayWrite (.pf0 p) 0x40600) && decide (s.originAuth (.pf0 p) = false) && (givesFaultB s (.lockForce (.pf0 p) n) s 0x088)) ({ locked id with ports := [(1, { (default : HostPort) with up := true })], fns := [(129, { (default : HostFn) with mse := true })] }) (9) (1)) = true := by decide +kernel

theorem wit_LocksAndSnapshots_7 :
    ((fun (s : State) (n : Nat) => decide (s.calm) && decide (n < 64) && decide ((s.locks.look n).resv.isSome = true) && decide ((s.locks.look n).resvLeft ≤ 1) && (givesB s (.lockReservationExpiry n) { s with locks := s.locks.upd n fun l => { l with resv := none, resvLeft := 0 } })) (locked (fun l => { l with resv := some ⟨0x1007, 7⟩, resvLeft := 1 })) (9)) = true := by decide +kernel

theorem wit_LocksAndSnapshots_8 :
    ((fun (s : State) (n : Nat) (l : HLock) (left : Nat) => decide (s.calm) && decide (n < 64) && decide (s.locks = [(n, l)]) && decide (l.owner = none) && decide (l.resv.isSome = true) && decide (l.resvLeft = left + 2) && decide (s.ops = []) && (givesB s .supervisorLockTick { s with locks := [(n, { l with resvLeft := left + 1, waiters := [] })] })) (locked (fun l => { l with resv := some ⟨0x1007, 7⟩, resvLeft := 2 })) (9) ({ (default : HLock) with resv := some ⟨0x1007, 7⟩, resvLeft := 2 }) (0)) = true := by decide +kernel

theorem wit_LocksAndSnapshots_9 :
    ((fun (s : State) (n : Nat) (c : Snap) (port at' len : Nat) => decide (s.calm) && decide (n < 64) && decide (s.snap = some c) && decide (port = s.get F.TEL_RING_BASE_PORT) && decide (s.portUp port = true) && decide ((s.fnOf port 0).bme = true) && decide (len = snapFlits c.sections * 64) && decide (at' = s.get F.TEL_RING_BASE_BASE * 4096 + s.get F.TEL_RING_IDX_PRODUCER % 2 ^ s.snapLog2 * len) && (completesB s (.snapshot true) fun t => decide (
        t.snap = none ∧ t.snapSeq = s.snapSeq + 1 ∧ t.snapSkip = 0 ∧ t.snapOver = false ∧ t.get F.TEL_RING_IDX_PRODUCER = (s.get F.TEL_RING_IDX_PRODUCER + 1) % 2 ^ 32 ∧
        (.hostWrite port 0 [(at' + 64, len - 64)] (wordBytes c.words)) ∈ s.newOuts t ∧ (.hostWrite port 0 [(at', 64)] (wordBytes (s.snapHead c))) ∈ s.newOuts t))) (captured) (9) (⟨7, 0, 0, 1, []⟩) (1) (0x40000) (64)) = true := by decide +kernel

theorem wit_LocksAndSnapshots_10 :
    ((fun (s : State) (n : Nat) => decide (s.calm) && decide (n < 64) && decide (s.snap.isSome = true) && (givesFaultB s (.snapshot false) { (s.put F.TEL_SNAP_CFG_EN 0).put F.TEL_SNAP_STATUS_STATE 0 with snap := none } 0x089)) (captured) (9)) = true := by decide +kernel

theorem wit_LocksAndSnapshots_11 :
    ((fun (s : State) (n : Nat) (o : Origin) (v : Word) => decide (s.calm) && decide (n < 64) && decide (okOrigin o = true) && decide (s.mayWrite o 0x50028) && decide (s.get F.TEL_BW_CTRL_BUSY = 0) && (givesB s (.bwMeterStart o v) { (((s.put F.TEL_BW_CTRL_WINDOW (wbits v 15 0)).put F.TEL_BW_CTRL_VALID 0).put F.TEL_BW_CTRL_DISTURBED 0).put F.TEL_BW_CTRL_BUSY 1 with
        bwLeft := some (max (wbits v 15 0) 1 + 1) })) (base) (9) (.sideband) (0x0005)) = true := by decide +kernel

theorem wit_LocksAndSnapshots_12 :
    ((fun (s : State) (n : Nat) => decide (s.calm) && decide (n < 64) && decide (s.bwLeft = some 0) && (completesB s .bwMeterDone fun t => decide (
        t.get F.TEL_BW_CTRL_VALID = 1 ∧ t.get F.TEL_BW_CTRL_BUSY = 0 ∧ t.bwLeft = none ∧
        t.reg (0x50100 + 8 * n) = packW [(32, s.bwBase.look (4 * n)), (0, s.bwBase.look (4 * n + 1))]))) ({ base.put F.TEL_BW_CTRL_BUSY 1 with bwLeft := some 0, bwBase := [(36, 4), (37, 5)] }) (9)) = true := by decide +kernel

/-! ### Statements on Faults, sensors and supplies (spec/20, spec/22): for each clause a state that meets its hypotheses -/

theorem wit_FaultsAndSensors_1 :
    ((fun (s : State) (o : Origin) (src : Nat) => decide (s.calm) && decide (okOrigin o = true) && decide (src < 512) && decide (s.mayWrite o (0x32000 + 8 * src)) && decide (fltClass src = some 0) && decide (src ≠ 0) && decide (src < 0x140) && (givesFaultB s (.faultForce o src) s src)) (base) (.sideband) (0x0C5)) = true := by decide +kernel

theorem wit_FaultsAndSensors_2 :
    ((fun (s : State) (o : Origin) (src : Nat) => decide (s.calm) && decide (okOrigin o = true) && decide (src < 512) && decide (s.mayWrite o (0x32000 + 8 * src)) && decide (3 ≤ (fltClass src).getD 0) && decide (s.originAuth o = false) && (givesFaultB s (.faultForce o src) s 0x00F)) ({ base with ports := [(1, { (default : HostPort) with up := true })], fns := [(129, { (default : HostFn) with mse := true })] }) (.pf0 1) (0x011)) = true := by decide +kernel

theorem wit_FaultsAndSensors_3 :
    ((fun (s : State) (o : Origin) (src : Nat) => decide (s.calm) && decide (okOrigin o = true) && decide (src < 512) && decide (s.mayWrite o (0x32000 + 8 * src)) && decide (fltClass src = some 3) && decide (src ≠ 0x00E) && decide (s.originAuth o = true) && decide (s.vacant) && decide (s.mode = 2) && (completesB s (.faultForce o src) fun t => decide ( t.haltedBy src 2))) (base) (.sideband) (0x14D)) = true := by decide +kernel

theorem wit_FaultsAndSensors_4 :
    ((fun (s : State) (o : Origin) (k j : Nat) => decide (s.calm) && decide (okOrigin o = true) && decide (k < 8) && decide (j < 64) && decide (s.mayWrite o (0x30100 + 8 * k)) && decide (s.flag (fltPend (64 * k + j)) = true) && decide (fltClass (64 * k + j) = some 0) && decide (s.stillHolds (64 * k + j) = false) && (givesB s (.faultClear o k (bitW j)) (s.put (fltPend (64 * k + j)) 0))) (puts base [(fltPend 0x0C5, 1)]) (.sideband) (3) (5)) = true := by decide +kernel

theorem wit_FaultsAndSensors_5 :
    ((fun (s : State) (o : Origin) => decide (s.calm) && decide (okOrigin o = true) && decide (s.mayWrite o 0x30100) && decide (s.flag (fltPend 0x005) = true) && decide (s.get F.CLK_STATUS_HOLDOVER = 1) && (givesB s (.faultClear o 0 (bitW 5)) s)) (puts base [(fltPend 0x005, 1), (F.CLK_STATUS_HOLDOVER, 1)]) (.sideband)) = true := by decide +kernel

theorem wit_FaultsAndSensors_6 :
    ((fun (s : State) (o : Origin) => decide (s.calm) && decide (okOrigin o = true) && decide (s.mayWrite o 0x30100) && decide (s.flag (fltPend 0x005) = true) && decide (s.get F.CLK_STATUS_HOLDOVER = 0) && decide (s.mode = 4) && decide (s.halted = false) && decide ((s.put (fltPend 0x005) 0).anyPending (· == 2) = false) && (givesB s (.faultClear o 0 (bitW 5)) { s.put (fltPend 0x005) 0 with retDue := true })) (puts base [(fltPend 0x005, 1), (F.DEV_MODE_MODE, 4), (F.DEV_MODE_RETURN, 2)]) (.sideband)) = true := by decide +kernel

theorem wit_FaultsAndSensors_7 :
    ((fun (s : State) (o : Origin) => decide (s.calm) && decide (okOrigin o = true) && decide (s.mayWrite o 0x30008) && (givesB s (.firstClr o) { s with first := { s.first with valid := false } })) ({ base with first := { (default : FltRec) with valid := true, source := 5 } }) (.sideband)) = true := by decide +kernel

theorem wit_FaultsAndSensors_8 :
    ((fun (s : State) => decide (s.calm) && decide (s.locks = []) && decide (s.sealed = false) && (completesB s .fabricWedge fun t => decide ( s.resetBy t .wedge ∧ t.get F.DEV_RESET_LAST = 3 ∧ t.flag (fltPend 0x00E) = true))) (puts base [(F.CPW_STATUS_STATE 17, 4), (F.CPW_CTRL_EN 17, 1)])) = true := by decide +kernel

theorem wit_FaultsAndSensors_9 :
    ((fun (s : State) (syn : Word) (i : Nat) => decide (s.calm) && decide (i = wbits syn 23 0) && (givesFaultB s (.eccError ⟨0x14C, syn⟩) { s with tlb := s.tlb.del i } 0x14C)) (mapped base) (0) (0)) = true := by decide +kernel

theorem wit_FaultsAndSensors_10 :
    ((fun (s : State) (syn : Word) (n : Nat) => decide (s.calm) && decide (n = wbits syn 19 0) && (givesFaultB s (.eccError ⟨0x146, syn⟩) { s with eps := s.eps.upd n fun e => e % 2 ^ 31 } 0x146)) (delivering base) (7) (7)) = true := by decide +kernel

theorem wit_FaultsAndSensors_11 :
    ((fun (s : State) (syn : Word) => decide (s.calm) && decide (s.vacant) && decide (s.mode = 2) && (completesB s (.eccError ⟨0x144, syn⟩) fun t => decide ( t.haltedBy 0x144 2))) (base) (5)) = true := by decide +kernel

theorem wit_FaultsAndSensors_12 :
    ((fun (s : State) (k raw : Nat) (v : Int) => decide (s.calm) && decide (k < 16) && decide (raw = (BitVec.ofInt 16 v).toNat) && decide (-32768 ≤ v) && decide (v < 700) && (givesB s (.temperatureSample k v) (((s.put (F.DEV_MON_VALID k) 1).put (F.DEV_MON_VALUE k) raw).put (F.DEV_MON_AGE_US k) 0))) (base) (3) (65516) (-20)) = true := by decide +kernel

theorem wit_FaultsAndSensors_13 :
    ((fun (s : State) (k raw : Nat) (v : Int) => decide (s.calm) && decide (k < 16) && decide (raw = (BitVec.ofInt 16 v).toNat) && decide (1100 < v) && decide (v ≤ 1150) && (givesFaultB s (.temperatureSample k v) (((s.put (F.DEV_MON_VALID k) 1).put (F.DEV_MON_VALUE k) raw).put (F.DEV_MON_AGE_US k) 0) 0x00C)) (base) (3) (1150) (1150)) = true := by decide +kernel

theorem wit_FaultsAndSensors_14 :
    ((fun (s : State) (k : Nat) (v : Int) => decide (s.calm) && decide (k < 16) && decide (1150 < v) && decide (v < 32768) && decide (s.vacant) && decide (s.mode = 2) && (completesB s (.temperatureSample k v) fun t => decide ( t.haltedBy 0x00D 2 ∧ t.flag (fltPend 0x00C) = true))) (base) (3) (1151)) = true := by decide +kernel

theorem wit_FaultsAndSensors_15 :
    ((fun (s : State) (r mv : Nat) => decide (s.calm) && decide (r < 8) && decide (s.railOff r = false) && decide (s.railOut r mv = false) && decide (mv < 65536) && (givesB s (.railCheck r mv) { ((s.put (F.DEV_MON_VALID (16 + r)) 1).put (F.DEV_MON_VALUE (16 + r)) mv).put (F.DEV_MON_AGE_US (16 + r)) 0 with railBad := s.railBad.erase r })) ({ base with railBad := [5] }) (5) (824)) = true := by decide +kernel

theorem wit_FaultsAndSensors_16 :
    ((fun (s : State) (r mv : Nat) => decide (s.calm) && decide (r < 8) && decide (s.railOff r = false) && decide (s.railOut r mv = true) && decide (s.railBad.contains r = false) && (givesB s (.railCheck r mv) { ((s.put (F.DEV_MON_VALID (16 + r)) 1).put (F.DEV_MON_VALUE (16 + r)) mv).put (F.DEV_MON_AGE_US (16 + r)) 0 with railBad := r :: s.railBad })) (base) (5) (825)) = true := by decide +kernel

theorem wit_FaultsAndSensors_17 :
    ((fun (s : State) (r mv : Nat) => decide (s.calm) && decide (r < 8) && decide (s.railOff r = false) && decide (s.railOut r mv = true) && decide (s.railBad.contains r = true) && decide (s.vacant) && decide (s.mode = 2) && (completesB s (.railCheck r mv) fun t => decide ( t.haltedBy 0x00B 2))) ({ base with railBad := [5] }) (5) (775)) = true := by decide +kernel

/-! ### Statements on Modes, power domains, reset and bring-up (spec/21, spec/22): for each clause a state that meets its hypotheses -/

theorem wit_Modes_1 :
    ((fun (s : State) (o : Origin) => decide (okOrigin o = true) && decide (s.calm) && decide (s.mayWrite o 0x10008) && decide (s.originAuth o = true) && decide ((s.mode = 2 ∨ s.mode = 4 ∧ s.get F.DEV_MODE_RETURN = 3)) && (givesB s (.requestOperational o) { s.put F.DEV_MODE_REQ_RESULT 1 with modeReq := some 2 })) (puts base [(F.DEV_MODE_MODE, 4), (F.DEV_MODE_RETURN, 3)]) (.sideband)) = true := by decide +kernel

theorem wit_Modes_2 :
    ((fun (s : State) (o : Origin) => decide (okOrigin o = true) && decide (s.calm) && decide (s.mayWrite o 0x10008) && decide (s.originAuth o = true) && decide (s.mode = 2) && (givesB s (.requestDrain o) { s.put F.DEV_MODE_REQ_RESULT 1 with modeReq := some 3 })) (base) (.sideband)) = true := by decide +kernel

theorem wit_Modes_3 :
    ((fun (s : State) (o : Origin) => decide (okOrigin o = true) && decide (s.calm) && decide (s.mayWrite o 0x10008) && decide ((s.originAuth o = false ∨ s.mode ≤ 1)) && (givesB s (.requestDrain o) (s.put F.DEV_MODE_REQ_RESULT 2))) (puts base [(F.DEV_MODE_MODE, 1)]) (.sideband)) = true := by decide +kernel

theorem wit_Modes_4 :
    ((fun (s : State) (o : Origin) => decide (okOrigin o = true) && decide (s.calm) && decide (s.modeReq = some 3) && decide (s.mode = 2) && (completesB s .modeChange fun t => decide (
        t.mode = 3 ∧ t.modeReq = none ∧ t.get F.DEV_MODE_ENTERED = s.now ∧ t.get F.DEV_MODE_REQ_RESULT = 0 ∧ t.get F.DEV_DRAIN_CTRL_LEFT = max (s.get F.DEV_DRAIN_CTRL_STAGES) 1 ∧
        t.get F.DEV_MODE_DRAINED = (if s.workDone then 1 else 0)))) ({ base with modeReq := some 3 }) (.sideband)) = true := by decide +kernel

theorem wit_Modes_5 :
    ((fun (s : State) (o : Origin) (m : Nat) => decide (okOrigin o = true) && decide ((m = 2 ∨ m = 3)) && decide (s.calm) && decide (s.modeReq = some m) && decide (s.mode = 4) && decide ((s.get F.DEV_MODE_RETURN = 2 ∨ s.get F.DEV_MODE_RETURN = 3)) && (givesB s .modeChange { (s.put F.DEV_MODE_RETURN m).put F.DEV_MODE_REQ_RESULT 0 with modeReq := none })) ({ puts base [(F.DEV_MODE_MODE, 4), (F.DEV_MODE_RETURN, 3)] with modeReq := some 2 }) (.sideband) (2)) = true := by decide +kernel

theorem wit_Modes_6 :
    ((fun (s : State) (o : Origin) => decide (okOrigin o = true) && decide (s.calm) && decide (s.mayWrite o 0x10010) && decide (s.originAuth o = true) && decide (s.mode = 1) && (givesB s (.commit o) { s.put F.DEV_COMMIT_RESULT 2 with commitReq := true })) (puts base [(F.DEV_MODE_MODE, 1)]) (.sideband)) = true := by decide +kernel

theorem wit_Modes_7 :
    ((fun (s : State) (o : Origin) => decide (okOrigin o = true) && decide (s.calm) && decide (s.mayWrite o 0x10010) && decide ((s.originAuth o = false ∨ s.mode = 2)) && (givesB s (.commit o) (s.put F.DEV_COMMIT_RESULT 3))) (base) (.sideband)) = true := by decide +kernel

theorem wit_Modes_8 :
    ((fun (s : State) (o : Origin) => decide (okOrigin o = true) && decide (s.calm) && decide (s.commitReq = true) && decide (s.mode = 1) && decide (s.commitFault = none) && (completesB s .commitTakeEffect fun t => decide (
        t.mode = 2 ∧ t.commitReq = false ∧ t.get F.DEV_MODE_COMMITTED = 1 ∧ t.get F.SEC_STATUS_FMKEY_LOCKED = 1 ∧ t.get F.SEC_POLICY_LOCKED = 1 ∧ t.get F.DEV_COMMIT_RESULT = 1))) ({ puts base [(F.DEV_MODE_MODE, 1), (F.DEV_BRINGUP_RAILS, 1), (F.DEV_BRINGUP_FUSES, 1), (F.DEV_BRINGUP_PLLS, 1), (F.DEV_BRINGUP_SRAM, 1), (F.STG_SYNC_STATUS_STATE, 2)] with commitReq := true }) (.sideband)) = true := by decide +kernel

theorem wit_Modes_9 :
    ((fun (s : State) (o : Origin) (n : Nat) => decide (okOrigin o = true) && decide (s.calm) && decide (s.commitReq = true) && decide (s.mode = 1) && decide (s.commitFault = some n) && (givesB s .commitTakeEffect { s.put F.DEV_COMMIT_RESULT n with commitReq := false })) ({ puts base [(F.DEV_MODE_MODE, 1), (F.DEV_BRINGUP_RAILS, 1)] with commitReq := true }) (.sideband) (5)) = true := by decide +kernel

theorem wit_Modes_10 :
    ((fun (s : State) (o : Origin) => decide (okOrigin o = true) && decide (s.calm) && decide (s.retDue = true) && decide (s.mode = 4) && decide (s.halted = false) && decide (s.anyPending (· == 2) = false) && decide (s.get F.DEV_MODE_RETURN = 2) && (completesB s .degradedReturn fun t => decide ( t.mode = 2 ∧ t.retDue = false ∧ t.get F.DEV_MODE_RETURN = 0 ∧ t.get F.DEV_MODE_ENTERED = s.now))) ({ puts base [(F.DEV_MODE_MODE, 4), (F.DEV_MODE_RETURN, 2)] with retDue := true }) (.sideband)) = true := by decide +kernel

theorem wit_Modes_11 :
    ((fun (s : State) (o : Origin) => decide (okOrigin o = true) && decide (s.calm) && decide (s.anyPending (· == 2) = true) && (givesB s .degradedReturn { s with retDue := false })) ({ puts base [(F.DEV_MODE_MODE, 4), (F.DEV_MODE_RETURN, 2), (fltPend 0x005, 1)] with retDue := true }) (.sideband)) = true := by decide +kernel

theorem wit_Modes_12 :
    ((fun (s : State) (o : Origin) => decide (okOrigin o = true) && decide (s.still) && decide (s.hold = .none) && decide (s.mode = 3) && decide (s.get F.DEV_MODE_DRAINED = 0) && decide (s.get F.DEV_DRAIN_CTRL_LEFT = 0) && decide (s.runs = []) && decide (s.ops = []) && (completesB s .drainTimeout fun t => decide ( t.mode = 3 ∧ t.get F.DEV_MODE_DRAINED = 1))) (puts base [(F.DEV_MODE_MODE, 3)]) (.sideband)) = true := by decide +kernel

theorem wit_PowerDomains_1 :
    ((fun (s : State) (o : Origin) (n : Nat) => decide (okOrigin o = true) && decide (s.calm) && decide (s.mayWrite o 0x10030) && decide (n < 4) && decide (s.get F.DEV_PD_CTRL_CORE = 0) && decide (s.get (pdReq (.host n)) = 0) && decide (s.get (pdState (.host n)) = 0) && (givesB s (.gateHostPort o n) { (s.put (pdReq (.host n)) 1).put (pdState (.host n)) 1 with pdLeft := s.pdLeft.put (3 + n) (max (s.get F.DEV_PD_DRAIN_STAGES) 1 + 1) })) (base) (.sideband) (3)) = true := by decide +kernel

theorem wit_PowerDomains_2 :
    ((fun (s : State) (o : Origin) (n : Nat) => decide (okOrigin o = true) && decide (s.calm) && decide (s.mayWrite o 0x10030) && decide (n < 4) && decide (s.get F.DEV_PD_CTRL_CORE = 0) && decide (s.get (pdReq (.host n)) = 1) && decide (s.get (pdState (.host n)) = 1) && (givesB s (.wakeHostPort o n) { (s.put (pdReq (.host n)) 0).put (pdState (.host n)) 0 with pdLeft := s.pdLeft.del (3 + n) })) ({ puts base [(pdReq (.host 3), 1), (pdState (.host 3), 1)] with pdLeft := [(6, 40)] }) (.sideband) (3)) = true := by decide +kernel

theorem wit_PowerDomains_3 :
    ((fun (s : State) (o : Origin) (n : Nat) => decide (okOrigin o = true) && decide (s.calm) && decide (s.mayWrite o 0x10030) && decide (s.get F.DEV_PD_CTRL_CORE = 0) && decide (s.get F.DEV_PD_CTRL_MAT = 0) && decide (s.get F.DEV_PD_STATUS_MAT = 0) && (givesB s (.gateMatching o) { (s.put F.DEV_PD_CTRL_MAT 1).put F.DEV_PD_STATUS_MAT 1 with pdLeft := s.pdLeft.put 2 (max (s.get F.DEV_PD_DRAIN_STAGES) 1 + 1) })) (base) (.sideband) (0)) = true := by decide +kernel

theorem wit_PowerDomains_4 :
    ((fun (s : State) (o : Origin) (n : Nat) => decide (okOrigin o = true) && decide (s.calm) && decide (s.mayWrite o 0x10030) && decide (s.get F.DEV_PD_CTRL_CORE = 0) && decide (s.get F.DEV_PD_CTRL_MAT = 1) && decide (s.get F.DEV_PD_STATUS_MAT = 2) && (givesB s (.wakeMatching o) ((s.put F.DEV_PD_CTRL_MAT 0).put F.DEV_PD_STATUS_MAT 3))) (puts base [(F.DEV_PD_CTRL_MAT, 1), (F.DEV_PD_STATUS_MAT, 2)]) (.sideband) (0)) = true := by decide +kernel

theorem wit_PowerDomains_5 :
    ((fun (s : State) (o : Origin) (n : Nat) => decide (okOrigin o = true) && decide (s.calm) && decide (s.mayWrite o 0x10030) && decide (s.get F.DEV_PD_CTRL_CORE = 0) && decide (s.get F.DEV_PD_CTRL_COL = 0) && decide (s.get F.DEV_PD_STATUS_COL = 0) && (givesB s (.gateCollectives o) { (s.put F.DEV_PD_CTRL_COL 1).put F.DEV_PD_STATUS_COL 1 with pdLeft := s.pdLeft.put 1 (max (s.get F.DEV_PD_DRAIN_STAGES) 1 + 1) })) (base) (.sideband) (0)) = true := by decide +kernel

theorem wit_PowerDomains_6 :
    ((fun (s : State) (o : Origin) (n : Nat) => decide (okOrigin o = true) && decide (s.calm) && decide (s.mayWrite o 0x10030) && decide (s.get F.DEV_PD_CTRL_CORE = 0) && decide (s.get F.DEV_PD_CTRL_COL = 1) && decide (s.get F.DEV_PD_STATUS_COL = 2) && (givesB s (.wakeCollectives o) ((s.put F.DEV_PD_CTRL_COL 0).put F.DEV_PD_STATUS_COL 3))) (puts base [(F.DEV_PD_CTRL_COL, 1), (F.DEV_PD_STATUS_COL, 2)]) (.sideband) (0)) = true := by decide +kernel

theorem wit_PowerDomains_7 :
    ((fun (s : State) (o : Origin) (n : Nat) => decide (okOrigin o = true) && decide (s.calm) && decide (s.mayWrite o 0x10038) && decide (n < 64) && decide (s.get (pdReq (.quad n)) = 0) && decide (s.get (pdState (.quad n)) = 0) && (givesB s (.gateLaneQuad o n) { (s.put (pdReq (.quad n)) 1).put (pdState (.quad n)) 1 with pdLeft := s.pdLeft.put (16 + n) (max (s.get F.DEV_PD_DRAIN_STAGES) 1 + 1) })) (base) (.sideband) (63)) = true := by decide +kernel

theorem wit_PowerDomains_8 :
    ((fun (s : State) (o : Origin) (n : Nat) => decide (okOrigin o = true) && decide (s.calm) && decide (s.mayWrite o 0x10038) && decide (n < 64) && decide (s.get (pdReq (.quad n)) = 1) && decide (s.get (pdState (.quad n)) = 2) && (givesB s (.wakeLaneQuad o n) ((s.put (pdReq (.quad n)) 0).put (pdState (.quad n)) 3))) (puts base [(pdReq (.quad 63), 1), (pdState (.quad 63), 2)]) (.sideband) (63)) = true := by decide +kernel

theorem wit_PowerDomains_9 :
    ((fun (s : State) (o : Origin) (n : Nat) => decide (okOrigin o = true) && decide (s.still) && decide (s.hold = .none) && decide (s.mayWrite o 0x10030) && decide (s.mode = 3) && decide (s.get F.DEV_MODE_DRAINED = 1) && decide (s.locks = []) && (completesB s (.gateCore o) fun t => decide ( s.resetBy t .gated ∧ t.get F.DEV_PD_STATUS_CORE = 2 ∧ t.get F.DEV_RESET_LAST = 3))) (puts base [(F.DEV_MODE_MODE, 3), (F.DEV_MODE_DRAINED, 1)]) (.sideband) (0)) = true := by decide +kernel

theorem wit_PowerDomains_10 :
    ((fun (s : State) (o : Origin) (n : Nat) => decide (okOrigin o = true) && decide (s.calm) && decide (s.mayWrite o 0x10030) && decide (s.get F.DEV_PD_CTRL_CORE = 0) && (givesB s (.gateCore o) ((s.put F.DEV_PD_CTRL_CORE 1).put F.DEV_PD_STATUS_CORE_REJECT 1))) (base) (.sideband) (0)) = true := by decide +kernel

theorem wit_PowerDomains_11 :
    ((fun (s : State) (o : Origin) (n : Nat) => decide (okOrigin o = true) && decide (s.calm) && decide (s.get F.DEV_PD_STATUS_COL = 1) && decide (s.ops = []) && decide (s.grps = []) && (givesB s (.domainDrained .coll) { s.put F.DEV_PD_STATUS_COL 2 with pdLeft := s.pdLeft.del 1 })) ({ puts base [(F.DEV_PD_STATUS_COL, 1)] with pdLeft := [(1, 5)] }) (.sideband) (0)) = true := by decide +kernel

theorem wit_PowerDomains_12 :
    ((fun (s : State) (o : Origin) (n : Nat) => decide (okOrigin o = true) && decide (s.calm) && decide (n < 64) && decide (s.get (pdState (.quad n)) = 1) && decide (s.pdLeft.look (16 + n) = 1) && decide (s.grps = []) && decide (s.cvys = []) && decide (s.ops = []) && (completesB s (.pdDrainTimeout (.quad n)) fun t => decide (
        t.get (pdState (.quad n)) = 2 ∧ t.pdLeft.look (16 + n) = 0 ∧ t.half (4 * n) true = 3 ∧ t.half (4 * n + 3) false = 3 ∧ t.get (F.WPR_LINK_STATUS_STATE n) = 0))) ({ puts (training 7 2) [(pdState (.quad 3), 1)] with pdLeft := [(19, 1)] }) (.sideband) (3)) = true := by decide +kernel

theorem wit_PowerDomains_13 :
    ((fun (s : State) (o : Origin) (n : Nat) => decide (okOrigin o = true) && decide (s.calm) && decide (s.get F.DEV_PD_STATUS_MAT = 3) && decide (s.get F.DEV_PD_CTRL_MAT = 0) && (givesB s (.domainWakeDone .mat) (s.put F.DEV_PD_STATUS_MAT 0))) (puts base [(F.DEV_PD_STATUS_MAT, 3)]) (.sideband) (0)) = true := by decide +kernel

theorem wit_PowerDomains_14 :
    ((fun (s : State) (o : Origin) (n : Nat) => decide (okOrigin o = true) && decide (s.calm) && decide (n < 4) && decide (s.get (pdState (.host n)) = 3) && decide (s.get (pdReq (.host n)) = 0) && (completesB s (.domainWakeDone (.host n)) fun t => decide ( t.get (pdState (.host n)) = 0 ∧ (t.get F.DEV_BRINGUP_HOSTS).testBit n = true))) (puts base [(pdState (.host 2), 3)]) (.sideband) (2)) = true := by decide +kernel

theorem wit_ResetAndBringup_1 :
    ((fun (s : State) => decide (s.still) && decide (s.hold = .off) && (completesB s .powerOn fun t => decide ( t = { State.reset with regs := t.regs, nextId := s.nextId, freeCtr := s.freeCtr, outs := t.outs, pending := s.pending, hold := .resetN } ∧ t.mode = 0))) ({ State.reset with hold := .off })) = true := by decide +kernel

theorem wit_ResetAndBringup_2 :
    ((fun (s : State) => decide (s.still) && decide (s.hold ≠ .off) && (completesB s .vaoLoss fun t => decide ( t = { State.reset with regs := t.regs, nextId := s.nextId, freeCtr := s.freeCtr, outs := t.outs, pending := s.pending, hold := .off } ∧ t.mode = 0))) (puts base [(F.CPW_STATUS_STATE 17, 4)])) = true := by decide +kernel

theorem wit_ResetAndBringup_3 :
    ((fun (s : State) => decide (s.still) && decide (s.hold = .none) && decide (s.locks = []) && (completesB s .resetNAssert fun t => decide ( s.resetBy t .resetN ∧ t.get F.DEV_RESET_LAST = 1 ∧ t.sealed = s.sealed ∧ t.hist = s.hist ∧ t.first = s.first))) (puts (mapped base) [(F.CPW_STATUS_STATE 17, 4), (F.SEC_STATUS_SEALED, 1)])) = true := by decide +kernel

theorem wit_ResetAndBringup_4 :
    ((fun (s : State) (straps : BitVec 2) (inc : BitVec 16) (secret : Key) => decide (s.still) && decide (s.hold = .resetN) && decide (s.sealed = false) && (givesB s (.resetNRelease straps inc secret) { ((((s.put F.DEV_AUTH_STRAP straps.toNat).put F.WPR_INCARNATION_VALUE inc.toNat).put F.DEV_MODE_MODE 1).put F.DEV_MODE_ENTERED s.now) with
        hold := .none, secret := secret })) ({ State.reset with hold := .resetN }) (2) (77) (5)) = true := by decide +kernel

theorem wit_ResetAndBringup_5 :
    ((fun (s : State) (p : Nat) (v : Word) => decide (s.still) && decide (p < 4) && decide (s.hold = .none) && decide (s.mayWrite (.pf0 p) 0x10028) && decide (s.originAuth (.pf0 p) = true) && decide (wbit v 63 = true) && decide (wbits v 47 32 = 0xC01D) && decide (s.locks = []) && (completesB s (.coldReset (.pf0 p) v) fun t => decide ( s.resetBy t .resetN ∧ t.get F.DEV_RESET_LAST = 2))) ({ puts base [(F.DEV_AUTH_STRAP, 2)] with ports := [(1, { (default : HostPort) with up := true })], fns := [(129, { (default : HostFn) with mse := true })] }) (1) (0x8000C01D00000000)) = true := by decide +kernel

theorem wit_ResetAndBringup_6 :
    ((fun (s : State) => decide (s.still) && decide (s.hold = .none) && decide (s.locks = []) && (completesB s .sidebandColdReset fun t => decide ( s.resetBy t .resetN ∧ t.get F.DEV_RESET_LAST = 2 ∧ t.sealed = s.sealed))) (puts (mapped base) [(F.CPW_STATUS_STATE 17, 4), (F.SEC_STATUS_SEALED, 1)])) = true := by decide +kernel

theorem wit_ResetAndBringup_7 :
    ((fun (s : State) (rail mv : Nat) => decide (s.still) && decide (rail < 8) && decide (s.calm) && (givesB s (.bringupStep (.rails true rail mv)) (s.put F.DEV_BRINGUP_RAILS 1))) (puts base [(F.DEV_MODE_MODE, 1)]) (3) (800)) = true := by decide +kernel

theorem wit_ResetAndBringup_8 :
    ((fun (s : State) (rail mv : Nat) => decide (s.still) && decide (rail < 8) && decide (s.calm) && decide (s.vacant) && decide (s.mode = 1) && (completesB s (.bringupStep (.rails false rail mv)) fun t => decide ( t.haltedBy 0x00B 1))) (puts base [(F.DEV_MODE_MODE, 1)]) (3) (800)) = true := by decide +kernel

theorem wit_ResetAndBringup_9 :
    ((fun (s : State) (mv : Nat) => decide (s.still) && decide (650 ≤ mv) && decide (mv ≤ 800) && decide (mv % 5 = 0) && decide (s.calm) && decide (s.get F.DEV_BRINGUP_FUSES = 0)) (puts base [(F.DEV_MODE_MODE, 1)]) (725)) = true := by decide +kernel

theorem wit_ResetAndBringup_10 :
    ((fun (s : State) (mv : Nat) => decide (s.still) && decide (s.calm) && decide (s.quietFabric) && decide (s.mode = 1) && (completesB s (.bringupStep (.fuses false mv)) fun t => decide ( t.isSealed 1 ∧ t.flag (fltPend 0x012) = true))) (puts (session true) [(F.DEV_MODE_MODE, 1)]) (725)) = true := by decide +kernel

theorem wit_ResetAndBringup_11 :
    ((fun (s : State) => decide (s.still) && decide (s.calm) && decide (s.get F.DEV_BRINGUP_PLLS = 0) && decide (s.get F.CLK_STATUS_A_QUAL = 1) && decide (s.get F.CLK_STATUS_MGMT_LOCK = 1) && (givesB s (.bringupStep .plls) ((((s.put F.CLK_STATUS_REF_SEL 0).put F.CLK_STATUS_TB_LOCK 1).put F.CLK_STATUS_CORE_LOCK 1).put F.DEV_BRINGUP_PLLS 1))) (puts base [(F.CLK_STATUS_A_QUAL, 1), (F.CLK_STATUS_MGMT_LOCK, 1)])) = true := by decide +kernel

theorem wit_ResetAndBringup_12 :
    ((fun (s : State) => decide (s.still) && decide (s.calm) && (givesB s (.bringupStep (.stores none)) (s.put F.DEV_BRINGUP_SRAM 1))) (base)) = true := by decide +kernel

theorem wit_ResetAndBringup_13 :
    ((fun (s : State) => decide (s.still) && decide (s.calm) && (givesB s (.bringupStep .lanes) (s.put F.DEV_BRINGUP_LANES 1))) (base)) = true := by decide +kernel

theorem wit_ResetAndBringup_14 :
    ((fun (s : State) => decide (s.still) && decide (s.calm) && (givesB s (.bringupStep (.identity true)) ((s.put F.DEV_BRINGUP_IDENTITY 1).put F.SEC_STATUS_IDENTITY_OK 1))) (base)) = true := by decide +kernel

theorem wit_ResetAndBringup_15 :
    ((fun (s : State) => decide (s.still) && decide (s.calm) && (completesB s (.bringupStep (.identity false)) fun t => decide ( t.get F.SEC_STATUS_IDENTITY_OK = 0 ∧ t.flag (fltPend 0x013) = true))) (base)) = true := by decide +kernel

theorem wit_ResetAndBringup_16 :
    ((fun (s : State) (n : Nat) => decide (s.still) && decide (n < 4) && decide (s.calm) && decide ((s.ports.look n).refQualified = true) && decide (s.pdHost n = 0) && (givesB s (.bringupStep (.host n)) (s.put F.DEV_BRINGUP_HOSTS (s.get F.DEV_BRINGUP_HOSTS ||| 2 ^ n)))) ({ base with ports := [(2, { (default : HostPort) with refQualified := true })] }) (2)) = true := by decide +kernel

theorem wit_ResetAndBringup_17 :
    ((fun (s : State) => decide (s.still) && decide (s.calm) && (completesB s (.bringupStep .sync) fun t => decide ( t.get F.DEV_BRINGUP_SYNC = (if s.synced then 1 else 0)))) (puts base [(F.STG_SYNC_STATUS_STATE, 2)])) = true := by decide +kernel

theorem wit_ResetAndBringup_18 :
    ((fun (s : State) => decide (s.still) && decide (s.calm) && decide (s.get F.DEV_AVS_STATE = 2) && (givesB s (.avsRetry true) ((s.out (.avs 0 (s.get F.DEV_AVS_TARGET_MV))).put F.DEV_AVS_STATE 1))) (puts base [(F.DEV_AVS_STATE, 2)])) = true := by decide +kernel

theorem wit_ResetAndBringup_19 :
    ((fun (s : State) => decide (s.still) && decide (s.calm) && decide (s.get F.DEV_AVS_STATE = 2) && (givesB s (.avsRetry false) ((s.out (.avs 0 (s.get F.DEV_AVS_TARGET_MV))).bump F.DEV_AVS_RETRIES 1))) (puts base [(F.DEV_AVS_STATE, 2)])) = true := by decide +kernel

/-! ### Statements that name no clause by clause -/

/-- A command waits. -/
def waiting : State := { base with pending := [.mgmtPllLock, .nop 3] }

theorem wit_StepTakesFront : waiting.pending = .mgmtPllLock :: [.nop 3] := rfl
theorem wit_IdleStep : base.pending = [] ∧ base.hold = .none ∧ { base with hold := .off }.pending = [] ∧ { base with hold := .off }.hold ≠ .none := by decide +kernel
theorem wit_StepsKeepOrder : (match step waiting with | .next t => decide (t.work = []) && t.summaryOk && decide (t.pending = [.nop 3]) | _ => false) = true := by decide +kernel
theorem wit_WellFormedCommandsComplete : wellFormed (.nop 8192) = true ∧ wellFormed (.nop 8193) = false := by decide
theorem wit_GeneralRegisters : (runOf []).st ≠ .parked ∧ ((runOf []).setG 4 7).rg 4 = 7 ∧ ((runOf []).setG 0 7).rg 0 = 0 := by decide

/-- A TLB whose entries are valid. -/
def fullTlb : Tab Tlbe := (List.range' 0 4096).map fun i => (i, (⟨true, 1, i, 0, i, true, true, true, false⟩ : Tlbe))

theorem look_range (f : Nat → Tlbe) : ∀ n a j : Nat, a ≤ j → j < a + n → Tab.look ((List.range' a n).map fun i => (i, f i)) j = f j
  | 0, a, j, h, g => absurd g (by omega)
  | n + 1, a, j, h, g => by
    simp only [List.range'_succ, List.map_cons, Tab.look, Tab.lookD]
    split
    · next e => rw [e]
    · exact look_range f n (a + 1) j (by omega) (by omega)

theorem wit_ReplacementRegister_full : ∀ j : Nat, j < 4096 → ({ base with tlb := fullTlb }.tlb.look j).valid = true := fun j h => by
  rw [show ({ base with tlb := fullTlb } : State).tlb = fullTlb from rfl, fullTlb, look_range _ _ _ j (Nat.zero_le _) (by omega)]
theorem wit_ReplacementRegister_free : ((mapped base).tlb.look 1).valid = false ∧ ∀ j : Nat, j < 1 → ((mapped base).tlb.look j).valid = true := by decide +kernel
theorem wit_ReplacementRegister_step : lfsrStep 0xACE1 = 0x59C3 ∧ lfsrStep 1 = 2 ∧ lfsrStep 0xFFFF = 0xFFFE := by decide

/-- A toll of 8,192 tokens on both sides. -/
def toll : Toll := { (default : Toll) with en := true, cbs := 8192, pbs := 9000, tc := 8192, tp := 8192 }

theorem wit_TollsStayWithinTheirBursts : toll.tc ≤ toll.cbs ∧ toll.tp ≤ toll.pbs ∧ (toll.meter 8192 .green).1 = .green ∧ (toll.meter 8193 .green).1 = .red ∧
    { toll with next := some [0] }.next = some [0] := by decide +kernel

/-! ### Words that the spec writes out -/

/-- BRC.NE G2, G0 → 4 (spec/05). -/
theorem test_word_brc : let i := Ins.of 0x1101200000000004 0; i.opcode = 0x11 ∧ i.opf = 1 ∧ i.ra = 2 ∧ i.rb = 0 ∧ i.imm % 65536 = 4 ∧ i.size = 1 := by decide
/-- WAIT on counter 0x0041 until G6 with timeout G7 (spec/05). -/
theorem test_word_wait : let i := Ins.of 0x4000670000000041 0; i.opcode = 0x40 ∧ i.opf = 0 ∧ i.ra = 6 ∧ i.rb = 7 ∧ i.imm % 65536 = 0x41 := by decide
/-- AMOF.ADD G2, d[G0], G0 and AMOF.CAS G5, d[G0], new G3, compare G2 (spec/05). -/
theorem test_word_amof : (Ins.of 0x2500000200000000 0).opcode = 0x25 ∧ (Ins.of 0x2500000200000000 0).rd = 2 ∧ (Ins.of 0x250B032500000000 0).opf = 11 ∧
    (Ins.of 0x250B032500000000 0).rd = 5 ∧ (Ins.of 0x250B032500000000 0).rb = 3 ∧ (Ins.of 0x250B032500000000 0).rc = 2 := by decide

/-! ### Operands that the checks refuse, and their neighbours at the bound -/

/-- A command is refused, its neighbour at the bound is not. -/
def bound (bad good : Instr) : Bool := !wellFormed bad && wellFormed good && (match exec bad base with | .fault .noSuchInstance => true | _ => false)

theorem smoke_okRun : bound (.nop 8193) (.nop 8192) = true := by decide +kernel
theorem smoke_okSlot : bound (.opLocalCompletion 0 64) (.opLocalCompletion 0 63) = true := by decide +kernel
theorem smoke_okCluster : bound (.runRestore 16) (.runRestore 15) = true := by decide +kernel
theorem smoke_ok16 : bound (.wqTurn 65536) (.wqTurn 65535) = true := by decide +kernel
theorem smoke_okEq : bound (.eqModerationTimeout 16384) (.eqModerationTimeout 16383) = true := by decide +kernel
theorem smoke_okSet : bound (.mmuCreate 5) (.mmuCreate 4) = true := by decide +kernel
theorem smoke_okVfSlot : bound (.createEq 0 0 512) (.createEq 0 0 511) = true := by decide +kernel
theorem smoke_okPort : bound (.linkDown 64 1) (.linkDown 63 1) = true := by decide +kernel
theorem smoke_okInput : bound (.packetRoute 65) (.packetRoute 64) = true := by decide +kernel
theorem smoke_okHost : bound (.hostLinkDown 4) (.hostLinkDown 3) = true := by decide +kernel
theorem smoke_okFn : bound (.functionLevelReset 0 129) (.functionLevelReset 0 128) = true := by decide +kernel
theorem smoke_okVf : bound (.startInterfaceRequest 0 0) (.startInterfaceRequest 0 128) = true := by decide +kernel
theorem smoke_okVec : bound (.msixUnmask 0 1 64) (.msixUnmask 0 0 64) = true := by decide +kernel
theorem smoke_okStream : bound (.ideStreamInsecure 0 256) (.ideStreamInsecure 0 255) = true := by decide +kernel
theorem smoke_okChan : bound (.burstGrant 129) (.burstGrant 128) = true := by decide +kernel
theorem smoke_okRf : bound (.rfGo .sideband 16) (.rfGo .sideband 15) = true := by decide +kernel
theorem smoke_okGroup : bound (.collStallTimeout 4096) (.collStallTimeout 4095) = true := by decide +kernel
theorem smoke_okCvy : bound (.convoySlot 1024) (.convoySlot 1023) = true := by decide +kernel
theorem smoke_okLock : bound (.lockReservationExpiry 64) (.lockReservationExpiry 63) = true := by decide +kernel
theorem smoke_okLane : bound (.losAssert 256) (.losAssert 255) = true := by decide +kernel
theorem smoke_okCage : bound (.cagePresent 32) (.cagePresent 31) = true := by decide +kernel
theorem smoke_okClkout : bound (.clkoutHoldEnd 2) (.clkoutHoldEnd 1) = true := by decide +kernel
theorem smoke_okSource : bound (.eccError ⟨512, 0⟩) (.eccError ⟨511, 0⟩) = true := by decide +kernel
theorem smoke_okPsn : bound (.packetTimeout 0 16777216) (.packetTimeout 0 16777215) = true := by decide +kernel
theorem smoke_okSess : bound (.heartbeat .sideband 33) (.heartbeat .sideband 32) = true := by decide +kernel
theorem smoke_okOff : bound (.rcRead .sideband 67108864 8) (.rcRead .sideband 67108856 8) = true := by decide +kernel
theorem smoke_okOrigin : bound (.revert (.vf 0 129)) (.revert (.vf 3 128)) = true := by decide +kernel
theorem smoke_okTransport : bound (.getVersion (.pcie 4)) (.getVersion (.pcie 3)) = true := by decide +kernel
theorem smoke_okPacket : bound (.putArrival { (default : Packet) with chan := 4 }) (.putArrival { (default : Packet) with chan := 3 }) = true := by decide +kernel
theorem smoke_okCtl : bound (.ack (control .ack 16777216 0 0)) (.ack (control .ack 16777215 0 0)) = true := by decide +kernel
theorem smoke_okMgmt : bound (.wq4Program (message 256 id)) (.wq4Program (message 255 id)) = true := by decide +kernel
theorem smoke_okFrame : bound (.convoyFrameReceive 0 { frameOf 0 65536 [] with len := 65536 }) (.convoyFrameReceive 0 (frameOf 0 65535 [])) = true := by decide +kernel
theorem smoke_okLcf : bound (.lcfReceive 0 ⟨4096, false, [], true⟩) (.lcfReceive 0 ⟨4095, false, [], true⟩) = true := by decide +kernel
theorem smoke_okLinit : bound (.linitReceive 0 ⟨6, 8, 64, 1⟩) (.linitReceive 0 ⟨6, 8, 63, 1⟩) = true := by decide +kernel
theorem smoke_okGossip : bound (.gossipReceive 0 ⟨6, [16], true⟩) (.gossipReceive 0 ⟨6, [15], true⟩) = true := by decide +kernel
theorem smoke_okSync : bound (.timeSyncReceive 0 ⟨0, 0, 0, 4, 0, 0, true⟩ 0) (.timeSyncReceive 0 ⟨0, 0, 0, 3, 0, 0, true⟩ 0) = true := by decide +kernel
theorem smoke_okUnit : bound (.linkUnitReceive 0 ⟨32, 0, 1, .ctl (control .ack 0 0 0)⟩ true) (.linkUnitReceive 0 ⟨31, 0, 1, .ctl (control .ack 0 0 0)⟩ true) = true := by decide +kernel
theorem smoke_okCfg : bound (.configurationWrite (.vecMask 0 1 64)) (.configurationWrite (.vecMask 0 1 63)) = true := by decide +kernel
theorem smoke_pdOk : bound (.domainDrained (.host 4)) (.domainDrained (.host 3)) = true := by decide +kernel
theorem smoke_bringOk : bound (.bringupStep (.fuses true 726)) (.bringupStep (.fuses true 725)) = true := by decide +kernel

theorem smoke_boundary : bound (.stageBoundary ⟨0, [(4, 0)]⟩) (.stageBoundary ⟨0, [(5, 0)]⟩) = true := by decide +kernel
theorem smoke_boundaryHigh : bound (.stageBoundary ⟨0, [(11, 0)]⟩) (.stageBoundary ⟨0, [(10, 0)]⟩) = true := by decide +kernel
theorem smoke_linkCause : bound (.linkDown 0 6) (.linkDown 0 5) = true := by decide +kernel
theorem smoke_linkCauseLow : bound (.linkDown 0 0) (.linkDown 0 1) = true := by decide +kernel
theorem smoke_hostRate : bound (.hostLinkUp 0 7 1 false) (.hostLinkUp 0 6 1 false) = true := by decide +kernel
theorem smoke_hostWidth : bound (.hostLinkUp 0 1 6 false) (.hostLinkUp 0 1 5 false) = true := by decide +kernel
theorem smoke_rawBank : bound (.routeRawWrite .sideband 2 0 8 0) (.routeRawWrite .sideband 1 0 8 0) = true := by decide +kernel
theorem smoke_certificate : bound (.getCertificate .sideband 8) (.getCertificate .sideband 7) = true := by decide +kernel
theorem smoke_measurement : bound (.getMeasurements .sideband 256) (.getMeasurements .sideband 255) = true := by decide +kernel
theorem smoke_spdmCode : bound (.spdmUnsupportedRequest .sideband 256) (.spdmUnsupportedRequest .sideband 255) = true := by decide +kernel
theorem smoke_page : bound (.doorbell ⟨0, 0, 65536, 0, true⟩) (.doorbell ⟨0, 0, 65535, 0, true⟩) = true := by decide +kernel
theorem smoke_epRaw : bound (.epRawWrite .sideband 262144 0) (.epRawWrite .sideband 262143 0) = true := by decide +kernel
theorem smoke_keyIndex : bound (.keyTableReadReturn 16777216 .busErr) (.keyTableReadReturn 16777215 .busErr) = true := by decide +kernel
theorem smoke_clearWord : bound (.faultClear .sideband 8 0) (.faultClear .sideband 7 0) = true := by decide +kernel
theorem smoke_refuseNum : bound (.refuseResend 0 256) (.refuseResend 0 255) = true := by decide +kernel
theorem smoke_rail : bound (.railCheck 8 700) (.railCheck 7 700) = true := by decide +kernel
theorem smoke_segment : bound (.segmentCombine 0 0 16777216) (.segmentCombine 0 0 16777215) = true := by decide +kernel
theorem smoke_sensor : bound (.temperatureSample 16 0) (.temperatureSample 15 0) = true := by decide +kernel
theorem smoke_frameSeq : bound (.convoyFrameTimeout 0 4294967296) (.convoyFrameTimeout 0 4294967295) = true := by decide +kernel

end Sys2Proof.Tests
end

section
namespace Sys2Proof.Machine

/-! ### Deferred happenings -/

/-- Draining a state whose one deferred happening leaves none carries it out. -/
theorem drain_single (n : Nat) {s : State} {w : Work} (h : s.work = [w]) (hw : (State.workOne { s with work := [] } w).work = []) :
    drain (n + 1) s = State.workOne { s with work := [] } w := by
  rw [drain, h]
  exact drain_nil n _ hw

/-- Settling carries out the one happening a command deferred, when that leaves a calm state. -/
theorem State.settle_single {s t : State} {w : Work} (h : s.work = [w]) (hw : State.workOne { s with work := [] } w = t) (ht : t.calm) :
    s.settle = t.settle := by
  have hd : drain (2 ^ 24) s = t := by
    rw [← hw, show 2 ^ 24 = 2 ^ 24 - 1 + 1 from rfl]
    exact drain_single _ h (by rw [hw]; exact ht.1)
  have hr : rounds 256 s = t := by
    unfold rounds
    rw [hd, State.follow_calm t ht]
    simp [ht.1]
  unfold State.settle
  rw [hr, rounds_calm 256 t ht]

/-- The same of a happening left on a state where none waits. -/
theorem State.settle_later {s t : State} {w : Work} (h : s.work = []) (hw : State.workOne s w = t) (ht : t.calm) : (s.later w).settle = t.settle := by
  have e : ({ s.later w with work := [] } : State) = s := by cases s; cases h; rfl
  exact State.settle_single (w := w) (by simp [h]) (by rw [e, hw]) ht

/-- A command of the fabric die on a calm state ends by settling what it does (R541). -/
theorem ended_fabric {s : State} {ok : Bool} (h : s.calm) (hk : ok = true) (k : State → State) : ended ok (s.fabric k) = .next (k s).settle := by
  obtain ⟨-, -, -, -, -, -, hh⟩ := h
  rw [ended_true _ _ hk, State.fabric_on _ _ hh]

end Sys2Proof.Machine
end

section
namespace Sys2Proof.Machine

theorem rowAt_queCtrVal {r : Nat} (h : r < 5) :
    rowAt (0x100020 + 64 * r) = some ⟨"QUE_CTR_VAL", 0x100020, [(0x40, 5)], [⟨63, 0, .rw, 0, .live⟩]⟩ := by
  interval_cases r <;> rfl

theorem rowAt_queEqCons {e : Nat} (h : e < 16384) :
    rowAt (0x120000 + 8 * e) =
      some ⟨"QUE_EQ_CONS", 0x120000, [(0x8, 16384)], [⟨63, 63, .w1s, 0, .live⟩, ⟨31, 0, .rw, 0, .live⟩]⟩ := by
  have hb : rowAt (0x120000 + 8 * e) = regRowsQue.find? fun r => decide (r.base ≤ 0x120000 + 8 * e) && inDims r.dims (0x120000 + 8 * e - r.base) := by
    unfold rowAt
    simp only
    rw [if_neg (by omega), if_neg (by omega), if_pos (by omega), if_pos (by omega)]
  rw [hb]
  have h6 : ∀ b, b ≤ 0x100028 → ¬ (0x120000 + 8 * e - b) / 0x40 < 5 := by omega
  have hv : ¬ (0x120000 + 8 * e - 0x110000) / 8 < 8192 := by omega
  simp [regRowsQue, inDims, h6, hv, h]

theorem rowAt_secFmKeyCtrl :
    rowAt 0x60018 = some ⟨"SEC_FM_KEY_CTRL", 0x60018, [], [⟨63, 63, .wo, 0, .live⟩, ⟨1, 1, .ro, 0, .none⟩, ⟨0, 0, .ro, 0, .none⟩]⟩ := rfl

theorem rowAt_secMbxCtrl :
    rowAt 0x60100 = some ⟨"SEC_MBX_CTRL", 0x60100, [], [⟨63, 63, .wo, 0, .live⟩, ⟨62, 62, .ro, 0, .none⟩, ⟨61, 60, .ro, 0, .none⟩,
      ⟨47, 32, .rw, 0, .live⟩, ⟨27, 16, .rw, 0, .live⟩, ⟨11, 0, .ro, 0, .none⟩]⟩ := rfl

/-- A state that no locked TDI watches takes a write as it stands (R447). -/
theorem State.tdiWatch_unlocked {s : State} (h : (s.fns.keysOf fun h => h.tdi == .locked || h.tdi == .run) = []) (k : State → State) :
    s.tdiWatch k = k s := by
  simp [State.tdiWatch, h]

/-- A write of a named register below the windows, by anything but a VF, that no locked TDI watches. -/
theorem State.regWrite_named {s : State} {o : Origin} {off size : Nat} {v : Word} {row : RegRow} (ho : s.regOpen o off true = true) (hv : notVf o = true)
    (hl : (s.fns.keysOf fun h => h.tdi == .locked || h.tdi == .run) = []) (hz : sizeOk off size = true) (hb : off < 0x201000)
    (hr : rowAt (off / 8 * 8) = some row) :
    s.regWrite o off size v = s.regPut o row off size
      (let v := if size = 8 then v else v &&& BitVec.ofNat 64 (2 ^ 32 - 1); if off % 8 = 4 then v <<< 32 else v) := by
  have h1 : ¬ (0x1500000 ≤ off ∧ off < 0x1700000) := by omega
  have h2 : ¬ 0x201000 ≤ off := by omega
  cases o with
  | vf p f => cases hv
  | pf0 p => simp [State.regWrite, ho, hz, h1, h2, hr, State.tdiWatch_unlocked hl]
  | sideband => simp [State.regWrite, ho, hz, h1, h2, hr, State.tdiWatch_unlocked hl]
  | instr => simp [State.regWrite, ho, hz, h1, h2, hr]


@[simp] theorem FieldRow.within_whole (f : FieldRow) (off : Nat) : f.within off 8 = true := by simp [FieldRow.within]

theorem FieldRow.within_high (f : FieldRow) {off : Nat} (h : off % 8 = 4) : f.within off 4 = decide (32 ≤ f.lo) := by simp [FieldRow.within, h]

/-! ### Registers that commands write -/

@[simp] theorem and_ones_word (w : Word) : w &&& 18446744073709551615#64 = w := BitVec.and_allOnes

/-- A 64-bit write of QUE_EQ_CONS_e covers ARM and CONSUMER (R201, R202). -/
theorem State.regWrite_queEqCons {s : State} {o : Origin} {e : Nat} {v : Word} (hw : s.mayWrite o (0x120000 + 8 * e)) (h : e < 16384) :
    s.regWrite o (0x120000 + 8 * e) 8 v = s.eqConsWrite e (v &&& 0x80000000FFFFFFFF#64) 0x80000000FFFFFFFF#64 := by
  obtain ⟨ho, hv, hl, -, -⟩ := hw
  have h8 : (0x120000 + 8 * e) / 8 * 8 = 0x120000 + 8 * e := by omega
  have hr := rowAt_queEqCons h
  rw [State.regWrite_named ho hv hl (by simp [sizeOk]) (by omega) (by rw [h8]; exact hr)]
  simp [State.regPut, State.hookFab, fieldBits, h8, hr]

/-- A 32-bit write of its high half covers ARM alone. -/
theorem State.regWrite_queEqArm {s : State} {o : Origin} {e : Nat} (ho : s.regOpen o (0x120004 + 8 * e) true = true)
    (hw : s.mayWrite o (0x120000 + 8 * e)) (h : e < 16384) : s.regWrite o (0x120000 + 8 * e + 4) 4 (bitW 31) = s.eqArm e := by
  obtain ⟨-, hv, hl, -, -⟩ := hw
  have h8 : (0x120000 + 8 * e + 4) / 8 * 8 = 0x120000 + 8 * e := by omega
  have hm : (0x120000 + 8 * e + 4) % 8 = 4 := by omega
  have hr := rowAt_queEqCons h
  rw [State.regWrite_named (by rw [← ho]; congr 1; omega) hv hl (by simp [sizeOk]; omega) (by omega) (by rw [h8]; exact hr)]
  simp [State.regPut, State.hookFab, State.eqConsWrite, fieldBits, FieldRow.within_high, h8, hm, hr, bitW, wbit]

/-- A 64-bit write of QUE_CTR_VAL_r sets the counter it selects (R204). -/
theorem State.regWrite_queCtrVal {s : State} {o : Origin} {r : Nat} {v : Word} (hw : s.mayWrite o (0x100020 + 64 * r)) (h : r < 5) :
    s.regWrite o (0x100020 + 64 * r) 8 v = s.ctrWrite r v := by
  obtain ⟨ho, hv, hl, -, -⟩ := hw
  have h8 : (0x100020 + 64 * r) / 8 * 8 = 0x100020 + 64 * r := by omega
  have hm : ¬ (0x100020 + 64 * r) % 8 = 4 := by omega
  have hr := rowAt_queCtrVal h
  rw [State.regWrite_named ho hv hl (by simp [sizeOk]; omega) (by omega) (by rw [h8]; exact hr)]
  simp [State.regPut, State.hookFab, fieldBits, h8, hm, hr]

/-- A write without stage-latched bits, while none waits, leaves none for the boundary (R9). -/
theorem State.stagePut_none {s : State} {off : Nat} (m v : Word) (hs : s.spend = []) (hm : s.smask = [])
    (h : fieldBits off (fun f => f.latch == .stage) = 0) : s.stagePut off m v = s := by
  have e : s.stagePut off m v = { s with spend := [], smask := [] } := by
    simp [State.stagePut, h, hs, hm, Tab.look, Tab.lookD, Tab.put, Tab.putD, Tab.drop, show (default : Word) = 0 from rfl]
  rw [e]
  cases s
  cases hs
  cases hm
  rfl

/-- REGISTER keeps the other fields of SEC_FM_KEY_CTRL and registers the staged words (R40). -/
theorem State.setBits_secFmKeyCtrl {s : State} {o : Origin} (hw : s.mayWrite o 0x60018) :
    s.setBits o 0x60018 (bitW 63) = (s.setReg 0x60018 (s.reg 0x60018)).fmRegister o := by
  obtain ⟨ho, hv, hl, hs, hm⟩ := hw
  have hr := rowAt_secFmKeyCtrl
  have hk : s.kept 0x60018 = 0 := by simp [State.kept, fieldBits, hr]
  have hst : ∀ w m v, (s.setReg 0x60018 w).stagePut 0x60018 m v = s.setReg 0x60018 w :=
    fun w m v => State.stagePut_none m v hs hm (by simp [fieldBits, hr])
  rw [State.setBits, State.regWrite_named ho hv hl rfl (by decide) hr, hk]
  simp [State.regPut, State.hookSys, fieldBits, hr, bitW, wbit, hst]

/-- The bits of SEC_MBX_CTRL that a write changes: TX_LEN and TARGET. -/
theorem getLsbD_mbxLive : ∀ i < 64, (0x0000FFFF0FFF0000#64).getLsbD i = decide ((16 ≤ i ∧ i ≤ 27) ∨ (32 ≤ i ∧ i ≤ 47)) := by decide

/-- A field of a word, set from the same field of another, takes that word's bits. -/
theorem Fld.testBit_field (f : Fld) (v : Word) {i : Nat} (h : f.ok) (hi : f.lo ≤ i ∧ i ≤ f.hi) : (wbits v f.hi f.lo).testBit (i - f.lo) = v.getLsbD i := by
  have := Fld.testBit_of f v (i - f.lo) h
  have hd : i - f.lo ≤ f.hi - f.lo := by omega
  rw [Fld.of, Nat.add_sub_cancel' hi.1] at this
  simp [this, hd]

/-- The word that a write of SEC_MBX_CTRL leaves: the writer's TARGET and TX_LEN. -/
theorem mbxCtrl_written (was v : Word) :
    was &&& 0xFFFF0000F000FFFF#64 ||| v &&& 0x0000FFFF0FFF0000#64 =
      F.SEC_MBX_CTRL_TX_LEN.into (F.SEC_MBX_CTRL_TARGET.into was (wbits v 47 32)) (wbits v 27 16) := by
  apply BitVec.eq_of_getLsbD_eq
  intro i hi
  rw [show 0xFFFF0000F000FFFF#64 = ~~~0x0000FFFF0FFF0000#64 from rfl, Fld.getLsbD_into _ _ _ _ (by decide) hi,
    Fld.getLsbD_into _ _ _ _ (by decide) hi, BitVec.getLsbD_or, BitVec.getLsbD_and, BitVec.getLsbD_and,
    BitVec.getLsbD_not, getLsbD_mbxLive i hi]
  by_cases h1 : 16 ≤ i ∧ i ≤ 27
  · simp [h1, hi, Fld.testBit_field F.SEC_MBX_CTRL_TX_LEN v (by decide) h1]
  · by_cases h2 : 32 ≤ i ∧ i ≤ 47
    · simp [h1, h2, hi, Fld.testBit_field F.SEC_MBX_CTRL_TARGET v (by decide) h2]
    · simp [h1, h2, hi]

/-- SEND of the mailbox sets TARGET and TX_LEN and, while none waits for an answer, sends (R434). -/
theorem State.regWrite_secMbxCtrl {s : State} {o : Origin} {v : Word} (hw : s.mayWrite o 0x60100) (hb : s.flag F.SEC_MBX_CTRL_BUSY = false) :
    s.regWrite o 0x60100 8 (v ||| bitW 63) =
      (s.setReg 0x60100 (F.SEC_MBX_CTRL_TX_LEN.into (F.SEC_MBX_CTRL_TARGET.into (s.reg 0x60100) (wbits v 47 32)) (wbits v 27 16))).mbxSend := by
  obtain ⟨ho, hv, hl, hs, hm⟩ := hw
  have hr := rowAt_secMbxCtrl
  have hst : ∀ w m v, (s.setReg 0x60100 w).stagePut 0x60100 m v = s.setReg 0x60100 w :=
    fun w m v => State.stagePut_none m v hs hm (by simp [fieldBits, hr])
  have hx : (v ||| 0x8000000000000000#64) &&& 0x8000FFFF0FFF0000#64 &&& 0x0000FFFF0FFF0000#64 = v &&& 0x0000FFFF0FFF0000#64 := by
    rw [BitVec.and_assoc, BitVec.and_or_distrib_right]
    simp
  have hbusy : (s.setReg 0x60100 (F.SEC_MBX_CTRL_TX_LEN.into (F.SEC_MBX_CTRL_TARGET.into (s.reg 0x60100) (wbits v 47 32)) (wbits v 27 16))).flag
      F.SEC_MBX_CTRL_BUSY = false := by
    rw [← hb, State.flag, State.flag, State.get, State.get, State.reg_setReg_self,
      Fld.of_into_other _ _ _ _ (by decide) (by decide) (by decide), Fld.of_into_other _ _ _ _ (by decide) (by decide) (by decide)]
  rw [State.regWrite_named ho hv hl rfl (by decide) hr]
  simp [State.regPut, State.hookSys, fieldBits, hr, bitW, wbit, hst, hx, mbxCtrl_written, hbusy]

end Sys2Proof.Machine
end

section
namespace Sys2Proof.Machine

/-! ### Faults -/

theorem State.reg_msix (s : State) (p f v off : Nat) : (s.msix p f v).reg off = s.reg off := by
  unfold State.msix
  simp only
  split
  · rfl
  · split
    · rfl
    · split <;> rfl

theorem State.reg_fltMsg (s : State) (off : Nat) : s.fltMsg.reg off = s.reg off := by
  unfold State.fltMsg
  generalize List.range 4 = l
  induction l generalizing s with
  | nil => rfl
  | cons p l ih =>
    rw [List.foldl_cons, ih]
    split
    · exact State.reg_msix _ _ _ _ _
    · rfl

/-- Beside the count and the pending bit of its source, an occurrence writes FLT_STATUS alone (R513, R517). -/
theorem State.reg_occur (s : State) {src c off : Nat} (syn : Word) (forced : Bool) (port : Option Nat) (hc : fltClass src = some c) (h : off ≠ 0x30000) :
    (s.occur src syn forced port).1.reg off = ((s.bump (F.FLT_SRC_COUNT src) 1).put (fltPend src) 1).reg off := by
  have hT : ∀ (u : State) (b : Bool) (n : Nat), (if b then u.put F.FLT_STATUS_TOTAL n else u).reg off = u.reg off := by
    intro u b n; split
    · exact State.reg_put_other _ _ _ h
    · rfl
  have hH : ∀ (u : State) (b : Bool) (k : Nat) (x : FltRec), (if b then { u with hist := u.hist.put k x } else u).reg off = u.reg off := by
    intro u b k x; split <;> rfl
  have hF : ∀ (u : State) (b : Bool) (x : FltRec), (if b then { u with first := x } else u).reg off = u.reg off := by
    intro u b x; split <;> rfl
  have hI : ∀ u : State, (if u.flag (F.FLT_SRC_IRQ_EN src) then
      (if u.fltIrq.contains src then (if u.fltDefer.contains src then u else { u with fltDefer := u.fltDefer ++ [src] })
       else { u.fltMsg with fltIrq := src :: u.fltIrq }) else u).reg off = u.reg off := by
    intro u
    split
    · split
      · split <;> rfl
      · exact u.reg_fltMsg off
    · rfl
  unfold State.occur
  rw [hc]
  simp only
  rw [hI, State.errPin_reg _ h, hF, hH, hT]

/-- An occurrence leaves its source pending (R513). -/
theorem State.flag_occur (s : State) {src c : Nat} (syn : Word) (forced : Bool) (port : Option Nat) (hs : src < 512) (hc : fltClass src = some c) :
    (s.occur src syn forced port).1.flag (fltPend src) = true := by
  have ho := fltPend_off src hs
  have hr : (s.occur src syn forced port).1.get (fltPend src) = ((s.bump (F.FLT_SRC_COUNT src) 1).put (fltPend src) 1).get (fltPend src) := by
    simp only [State.get, s.reg_occur syn forced port hc (show (fltPend src).off ≠ 0x30000 by omega)]
  rw [State.flag, hr, State.get_put_self _ _ _ (fltPend_ok src)]
  simp [fltPend]

/-- What the collector records of a fault leaves a calm state calm. -/
theorem State.calm_noted {s t : State} (h : s.calm) (hn : s.noted t) : t.calm := by
  obtain ⟨⟨r, o, hi, f, i, d, n, rfl⟩, hr⟩ := hn
  exact State.calm_congr h rfl rfl rfl rfl rfl rfl (hr _ (by decide) (by decide))

/-- A source of class 0 or 1 whose reaction ends with its rule's own effect does no more than occur (R511, R514). -/
theorem State.fltAt_occur (s : State) {src : Nat} (syn : Word) (port : Option Nat) (hc : fltClass src ≠ some 2)
    (hr : (src == 0x041 || src == 0x042 || src == 0x048 || src == 0x049) = false) : s.fltAt src syn port = (s.occur src syn false port).1 := by
  simp [State.fltAt, hc, hr]

/-- A command whose meaning on a calm state is an occurrence of such a source gives that fault. -/
theorem State.givesFault_fltAt {s : State} {cmd : Instr} {src c : Nat} {syn : Word} {port : Option Nat} (h : s.calm)
    (he : exec cmd s = .next (s.fltAt src syn port).settle) (hs : src < 512) (hc : fltClass src = some c) (h2 : c ≠ 2)
    (hr : (src == 0x041 || src == 0x042 || src == 0x048 || src == 0x049) = false) : s.givesFault cmd s src := by
  have hn := s.noted_occur src syn false port hs
  have hq := State.calm_noted h hn
  have ho := fltPend_off src hs
  rw [s.fltAt_occur syn port (by simp [hc, h2]) hr] at he
  refine ⟨_, he, State.upToFault_settle hq hn, ?_⟩
  rw [State.flag, State.settle_get _ hq (by omega) (by omega)]
  exact s.flag_occur syn false port hs hc

/-! ### Event counts -/

theorem State.setReg_with_regs (s : State) (off : Nat) (w : Word) (r : Tab Word) : ({ s.setReg off w with regs := r } : State) = { s with regs := r } := rfl

/-- Counting events writes gatherer values alone (R496). -/
theorem State.count_form (s : State) (ev i n : Nat) (d : Option Nat) :
    ∃ r, s.count ev i n d = { s with regs := r } ∧ ∀ off, off < 0x52000 ∨ 0x52800 ≤ off → Tab.lookD regReset r off = s.reg off := by
  unfold State.count
  split
  · exact ⟨s.regs, rfl, fun _ _ => rfl⟩
  · have hm : ∀ e ∈ s.regs.filter (fun e => decide (0x51000 ≤ e.1 ∧ e.1 < 0x51800)), 0x52000 ≤ e.1 + 0x1000 ∧ e.1 + 0x1000 < 0x52800 := by
      intro e he
      have := (List.mem_filter.1 he).2
      simp only [decide_eq_true_eq] at this
      omega
    generalize s.regs.filter _ = l at hm
    clear * - hm
    induction l generalizing s with
    | nil => exact ⟨s.regs, rfl, fun _ _ => rfl⟩
    | cons e l ih =>
      have hl := fun x hx => hm x (List.mem_cons_of_mem _ hx)
      have he := hm e List.mem_cons_self
      rw [List.foldl_cons]
      dsimp only
      split
      · obtain ⟨r, hs, hr⟩ := ih (s.setReg (e.1 + 0x1000) (s.reg (e.1 + 0x1000) + BitVec.ofNat 64 n)) hl
        exact ⟨r, hs.trans (State.setReg_with_regs _ _ _ _), fun off ho => (hr off ho).trans (State.reg_setReg_other _ _ (by omega))⟩
      · exact ih s hl

end Sys2Proof.Machine
end

section
namespace Sys2Proof

theorem Tab.ins_ins {α : Type} (t : Tab α) (k : Nat) (a b : α) : Tab.ins (Tab.ins t k a) k b = Tab.ins t k b := by
  induction t with
  | nil => simp [Tab.ins]
  | cons e t ih =>
    obtain ⟨i, c⟩ := e
    by_cases h1 : k < i
    · simp [Tab.ins, h1]
    · by_cases h2 : k = i
      · simp [Tab.ins, h2]
      · simp [Tab.ins, h1, h2, ih]

/-- A second write of a record replaces the first, where neither forgets it. -/
theorem Tab.put_put {α : Type} [DecidableEq α] [Inhabited α] (t : Tab α) (k : Nat) {a b : α} (ha : a ≠ default) (hb : b ≠ default) :
    (t.put k a).put k b = t.put k b := by
  simp [Tab.put, Tab.putD, ha, hb, Tab.ins_ins]

end Sys2Proof

namespace Sys2Proof.Machine

/-! ### Event queues -/

theorem EqSt.not_default {q : Evq} (h : q.st = .active) : q ≠ default := by
  rintro rfl
  cases h

theorem State.eqPump_idle {s : State} {e : Nat} (h : (s.eqs.look e).held = []) : s.eqPump e = s := by
  simp [State.eqPump, h]

/-- A vector that is enabled and unmasked on a port whose link is up sends its message (R36). -/
theorem State.msix_open {s : State} {p f v : Nat} (h : s.vectorOpen p f v) : s.msix p f v = s.out (.msix p f v) := by
  obtain ⟨hu, hs, hm, hb, hv⟩ := h
  simp [State.msix, hu, hs, hm, hb, hv]

/-- CONSUMER within the events written moves the index and lets a held event out (R201). -/
theorem State.eqConsume_within {s : State} {e v : Nat} (hs : (s.eqs.look e).st = .active) (hv : v < 2 ^ 32)
    (h : fwd 32 (s.eqs.look e).cons v ≤ fwd 32 (s.eqs.look e).cons (s.eqs.look e).prod) :
    s.eqConsume e v = { s with eqs := s.eqs.upd e fun q => { q with cons := v } }.later (.eqPump e) := by
  unfold State.eqConsume
  simp only [Nat.mod_eq_of_lt hv]
  rw [if_neg (by simp [hs]), if_pos h]
  rfl

/-- CONSUMER beyond the events written is dropped (R201). -/
theorem State.eqConsume_beyond {s : State} {e v : Nat} (hs : (s.eqs.look e).st = .active) (hv : v < 2 ^ 32)
    (h : fwd 32 (s.eqs.look e).cons (s.eqs.look e).prod < fwd 32 (s.eqs.look e).cons v) :
    s.eqConsume e v = s.fltAt 0x045 (packW [(0, e), (32, v)]) (some (s.eqs.look e).port) := by
  unfold State.eqConsume
  simp only [Nat.mod_eq_of_lt hv]
  rw [if_neg (by simp [hs]), if_neg (Nat.not_le.2 h), if_neg (by simp [hs])]

/-- The moderated message of an event queue whose vector is open. -/
theorem State.eqMessage_open {s : State} {e : Nat} (hv : s.vectorOpen (s.eqs.look e).port (s.eqs.look e).fn (s.eqs.look e).vector) :
    s.eqMessage e = { s.out (.msix (s.eqs.look e).port (s.eqs.look e).fn (s.eqs.look e).vector) with
      eqs := s.eqs.upd e fun q => { q with arm := false } } :=
  State.msix_open (s := { s with eqs := s.eqs.put e { s.eqs.look e with arm := false } }) hv

/-- ARM with nothing to report arms the queue (R202). -/
theorem State.eqArm_empty {s : State} {e : Nat} (hs : (s.eqs.look e).st = .active) (h : (s.eqs.look e).prod = (s.eqs.look e).cons) :
    s.eqArm e = { s with eqs := s.eqs.upd e fun q => { q with arm := true, since := 0, sinceStages := 0 } } := by
  unfold State.eqArm
  simp only
  rw [if_neg (by simp [hs]), if_neg (by simp [h])]
  rfl

/-- ARM with events waiting sends the message at once (R202). -/
theorem State.eqArm_waiting {s : State} {e : Nat} (hs : (s.eqs.look e).st = .active) (h : (s.eqs.look e).prod ≠ (s.eqs.look e).cons)
    (hv : s.vectorOpen (s.eqs.look e).port (s.eqs.look e).fn (s.eqs.look e).vector) :
    s.eqArm e = { s.out (.msix (s.eqs.look e).port (s.eqs.look e).fn (s.eqs.look e).vector) with
      eqs := s.eqs.upd e fun q => { q with arm := false, since := 0, sinceStages := 0 } } := by
  unfold State.eqArm
  simp only
  rw [if_neg (by simp [hs]), if_pos h, State.eqMessage_open (by rw [Tab.look_put_self]; exact hv)]
  simp only [Tab.upd, Tab.look_put_self]
  rw [Tab.put_put]
  · rfl
  · exact EqSt.not_default hs
  · exact EqSt.not_default hs

/-- The moderation time of an armed queue with events since is over: the message goes out (R202). -/
theorem State.eqModerate_over {s : State} {e : Nat} (ha : (s.eqs.look e).arm = true)
    (h : (s.eqs.look e).since ≥ 1 ∧ (s.eqs.look e).modStages ≥ 1 ∧ (s.eqs.look e).sinceStages ≥ (s.eqs.look e).modStages) :
    s.eqModerate e = s.eqMessage e := by
  unfold State.eqModerate
  simp only
  rw [if_pos (by simp [ha, h])]

/-! ### Counters -/

theorem State.waitEval_unwaited {s : State} {c : Nat} (h : s.unwaited c) : s.waitEval c = s := by
  unfold State.waitEval
  simp only
  rw [h]
  rfl

/-- A write of a counter that is D0000's or unbound sets it (R204). -/
theorem State.ctrWrite_open {s : State} {r : Nat} (v : Word) (hd : (s.ctrs.look (s.get (F.QUE_CTR_SEL_COUNTER r))).dom.getD 0 = 0)
    (hu : s.unwaited (s.get (F.QUE_CTR_SEL_COUNTER r))) :
    s.ctrWrite r v = { s with ctrs := s.ctrs.upd (s.get (F.QUE_CTR_SEL_COUNTER r)) fun c => { c with val := v } } := by
  unfold State.ctrWrite
  simp only
  rw [if_pos hd]
  exact State.waitEval_unwaited hu

/-- A write of another domain's counter is dropped (R204). -/
theorem State.ctrWrite_other {s : State} {r : Nat} (v : Word) (hd : (s.ctrs.look (s.get (F.QUE_CTR_SEL_COUNTER r))).dom.getD 0 ≠ 0) :
    s.ctrWrite r v = s.fltAt 0x046 (BitVec.ofNat 64 (s.get (F.QUE_CTR_SEL_COUNTER r))) none := by
  unfold State.ctrWrite
  simp only
  rw [if_neg hd]
  rfl

/-! ### Doorbells -/

@[simp] theorem State.count_wqs (s : State) (ev i n : Nat) (d : Option Nat) : (s.count ev i n d).wqs = s.wqs :=
  State.edge_wqs (State.edge_count ev i n d s.edge_refl)

/-- A doorbell of a PF0 in a queue's page schedules the queue, RUNNING and read by PRODUCER, and counts (R175, R176). -/
theorem State.doorbell_owner {s : State} {p q : Nat} (hq : q < 65536) (h4 : q ≠ 4) (hh : s.halted = false) (hs : s.sealed = false)
    (hr : (s.wqs.look q).st = .running) (hp : (s.wqs.look q).port = p) (ho : (s.wqs.look q).own = false) :
    s.doorbell ⟨p, 0, q / 16, BitVec.ofNat 32 q, true⟩ =
      { s.count 0x0101 q 1 (some ((s.pas.look (s.wqs.look q).pasid).dom.getD 0)) with
        wqs := s.wqs.upd q fun w => { w with sched := true, rang := true } } := by
  have hv : (BitVec.ofNat 32 q).toNat = q := by rw [BitVec.toNat_ofNat]; omega
  unfold State.doorbell
  simp only [hv, State.count_wqs]
  rw [if_neg (by simp [hh, hs]), if_pos (by simp [h4, hq, hr, hp]), if_pos hr, if_neg (show ¬ (s.wqs.look q).own = true by simp [ho]), ite_self]
  rfl

/-- A doorbell for a page that is not the queue's is dropped (R32, R33). -/
theorem State.doorbell_stray {s : State} {p q page : Nat} (hq : q < 65536) (hn : page ≠ q / 16) (hh : s.halted = false) (hs : s.sealed = false) :
    s.doorbell ⟨p, 0, page, BitVec.ofNat 32 q, true⟩ = s.fltAt 0x040 (packW [(0, q), (34, 0), (42, p)]) (some p) := by
  have hv : (BitVec.ofNat 32 q).toNat = q := by rw [BitVec.toNat_ofNat]; omega
  unfold State.doorbell
  simp only [hv, hh, hs]
  rw [if_neg (by simp), if_neg (by simp [hn])]

end Sys2Proof.Machine
end

section
namespace Sys2Proof.Machine

/-! ### Commands of event queues, counters and doorbells -/

theorem wbits_lt (w : Word) (hi lo : Nat) : wbits w hi lo < 2 ^ (hi + 1 - lo) := Nat.mod_lt _ (Nat.two_pow_pos _)

theorem wbits_eqCons (v : Word) : wbits (v &&& 0x80000000FFFFFFFF#64) 31 0 = wbits v 31 0 := by
  have hm : ∀ i ≤ 31, (0x80000000FFFFFFFF#64).getLsbD i = true := by decide
  apply Nat.eq_of_testBit_eq
  intro i
  have h1 := Fld.testBit_of ⟨0, 31, 0⟩ v i (by decide)
  have h2 := Fld.testBit_of ⟨0, 31, 0⟩ (v &&& 0x80000000FFFFFFFF#64) i (by decide)
  simp only [Fld.of] at h1 h2
  rw [h1, h2]
  by_cases hi : i ≤ 31
  · simp [hi, hm i hi]
  · simp [hi]

/-- A write of CONSUMER without ARM (R201). -/
theorem State.eqConsWrite_consumer (s : State) (e : Nat) {v : Word} (h : wbit v 63 = false) :
    s.eqConsWrite e (v &&& 0x80000000FFFFFFFF#64) 0x80000000FFFFFFFF#64 = s.eqConsume e (wbits v 31 0) := by
  have h0 : wbit 0x80000000FFFFFFFF#64 0 = true := by decide
  have h63 : wbit (v &&& 0x80000000FFFFFFFF#64) 63 = false := by simpa [wbit] using h
  unfold State.eqConsWrite
  rw [h63, wbits_eqCons, if_pos h0, Bool.and_false]
  exact if_neg Bool.false_ne_true

/-- All but a VF reach an event queue at QUE_EQ_CONS_e (R34). -/
theorem State.eqReg_direct {s : State} {o : Origin} (h : notVf o = true) (e : Nat) (k : State → Nat → State) : s.eqReg o e k = k s (0x120000 + 8 * e) := by
  cases o with
  | vf p f => cases h
  | pf0 p => rfl
  | sideband => rfl
  | instr => rfl

theorem exec_eqConsumerWrite {s : State} {o : Origin} {e : Nat} {v : Word} (he : e < 16384) (hw : s.mayWrite o (0x120000 + 8 * e)) (ho : okOrigin o = true)
    (h : wbit v 63 = false) : exec (.eqConsumerWrite o e v) s = .next (s.eqConsume e (wbits v 31 0)).settle := by
  show ended (okOrigin o && okEq e) _ = _
  rw [ended_true _ _ (by simp [ho, okEq, he]), State.eqReg_direct hw.2.1, State.regWrite_queEqCons hw he, State.eqConsWrite_consumer _ _ h]

theorem exec_eqArm {s : State} {o : Origin} {e : Nat} (he : e < 16384) (hw : s.mayWrite o (0x120000 + 8 * e))
    (hr : s.regOpen o (0x120004 + 8 * e) true = true) (ho : okOrigin o = true) : exec (.eqArm o e) s = .next (s.eqArm e).settle := by
  show ended (okOrigin o && okEq e) _ = _
  rw [ended_true _ _ (by simp [ho, okEq, he]), State.eqReg_direct hw.2.1, State.regWrite_queEqArm hr hw he]

theorem exec_eqModerationTimeout {s : State} {e : Nat} (h : s.calm) (he : e < 16384) : exec (.eqModerationTimeout e) s = .next (s.eqModerate e).settle :=
  ended_fabric h (by simp [okEq, he]) _

theorem exec_counterWrite {s : State} {o : Origin} {r : Nat} {v : Word} (hr : r < 5) (hw : s.mayWrite o (0x100020 + 64 * r)) (ho : okOrigin o = true) :
    exec (.counterWrite o r v) s = .next (s.ctrWrite r v).settle := by
  show ended (okOrigin o && okSet r) _ = _
  rw [ended_true _ _ (by simp [ho, okSet, hr]), State.regWrite_queCtrVal hw hr]

theorem exec_doorbell {s : State} {d : DbWrite} (h : s.calm) (hp : d.port < 4) (hf : d.fn ≤ 128) (hg : d.page < 65536) :
    exec (.doorbell d) s = .next (s.doorbell d).settle :=
  ended_fabric h (by simp [okHost, okFn, hp, hf, hg]) _

/-! ### What they give -/

section
variable {s : State} (h : s.calm)
include h

theorem State.calm_eqs (t : Tab Evq) : ({ s with eqs := t } : State).calm := State.calm_congr h rfl rfl rfl rfl rfl rfl rfl

theorem State.calm_eqs_msix (p f v : Nat) (t : Tab Evq) : ({ s.out (.msix p f v) with eqs := t } : State).calm :=
  State.calm_congr h rfl rfl rfl rfl rfl rfl rfl

/-- A write of CONSUMER within the events written, of a queue that holds no event back. -/
theorem State.gives_consumer {o : Origin} {e : Nat} {v : Word} (he : e < 16384) (hw : s.mayWrite o (0x120000 + 8 * e)) (ho : okOrigin o = true)
    (hs : (s.eqs.look e).st = .active) (hd : (s.eqs.look e).held = []) (hv : wbit v 63 = false)
    (hf : fwd 32 (s.eqs.look e).cons (wbits v 31 0) ≤ fwd 32 (s.eqs.look e).cons (s.eqs.look e).prod) :
    s.gives (.eqConsumerWrite o e v) { s with eqs := s.eqs.upd e fun q => { q with cons := wbits v 31 0 } } := by
  have hc := State.calm_eqs h (s.eqs.upd e fun q => { q with cons := wbits v 31 0 })
  refine State.gives_settle ?_ hc
  rw [exec_eqConsumerWrite he hw ho hv, State.eqConsume_within hs (wbits_lt v 31 0) hf]
  exact congrArg _ (State.settle_later hc.1 (State.eqPump_idle (by simp [hd])) hc)

/-- A doorbell of the owner's PF0. -/
theorem State.gives_doorbell {p q : Nat} (hp : p < 4) (hq : q < 65536) (h4 : q ≠ 4) (hh : s.halted = false) (hl : s.sealed = false)
    (hr : (s.wqs.look q).st = .running) (hw : (s.wqs.look q).port = p) (ho : (s.wqs.look q).own = false) :
    s.gives (.doorbell ⟨p, 0, q / 16, BitVec.ofNat 32 q, true⟩) { s with wqs := s.wqs.upd q fun w => { w with sched := true, rang := true } } := by
  obtain ⟨r, e, hk⟩ := s.count_form 0x0101 q 1 (some ((s.pas.look (s.wqs.look q).pasid).dom.getD 0))
  have hc : ({ s with regs := r, wqs := s.wqs.upd q fun w => { w with sched := true, rang := true } } : State).calm :=
    State.calm_congr h rfl rfl rfl rfl rfl rfl (hk 0x10000 (by decide))
  refine ⟨_, ?_, State.upTo_congr (State.upTo_settle _ hc) rfl rfl fun off hf => (hk off (by simp only [following] at hf; omega)).symm⟩
  rw [exec_doorbell h hp (by simp) (by show q / 16 < 65536; omega), State.doorbell_owner hq h4 hh hl hr hw ho, e]

end

/-- Settles O28: each command's meaning on a calm state, by the rule of its register or page. -/
theorem eventQueuesAndCounters : Obligations.EventQueuesAndCounters := by
  unfold Obligations.EventQueuesAndCounters
  intro s h
  refine ⟨?_, ?_, ?_, ?_, ?_, ?_, ?_, ?_, ?_⟩
  · intro o e v he hw ho hs hd hv hf
    exact State.gives_consumer h he hw ho hs hd hv hf
  · intro o e v he hw ho hs hv hf
    exact State.givesFault_fltAt h (by rw [exec_eqConsumerWrite he hw ho hv, State.eqConsume_beyond hs (wbits_lt v 31 0) hf]) (by decide) rfl (by decide) rfl
  · intro o e he hw hr ho hs hp
    exact State.gives_settle (by rw [exec_eqArm he hw hr ho, State.eqArm_empty hs hp]) (State.calm_eqs h _)
  · intro o e he hw hr ho hs hp hv
    exact State.gives_settle (by rw [exec_eqArm he hw hr ho, State.eqArm_waiting hs hp hv]) (State.calm_eqs_msix h _ _ _ _)
  · intro e he ha h1 h2 h3 hv
    exact State.gives_settle (by rw [exec_eqModerationTimeout h he, State.eqModerate_over ha ⟨h1, h2, h3⟩, State.eqMessage_open hv])
      (State.calm_eqs_msix h _ _ _ _)
  · intro o r v hr hw ho hd hu
    exact State.gives_settle (by rw [exec_counterWrite hr hw ho, State.ctrWrite_open v hd hu]) (State.calm_congr h rfl rfl rfl rfl rfl rfl rfl)
  · intro o r v hr hw ho hd
    exact State.givesFault_fltAt h (by rw [exec_counterWrite hr hw ho, State.ctrWrite_other v hd]) (by decide) rfl (by decide) rfl
  · intro p q hp hq h4 hh hl hr hw ho
    exact State.gives_doorbell h hp hq h4 hh hl hr hw ho
  · intro p q page hp hq hg hn hh hl
    exact State.givesFault_fltAt h (by rw [exec_doorbell h hp (by simp) hg, State.doorbell_stray hq hn hh hl]) (by decide) rfl (by decide) rfl

end Sys2Proof.Machine
end

section
namespace Sys2Proof.Machine

/-! ### Runs that start -/

/-- A run that starts is RUNNING or READY in its context, and beside runs only gatherer values change (R77). -/
theorem State.startRun_form (s : State) (ctx : Nat) (x : Run) :
    ∃ r runs n st cl res seq img, s.startRun ctx x = { s with regs := r, runs := runs, readyCtr := n } ∧
      (∀ off, off < 0x52000 ∨ 0x52800 ≤ off → Tab.lookD regReset r off = s.reg off) ∧ (st = RunSt.running ∨ st = RunSt.ready) ∧
      runs.look ctx = { x with st := st, cluster := cl, resid := res, readySeq := seq, image := img } := by
  unfold State.startRun
  split
  · rename_i c hc
    obtain ⟨r, e, hk⟩ := State.count_form { s with runs := s.runs.put ctx { x with st := .running, cluster := c, resid := 0 } } 0x0201 c 1 (some x.dom)
    rw [e]
    exact ⟨r, _, _, .running, c, 0, _, _, rfl, hk, .inl rfl, by rw [Tab.look_upd_self, Tab.look_put_self]⟩
  · exact ⟨s.regs, _, _, .ready, _, _, _, _, rfl, fun _ _ => rfl, .inr rfl, Tab.look_put_self _ _ _⟩

/-! ### Management messages -/

/-- A message of WQ4 that passes its checks starts its run and moves the sequence number on (R39, R119, R432). -/
theorem State.wq4_starts {s : State} {m : Mgmt} {ctx : Nat} (hk : okMgmt m = true) (hf : s.mgmtFresh m = true) (h0 : s.mode ≠ 0) (hh : s.halted = false)
    (hs : s.sealed = false) (h1 : m.kind = 1) (hc : s.freeContext = some ctx) (ho : m.formatOk = true) (hp : m.prog ≠ []) (hn : m.param.length ≤ 495)
    (ht : m.target = s.self) (hi : m.targetInc = s.inc) (hg : m.sigOk = true) (hy : s.fmKey ≠ []) (hq : s.get F.DEV_AUTH_SEQ_SEQ < m.seq) :
    s.wq4 m = ((s.put F.DEV_AUTH_SEQ_SEQ m.seq).put F.DEV_AUTH_FM_SEQ (m.seq / 4)).startRun ctx
      { (default : Run) with wq := 4, dom := 0, prog := .message m.prog, params := .msg m.param, limit := s.stepLimit 4 } := by
  have hw : m.prog.length + m.param.length ≤ 496 := by
    simp only [okMgmt, Bool.and_eq_true, decide_eq_true_eq] at hk
    exact hk.1.2
  have hl : ((s.put F.DEV_AUTH_SEQ_SEQ m.seq).put F.DEV_AUTH_FM_SEQ (m.seq / 4)).stepLimit 4 = s.stepLimit 4 := by
    rw [State.stepLimit, State.get_put_off _ _ (by decide), State.get_put_off _ _ (by decide)]
    rfl
  have hpe : m.prog.isEmpty = false := by simpa using hp
  have hye : s.fmKey.isEmpty = false := by simpa using hy
  unfold State.wq4
  rw [if_neg (by simp [hf, h0, hh, hs, h1]), hc]
  simp only
  rw [if_neg (by simp [ho, hpe]; omega), if_neg (by simp [ht, hi]), if_neg (by simp [hg, hye]), if_neg (by omega), hl]

/-- A message of WQ4 that fails a check is source 0x047 (R39, R432). -/
theorem State.wq4_fails {s : State} {m : Mgmt} {ctx : Nat} (hf : s.mgmtFresh m = true) (h0 : s.mode ≠ 0) (hh : s.halted = false) (hs : s.sealed = false)
    (h1 : m.kind = 1) (hc : s.freeContext = some ctx)
    (hx : m.formatOk = false ∨ m.target ≠ s.self ∨ m.targetInc ≠ s.inc ∨ m.sigOk = false ∨ m.seq ≤ s.get F.DEV_AUTH_SEQ_SEQ) :
    ∃ why, s.wq4 m = s.fltAt 0x047 (BitVec.ofNat 64 why) none := by
  unfold State.wq4
  rw [if_neg (by simp [hf, h0, hh, hs, h1]), hc]
  simp only
  split
  · exact ⟨3, rfl⟩
  · rename_i hform
    split
    · exact ⟨2, rfl⟩
    · rename_i htgt
      split
      · exact ⟨0, rfl⟩
      · rename_i hsig
        have hseq : m.seq ≤ s.get F.DEV_AUTH_SEQ_SEQ := by
          simp only [Bool.or_eq_true, Bool.not_eq_true', not_or] at hform hsig
          tauto
        rw [if_pos hseq]
        exact ⟨1, rfl⟩

theorem State.calm_rin {s : State} (h : s.calm) (t : Tab (List RUnit)) : ({ s with rin := t } : State).calm :=
  State.calm_congr h rfl rfl rfl rfl rfl rfl rfl

theorem exec_wq4Program {s : State} {m : Mgmt} (h : s.calm) (hk : okMgmt m = true) : exec (.wq4Program m) s = .next (s.wq4 m).settle :=
  ended_fabric h hk _

theorem exec_mgmtForward {s : State} {m : Mgmt} (h : s.calm) (hk : okMgmt m = true) (full : Bool) :
    exec (.mgmtForward m full) s = .next (s.mgmtForward m full).settle :=
  ended_fabric h hk _

theorem exec_spdmFabricRequest {s : State} {m : Mgmt} (h : s.calm) (hk : okMgmt m = true) (answer : List Byte) :
    exec (.spdmFabricRequest m answer) s = .next (s.spdmFabric m answer).settle :=
  ended_fabric h hk _

theorem exec_spdmFabricResponse {s : State} {m : Mgmt} (h : s.calm) (hk : okMgmt m = true) : exec (.spdmFabricResponse m) s = .next (s.mbxAnswer m).settle :=
  ended_fabric h hk _

theorem exec_mailboxTimeout {s : State} (h : s.calm) : exec .mailboxTimeout s = .next s.mbxLate.settle := ended_fabric h rfl _

theorem exec_fmKeyRegister {s : State} {o : Origin} (hw : s.mayWrite o 0x60018) (ho : okOrigin o = true) :
    exec (.fmKeyRegister o) s = .next ((s.setReg 0x60018 (s.reg 0x60018)).fmRegister o).settle := by
  show ended (okOrigin o) _ = _
  rw [ended_true _ _ ho, State.setBits_secFmKeyCtrl hw]

theorem exec_mailboxSend {s : State} {o : Origin} {v : Word} (hw : s.mayWrite o 0x60100) (ho : okOrigin o = true) (hb : s.flag F.SEC_MBX_CTRL_BUSY = false) :
    exec (.mailboxSend o v) s = .next
      (s.setReg 0x60100 (F.SEC_MBX_CTRL_TX_LEN.into (F.SEC_MBX_CTRL_TARGET.into (s.reg 0x60100) (wbits v 47 32)) (wbits v 27 16))).mbxSend.settle := by
  show ended (okOrigin o) _ = _
  rw [ended_true _ _ ho, State.regWrite_secMbxCtrl hw hb]

theorem State.mgmtForward_other {s : State} {m : Mgmt} (hf : s.mgmtFresh m = true) (ho : m.formatOk = true) (hk : m.kind = 2 ∨ m.kind = 3) (ht : m.target ≠ s.self) :
    s.mgmtForward m false = s.toRouter 4 (.mgmt { m with dstRouter := m.target }) := by
  unfold State.mgmtForward
  rw [if_neg (by rcases hk with hk | hk <;> simp [hf, ho, hk, ht])]

theorem State.mgmtSend_open {s : State} {m : Mgmt} (h : s.quiet = false) : s.mgmtSend m = s.toRouter 4 (.mgmt m) := by
  simp [State.mgmtSend, h]

theorem State.spdmFabric_here {s : State} {m : Mgmt} (answer : List Byte) (hf : s.mgmtFresh m = true) (ho : m.formatOk = true) (hk : m.kind = 2)
    (ht : m.target = s.self) (hs : s.sealed = false) (h0 : s.mode ≠ 0) (hq : s.quiet = false) :
    s.spdmFabric m answer = s.toRouter 4 (.mgmt ⟨m.origin, s.now % 4096, 3, m.origin, 0, m.origin, m.mtag, 0, [], [], answer, false, true, true⟩) := by
  unfold State.spdmFabric
  rw [if_neg (by simp [hf, ho, hk, ht, hs, h0]), State.mgmtSend_open hq]

/-- The next command of the mailbox ends its wait (R434). -/
theorem State.mbxLate_over {s : State} (hb : s.flag F.SEC_MBX_CTRL_BUSY = true) (hl : s.mbxLeft = 1) :
    s.mbxLate = { (s.put F.SEC_MBX_CTRL_BUSY 0).put F.SEC_MBX_CTRL_RESULT 1 with mbxLeft := 0 } := by
  unfold State.mbxLate
  rw [if_pos (by simp [hb, hl])]

/-- Filling a window leaves the registers below it, and every other field. -/
theorem State.fillWindow_form (s : State) (off : Nat) (bs : List Byte) :
    ∃ r, (∀ n, ({ s with mbxLeft := n } : State).fillWindow off bs = { s with regs := r, mbxLeft := n }) ∧
      ∀ o, o < off → Tab.lookD regReset r o = s.reg o := by
  unfold State.fillWindow
  generalize List.range _ = l
  induction l generalizing s with
  | nil => exact ⟨s.regs, fun _ => rfl, fun _ _ => rfl⟩
  | cons i l ih =>
    obtain ⟨r, hs, hr⟩ := ih (s.setReg (off + 8 * i) (BitVec.ofNat 64 (ofBytes ((bs.drop (8 * i)).take 8))))
    exact ⟨r, hs, fun o ho => (hr o ho).trans (State.reg_setReg_other _ _ (by omega))⟩

theorem State.puts_with_mbxLeft (s : State) (f g h : Fld) (a b c n : Nat) :
    ({ ((s.put f a).put g b).put h c with mbxLeft := n } : State) = ((({ s with mbxLeft := n } : State).put f a).put g b).put h c := rfl

/-- The answer with the awaited tag fills the window and ends the wait (R434). -/
theorem State.mbxAnswer_awaited {s : State} {m : Mgmt} (hm : okMgmt m = true) (hf : s.mgmtFresh m = true) (ho : m.formatOk = true) (hk : m.kind = 3)
    (ht : m.target = s.self) (hs : s.sealed = false) (hb : s.flag F.SEC_MBX_CTRL_BUSY = true) (hg : m.mtag = s.mbxTag) :
    s.mbxAnswer m = ((({ s with mbxLeft := 0 }.fillWindow 0x62000 m.body).put F.SEC_MBX_CTRL_BUSY 0).put F.SEC_MBX_CTRL_RESULT 0).put
      F.SEC_MBX_CTRL_RX_LEN m.body.length := by
  have hl : m.body.take 4096 = m.body := by
    simp only [okMgmt, Bool.and_eq_true, decide_eq_true_eq] at hm
    exact List.take_of_length_le hm.2
  obtain ⟨r, hr, -⟩ := s.fillWindow_form 0x62000 m.body
  have hw : s.fillWindow 0x62000 m.body = { s with regs := r } := hr s.mbxLeft
  unfold State.mbxAnswer
  rw [if_neg (by simp [hf, ho, hk, ht, hs, hb, hg]), hl]
  simp only
  rw [hw, hr]
  exact State.puts_with_mbxLeft { s with regs := r } _ _ _ _ _ _ _

end Sys2Proof.Machine
end

section
namespace Sys2Proof.Machine

/-! ### States whose registers read alike -/

/-- The states differ at most in how the register table lists the same words. -/
def State.sameRegs (s t : State) : Prop := ∃ r, t = { s with regs := r } ∧ ∀ off, Tab.lookD regReset r off = s.reg off

section
variable {s t : State} (h : s.sameRegs t)
include h

theorem State.sameRegs_reg (off : Nat) : t.reg off = s.reg off := by
  obtain ⟨r, rfl, hr⟩ := h
  exact hr off

theorem State.sameRegs_get (f : Fld) : t.get f = s.get f := by rw [State.get, State.get, State.sameRegs_reg h]

theorem State.sameRegs_flag (f : Fld) : t.flag f = s.flag f := by rw [State.flag, State.flag, State.sameRegs_get h]

theorem State.sameRegs_setReg (off : Nat) (w : Word) : (s.setReg off w).sameRegs (t.setReg off w) := by
  obtain ⟨r, rfl, hr⟩ := h
  refine ⟨Tab.putD regReset r off w, rfl, fun o => ?_⟩
  rw [State.reg, State.setReg_regs, Tab.lookD_putD, Tab.lookD_putD, hr, State.reg]

theorem State.sameRegs_put (f : Fld) (n : Nat) : (s.put f n).sameRegs (t.put f n) := by
  rw [State.put, State.put, State.sameRegs_reg h]
  exact State.sameRegs_setReg h _ _

theorem State.sameRegs_with_fmKey (k : List Word) : ({ s with fmKey := k } : State).sameRegs { t with fmKey := k } := by
  obtain ⟨r, rfl, hr⟩ := h
  exact ⟨r, rfl, hr⟩

theorem State.sameRegs_with_mbx (tag left : Nat) :
    ({ s with mbxTag := tag, mbxLeft := left } : State).sameRegs { t with mbxTag := tag, mbxLeft := left } := by
  obtain ⟨r, rfl, hr⟩ := h
  exact ⟨r, rfl, hr⟩

theorem State.sameRegs_calm (hc : s.calm) : t.calm := by
  obtain ⟨r, rfl, hr⟩ := h
  exact State.calm_congr hc rfl rfl rfl rfl rfl rfl (hr _)

/-- A command whose meaning settles a state with the same words in its registers as a calm one gives the calm one. -/
theorem State.gives_sameRegs {u : State} {c : Instr} (he : exec c u = .next t.settle) (hc : s.calm) : u.gives c s := by
  have ht := State.upTo_settle t (State.sameRegs_calm h hc)
  obtain ⟨r, rfl, hr⟩ := h
  exact ⟨_, he, State.upTo_congr ht rfl rfl fun off _ => (hr off).symm⟩

end

/-- A register table that reads the word `w` at one offset and another state's words elsewhere. -/
theorem State.sameRegs_word {s t : State} {off : Nat} {w : Word} (ht : ∃ r, t = { s with regs := r }) (hw : t.reg off = w)
    (ho : ∀ o, o ≠ off → t.reg o = s.reg o) : t.sameRegs (s.setReg off w) := by
  obtain ⟨r, rfl⟩ := ht
  refine ⟨(s.setReg off w).regs, rfl, fun o => ?_⟩
  show (s.setReg off w).reg o = _
  by_cases e : o = off
  · subst e
    rw [State.reg_setReg_self, hw]
  · rw [State.reg_setReg_other _ _ e, ho o e]

theorem State.reg_put_at (s : State) {f : Fld} (n : Nat) {off : Nat} (h : f.off = off) : (s.put f n).reg off = f.into (s.reg off) n := by
  subst h
  exact s.reg_put_self f n

theorem State.put_put_regs (s : State) (f g : Fld) (m n : Nat) : (s.put f m).put g n = { s with regs := ((s.put f m).put g n).regs } := rfl

/-- Setting a field of any register but DEV_MODE leaves a calm state calm. -/
theorem State.calm_put {s : State} (h : s.calm) {f : Fld} (n : Nat) (hf : 0x10000 ≠ f.off) : (s.put f n).calm :=
  State.calm_congr h rfl rfl rfl rfl rfl rfl (State.reg_put_other _ _ _ hf)

/-! ### The fabric manager key -/

theorem State.originAuth_sameRegs {s t : State} (h : s.sameRegs t) (o : Origin) : t.originAuth o = s.originAuth o := by
  cases o <;> simp [State.originAuth, State.sameRegs_get h]

/-- The key that REGISTER leaves, and the fields that tell of it (R40). -/
def State.fmKeyed (s : State) (ws : List Word) : State :=
  (({ s with fmKey := if p384Point ws then ws else [] }.put F.SEC_FM_KEY_CTRL_VALID (b2n (p384Point ws))).put
    F.SEC_FM_KEY_CTRL_INVALID (b2n !p384Point ws)).put F.SEC_STATUS_FMKEY_VALID (b2n (p384Point ws))

/-- The staged words become the key when they are a point of P-384, and else there is none (R40). -/
theorem State.fmRegister_staged {s : State} {o : Origin} {ws : List Word} (ha : s.originAuth o = true) (hs : s.sealed = false)
    (hl : s.flag F.SEC_STATUS_FMKEY_LOCKED = false) (hw : ws = (List.range 12).map fun k => s.reg (0x60020 + 8 * k)) : s.fmRegister o = s.fmKeyed ws := by
  unfold State.fmRegister
  rw [if_neg (by simp [ha, hs, hl]), hw]
  rfl

theorem State.sameRegs_fmKeyed {s t : State} (h : s.sameRegs t) (ws : List Word) : (s.fmKeyed ws).sameRegs (t.fmKeyed ws) :=
  State.sameRegs_put (State.sameRegs_put (State.sameRegs_put (State.sameRegs_with_fmKey h _) _ _) _ _) _ _

/-- REGISTER of staged words by an origin that holds authority, before the key is locked. -/
theorem State.gives_fmKeyRegister {s : State} {o : Origin} {ws : List Word} (h : s.calm) (hw : s.mayWrite o 0x60018) (ho : okOrigin o = true)
    (ha : s.originAuth o = true) (hs : s.sealed = false) (hl : s.flag F.SEC_STATUS_FMKEY_LOCKED = false)
    (hws : ws = (List.range 12).map fun k => s.reg (0x60020 + 8 * k)) : s.gives (.fmKeyRegister o) (s.fmKeyed ws) := by
  have hr : s.sameRegs (s.setReg 0x60018 (s.reg 0x60018)) := State.sameRegs_word ⟨s.regs, rfl⟩ rfl fun _ _ => rfl
  refine State.gives_sameRegs (State.sameRegs_fmKeyed hr ws) ?_ ?_
  · rw [exec_fmKeyRegister hw ho, State.fmRegister_staged (ws := ws)]
    · rw [State.originAuth_sameRegs hr, ha]
    · rw [State.sealed, State.sameRegs_flag hr]; exact hs
    · rw [State.sameRegs_flag hr, hl]
    · simp only [State.sameRegs_reg hr]; exact hws
  · have hk : ({ s with fmKey := if p384Point ws then ws else [] } : State).calm := State.calm_congr h rfl rfl rfl rfl rfl rfl rfl
    exact State.calm_put (State.calm_put (State.calm_put hk _ (by decide)) _ (by decide)) _ (by decide)

/-! ### The mailbox -/

theorem State.sameRegs_toRouter {s t : State} (h : s.sameRegs t) (cls : Nat) (b : UnitBody) : (s.toRouter cls b).sameRegs (t.toRouter cls b) := by
  have ht : t.tick = s.tick := by simp only [State.tick, State.now, State.frac, State.sameRegs_get h]
  obtain ⟨r, rfl, hr⟩ := h
  exact ⟨r, by rw [State.toRouter, ht]; rfl, hr⟩

theorem State.calm_toRouter {s : State} (h : s.calm) (cls : Nat) (b : UnitBody) : (s.toRouter cls b).calm := State.calm_rin h _

/-- A message is asked for: the mailbox waits for the answer of a new tag (R434). -/
def State.mbxWaits (s : State) (tag : Nat) : State := { s.put F.SEC_MBX_CTRL_BUSY 1 with mbxTag := tag, mbxLeft := 1025 }

theorem State.sameRegs_mbxWaits {s t : State} (h : s.sameRegs t) (tag : Nat) : (s.mbxWaits tag).sameRegs (t.mbxWaits tag) :=
  State.sameRegs_with_mbx (State.sameRegs_put h _ _) _ _

theorem State.reg_with_mbx (s : State) (tag left off : Nat) : ({ s with mbxTag := tag, mbxLeft := left } : State).reg off = s.reg off := rfl

theorem State.mbxWaits_reg (s : State) (tag : Nat) {off : Nat} (h : off ≠ 0x60100) : (s.mbxWaits tag).reg off = s.reg off :=
  (State.reg_with_mbx _ _ _ _).trans (State.reg_put_other s F.SEC_MBX_CTRL_BUSY 1 h)

theorem State.quiet_with_mbx (s : State) (tag left : Nat) : ({ s with mbxTag := tag, mbxLeft := left } : State).quiet = s.quiet := rfl

theorem State.mbxWaits_quiet (s : State) (tag : Nat) : (s.mbxWaits tag).quiet = s.quiet :=
  (State.quiet_with_mbx _ _ _).trans (State.put_quiet _ _ _)

theorem State.calm_with_mbx {s : State} (h : s.calm) (tag left : Nat) : ({ s with mbxTag := tag, mbxLeft := left } : State).calm :=
  State.calm_congr h rfl rfl rfl rfl rfl rfl rfl

theorem State.calm_mbxWaits {s : State} (h : s.calm) (tag : Nat) : (s.mbxWaits tag).calm :=
  State.calm_with_mbx (State.calm_put h _ (by decide)) _ _

theorem State.mbxWaits_get (s : State) (tag : Nat) {f : Fld} (h : f.off ≠ 0x60100) : (s.mbxWaits tag).get f = s.get f := by
  rw [State.get, State.get, State.mbxWaits_reg s tag h]

theorem State.mbxWaits_now (s : State) (tag : Nat) : (s.mbxWaits tag).now = s.now := State.mbxWaits_get s tag (by decide)

theorem State.mbxWaits_self (s : State) (tag : Nat) : (s.mbxWaits tag).self = s.self := State.mbxWaits_get s tag (by decide)

theorem State.mbxWaits_window (s : State) (tag n : Nat) : (s.mbxWaits tag).window 0x61000 n = s.window 0x61000 n := by
  have hw : ∀ i, (s.mbxWaits tag).reg (0x61000 + 8 * i) = s.reg (0x61000 + 8 * i) := fun i => State.mbxWaits_reg s tag (by omega)
  simp only [State.window, hw]

/-- The message of the mailbox's window that asks the router `dst` for an answer of tag `tag` (R434). -/
def State.mbxAsks (s : State) (n dst tag : Nat) : Mgmt :=
  ⟨dst, s.now % 4096, 2, dst, 0, s.self, tag, 0, [], [], s.window 0x61000 n, false, true, true⟩

theorem State.mbxAsks_mbxWaits (s : State) (n dst tag u : Nat) : (s.mbxWaits u).mbxAsks n dst tag = s.mbxAsks n dst tag := by
  rw [State.mbxAsks, State.mbxWaits_now, State.mbxWaits_self, State.mbxWaits_window, State.mbxAsks]

theorem State.mbxAsks_setReg (s : State) (w : Word) (n dst tag : Nat) : (s.setReg 0x60100 w).mbxAsks n dst tag = s.mbxAsks n dst tag := by
  have hnow : (s.setReg 0x60100 w).now = s.now := by rw [State.now, State.now, State.get_setReg_off s w (by decide)]
  have hself : (s.setReg 0x60100 w).self = s.self := by rw [State.self, State.self, State.get_setReg_off s w (by decide)]
  have hi : ∀ i, (s.setReg 0x60100 w).reg (0x61000 + 8 * i) = s.reg (0x61000 + 8 * i) := fun i => State.reg_setReg_other s w (by omega)
  simp only [State.mbxAsks, hnow, hself, State.window, hi]

/-- A message is sent when the mailbox is asked for one of an allowed length (R434). -/
theorem State.mbxSend_accepted {s : State} {n dst tag : Nat} (hn : s.get F.SEC_MBX_CTRL_TX_LEN = n) (h0 : 0 < n) (hm : n ≤ 4064)
    (hd : s.get F.SEC_MBX_CTRL_TARGET = dst) (hg : (s.mbxTag + 1) % 65536 = tag) : s.mbxSend = (s.mbxWaits tag).mgmtSend ((s.mbxWaits tag).mbxAsks n dst tag) := by
  subst hg hn hd
  unfold State.mbxSend
  rw [if_neg (by omega)]
  rfl

/-- The same when the die is not held in quiet: the router takes the message. -/
theorem State.mbxSend_routed {s : State} {n dst tag : Nat} (hq : s.quiet = false) (hn : s.get F.SEC_MBX_CTRL_TX_LEN = n) (h0 : 0 < n) (hm : n ≤ 4064)
    (hd : s.get F.SEC_MBX_CTRL_TARGET = dst) (hg : (s.mbxTag + 1) % 65536 = tag) : s.mbxSend = (s.mbxWaits tag).toRouter 4 (.mgmt (s.mbxAsks n dst tag)) := by
  rw [State.mbxSend_accepted hn h0 hm hd hg, State.mgmtSend_open (by rw [State.mbxWaits_quiet, hq]), State.mbxAsks_mbxWaits]

/-- SEND's word in the control register: the target and the length (R434). -/
theorem State.mbxCtrl_word {s : State} {w : Word} {n dst : Nat} (hn : n < 2 ^ 12) (hd : dst < 2 ^ 16)
    (hw : F.SEC_MBX_CTRL_TX_LEN.into (F.SEC_MBX_CTRL_TARGET.into (s.reg 0x60100) dst) n = w) :
    (s.setReg 0x60100 w).get F.SEC_MBX_CTRL_TX_LEN = n ∧ (s.setReg 0x60100 w).get F.SEC_MBX_CTRL_TARGET = dst := by
  constructor
  · rw [State.get, State.reg_setReg_self, ← hw, Fld.of_into _ _ _ (by decide)]
    exact Nat.mod_eq_of_lt hn
  · rw [State.get, State.reg_setReg_self, ← hw, Fld.of_into_other _ _ _ _ (by decide) (by decide) (by decide), Fld.of_into _ _ _ (by decide)]
    exact Nat.mod_eq_of_lt hd

theorem State.sameRegs_mbxCtrl {s : State} {w : Word} {n dst : Nat}
    (hw : F.SEC_MBX_CTRL_TX_LEN.into (F.SEC_MBX_CTRL_TARGET.into (s.reg 0x60100) dst) n = w) :
    ((s.put F.SEC_MBX_CTRL_TARGET dst).put F.SEC_MBX_CTRL_TX_LEN n).sameRegs (s.setReg 0x60100 w) := by
  refine State.sameRegs_word ⟨_, State.put_put_regs s _ _ _ _⟩ ?_ fun o ho => ?_
  · rw [State.reg_put_at _ _ rfl, State.reg_put_at _ _ rfl, hw]
  · rw [State.reg_put_other _ _ _ ho, State.reg_put_other _ _ _ ho]

/-- SEND of the mailbox, no answer awaited. -/
theorem State.gives_mailboxSend {s : State} {o : Origin} {v : Word} {n dst tag : Nat} (h : s.calm) (hw : s.mayWrite o 0x60100) (ho : okOrigin o = true)
    (hb : s.flag F.SEC_MBX_CTRL_BUSY = false) (hq : s.quiet = false) (hn : n = wbits v 27 16) (h0 : 0 < n) (hm : n ≤ 4064) (hd : dst = wbits v 47 32)
    (hg : tag = (s.mbxTag + 1) % 65536) :
    s.gives (.mailboxSend o v)
      ((((s.put F.SEC_MBX_CTRL_TARGET dst).put F.SEC_MBX_CTRL_TX_LEN n).mbxWaits tag).toRouter 4 (.mgmt (s.mbxAsks n dst tag))) := by
  have hx := exec_mailboxSend hw ho hb (v := v)
  have hln : n < 2 ^ 12 := by rw [hn]; exact wbits_lt v 27 16
  have hld : dst < 2 ^ 16 := by rw [hd]; exact wbits_lt v 47 32
  rw [← hd, ← hn] at hx
  generalize hwd : F.SEC_MBX_CTRL_TX_LEN.into (F.SEC_MBX_CTRL_TARGET.into (s.reg 0x60100) dst) n = w at hx
  obtain ⟨hlen, hdst⟩ := State.mbxCtrl_word hln hld hwd
  refine State.gives_sameRegs (State.sameRegs_toRouter (State.sameRegs_mbxWaits (State.sameRegs_mbxCtrl hwd) tag) 4 _) ?_ ?_
  · rw [hx, State.mbxSend_routed ((State.setReg_quiet _ _ _).trans hq) hlen h0 hm hdst (tag := tag) (by rw [State.setReg_mbxTag, hg]), State.mbxAsks_setReg]
  · have hp := State.calm_put (State.calm_put h (f := F.SEC_MBX_CTRL_TARGET) dst (by decide)) (f := F.SEC_MBX_CTRL_TX_LEN) n (by decide)
    exact State.calm_toRouter (State.calm_mbxWaits hp tag) _ _

theorem State.calm_with_mbxLeft {s : State} (h : s.calm) (n : Nat) : ({ s with mbxLeft := n } : State).calm :=
  State.calm_congr h rfl rfl rfl rfl rfl rfl rfl

/-! ### The statement -/

/-- A message's program starts its run. -/
theorem State.completes_wq4 {s : State} {m : Mgmt} {ctx : Nat} (h : s.calm) (hk : okMgmt m = true) (hq : m.seq < 2 ^ 32)
    (he : s.wq4 m = ((s.put F.DEV_AUTH_SEQ_SEQ m.seq).put F.DEV_AUTH_FM_SEQ (m.seq / 4)).startRun ctx
      { (default : Run) with wq := 4, dom := 0, prog := .message m.prog, params := .msg m.param, limit := s.stepLimit 4 }) :
    s.completes (.wq4Program m) fun t =>
      (t.runs.look ctx).wq = 4 ∧ (t.runs.look ctx).dom = 0 ∧ (t.runs.look ctx).prog = .message m.prog ∧ (t.runs.look ctx).params = .msg m.param ∧
      (t.runs.look ctx).pc = 0 ∧ (t.runs.look ctx).g = [] ∧ (t.runs.look ctx).limit = s.stepLimit 4 ∧
      ((t.runs.look ctx).st = .running ∨ (t.runs.look ctx).st = .ready) ∧ t.get F.DEV_AUTH_SEQ_SEQ = m.seq := by
  have hc := State.calm_put (State.calm_put h (f := F.DEV_AUTH_SEQ_SEQ) m.seq (by decide)) (f := F.DEV_AUTH_FM_SEQ) (m.seq / 4) (by decide)
  have hg : ((s.put F.DEV_AUTH_SEQ_SEQ m.seq).put F.DEV_AUTH_FM_SEQ (m.seq / 4)).get F.DEV_AUTH_SEQ_SEQ = m.seq := by
    rw [State.get_put_off _ _ (by decide), State.get_put_self _ _ _ (by decide)]
    exact Nat.mod_eq_of_lt (hq.trans (by decide))
  generalize (s.put F.DEV_AUTH_SEQ_SEQ m.seq).put F.DEV_AUTH_FM_SEQ (m.seq / 4) = u at he hc hg
  obtain ⟨r, runs, n, st, cl, res, seq, img, hs, hr, hst, hl⟩ := u.startRun_form ctx
    { (default : Run) with wq := 4, dom := 0, prog := .message m.prog, params := .msg m.param, limit := s.stepLimit 4 }
  have ht : ({ u with regs := r, runs := runs, readyCtr := n } : State).calm := State.calm_congr hc rfl rfl rfl rfl rfl rfl (hr _ (by decide))
  refine ⟨_, by rw [exec_wq4Program h hk, he, hs], ?_⟩
  have hrun := State.settle_runs _ ht
  dsimp only at hrun ⊢
  rw [hrun, State.settle_get _ ht (by decide) (by decide)]
  simp only [hl, true_and]
  refine ⟨rfl, rfl, hst, ?_⟩
  rw [← hg, State.get, State.get]
  exact congrArg _ (hr _ (by decide))

/-- Settles O48: each message's and each register command's meaning on a calm state, by the checks that it passes. -/
theorem managementMessages : Obligations.ManagementMessages := by
  unfold Obligations.ManagementMessages
  intro s h
  have hf : ∀ m : Mgmt, m.crcOk = true → s.age m.birth ≤ s.lifetime → s.mgmtFresh m = true := fun m hc ha => by simp [State.mgmtFresh, hc, ha]
  refine ⟨?_, ?_, ?_, ?_, ?_, ?_, ?_, ?_, ?_⟩
  · intro m ctx hk hc ha h0 hh hs h1 hx ho hp hn ht hi hg hy hq hb
    exact State.completes_wq4 h hk hb (State.wq4_starts hk (hf m hc ha) h0 hh hs h1 hx ho hp hn ht hi hg hy hq)
  · intro m ctx hk hc ha h0 hh hs h1 hx hd
    obtain ⟨why, he⟩ := State.wq4_fails (hf m hc ha) h0 hh hs h1 hx hd
    exact State.givesFault_fltAt h (by rw [exec_wq4Program h hk, he]) (by decide) rfl (by decide) rfl
  · intro o ws hw ho ha hs hl hws hp
    simpa [State.fmKeyed, hp, b2n] using State.gives_fmKeyRegister h hw ho ha hs hl hws
  · intro o ws hw ho ha hs hl hws hp
    simpa [State.fmKeyed, hp, b2n] using State.gives_fmKeyRegister h hw ho ha hs hl hws
  · intro m hk hc ha ho h1 ht
    exact State.gives_settle (by rw [exec_mgmtForward h hk, State.mgmtForward_other (hf m hc ha) ho h1 ht]) (State.calm_rin h _)
  · intro m answer hk hc ha ho h1 ht hs h0 hq
    exact State.gives_settle (by rw [exec_spdmFabricRequest h hk, State.spdmFabric_here answer (hf m hc ha) ho h1 ht hs h0 hq]) (State.calm_rin h _)
  · intro m hk hc ha ho h1 ht hs hb hg
    refine State.gives_settle (by rw [exec_spdmFabricResponse h hk, State.mbxAnswer_awaited hk (hf m hc ha) ho h1 ht hs hb hg]) ?_
    obtain ⟨r, hr, hl⟩ := s.fillWindow_form 0x62000 m.body
    rw [hr 0]
    have hw : ({ s with regs := r, mbxLeft := 0 } : State).calm := State.calm_congr h rfl rfl rfl rfl rfl rfl (hl _ (by decide))
    exact State.calm_put (State.calm_put (State.calm_put hw _ (by decide)) _ (by decide)) _ (by decide)
  · intro o v n dst tag hw ho hb hq hn h0 hm hd hg
    exact State.gives_mailboxSend h hw ho hb hq hn h0 hm hd hg
  · intro hb hl
    refine State.gives_settle (by rw [exec_mailboxTimeout h, State.mbxLate_over hb hl]) ?_
    exact State.calm_with_mbxLeft (State.calm_put (State.calm_put h _ (by decide)) _ (by decide)) 0

end Sys2Proof.Machine
end

section
namespace Sys2Proof.Machine

/-! ### Faults and calm states -/

/-- Setting a field leaves every field apart from it, as a rule for `simp` with `decide` on the fields. -/
theorem State.flag_put_other (s : State) {f g : Fld} (n : Nat) (hf : f.ok) (hg : g.ok) (h : g.off ≠ f.off ∨ g.hi < f.lo ∨ f.hi < g.lo) :
    (s.put f n).flag g = s.flag g := by
  rw [State.flag, State.flag, State.get_put_other s n hf hg h]

/-- A field reads a value that fits as it was set. -/
theorem State.get_put_fits (s : State) {f : Fld} {n : Nat} (h : f.ok) (hn : n < 2 ^ (f.hi + 1 - f.lo)) : (s.put f n).get f = n := by
  rw [State.get_put_self s f n h, Nat.mod_eq_of_lt hn]

theorem State.flag_of_get {s : State} {f : Fld} {n : Nat} (h : s.get f = n) : s.flag f = (n != 0) := by rw [State.flag, h]

/-- What an occurrence of a source of class 0 or 1 leaves of a calm state, once settled (R513). -/
theorem State.upToFault_fltAt {u : State} {src c : Nat} (syn : Word) (port : Option Nat) (h : u.calm) (hs : src < 512) (hc : fltClass src = some c) (h2 : c ≠ 2)
    (hr : (src == 0x041 || src == 0x042 || src == 0x048 || src == 0x049) = false) :
    u.upToFault (u.fltAt src syn port).settle ∧ (u.fltAt src syn port).settle.flag (fltPend src) = true := by
  have hn := u.noted_occur src syn false port hs
  have ho := fltPend_off src hs
  rw [u.fltAt_occur syn port (by simp [hc, h2]) hr]
  refine ⟨State.upToFault_settle (State.calm_noted h hn) hn, ?_⟩
  rw [State.flag, State.settle_get _ (State.calm_noted h hn) (by omega) (by omega)]
  exact u.flag_occur syn false port hs hc

theorem State.upToFault_sameRegs {u v t : State} (h : u.sameRegs v) (ht : v.upToFault t) : u.upToFault t := by
  obtain ⟨r, rfl, hr⟩ := h
  obtain ⟨he, hk⟩ := ht
  exact ⟨he, fun off h1 h2 => (hk off h1 h2).trans (hr off)⟩

/-- A command whose meaning is an occurrence of such a source on the calm state `v`, which reads as `u`, gives `u` with that fault. -/
theorem State.givesFault_sameRegs {s u v : State} {cmd : Instr} {src c : Nat} {syn : Word} {port : Option Nat} (hv : u.sameRegs v) (h : u.calm)
    (he : exec cmd s = .next (v.fltAt src syn port).settle) (hs : src < 512) (hc : fltClass src = some c) (h2 : c ≠ 2)
    (hr : (src == 0x041 || src == 0x042 || src == 0x048 || src == 0x049) = false) : s.givesFault cmd u src := by
  obtain ⟨ht, hf⟩ := State.upToFault_fltAt syn port (State.sameRegs_calm hv h) hs hc h2 hr
  exact ⟨_, he, State.upToFault_sameRegs hv ht, hf⟩

theorem State.sameRegs_refl (s : State) : s.sameRegs s := ⟨s.regs, rfl, fun _ => rfl⟩

/-! ### References -/

/-- Reference A is judged failed: its qualification and count clear (R62). -/
def State.aLost (s : State) : State := ((s.put F.CLK_STATUS_A_FAIL 1).put F.CLK_STATUS_A_QUAL 0).put F.CLK_QUAL_A_CYCLES 0

/-- Reference B is judged failed. -/
def State.bLost (s : State) : State := ((s.put F.CLK_STATUS_B_FAIL 1).put F.CLK_STATUS_B_QUAL 0).put F.CLK_QUAL_B_CYCLES 0

theorem State.calm_aLost {s : State} (h : s.calm) : s.aLost.calm :=
  State.calm_put (State.calm_put (State.calm_put h _ (by decide)) _ (by decide)) _ (by decide)

theorem State.calm_bLost {s : State} (h : s.calm) : s.bLost.calm :=
  State.calm_put (State.calm_put (State.calm_put h _ (by decide)) _ (by decide)) _ (by decide)

/-- The selected reference A fails, and B is qualified: B is taken (R64). -/
theorem State.refFailed_a {s : State} (hr : s.get F.CLK_STATUS_REF_SEL = 0) (hh : s.get F.CLK_STATUS_HOLDOVER = 0) (hb : s.get F.CLK_STATUS_B_QUAL = 1) :
    s.refFailed false = (s.aLost.put F.CLK_STATUS_REF_SEL 1).flt 0x004 (packW [(0, 1)]) := by
  simp (disch := decide) [State.refFailed, State.aLost, State.flag, State.get_put_other, hr, hh, hb, b2n]

/-- Reference B fails while A is selected: nothing but its own marks changes (R62). -/
theorem State.refFailed_b {s : State} (hr : s.get F.CLK_STATUS_REF_SEL = 0) : s.refFailed true = s.bLost := by
  simp (disch := decide) [State.refFailed, State.bLost, State.flag, State.get_put_other, hr, b2n]

theorem State.refJudge_a {s : State} {r : RefObs} (ha : r.aFails = true) (hb : r.bFails = false) : s.refJudge r = s.refFailed false := by
  simp [State.refJudge, ha, hb]

theorem State.refJudge_b {s : State} {r : RefObs} (ha : r.aFails = false) (hb : r.bFails = true) (hp : s.get F.CLK_REF_CTRL_B_PRESENT = 1) :
    s.refJudge r = s.refFailed true := by
  simp [State.refJudge, ha, hb, State.flag, hp]

/-- Reference A qualifies while the PLL has a reference (R63). -/
theorem State.refQual_a {s : State} (hh : s.get F.CLK_STATUS_HOLDOVER = 0) :
    s.refQual false = ((s.put F.CLK_STATUS_A_FAIL 0).put F.CLK_STATUS_A_QUAL 1).put F.CLK_QUAL_A_CYCLES (max (s.get F.CLK_QUAL_A_CYCLES) 4100) := by
  simp (disch := decide) [State.refQual, State.flag, State.get_put_other, hh, State.atLeast]

/-- Reference B qualifies in holdover and is taken (R65). -/
theorem State.refQual_b {s : State} (hh : s.get F.CLK_STATUS_HOLDOVER = 1) (hp : s.get F.CLK_REF_CTRL_B_PRESENT = 1) :
    s.refQual true =
      (((((s.put F.CLK_STATUS_B_FAIL 0).put F.CLK_STATUS_B_QUAL 1).put F.CLK_QUAL_B_CYCLES (max (s.get F.CLK_QUAL_B_CYCLES) 4100)).put
        F.CLK_STATUS_HOLDOVER 0).put F.CLK_STATUS_REF_SEL 1).put F.CLK_STATUS_TB_LOCK 1 := by
  simp (disch := decide) [State.refQual, State.flag, State.get_put_other, hh, hp, State.atLeast, b2n]

theorem State.coreRelock_coasting {s : State} (hc : s.get F.CLK_STATUS_COAST = 1) (hh : s.get F.CLK_STATUS_HOLDOVER = 0) :
    s.coreRelock = (s.put F.CLK_STATUS_COAST 0).put F.CLK_STATUS_CORE_LOCK 1 := by
  simp [State.coreRelock, State.flag, hc, hh]

/-- REVERT while B is selected and A qualified takes A (R64). -/
theorem State.refRevert_back {s : State} (ha : s.get F.CLK_STATUS_A_QUAL = 1) (hr : s.get F.CLK_STATUS_REF_SEL = 1) :
    s.refRevert = (s.put F.CLK_STATUS_REF_SEL 0).flt 0x004 0 := by
  simp [State.refRevert, State.flag, ha, hr]

/-! ### Registers of the clocks -/

theorem rowAt_clkRefCtrl : rowAt 0x20008 = some ⟨"CLK_REF_CTRL", 0x20008, [], [⟨2, 2, .wo, 0, .live⟩, ⟨1, 1, .rw, 1, .live⟩]⟩ := rfl

theorem rowAt_clkFmeterCtrl :
    rowAt 0x20030 = some ⟨"CLK_FMETER_CTRL", 0x20030, [], [⟨63, 63, .wo, 0, .live⟩, ⟨62, 62, .ro, 0, .none⟩, ⟨15, 8, .rw, 1, .live⟩, ⟨4, 0, .rw, 0, .live⟩]⟩ := rfl

theorem rowAt_clkClkout {n : Nat} (h : n < 2) :
    rowAt (0x20020 + 8 * n) = some ⟨"CLK_CLKOUT", 0x20020, [(0x8, 2)], [⟨2, 2, .rw, 0, .live⟩, ⟨1, 1, .rw, 0, .live⟩, ⟨0, 0, .rw, 0, .live⟩]⟩ := by
  interval_cases n <;> rfl

/-- An origin whose access reaches a register while the device is not held, and that is no VF, exists. -/
theorem okOrigin_of_mayWrite {s : State} {o : Origin} {off : Nat} (h : s.calm) (hw : s.mayWrite o off) : okOrigin o = true := by
  obtain ⟨-, -, -, -, -, -, hh⟩ := h
  obtain ⟨ho, hv, -, -, -⟩ := hw
  cases o with
  | vf p f => cases hv
  | pf0 p =>
    simp only [State.regOpen, hh, State.pf0Up, Bool.and_eq_true] at ho
    simpa [okOrigin, okHost] using ho.1.1.1.1
  | sideband => rfl
  | instr => rfl

/-- The bits outside a mask and those within it make the word. -/
theorem and_not_or_and (w m : Word) : w &&& ~~~m ||| w &&& m = w := by
  rw [← BitVec.and_or_distrib_left, BitVec.or_comm, BitVec.or_not_self, BitVec.and_allOnes]

/-- REVERT keeps B_PRESENT and asks for reference A (R64). -/
theorem State.setBits_clkRefCtrl {s : State} {o : Origin} (hw : s.mayWrite o 0x20008) :
    s.setBits o 0x20008 (bitW 2) = (s.setReg 0x20008 (s.reg 0x20008)).refRevert := by
  obtain ⟨ho, hv, hl, hs, hm⟩ := hw
  have hr := rowAt_clkRefCtrl
  have hst : ∀ w m v, (s.setReg 0x20008 w).stagePut 0x20008 m v = s.setReg 0x20008 w :=
    fun w m v => State.stagePut_none m v hs hm (by simp [fieldBits, hr])
  have hk : ∀ w : Word, w &&& 0xFFFFFFFFFFFFFFFD#64 ||| (w &&& 0xFFFFFFFFFFFFFFFB#64 &&& 2#64 ||| 4#64) &&& 6#64 &&& 2#64 = w := by
    intro w
    rw [show 0xFFFFFFFFFFFFFFFD#64 = ~~~2#64 from rfl]
    simp only [BitVec.and_assoc, BitVec.and_or_distrib_right, BitVec.reduceAnd, BitVec.or_zero]
    exact and_not_or_and w 2#64
  rw [State.setBits, State.regWrite_named ho hv hl rfl (by decide) hr]
  simp [State.kept, State.stored, State.regPut, State.hookSys, fieldBits, hr, bitW, wbit, hst, hs, hm, hk, show (default : Word) = 0 from rfl]

/-- A write of a clock output's register (R71). -/
theorem State.regWrite_clkClkout {s : State} {o : Origin} {n : Nat} {v : Word} (hw : s.mayWrite o (0x20020 + 8 * n)) (h : n < 2) :
    s.regWrite o (0x20020 + 8 * n) 8 v = s.clkoutSet n ((s.reg (0x20020 + 8 * n) &&& ~~~7#64) ||| (v &&& 7#64)) := by
  obtain ⟨ho, hv, hl, -, -⟩ := hw
  have h8 : (0x20020 + 8 * n) / 8 * 8 = 0x20020 + 8 * n := by omega
  have hr := rowAt_clkClkout h
  rw [State.regWrite_named ho hv hl (by simp [sizeOk]) (by omega) (by rw [h8]; exact hr)]
  simp [State.regPut, fieldBits, h8, hr, BitVec.and_assoc]

/-- A changed output is held low (R71). -/
theorem State.clkoutSet_changed {s : State} {n : Nat} {v w : Word} (h : s.reg (0x20020 + 8 * n) ≠ v) (hw : w &&& 7 = v) (hn : n ∉ s.clkHold) :
    s.clkoutSet n w = { (s.setReg (0x20020 + 8 * n) v).out (.pin (clkoutPin n) false) with clkHold := n :: s.clkHold } := by
  subst hw
  unfold State.clkoutSet
  dsimp only
  rw [if_neg h, if_neg (show ¬ s.clkHold.contains n = true by simpa using hn)]

theorem State.clkoutGo_held {s : State} {n : Nat} (hn : n ∈ s.clkHold) :
    s.clkoutGo n = { s.out (.pin (clkoutPin n) (s.get (F.CLK_CLKOUT_EN n) != 0)) with clkHold := s.clkHold.erase n } := by
  simp [State.clkoutGo, hn, State.flag]

/-- START of the frequency meter sets WINDOW and SRC, and starts it (R72). -/
theorem State.regWrite_clkFmeterCtrl {s : State} {o : Origin} {v : Word} (hw : s.mayWrite o 0x20030) :
    s.regWrite o 0x20030 8 (v ||| bitW 63) = (s.setReg 0x20030 ((s.reg 0x20030 &&& ~~~0xFF1F#64) ||| (v &&& 0xFF1F#64))).fmStart := by
  obtain ⟨ho, hv, hl, hs, hm⟩ := hw
  have hr := rowAt_clkFmeterCtrl
  have hst : ∀ w m v, (s.setReg 0x20030 w).stagePut 0x20030 m v = s.setReg 0x20030 w :=
    fun w m v => State.stagePut_none m v hs hm (by simp [fieldBits, hr])
  rw [State.regWrite_named ho hv hl rfl (by decide) hr]
  simp [State.regPut, State.hookSys, fieldBits, hr, bitW, wbit, hst, BitVec.and_assoc, BitVec.and_or_distrib_right]

/-- START while the meter is idle and not fenced (R72). -/
theorem State.fmStart_idle {s : State} (hb : s.get F.CLK_FMETER_CTRL_BUSY = 0) (hl : s.get F.CLK_STATUS_MGMT_LOCK = 1) (hf : s.flag (fltPend 0x009) = false) :
    s.fmStart = { ((s.put F.CLK_FMETER_RESULT_VALID 0).put F.CLK_FMETER_RESULT_DISTURBED 0).put F.CLK_FMETER_CTRL_BUSY 1 with
      fmLeft := some (max (s.get F.CLK_FMETER_CTRL_WINDOW) 1 + 1) } := by
  unfold State.fmStart
  rw [if_neg (by simp [State.flag_of_get hb, State.mgmtFenced, State.flag_of_get hl, hf])]
  rfl

/-- The window has passed (R72). -/
theorem State.fmDone_over {s : State} (edges : Nat) (hl : s.fmLeft = some 0) (hs : s.get F.CLK_FMETER_CTRL_SRC < 12) :
    s.fmDone edges = { ((s.put F.CLK_FMETER_RESULT_COUNT edges).put F.CLK_FMETER_RESULT_VALID 1).put F.CLK_FMETER_CTRL_BUSY 0 with fmLeft := none } := by
  unfold State.fmDone
  rw [if_neg (by simp [hl]), if_neg (by omega)]


/-! ### Commands of the clocks -/

theorem exec_refclkFail {s : State} (h : s.calm) (r : RefObs) : exec (.refclkFail r) s = .next (s.refJudge r).settle := ended_fabric h rfl _

theorem exec_refclkQualified {s : State} (h : s.calm) (isB : Bool) : exec (.refclkQualified isB) s = .next (s.refQual isB).settle := ended_fabric h rfl _

theorem exec_corePllRelock {s : State} (h : s.calm) : exec .corePllRelock s = .next s.coreRelock.settle := ended_fabric h rfl _

theorem exec_revert {s : State} {o : Origin} (h : s.calm) (hw : s.mayWrite o 0x20008) :
    exec (.revert o) s = .next (s.setReg 0x20008 (s.reg 0x20008)).refRevert.settle := by
  show ended (okOrigin o) _ = _
  rw [ended_true _ _ (okOrigin_of_mayWrite h hw), State.setBits_clkRefCtrl hw]

theorem exec_clkoutConfigWrite {s : State} {o : Origin} {n : Nat} {v : Word} (h : s.calm) (hn : n < 2) (hw : s.mayWrite o (0x20020 + 8 * n)) :
    exec (.clkoutConfigWrite o n v) s = .next (s.clkoutSet n ((s.reg (0x20020 + 8 * n) &&& ~~~7#64) ||| (v &&& 7#64))).settle := by
  show ended (okOrigin o && okClkout n) _ = _
  rw [ended_true _ _ (by simp [okOrigin_of_mayWrite h hw, okClkout, hn]), State.regWrite_clkClkout hw hn]

theorem exec_clkoutHoldEnd {s : State} {n : Nat} (h : s.calm) (hn : n < 2) : exec (.clkoutHoldEnd n) s = .next (s.clkoutGo n).settle :=
  ended_fabric h (by simp [okClkout, hn]) _

theorem exec_fmeterStart {s : State} {o : Origin} {v : Word} (h : s.calm) (hw : s.mayWrite o 0x20030) :
    exec (.fmeterStart o v) s = .next (s.setReg 0x20030 ((s.reg 0x20030 &&& ~~~0xFF1F#64) ||| (v &&& 0xFF1F#64))).fmStart.settle := by
  show ended (okOrigin o) _ = _
  rw [ended_true _ _ (okOrigin_of_mayWrite h hw), State.regWrite_clkFmeterCtrl hw]

theorem exec_fmeterDone {s : State} (h : s.calm) (edges : Nat) : exec (.fmeterDone edges) s = .next (s.fmDone edges).settle := ended_fabric h rfl _

/-- Settles O6: the judgement, the qualification and the selection of references on a calm state (R62 to R65). -/
theorem referenceSelection : Obligations.ReferenceSelection := by
  unfold Obligations.ReferenceSelection
  intro s h
  refine ⟨?_, ?_, ?_, ?_, ?_, ?_⟩
  · intro r ha hb hr hh hq
    exact State.givesFault_sameRegs (State.sameRegs_refl _) (State.calm_put (State.calm_aLost h) _ (by decide))
      (by rw [exec_refclkFail h, State.refJudge_a ha hb, State.refFailed_a hr hh hq]; rfl) (by decide) rfl (by decide) rfl
  · intro r ha hb hp hr
    exact State.gives_settle (by rw [exec_refclkFail h, State.refJudge_b ha hb hp, State.refFailed_b hr]; rfl) (State.calm_bLost h)
  · intro hh
    exact State.gives_settle (by rw [exec_refclkQualified h, State.refQual_a hh])
      (State.calm_put (State.calm_put (State.calm_put h _ (by decide)) _ (by decide)) _ (by decide))
  · intro hh hp
    exact State.gives_settle (by rw [exec_refclkQualified h, State.refQual_b hh hp])
      (State.calm_put (State.calm_put (State.calm_put (State.calm_put (State.calm_put (State.calm_put h _ (by decide)) _ (by decide)) _ (by decide))
        _ (by decide)) _ (by decide)) _ (by decide))
  · intro hc hh
    exact State.gives_settle (by rw [exec_corePllRelock h, State.coreRelock_coasting hc hh]) (State.calm_put (State.calm_put h _ (by decide)) _ (by decide))
  · intro o hw ha hr
    have hv : s.sameRegs (s.setReg 0x20008 (s.reg 0x20008)) := State.sameRegs_word ⟨s.regs, rfl⟩ rfl fun _ _ => rfl
    have hx := exec_revert h hw
    rw [State.refRevert_back (by rw [State.sameRegs_get hv, ha]) (by rw [State.sameRegs_get hv, hr])] at hx
    exact State.givesFault_sameRegs (State.sameRegs_put hv F.CLK_STATUS_REF_SEL 0) (State.calm_put h _ (by decide)) hx (by decide) rfl (by decide) rfl

/-! ### The frequency meter's control word -/

/-- A word that takes the bits of a mask from another, bit by bit. -/
theorem getLsbD_merge (w v m : Word) {i : Nat} (hi : i < 64) : (w &&& ~~~m ||| v &&& m).getLsbD i = if m.getLsbD i then v.getLsbD i else w.getLsbD i := by
  rw [BitVec.getLsbD_or, BitVec.getLsbD_and, BitVec.getLsbD_and, BitVec.getLsbD_not]
  cases m.getLsbD i <;> simp [hi]

/-- A field within the mask takes the new value. -/
theorem Fld.of_merge_within {f : Fld} (w v : Word) {m : Word} (hf : f.ok) (hm : ∀ i ≤ f.hi - f.lo, m.getLsbD (f.lo + i) = true) :
    f.of (w &&& ~~~m ||| v &&& m) = f.of v := by
  apply Nat.eq_of_testBit_eq
  intro i
  rw [Fld.testBit_of _ _ _ hf, Fld.testBit_of _ _ _ hf]
  by_cases hi : i ≤ f.hi - f.lo
  · rw [getLsbD_merge _ _ _ (by have := hf.1; have := hf.2; omega), hm i hi, if_pos rfl]
  · simp [hi]

/-- A field outside the mask keeps its value. -/
theorem Fld.of_merge_outside {f : Fld} (w v : Word) {m : Word} (hf : f.ok) (hm : ∀ i ≤ f.hi - f.lo, m.getLsbD (f.lo + i) = false) :
    f.of (w &&& ~~~m ||| v &&& m) = f.of w := by
  apply Nat.eq_of_testBit_eq
  intro i
  rw [Fld.testBit_of _ _ _ hf, Fld.testBit_of _ _ _ hf]
  by_cases hi : i ≤ f.hi - f.lo
  · rw [getLsbD_merge _ _ _ (by have := hf.1; have := hf.2; omega), hm i hi, if_neg Bool.false_ne_true]
  · simp [hi]

theorem State.calm_with_fmLeft {s : State} (h : s.calm) (x : Option Nat) : ({ s with fmLeft := x } : State).calm :=
  State.calm_congr h rfl rfl rfl rfl rfl rfl rfl

/-- The meter has been started: it is busy, without a result, over the window its control register gives (R72). -/
def State.fmBegun (s : State) : State :=
  { ((s.put F.CLK_FMETER_RESULT_VALID 0).put F.CLK_FMETER_RESULT_DISTURBED 0).put F.CLK_FMETER_CTRL_BUSY 1 with
    fmLeft := some (max (s.get F.CLK_FMETER_CTRL_WINDOW) 1 + 1) }

theorem State.calm_fmBegun {s : State} (h : s.calm) : s.fmBegun.calm :=
  State.calm_with_fmLeft (State.calm_put (State.calm_put (State.calm_put h _ (by decide)) _ (by decide)) _ (by decide)) _

theorem State.get_with_fmLeft (s : State) (x : Option Nat) (f : Fld) : ({ s with fmLeft := x } : State).get f = s.get f := rfl

theorem State.fmBegun_get (s : State) (f : Fld) :
    s.fmBegun.get f = (((s.put F.CLK_FMETER_RESULT_VALID 0).put F.CLK_FMETER_RESULT_DISTURBED 0).put F.CLK_FMETER_CTRL_BUSY 1).get f :=
  State.get_with_fmLeft _ _ f

theorem State.fmBegun_busy (s : State) : s.fmBegun.get F.CLK_FMETER_CTRL_BUSY = 1 := by
  rw [State.fmBegun_get, State.get_put_fits _ (by decide) (by decide)]

theorem State.fmBegun_valid (s : State) : s.fmBegun.get F.CLK_FMETER_RESULT_VALID = 0 := by
  rw [State.fmBegun_get, State.get_put_other _ _ (by decide) (by decide) (by decide), State.get_put_other _ _ (by decide) (by decide) (by decide),
    State.get_put_fits _ (by decide) (by decide)]

theorem State.fmBegun_disturbed (s : State) : s.fmBegun.get F.CLK_FMETER_RESULT_DISTURBED = 0 := by
  rw [State.fmBegun_get, State.get_put_other _ _ (by decide) (by decide) (by decide), State.get_put_fits _ (by decide) (by decide)]

theorem State.fmBegun_window (s : State) : s.fmBegun.get F.CLK_FMETER_CTRL_WINDOW = s.get F.CLK_FMETER_CTRL_WINDOW := by
  simp (disch := decide) only [State.fmBegun_get, State.get_put_other]

theorem State.fmBegun_src (s : State) : s.fmBegun.get F.CLK_FMETER_CTRL_SRC = s.get F.CLK_FMETER_CTRL_SRC := by
  simp (disch := decide) only [State.fmBegun_get, State.get_put_other]

/-- CLK_FMETER_CTRL with WINDOW and SRC of a word written. -/
def State.fmSet (s : State) (v : Word) : State := s.setReg 0x20030 ((s.reg 0x20030 &&& ~~~0xFF1F#64) ||| (v &&& 0xFF1F#64))

theorem State.calm_fmSet {s : State} (h : s.calm) (v : Word) : (s.fmSet v).calm :=
  State.calm_congr h rfl rfl rfl rfl rfl rfl (State.reg_setReg_other _ _ (by decide))

theorem State.fmSet_window (s : State) (v : Word) : (s.fmSet v).get F.CLK_FMETER_CTRL_WINDOW = wbits v 15 8 := by
  rw [State.fmSet, State.get, State.reg_setReg_self, Fld.of_merge_within _ _ (by decide) (by decide)]
  rfl

theorem State.fmSet_src (s : State) (v : Word) : (s.fmSet v).get F.CLK_FMETER_CTRL_SRC = wbits v 4 0 := by
  rw [State.fmSet, State.get, State.reg_setReg_self, Fld.of_merge_within _ _ (by decide) (by decide)]
  rfl

theorem State.fmSet_busy (s : State) (v : Word) : (s.fmSet v).get F.CLK_FMETER_CTRL_BUSY = s.get F.CLK_FMETER_CTRL_BUSY := by
  rw [State.fmSet, State.get, State.reg_setReg_self, Fld.of_merge_outside _ _ (by decide) (by decide)]
  rfl

theorem State.fmSet_get (s : State) (v : Word) {f : Fld} (h : f.off ≠ 0x20030) : (s.fmSet v).get f = s.get f := State.get_setReg_off _ _ h

/-- START takes WINDOW and SRC from the word written and counts over the window (R72). -/
theorem State.completes_fmeterStart {s : State} {o : Origin} {v : Word} (h : s.calm) (hw : s.mayWrite o 0x20030) (hb : s.get F.CLK_FMETER_CTRL_BUSY = 0)
    (hl : s.get F.CLK_STATUS_MGMT_LOCK = 1) (hf : s.flag (fltPend 0x009) = false) :
    s.completes (.fmeterStart o v) fun t =>
      t.get F.CLK_FMETER_CTRL_BUSY = 1 ∧ t.get F.CLK_FMETER_RESULT_VALID = 0 ∧ t.get F.CLK_FMETER_RESULT_DISTURBED = 0 ∧
      t.get F.CLK_FMETER_CTRL_WINDOW = wbits v 15 8 ∧ t.get F.CLK_FMETER_CTRL_SRC = wbits v 4 0 ∧ t.fmLeft = some (max (wbits v 15 8) 1 + 1) := by
  have hi : (s.fmSet v).fmStart = (s.fmSet v).fmBegun :=
    State.fmStart_idle (by rw [State.fmSet_busy, hb]) (by rw [State.fmSet_get _ _ (by decide), hl])
      (by rw [State.flag, State.fmSet_get _ _ (by decide)]; exact hf)
  have hc := State.calm_fmBegun (State.calm_fmSet h v)
  have hx : exec (.fmeterStart o v) s = .next (s.fmSet v).fmBegun.settle := by rw [exec_fmeterStart h hw, ← hi]; rfl
  refine ⟨_, hx, ?_, ?_, ?_, ?_, ?_, ?_⟩
  · rw [State.settle_get _ hc (by decide) (by decide), State.fmBegun_busy]
  · rw [State.settle_get _ hc (by decide) (by decide), State.fmBegun_valid]
  · rw [State.settle_get _ hc (by decide) (by decide), State.fmBegun_disturbed]
  · rw [State.settle_get _ hc (by decide) (by decide), State.fmBegun_window, State.fmSet_window]
  · rw [State.settle_get _ hc (by decide) (by decide), State.fmBegun_src, State.fmSet_src]
  · rw [State.settle_fmLeft _ hc, ← State.fmSet_window s v]
    rfl

/-- Settles O8: the clock outputs' holds and the meter's window on a calm state (R71, R72). -/
theorem clockOutputsAndMeter : Obligations.ClockOutputsAndMeter := by
  unfold Obligations.ClockOutputsAndMeter
  intro s h
  refine ⟨?_, ?_, ?_, ?_⟩
  · intro o n v hn hw hr hh
    have hm : (s.reg (0x20020 + 8 * n) &&& ~~~7#64 ||| v &&& 7#64) &&& 7 = v &&& 7 := by
      rw [BitVec.and_or_distrib_right, BitVec.and_assoc, BitVec.and_assoc]; simp
    exact State.gives_settle (by rw [exec_clkoutConfigWrite h hn hw, State.clkoutSet_changed hr hm hh])
      (State.calm_congr h rfl rfl rfl rfl rfl rfl (State.reg_setReg_other _ _ (by omega)))
  · intro n hn hh
    exact State.gives_settle (by rw [exec_clkoutHoldEnd h hn, State.clkoutGo_held hh]) (State.calm_congr h rfl rfl rfl rfl rfl rfl rfl)
  · intro o v hw hb hl hf
    exact State.completes_fmeterStart h hw hb hl hf
  · intro edges hl hs
    exact State.gives_settle (by rw [exec_fmeterDone h, State.fmDone_over edges hl hs])
      (State.calm_with_fmLeft (State.calm_put (State.calm_put (State.calm_put h _ (by decide)) _ (by decide)) _ (by decide)) _)

end Sys2Proof.Machine
end

section
namespace Sys2Proof.Machine

/-! ### What Degraded and a fault leave (R511, R527) -/

/-- A state that differs from another in its registers alone. -/
def State.regsOnly (s t : State) : Prop := ∃ r, t = { s with regs := r }

theorem State.regsOnly_refl (s : State) : s.regsOnly s := ⟨s.regs, rfl⟩

theorem State.regsOnly_setReg {s t : State} (off : Nat) (w : Word) (h : s.regsOnly t) : s.regsOnly (t.setReg off w) := by
  obtain ⟨r, rfl⟩ := h
  exact ⟨_, rfl⟩

theorem State.regsOnly_put {s t : State} (f : Fld) (n : Nat) (h : s.regsOnly t) : s.regsOnly (t.put f n) := State.regsOnly_setReg _ _ h

/-- Entering Degraded writes registers alone. -/
theorem State.regsOnly_degrade (s : State) : s.regsOnly s.degrade := by
  unfold State.degrade
  dsimp only
  split
  · exact State.regsOnly_put _ _ (State.regsOnly_put _ _ (State.regsOnly_put _ _ (State.regsOnly_put _ _ (State.regsOnly_put _ _ s.regsOnly_refl))))
  · exact s.regsOnly_refl

/-- Of the registers it writes DEV_MODE and the drain timer (R527, R532). -/
theorem State.degrade_reg (s : State) {off : Nat} (h1 : off ≠ 0x10000) (h2 : off ≠ 0x10020) : s.degrade.reg off = s.reg off := by
  unfold State.degrade
  dsimp only
  split
  · rw [State.reg_put_other _ _ _ h2, State.reg_put_other _ _ _ h1, State.reg_put_other _ _ _ h1, State.enter, State.reg_put_other _ _ _ h1,
      State.reg_put_other _ _ _ h1]
  · rfl

/-- Degraded is entered from Bring-up, Operational or Drain, and the mode left is RETURN (R527). -/
theorem State.degrade_mode {s : State} (h : s.mode = 1 ∨ s.mode = 2 ∨ s.mode = 3) : s.degrade.mode = 4 ∧ s.degrade.get F.DEV_MODE_RETURN = s.mode := by
  unfold State.degrade
  rw [if_pos h]
  constructor
  · simp (disch := decide) only [State.mode, State.enter, State.get_put_other, State.get_put_fits]
  · rw [State.get_put_other _ _ (by decide) (by decide) (by decide), State.get_put_other _ _ (by decide) (by decide) (by decide),
      State.get_put_fits _ (by decide)]
    simp; omega

theorem State.degrade_other {s : State} (h : ¬ (s.mode = 1 ∨ s.mode = 2 ∨ s.mode = 3)) : s.degrade = s := if_neg h

theorem State.calm_degrade {s : State} (h : s.calm) : s.degrade.calm := by
  by_cases hm : s.mode = 1 ∨ s.mode = 2 ∨ s.mode = 3
  · have h4 := (State.degrade_mode hm).1
    obtain ⟨h1, h2, h3, h4', h5, h6, h7⟩ := h
    obtain ⟨r, e⟩ := s.regsOnly_degrade
    rw [e] at h4 ⊢
    exact ⟨h1, h2, h3, h4', h5, by omega, h7⟩
  · rw [State.degrade_other hm]
    exact h

/-- A fault whose reaction is its rule's own is its occurrence, after which the device may enter Degraded (R511). -/
theorem State.flt_cases (s : State) {src : Nat} (syn : Word) (hr : (src == 0x041 || src == 0x042 || src == 0x048 || src == 0x049) = false) :
    s.flt src syn = (s.occur src syn false none).1 ∨ s.flt src syn = (s.occur src syn false none).1.degrade := by
  simp only [State.flt, State.fltAt, hr]
  simp only [Bool.not_false, Bool.or_true, if_true]
  split
  · exact .inr rfl
  · exact .inl rfl

/-- An occurrence clears no pending bit (R513). -/
theorem State.pend_occur (s : State) {src : Nat} (syn : Word) (forced : Bool) (port : Option Nat) (hs : src < 512) {j : Nat} (hj : j < 512)
    (hf : s.flag (fltPend j) = true) : (s.occur src syn forced port).1.flag (fltPend j) = true := by
  cases hc : fltClass src with
  | none => simp only [State.occur, hc]; exact hf
  | some c =>
    have ho := fltPend_off j hj
    by_cases he : j = src
    · subst he; exact s.flag_occur syn forced port hs hc
    · have hd : (fltPend j).off ≠ (fltPend src).off ∨ (fltPend j).hi < (fltPend src).lo ∨ (fltPend src).hi < (fltPend j).lo := by
        simp only [fltPend]; omega
      rw [State.flag, State.get, s.reg_occur syn forced port hc (show (fltPend j).off ≠ 0x30000 by omega), ← State.get,
        State.get_put_other _ _ (fltPend_ok src) (fltPend_ok j) hd, State.bump, State.get_put_off _ _ (by simp only; omega)]
      exact hf

/-- Registers that a fault may write: those that follow the state, the collector's, the mode's and the drain timer's. -/
abbrev faultReg (off : Nat) : Prop := following off ∨ (0x30000 ≤ off ∧ off < 0x34000) ∨ off = 0x10000 ∨ off = 0x10020

/-- A state that differs from another in what a fault may change alone. -/
def State.faulted (s t : State) : Prop :=
  (∃ r o h f i d n, t = { s with regs := r, outs := o, hist := h, first := f, fltIrq := i, fltDefer := d, fns := n }) ∧
  (∀ off, ¬ faultReg off → t.reg off = s.reg off) ∧ (∀ j, j < 512 → s.flag (fltPend j) = true → t.flag (fltPend j) = true)

theorem State.faulted_flt (s : State) {src : Nat} (syn : Word) (hs : src < 512)
    (hr : (src == 0x041 || src == 0x042 || src == 0x048 || src == 0x049) = false) : s.faulted (s.flt src syn) := by
  have hn := s.noted_occur src syn false none hs
  have hp : ∀ j, j < 512 → s.flag (fltPend j) = true → (s.occur src syn false none).1.flag (fltPend j) = true :=
    fun j hj hf => s.pend_occur syn false none hs hj hf
  obtain ⟨⟨r, o, hi, f, i, d, n, e⟩, hk⟩ := hn
  rcases s.flt_cases syn hr with h | h
  · rw [h]
    exact ⟨⟨r, o, hi, f, i, d, n, e⟩, fun off hq => hk off (fun h => hq (.inl h)) (by simp only [faultReg] at hq; omega), hp⟩
  · obtain ⟨r', e'⟩ := (s.occur src syn false none).1.regsOnly_degrade
    rw [h]
    refine ⟨⟨r', o, hi, f, i, d, n, by rw [e', e]⟩, fun off hq => ?_, fun j hj hf => ?_⟩
    · rw [State.degrade_reg _ (fun h => hq (.inr (.inr (.inl h)))) (fun h => hq (.inr (.inr (.inr h))))]
      exact hk off (fun h => hq (.inl h)) (by simp only [faultReg] at hq; omega)
    · have ho := fltPend_off j hj
      rw [State.flag, State.get, State.degrade_reg _ (by omega) (by omega)]
      exact hp j hj hf

theorem State.calm_flt {s : State} (h : s.calm) {src : Nat} (syn : Word) (hs : src < 512)
    (hr : (src == 0x041 || src == 0x042 || src == 0x048 || src == 0x049) = false) : (s.flt src syn).calm := by
  have hq := State.calm_noted h (s.noted_occur src syn false none hs)
  rcases s.flt_cases syn hr with e | e
  · rw [e]; exact hq
  · rw [e]; exact State.calm_degrade hq

theorem State.flag_flt (s : State) {src c : Nat} (syn : Word) (hs : src < 512) (hc : fltClass src = some c)
    (hr : (src == 0x041 || src == 0x042 || src == 0x048 || src == 0x049) = false) : (s.flt src syn).flag (fltPend src) = true := by
  have ho := fltPend_off src hs
  have hf := s.flag_occur syn false none hs hc
  rcases s.flt_cases syn hr with e | e
  · rw [e]; exact hf
  · rw [e, State.flag, State.get, State.degrade_reg _ (by omega) (by omega)]
    exact hf

end Sys2Proof.Machine
end

section
namespace Sys2Proof.Machine

/-! ### Lists of changes -/

/-- Changes of a list that each leave `f`'s value leave it together. -/
theorem foldl_keeps {α β γ : Type} {f : α → γ} {k : α → β → α} (hk : ∀ a b, f (k a b) = f a) (l : List β) (a : α) : f (l.foldl k a) = f a := by
  induction l generalizing a with
  | nil => rfl
  | cons b l ih => rw [List.foldl_cons, ih, hk]

theorem State.regsOnly_foldl {β : Type} {k : State → β → State} (hk : ∀ (s : State) b, s.regsOnly (k s b)) (l : List β) (s : State) : s.regsOnly (l.foldl k s) := by
  induction l generalizing s with
  | nil => exact s.regsOnly_refl
  | cons b l ih =>
    obtain ⟨r, e⟩ := hk s b
    obtain ⟨r', e'⟩ := ih (k s b)
    exact ⟨r', by rw [List.foldl_cons, e', e]⟩

/-! ### Training starts (R462) -/

/-- Showing a port's training writes the registers of its lanes alone. -/
theorem State.regsOnly_laneShow (s : State) (p step : Nat) : s.regsOnly (s.laneShow p step) :=
  State.regsOnly_foldl (fun s _ => State.regsOnly_put _ _ (State.regsOnly_put _ _ s.regsOnly_refl)) _ _

theorem State.laneShow_reg (s : State) (p step : Nat) {off : Nat} (h : off < 0x2000000) : (s.laneShow p step).reg off = s.reg off :=
  foldl_keeps (f := fun s : State => s.reg off) (fun s j => by
    dsimp only
    rw [State.reg_put_other _ _ _ (by dsimp only; omega), State.reg_put_other _ _ _ (by dsimp only; omega)]) _ _

/-- A state that differs from another in its registers and in how its ports stand in training alone. -/
def State.retrained (s t : State) : Prop :=
  ∃ r fp tr, t = { s with regs := r, fports := fp, train := tr } ∧ (∀ off, off < 0x2000000 → Tab.lookD regReset r off = s.reg off) ∧
    ∀ p, (fp.look p).oq = (s.fports.look p).oq ∧ (fp.look p).replay = (s.fports.look p).replay

theorem State.retrained_regs {s t : State} (h : s.regsOnly t) (hr : ∀ off, off < 0x2000000 → t.reg off = s.reg off) : s.retrained t := by
  obtain ⟨r, rfl⟩ := h
  exact ⟨r, _, _, rfl, hr, fun _ => ⟨rfl, rfl⟩⟩

theorem State.retrained_trans {s t u : State} (h : s.retrained t) (h' : t.retrained u) : s.retrained u := by
  obtain ⟨r, fp, tr, rfl, hr, hf⟩ := h
  obtain ⟨r', fp', tr', rfl, hr', hf'⟩ := h'
  exact ⟨r', fp', tr', rfl, fun off ho => (hr' off ho).trans (hr off ho), fun p => ⟨(hf' p).1.trans (hf p).1, (hf' p).2.trans (hf p).2⟩⟩

theorem State.retrained_updPort (s : State) (p : Nat) {k : FPort → FPort} (ho : ∀ f, (k f).oq = f.oq) (hr : ∀ f, (k f).replay = f.replay) :
    s.retrained (s.updPort p k) := by
  refine ⟨s.regs, s.fports.upd p k, s.train, rfl, fun _ _ => rfl, fun q => ?_⟩
  rw [Tab.look_upd]
  split
  · next h => subst h; exact ⟨ho _, hr _⟩
  · exact ⟨rfl, rfl⟩

theorem State.retrained_trainAt (s : State) (p step : Nat) : s.retrained (s.trainAt p step) := by
  unfold State.trainAt
  dsimp only
  refine State.retrained_trans (State.retrained_updPort s p ?_ ?_)
    (State.retrained_regs (State.regsOnly_laneShow _ _ _) fun off ho => State.laneShow_reg _ _ _ ho)
  · intro f; split <;> rfl
  · intro f; split <;> rfl

theorem State.retrained_train (s : State) (tr : Tab Train) : s.retrained { s with train := tr } :=
  ⟨s.regs, s.fports, tr, rfl, fun _ _ => rfl, fun _ => ⟨rfl, rfl⟩⟩

theorem State.retrained_trainStart (s : State) (p : Nat) : s.retrained (s.trainStart p) := by
  unfold State.trainStart
  split
  · exact s.retrained_trainAt p 0
  · split
    · exact State.retrained_trans (s.retrained_train _) (State.retrained_trainAt _ p 3)
    · refine State.retrained_trans (State.retrained_regs ?_ ?_) (State.retrained_trainAt _ p 1)
      · exact State.regsOnly_foldl (fun s _ => State.regsOnly_put _ _ (State.regsOnly_setReg _ _ s.regsOnly_refl)) _ _
      · intro off ho
        exact foldl_keeps (f := fun s : State => s.reg off) (fun s j => by
          dsimp only
          rw [State.reg_put_other _ _ _ (by dsimp only; omega), State.ffeShow, State.reg_setReg_other _ _ (by omega)]) _ _

end Sys2Proof.Machine
end

section
namespace Sys2Proof.Machine

/-! ### A link that goes down (R357, R376) -/

/-- The registers of a link that goes down: its state and cause, its counts, its health, and the units it drops. -/
def State.linkCleared (s : State) (p cause : Nat) : State :=
  let t := ((s.put (F.WPR_LINK_STATUS_STATE p) 0).put (F.WPR_LINK_STATUS_DOWN_CAUSE p) cause).bump (F.WPR_LINK_COUNT_B_DOWNS p) 1
  let t := (t.put (F.WPR_LINK_STATUS_FAILED_REPLAYS p) 0).put (F.RTP_STATUS_LINK_UP p) 0
  let t := t.put F.RTC_PORT_HEALTH_HEALTH (t.get F.RTC_PORT_HEALTH_HEALTH &&& (2 ^ 64 - 1 - 2 ^ p))
  t.bump F.RTC_DROP_B_LINK_DOWN (s.fports.look p).oq.length

/-- Its buffers: the units it holds leave them, and nothing of its replay or its bring-up is left. -/
def State.linkEmptied (s : State) (p : Nat) (oq : List RUnit) : State :=
  let t := oq.foldl (fun s u => s.freeHome u) s
  let mine := fun (u : RUnit) => match u.home with | some (q, _) => q == p | none => false
  let t := { t with rin := t.rin.del p, fports := t.fports.mapAll fun (g : FPort) => { g with oq := g.oq.filter (!mine ·) } }
  t.updPort p fun g => { g with
    oq := [], deficit := [], cur := 0, replay := [], replayFrom := none, mark := none, nak := false, nakSent := false, linitTx := false, linitRx := false }

/-- What every link-down does before convoys, groups and time sync react. -/
def State.linkCut (s : State) (p cause : Nat) : State := (s.linkCleared p cause).linkEmptied p (s.fports.look p).oq

theorem State.freeHome_form (s : State) (u : RUnit) : ∃ fp, s.freeHome u = { s with fports := fp } := by
  unfold State.freeHome
  split
  · exact ⟨_, rfl⟩
  · exact ⟨s.fports, rfl⟩

theorem State.freeHomes_form (s : State) (l : List RUnit) : ∃ fp, l.foldl (fun s u => s.freeHome u) s = { s with fports := fp } := by
  induction l generalizing s with
  | nil => exact ⟨s.fports, rfl⟩
  | cons u l ih =>
    obtain ⟨fp, e⟩ := s.freeHome_form u
    obtain ⟨fp', e'⟩ := ih (s.freeHome u)
    exact ⟨fp', by rw [List.foldl_cons, e', e]⟩

theorem State.linkEmptied_form (s : State) (p : Nat) (oq : List RUnit) :
    ∃ fp, s.linkEmptied p oq = { s with rin := s.rin.del p, fports := fp } ∧ (fp.look p).oq = [] ∧ (fp.look p).replay = [] := by
  obtain ⟨fp, e⟩ := s.freeHomes_form oq
  unfold State.linkEmptied
  dsimp only
  rw [e]
  refine ⟨_, rfl, ?_, ?_⟩
  · rw [Tab.look_upd_self]
  · rw [Tab.look_upd_self]

theorem State.regsOnly_linkCleared (s : State) (p cause : Nat) : s.regsOnly (s.linkCleared p cause) :=
  State.regsOnly_put _ _ (State.regsOnly_put _ _ (State.regsOnly_put _ _ (State.regsOnly_put _ _ (State.regsOnly_put _ _
    (State.regsOnly_put _ _ (State.regsOnly_put _ _ s.regsOnly_refl))))))

theorem State.linkCut_form (s : State) (p cause : Nat) :
    ∃ r fp, s.linkCut p cause = { s with regs := r, rin := s.rin.del p, fports := fp } ∧
      (∀ off, Tab.lookD regReset r off = (s.linkCleared p cause).reg off) ∧ (fp.look p).oq = [] ∧ (fp.look p).replay = [] := by
  obtain ⟨r, er⟩ := s.regsOnly_linkCleared p cause
  obtain ⟨fp, ef, ho, hr⟩ := (s.linkCleared p cause).linkEmptied_form p (s.fports.look p).oq
  exact ⟨r, fp, by rw [State.linkCut, ef, er], fun off => by rw [er]; rfl, ho, hr⟩

/-- The registers that a link-down clears: the port's link status and counts, its RTP_STATUS, the health bits and a drop count. -/
theorem State.linkCleared_reg (s : State) (p cause : Nat) {off : Nat} (h : off < 0x700000) : (s.linkCleared p cause).reg off = s.reg off := by
  unfold State.linkCleared
  dsimp only [State.bump]
  rw [State.reg_put_other _ _ _ (by dsimp only; omega), State.reg_put_other _ _ _ (by dsimp only; omega), State.reg_put_other _ _ _ (by dsimp only; omega),
    State.reg_put_other _ _ _ (by dsimp only; omega), State.reg_put_other _ _ _ (by dsimp only; omega), State.reg_put_other _ _ _ (by dsimp only; omega),
    State.reg_put_other _ _ _ (by dsimp only; omega)]

section
variable (s : State) {p cause : Nat} (hp : p < 64)
include hp

theorem State.linkCleared_state : (s.linkCleared p cause).get (F.WPR_LINK_STATUS_STATE p) = 0 := by
  unfold State.linkCleared
  simp (disch := grind) only [State.bump, State.get_put_other]
  simp (disch := grind) only [State.get_put_fits]

theorem State.linkCleared_cause (hc : cause < 16) : (s.linkCleared p cause).get (F.WPR_LINK_STATUS_DOWN_CAUSE p) = cause := by
  unfold State.linkCleared
  simp (disch := grind) only [State.bump, State.get_put_other]
  simp (disch := grind) only [State.get_put_fits]

theorem State.linkCleared_up : (s.linkCleared p cause).get (F.RTP_STATUS_LINK_UP p) = 0 := by
  unfold State.linkCleared
  simp (disch := grind) only [State.bump, State.get_put_other]
  simp (disch := grind) only [State.get_put_fits]

theorem State.linkCleared_health : ((s.linkCleared p cause).get F.RTC_PORT_HEALTH_HEALTH).testBit p = false := by
  unfold State.linkCleared
  dsimp only [State.bump]
  rw [State.get_put_off _ _ (by decide), State.get_put_self _ _ _ (by decide), Nat.testBit_mod_two_pow, Nat.testBit_and]
  have : 2 ^ 64 - 1 - 2 ^ p = 2 ^ 64 - (2 ^ p + 1) := by omega
  rw [this, Nat.testBit_two_pow_sub_succ (Nat.pow_lt_pow_right (by decide) hp), Nat.testBit_two_pow_self]
  simp

end

end Sys2Proof.Machine
end

section
namespace Sys2Proof.Machine

theorem Tab.keysOf_nil {α : Type} (p : α → Bool) : Tab.keysOf ([] : Tab α) p = [] := rfl

theorem State.cvyBreakAll_nil {s : State} (h : s.cvys = []) (p : Cvy → Bool) (cause : Nat) : s.cvyBreakAll p cause = s := by
  rw [State.cvyBreakAll, h]
  rfl

theorem State.grpPortDown_nil {s : State} (h : s.grps = []) (p : Nat) : s.grpPortDown p = s := by
  rw [State.grpPortDown, h]
  rfl

/-- A state with another record of the exchanges with the parent. -/
def State.withSync (s : State) (x : SyncSt) : State := { s with sync := x }

@[simp] theorem State.withSync_reg (s : State) (x : SyncSt) (off : Nat) : (s.withSync x).reg off = s.reg off := rfl
@[simp] theorem State.withSync_grps (s : State) (x : SyncSt) : (s.withSync x).grps = s.grps := rfl
@[simp] theorem State.withSync_cvys (s : State) (x : SyncSt) : (s.withSync x).cvys = s.cvys := rfl

theorem State.calm_withSync {s : State} (h : s.calm) (x : SyncSt) : (s.withSync x).calm := State.calm_congr h rfl rfl rfl rfl rfl rfl rfl

/-- LOST: what the state machine of time sync records of it (R56). -/
def State.syncGone (s : State) : State :=
  let t := s.put F.STG_SYNC_STATUS_STATE 3
  t.withSync { t.sync with good := 0, badOff := 0, badCode := 0, missed := 0 }

theorem State.calm_syncGone {s : State} (h : s.calm) : s.syncGone.calm := State.calm_withSync (State.calm_put h _ (by decide)) _

/-- Losing sync with no convoy on the device (R56). -/
theorem State.syncLose_alone {s : State} (h : s.locked = true) (hv : s.cvys = []) : ∃ syn, s.syncLose = s.syncGone.flt 0x003 syn := by
  have e : s.syncLose = (let u := s.syncGone.cvyBreakAll (fun c => c.st == 1 || c.st == 2 || c.st == 3) 2
      u.flt 0x003 (packW [(0, u.get F.STG_SYNC_CTRL_PARENT_PORT)])) := by
    unfold State.syncLose
    rw [if_neg (by simp [h])]
    rfl
  rw [e, State.cvyBreakAll_nil (s := s.syncGone) (by rw [State.syncGone, State.withSync_cvys, State.put_cvys, hv])]
  exact ⟨_, rfl⟩

theorem State.syncLose_unlocked {s : State} (h : s.locked = false) : s.syncLose = s := by
  unfold State.syncLose
  rw [if_pos (by simp [h])]

theorem State.linkCut_grps (s : State) (p cause : Nat) : (s.linkCut p cause).grps = s.grps := by
  obtain ⟨r, fp, e, -⟩ := s.linkCut_form p cause
  rw [e]

theorem State.linkCut_cvys (s : State) (p cause : Nat) : (s.linkCut p cause).cvys = s.cvys := by
  obtain ⟨r, fp, e, -⟩ := s.linkCut_form p cause
  rw [e]

theorem State.calm_linkCut {s : State} (h : s.calm) (p cause : Nat) : (s.linkCut p cause).calm := by
  obtain ⟨r, fp, e, hr, -⟩ := s.linkCut_form p cause
  rw [e]
  exact State.calm_congr h rfl rfl rfl rfl rfl rfl ((hr _).trans (State.linkCleared_reg _ _ _ (by decide)))

theorem State.linkCut_reg (s : State) (p cause off : Nat) : (s.linkCut p cause).reg off = (s.linkCleared p cause).reg off := by
  obtain ⟨r, fp, e, hr, -⟩ := s.linkCut_form p cause
  rw [e]
  exact hr off

theorem State.faulted_grps {s t : State} (h : s.faulted t) : t.grps = s.grps := by
  obtain ⟨⟨r, o, hi, f, i, d, n, rfl⟩, -⟩ := h
  rfl

/-- What time sync makes of a link that has been cut: LOST where the device follows the port's peer (R56). -/
def State.syncCut (s : State) (p cause : Nat) : State :=
  if s.flag (F.RTP_STATUS_LINK_UP p) && (s.linkCut p cause).parentIs p then (s.linkCut p cause).syncLose else s.linkCut p cause

theorem State.syncLose_grps {s : State} (hv : s.cvys = []) : s.syncLose.grps = s.grps := by
  cases hl : s.locked with
  | false => rw [State.syncLose_unlocked hl]
  | true =>
    obtain ⟨syn, e⟩ := State.syncLose_alone hl hv
    rw [e, State.faulted_grps (State.faulted_flt _ syn (by decide) rfl), State.syncGone, State.withSync_grps, State.put_grps]

theorem State.syncCut_grps {s : State} (hv : s.cvys = []) (p cause : Nat) : (s.syncCut p cause).grps = s.grps := by
  unfold State.syncCut
  split
  · rw [State.syncLose_grps (by rw [State.linkCut_cvys, hv]), State.linkCut_grps]
  · exact s.linkCut_grps p cause

/-- With no group and no convoy on the device, time sync alone reacts to a link-down, and the port trains again (R56, R357, R462). -/
theorem State.linkDown_alone {s : State} {p : Nat} (cause : Nat) (h : s.get (F.WPR_LINK_STATUS_STATE p) ≠ 0) (hg : s.grps = []) (hv : s.cvys = []) :
    s.linkDown p cause = ((s.syncCut p cause).flt 0x0C5 (packW [(0, p), (8, cause)])).trainStart p := by
  have hb : ∀ k, (s.linkCut p cause).cvyBreakAll k 1 = s.linkCut p cause := fun k => State.cvyBreakAll_nil (by rw [State.linkCut_cvys, hv]) k 1
  have hn : (s.syncCut p cause).grpPortDown p = s.syncCut p cause := State.grpPortDown_nil (by rw [State.syncCut_grps hv, hg]) p
  have hf : ((s.syncCut p cause).flt 0x0C5 (packW [(0, p), (8, cause)])).grps = [] := by
    rw [State.faulted_grps (State.faulted_flt _ _ (by decide) rfl), State.syncCut_grps hv, hg]
  have e : s.linkDown p cause =
      (let u := (s.linkCut p cause).cvyBreakAll (fun c => c.onPort p && (c.st == 1 || c.st == 2 || c.st == 3)) 1
       let u := if s.flag (F.RTP_STATUS_LINK_UP p) && u.parentIs p then u.syncLose else u
       let u := (u.grpPortDown p).flt 0x0C5 (packW [(0, p), (8, cause)])
       ((u.grps.keysOf (·.destroyOp.isSome)).foldl (fun s g => s.grpFree g) u).trainStart p) := by
    unfold State.linkDown
    rw [if_neg h]
    rfl
  rw [e]
  simp only [hb]
  change (let u := ((s.syncCut p cause).grpPortDown p).flt 0x0C5 (packW [(0, p), (8, cause)])
    ((u.grps.keysOf (·.destroyOp.isSome)).foldl (fun s g => s.grpFree g) u).trainStart p) = _
  simp only [hn, hf, Tab.keysOf_nil, List.foldl_nil]

end Sys2Proof.Machine
end

section
namespace Sys2Proof.Machine

/-! ### What a link-down shows -/

/-- A link is down, as its registers and buffers show it (R357, R376). -/
def State.linkIsDown (t : State) (p cause : Nat) : Prop :=
  t.get (F.WPR_LINK_STATUS_STATE p) = 0 ∧ t.get (F.WPR_LINK_STATUS_DOWN_CAUSE p) = cause ∧ t.get (F.RTP_STATUS_LINK_UP p) = 0 ∧
  (t.get F.RTC_PORT_HEALTH_HEALTH).testBit p = false ∧ (t.fports.look p).oq = [] ∧ (t.fports.look p).replay = []

/-- The same of a state whose registers of the link layer and whose buffers of the port stand alike. -/
theorem State.linkIsDown_congr {s t : State} {p cause : Nat} (hp : p < 64) (h : s.linkIsDown p cause)
    (hr : ∀ off, 0x700000 ≤ off → off < 0x2000000 → t.reg off = s.reg off) (ho : (t.fports.look p).oq = (s.fports.look p).oq)
    (hb : (t.fports.look p).replay = (s.fports.look p).replay) : t.linkIsDown p cause := by
  have hg : ∀ f : Fld, 0x700000 ≤ f.off → f.off < 0x2000000 → t.get f = s.get f := fun f h1 h2 => by rw [State.get, State.get, hr _ h1 h2]
  obtain ⟨h1, h2, h3, h4, h5, h6⟩ := h
  refine ⟨?_, ?_, ?_, ?_, ho.trans h5, hb.trans h6⟩
  · rw [hg _ (by grind) (by grind), h1]
  · rw [hg _ (by grind) (by grind), h2]
  · rw [hg _ (by grind) (by grind), h3]
  · rw [hg _ (by decide) (by decide), h4]

theorem State.linkIsDown_linkCut (s : State) {p cause : Nat} (hp : p < 64) (hc : cause < 16) : (s.linkCut p cause).linkIsDown p cause := by
  have hg : ∀ f, (s.linkCut p cause).get f = (s.linkCleared p cause).get f := fun f => by rw [State.get, State.get, State.linkCut_reg]
  obtain ⟨r, fp, e, -, ho, hb⟩ := s.linkCut_form p cause
  refine ⟨?_, ?_, ?_, ?_, ?_, ?_⟩
  · rw [hg, State.linkCleared_state s hp]
  · rw [hg, State.linkCleared_cause s hp hc]
  · rw [hg, State.linkCleared_up s hp]
  · rw [hg, State.linkCleared_health s hp]
  · rw [e]; exact ho
  · rw [e]; exact hb

theorem State.linkIsDown_flt {s : State} {p cause src : Nat} (hp : p < 64) (h : s.linkIsDown p cause) (syn : Word) (hs : src < 512)
    (hr : (src == 0x041 || src == 0x042 || src == 0x048 || src == 0x049) = false) : (s.flt src syn).linkIsDown p cause := by
  obtain ⟨⟨r, o, hi, f, i, d, n, e⟩, hk, -⟩ := State.faulted_flt s syn hs hr
  refine State.linkIsDown_congr hp h (fun off h1 h2 => hk off (by simp only [faultReg, following]; omega)) ?_ ?_
  · rw [e]
  · rw [e]

theorem State.withSync_fports (s : State) (x : SyncSt) : (s.withSync x).fports = s.fports := rfl

theorem State.linkIsDown_syncLose {s : State} {p cause : Nat} (hp : p < 64) (hv : s.cvys = []) (h : s.linkIsDown p cause) : s.syncLose.linkIsDown p cause := by
  cases hl : s.locked with
  | false => rw [State.syncLose_unlocked hl]; exact h
  | true =>
    obtain ⟨syn, e⟩ := State.syncLose_alone hl hv
    rw [e]
    refine State.linkIsDown_flt hp (State.linkIsDown_congr hp h (fun off h1 _ => ?_) ?_ ?_) syn (by decide) rfl
    · rw [State.syncGone, State.withSync_reg, State.reg_put_other _ _ _ (by dsimp only; omega)]
    · rw [State.syncGone, State.withSync_fports, State.put_fports]
    · rw [State.syncGone, State.withSync_fports, State.put_fports]

theorem State.linkIsDown_retrained {s t : State} {p cause : Nat} (hp : p < 64) (h : s.linkIsDown p cause) (ht : s.retrained t) : t.linkIsDown p cause := by
  obtain ⟨r, fp, tr, rfl, hr, hf⟩ := ht
  exact State.linkIsDown_congr hp h (fun off _ h2 => hr off h2) (hf p).1 (hf p).2

theorem State.retrained_reg {s t : State} (ht : s.retrained t) {off : Nat} (h : off < 0x2000000) : t.reg off = s.reg off := by
  obtain ⟨r, fp, tr, rfl, hr, -⟩ := ht
  exact hr off h

theorem State.calm_retrained {s t : State} (h : s.calm) (ht : s.retrained t) : t.calm := by
  obtain ⟨r, fp, tr, rfl, hr, -⟩ := ht
  exact State.calm_congr h rfl rfl rfl rfl rfl rfl (hr _ (by decide))

theorem State.flag_retrained {s t : State} {j : Nat} (hj : j < 512) (ht : s.retrained t) : t.flag (fltPend j) = s.flag (fltPend j) := by
  have ho := fltPend_off j hj
  obtain ⟨r, fp, tr, rfl, hr, -⟩ := ht
  have h := hr (fltPend j).off (by omega)
  exact congrArg (fun w => (fltPend j).of w != 0) h

theorem State.flag_settle {s : State} (h : s.calm) {j : Nat} (hj : j < 512) : s.settle.flag (fltPend j) = s.flag (fltPend j) := by
  have ho := fltPend_off j hj
  rw [State.flag, State.flag, State.settle_get _ h (by omega) (by omega)]

theorem State.calm_syncLose {s : State} (h : s.calm) (hv : s.cvys = []) : s.syncLose.calm := by
  cases hl : s.locked with
  | false => rw [State.syncLose_unlocked hl]; exact h
  | true =>
    obtain ⟨syn, e⟩ := State.syncLose_alone hl hv
    rw [e]
    exact State.calm_flt (State.calm_syncGone h) syn (by decide) rfl

section
variable {s : State} (h : s.calm) (hv : s.cvys = []) (p cause : Nat)
include h hv

theorem State.calm_syncCut : (s.syncCut p cause).calm := by
  unfold State.syncCut
  split
  · exact State.calm_syncLose (State.calm_linkCut h p cause) (by rw [State.linkCut_cvys, hv])
  · exact State.calm_linkCut h p cause

omit h in
theorem State.linkIsDown_syncCut (hp : p < 64) (hc : cause < 16) : (s.syncCut p cause).linkIsDown p cause := by
  unfold State.syncCut
  split
  · exact State.linkIsDown_syncLose hp (by rw [State.linkCut_cvys, hv]) (s.linkIsDown_linkCut hp hc)
  · exact s.linkIsDown_linkCut hp hc

end

section
variable {s : State} {p : Nat} (cause : Nat) (h : s.calm) (hs : s.get (F.WPR_LINK_STATUS_STATE p) ≠ 0) (hg : s.grps = []) (hv : s.cvys = [])
include h hs hg hv

theorem State.calm_linkDown : (s.linkDown p cause).calm := by
  rw [State.linkDown_alone cause hs hg hv]
  exact State.calm_retrained (State.calm_flt (State.calm_syncCut h hv p cause) _ (by decide) rfl) (State.retrained_trainStart _ p)

/-- A link that goes down shows it once the command has ended, with its source (R357). -/
theorem State.linkDown_shows (hp : p < 64) (hc : cause < 16) :
    (s.linkDown p cause).settle.linkIsDown p cause ∧ (s.linkDown p cause).settle.flag (fltPend 0x0C5) = true := by
  have hq := State.calm_linkDown cause h hs hg hv
  have ht := State.retrained_trainStart ((s.syncCut p cause).flt 0x0C5 (packW [(0, p), (8, cause)])) p
  rw [State.flag_settle hq (by decide)]
  constructor
  · refine State.linkIsDown_congr (s := s.linkDown p cause) hp ?_ (fun off h1 _ => State.settle_reg _ hq (by omega) (by omega)) (by rw [State.settle_fports _ hq])
      (by rw [State.settle_fports _ hq])
    rw [State.linkDown_alone cause hs hg hv]
    exact State.linkIsDown_retrained hp (State.linkIsDown_flt hp (State.linkIsDown_syncCut hv p cause hp hc) _ (by decide) rfl) ht
  · rw [State.linkDown_alone cause hs hg hv, State.flag_retrained (by decide) ht]
    exact State.flag_flt _ _ (by decide) rfl rfl

/-- A link whose port has the parent takes a device in sync to LOST (R56). -/
theorem State.linkDown_lost (hu : s.flag (F.RTP_STATUS_LINK_UP p) = true) (hp : s.parentIs p = true) (hl : s.locked = true) :
    (s.linkDown p cause).settle.get F.STG_SYNC_STATUS_STATE = 3 ∧ (s.linkDown p cause).settle.flag (fltPend 0x003) = true := by
  have hq := State.calm_linkDown cause h hs hg hv
  have hr : ∀ off, off < 0x700000 → (s.linkCut p cause).reg off = s.reg off :=
    fun off ho => (s.linkCut_reg p cause off).trans (s.linkCleared_reg p cause ho)
  have hgt : ∀ f : Fld, f.off < 0x700000 → (s.linkCut p cause).get f = s.get f := fun f ho => by rw [State.get, State.get, hr _ ho]
  have hp' : (s.linkCut p cause).parentIs p = true := by
    rw [← hp]
    simp only [State.parentIs, State.flag, hgt _ (show F.STG_SYNC_CTRL_GM.off < 0x700000 by decide),
      hgt _ (show F.STG_SYNC_CTRL_PARENT_EN.off < 0x700000 by decide), hgt _ (show F.STG_SYNC_CTRL_PARENT_PORT.off < 0x700000 by decide)]
  have hl' : (s.linkCut p cause).locked = true := by
    rw [← hl, State.locked, State.locked, hgt _ (by decide)]
  obtain ⟨syn, e⟩ := State.syncLose_alone hl' (by rw [State.linkCut_cvys, hv])
  have hcut : s.syncCut p cause = (s.linkCut p cause).syncGone.flt 0x003 syn := by rw [State.syncCut, hu, hp', ← e]; rfl
  have h3 : (s.linkCut p cause).syncGone.get F.STG_SYNC_STATUS_STATE = 3 := by
    rw [State.syncGone, State.get, State.withSync_reg]
    exact State.get_put_fits _ (by decide) (by decide)
  obtain ⟨-, hf1, -⟩ := State.faulted_flt (s.linkCut p cause).syncGone (src := 0x003) syn (by decide) rfl
  obtain ⟨-, hf2, hf3⟩ := State.faulted_flt (s.syncCut p cause) (src := 0x0C5) (packW [(0, p), (8, cause)]) (by decide) rfl
  have ht := State.retrained_trainStart ((s.syncCut p cause).flt 0x0C5 (packW [(0, p), (8, cause)])) p
  rw [State.flag_settle hq (by decide), State.settle_get _ hq (by decide) (by decide), State.linkDown_alone cause hs hg hv]
  constructor
  · rw [State.get, State.retrained_reg ht (by decide), hf2 _ (by decide), hcut, hf1 _ (by decide)]
    exact h3
  · rw [State.flag_retrained (by decide) ht]
    refine hf3 _ (by decide) ?_
    rw [hcut]
    exact State.flag_flt _ _ (by decide) rfl rfl

end

end Sys2Proof.Machine
end

section
namespace Sys2Proof.Machine

/-! ### States that differ in gatherer values -/

/-- The states differ in what the gatherer counted alone (R496). -/
def State.counted (s t : State) : Prop := ∃ r, t = { s with regs := r } ∧ ∀ off, off < 0x52000 ∨ 0x52800 ≤ off → Tab.lookD regReset r off = s.reg off

theorem State.counted_get {s t : State} (h : s.counted t) {f : Fld} (hf : f.off < 0x52000 ∨ 0x52800 ≤ f.off) : t.get f = s.get f := by
  obtain ⟨r, rfl, hr⟩ := h
  exact congrArg f.of (hr _ hf)

theorem State.counted_updPort {s t : State} (h : s.counted t) (p : Nat) (k : FPort → FPort) : (s.updPort p k).counted (t.updPort p k) := by
  obtain ⟨r, rfl, hr⟩ := h
  exact ⟨r, rfl, hr⟩

/-- A state with other units at the router's inputs. -/
def State.withRin (s : State) (x : Tab (List RUnit)) : State := { s with rin := x }

theorem State.counted_withRin {s t : State} (h : s.counted t) (x : Tab (List RUnit)) : (s.withRin x).counted (t.withRin x) := by
  obtain ⟨r, rfl, hr⟩ := h
  exact ⟨r, rfl, hr⟩

theorem State.counted_rin {s t : State} (h : s.counted t) : t.rin = s.rin := by
  obtain ⟨r, rfl, -⟩ := h
  rfl

/-- A command whose meaning is a calm state, but for what was counted, gives that state. -/
theorem State.gives_counted {s u v : State} {c : Instr} (h : u.counted v) (hc : u.calm) (he : exec c s = .next v.settle) : s.gives c u := by
  obtain ⟨r, rfl, hr⟩ := h
  have hv : ({ u with regs := r } : State).calm := State.calm_congr hc rfl rfl rfl rfl rfl rfl (hr _ (by decide))
  exact ⟨_, he, State.upTo_congr (State.upTo_settle _ hv) rfl rfl fun off hf => (hr off (by simp only [following] at hf; omega)).symm⟩

/-- Two changes of a record that agree on it are one. -/
theorem Tab.upd_congr {α : Type} [DecidableEq α] [Inhabited α] (t : Tab α) {k : Nat} {f g : α → α} (h : f (t.look k) = g (t.look k)) : t.upd k f = t.upd k g := by
  rw [Tab.upd, h, Tab.upd]

theorem State.updPort_congr (s : State) {p : Nat} {f g : FPort → FPort} (h : f (s.fports.look p) = g (s.fports.look p)) : s.updPort p f = s.updPort p g := by
  rw [State.updPort, Tab.upd_congr _ h, State.updPort]

theorem State.calm_updPort {s : State} (h : s.calm) (p : Nat) (k : FPort → FPort) : (s.updPort p k).calm := State.calm_congr h rfl rfl rfl rfl rfl rfl rfl

theorem State.calm_portAdd {s : State} (h : s.calm) (p i n : Nat) : (s.portAdd p i n).calm := State.calm_congr h rfl rfl rfl rfl rfl rfl rfl

theorem State.calm_bump {s : State} (h : s.calm) (f : Fld) (n : Nat) (hf : 0x10000 ≠ f.off) : (s.bump f n).calm := State.calm_put h _ hf

@[simp] theorem State.reg_updPort (s : State) (p : Nat) (k : FPort → FPort) (off : Nat) : (s.updPort p k).reg off = s.reg off := rfl
@[simp] theorem State.reg_portAdd (s : State) (p i n off : Nat) : (s.portAdd p i n).reg off = s.reg off := rfl
@[simp] theorem State.get_updPort (s : State) (p : Nat) (k : FPort → FPort) (f : Fld) : (s.updPort p k).get f = s.get f := rfl
@[simp] theorem State.get_portAdd (s : State) (p i n : Nat) (f : Fld) : (s.portAdd p i n).get f = s.get f := rfl

theorem State.updPort_setReg (s : State) (off : Nat) (w : Word) (p : Nat) (k : FPort → FPort) : (s.setReg off w).updPort p k = (s.updPort p k).setReg off w := rfl

theorem State.portAdd_setReg (s : State) (off : Nat) (w : Word) (p i n : Nat) : (s.setReg off w).portAdd p i n = (s.portAdd p i n).setReg off w := rfl

theorem State.withRin_setReg (s : State) (off : Nat) (w : Word) (x : Tab (List RUnit)) : (s.setReg off w).withRin x = (s.withRin x).setReg off w := rfl

theorem State.withRin_reg (s : State) (x : Tab (List RUnit)) (off : Nat) : (s.withRin x).reg off = s.reg off := rfl

/-- Changes of a port, its counts and the router's inputs may be made before a field is set. -/
theorem State.updPort_put (s : State) (f : Fld) (n p : Nat) (k : FPort → FPort) : (s.put f n).updPort p k = (s.updPort p k).put f n := by
  rw [State.put, State.put, State.reg_updPort, State.updPort_setReg]

theorem State.portAdd_put (s : State) (f : Fld) (n p i m : Nat) : (s.put f n).portAdd p i m = (s.portAdd p i m).put f n := by
  rw [State.put, State.put, State.reg_portAdd, State.portAdd_setReg]

theorem State.withRin_put (s : State) (f : Fld) (n : Nat) (x : Tab (List RUnit)) : (s.put f n).withRin x = (s.withRin x).put f n := by
  rw [State.put, State.put, State.withRin_reg, State.withRin_setReg]

theorem State.updPort_bump (s : State) (f : Fld) (n p : Nat) (k : FPort → FPort) : (s.bump f n).updPort p k = (s.updPort p k).bump f n := by
  rw [State.bump, State.bump, State.updPort_put, State.get_updPort]

theorem State.portAdd_bump (s : State) (f : Fld) (n p i m : Nat) : (s.bump f n).portAdd p i m = (s.portAdd p i m).bump f n := by
  rw [State.bump, State.bump, State.portAdd_put, State.get_portAdd]

theorem State.updPort_portAdd (s : State) (p i m q : Nat) (k : FPort → FPort) : (s.portAdd p i m).updPort q k = (s.updPort q k).portAdd p i m := rfl

/-! ### Units (R374) -/

/-- A port whose next unit has come has nothing to ask for again. -/
def FPort.unasked (f : FPort) : FPort := { f with nak := false, nakSent := false }

/-- The port has taken a unit: the next sequence number, its flits counted, nothing to ask for again. -/
def State.unitTaken (s : State) (p seq flits : Nat) : State :=
  ((s.updPort p FPort.unasked).portAdd p 1 flits).put (F.WPR_LINK_STATUS_RX_NEXT p) ((seq + 1) % 4096)

theorem State.unitTaken_get (s : State) {p : Nat} (seq flits : Nat) {f : Fld} (h : f.off < 0x701000) : (s.unitTaken p seq flits).get f = s.get f := by
  rw [State.unitTaken, State.get_put_off _ _ (by dsimp only; omega), State.get_portAdd, State.get_updPort]

theorem State.unitTaken_rin (s : State) (p seq flits : Nat) : (s.unitTaken p seq flits).rin = s.rin := by
  rw [State.unitTaken, State.put_rin]
  rfl

theorem State.calm_unitTaken {s : State} (h : s.calm) (p seq flits : Nat) : (s.unitTaken p seq flits).calm :=
  State.calm_put (State.calm_portAdd (State.calm_updPort h p _) p 1 flits) _ (by dsimp only; omega)

theorem State.calm_withRin {s : State} (h : s.calm) (x : Tab (List RUnit)) : (s.withRin x).calm := State.calm_rin h x

/-- An intact unit in sequence enters the input buffer. -/
theorem State.unitRx_next {s : State} {p : Nat} {u : LinkUnit} (ho : s.linkOpen p = true) (hn : u.lseq = s.get (F.WPR_LINK_STATUS_RX_NEXT p))
    (ha : s.age (unitBirth u.body) ≤ s.lifetime) :
    ((s.unitTaken p u.lseq u.flits).withRin (s.rin.upd p fun l => l ++ [(⟨u.vc / 5, u.vc % 5, false, some (p, u.vc), s.tick, u.body⟩ : RUnit)])).counted
      (s.unitRx p u true) := by
  have hc := State.count_form (s.unitTaken p u.lseq u.flits) (0x0808 + u.vc / 5) p u.flits (some (unitDom u.body))
  have hg : ∀ f : Fld, f.off < 0x52000 ∨ 0x52800 ≤ f.off → f.off < 0x701000 →
      ((s.unitTaken p u.lseq u.flits).count (0x0808 + u.vc / 5) p u.flits (some (unitDom u.body))).get f = s.get f :=
    fun f hf hm => (State.counted_get hc hf).trans (s.unitTaken_get _ _ hm)
  have hrin := State.counted_rin hc
  have e : s.unitRx p u true =
      (let t := (s.unitTaken p u.lseq u.flits).count (0x0808 + u.vc / 5) p u.flits (some (unitDom u.body))
       let r : RUnit := ⟨u.vc / 5, u.vc % 5, false, some (p, u.vc), t.tick, u.body⟩
       if t.age (unitBirth u.body) > t.lifetime then (t.bump F.WPR_E2E_COUNT_B_LIFETIME_DROPS 1).freeHome r
       else t.withRin (t.rin.upd p fun l => l ++ [r])) := by
    unfold State.unitRx
    dsimp only
    rw [if_neg (by simp [ho]), if_neg (by decide), State.get_portAdd, if_neg (by simp [hn]), ← hn, State.updPort_put, State.updPort_portAdd]
    rfl
  rw [e]
  generalize (s.unitTaken p u.lseq u.flits).count (0x0808 + u.vc / 5) p u.flits (some (unitDom u.body)) = t at *
  have hnow : t.now = s.now := hg _ (by decide) (by decide)
  have htick : t.tick = s.tick := by rw [State.tick, State.tick, hnow, State.frac, State.frac, hg _ (by decide) (by decide)]
  have hage : t.age (unitBirth u.body) = s.age (unitBirth u.body) := by rw [State.age, State.age, hnow]
  have hlife : t.lifetime = s.lifetime := by rw [State.lifetime, State.lifetime, State.atLeast, State.atLeast, hg _ (by decide) (by decide)]
  dsimp only
  rw [htick, hage, hlife, if_neg (by omega), hrin, State.unitTaken_rin]
  exact State.counted_withRin hc _

/-- A unit out of sequence is discarded, and asks for a replay once per gap. -/
theorem State.unitRx_outOfSeq {s : State} {p : Nat} {u : LinkUnit} (ho : s.linkOpen p = true) (hn : u.lseq ≠ s.get (F.WPR_LINK_STATUS_RX_NEXT p))
    (hk : (s.fports.look p).nakSent = false) :
    s.unitRx p u true =
      ((s.updPort p fun f => { f with nak := true, nakSent := false }).portAdd p 1 u.flits).bump (F.WPR_LINK_COUNT_B_OUT_OF_SEQ p) 1 := by
  unfold State.unitRx
  dsimp only
  rw [if_neg (by simp [ho]), if_neg (by decide), State.get_portAdd, if_pos hn, State.unitNak, State.updPort_bump, State.updPort_portAdd,
    State.updPort_congr s (g := fun f => { f with nak := true, nakSent := false })]
  simp [hk]

/-! ### Link control (R375, R378) -/

/-- A control flit of a link without a replay frees the units it acknowledges. -/
theorem State.lcfRx_acks {s : State} {p i : Nat} {l : Lcf} (hk : l.ok = true) (hn : l.nak = false) (hs : s.get (F.WPR_LINK_STATUS_STATE p) = 2)
    (hm : (s.fports.look p).mark = none) (hr : (s.fports.look p).replayFrom = none)
    (hi : ((s.fports.look p).replay.findIdx? fun u => u.lseq == l.lack) = some i) :
    s.lcfRx p l = s.updPort p fun g => { g with replay := g.replay.drop (i + 1), peerFreed := l.freed.take 25 } := by
  unfold State.lcfRx
  dsimp only
  rw [if_neg (by simp [hk, hs]), hi, hm, hn]
  dsimp only
  rw [if_neg Bool.false_ne_true, if_neg Bool.false_ne_true]
  refine State.updPort_congr _ ?_
  simp [hm, hr]

/-- A replay starts at the oldest unit that is not acknowledged. -/
theorem State.replayDue_starts {s : State} {p : Nat} {u : LinkUnit} {us : List LinkUnit} (hu : (s.fports.look p).replay = u :: us)
    (hm : (s.fports.look p).mark = none) (hs : s.get (F.WPR_LINK_STATUS_STATE p) = 2) (hf : s.get (F.WPR_LINK_STATUS_FAILED_REPLAYS p) < 8) :
    ((((s.updPort p fun g => { g with replayFrom := some 0, mark := some u.lseq }).portAdd p 2 1).put (F.WPR_LINK_STATUS_FAILED_REPLAYS p)
      (s.get (F.WPR_LINK_STATUS_FAILED_REPLAYS p))).bump (F.WPR_LINK_COUNT_REPLAYS p) 1).counted (s.replayDue p) := by
  have e : s.replayDue p =
      (((((s.put (F.WPR_LINK_STATUS_FAILED_REPLAYS p) (s.get (F.WPR_LINK_STATUS_FAILED_REPLAYS p))).bump (F.WPR_LINK_COUNT_REPLAYS p) 1).portAdd p 2 1).count
        0x0903 p 1 none).updPort p fun g => { g with replayFrom := some 0, mark := some u.lseq }) := by
    unfold State.replayDue
    rw [if_pos (by simp [hs, hu])]
    unfold State.replayStart
    dsimp only
    rw [hm, hu]
    rw [show b2n (none : Option Nat).isSome = 0 from rfl, Nat.add_zero, if_neg (by omega)]
  rw [e, ← State.portAdd_put, ← State.portAdd_bump, ← State.updPort_put, ← State.updPort_bump, ← State.updPort_portAdd]
  exact State.counted_updPort (State.count_form _ _ _ _ _) p _

/-- The eighth replay that fails takes the link down. -/
theorem State.replayDue_fails {s : State} {p m : Nat} (hu : (s.fports.look p).replay ≠ []) (hm : (s.fports.look p).mark = some m)
    (hs : s.get (F.WPR_LINK_STATUS_STATE p) = 2) (hf : s.get (F.WPR_LINK_STATUS_FAILED_REPLAYS p) = 7) :
    s.replayDue p = (s.put (F.WPR_LINK_STATUS_FAILED_REPLAYS p) 8).linkDown p 1 := by
  unfold State.replayDue
  rw [if_pos (by simp [hs, hu])]
  unfold State.replayStart
  dsimp only
  rw [hm, hf]
  exact if_pos (Nat.le_refl 8)

/-- The link's own control flit: what it has received, whether it asks for a replay, and the flits freed (R378). -/
theorem State.lcfTx_open {s : State} {p : Nat} (ho : s.linkOpen p = true) :
    s.lcfTx p = ((s.updPort p fun g => { g with nak := false, nakSent := g.nakSent || g.nak }).portAdd p 0 1).out
      (.lcf p ⟨(s.get (F.WPR_LINK_STATUS_RX_NEXT p) + 4095) % 4096, (s.fports.look p).nak,
        (List.range 32).map fun v => if v < 25 then vcAt (s.fports.look p).freed v else 0, true⟩) := by
  unfold State.lcfTx
  exact if_neg (by simp [ho])

end Sys2Proof.Machine
end

section
namespace Sys2Proof.Machine

/-! ### Bring-up of a link (R377) -/

theorem State.linkUpCheck_waits {s : State} {p : Nat} (h : ((s.fports.look p).linitTx && (s.fports.look p).linitRx) = false) : s.linkUpCheck p = s := by
  unfold State.linkUpCheck
  dsimp only
  rw [h]
  exact if_neg Bool.false_ne_true

/-- A LINIT has gone out. -/
def State.linitSent (s : State) (p : Nat) : State :=
  (((s.updPort p fun f => { f with linitTx := true }).portAdd p 0 1).put (F.WPR_LINK_STATUS_STATE p) 1).out
    (.linit p ⟨s.self, s.inc, p, s.get F.STG_PERIOD_CODE⟩)

theorem State.linitSent_fports (s : State) (p : Nat) : (s.linitSent p).fports = s.fports.upd p fun f => { f with linitTx := true } := by
  rw [State.linitSent, State.out_fports, State.put_fports]
  rfl

theorem State.calm_linit {s : State} (h : s.calm) (p : Nat) (l : Linit) : (s.out (.linit p l)).calm := State.calm_congr h rfl rfl rfl rfl rfl rfl rfl

theorem State.calm_linitSent {s : State} (h : s.calm) (p : Nat) : (s.linitSent p).calm :=
  State.calm_linit (State.calm_put (State.calm_portAdd (State.calm_updPort h _ _) _ _ _) _ (by dsimp only; omega)) _ _

theorem State.updPort_linit (s : State) (p q : Nat) (l : Linit) (k : FPort → FPort) : (s.out (.linit p l)).updPort q k = (s.updPort q k).out (.linit p l) := rfl

/-- A trained port whose link is not up sends a LINIT, and the link may be up with it. -/
theorem State.linitTx_sends {s : State} {p : Nat} (hp : p < 64) (ht : (s.fports.look p).trained = true) (hs : s.get (F.WPR_LINK_STATUS_STATE p) ≠ 2)
    (he : s.flag (F.RTP_CTRL_EN p) = true) (hh : s.halted = false) (hl : s.sealed = false) : s.linitTx p = (s.linitSent p).linkUpCheck p := by
  have hself : (s.put (F.WPR_LINK_STATUS_STATE p) 1).self = s.self := State.get_put_off s 1 (by dsimp only; omega)
  have hinc : (s.put (F.WPR_LINK_STATUS_STATE p) 1).inc = s.inc := State.get_put_off s 1 (by dsimp only; omega)
  have hper : (s.put (F.WPR_LINK_STATUS_STATE p) 1).get F.STG_PERIOD_CODE = s.get F.STG_PERIOD_CODE := State.get_put_off s 1 (by dsimp only; omega)
  unfold State.linitTx
  rw [if_neg (by simp [ht, hs, he, hh, hl])]
  dsimp only
  rw [hself, hinc, hper, State.linitSent, State.updPort_linit, State.updPort_portAdd, State.updPort_put, State.portAdd_put]

/-- A LINIT has come in. -/
def State.linitGot (s : State) (p : Nat) (l : Linit) : State :=
  (((s.updPort p fun f => { f with linitRx := true, peerRouter := l.router }).portAdd p 1 1).put (F.WPR_LINK_STATUS_STATE p) 1).put
    (F.WPR_LINK_STATUS_PEER_INC p) l.inc

theorem State.linitGot_fports (s : State) (p : Nat) (l : Linit) :
    (s.linitGot p l).fports = s.fports.upd p fun f => { f with linitRx := true, peerRouter := l.router } := by
  rw [State.linitGot, State.put_fports, State.put_fports]
  rfl

theorem State.calm_linitGot {s : State} (h : s.calm) (p : Nat) (l : Linit) : (s.linitGot p l).calm :=
  State.calm_put (State.calm_put (State.calm_portAdd (State.calm_updPort h _ _) _ _ _) _ (by dsimp only; omega)) _ (by dsimp only; omega)

theorem State.linitRx_takes {s : State} {p : Nat} (l : Linit) (ht : (s.fports.look p).trained = true) (hs : s.get (F.WPR_LINK_STATUS_STATE p) ≠ 2)
    (he : s.flag (F.RTP_CTRL_EN p) = true) (hh : s.halted = false) (hl : s.sealed = false) : s.linitRx p l = (s.linitGot p l).linkUpCheck p := by
  unfold State.linitRx
  rw [if_neg (by simp [ht, he, hh, hl]), if_neg hs, State.linitGot]
  dsimp only
  rw [State.updPort_portAdd, State.updPort_put, State.updPort_put, State.portAdd_put, State.portAdd_put]

/-- A LINIT on a link that is up takes it down (R377). -/
theorem State.linitRx_up {s : State} {p : Nat} (l : Linit) (ht : (s.fports.look p).trained = true) (hs : s.get (F.WPR_LINK_STATUS_STATE p) = 2)
    (he : s.flag (F.RTP_CTRL_EN p) = true) (hh : s.halted = false) (hl : s.sealed = false) : s.linitRx p l = s.linkDown p 3 := by
  unfold State.linitRx
  rw [if_neg (by simp [ht, he, hh, hl]), if_pos hs]

/-- The registers of a link that is up, its sequence numbers at 0. -/
def State.linkStarted (s : State) (p : Nat) : State :=
  ((((s.put (F.WPR_LINK_STATUS_STATE p) 2).put (F.RTP_STATUS_LINK_UP p) 1).put (F.WPR_LINK_STATUS_TX_NEXT p) 0).put (F.WPR_LINK_STATUS_RX_NEXT p) 0).put
    (F.WPR_LINK_STATUS_FAILED_REPLAYS p) 0

/-- A link that is up, with nothing sent or received on it yet. -/
def State.linkRaised (s : State) (p : Nat) : State :=
  (s.linkStarted p).updPort p fun f => { f with
    sent := [], peerFreed := [], freed := [], replay := [], replayFrom := none, mark := none, nak := false, nakSent := false, linitTx := false, linitRx := false }

/-- Once a LINIT has gone and one has come the link is up. -/
theorem State.linkUpCheck_raises {s : State} {p : Nat} (ht : (s.fports.look p).linitTx = true) (hr : (s.fports.look p).linitRx = true) :
    s.linkUpCheck p = s.linkRaised p := by
  unfold State.linkUpCheck
  dsimp only
  rw [ht, hr]
  exact if_pos rfl

theorem State.linkStarted_fports (s : State) (p : Nat) : (s.linkStarted p).fports = s.fports := by
  rw [State.linkStarted, State.put_fports, State.put_fports, State.put_fports, State.put_fports, State.put_fports]

theorem State.calm_linkRaised {s : State} (h : s.calm) (p : Nat) : (s.linkRaised p).calm :=
  State.calm_updPort (State.calm_put (State.calm_put (State.calm_put (State.calm_put (State.calm_put h _ (by dsimp only; omega)) _ (by dsimp only; omega)) _
    (by dsimp only; omega)) _ (by dsimp only; omega)) _ (by dsimp only; omega)) _ _

/-- What a link that is up shows (R377). -/
theorem State.linkRaised_shows (s : State) (p : Nat) :
    (s.linkRaised p).get (F.WPR_LINK_STATUS_STATE p) = 2 ∧ (s.linkRaised p).get (F.RTP_STATUS_LINK_UP p) = 1 ∧
    (s.linkRaised p).get (F.WPR_LINK_STATUS_TX_NEXT p) = 0 ∧ (s.linkRaised p).get (F.WPR_LINK_STATUS_RX_NEXT p) = 0 ∧
    ((s.linkRaised p).fports.look p).replay = [] ∧ ((s.linkRaised p).fports.look p).sent = [] ∧
    ((s.linkRaised p).fports.look p).oq = (s.fports.look p).oq := by
  have hg : ∀ f, (s.linkRaised p).get f = (s.linkStarted p).get f := fun f => State.get_updPort _ _ _ _
  have hf : (s.linkRaised p).fports = (s.linkStarted p).fports.upd p fun f => { f with
      sent := [], peerFreed := [], freed := [], replay := [], replayFrom := none, mark := none, nak := false, nakSent := false, linitTx := false, linitRx := false } := rfl
  rw [hf, State.linkStarted_fports, Tab.look_upd_self]
  refine ⟨?_, ?_, ?_, ?_, rfl, rfl, rfl⟩
  · rw [hg, State.linkStarted]
    simp (disch := grind) only [State.get_put_other, State.get_put_fits]
  · rw [hg, State.linkStarted]
    simp (disch := grind) only [State.get_put_other, State.get_put_fits]
  · rw [hg, State.linkStarted]
    simp (disch := grind) only [State.get_put_other, State.get_put_fits]
  · rw [hg, State.linkStarted]
    simp (disch := grind) only [State.get_put_other, State.get_put_fits]

/-! ### RETRAIN (R377) -/

theorem rowAt_wprLinkCtrl {p : Nat} (h : p < 64) :
    rowAt (0x701000 + 32 * p) = some ⟨"WPR_LINK_CTRL", 0x701000, [(0x20, 64)], [⟨63, 63, .wo, 0, .live⟩, ⟨15, 0, .rw, 8192, .live⟩]⟩ := by
  have hb : rowAt (0x701000 + 32 * p) = regRowsWpr.find? fun r => decide (r.base ≤ 0x701000 + 32 * p) && inDims r.dims (0x701000 + 32 * p - r.base) := by
    unfold rowAt
    simp only
    rw [if_neg (by omega), if_neg (by omega), if_neg (by omega), if_pos (by omega), if_neg (by omega), if_pos (by omega)]
  rw [hb]
  simp [regRowsWpr, inDims, h]
  omega

/-- A write of a named register beyond the sideband's own, by anything but a VF, that no locked TDI watches. -/
theorem State.regWrite_named_high {s : State} {o : Origin} {off size : Nat} {v : Word} {row : RegRow} (ho : s.regOpen o off true = true) (hv : notVf o = true)
    (hl : (s.fns.keysOf fun h => h.tdi == .locked || h.tdi == .run) = []) (hz : sizeOk off size = true) (hb : 0x2010C0 ≤ off) (hb' : off < 0x1500000)
    (hr : rowAt (off / 8 * 8) = some row) :
    s.regWrite o off size v = s.regPut o row off size
      (let v := if size = 8 then v else v &&& BitVec.ofNat 64 (2 ^ 32 - 1); if off % 8 = 4 then v <<< 32 else v) := by
  have h1 : ¬ (0x1500000 ≤ off ∧ off < 0x1700000) := by omega
  have h2 : ¬ off < 0x2010C0 := by omega
  cases o with
  | vf p f => cases hv
  | pf0 p => simp [State.regWrite, ho, hz, h1, h2, hr, State.tdiWatch_unlocked hl]
  | sideband => simp [State.regWrite, ho, hz, h1, hr, State.tdiWatch_unlocked hl]
  | instr => simp [State.regWrite, ho, hz, h1, h2, hr]

/-- RETRAIN writes its register, and takes the link down (R377). -/
theorem State.setBits_wprLinkCtrl {s : State} {o : Origin} {p : Nat} (hw : s.mayWrite o (0x701000 + 32 * p)) (hp : p < 64) :
    ∃ w, s.setBits o (0x701000 + 32 * p) (bitW 63) = (s.setReg (0x701000 + 32 * p) w).linkDown p 3 := by
  obtain ⟨ho, hv, hl, hs, hm⟩ := hw
  have h8 : (0x701000 + 32 * p) / 8 * 8 = 0x701000 + 32 * p := by omega
  have hd : 32 * p / 32 = p := by omega
  have hr := rowAt_wprLinkCtrl hp
  have hst : ∀ w m v, (s.setReg (0x701000 + 32 * p) w).stagePut (0x701000 + 32 * p) m v = s.setReg (0x701000 + 32 * p) w :=
    fun w m v => State.stagePut_none m v hs hm (by simp [fieldBits, hr])
  rw [State.setBits, State.regWrite_named_high ho hv hl (by simp [sizeOk]; omega) (by omega) (by omega) (by rw [h8]; exact hr)]
  have hm4 : ¬ (0x701000 + 32 * p) % 8 = 4 := by omega
  have hlo : ¬ 0x701000 + 32 * p < 0x100000 := by omega
  simp [State.regPut, State.hookFab, fieldBits, h8, hr, bitW, wbit, hst, hd, hm4, hlo]
  exact ⟨_, rfl⟩

end Sys2Proof.Machine
end

section
namespace Sys2Proof.Machine

/-! ### Commands of the link layer -/

section
variable {s : State} (h : s.calm) {p : Nat} (hp : p < 64)
include h hp

theorem exec_linkDown {cause : Nat} (h1 : 1 ≤ cause) (h5 : cause ≤ 5) : exec (.linkDown p cause) s = .next (s.linkDown p cause).settle :=
  ended_fabric h (by simp [okPort, hp, h1, h5]) _

theorem exec_linkUnitReceive {u : LinkUnit} (hu : okUnit u = true) (decoded : Bool) : exec (.linkUnitReceive p u decoded) s = .next (s.unitRx p u decoded).settle :=
  ended_fabric h (by simp [okPort, hp, hu]) _

theorem exec_lcfReceive {l : Lcf} (hl : okLcf l = true) : exec (.lcfReceive p l) s = .next (s.lcfRx p l).settle := ended_fabric h (by simp [okPort, hp, hl]) _

theorem exec_replayTimeout : exec (.replayTimeout p) s = .next (s.replayDue p).settle := ended_fabric h (by simp [okPort, hp]) _

theorem exec_lcfSend : exec (.lcfSend p) s = .next (s.lcfTx p).settle := ended_fabric h (by simp [okPort, hp]) _

theorem exec_linitSend : exec (.linitSend p) s = .next (s.linitTx p).settle := ended_fabric h (by simp [okPort, hp]) _

theorem exec_linitReceive {l : Linit} (hl : okLinit l = true) : exec (.linitReceive p l) s = .next (s.linitRx p l).settle :=
  ended_fabric h (by simp [okPort, hp, hl]) _

omit h in
theorem exec_linkRetrain {o : Origin} (ho : okOrigin o = true) (hw : s.mayWrite o (0x701000 + 32 * p)) :
    ∃ w, exec (.linkRetrain o p) s = .next ((s.setReg (0x701000 + 32 * p) w).linkDown p 3).settle := by
  obtain ⟨w, e⟩ := State.setBits_wprLinkCtrl hw hp
  refine ⟨w, ?_⟩
  show ended (okOrigin o && okPort p) _ = _
  rw [ended_true _ _ (by simp [ho, okPort, hp]), e]

/-- The link comes up when the port's own LINIT goes out after the peer's has come. -/
theorem State.completes_linitSend {f : FPort} (hf : f = s.fports.look p) (ht : f.trained = true) (hs : s.get (F.WPR_LINK_STATUS_STATE p) ≠ 2)
    (he : s.flag (F.RTP_CTRL_EN p) = true) (hh : s.halted = false) (hl : s.sealed = false) (hr : f.linitRx = true) :
    s.completes (.linitSend p) fun t =>
      t.get (F.WPR_LINK_STATUS_STATE p) = 2 ∧ t.get (F.RTP_STATUS_LINK_UP p) = 1 ∧ t.get (F.WPR_LINK_STATUS_TX_NEXT p) = 0 ∧
      t.get (F.WPR_LINK_STATUS_RX_NEXT p) = 0 ∧ (t.fports.look p).replay = [] ∧ (t.fports.look p).sent = [] ∧ (t.fports.look p).oq = f.oq := by
  subst hf
  have hlook : (s.linitSent p).fports.look p = { s.fports.look p with linitTx := true } := by rw [State.linitSent_fports, Tab.look_upd_self]
  have hc := State.calm_linkRaised (State.calm_linitSent h p) p
  have hx : exec (.linitSend p) s = .next ((s.linitSent p).linkRaised p).settle := by
    rw [exec_linitSend h hp, State.linitTx_sends hp ht hs he hh hl, State.linkUpCheck_raises (by rw [hlook]) (by rw [hlook]; exact hr)]
  have hg : ∀ f : Fld, 0x700000 ≤ f.off → ((s.linitSent p).linkRaised p).settle.get f = ((s.linitSent p).linkRaised p).get f :=
    fun f hf => State.settle_get _ hc (by omega) (by omega)
  obtain ⟨h1, h2, h3, h4, h5, h6, h7⟩ := (s.linitSent p).linkRaised_shows p
  refine ⟨_, hx, ?_, ?_, ?_, ?_, ?_, ?_, ?_⟩
  · rw [hg _ (by dsimp only; omega), h1]
  · rw [hg _ (by dsimp only; omega), h2]
  · rw [hg _ (by dsimp only; omega), h3]
  · rw [hg _ (by dsimp only; omega), h4]
  · rw [State.settle_fports _ hc, h5]
  · rw [State.settle_fports _ hc, h6]
  · rw [State.settle_fports _ hc, h7, hlook]

end

/-- Settles O45: the link-downs, the units and the control flits of a link, its replays and its bring-up on a calm state. -/
theorem links : Obligations.Links := by
  unfold Obligations.Links
  intro s p f h hp hf
  refine ⟨?_, ?_, ?_, ?_, ?_, ?_, ?_, ?_, ?_, ?_, ?_, ?_, ?_⟩
  · intro cause h1 h5 hs hg hv
    obtain ⟨⟨ha, hb, hc, hd, he, hr⟩, hfl⟩ := State.linkDown_shows cause h hs hg hv hp (by omega)
    exact ⟨_, exec_linkDown h hp h1 h5, ha, hb, hc, hd, he, hr, hfl⟩
  · intro cause h1 h5 hs hg hv hu hpar hl
    exact ⟨_, exec_linkDown h hp h1 h5, State.linkDown_lost cause h hs hg hv hu hpar hl⟩
  · intro u seq hu ho hn ha hq
    subst hq
    have hc := State.calm_withRin (State.calm_unitTaken h p u.lseq u.flits) (s.rin.upd p fun l => l ++ [(⟨u.vc / 5, u.vc % 5, false, some (p, u.vc), s.tick, u.body⟩ : RUnit)])
    have hx := State.gives_counted (State.unitRx_next ho hn ha) hc (exec_linkUnitReceive h hp hu true)
    rw [State.unitTaken, State.withRin_put] at hx
    exact hx
  · intro u hu ho hn hk
    subst hf
    have hc := State.calm_portAdd (State.calm_updPort h p fun g => { g with nak := true, nakSent := false }) p 1 u.flits
    have hx := State.gives_settle (by rw [exec_linkUnitReceive h hp hu true, State.unitRx_outOfSeq ho hn hk]) (State.calm_bump hc (F.WPR_LINK_COUNT_B_OUT_OF_SEQ p) 1 (by dsimp only; omega))
    exact hx
  · intro l i hl hk hn hs hm hr hi
    subst hf
    exact State.gives_settle (by rw [exec_lcfReceive h hp hl, State.lcfRx_acks hk hn hs hm hr hi]; rfl) (State.calm_updPort h p _)
  · intro u us hu hm hs hq
    subst hf
    have hc := State.calm_put (State.calm_portAdd (State.calm_updPort h p fun g => { g with replayFrom := some 0, mark := some u.lseq }) p 2 1)
      (f := F.WPR_LINK_STATUS_FAILED_REPLAYS p) (s.get (F.WPR_LINK_STATUS_FAILED_REPLAYS p)) (by dsimp only; omega)
    have hx := State.gives_counted (State.replayDue_starts hu hm hs hq) (State.calm_bump hc _ 1 (by dsimp only; omega)) (exec_replayTimeout h hp)
    exact hx
  · intro m hu hm hs hq hg hv
    subst hf
    have hc : (s.put (F.WPR_LINK_STATUS_FAILED_REPLAYS p) 8).calm := State.calm_put h _ (by dsimp only; omega)
    have hs' : (s.put (F.WPR_LINK_STATUS_FAILED_REPLAYS p) 8).get (F.WPR_LINK_STATUS_STATE p) ≠ 0 := by
      rw [State.get_put_other _ _ (by grind) (by grind) (by grind), hs]; decide
    obtain ⟨⟨ha, hb, -, -, -, hr⟩, -⟩ := State.linkDown_shows 1 hc hs' (by rw [State.put_grps, hg]) (by rw [State.put_cvys, hv]) hp (by decide)
    exact ⟨_, by rw [exec_replayTimeout h hp, State.replayDue_fails hu hm hs hq], ha, hb, hr⟩
  · intro ho
    subst hf
    exact State.gives_settle (by rw [exec_lcfSend h hp, State.lcfTx_open ho]; rfl) (State.calm_congr h rfl rfl rfl rfl rfl rfl rfl)
  · intro ht hs he hh hl hr
    subst hf
    refine State.gives_settle (u := s.linitSent p) ?_ (State.calm_linitSent h p)
    rw [exec_linitSend h hp, State.linitTx_sends hp ht hs he hh hl, State.linkUpCheck_waits]
    rw [State.linitSent_fports, Tab.look_upd_self]
    simp [hr]
  · intro ht hs he hh hl hr
    exact State.completes_linitSend h hp hf ht hs he hh hl hr
  · intro l hl' ht hs he hh hl hr
    subst hf
    refine State.gives_settle (u := s.linitGot p l) ?_ (State.calm_linitGot h p l)
    rw [exec_linitReceive h hp hl', State.linitRx_takes l ht hs he hh hl, State.linkUpCheck_waits]
    rw [State.linitGot_fports, Tab.look_upd_self]
    simp [hr]
  · intro l hl' ht hs he hh hl hg hv
    subst hf
    obtain ⟨⟨ha, hb, -⟩, -⟩ := State.linkDown_shows 3 h (by omega) hg hv hp (by decide)
    exact ⟨_, by rw [exec_linitReceive h hp hl', State.linitRx_up l ht hs he hh hl], ha, hb⟩
  · intro o ho hw hs hg hv
    obtain ⟨w, hx⟩ := exec_linkRetrain hp ho hw
    have hc : (s.setReg (0x701000 + 32 * p) w).calm := State.calm_congr h rfl rfl rfl rfl rfl rfl (State.reg_setReg_other _ _ (by omega))
    have hs' : (s.setReg (0x701000 + 32 * p) w).get (F.WPR_LINK_STATUS_STATE p) ≠ 0 := by
      rw [State.get_setReg_off _ _ (by dsimp only; omega)]; exact hs
    obtain ⟨⟨ha, hb, -⟩, -⟩ := State.linkDown_shows 3 hc hs' hg hv hp (by decide)
    exact ⟨_, hx, ha, hb⟩

end Sys2Proof.Machine
end

section
namespace Sys2Proof.Machine

/-! ### What deferred work leaves alone

A command may leave happenings of the queues, the operations, the matching engine and the groups for `State.settle` to carry out, whatever those stand in. They may
report faults and count, but none of them changes a host port, starts to close a power domain, leaves Degraded or clears a pending bit. One lemma per function of that
work says so; `keeps_settle` is what they come to. -/

/-- `s` keeps what stands in `a`: its host ports, the power domains that close, Degraded, and the pending faults. -/
structure State.keeps (a s : State) : Prop where
  ports : s.ports = a.ports
  pdOver : s.pdOver = a.pdOver
  mode : a.mode = 4 → s.mode = 4
  pend : ∀ src, src < 512 → a.flag (fltPend src) = true → s.flag (fltPend src) = true

theorem State.keeps_refl (a : State) : a.keeps a := ⟨rfl, rfl, id, fun _ _ => id⟩

section
variable {a s t : State}

/-- What a state keeps, another with its registers, ports and closing domains keeps. -/
theorem State.keeps_same (h : a.keeps s) (e : (t.ports, t.pdOver, t.regs) = (s.ports, s.pdOver, s.regs)) : a.keeps t := by
  simp only [Prod.mk.injEq] at e
  obtain ⟨hp, hd, hr⟩ := e
  have hreg : ∀ off, t.reg off = s.reg off := fun off => by rw [State.reg, hr, State.reg]
  refine ⟨hp.trans h.ports, hd.trans h.pdOver, fun hm => ?_, fun src hs hf => ?_⟩
  · rw [State.mode, State.get, hreg]; exact h.mode hm
  · rw [State.flag, State.get, hreg]; exact h.pend src hs hf

theorem keeps_ite {c : Prop} [Decidable c] {x y : State} (hx : a.keeps x) (hy : a.keeps y) : a.keeps (if c then x else y) := by
  split
  · exact hx
  · exact hy

theorem keeps_foldl {β : Type} {k : State → β → State} (hk : ∀ s b, a.keeps s → a.keeps (k s b)) (l : List β) (h : a.keeps s) : a.keeps (l.foldl k s) := by
  induction l generalizing s with
  | nil => exact h
  | cons b l ih => exact ih (hk s b h)

/-- A write of a register other than DEV_MODE and the pending words. -/
theorem keeps_setReg (h : a.keeps s) {off : Nat} (w : Word) (hm : off ≠ 0x10000) (hp : off < 0x30100 ∨ 0x30140 ≤ off) : a.keeps (s.setReg off w) := by
  refine ⟨h.ports, h.pdOver, fun e => ?_, fun src hs hf => ?_⟩
  · rw [State.mode, State.get_setReg_off _ _ hm.symm]; exact h.mode e
  · have ho := fltPend_off src hs
    rw [State.flag, State.get_setReg_off _ _ (by omega)]
    exact h.pend src hs hf

theorem keeps_put (h : a.keeps s) (f : Fld) (n : Nat) (hm : f.off ≠ 0x10000) (hp : f.off < 0x30100 ∨ 0x30140 ≤ f.off) : a.keeps (s.put f n) :=
  keeps_setReg h _ hm hp

theorem keeps_bump (h : a.keeps s) (f : Fld) (n : Nat) (hm : f.off ≠ 0x10000) (hp : f.off < 0x30100 ∨ 0x30140 ≤ f.off) : a.keeps (s.bump f n) :=
  keeps_setReg h _ hm hp

theorem keeps_count (h : a.keeps s) (ev i n : Nat) (d : Option Nat) : a.keeps (s.count ev i n d) := by
  obtain ⟨r, e, hr⟩ := s.count_form ev i n d
  have hreg : ∀ off, off < 0x52000 → (s.count ev i n d).reg off = s.reg off := fun off ho => by rw [e]; exact hr off (.inl ho)
  refine ⟨by rw [e]; exact h.ports, by rw [e]; exact h.pdOver, fun hm => ?_, fun src hs hf => ?_⟩
  · rw [State.mode, State.get, hreg _ (by decide)]; exact h.mode hm
  · have ho := fltPend_off src hs
    rw [State.flag, State.get, hreg _ (by omega)]
    exact h.pend src hs hf

theorem keeps_out (h : a.keeps s) (o : Out) : a.keeps (s.out o) := by
  have h' : a.keeps { s with outs := o :: s.outs } := State.keeps_same h (by rfl)
  unfold State.out
  dsimp only
  split
  · exact keeps_count h' _ _ _ _
  · exact keeps_count h' _ _ _ _
  · exact h'

theorem keeps_later (h : a.keeps s) (w : Work) : a.keeps (s.later w) := State.keeps_same h (by rfl)

theorem keeps_ledger (h : a.keeps s) (dom n amount : Nat) : a.keeps (s.ledger dom n amount) := keeps_ite h (State.keeps_same h (by rfl))

/-! ### Faults -/

/-- Only Bring-up, Operational and Drain are left for Degraded, which stays (R527). -/
theorem keeps_degrade (h : a.keeps s) : a.keeps s.degrade := by
  by_cases hm : s.mode = 1 ∨ s.mode = 2 ∨ s.mode = 3
  · obtain ⟨r, e⟩ := s.regsOnly_degrade
    refine ⟨by rw [e]; exact h.ports, by rw [e]; exact h.pdOver, fun _ => (State.degrade_mode hm).1, fun src hs hf => ?_⟩
    have ho := fltPend_off src hs
    rw [State.flag, State.get, State.degrade_reg _ (by omega) (by omega)]
    exact h.pend src hs hf
  · rw [State.degrade_other hm]
    exact h

theorem keeps_updFn (h : a.keeps s) (port fn : Nat) (f : HostFn → HostFn) : a.keeps (s.updFn port fn f) := State.keeps_same h (by rfl)

theorem keeps_msix (h : a.keeps s) (port fn vec : Nat) : a.keeps (s.msix port fn vec) :=
  keeps_ite h (keeps_ite (keeps_out h _) (keeps_ite h (keeps_updFn h _ _ _)))

theorem keeps_occur (h : a.keeps s) {src : Nat} (syn : Word) (forced : Bool) (port : Option Nat) (hs : src < 512) : a.keeps (s.occur src syn forced port).1 := by
  obtain ⟨⟨r, o, hi, f, i, d, n, e⟩, hk⟩ := s.noted_occur src syn forced port hs
  refine ⟨by rw [e]; exact h.ports, by rw [e]; exact h.pdOver, fun hm => ?_, fun j hj hf => s.pend_occur syn forced port hs hj (h.pend j hj hf)⟩
  rw [State.mode, State.get, hk _ (by decide) (by decide)]
  exact h.mode hm

theorem keeps_fltAt (h : a.keeps s) {src : Nat} (syn : Word) (port : Option Nat) (hs : src < 512) : a.keeps (s.fltAt src syn port) := by
  have ho := keeps_occur h syn false port hs
  have hx : a.keeps (if (s.occur src syn false port).2 || !(src == 0x041 || src == 0x042 || src == 0x048 || src == 0x049) then (s.occur src syn false port).1
      else { (s.occur src syn false port).1 with active := ((fltClass src).getD 0, fltScope src syn port) :: (s.occur src syn false port).1.active }) :=
    keeps_ite ho (State.keeps_same ho (by rfl))
  exact keeps_ite (keeps_degrade hx) hx

theorem keeps_flt (h : a.keeps s) {src : Nat} (syn : Word) (hs : src < 512) : a.keeps (s.flt src syn) := keeps_fltAt h syn none hs

end

end Sys2Proof.Machine
end

section
namespace Sys2Proof.Machine

section
variable {a s t : State}

/-! ### Accesses -/

theorem keeps_tlbDrop (h : a.keeps s) (p : Tlbe → Bool) : a.keeps (s.tlbDrop p) := State.keeps_same h (by rfl)

theorem keeps_tlbLook (h : a.keeps s) (pasid : Nat) (kind : AccKind) (va : Nat) : a.keeps (s.tlbLook pasid kind va).1 := by
  unfold State.tlbLook
  dsimp only
  split
  · exact h
  · split
    · exact h
    · split
      · exact h
      · split
        · exact h
        · exact h
  · dsimp only
    exact keeps_tlbDrop h _

theorem keeps_accEnd (h : a.keeps s) (id : Nat) (r : AccRes) : a.keeps (s.accEnd id r) := keeps_later h _

theorem keeps_accFault (h : a.keeps s) (id cause level : Nat) : a.keeps (s.accFault id cause level) :=
  keeps_accEnd (keeps_ite h (keeps_count (keeps_bump h _ _ (by decide) (by decide)) _ _ _ _)) _ _

theorem keeps_accPut (h : a.keeps s) (x : Tab Access) : a.keeps { s with accs := x } := State.keeps_same h (by rfl)

theorem keeps_walkRead (h : a.keeps s) {id : Nat} {w : Walk} (e : s.walkRead id w = some t) : a.keeps t := by
  unfold State.walkRead at e
  dsimp only at e
  split at e
  · obtain rfl := Option.some.inj e
    exact keeps_out (keeps_count (State.keeps_same h (by rfl)) _ _ _ _) _
  · cases e

theorem keeps_accIssue (h : a.keeps s) (id : Nat) : a.keeps (s.accIssue id) := by
  unfold State.accIssue
  dsimp only
  split
  · exact keeps_ite (keeps_accEnd (keeps_out h _) _ _) (keeps_accEnd h _ _)
  · exact keeps_accEnd h _ _
  · exact keeps_out (keeps_accPut h _) _

theorem keeps_accGo (fuel : Nat) (h : a.keeps s) (id : Nat) : a.keeps (State.accGo fuel s id) := by
  induction fuel generalizing s with
  | zero => exact h
  | succ fuel ih =>
    unfold State.accGo
    extract_lets x p
    refine keeps_ite (keeps_accEnd h _ _) (keeps_ite (keeps_accEnd h _ _) ?_)
    split
    · exact keeps_accIssue h id
    · exact ih (keeps_accPut h _)
    · next va n rest _ =>
      refine keeps_ite (keeps_accFault h _ _ _) ?_
      have hl := keeps_tlbLook h x.pasid x.kind va
      split
      next u l e =>
      rw [e] at hl
      extract_lets v
      have hv : a.keeps v := keeps_ite hl (keeps_count (keeps_count hl _ _ _ _) _ _ _ _)
      split
      · exact keeps_accFault hv _ _ _
      · exact keeps_ite (keeps_accFault hv _ _ _) (ih (keeps_accPut hv _))
      · split
        · exact keeps_accPut hv _
        · refine keeps_ite (keeps_accPut hv _) ?_
          have hn : a.keeps v.newId.2 := State.keeps_same hv (by rfl)
          split
          next wid u e =>
          rw [e] at hn
          extract_lets w
          split
          · exact keeps_accPut (keeps_walkRead hn ‹_›) _
          · exact keeps_accFault hn _ _ _

theorem keeps_access (h : a.keeps s) (c : Client) (pasid dom : Nat) (kind : AccKind) (spec : Bool) (pieces : List (Nat × Nat)) (wdata : List Byte) :
    a.keeps (s.access c pasid dom kind spec pieces wdata).2 := keeps_accGo _ (State.keeps_same h (by rfl)) _

theorem keeps_accDrop (h : a.keeps s) (id : Nat) : a.keeps (s.accDrop id) := State.keeps_same h (by rfl)

end

end Sys2Proof.Machine
end

section
namespace Sys2Proof.Machine

section
variable {a s t : State}

/-! ### Event queues -/

theorem keeps_eqMessage (h : a.keeps s) (e : Nat) : a.keeps (s.eqMessage e) := keeps_msix (State.keeps_same h (by rfl)) _ _ _

theorem keeps_eqPump (h : a.keeps s) (e : Nat) : a.keeps (s.eqPump e) := by
  unfold State.eqPump
  extract_lets q
  split
  · exact h
  · refine keeps_ite h (keeps_ite (keeps_ite h ?_) ?_)
    · exact keeps_fltAt (State.keeps_same h (by rfl)) _ _ (by decide)
    · exact keeps_access (State.keeps_same h (by rfl)) _ _ _ _ _ _ _

theorem keeps_evPost (h : a.keeps s) (e : Nat) (ev : Ev) : a.keeps (s.evPost e ev) :=
  keeps_ite (keeps_later (State.keeps_same h (by rfl)) _) (keeps_later h _)

theorem keeps_eqWrote (h : a.keeps s) (e : Nat) : a.keeps (s.eqWrote e) := by
  unfold State.eqWrote
  extract_lets q
  split
  · exact h
  · extract_lets q v
    have hv : a.keeps v := keeps_count (State.keeps_same h (by rfl)) _ _ _ _
    exact keeps_later (keeps_later (keeps_ite (keeps_eqMessage hv _) hv) _) _

theorem keeps_eqError (h : a.keeps s) (e : Nat) : a.keeps (s.eqError e) :=
  keeps_foldl (fun _ _ hs => keeps_later hs _) _ (State.keeps_same h (by rfl))

theorem keeps_eqFailed (h : a.keeps s) (e : Nat) : a.keeps (s.eqFailed e) := keeps_eqError (keeps_fltAt h _ _ (by decide)) e

theorem keeps_wqEvent (h : a.keeps s) (wq : Nat) (ev : Ev) : a.keeps (s.wqEvent wq ev) := keeps_ite (keeps_evPost h _ _) (keeps_later h _)

theorem keeps_faultEvent (h : a.keeps s) (pasid cause engine access level source pc va : Nat) :
    a.keeps (s.faultEvent pasid cause engine access level source pc va) := keeps_evPost h _ _

theorem keeps_faultOnce (h : a.keeps s) (pasid cause engine level source va : Nat) (k : AccKind) :
    a.keeps (s.faultOnce pasid cause engine level source va k) :=
  keeps_ite h (keeps_faultEvent (State.keeps_same h (by rfl)) _ _ _ _ _ _ _ _)

/-! ### Runs and their operations -/

theorem keeps_updRun (h : a.keeps s) (ctx : Nat) (f : Run → Run) : a.keeps (s.updRun ctx f) := State.keeps_same h (by rfl)

theorem keeps_updOp (h : a.keeps s) (k : Nat) (f : Op → Op) : a.keeps (s.updOp k f) := State.keeps_same h (by rfl)

theorem keeps_unblock (h : a.keeps s) (ctx : Nat) : a.keeps (s.unblock ctx) :=
  keeps_ite (State.keeps_same h (by rfl)) (keeps_ite (State.keeps_same h (by rfl)) h)

theorem keeps_runSaved (h : a.keeps s) (ctx : Nat) : a.keeps (s.runSaved ctx) := keeps_updRun h _ _

theorem keeps_opFin (h : a.keeps s) (k st bytes : Nat) (val : Option Word) : a.keeps (s.opFin k st bytes val) :=
  keeps_ite (keeps_ite (keeps_later (State.keeps_same h (by rfl)) _) (State.keeps_same h (by rfl))) h

theorem keeps_opReport (h : a.keeps s) (k : Nat) : a.keeps (s.opReport k) := by
  unfold State.opReport
  extract_lets o ctx r ended
  split
  · exact h
  · extract_lets st v aux
    refine keeps_ite h ?_
    have hv : a.keeps v := State.keeps_same h (by rfl)
    refine keeps_ite (keeps_ite (keeps_later hv _) (keeps_wqEvent hv _ _)) ?_
    exact keeps_ite (keeps_wqEvent hv _ _) (keeps_ite (keeps_later hv _) (keeps_wqEvent hv _ _))

theorem keeps_opDone (h : a.keeps s) (k st bytes : Nat) (val : Option Word) : a.keeps (s.opDone k st bytes val) := keeps_opReport (keeps_opFin h _ _ _ _) _

/-! ### Counters -/

theorem keeps_waitEval (h : a.keeps s) (c : Nat) : a.keeps (s.waitEval c) :=
  keeps_foldl (fun _ _ hs => keeps_ite (keeps_opDone hs _ _ _ _) (keeps_ite (keeps_opDone hs _ _ _ _) hs)) _ h

theorem keeps_ctrPut (h : a.keeps s) (c : Nat) (v : Ctr) : a.keeps (s.ctrPut c v) := keeps_waitEval (State.keeps_same h (by rfl)) c

theorem keeps_ctrAdd (h : a.keeps s) (c : Nat) (n : Word) : a.keeps (s.ctrAdd c n) := keeps_ctrPut h c _

theorem keeps_ctrSignal (h : a.keeps s) (c dom : Nat) : a.keeps (s.ctrSignal c dom) := keeps_ite (keeps_ctrAdd h _ _) h

/-! ### The end of runs and operations -/

theorem keeps_endRun (h : a.keeps s) (ctx st : Nat) (outside : Bool) : a.keeps (s.endRun ctx st outside) :=
  keeps_ite h (keeps_later (keeps_foldl (fun _ _ hs => keeps_opDone hs _ _ _ _) _ (keeps_updRun h _ _)) _)

theorem keeps_fenceEval (h : a.keeps s) (ctx : Nat) : a.keeps (s.fenceEval ctx) :=
  keeps_foldl (fun _ _ hs => keeps_ite (keeps_opDone hs _ _ _ _) hs) _ h

theorem keeps_opSeen (h : a.keeps s) (k : Nat) : a.keeps (s.opSeen k) := by
  unfold State.opSeen
  extract_lets o ctx r ended u1 blocking
  split
  · exact h
  · extract_lets u2 u3 v r' wake w u4
    refine keeps_ite h ?_
    have h1 : a.keeps u1 := keeps_ledger (State.keeps_same h (by rfl)) _ _ _
    have h2 : a.keeps u2 := keeps_ledger h1 _ _ _
    have h3 : a.keeps u3 := keeps_ite (keeps_ctrSignal h2 _ _) h2
    have hv : a.keeps v := keeps_updRun h3 _ _
    have hw : a.keeps w := keeps_ite (keeps_unblock hv _) hv
    have h4 : a.keeps u4 := keeps_ite h3 (keeps_ite (keeps_endRun hw _ _ _) hw)
    exact keeps_later (keeps_fenceEval h4 _) _

theorem keeps_freeCtx (h : a.keeps s) (ctx : Nat) : a.keeps (s.freeCtx ctx) := State.keeps_same h (by rfl)

theorem keeps_entrySeen (h : a.keeps s) (ctx : Nat) : a.keeps (s.entrySeen ctx) := keeps_freeCtx (keeps_ite (keeps_ctrSignal h _ _) h) _

/-! ### Work queues -/

theorem keeps_wqStop (h : a.keeps s) (q : Nat) (after : WqSt) (skip firstSt firstTag : Nat) (byCmd : Option Nat) :
    a.keeps (s.wqStop q after skip firstSt firstTag byCmd) :=
  keeps_later (keeps_foldl (fun _ _ hs => keeps_endRun hs _ _ _) _ (State.keeps_same h (by rfl))) _

theorem keeps_wqError (h : a.keeps s) (q err skip firstSt firstTag : Nat) : a.keeps (s.wqError q err skip firstSt firstTag) :=
  keeps_wqStop (State.keeps_same h (by rfl)) _ _ _ _ _ _

theorem keeps_queResult (h : a.keeps s) (r res : Nat) : a.keeps (s.queResult r res) :=
  keeps_put (keeps_put h _ _ (by dsimp only; omega) (by dsimp only; omega)) _ _ (by dsimp only; omega) (by dsimp only; omega)

theorem keeps_writeConsumer (h : a.keeps s) (q : Nat) : a.keeps (s.writeConsumer q) := keeps_access h _ _ _ _ _ _ _

theorem keeps_wqStopped (h : a.keeps s) (q : Nat) : a.keeps (s.wqStopped q) := by
  unfold State.wqStopped
  extract_lets u1 w u2 u3 u4
  have h2 : a.keeps u2 := State.keeps_same (keeps_writeConsumer h q) (by rfl)
  have h3 : a.keeps u3 := keeps_ite (keeps_wqEvent h2 _ _) h2
  have h4 : a.keeps u4 := by
    unfold u4
    split
    · exact keeps_queResult h3 _ _
    · exact h3
  exact keeps_ite (State.keeps_same h4 (by rfl)) h4

theorem keeps_wqPump (h : a.keeps s) (q : Nat) : a.keeps (s.wqPump q) := by
  unfold State.wqPump
  extract_lets w
  refine keeps_ite h ?_
  split
  · exact keeps_wqStopped h q
  · refine keeps_ite h ?_
    extract_lets v r want
    have hv : a.keeps v := State.keeps_same h (by rfl)
    exact keeps_ite (keeps_wqEvent hv _ _) (keeps_later hv _)

theorem keeps_owedSeen (h : a.keeps s) (q : Nat) : a.keeps (s.owedSeen q) := by
  unfold State.owedSeen
  extract_lets w
  split
  · exact h
  · extract_lets v u
    have hv : a.keeps v := State.keeps_same h (by rfl)
    refine keeps_later (s := u) ?_ _
    unfold u
    split
    · exact keeps_entrySeen hv _
    · exact hv

theorem keeps_evSeen (h : a.keeps s) (c : EvCont) : a.keeps (s.evSeen c) := by
  cases c with
  | none => exact h
  | op k => exact keeps_opSeen h k
  | entry ctx => exact keeps_entrySeen h ctx
  | owed q => exact keeps_owedSeen h q

theorem keeps_yieldRun (h : a.keeps s) (ctx : Nat) : a.keeps (s.yieldRun ctx) := keeps_ite (State.keeps_same h (by rfl)) h

theorem keeps_retire (h : a.keeps s) (ctx pc : Nat) : a.keeps (s.retire ctx pc) := keeps_yieldRun (keeps_updRun (keeps_count h _ _ _ _) _ _) _

theorem keeps_startRun (h : a.keeps s) (ctx : Nat) (r : Run) : a.keeps (s.startRun ctx r) := by
  unfold State.startRun
  split
  · exact keeps_runSaved (keeps_count (State.keeps_same h (by rfl)) _ _ _ _) _
  · exact State.keeps_same h (by rfl)

theorem keeps_qRead (h : a.keeps s) (q : Nat) (c : Client) (va len : Nat) : a.keeps (s.qRead q c va len) := keeps_access (State.keeps_same h (by rfl)) _ _ _ _ _ _ _

theorem keeps_turnEnd (h : a.keeps s) (q : Nat) : a.keeps (s.turnEnd q) := keeps_ite (keeps_writeConsumer (State.keeps_same h (by rfl)) _) (State.keeps_same h (by rfl))

theorem keeps_turnNext (h : a.keeps s) (q : Nat) : a.keeps (s.turnNext q) := by
  unfold State.turnNext
  extract_lets w
  refine keeps_ite (keeps_turnEnd h q) (keeps_ite ?_ (keeps_ite (keeps_turnEnd h q) (keeps_qRead h _ _ _ _)))
  split
  · exact keeps_qRead h _ _ _ _
  · exact keeps_qRead h _ _ _ _

theorem keeps_prodSeen (h : a.keeps s) (q p : Nat) : a.keeps (s.prodSeen q p) :=
  keeps_ite (keeps_wqError (keeps_fltAt h _ _ (by decide)) _ _ _ _ _) (State.keeps_same h (by rfl))

theorem keeps_queueFault (h : a.keeps s) (q : Nat) (r : AccRes) (atC : Bool) (tag : Nat) : a.keeps (s.queueFault q r atC tag) :=
  keeps_wqError (keeps_ite (keeps_fltAt h _ _ (by decide)) h) _ _ _ _ _

theorem keeps_prodDone (h : a.keeps s) (q : Nat) (r : AccRes) : a.keeps (s.prodDone q r) := by
  unfold State.prodDone
  extract_lets v w
  have hv : a.keeps v := State.keeps_same h (by rfl)
  refine keeps_ite hv ?_
  split
  · exact keeps_ite (keeps_turnNext (keeps_prodSeen hv _ _) _) (keeps_prodSeen hv _ _)
  · exact keeps_queueFault hv _ _ _ _

theorem keeps_hdrDone (h : a.keeps s) (q : Nat) (r : AccRes) : a.keeps (s.hdrDone q r) := by
  unfold State.hdrDone
  extract_lets v w
  have hv : a.keeps v := State.keeps_same h (by rfl)
  refine keeps_ite hv ?_
  split
  · exact keeps_ite (keeps_ite (keeps_turnNext (State.keeps_same hv (by rfl)) _) (State.keeps_same hv (by rfl))) (keeps_turnEnd (State.keeps_same hv (by rfl)) _)
  · exact keeps_queueFault hv _ _ _ _

theorem keeps_entryDone (h : a.keeps s) (q : Nat) (r : AccRes) : a.keeps (s.entryDone q r) := by
  unfold State.entryDone
  extract_lets v w u1
  have hv : a.keeps v := State.keeps_same h (by rfl)
  refine keeps_ite hv ?_
  split
  · extract_lets ws run ok
    split
    · exact keeps_turnEnd hv _
    · extract_lets u2 u3
      have h2 : a.keeps u2 := keeps_count (keeps_startRun (State.keeps_same hv (by rfl)) _ _) _ _ _ _
      exact keeps_turnNext (keeps_ite (keeps_endRun h2 _ _ _) (keeps_ite h2 (keeps_endRun h2 _ _ _))) _
  · exact keeps_queueFault hv _ _ _ _

theorem keeps_qcbWrDone (h : a.keeps s) (q : Nat) (r : AccRes) : a.keeps (s.qcbWrDone q r) := by
  unfold State.qcbWrDone
  extract_lets w
  split
  · exact h
  · have hb : a.keeps { s with wqs := s.wqs.put q { w with busLogged := true } } := State.keeps_same h (by rfl)
    exact keeps_ite (keeps_queueFault h _ _ _ _) (keeps_ite (keeps_ite (keeps_fltAt hb _ _ (by decide)) hb) h)

theorem keeps_wqFnReset (h : a.keeps s) (q : Nat) (faults : Bool) : a.keeps (s.wqFnReset q faults) := by
  unfold State.wqFnReset
  extract_lets w e carried n v unread u
  refine keeps_ite h ?_
  have hv : a.keeps v := keeps_later h _
  have hu : a.keeps u := keeps_ite (keeps_later (State.keeps_same hv (by rfl)) _) (keeps_wqStop hv _ _ _ _ _ _)
  exact State.keeps_same hu (by rfl)

end

end Sys2Proof.Machine
end

section
namespace Sys2Proof.Machine

section
variable {a s t : State}

/-! ### Send records -/

theorem keeps_authFail (h : a.keeps s) (dom node : Nat) : a.keeps (s.authFail dom node) :=
  keeps_flt (keeps_bump (State.keeps_same h (by rfl)) _ _ (by decide) (by decide)) _ (by decide)

theorem keeps_toRouter (h : a.keeps s) (cls : Nat) (b : UnitBody) : a.keeps (s.toRouter cls b) := State.keeps_same h (by rfl)

theorem keeps_inject (h : a.keeps s) (p : Packet) (cls : Nat) (scav : Bool) : a.keeps (s.inject p cls scav) := State.keeps_same h (by rfl)

theorem keeps_updTx (h : a.keeps s) (k : Nat) (f : PairTx → PairTx) : a.keeps (s.updTx k f) := State.keeps_same h (by rfl)

theorem keeps_updPkt (h : a.keeps s) (k psn : Nat) (f : TxPkt → TxPkt) : a.keeps (s.updPkt k psn f) := keeps_updTx h _ _

theorem keeps_txRecord (h : a.keeps s) (port fn node func chan : Nat) : a.keeps (s.txRecord port fn node func chan).1 := by
  unfold State.txRecord
  extract_lets k t
  split
  · exact h
  · exact State.keeps_same h (by rfl)

theorem keeps_txSend (h : a.keeps s) (k : Nat) (x : TxPkt) (payload : List Byte) (scav : Bool) : a.keeps (s.txSend k x payload scav) := by
  unfold State.txSend
  extract_lets t v
  have hv : a.keeps v := keeps_updPkt h _ _ _
  split
  · exact keeps_inject (keeps_updTx hv _ _) _ _ _
  · exact hv

theorem keeps_txForm (h : a.keeps s) (k : Nat) (x : TxPkt) (payload : List Byte) (scav : Bool) : a.keeps (s.txForm k x payload scav) :=
  keeps_txSend (keeps_updTx h _ _) _ _ _ _

theorem keeps_txForget (h : a.keeps s) (k op : Nat) : a.keeps (s.txForget k op) := keeps_updTx h _ _

theorem keeps_txSettle (h : a.keeps s) (k : Nat) : a.keeps (s.txSettle k) := by
  refine keeps_ite h (keeps_foldl (fun s j hs => ?_) _ h)
  extract_lets o
  split
  · exact keeps_ite (keeps_txForget (keeps_opFin hs _ _ _ _) _ _) hs
  · exact keeps_ite (keeps_txForget (keeps_opFin hs _ _ _ _) _ _) hs

theorem keeps_txResend (h : a.keeps s) (k psn : Nat) (counted : Bool) : a.keeps (s.txResend k psn counted) := by
  unfold State.txResend
  extract_lets t
  split
  · exact h
  · extract_lets u v o w
    have hu : a.keeps u := keeps_ite (keeps_count (keeps_bump (keeps_updPkt h _ _ _) _ _ (by decide) (by decide)) _ _ _ _) h
    have hv : a.keeps v := keeps_updPkt hu _ _ _
    have hw : a.keeps w := keeps_updPkt hv _ _ _
    refine keeps_ite h ?_
    split
    · exact keeps_txSend hv _ _ _ _
    · exact State.keeps_same hw (by rfl)

theorem keeps_txAfterAck (h : a.keeps s) (k : Nat) : a.keeps (s.txAfterAck k) := keeps_foldl (fun _ _ hs => keeps_txResend hs _ _ _) _ h

/-! ### Receive records -/

theorem keeps_updRx (h : a.keeps s) (k : Nat) (f : PairRx → PairRx) : a.keeps (s.updRx k f) := State.keeps_same h (by rfl)

theorem keeps_sendCtl (h : a.keeps s) (port fn node func chan dom : Nat) (kind : CtlKind) (psn status : Nat) (arg : Word) (body : List Word) (dstInc : Nat) :
    a.keeps (s.sendCtl port fn node func chan dom kind psn status arg body dstInc) := by
  unfold State.sendCtl
  extract_lets key
  split
  · exact keeps_ite h (keeps_ite (State.keeps_same h (by rfl)) (keeps_toRouter (keeps_count (State.keeps_same h (by rfl)) _ _ _ _) _ _))
  · exact h

theorem keeps_rxCtl (h : a.keeps s) (k : Nat) (kind : CtlKind) (psn status : Nat) (arg : Word) : a.keeps (s.rxCtl k kind psn status arg) :=
  keeps_sendCtl h _ _ _ _ _ _ _ _ _ _ _ _

theorem keeps_rxAck (h : a.keeps s) (k : Nat) : a.keeps (s.rxAck k) := keeps_rxCtl (keeps_updRx h _ _) _ _ _ _ _

theorem keeps_dupAnswer (h : a.keeps s) (k psn : Nat) : a.keeps (s.dupAnswer k psn) := by
  unfold State.dupAnswer
  split
  · exact keeps_rxCtl h _ _ _ _ _
  · exact keeps_rxAck h _

theorem keeps_rxHandled (h : a.keeps s) (k : Nat) (last : Bool) : a.keeps (s.rxHandled k last) := by
  unfold State.rxHandled
  extract_lets r psn u v
  have hu : a.keeps u := keeps_ite h (keeps_ledger h _ _ _)
  have hv : a.keeps v := keeps_updRx hu _ _
  exact keeps_ite (keeps_later (keeps_dupAnswer (keeps_updRx h _ _) _ _) _) (keeps_later (keeps_ite (keeps_rxAck hv _) hv) _)

theorem keeps_rxTake (h : a.keeps s) (k : Nat) : a.keeps (s.rxTake k) := keeps_later (keeps_updRx h _ _) _

theorem keeps_rxConfirm (h : a.keeps s) (k bytes : Nat) : a.keeps (s.rxConfirm k bytes) :=
  keeps_later (keeps_rxAck (keeps_updRx (keeps_ledger h _ _ _) _ _) _) _

theorem keeps_rxNack (h : a.keeps s) (k : Nat) (kind : CtlKind) (retry : Nat) : a.keeps (s.rxNack k kind retry) := by
  unfold State.rxNack
  extract_lets r f psns v
  have hf : f.off ≠ 0x10000 ∧ (f.off < 0x30100 ∨ 0x30140 ≤ f.off) := by
    unfold f
    split
    · decide
    · decide
    · decide
  exact keeps_later (keeps_foldl (fun _ _ hs => keeps_rxCtl (keeps_bump hs _ _ hf.1 hf.2) _ _ _ _ _) _ (keeps_updRx h _ _)) _

theorem keeps_rxDrop (h : a.keeps s) (k : Nat) : a.keeps (s.rxDrop k) := keeps_later (keeps_updRx h _ _) _

theorem keeps_rxRefuse (h : a.keeps s) (k status : Nat) : a.keeps (s.rxRefuse k status) := by
  unfold State.rxRefuse
  extract_lets r
  split
  · exact h
  · have hn := keeps_rxNack h k .nackRnr s.rnrStages
    refine keeps_ite (keeps_later (keeps_rxCtl (keeps_updRx h _ _) _ _ _ _ _) _) (keeps_ite hn (keeps_ite ?_ ?_))
    · exact keeps_later (keeps_rxCtl (keeps_updRx h _ _) _ _ _ _ _) _
    · exact keeps_rxHandled (keeps_updRx h _ _) _ _

theorem keeps_specFail (h : a.keeps s) (k : Nat) (p : Packet) : a.keeps (s.specFail k p) := keeps_ite (keeps_bump h _ _ (by decide) (by decide)) h

theorem keeps_rxPop (h : a.keeps s) (k : Nat) : a.keeps (s.rxPop k).1 := by
  unfold State.rxPop
  extract_lets r
  split
  · exact h
  · split
    · exact keeps_updRx h _ _
    · split
      · exact h
      · extract_lets v
        have hv : a.keeps v := keeps_updRx h _ _
        split
        · exact keeps_bump hv _ _ (by decide) (by decide)
        · exact keeps_updRx hv _ _

end

end Sys2Proof.Machine
end

section
namespace Sys2Proof.Machine

section
variable {a s t : State}

/-! ### Operations on their channels -/

theorem keeps_updChan (h : a.keeps s) (c : Nat) (f : Chan → Chan) : a.keeps (s.updChan c f) := State.keeps_same h (by rfl)

theorem keeps_jump (h : a.keeps s) (c : Nat) (bs : List Burst) : a.keeps (s.jump c bs) := keeps_foldl (fun _ _ hs => keeps_updChan hs _ _) _ h

theorem keeps_opForm (fuel : Nat) (h : a.keeps s) (k : Nat) (scav : Bool) : a.keeps (State.opForm fuel s k scav) := by
  induction fuel generalizing s with
  | zero => exact h
  | succ fuel ih =>
    unfold State.opForm
    extract_lets o r
    refine keeps_ite h (keeps_ite h ?_)
    split
    · exact h
    · exact ih (keeps_txForm (keeps_updOp h _ _) _ _ _ _)

/-- Forgetting the accesses of bursts that are gone. -/
theorem keeps_accDrops {β : Type} (f : State → β → List Nat) (l : List β) (h : a.keeps s) :
    a.keeps (l.foldl (fun s b => (f s b).foldl (fun s i => s.accDrop i) s) s) :=
  keeps_foldl (fun _ _ hs => keeps_foldl (fun _ _ hs => keeps_accDrop hs _) _ hs) _ h

theorem keeps_opCutFrom (h : a.keeps s) (k off : Nat) : a.keeps (s.opCutFrom k off) := by
  unfold State.opCutFrom
  extract_lets o
  split
  · exact h
  · exact keeps_updChan (keeps_accDrops _ _ h) _ _

theorem keeps_opCut (h : a.keeps s) (k : Nat) : a.keeps (s.opCut k) := keeps_opCutFrom h k 0

theorem keeps_bulkFail (h : a.keeps s) (k st : Nat) : a.keeps (s.bulkFail k st) := by
  unfold State.bulkFail
  extract_lets o u v w
  have hu : a.keeps u := keeps_opCut h k
  have hw : a.keeps w := keeps_opFin hu _ _ _ _
  exact keeps_ite h (keeps_ite (keeps_txSettle (keeps_updOp hu _ _) _) (keeps_ite (keeps_txForget hw _ _) hw))

theorem keeps_failFrom (h : a.keeps s) (k off st : Nat) : a.keeps (s.failFrom k off st) := by
  unfold State.failFrom
  extract_lets o
  refine keeps_ite h ?_
  split
  · exact keeps_ite (keeps_bulkFail h _ _) (keeps_later (keeps_updOp (keeps_opCutFrom h _ _) _ _) _)
  · exact keeps_bulkFail h _ _

theorem keeps_failEnd (h : a.keeps s) (c k : Nat) : a.keeps (s.failEnd c k) := by
  unfold State.failEnd
  extract_lets o ch
  split
  · exact keeps_ite (keeps_bulkFail h _ _) h
  · exact h

theorem keeps_chanForm_go (c : Nat) (scav : Bool) (ks : List Nat) (h : a.keeps s) : a.keeps (State.chanForm.go c scav ks s) := by
  induction ks generalizing s with
  | nil => exact h
  | cons k ks ih =>
    unfold State.chanForm.go
    extract_lets o v
    have hv : a.keeps v := keeps_failEnd (keeps_ite (keeps_opForm _ h _ _) h) _ _
    exact keeps_ite (ih h) (keeps_ite (ih hv) hv)

theorem keeps_chanForm (h : a.keeps s) (c : Nat) (scav : Bool) : a.keeps (s.chanForm c scav) := keeps_chanForm_go c scav _ h

theorem keeps_drainRead (fuel : Nat) (h : a.keeps s) (c k : Nat) : a.keeps (State.drainRead fuel s c k) := by
  induction fuel generalizing s with
  | zero => exact h
  | succ fuel ih =>
    unfold State.drainRead
    extract_lets o ready
    split
    · exact h
    · extract_lets u v w
      have hv : a.keeps v := keeps_updOp (keeps_updChan h _ _) _ _
      exact keeps_ite h (ih (keeps_ite (keeps_chanForm hv _ _) (keeps_later hv _)))

theorem keeps_rfEnd (h : a.keeps s) (c st : Nat) : a.keeps (s.rfEnd c st) := by
  unfold State.rfEnd
  extract_lets ch gone u p v
  have hv : a.keeps v := keeps_updChan (keeps_foldl (fun _ _ hs => keeps_accDrop hs _) _ h) _ _
  exact keeps_ite (keeps_msix hv _ _ _) hv

theorem keeps_rfBus (h : a.keeps s) (c off : Nat) : a.keeps (s.rfBus c off) := keeps_updChan (keeps_rfEnd (keeps_updChan h _ _) _ _) _ _

theorem keeps_burstDrop (h : a.keeps s) (c bid : Nat) : a.keeps (s.burstDrop c bid) := keeps_updChan h _ _

theorem keeps_localDone (h : a.keeps s) (k off len : Nat) : a.keeps (s.localDone k off len) := by
  unfold State.localDone
  extract_lets u o v w
  have hu : a.keeps u := keeps_updOp h _ _
  have hw : a.keeps w := keeps_opFin (keeps_ite (keeps_ctrSignal hu _ _) hu) _ _ _ _
  exact keeps_ite (keeps_ite (keeps_later hu _) hu)
    (keeps_ite (keeps_txSettle hu _) (keeps_ite (keeps_ite (keeps_txForget hw _ _) hw) hu))

/-! ### Bursts -/

theorem keeps_burstOk (h : a.keeps s) (c : Nat) (b : Burst) (bs : List Byte) : a.keeps (s.burstOk c b bs) := by
  have hd := keeps_burstDrop h c b.id
  unfold State.burstOk
  split
  · exact keeps_drainRead _ (keeps_updChan h _ _) _ _
  · exact keeps_drainRead _ (keeps_updChan h _ _) _ _
  · have hv := keeps_updOp hd b.op
    exact keeps_ite (keeps_endRun (keeps_opFin (keeps_opCut (hv _) _) _ _ _ _) _ _ _) (keeps_later (hv _) _)
  · exact keeps_jump hd _ _
  · exact keeps_later (keeps_localDone hd _ _ _) _
  · exact keeps_ledger (keeps_localDone hd _ _ _) _ _ _
  · extract_lets v
    have hv : a.keeps v := hd
    split
    · exact keeps_ite hv (keeps_txSend hv _ _ _ _)
    · exact hv
  · exact keeps_jump hd _ _
  · exact keeps_jump hd _ _
  · exact keeps_updChan hd _ _
  · exact keeps_updChan hd _ _
  · exact keeps_later hd _
  · exact keeps_later hd _
  · extract_lets v ch
    have hv : a.keeps v := keeps_updChan h _ _
    exact keeps_ite (keeps_later hv _) hv

theorem keeps_burstBus (h : a.keeps s) (c : Nat) (b : Burst) : a.keeps (s.burstBus c b) := by
  unfold State.burstBus
  extract_lets v
  have hv : a.keeps v := keeps_burstDrop h c b.id
  split
  · exact keeps_rfBus hv _ _
  · exact keeps_rfBus hv _ _
  · exact keeps_rfBus hv _ _
  · exact keeps_later hv _
  · exact keeps_later hv _
  · exact keeps_updChan hv _ _
  · exact keeps_later hv _
  · exact keeps_later hv _
  · exact keeps_bulkFail (keeps_updPkt hv _ _ _) _ _
  · exact keeps_failFrom hv _ _ _
  · exact keeps_bulkFail hv _ _
  · exact keeps_failFrom hv _ _ _

theorem keeps_burstDone (h : a.keeps s) (c bid : Nat) (r : AccRes) : a.keeps (s.burstDone c bid r) := by
  have hd := keeps_later (keeps_burstDrop h c bid)
  unfold State.burstDone
  split
  · exact h
  · next b _ =>
    have hb := keeps_burstBus h c b
    cases r with
    | bytes bs => exact keeps_burstOk h _ _ _
    | ok ws => exact keeps_burstOk h _ _ _
    | busErr => exact hb
    | refused =>
      dsimp only
      split
      · exact hd _
      · exact hb
      · exact hb
      · exact hb
      · exact hb
      · exact hb
      · exact keeps_endRun (keeps_bulkFail h _ _) _ _ _
    | xlate cause level va =>
      dsimp only
      split
      · exact hd _
      · exact hd _
      · exact keeps_updChan h _ _

theorem keeps_opCancelParked (h : a.keeps s) (k : Nat) : a.keeps (s.opCancelParked k) := by
  unfold State.opCancelParked
  extract_lets o u v
  have hu : a.keeps u := by
    unfold u
    split
    · exact keeps_updChan (keeps_opCut h _) _ _
    · exact h
  have hv : a.keeps v := keeps_opFin (keeps_updOp hu _ _) _ _ _ _
  exact keeps_ite (keeps_txForget hv _ _) hv

theorem keeps_sweep (h : a.keeps s) : a.keeps s.sweep :=
  keeps_foldl (fun _ _ hs => keeps_ite hs (keeps_later (keeps_updChan (keeps_accDrops _ _ hs) _ _) _)) _ (State.keeps_same h (by rfl))

/-! ### Responses and read-outs -/

theorem keeps_readout (h : a.keeps s) (k pasid : Nat) (pieces : List (Nat × Nat)) : a.keeps (s.readout k pasid pieces) :=
  keeps_ite (keeps_later h _) (keeps_jump h _ _)

theorem keeps_takeReadout (h : a.keeps s) (k : Nat) : a.keeps (s.takeReadout k).1 := keeps_updChan h _ _

theorem keeps_respond (h : a.keeps s) (k : Nat) (req : Packet) (op : PktOp) (raddr : Nat) (payload : List Byte) (last : Bool) :
    a.keeps (s.respond k req op raddr payload last) := by
  unfold State.respond
  extract_lets r
  split
  · exact keeps_ite h (keeps_inject h _ _ _)
  · exact h

/-! ### Remote accesses -/

theorem keeps_kask (h : a.keeps s) (index : Nat) (w : KeyWait) : a.keeps (s.kask index w) := by
  unfold State.kask
  extract_lets busy v
  have hv : a.keeps v := keeps_count (State.keeps_same h (by rfl)) _ _ _ _
  exact keeps_ite hv (keeps_out hv _)

theorem keeps_keyFail (h : a.keeps s) (st : Nat) : a.keeps (s.keyFail st) :=
  keeps_ite (keeps_bump h _ _ (by decide) (by decide))
    (keeps_ite (keeps_bump h _ _ (by decide) (by decide)) (keeps_ite (keeps_bump h _ _ (by decide) (by decide)) h))

theorem keeps_remoteSignal (h : a.keeps s) (k : Nat) (p : Packet) : a.keeps (s.remoteSignal k p) := keeps_ite (keeps_ctrSignal h _ _) h

theorem keeps_rmaAct (h : a.keeps s) (k : Nat) (p : Packet) (e : KeyEnt) : a.keeps (s.rmaAct k p e) := by
  unfold State.rmaAct
  extract_lets off v
  have hv : a.keeps v := keeps_updRx h _ _
  split
  · exact keeps_ite (keeps_rxHandled (keeps_remoteSignal hv _ _) _ _) (keeps_access (keeps_updRx hv _ _) _ _ _ _ _ _ _)
  · exact keeps_readout (keeps_updRx hv _ _) _ _ _
  · exact keeps_ite (keeps_rxNack (keeps_bump hv _ _ (by decide) (by decide)) _ _ _) (keeps_access (keeps_updRx hv _ _) _ _ _ _ _ _ _)

theorem keeps_rmaStep (h : a.keeps s) (k : Nat) : a.keeps (s.rmaStep k) := by
  unfold State.rmaStep
  extract_lets r fail
  split
  · exact h
  · extract_lets i v
    have hf : ∀ {s : State} (st : Nat), a.keeps s → a.keeps (fail s st) := fun st hs => keeps_rxRefuse (keeps_keyFail hs st) _ _
    refine keeps_ite ?_ (keeps_ite (hf _ h) ?_)
    · split
      · exact keeps_rxHandled (keeps_respond h _ _ _ _ _ _) _ _
      · exact keeps_rxHandled h _ _
    · split
      · exact keeps_kask (keeps_updRx h _ _) _ _
      · have hv : a.keeps v := State.keeps_same h (by rfl)
        split
        · exact hf _ hv
        · exact keeps_rmaAct hv _ _ _

theorem keeps_placeDone (h : a.keeps s) (k : Nat) (res : AccRes) : a.keeps (s.placeDone k res) := by
  unfold State.placeDone
  extract_lets r
  split
  · exact h
  · cases res with
    | xlate cause level va => exact keeps_rxNack (keeps_faultOnce h _ _ _ _ _ _ _) _ _ _
    | busErr => exact keeps_rxRefuse h _ _
    | refused => exact keeps_rxRefuse (keeps_keyFail h _) _ _
    | ok ws => exact keeps_ite (State.keeps_same h (by rfl)) (keeps_rxHandled (keeps_remoteSignal h _ _) _ _)
    | bytes bs => exact h

theorem keeps_getDone (h : a.keeps s) (k : Nat) (fault : Option (Nat × Nat × Nat)) (bus : Bool) : a.keeps (s.getDone k fault bus) := by
  have ht := keeps_takeReadout h k
  unfold State.getDone
  split
  next u data e =>
  rw [e] at ht
  extract_lets r
  split
  · exact ht
  · extract_lets en
    split
    · exact keeps_ite (keeps_rxRefuse (keeps_keyFail ht _) _ _) (keeps_rxNack (keeps_faultOnce ht _ _ _ _ _ _ _) _ _ _)
    · exact keeps_ite (keeps_rxRefuse ht _ _)
        (keeps_rxHandled (keeps_remoteSignal (keeps_foldl (fun _ _ hs => keeps_respond hs _ _ _ _ _ _) _ ht) _ _) _ _)

theorem keeps_revokeCheck (h : a.keeps s) : a.keeps s.revokeCheck := keeps_foldl (fun _ _ hs => keeps_ite hs (keeps_opDone hs _ _ _ _)) _ h

end

end Sys2Proof.Machine
end

section
namespace Sys2Proof.Machine

section
variable {a s t : State}

/-! ### The matching engine -/

theorem keeps_updCtx (h : a.keeps s) (c : Nat) (f : Mctx → Mctx) : a.keeps (s.updCtx c f) := State.keeps_same h (by rfl)

theorem keeps_updMsg (h : a.keeps s) (m : Nat) (f : Msg → Msg) : a.keeps (s.updMsg m f) := State.keeps_same h (by rfl)

theorem keeps_predDrop (h : a.keeps s) (op : Nat) : a.keeps (s.predDrop op) := State.keeps_same h (by rfl)

theorem keeps_postDone (h : a.keeps s) (op node func : Nat) (tag : Word) (st bytes : Nat) : a.keeps (s.postDone op node func tag st bytes) :=
  keeps_opDone (keeps_updOp (keeps_predDrop h _) _ _) _ _ _ _

theorem keeps_rgetZero (h : a.keeps s) (ctx : Nat) (u : Unexp) : a.keeps (s.rgetZero ctx u) :=
  keeps_txForm (keeps_txRecord h _ _ _ _ _) _ _ _ _

theorem keeps_dropAllUnexp (h : a.keeps s) (ctx : Nat) : a.keeps (s.dropAllUnexp ctx) := keeps_updCtx (keeps_foldl (fun _ _ hs => keeps_rgetZero hs _ _) _ h) _ _

theorem keeps_dropAllPosted (h : a.keeps s) (ctx st : Nat) : a.keeps (s.dropAllPosted ctx st) :=
  keeps_foldl (fun _ _ hs => keeps_postDone hs _ _ _ _ _ _) _ (keeps_updCtx h _ _)

theorem keeps_msgDrop (h : a.keeps s) (key : Nat) : a.keeps (s.msgDrop key) := keeps_updCtx (State.keeps_same h (by rfl)) _ _

theorem keeps_nackMsgs (h : a.keeps s) (p : Msg → Bool) : a.keeps (s.nackMsgs p) :=
  keeps_foldl (fun _ _ hs => keeps_rxNack (keeps_msgDrop hs _) _ _ _) _ h

theorem keeps_msgStale (h : a.keeps s) (k : Nat) : a.keeps (s.msgStale k) := keeps_foldl (fun _ _ hs => keeps_msgDrop hs _) _ h

theorem keeps_ctxBroken (h : a.keeps s) (ctx : Nat) : a.keeps (s.ctxBroken ctx) :=
  keeps_ite h (keeps_dropAllUnexp (keeps_dropAllPosted (keeps_nackMsgs
    (keeps_foldl (fun _ _ hs => keeps_opDone (keeps_opCut hs _) _ _ _ _) _ (keeps_updCtx h _ _)) _) _ _) _)

theorem keeps_ctxError (h : a.keeps s) (ctx : Nat) : a.keeps (s.ctxError ctx) := keeps_ite h (keeps_ctxBroken (keeps_fltAt h _ _ (by decide)) _)

theorem keeps_poolStart (h : a.keeps s) (c : Nat) : a.keeps (s.poolStart c) :=
  keeps_foldl (fun _ _ hs => keeps_ite (keeps_later (keeps_updOp hs _ _) _) (keeps_jump (keeps_updOp hs _ _) _ _)) _ h

theorem keeps_pooled (h : a.keeps s) (k : Nat) (ok : Bool) : a.keeps (s.pooled k ok) := by
  unfold State.pooled
  extract_lets o u v
  have hu : a.keeps u := keeps_updCtx h _ _
  exact keeps_ite h (keeps_ite (keeps_ctxError h _) (keeps_opDone (keeps_ite (keeps_ctrSignal hu _ _) hu) _ _ _ _))

theorem keeps_specPlace (h : a.keeps s) (key off : Nat) (bs : List Byte) : a.keeps (s.specPlace key off bs) := by
  unfold State.specPlace
  extract_lets m c
  split
  · exact h
  · exact keeps_ite h (keeps_access h _ _ _ _ _ _ _)

theorem keeps_msgPlace (h : a.keeps s) (key : Nat) : a.keeps (s.msgPlace key) := by
  unfold State.msgPlace
  extract_lets m c
  split
  · exact h
  · exact keeps_ite (keeps_updMsg h _ _) (keeps_access (keeps_updMsg h _ _) _ _ _ _ _ _ _)

theorem keeps_poolWritten (h : a.keeps s) (key : Nat) : a.keeps (s.poolWritten key) :=
  keeps_ite h (keeps_rxConfirm (keeps_updCtx (State.keeps_same h (by rfl)) _ _) _ _)

theorem keeps_msgReady (h : a.keeps s) (key : Nat) : a.keeps (s.msgReady key) := by
  unfold State.msgReady
  extract_lets m c
  refine keeps_ite h ?_
  split
  · exact keeps_ite (keeps_updMsg h _ _) h
  · exact keeps_ite (keeps_msgPlace h _) h
  · exact keeps_ite (keeps_poolWritten h _) (keeps_access (keeps_updMsg h _ _) _ _ _ _ _ _ _)
  · exact h

theorem keeps_matStep (h : a.keeps s) (k : Nat) : a.keeps (s.matStep k) := by
  unfold State.matStep
  extract_lets r key base m₀
  split
  · exact h
  · next p _ =>
    extract_lets ctx m u v off w x
    have hw : a.keeps w := keeps_updMsg h _ _
    have hx : a.keeps x := keeps_ite (keeps_specPlace hw _ _ _) hw
    refine keeps_ite (keeps_ite (keeps_rxDrop h _) ?_) (keeps_msgReady (keeps_rxTake hx _) _)
    split
    · exact keeps_rxRefuse h _ _
    · have hu : a.keeps u := State.keeps_same h (by rfl)
      refine keeps_ite (keeps_rxNack h _ _ _) (keeps_rxTake (keeps_ite hu ?_) _)
      split
      · exact keeps_specPlace (keeps_updMsg hu _ _) _ _ _
      · exact hu

theorem keeps_msgPlaced (h : a.keeps s) (key : Nat) (res : AccRes) : a.keeps (s.msgPlaced key res) := by
  unfold State.msgPlaced
  extract_lets m c r base f u v
  have hu : a.keeps u := keeps_updRx h _ _
  have hv : a.keeps v := by
    unfold v
    split
    · exact keeps_postDone hu _ _ _ _ _ _
    · exact hu
  refine keeps_ite h ?_
  split
  · have hf := keeps_faultOnce h
    exact keeps_ite (keeps_updMsg (hf _ _ _ _ _ _ _) _ _) (keeps_rxNack (keeps_msgDrop (hf _ _ _ _ _ _ _) _) _ _ _)
  · exact keeps_updMsg h _ _
  · exact h
  · exact keeps_later (keeps_rxCtl (State.keeps_same hv (by rfl)) _ _ _ _ _) _

theorem keeps_specPlaced (h : a.keeps s) (key n : Nat) (res : AccRes) : a.keeps (s.specPlaced key n res) := by
  unfold State.specPlaced
  extract_lets m
  refine keeps_ite h ?_
  split
  · exact keeps_msgReady (keeps_updMsg (keeps_ite h (keeps_count (keeps_bump (keeps_updMsg h _ _) _ _ (by decide) (by decide)) _ _ _ _)) _ _) _
  · exact keeps_msgReady (keeps_updMsg h _ _) _

theorem keeps_spillDone (h : a.keeps s) (ctx : Nat) (res : AccRes) : a.keeps (s.spillDone ctx res) := by
  unfold State.spillDone
  extract_lets c
  split
  · exact keeps_ite (keeps_updCtx h _ _) h
  · exact h
  · exact keeps_ctxError h _

theorem keeps_rgetStep (h : a.keeps s) (k : Nat) : a.keeps (s.rgetStep k) := by
  unfold State.rgetStep
  extract_lets r
  split
  · exact h
  · extract_lets off mine
    split
    · exact keeps_rxHandled h _ _
    · exact keeps_readout (keeps_updRx h _ _) _ _ _

theorem keeps_rgetDone (h : a.keeps s) (k : Nat) (fault : Option (Nat × Nat × Nat)) (bus : Bool) : a.keeps (s.rgetDone k fault bus) := by
  have ht := keeps_takeReadout h k
  unfold State.rgetDone
  split
  next u data e =>
  rw [e] at ht
  extract_lets r
  split
  · extract_lets pasid off v
    split
    · exact keeps_ite (keeps_rxRefuse ht _ _) (keeps_rxNack (keeps_faultOnce ht _ _ _ _ _ _ _) _ _ _)
    · have hv : a.keeps v := keeps_respond ht _ _ _ _ _ _
      exact keeps_ite (keeps_rxRefuse ht _ _) (keeps_rxHandled (keeps_ite (State.keeps_same hv (by rfl)) hv) _ _)
  · exact ht

/-! ### Groups and convoys -/

theorem keeps_updPort (h : a.keeps s) (p : Nat) (f : FPort → FPort) : a.keeps (s.updPort p f) := State.keeps_same h (by rfl)

theorem keeps_updGrp (h : a.keeps s) (g : Nat) (f : Cgrp → Cgrp) : a.keeps (s.updGrp g f) := State.keeps_same h (by rfl)

theorem keeps_updEdge (h : a.keeps s) (g port : Nat) (f : CEdge → CEdge) : a.keeps (s.updEdge g port f) := keeps_updGrp h _ _

theorem keeps_colEmit (h : a.keeps s) (g port : Nat) (x : CTx) : a.keeps (s.colEmit g port x) := by
  unfold State.colEmit
  extract_lets r up
  split
  · exact h
  · exact keeps_ite h (keeps_updPort h _ _)

theorem keeps_colSend (h : a.keeps s) (g port kind seq seg : Nat) (rkey opid : Word) (payload : List Byte) :
    a.keeps (s.colSend g port kind seq seg rkey opid payload) := by
  unfold State.colSend
  split
  · exact h
  · exact keeps_colEmit (keeps_updEdge h _ _ _) _ _ _

theorem keeps_colCredit (h : a.keeps s) (g port n : Nat) : a.keeps (s.colCredit g port n) := keeps_colSend h _ _ _ _ _ _ _ _

theorem keeps_memEnd (h : a.keeps s) (g port fn st : Nat) : a.keeps (s.memEnd g port fn st) := by
  unfold State.memEnd
  extract_lets r
  split
  · exact h
  · split
    · exact h
    · exact keeps_later (keeps_updGrp (keeps_opFin (keeps_opCut h _) _ _ _ _) _ _) _

theorem keeps_grpBroken (h : a.keeps s) (g cause : Nat) (remote : Bool) (culprit : Option (Nat × Nat)) (from' : Option Nat) :
    a.keeps (s.grpBroken g cause remote culprit from') := by
  unfold State.grpBroken
  extract_lets r u v w x
  have hv : a.keeps v := keeps_bump (keeps_updGrp h _ _) _ _ (by decide) (by decide)
  have hw : a.keeps w := keeps_ite (keeps_bump hv _ _ (by decide) (by decide)) hv
  have hx : a.keeps x := keeps_foldl (fun _ _ hs => keeps_ite hs (keeps_colSend hs _ _ _ _ _ _ _ _)) _ hw
  exact keeps_ite h (keeps_foldl (fun _ _ hs => keeps_memEnd hs _ _ _ _) _ hx)

theorem keeps_grpBreak (h : a.keeps s) (g cause : Nat) (remote : Bool) (culprit : Option (Nat × Nat)) (from' : Option Nat) :
    a.keeps (s.grpBreak g cause remote culprit from') := keeps_ite h (keeps_grpBroken (keeps_flt h _ (by decide)) _ _ _ _ _)

theorem keeps_slotPut (h : a.keeps s) (g child : Nat) (p : Packet) : a.keeps (s.slotPut g child p) := keeps_updGrp h _ _

theorem keeps_memGive (fuel : Nat) (h : a.keeps s) (g j : Nat) : a.keeps (State.memGive fuel s g j) := by
  induction fuel generalizing s with
  | zero => exact h
  | succ fuel ih =>
    unfold State.memGive
    extract_lets r
    split
    · exact h
    · split
      · exact h
      · extract_lets o
        split
        extract_lets base
        refine keeps_ite h ?_
        split
        refine keeps_ite h (ih (keeps_updGrp (keeps_slotPut (keeps_ite (keeps_updOp h _ _) h) _ _ _) _ _))

theorem keeps_memCheck (h : a.keeps s) (g j : Nat) : a.keeps (s.memCheck g j) := by
  unfold State.memCheck
  split
  · exact h
  · split
    · exact h
    · exact keeps_ite (keeps_memEnd h _ _ _ _) h

theorem keeps_memPlaced (h : a.keeps s) (g j seq seg : Nat) : a.keeps (s.memPlaced g j seq seg) :=
  keeps_memCheck (keeps_count (keeps_updGrp h _ _) _ _ _ _) _ _

theorem keeps_downPump (h : a.keeps s) (g : Nat) : a.keeps (s.downPump g) := by
  unfold State.downPump
  extract_lets r u done v
  have hu : a.keeps u := by
    refine keeps_foldl (fun s port hs => keeps_foldl (fun s d hs => ?_) _ hs) _ h
    dsimp only
    split
    · exact keeps_ite (keeps_colSend (keeps_updGrp (keeps_updEdge hs _ _ _) _ _) _ _ _ _ _ _ _ _) hs
    · exact hs
  have hv : a.keeps v := keeps_updGrp hu _ _
  exact keeps_ite hv (keeps_colCredit hv _ _ _)

theorem keeps_collData (h : a.keeps s) (k : Nat) : a.keeps (s.collData k) := by
  unfold State.collData
  split
  · exact h
  · exact keeps_memGive _ h _ _

theorem keeps_collBurst (h : a.keeps s) (k seg : Nat) (ok : Bool) : a.keeps (s.collBurst k seg ok) := by
  unfold State.collBurst
  split
  · exact h
  · exact keeps_ite (keeps_grpBreak h _ _ _ _ _) (keeps_ite h (keeps_downPump (keeps_memPlaced h _ _ _ _) _))

theorem keeps_updCvy (h : a.keeps s) (v : Nat) (f : Cvy → Cvy) : a.keeps (s.updCvy v f) := State.keeps_same h (by rfl)

theorem keeps_cvyNotice (h : a.keeps s) (v : Nat) : a.keeps (s.cvyNotice v) := keeps_ite h (keeps_msix h _ _ _)

theorem keeps_cvyData (h : a.keeps s) (v off : Nat) (bs : List Byte) : a.keeps (s.cvyData v off bs) := keeps_ite (keeps_updCvy h _ _) h

theorem keeps_cvyWritten (h : a.keeps s) (v q : Nat) (res : AccRes) : a.keeps (s.cvyWritten v q res) := by
  unfold State.cvyWritten
  extract_lets c u seen cum w x
  have hu : a.keeps u := keeps_updCvy h _ _
  split
  · have hx : a.keeps x := keeps_updCvy (keeps_ledger hu _ _ _) _ _
    exact keeps_ite (keeps_cvyNotice (keeps_updCvy hx _ _) _) hx
  · exact keeps_faultOnce hu _ _ _ _ _ _ _
  · exact hu

end

end Sys2Proof.Machine
end

section
namespace Sys2Proof.Machine

section
variable {a s t : State}

/-! ### Locks -/

theorem keeps_boostSet (h : a.keeps s) (o : Option Owner) : a.keeps (s.boostSet o) := by
  unfold State.boostSet
  split
  · exact keeps_ite (State.keeps_same h (by rfl)) h
  · exact h

theorem keeps_lockGrant (h : a.keeps s) (n : Nat) (o : Owner) (run : Option Nat) : a.keeps (s.lockGrant n o run) := State.keeps_same h (by rfl)

theorem keeps_lockAsk (h : a.keeps s) (n : Nat) (o : Owner) (run : Option Nat) : a.keeps (s.lockAsk n o run).1 := by
  have hg := keeps_lockGrant h n o run
  unfold State.lockAsk
  extract_lets l busy
  have hb : ∀ w, a.keeps (busy w).1 := fun w => State.keeps_same h (by rfl)
  split
  · split
    · exact h
    · exact hb _
  · split
    · exact hg
    · exact hb _
  · exact hg

theorem keeps_lockTry (h : a.keeps s) (n k : Nat) : a.keeps (s.lockTry n k) := by
  have ha := keeps_lockAsk h n (s.runOwner (k / 64)) (some (k / 64))
  unfold State.lockTry
  split
  next u ab m e =>
    rw [e] at ha
    exact keeps_opDone ha _ _ _ _
  next u m e =>
    rw [e] at ha
    exact ha

theorem keeps_lockPolls (h : a.keeps s) (n : Nat) : a.keeps (s.lockPolls n) := by
  have hv := keeps_foldl (k := fun s k => s.lockTry n k) (fun _ _ hs => keeps_lockTry hs _ _) (s.lockWaiters n) h
  exact State.keeps_same hv (by rfl)

theorem keeps_lockFree (h : a.keeps s) (n : Nat) (aband : Bool) : a.keeps (s.lockFree n aband) := by
  unfold State.lockFree
  extract_lets l v
  have hv : a.keeps v := keeps_ite (keeps_bump h _ _ (by decide) (by decide)) h
  split
  · exact h
  · exact keeps_lockPolls (keeps_boostSet (State.keeps_same hv (by rfl)) _) _

theorem keeps_lockOwnersDie (h : a.keeps s) (p : Owner → Bool) : a.keeps (s.lockOwnersDie p) := by
  refine keeps_foldl (fun s n hs => ?_) _ h
  extract_lets l v l'
  have hv : a.keeps v := keeps_ite (keeps_lockFree hs _ _) hs
  exact keeps_ite (keeps_lockPolls (State.keeps_same hv (by rfl)) _) hv

theorem keeps_lockRunEnd (h : a.keeps s) (ctx : Nat) (ok : Bool) : a.keeps (s.lockRunEnd ctx ok) :=
  keeps_foldl (fun _ _ hs => keeps_ite (State.keeps_same hs (by rfl)) (keeps_lockFree hs _ _)) _ h

/-! ### Resets of functions -/

/-- Resetting functions of a port changes no host port, but for the port's own record afterwards (R29). -/
theorem keeps_fnsReset (h : a.keeps s) (port : Nat) (p : Nat → Bool) (faults : Bool) : a.keeps (s.fnsReset port p faults) :=
  keeps_lockOwnersDie (keeps_foldl (fun _ _ hs => keeps_wqFnReset hs _ _) _
    (keeps_foldl (fun _ _ hs => keeps_grpBreak hs _ _ _ _ _) _ (keeps_foldl (fun _ _ hs => State.keeps_same hs (by rfl)) _ h))) _

/-! ### Accesses of a run that end -/

theorem keeps_runBus (h : a.keeps s) (ctx : Nat) : a.keeps (s.runBus ctx) := keeps_ite (keeps_wqError (keeps_endRun h _ _ _) _ _ _ _ _) (keeps_endRun h _ _ _)

theorem keeps_ownDone (h : a.keeps s) (ctx id : Nat) (kind : AccKind) (r : AccRes) {k : State → List Word → State}
    (hk : ∀ {u : State} (ws : List Word), a.keeps u → a.keeps (k u ws)) : a.keeps (s.ownDone ctx id kind r k) := by
  unfold State.ownDone
  extract_lets v
  have hv : a.keeps v := keeps_updRun h _ _
  refine keeps_ite h ?_
  split
  · exact hk _ hv
  · exact keeps_runBus hv _
  · exact keeps_updRun hv _ _
  · exact keeps_endRun hv _ _ _

theorem keeps_fetchDone (h : a.keeps s) (ctx id : Nat) (r : AccRes) : a.keeps (s.fetchDone ctx id r) := by
  unfold State.fetchDone
  extract_lets x va
  exact keeps_ownDone h _ _ _ _ fun _ hu => keeps_ite hu (State.keeps_same hu (by rfl))

theorem keeps_ldDone (h : a.keeps s) (ctx id rd : Nat) (r : AccRes) : a.keeps (s.ldDone ctx id rd r) :=
  keeps_ownDone h _ _ _ _ fun _ hu => keeps_unblock (keeps_updRun (keeps_count hu _ _ _ _) _ _) _

theorem keeps_stDone (h : a.keeps s) (ctx id : Nat) (r : AccRes) : a.keeps (s.stDone ctx id r) := keeps_ownDone h _ _ _ _ fun _ hu => keeps_retire hu _ _

theorem keeps_descDone (h : a.keeps s) (ctx id : Nat) (r : AccRes) : a.keeps (s.descDone ctx id r) := keeps_ownDone h _ _ _ _ fun _ hu => keeps_updRun hu _ _

theorem keeps_fragDone (h : a.keeps s) (ctx id va : Nat) (r : AccRes) : a.keeps (s.fragDone ctx id va r) :=
  keeps_ownDone h _ _ _ _ fun _ hu => keeps_updRun hu _ _

theorem keeps_runOver (h : a.keeps s) (ctx : Nat) : a.keeps (s.runOver ctx) := by
  unfold State.runOver
  extract_lets r u v
  have hu : a.keeps u := keeps_lockRunEnd h _ _
  have hv : a.keeps v :=
    keeps_ite (keeps_foldl (fun _ _ hs => keeps_ite (keeps_opCancelParked hs _) hs) _ (keeps_updRun hu _ _)) hu
  exact keeps_ite h (keeps_fenceEval (State.keeps_same hv (by rfl)) _)

/-! ### Work and settling -/

theorem keeps_pairNext (h : a.keeps s) (k : Nat) : a.keeps (s.pairNext k) := by
  have hp := keeps_rxPop h k
  unfold State.pairNext
  refine keeps_ite h ?_
  split
  next u e =>
    rw [e] at hp
    exact hp
  next u p e =>
    rw [e] at hp
    have hr := keeps_rxRefuse hp k
    refine keeps_ite (hr _) (keeps_ite (keeps_rxDrop (keeps_specFail (keeps_authFail hp _ _) _ _) _) ?_)
    split
    · exact hr _
    · refine keeps_ite (hr _) ?_
      split
      · exact keeps_rmaStep hp _
      · exact keeps_rmaStep hp _
      · exact keeps_rmaStep hp _
      · exact keeps_matStep hp _
      · exact keeps_matStep hp _
      · exact keeps_rgetStep hp _
      · exact keeps_rxDrop hp _

theorem keeps_accDone (h : a.keeps s) (id : Nat) (r : AccRes) : a.keeps (s.accDone id r) := by
  unfold State.accDone
  extract_lets x good v
  refine keeps_accDrop (s := v) ?_ id
  unfold v
  split
  · exact h
  · exact keeps_prodDone h _ _
  · exact keeps_hdrDone h _ _
  · exact keeps_entryDone h _ _
  · exact keeps_qcbWrDone h _ _
  · exact keeps_ite (keeps_eqWrote h _) (keeps_eqFailed h _)
  · exact keeps_fetchDone h _ _ _
  · exact keeps_ldDone h _ _ _ _
  · exact keeps_stDone h _ _ _
  · exact keeps_descDone h _ _ _
  · exact keeps_fragDone h _ _ _ _
  · exact keeps_burstDone h _ _ _
  · exact keeps_placeDone h _ _
  · exact keeps_specPlaced h _ _ _
  · exact keeps_msgPlaced h _ _
  · exact keeps_ite (keeps_poolWritten h _) (keeps_ctxError h _)
  · exact keeps_spillDone h _ _
  · exact keeps_cvyWritten h _ _ _

theorem keeps_workOne (h : a.keeps s) (w : Work) : a.keeps (s.workOne w) := by
  cases w with
  | acc id r => exact keeps_accDone h id r
  | evSeen c => exact keeps_evSeen h c
  | eqPump e => exact keeps_eqPump h e
  | wqPump q => exact keeps_wqPump h q
  | room e => exact keeps_sweep h
  | form ch => exact keeps_poolStart (keeps_chanForm h _ _) _
  | pairNext k => exact keeps_pairNext h k
  | msgStale k => exact keeps_msgStale h k
  | pairResend k => exact keeps_txAfterAck h k
  | opCut k => exact keeps_opCut h k
  | readoutDone k f bus =>
    show a.keeps (match (s.prx.look k).cur with
      | some p => if p.op == PktOp.rget then s.rgetDone k f bus else s.getDone k f bus
      | none => s.getDone k f bus)
    split
    · exact keeps_ite (keeps_rgetDone h _ _ _) (keeps_getDone h _ _ _)
    · exact keeps_getDone h _ _ _
  | collData k => exact keeps_collData h k
  | cvyData v off bs => exact keeps_cvyData h v off bs
  | collBurst k seg ok => exact keeps_collBurst h k seg ok
  | pooled k ok => exact keeps_pooled h k ok
  | invalCheck => exact keeps_revokeCheck h
  | runEnded c => exact keeps_runOver h c
  | wqReset q => exact keeps_lockOwnersDie h _

theorem keeps_drain (n : Nat) (h : a.keeps s) : a.keeps (drain n s) := by
  induction n generalizing s with
  | zero => exact h
  | succ n ih =>
    unfold drain
    split
    · exact h
    · exact ih (keeps_workOne (State.keeps_same h (by rfl)) _)

theorem keeps_wakeRoom (h : a.keeps s) : a.keeps s.wakeRoom := by
  refine keeps_foldl (fun s ctx hs => ?_) _ h
  extract_lets r waits
  split
  · exact keeps_ite (keeps_unblock hs _) hs
  · exact hs

theorem keeps_errPin (h : a.keeps s) : a.keeps s.errPin := by
  have hp : a.keeps (((s.put F.FLT_STATUS_ANY (b2n (s.anyPending fun _ => true))).put F.FLT_STATUS_PENDING_MAX s.pendingMax).put F.FLT_STATUS_ERR_N_LOW
      (b2n s.errLow)) :=
    keeps_put (keeps_put (keeps_put h _ _ (by decide) (by decide)) _ _ (by decide) (by decide)) _ _ (by decide) (by decide)
  exact keeps_ite hp (keeps_out hp _)

/-- DRAINED stands in DEV_MODE beside the mode. -/
theorem keeps_drained (h : a.keeps s) (n : Nat) : a.keeps (s.put F.DEV_MODE_DRAINED n) := by
  refine ⟨h.ports, h.pdOver, fun hm => ?_, fun src hs hf => ?_⟩
  · rw [State.mode, State.get_put_other _ _ (by decide) (by decide) (by decide)]
    exact h.mode hm
  · have ho := fltPend_off src hs
    have hne : (fltPend src).off ≠ F.DEV_MODE_DRAINED.off := by dsimp only; omega
    rw [State.flag, State.get_put_off _ _ hne]
    exact h.pend src hs hf

section
variable (hd : a.pdOver = [])
include hd

/-- Where no power domain closes, none is switched off. -/
theorem keeps_follow (h : a.keeps s) : a.keeps s.follow := by
  unfold State.follow
  extract_lets v
  have hp : s.pdAttempt = s := State.pdAttempt_nil s (h.pdOver.trans hd)
  have hv : a.keeps v := by
    unfold v
    rw [hp]
    exact keeps_revokeCheck (keeps_wakeRoom h)
  exact keeps_ite h (keeps_ite (keeps_drained hv _) hv)

theorem keeps_rounds (n : Nat) (h : a.keeps s) : a.keeps (rounds n s) := by
  induction n generalizing s with
  | zero => exact h
  | succ n ih =>
    unfold rounds
    have hf := keeps_follow hd (keeps_drain (2 ^ 24) h)
    exact keeps_ite hf (ih hf)

/-- Settling keeps the host ports, Degraded and the pending faults, whatever work the command left. -/
theorem keeps_settle (h : a.keeps s) : a.keeps s.settle := by
  have hr : a.keeps ({ rounds 256 s with work := [] } : State).reactionsEnd := State.keeps_same (keeps_rounds hd 256 h) (by rfl)
  exact keeps_errPin (keeps_ite (keeps_put hr _ _ (by decide) (by decide)) hr)

end

end

end Sys2Proof.Machine
end

section
namespace Sys2Proof.Machine

/-! ### HALTED beside the collector's summary (R517) -/

theorem State.halted_put {s : State} {f : Fld} (n : Nat) (hf : f.ok) (h : 0x30000 ≠ f.off ∨ 10 < f.lo ∨ f.hi < 10) : (s.put f n).halted = s.halted :=
  State.flag_put_other s n hf (by decide) h

theorem State.halted_errPin (s : State) : s.errPin.halted = s.halted := by
  obtain ⟨n, m, k, b, l, e⟩ := s.errPin_form
  have hp : (((s.put F.FLT_STATUS_ANY n).put F.FLT_STATUS_PENDING_MAX m).put F.FLT_STATUS_ERR_N_LOW k).halted = s.halted := by
    rw [State.halted_put _ (by decide) (by decide), State.halted_put _ (by decide) (by decide), State.halted_put _ (by decide) (by decide)]
  rw [e]
  cases b
  · rw [cond_false, State.halted, State.flag, State.get, State.reg_pin]; exact hp
  · rw [cond_true]; exact hp

theorem State.halted_settle {s : State} (h : s.calm) : s.settle.halted = s.halted := by
  rw [State.settle_calm s h, State.halted_errPin, State.halted_put _ (by decide) (by decide)]

/-- An occurrence halts nothing itself. -/
theorem State.halted_occur (s : State) {src : Nat} (syn : Word) (forced : Bool) (port : Option Nat) (hs : src < 512) :
    (s.occur src syn forced port).1.halted = s.halted := by
  have ho := fltPend_off src hs
  have hT : ∀ (u : State) (b : Bool) (n : Nat), (if b then u.put F.FLT_STATUS_TOTAL n else u).halted = u.halted := by
    intro u b n; split
    · exact State.halted_put _ (by decide) (by decide)
    · rfl
  have hH : ∀ (u : State) (b : Bool) (k : Nat) (x : FltRec), (if b then { u with hist := u.hist.put k x } else u).halted = u.halted := by
    intro u b k x; split <;> rfl
  have hF : ∀ (u : State) (b : Bool) (x : FltRec), (if b then { u with first := x } else u).halted = u.halted := by
    intro u b x; split <;> rfl
  have hI : ∀ u : State, (if u.flag (F.FLT_SRC_IRQ_EN src) then
      (if u.fltIrq.contains src then (if u.fltDefer.contains src then u else { u with fltDefer := u.fltDefer ++ [src] })
       else { u.fltMsg with fltIrq := src :: u.fltIrq }) else u).halted = u.halted := by
    intro u
    split
    · split
      · split <;> rfl
      · exact congrArg (fun w => F.FLT_STATUS_HALTED.of w != 0) (u.reg_fltMsg 0x30000)
    · rfl
  cases hc : fltClass src with
  | none => simp only [State.occur, hc]
  | some c =>
    unfold State.occur
    rw [hc]
    simp only
    rw [hI, State.halted_errPin, hF, hH, hT, State.halted_put _ (fltPend_ok src) (.inl (by omega)), State.bump,
      State.halted_put _ (by simp only [Fld.ok]; omega) (.inl (by dsimp only; omega))]

theorem State.active_of_calm {s : State} (h : s.calm) : s.active = [] := by
  obtain ⟨-, -, -, ha, -⟩ := h
  exact ha

/-- Without a reaction under way no occurrence is nested (R511). -/
theorem State.occur_single {s : State} (ha : s.active = []) {src c : Nat} (syn : Word) (forced : Bool) (port : Option Nat) (hc : fltClass src = some c) :
    (s.occur src syn forced port).2 = false := by
  simp only [State.occur, hc, ha, List.any_nil]

section
variable {s : State} (h : s.calm) {src : Nat} (hs : src < 512)
include hs

theorem State.sealed_occur (syn : Word) (forced : Bool) (port : Option Nat) : (s.occur src syn forced port).1.sealed = s.sealed := by
  have hn := (s.noted_occur src syn forced port hs).2 F.SEC_STATUS_SEALED.off (by decide) (by decide)
  rw [State.sealed, State.flag, State.get, hn, ← State.get, ← State.flag, ← State.sealed]

theorem State.get_occur (syn : Word) (forced : Bool) (port : Option Nat) {f : Fld} (hf : ¬ following f.off) (ho : f.off < 0x30000 ∨ 0x34000 ≤ f.off) :
    (s.occur src syn forced port).1.get f = s.get f := by
  rw [State.get, (s.noted_occur src syn forced port hs).2 _ hf ho, ← State.get]

include h in
theorem State.calm_occur (syn : Word) (forced : Bool) (port : Option Nat) : (s.occur src syn forced port).1.calm :=
  State.calm_noted h (s.noted_occur src syn forced port hs)

end

/-- A source of class 2 alone takes a device that is neither sealed nor halted to Degraded (R511, R527). -/
theorem State.flt_degrades {s : State} (ha : s.active = []) (hl : s.sealed = false) (hh : s.halted = false) {src : Nat} (syn : Word) (hs : src < 512)
    (hc : fltClass src = some 2) (hr : (src == 0x041 || src == 0x042 || src == 0x048 || src == 0x049) = false) :
    s.flt src syn = (s.occur src syn false none).1.degrade := by
  simp [State.flt, State.fltAt, hr, hc, State.occur_single ha syn false none hc, State.sealed_occur hs, State.halted_occur s syn false none hs, hl, hh]

end Sys2Proof.Machine
end

section
namespace Sys2Proof.Machine

/-! ### Reactions that end with their command (R514) -/

/-- A state with other reactions under way. -/
def State.withActive (s : State) (l : List (Nat × Scope)) : State := { s with active := l }

theorem State.withActive_reg (s : State) (l : List (Nat × Scope)) (off : Nat) : (s.withActive l).reg off = s.reg off := rfl

theorem State.withActive_mode (s : State) (l : List (Nat × Scope)) : (s.withActive l).mode = s.mode := rfl

theorem State.withActive_setReg (s : State) (l : List (Nat × Scope)) (off : Nat) (w : Word) : (s.withActive l).setReg off w = (s.setReg off w).withActive l := rfl

theorem State.withActive_put (s : State) (l : List (Nat × Scope)) (f : Fld) (n : Nat) : (s.withActive l).put f n = (s.put f n).withActive l := by
  rw [State.put, State.put, State.withActive_reg, State.withActive_setReg]

theorem State.withActive_degrade (s : State) (l : List (Nat × Scope)) : (s.withActive l).degrade = s.degrade.withActive l := by
  have hn : (s.withActive l).now = s.now := rfl
  unfold State.degrade State.enter
  dsimp only
  rw [State.withActive_mode, hn]
  split
  · simp only [State.withActive_put]
  · rfl

theorem State.withActive_discardAll (s : State) (l : List (Nat × Scope)) : (s.withActive l).discardAll = s.discardAll.withActive l := rfl

/-- A halt that finds no queue to stop is over with its command. -/
theorem State.settle_withActive {s : State} (h : s.calm) (hw : s.wqs = []) : (s.withActive [(3, .device)]).settle = s.settle := by
  obtain ⟨h1, h2, h3, h4, h5, h6, h7⟩ := h
  have hf : (s.withActive [(3, .device)]).follow = s.withActive [(3, .device)] := by
    have hx : ((s.withActive [(3, .device)]).pdAttempt.wakeRoom).revokeCheck = s.withActive [(3, .device)] := by
      rw [State.pdAttempt_nil (s.withActive [(3, .device)]) h2, State.wakeRoom_nil (s.withActive [(3, .device)]) h3,
        State.revokeCheck_nil (s.withActive [(3, .device)]) h5]
    have h6' : (s.withActive [(3, .device)]).mode ≠ 3 := h6
    have h7' : (s.withActive [(3, .device)]).hold = .none := h7
    simp [State.follow, h7', hx, h6']
  have hr : rounds 256 (s.withActive [(3, .device)]) = s.withActive [(3, .device)] := by
    unfold rounds
    rw [drain_nil _ (s.withActive [(3, .device)]) h1, hf]
    exact if_pos (by rw [State.withActive, h1]; rfl)
  have e1 : ({ rounds 256 (s.withActive [(3, .device)]) with work := [] } : State).reactionsEnd = s := by
    rw [hr]
    cases s
    simp only at h1 h4 hw
    subst h1 h4 hw
    rfl
  have e2 : ({ rounds 256 s with work := [] } : State).reactionsEnd = s := by
    rw [rounds_calm _ _ ⟨h1, h2, h3, h4, h5, h6, h7⟩]
    cases s
    simp only at h1 h4
    subst h1 h4
    rfl
  unfold State.settle
  simp only [e1, e2]

/-! ### The halt of a device with nothing to stop (R512) -/

/-- A vacant device that has halted. -/
def State.haltedNow (s : State) : State := (s.degrade.put F.FLT_STATUS_HALTED 1).discardAll

theorem State.discardAll_get (s : State) (f : Fld) : s.discardAll.get f = s.get f := rfl

theorem State.haltedNow_get (s : State) {f : Fld} (h1 : f.off ≠ 0x10000) (h2 : f.off ≠ 0x10020) (h3 : f.off ≠ 0x30000) : s.haltedNow.get f = s.get f := by
  rw [State.haltedNow, State.discardAll_get, State.get_put_off _ _ h3, State.get, State.degrade_reg s h1 h2, ← State.get]

theorem State.haltedNow_mode {s : State} (h : s.mode = 2) : s.haltedNow.mode = 4 ∧ s.haltedNow.get F.DEV_MODE_RETURN = 2 := by
  obtain ⟨hm, hr⟩ := State.degrade_mode (.inr (.inl h))
  constructor
  · rw [State.mode, State.haltedNow, State.discardAll_get, State.get_put_off _ _ (by decide)]; exact hm
  · rw [State.haltedNow, State.discardAll_get, State.get_put_off _ _ (by decide), hr, h]

theorem State.haltedNow_halted (s : State) : s.haltedNow.halted = true :=
  State.flag_of_get ((State.discardAll_get _ _).trans (State.get_put_fits _ (by decide) (by decide)))

theorem State.calm_haltedNow {s : State} (h : s.calm) : s.haltedNow.calm :=
  State.calm_congr (State.calm_put (State.calm_degrade h) (f := F.FLT_STATUS_HALTED) 1 (by decide)) rfl rfl rfl rfl rfl rfl rfl

theorem State.haltedNow_withActive (s : State) (l : List (Nat × Scope)) : (s.withActive l).haltedNow = s.haltedNow.withActive l := by
  rw [State.haltedNow, State.haltedNow, State.withActive_degrade, State.withActive_put, State.withActive_discardAll]

theorem State.degrade_runs (s : State) : s.degrade.runs = s.runs := by
  obtain ⟨r, e⟩ := s.regsOnly_degrade
  rw [e]

theorem State.degrade_wqs (s : State) : s.degrade.wqs = s.wqs := by
  obtain ⟨r, e⟩ := s.regsOnly_degrade
  rw [e]

theorem State.discardAll_runs (s : State) : s.discardAll.runs = s.runs := rfl

theorem State.discardAll_wqs (s : State) : s.discardAll.wqs = s.wqs := rfl

theorem State.haltedNow_runs (s : State) : s.haltedNow.runs = s.runs := by
  rw [State.haltedNow, State.discardAll_runs, State.put_runs, State.degrade_runs]

theorem State.haltedNow_wqs (s : State) : s.haltedNow.wqs = s.wqs := by
  rw [State.haltedNow, State.discardAll_wqs, State.put_wqs, State.degrade_wqs]

/-- No port is up or training, so none is stopped. -/
theorem State.portsStop_down {s : State} (h : ∀ p, p < 64 → s.get (F.WPR_LINK_STATUS_STATE p) = 0) : s.portsStop = s := by
  have hf : ((List.range 64).filter fun p => s.get (F.WPR_LINK_STATUS_STATE p) != 0) = [] := by
    rw [List.filter_eq_nil_iff]
    intro p hp
    simp [h p (List.mem_range.mp hp)]
  rw [State.portsStop, hf, List.foldl_nil]

theorem State.haltDevice_vacant {s : State} (h : s.vacant) (clock : Bool) : s.haltDevice clock = s.haltedNow := by
  obtain ⟨hr, hw, hh, -, hp⟩ := h
  have hp' : ∀ p, p < 64 → (s.degrade.put F.FLT_STATUS_HALTED 1).get (F.WPR_LINK_STATUS_STATE p) = 0 := fun p hlt => by
    rw [State.get_put_off _ _ (by dsimp only; omega), State.get, State.degrade_reg s (by dsimp only; omega) (by dsimp only; omega), ← State.get]
    exact hp p hlt
  have hk : (s.haltedNow.runs.keysOf fun r => r.st != .free) = [] := by rw [State.haltedNow_runs, hr]; rfl
  have hq : s.haltedNow.wqs.keys = [] := by rw [State.haltedNow_wqs, hw]; rfl
  unfold State.haltDevice
  rw [hh, if_neg Bool.false_ne_true]
  dsimp only
  rw [State.portsStop_down hp', ← State.haltedNow, hk, List.foldl_nil, hq, List.foldl_nil]

section
variable {s : State} (h : s.calm) (hv : s.vacant) {src : Nat} (hs : src < 512) (hc : fltClass src = some 3)
include h hv hs hc

omit h hc in
theorem State.vacant_occur (syn : Word) (forced : Bool) : (s.occur src syn forced none).1.vacant := by
  obtain ⟨hr, hw, hh, hl, hp⟩ := hv
  obtain ⟨⟨r, o, hi, f, i, d, n, e⟩, hk⟩ := s.noted_occur src syn forced none hs
  refine ⟨by rw [e]; exact hr, by rw [e]; exact hw, (State.halted_occur s syn forced none hs).trans hh, (State.sealed_occur hs syn forced none).trans hl, fun p hlt => ?_⟩
  rw [State.get_occur hs syn forced none (by simp only [following]; omega) (.inr (by dsimp only; omega))]
  exact hp p hlt

/-- A source of class 3 halts a vacant device, and its reaction ends with the command. -/
theorem State.settle_flt3 (syn : Word) (clock forced : Bool) :
    (s.flt3 src syn clock forced).settle = (s.occur src syn forced none).1.haltedNow.settle := by
  have hq := State.calm_occur h hs syn forced none
  have hv' := State.vacant_occur hv hs syn forced
  have ⟨_, hw, _, hl, _⟩ := hv'
  have hn : s.flt3 src syn clock forced = ((s.occur src syn forced none).1.withActive [(3, .device)]).haltDevice clock := by
    have hx : (s.occur src syn forced none).2 = false := State.occur_single (State.active_of_calm h) syn forced none hc
    have ha : (s.occur src syn forced none).1.active = [] := State.active_of_calm hq
    obtain ⟨-, -, -, -, -, -, hh⟩ := hq
    simp [State.flt3, hx, ha, hh, hl, State.withActive]
  rw [hn, State.haltDevice_vacant (s := (s.occur src syn forced none).1.withActive [(3, .device)]) hv', State.haltedNow_withActive,
    State.settle_withActive (State.calm_haltedNow hq) (by rw [State.haltedNow_wqs]; exact hw)]

/-- What a halt shows once its command has ended (R512, R527). -/
theorem State.flt3_halts (hm : s.mode = 2) (syn : Word) (clock forced : Bool) :
    (s.flt3 src syn clock forced).settle.halted = true ∧ (s.flt3 src syn clock forced).settle.mode = 4 ∧
    (s.flt3 src syn clock forced).settle.get F.DEV_MODE_RETURN = 2 ∧ (s.flt3 src syn clock forced).settle.flag (fltPend src) = true := by
  have ho := fltPend_off src hs
  have hq := State.calm_haltedNow (State.calm_occur h hs syn forced none)
  have hm' : (s.occur src syn forced none).1.mode = 2 := (State.get_occur hs syn forced none (by decide) (by decide)).trans hm
  obtain ⟨h4, hr⟩ := State.haltedNow_mode hm'
  rw [State.settle_flt3 h hv hs hc]
  refine ⟨?_, ?_, ?_, ?_⟩
  · rw [State.halted_settle hq]; exact State.haltedNow_halted _
  · rw [State.mode, State.settle_get _ hq (by decide) (by decide)]; exact h4
  · rw [State.settle_get _ hq (by decide) (by decide)]; exact hr
  · rw [State.flag_settle hq hs, State.flag, State.haltedNow_get _ (by omega) (by omega) (by omega)]
    exact s.flag_occur syn forced none hs hc

/-- It leaves the registers of the clocks. -/
theorem State.flt3_get (syn : Word) (clock forced : Bool) {f : Fld} (h1 : 0x20000 ≤ f.off) (h2 : f.off < 0x30000) :
    (s.flt3 src syn clock forced).settle.get f = s.get f := by
  have hq := State.calm_haltedNow (State.calm_occur h hs syn forced none)
  rw [State.settle_flt3 h hv hs hc, State.settle_get _ hq (by omega) (by omega), State.haltedNow_get _ (by omega) (by omega) (by omega),
    State.get_occur hs syn forced none (by simp only [following]; omega) (.inl h2)]

end

end Sys2Proof.Machine
end

section
namespace Sys2Proof.Machine

/-! ### Losses of lock (R67, R464) -/

theorem State.vacant_put {s : State} (h : s.vacant) {f : Fld} (n : Nat) (h1 : f.off ≠ 0x30000) (h2 : f.off ≠ F.SEC_STATUS_SEALED.off) (h3 : f.off < 0x700000) :
    (s.put f n).vacant := by
  obtain ⟨hr, hw, hh, hl, hp⟩ := h
  refine ⟨by rw [State.put_runs, hr], by rw [State.put_wqs, hw], ?_, ?_, fun p hlt => ?_⟩
  · rw [State.halted, State.flag, State.get_put_off _ _ h1.symm]; exact hh
  · rw [State.sealed, State.flag, State.get_put_off _ _ h2.symm]; exact hl
  · rw [State.get_put_off _ _ (by dsimp only; omega)]; exact hp p hlt

theorem State.tbUnlock_a {s : State} (ht : s.get F.CLK_STATUS_TB_LOCK = 1) (hr : s.get F.CLK_STATUS_REF_SEL = 0) (ha : s.get F.CLK_STATUS_A_QUAL = 1)
    (hh : s.get F.CLK_STATUS_HOLDOVER = 0) : s.tbUnlock = (s.put F.CLK_STATUS_TB_LOCK 0).flt3 0x007 0 false false := by
  have hok : s.refOk = true := by simp [State.refOk, State.flag, hh, hr, ha]
  rw [State.tbUnlock, State.flag_of_get ht, hok]
  exact if_pos rfl

theorem State.coreUnlock_locked {s : State} (ht : s.get F.CLK_STATUS_TB_LOCK = 1) (hc : s.get F.CLK_STATUS_CORE_LOCK = 1) :
    s.coreUnlock = (s.put F.CLK_STATUS_CORE_LOCK 0).flt3 0x008 0 false false := by
  rw [State.coreUnlock, State.flag_of_get ht, State.flag_of_get hc]
  exact if_pos rfl

/-- The module management PLL's loss takes the device to Degraded. -/
theorem State.mgmtUnlock_locked {s : State} (h : s.calm) (hl : s.sealed = false) (hh : s.halted = false) (hm : s.get F.CLK_STATUS_MGMT_LOCK = 1) :
    s.mgmtUnlock = ((s.put F.CLK_STATUS_MGMT_LOCK 0).occur 0x009 0 false none).1.degrade := by
  have ha : (s.put F.CLK_STATUS_MGMT_LOCK 0).active = [] := (State.put_active _ _ _).trans (State.active_of_calm h)
  have hl' : (s.put F.CLK_STATUS_MGMT_LOCK 0).sealed = false := by rw [State.sealed, State.flag, State.get_put_off _ _ (by decide)]; exact hl
  have hh' : (s.put F.CLK_STATUS_MGMT_LOCK 0).halted = false := (State.halted_put _ (by decide) (by decide)).trans hh
  rw [State.mgmtUnlock, State.flag_of_get hm, State.flt_degrades ha hl' hh' 0 (by decide) rfl rfl]
  exact if_pos rfl

theorem State.cmisKick_none {s : State} (h : s.cmisQ = []) (k : Nat) : s.cmisKick k = s := by
  unfold State.cmisKick
  rw [h]
  rfl

/-- Where no transaction waits and no cage has power, the lock of the module management PLL is all there is to see. -/
theorem State.mgmtLocked_alone {s : State} (hm : s.get F.CLK_STATUS_MGMT_LOCK = 0) (hq : s.cmisQ = []) (hp : ∀ n : Nat, n < 32 → s.get (F.CPW_STATUS_PG n) = 0) :
    s.mgmtLocked = s.put F.CLK_STATUS_MGMT_LOCK 1 := by
  have hq' : (s.put F.CLK_STATUS_MGMT_LOCK 1).cmisQ = [] := (State.put_cmisQ _ _ _).trans hq
  have hf : ((List.range 32).filter fun n =>
      (s.put F.CLK_STATUS_MGMT_LOCK 1).flag (F.CPW_STATUS_PG n) && (s.put F.CLK_STATUS_MGMT_LOCK 1).get (F.MOD_STATUS_STATE n) == 0) = [] := by
    rw [List.filter_eq_nil_iff]
    intro n hn
    have hg : (s.put F.CLK_STATUS_MGMT_LOCK 1).get (F.CPW_STATUS_PG n) = 0 :=
      (State.get_put_off _ _ (by dsimp only; omega)).trans (hp n (List.mem_range.mp hn))
    simp [State.flag_of_get hg]
  unfold State.mgmtLocked
  rw [State.flag_of_get hm, if_neg (by decide)]
  dsimp only
  rw [State.cmisKick_none hq', State.cmisKick_none hq', hf, List.foldl_nil]

/-! ### Host references (R67, R540) -/

theorem State.hostrefBad_unqualified {s : State} {p : Nat} (hk : (s.get F.CLK_STATUS_HOSTREF_OK).testBit p = true) (hd : s.pdHost p ≠ 2)
    (hq : (s.ports.look p).refQualified = false) : s.hostrefBad p = s.put F.CLK_STATUS_HOSTREF_OK (s.get F.CLK_STATUS_HOSTREF_OK - 2 ^ p) := by
  unfold State.hostrefBad
  dsimp only
  rw [if_neg (by simp [hk, hd]), State.put_ports, hq]
  exact if_neg Bool.false_ne_true

theorem State.hostrefBad_qualified {s : State} {p : Nat} (hk : (s.get F.CLK_STATUS_HOSTREF_OK).testBit p = true) (hd : s.pdHost p ≠ 2)
    (hq : (s.ports.look p).refQualified = true) : s.hostrefBad p = (s.put F.CLK_STATUS_HOSTREF_OK (s.get F.CLK_STATUS_HOSTREF_OK - 2 ^ p)).hostFence p := by
  unfold State.hostrefBad
  dsimp only
  rw [if_neg (by simp [hk, hd]), State.put_ports, hq]
  exact if_pos rfl

theorem State.updHost_put (s : State) (f : Fld) (n p : Nat) (k : HostPort → HostPort) :
    (s.put f n).updHost p k = { s.put f n with ports := s.ports.upd p k } := by
  rw [State.updHost, State.put_ports]

theorem State.calm_updHost {s : State} (h : s.calm) (p : Nat) (k : HostPort → HostPort) : (s.updHost p k).calm :=
  State.calm_congr h rfl rfl rfl rfl rfl rfl rfl

theorem State.hostrefGood_kept {s : State} {p : Nat} (hd : s.pdHost p ≠ 2) :
    s.hostrefGood p = (s.put F.CLK_STATUS_HOSTREF_OK (s.get F.CLK_STATUS_HOSTREF_OK ||| 2 ^ p)).updHost p fun h => { h with refQualified := true } := by
  unfold State.hostrefGood
  exact if_neg (by simp [hd])

/-- A host port that is fenced: R29 has not been applied to its functions yet. -/
def State.portFenced (s : State) (p : Nat) : State := { s with active := (2, .host p) :: s.active }.updHost p fun h => { h with fenced := true }

theorem State.portFenced_ports (s : State) (p : Nat) : (s.portFenced p).ports = s.ports.upd p fun h => { h with fenced := true } := rfl

theorem State.hostFenced_eq (s : State) (p : Nat) : s.hostFenced p = (s.portFenced p).portReset p true := rfl

theorem State.updHost_mode (s : State) (p : Nat) (k : HostPort → HostPort) : (s.updHost p k).mode = s.mode := rfl

theorem State.updHost_flag (s : State) (p : Nat) (k : HostPort → HostPort) (f : Fld) : (s.updHost p k).flag f = s.flag f := rfl

/-- A reset of a port's functions keeps the faults and the mode, and of the ports' records changes that of its own VFs. -/
theorem State.portReset_ports (s : State) (p : Nat) (faults : Bool) :
    (s.portReset p faults).ports = s.ports.upd p (fun h => { h with numVf := 0, vfEn := false, vfMse := false }) ∧ (s.portReset p faults).pdOver = s.pdOver ∧
    (s.mode = 4 → (s.portReset p faults).mode = 4) ∧
    ∀ src, src < 512 → s.flag (fltPend src) = true → (s.portReset p faults).flag (fltPend src) = true := by
  unfold State.portReset
  extract_lets u v
  have hu : s.keeps u := State.keeps_same s.keeps_refl (by rfl)
  have hv : s.keeps v := keeps_fnsReset hu p _ faults
  simp only [State.updHost_pdOver, State.updHost_mode, State.updHost_flag]
  refine ⟨?_, hv.pdOver, hv.mode, hv.pend⟩
  rw [State.updHost, hv.ports]

/-- A port that is fenced stays fenced in Degraded with the source pending, whatever its reset leaves to do. -/
theorem State.hostFenced_shows {s : State} (p : Nat) (hd : s.pdOver = []) (hm : s.mode = 4) {src : Nat} (hs : src < 512) (hf : s.flag (fltPend src) = true) :
    ((s.hostFenced p).settle.ports.look p).fenced = true ∧ (s.hostFenced p).settle.mode = 4 ∧ (s.hostFenced p).settle.flag (fltPend src) = true := by
  obtain ⟨hports, hpd, hmode, hpend⟩ := (s.portFenced p).portReset_ports p true
  rw [← State.hostFenced_eq] at hports hpd hmode hpend
  have hk := keeps_settle (hpd.trans hd) (s.hostFenced p).keeps_refl
  refine ⟨?_, hk.mode (hmode hm), hk.pend src hs (hpend src hs hf)⟩
  rw [hk.ports, hports, State.portFenced_ports, Tab.look_upd_self, Tab.look_upd_self]

/-- The source of a failed reference on a device that is neither sealed nor halted, before its port is fenced. -/
theorem State.hostFence_degrades {s : State} (h : s.calm) (hh : s.halted = false) (hl : s.sealed = false) (p : Nat) :
    s.hostFence p = ((s.occur 0x00A (BitVec.ofNat 64 p) false none).1.degrade).hostFenced p := by
  have hn : (s.occur 0x00A (BitVec.ofNat 64 p) false none).2 = false := State.occur_single (State.active_of_calm h) _ false none rfl
  have hh' : (s.occur 0x00A (BitVec.ofNat 64 p) false none).1.halted = false := (State.halted_occur s _ false none (by decide)).trans hh
  have hl' : (s.occur 0x00A (BitVec.ofNat 64 p) false none).1.sealed = false := (State.sealed_occur (by decide) _ false none).trans hl
  simp [State.hostFence, hn, hh', hl']

/-- A host reference that fails fences its port and takes the device to Degraded (R67). -/
theorem State.hostFence_shows {s : State} (h : s.calm) (hh : s.halted = false) (hl : s.sealed = false) (hm : s.mode = 2) (p : Nat) :
    ((s.hostFence p).settle.ports.look p).fenced = true ∧ (s.hostFence p).settle.mode = 4 ∧ (s.hostFence p).settle.flag (fltPend 0x00A) = true := by
  have hq := State.calm_occur h (show 0x00A < 512 by decide) (BitVec.ofNat 64 p) false none
  have hm' : (s.occur 0x00A (BitVec.ofNat 64 p) false none).1.mode = 2 := (State.get_occur (by decide) _ false none (by decide) (by decide)).trans hm
  have hf : (s.occur 0x00A (BitVec.ofNat 64 p) false none).1.degrade.flag (fltPend 0x00A) = true := by
    rw [State.flag, State.get, State.degrade_reg _ (by decide) (by decide)]
    exact s.flag_occur _ false none (by decide) rfl
  obtain ⟨-, hd, -⟩ := State.calm_degrade hq
  rw [State.hostFence_degrades h hh hl]
  exact State.hostFenced_shows p hd (State.degrade_mode (.inr (.inl hm'))).1 (by decide) hf

/-! ### The commands -/

section
variable {s : State} (h : s.calm)
include h

theorem exec_tbPllUnlock : exec .tbPllUnlock s = .next s.tbUnlock.settle := ended_fabric h rfl _

theorem exec_corePllUnlock : exec .corePllUnlock s = .next s.coreUnlock.settle := ended_fabric h rfl _

theorem exec_mgmtPllUnlock : exec .mgmtPllUnlock s = .next s.mgmtUnlock.settle := ended_fabric h rfl _

theorem exec_mgmtPllLock : exec .mgmtPllLock s = .next s.mgmtLocked.settle := ended_fabric h rfl _

theorem exec_hostrefFail {p : Nat} (hp : p < 4) : exec (.hostrefFail p) s = .next (s.hostrefBad p).settle := ended_fabric h (by simp [okHost, hp]) _

theorem exec_hostrefOk {p : Nat} (hp : p < 4) : exec (.hostrefOk p) s = .next (s.hostrefGood p).settle := ended_fabric h (by simp [okHost, hp]) _

/-- The module management PLL's loss, once its command has ended. -/
theorem State.mgmtUnlock_shows (hl : s.sealed = false) (hh : s.halted = false) (h2 : s.mode = 2) (hm : s.get F.CLK_STATUS_MGMT_LOCK = 1) :
    s.mgmtUnlock.settle.get F.CLK_STATUS_MGMT_LOCK = 0 ∧ s.mgmtUnlock.settle.mode = 4 ∧ s.mgmtUnlock.settle.get F.DEV_MODE_RETURN = 2 ∧
    s.mgmtUnlock.settle.flag (fltPend 0x009) = true := by
  have hc := State.calm_put h (f := F.CLK_STATUS_MGMT_LOCK) 0 (by decide)
  have hq := State.calm_occur hc (show 0x009 < 512 by decide) 0 false none
  have h2' : ((s.put F.CLK_STATUS_MGMT_LOCK 0).occur 0x009 0 false none).1.mode = 2 :=
    ((State.get_occur (by decide) _ false none (by decide) (by decide)).trans (State.get_put_off _ _ (by decide))).trans h2
  obtain ⟨h4, hr⟩ := State.degrade_mode (.inr (.inl h2'))
  have hd := State.calm_degrade hq
  rw [State.mgmtUnlock_locked h hl hh hm]
  refine ⟨?_, ?_, ?_, ?_⟩
  · rw [State.settle_get _ hd (by decide) (by decide), State.get, State.degrade_reg _ (by decide) (by decide), ← State.get,
      State.get_occur (by decide) _ false none (by decide) (by decide)]
    exact State.get_put_fits _ (by decide) (by decide)
  · rw [State.mode, State.settle_get _ hd (by decide) (by decide)]; exact h4
  · rw [State.settle_get _ hd (by decide) (by decide), hr, h2']
  · rw [State.flag_settle hd (by decide), State.flag, State.get, State.degrade_reg _ (by decide) (by decide)]
    exact State.flag_occur _ _ false none (by decide) rfl

end

/-- Settles O7: the losses of the three PLLs, and the host references that fail and qualify, on a calm state. -/
theorem locksAndHostReferences : Obligations.LocksAndHostReferences := by
  unfold Obligations.LocksAndHostReferences
  intro s h
  refine ⟨?_, ?_, ?_, ?_, ?_, ?_, ?_⟩
  · intro hv hm ht hr ha hh
    have hc := State.calm_put h (f := F.CLK_STATUS_TB_LOCK) 0 (by decide)
    have hv' := State.vacant_put hv (f := F.CLK_STATUS_TB_LOCK) 0 (by decide) (by decide) (by decide)
    have hm' : (s.put F.CLK_STATUS_TB_LOCK 0).mode = 2 := (State.get_put_off _ _ (by decide)).trans hm
    refine ⟨_, by rw [exec_tbPllUnlock h, State.tbUnlock_a ht hr ha hh], ?_, State.flt3_halts hc hv' (by decide) rfl hm' 0 false false⟩
    rw [State.flt3_get hc hv' (by decide) rfl 0 false false (by decide) (by decide)]
    exact State.get_put_fits _ (by decide) (by decide)
  · intro hv hm ht hk
    have hc := State.calm_put h (f := F.CLK_STATUS_CORE_LOCK) 0 (by decide)
    have hv' := State.vacant_put hv (f := F.CLK_STATUS_CORE_LOCK) 0 (by decide) (by decide) (by decide)
    have hm' : (s.put F.CLK_STATUS_CORE_LOCK 0).mode = 2 := (State.get_put_off _ _ (by decide)).trans hm
    refine ⟨_, by rw [exec_corePllUnlock h, State.coreUnlock_locked ht hk], ?_, State.flt3_halts hc hv' (by decide) rfl hm' 0 false false⟩
    rw [State.flt3_get hc hv' (by decide) rfl 0 false false (by decide) (by decide)]
    exact State.get_put_fits _ (by decide) (by decide)
  · intro hl hh h2 hm
    exact ⟨_, exec_mgmtPllUnlock h, State.mgmtUnlock_shows h hl hh h2 hm⟩
  · intro hm hq hp
    exact State.gives_settle (by rw [exec_mgmtPllLock h, State.mgmtLocked_alone hm hq hp]) (State.calm_put h _ (by decide))
  · intro p hp hk hd hq
    exact State.gives_settle (by rw [exec_hostrefFail h hp, State.hostrefBad_unqualified hk hd hq]) (State.calm_put h _ (by decide))
  · intro p hp hv hm hk hd hq
    obtain ⟨-, -, hh, hl, -⟩ := State.vacant_put hv (f := F.CLK_STATUS_HOSTREF_OK) (s.get F.CLK_STATUS_HOSTREF_OK - 2 ^ p) (by decide) (by decide) (by decide)
    exact ⟨_, by rw [exec_hostrefFail h hp, State.hostrefBad_qualified hk hd hq],
      State.hostFence_shows (State.calm_put h _ (by decide)) hh hl ((State.get_put_off _ _ (by decide)).trans hm) p⟩
  · intro p hp hd
    rw [← State.updHost_put]
    exact State.gives_settle (by rw [exec_hostrefOk h hp, State.hostrefGood_kept hd]) (State.calm_updHost (State.calm_put h _ (by decide)) p _)

end Sys2Proof.Machine
end

section
namespace Sys2Proof

/-! ### Records of a table -/

section
variable {α : Type} [DecidableEq α] [Inhabited α]

theorem Tab.drop_ins {α : Type} (t : Tab α) (k : Nat) (v : α) : Tab.drop (Tab.ins t k v) k = Tab.drop t k := by
  induction t with
  | nil => simp [Tab.ins, Tab.drop]
  | cons e t ih =>
    obtain ⟨j, a⟩ := e
    unfold Tab.ins
    split
    · simp [Tab.drop]
    · split
      · next h => simp [Tab.drop, h]
      · next h =>
        simp only [Tab.drop, List.filter_cons] at ih ⊢
        rw [ih]

/-- A record that is written and then forgotten is forgotten. -/
theorem Tab.del_put (t : Tab α) (k : Nat) {v : α} (hv : v ≠ default) : (t.put k v).del k = t.del k := by
  simp [Tab.del, Tab.put, Tab.putD, hv, Tab.drop_ins]

/-- Forgetting a record that is not listed changes nothing. -/
theorem Tab.del_absent {t : Tab α} {k : Nat} (h : ∀ e ∈ t, e.1 ≠ k) : t.del k = t := by
  simp only [Tab.del, Tab.put, Tab.putD, if_pos]
  exact List.filter_eq_self.2 fun e he => by simpa using h e he

omit [DecidableEq α] in
theorem Tab.look_absent {t : Tab α} {k : Nat} (h : ∀ e ∈ t, e.1 ≠ k) : t.look k = default := by
  induction t with
  | nil => rfl
  | cons e t ih =>
    have he := h e List.mem_cons_self
    have ht := ih fun x hx => h x (List.mem_cons_of_mem _ hx)
    rw [Tab.look, Tab.lookD, if_neg he]
    exact ht

/-- A written record is listed under its key, and no other is new. -/
theorem Tab.mem_put {t : Tab α} {k : Nat} {v : α} {e : Nat × α} (h : e ∈ t.put k v) : e = (k, v) ∨ e ∈ t := by
  unfold Tab.put Tab.putD at h
  split at h
  · exact .inr (List.mem_of_mem_filter h)
  · exact Tab.mem_ins t k v e h

/-- A record that does not satisfy `p` adds no key of one that does. -/
theorem Tab.keysOf_put_nil {t : Tab α} {p : α → Bool} (k : Nat) {v : α} (h : t.keysOf p = []) (hv : p v = false) : (t.put k v).keysOf p = [] := by
  simp only [Tab.keysOf, List.map_eq_nil_iff, List.filter_eq_nil_iff] at h ⊢
  intro e he
  rcases Tab.mem_put he with rfl | he
  · simp [hv]
  · exact h e he

end

end Sys2Proof
end

section
namespace Sys2Proof.Machine

/-! ### Runs -/

theorem Run.not_default {r : Run} (h : r.st ≠ .free) : r ≠ default := by
  rintro rfl
  exact h rfl

theorem Op.not_default {o : Op} (h : o.live = true) : o ≠ default := by
  rintro rfl
  cases h

@[simp] theorem Run.setG_zero (r : Run) (v : Word) : r.setG 0 v = r := by simp [Run.setG]

/-- A write of a register other than G0, of a run that is not parked, stands in the register file (R79). -/
theorem Run.setG_put {r : Run} {n : Nat} (v : Word) (hn : n ≠ 0) (hp : r.st ≠ .parked) : r.setG n v = { r with g := r.g.put n v } := by
  simp [Run.setG, hn, hp]

/-- Beside registers it changes nothing of a run that is not parked. -/
theorem Run.setG_frame {r : Run} (n : Nat) (v : Word) (hp : r.st ≠ .parked) : r.setG n v = { r with g := (r.setG n v).g } := by
  by_cases hn : n = 0
  · subst hn; simp
  · simp [Run.setG, hn, hp]

@[simp] theorem Run.setG_st (r : Run) (n : Nat) (v : Word) : (r.setG n v).st = r.st := by
  unfold Run.setG
  split
  · rfl
  · split <;> rfl

@[simp] theorem Run.setG_preempt (r : Run) (n : Nat) (v : Word) : (r.setG n v).preempt = r.preempt := by
  unfold Run.setG
  split
  · rfl
  · split <;> rfl

@[simp] theorem Run.setG_nextPc (r : Run) (n : Nat) (v : Word) : (r.setG n v).nextPc = r.nextPc := by
  unfold Run.setG
  split
  · rfl
  · split <;> rfl

@[simp] theorem Run.setG_steps (r : Run) (n : Nat) (v : Word) : (r.setG n v).steps = r.steps := by
  unfold Run.setG
  split
  · rfl
  · split <;> rfl

theorem Run.rg_setG_self {r : Run} {n : Nat} (v : Word) (hn : n ≠ 0) (hp : r.st ≠ .parked) : (r.setG n v).rg n = v := by
  simp [Run.setG_put v hn hp, Run.rg, hn]

theorem Run.rg_setG_other {r : Run} {n m : Nat} (v : Word) (hm : n ≠ m) (hp : r.st ≠ .parked) : (r.setG n v).rg m = r.rg m := by
  by_cases hn : n = 0
  · subst hn; simp
  · simp [Run.setG_put v hn hp, Run.rg, Tab.look_put_other _ _ hm.symm]

/-- Settles O16, by the rules of the register file. -/
theorem generalRegisters : Obligations.GeneralRegisters := by
  unfold Obligations.GeneralRegisters
  intro r a b v
  exact ⟨rfl, Run.setG_zero r v, fun hp ha => ⟨Run.rg_setG_self v ha hp, Run.setG_frame a v hp, fun hb => Run.rg_setG_other v hb hp⟩⟩

/-- Changes of one run that agree on it are one. -/
theorem State.updRun_congr (s : State) {ctx : Nat} {f g : Run → Run} (h : f (s.runs.look ctx) = g (s.runs.look ctx)) : s.updRun ctx f = s.updRun ctx g := by
  simp only [State.updRun, Tab.upd_congr _ h]

/-- Two changes of a run that neither frees. -/
theorem State.updRun_updRun (s : State) {ctx : Nat} {f g : Run → Run} (hf : (f (s.runs.look ctx)).st ≠ .free)
    (hg : (g (f (s.runs.look ctx))).st ≠ .free) : (s.updRun ctx f).updRun ctx g = s.updRun ctx fun r => g (f r) := by
  simp only [State.updRun, Tab.upd, Tab.look_put_self, Tab.put_put _ _ (Run.not_default hf) (Run.not_default hg)]

theorem State.calm_updRun {s : State} (h : s.calm) (ctx : Nat) (f : Run → Run) : (s.updRun ctx f).calm := State.calm_congr h rfl rfl rfl rfl rfl rfl rfl

theorem State.ledger_form (s : State) (dom n amount : Nat) : s.ledger dom n amount = { s with doms := (s.ledger dom n amount).doms } := by
  unfold State.ledger
  split <;> rfl

theorem State.calm_ledger {s : State} (h : s.calm) (dom n amount : Nat) : (s.ledger dom n amount).calm := by
  rw [State.ledger_form]
  exact State.calm_congr h rfl rfl rfl rfl rfl rfl rfl

/-! ### What was counted -/

theorem State.counted_refl (s : State) : s.counted s := ⟨s.regs, rfl, fun _ _ => rfl⟩

theorem State.counted_count (s : State) (ev i n : Nat) (d : Option Nat) : s.counted (s.count ev i n d) := s.count_form ev i n d

theorem State.counted_trans {s t u : State} (h : s.counted t) (h' : t.counted u) : s.counted u := by
  obtain ⟨r, rfl, hr⟩ := h
  obtain ⟨r', rfl, hr'⟩ := h'
  exact ⟨r', rfl, fun off ho => (hr' off ho).trans (hr off ho)⟩

/-! ### An instruction that is due -/

theorem Ins.nb_of_flags {i : Ins} (h : i.flagsOk = true) (ha : allowNb i.opcode = false) : i.nb = false := by
  simp [Ins.flagsOk, ha] at h
  tauto

theorem Ins.ext_of_flags {i : Ins} (h : i.flagsOk = true) (ha : allowExt i.opcode = false) : i.ext = false := by
  simp [Ins.flagsOk, ha] at h
  tauto

theorem Ins.sigl_of_flags {i : Ins} (h : i.flagsOk = true) (ha : i.ext = false) : i.sigl = false := by
  simp [Ins.flagsOk, ha] at h
  tauto

theorem Ins.opf_of_flags {i : Ins} (h : i.flagsOk = true) : allowOpf i.opcode i.opf = true := by
  simp [Ins.flagsOk] at h
  tauto

/-- What the instruction word says does not hang on the word after it. -/
theorem Ins.of_first (w w2 : Word) : (Ins.of w w2).opcode = wbits w 63 56 ∧ (Ins.of w 0).flagsOk = (Ins.of w w2).flagsOk ∧
    (Ins.of w 0).size = (Ins.of w w2).size ∧ (Ins.of w w2).w = w ∧ (Ins.of w w2).w2 = w2 := ⟨rfl, rfl, rfl, rfl, rfl⟩

section
variable {s : State} {ctx : Nat} {i : Ins}

/-- The size of an instruction that has no extension and no literal word (R84). -/
theorem State.size_of_fetched (h : s.fetched ctx i) (hx : i.ext = false) (h2 : i.opcode ≠ 2) : i.size = 1 := by
  obtain ⟨-, -, -, -, -, -, -, -, hi⟩ := h
  rw [hi] at hx h2 ⊢
  simp only [Ins.of] at hx h2 ⊢
  simp [hx, h2]

/-- A run whose instruction passes the checks of R121 issues it. -/
theorem State.issue_due (h : s.due ctx i) {mine : Nat → Bool} (hm : mine i.opcode = true) (k : State → Run → Ins → State) :
    s.issue ctx mine k = k s (s.runs.look ctx) i := by
  obtain ⟨⟨-, -, hst, haw, hft, -, hlim, hw, hi⟩, -, hun, hpv, hfl, h2, hrd⟩ := h
  obtain ⟨w, w2, rfl⟩ : ∃ w w2, i = Ins.of w w2 := ⟨_, _, hi⟩
  obtain ⟨ho, hf, hz, h1, hw2⟩ := Ins.of_first w w2
  rw [ho] at hm hlim hun hpv
  rw [h1] at hw
  rw [hw2] at h2
  have hx : (if (Ins.of w w2).size = 2 then s.fetchAt (s.runs.look ctx) ((s.runs.look ctx).pc + 1) else .word 0) = .word w2 := by
    split at h2
    · next hz' => rw [if_pos hz', h2]
    · next hz' => rw [if_neg hz', h2]
  unfold State.issue
  dsimp only
  rw [if_neg (by simp [hst, haw, hft]), hw]
  dsimp only
  rw [if_neg (by simp [hm]), if_neg (by simp; tauto), if_neg (by simp [hun]), if_neg (by simp; tauto), if_neg (by rw [hf, hfl]; simp), hz, hx]
  dsimp only
  rw [hrd]

/-- A run whose instruction falls due carries it out (R120, R121). -/
theorem State.dex_due (h : s.due ctx i) {mine : Nat → Bool} (hm : mine i.opcode = true) (k : State → Run → Ins → State) :
    s.dex ctx mine k = k s (s.runs.look ctx) i := by
  have hsb := h.2.1
  rw [State.dex, State.issue_due h hm, if_neg (by simp; exact hsb)]

end

end Sys2Proof.Machine
end

section
namespace Sys2Proof.Machine

/-! ### The end of a run (R104, R105) -/

section
variable {s : State} {ctx : Nat}

theorem State.unladen_key (h : s.unladen ctx) {n : Nat} (hn : n < 64) : ∀ e ∈ s.ops, e.1 ≠ ctx * 64 + n := by
  intro e he hk
  have := List.filter_eq_nil_iff.1 h e he
  rw [hk] at this
  simp at this
  omega

theorem State.opsOf_unladen (h : s.unladen ctx) : s.opsOf ctx = [] := by
  simp only [State.opsOf, Tab.keysOf, List.filter_eq_nil_iff, List.mem_map, List.mem_filter]
  rintro k ⟨e, ⟨he, -⟩, rfl⟩
  exact List.filter_eq_nil_iff.1 h e he

theorem State.fenceEval_none (h : s.opsOf ctx = []) : s.fenceEval ctx = s := by simp [State.fenceEval, h]

theorem State.lockRunEnd_none (h : s.locks = []) (ok : Bool) : s.lockRunEnd ctx ok = s := by simp [State.lockRunEnd, h, Tab.keysOf_nil]

theorem State.roomTaken_none (h : s.roomQ = []) (k : Nat) : s.roomTaken k = s := by
  cases s
  cases h
  rfl

/-- A run that ended by itself, with no lock, no place in a queue for room and no operation, leaves nothing behind (R105, R106). -/
theorem State.runOver_none (ho : (s.runs.look ctx).outside = false) (hl : s.locks = []) (hr : s.roomQ = []) (hu : s.opsOf ctx = []) : s.runOver ctx = s := by
  have hf : ({ s with roomQ := s.roomQ.filter (·.1 != ctx) } : State) = s := State.roomTaken_none hr ctx
  unfold State.runOver
  simp only [State.lockRunEnd_none hl, ho, Bool.false_eq_true, ↓reduceIte, hf, State.fenceEval_none hu, ite_self]

/-- A run with no operation outstanding ends (R104, R107). -/
theorem State.endRun_unladen (hst : (s.runs.look ctx).st = .running) (hu : s.unladen ctx) (st : Nat) : s.endRun ctx st false = (s.over ctx st).later (.runEnded ctx) := by
  have hn : (s.over ctx st).opsOf ctx = [] := State.opsOf_unladen hu
  unfold State.endRun
  rw [if_neg (by simp [hst])]
  simp only [hst, reduceCtorEq, false_and, if_false]
  rw [← State.over, hn]
  rfl

theorem State.calm_over (h : s.calm) (st : Nat) : (s.over ctx st).calm := State.calm_updRun h _ _

/-- Ending such a run settles on the run ENDING, and nothing else. -/
theorem State.settle_endRun (h : s.calm) (hst : (s.runs.look ctx).st = .running) (hu : s.unladen ctx) (hl : s.locks = []) (st : Nat) :
    (s.endRun ctx st false).settle = (s.over ctx st).settle := by
  have hc := State.calm_over (ctx := ctx) h st
  obtain ⟨hw, -, hr, -⟩ := h
  rw [State.endRun_unladen hst hu]
  refine State.settle_later hw (State.runOver_none ?_ hl hr (State.opsOf_unladen hu)) hc
  simp [State.over]

/-- A command whose meaning is to end such a run gives the run's end. -/
theorem State.gives_over {c : Instr} {st : Nat} (h : s.calm) (hst : (s.runs.look ctx).st = .running) (hu : s.unladen ctx) (hl : s.locks = [])
    (he : exec c s = .next (s.endRun ctx st false).settle) : s.gives c (s.over ctx st) :=
  State.gives_settle (by rw [he, State.settle_endRun h hst hu hl]) (State.calm_over h st)

end

/-! ### An instruction that ends its run -/

theorem okRun_of_le {ctx : Nat} (h : ctx ≤ 8192) : okRun ctx = true := by simpa [okRun] using h

section
variable {s : State} {ctx : Nat} (hst : (s.runs.look ctx).st = .running) (haw : (s.runs.look ctx).await = none) (hft : (s.runs.look ctx).faults = [])
  (mine : Nat → Bool) (k : State → Run → Ins → State)
include hst haw hft

/-- A fetch beyond the program's end ends the run (R90). -/
theorem State.dex_beyond (hp : (s.runs.look ctx).prog.len ≤ (s.runs.look ctx).pc) : s.dex ctx mine k = s.endRun ctx stIllegal false := by
  unfold State.dex State.issue
  simp [hst, haw, hft, State.fetchAt, hp]

/-- Another instruction than END at the step limit (R102). -/
theorem State.dex_limit {w : Word} (hw : s.fetchAt (s.runs.look ctx) (s.runs.look ctx).pc = .word w) (hm : mine (wbits w 63 56) = true)
    (hl : (s.runs.look ctx).steps = (s.runs.look ctx).limit) (h1 : wbits w 63 56 ≠ 1) : s.dex ctx mine k = s.endRun ctx stStep false := by
  unfold State.dex State.issue
  simp [hst, haw, hft, hw, hm, hl, h1]

/-- An unassigned opcode (R122). -/
theorem State.dex_unassigned {w : Word} (hw : s.fetchAt (s.runs.look ctx) (s.runs.look ctx).pc = .word w) (hm : mine (wbits w 63 56) = true)
    (hl : (s.runs.look ctx).steps ≠ (s.runs.look ctx).limit) (hu : unassigned (wbits w 63 56) = true) : s.dex ctx mine k = s.endRun ctx stIllegal false := by
  unfold State.dex State.issue
  simp [hst, haw, hft, hw, hm, hl, hu]

/-- A privileged opcode of a run without authority (R118). -/
theorem State.dex_unprivileged {w : Word} (hw : s.fetchAt (s.runs.look ctx) (s.runs.look ctx).pc = .word w) (hm : mine (wbits w 63 56) = true)
    (hl : (s.runs.look ctx).steps ≠ (s.runs.look ctx).limit) (hu : unassigned (wbits w 63 56) = false) (hp : privileged (wbits w 63 56) = true)
    (ha : s.authority ctx (s.runs.look ctx) = false) : s.dex ctx mine k = s.endRun ctx stPriv false := by
  unfold State.dex State.issue
  simp [hst, haw, hft, hw, hm, hl, hu, hp, ha]

end

/-! ### An instruction that retires at once (R102) -/

section
variable {s : State} {ctx : Nat}

/-- A run that no preemption waits for counts its step and goes on. -/
theorem State.retire_steady (hp : (s.runs.look ctx).preempt = false) (pc : Nat) :
    (s.updRun ctx fun r => { r with pc := pc, steps := r.steps + 1, desc := none }).counted (s.retire ctx pc) := by
  obtain ⟨r, e, hr⟩ := s.count_form 0x0200 (s.runs.look ctx).cluster 1 (some (s.runs.look ctx).dom)
  refine ⟨r, ?_, hr⟩
  rw [State.retire, e]
  simp [State.yieldRun, State.updRun, hp]

/-- An effect on a run that leaves its step count to its step. -/
theorem State.counted_went {f : Run → Run} (hst : (f (s.runs.look ctx)).st = .running) (hp : (f (s.runs.look ctx)).preempt = false)
    (hs : (f (s.runs.look ctx)).steps = (s.runs.look ctx).steps) (pc : Nat) : (s.went ctx pc f).counted ((s.updRun ctx f).retire ctx pc) := by
  have hc := State.retire_steady (s := s.updRun ctx f) (ctx := ctx) (by rw [State.updRun_runs, Tab.look_upd_self, hp]) pc
  rw [State.updRun_updRun _ (by simp [hst]) (by simp [hst])] at hc
  rwa [State.went, State.updRun_congr s (g := fun r => { f r with pc := pc, steps := (f r).steps + 1, desc := none }) (by rw [hs])]

theorem State.calm_went (h : s.calm) (pc : Nat) (f : Run → Run) : (s.went ctx pc f).calm := State.calm_updRun h _ _

end

section
variable {s : State} {ctx : Nat} {i : Ins}

theorem State.calm_of_due (h : s.due ctx i) : s.calm := h.1.1

theorem State.running_of_due (h : s.due ctx i) : (s.runs.look ctx).st = .running := h.1.2.2.1

theorem State.steady_of_due (h : s.due ctx i) : (s.runs.look ctx).preempt = false := h.1.2.2.2.2.2.1

theorem State.okRun_of_due (h : s.due ctx i) : okRun ctx = true := okRun_of_le h.1.2.1

theorem State.flagsOk_of_due (h : s.due ctx i) : i.flagsOk = true := h.2.2.2.2.1

/-- The command of a Dexez row on a state whose instruction it is (R121). -/
theorem State.exec_due (h : s.due ctx i) {f : State → State} {c : Instr} (hc : exec c s = ended (okRun ctx) (s.fabric f)) : exec c s = .next (f s).settle := by
  rw [hc, ended_fabric (State.calm_of_due h) (State.okRun_of_due h)]

/-- An instruction without extension or literal word takes one word of the program. -/
theorem State.size_of_due (h : s.due ctx i) (hx : allowExt i.opcode = false) (h2 : i.opcode ≠ 2) : i.size = 1 :=
  State.size_of_fetched h.1 (Ins.ext_of_flags (State.flagsOk_of_due h) hx) h2

/-- An instruction that changes its run alone, and neither frees nor preempts it, gives the run after its step. -/
theorem State.gives_went (h : s.due ctx i) {c : Instr} {u : State} {pc : Nat} {f : Run → Run} (he : exec c s = .next u.settle)
    (hu : u = (s.updRun ctx f).retire ctx pc) (hf : (f (s.runs.look ctx)).st = (s.runs.look ctx).st) (hq : (f (s.runs.look ctx)).preempt = (s.runs.look ctx).preempt)
    (hs : (f (s.runs.look ctx)).steps = (s.runs.look ctx).steps) : s.gives c (s.went ctx pc f) := by
  subst hu
  exact State.gives_counted (State.counted_went (hf.trans (State.running_of_due h)) (hq.trans (State.steady_of_due h)) hs pc) (State.calm_went (State.calm_of_due h) pc f) he

end

/-! ### NOP, END and the instructions that end their run -/

/-- The command of a Dexez row on a state in which nothing waits. -/
theorem State.exec_fabric {s : State} {ctx : Nat} (h : s.calm) (hc : ctx ≤ 8192) {f : State → State} {c : Instr}
    (he : exec c s = ended (okRun ctx) (s.fabric f)) : exec c s = .next (f s).settle := by
  rw [he, ended_fabric h (okRun_of_le hc)]

section
variable {s : State} {ctx : Nat} {i : Ins}

/-- The opcode of a fetched word. -/
theorem State.opcode_of_fetched (h : s.fetched ctx i) : wbits i.w 63 56 = i.opcode := by
  obtain ⟨-, -, -, -, -, -, -, -, hi⟩ := h
  exact (congrArg Ins.opcode hi).symm

/-- An instruction that is fetched, is not END, and fails a check with an end of its run (R121). -/
theorem State.gives_over_of_fetched (h : s.fetched ctx i) (hu : s.unladen ctx) (hl : s.locks = []) {c : Instr} {f : State → State} {st : Nat}
    (he : exec c s = ended (okRun ctx) (s.fabric f)) (hf : f s = s.endRun ctx st false) : s.gives c (s.over ctx st) := by
  obtain ⟨hc, hk, hst, -⟩ := h
  exact State.gives_over hc hst hu hl (by rw [State.exec_fabric hc hk he, hf])

theorem State.steps_of_fetched (h : s.fetched ctx i) (h1 : i.opcode ≠ 1) : (s.runs.look ctx).steps ≠ (s.runs.look ctx).limit := by
  obtain ⟨-, -, -, -, -, -, hs, -⟩ := h
  exact hs.resolve_right h1

end

/-- Settles O12: each clause is one check of R121, or a step of one instruction. -/
theorem endAndIllegal : Obligations.EndAndIllegal := by
  unfold Obligations.EndAndIllegal
  intro s ctx i hu hl
  refine ⟨fun h ho => ?_, fun h ho => ?_, fun h ho => ?_, fun hc hk hst haw hft hp => ?_, fun hc hk hst haw hft hw ho hs => ?_, fun h ho ha => ?_⟩
  · refine State.gives_counted (State.retire_steady (State.steady_of_due h) _) (State.calm_went (State.calm_of_due h) _ id) ?_
    rw [State.exec_due h (f := fun s => s.dexNop ctx) rfl, State.dexNop, State.dex_due h (by simp [ho]),
      State.size_of_due h (by rw [ho]; rfl) (by rw [ho]; decide)]
  · refine State.gives_over_of_fetched h.1 hu hl (f := fun s => s.dexEnd ctx) rfl ?_
    rw [State.dexEnd, State.dex_due h (by simp [ho])]
  · refine State.gives_over_of_fetched h hu hl (f := fun s => s.dexUnassigned ctx) rfl ?_
    obtain ⟨-, -, hst, haw, hft, -, -, hw, -⟩ := id h
    have hx := State.opcode_of_fetched h
    exact State.dex_unassigned hst haw hft _ _ hw (by rwa [hx]) (State.steps_of_fetched h fun h1 => by simp [h1, unassigned] at ho) (by rwa [hx])
  · refine State.gives_over hc hst hu hl ?_
    rw [State.exec_fabric hc hk (f := fun s => s.dexNop ctx) rfl, State.dexNop, State.dex_beyond hst haw hft _ _ hp]
  · refine State.gives_over hc hst hu hl ?_
    rw [State.exec_fabric hc hk (f := fun s => s.dexAlu ctx 0x06 fun a x => a + x) rfl, State.dexAlu,
      State.dex_limit hst haw hft _ _ hw (by simp [ho]) hs (by simp [ho])]
  · refine State.gives_over_of_fetched h hu hl (f := fun s => s.dexEpset ctx) rfl ?_
    obtain ⟨-, -, hst, haw, hft, -, -, hw, -⟩ := id h
    have hx := State.opcode_of_fetched h
    rw [ho] at hx
    rw [State.dexEpset, State.dexPriv]
    exact State.dex_unprivileged hst haw hft (· == 0x88) _ hw (by simp [hx]) (State.steps_of_fetched h (by simp [ho])) (by rw [hx]; rfl) (by rw [hx]; rfl) ha

end Sys2Proof.Machine
end

section
namespace Sys2Proof.Machine

/-! ### Refutations: reads of runs, parking and errors -/

/-- A run table that lists context 1 twice, the first time with the record of a free context that waits for a descriptor. No word of O24 excludes it. -/
def listedTwice : State :=
  { State.reset with
    runs := [(1, { (default : Run) with await := some 7 }), (1, { (default : Run) with st := .ready })]
    accs := [(7, { (default : Access) with client := .desc 1, orig := [(0, 0)], st := .issued })] }

theorem listedTwice_calm : listedTwice.calm := by decide

theorem listedTwice_awaits : listedTwice.awaits 7 1 (.desc 1) := by decide

/-- Taking the wait away leaves the record of a free context, so that both entries go, and then the descriptor is held in one entry. -/
theorem listedTwice_listed :
    (match exec (.descriptorReadReturn 7 (.ok [])) listedTwice with | .next t => (t.runs : List (Nat × Run)).length | _ => 0) = 1 := by decide +kernel

/-- Refutes O24: with context 1 listed twice, a descriptor's return leaves one entry of it, and the state the statement gives holds two. -/
theorem not_readsOfRuns : ¬ Obligations.ReadsOfRuns := by
  unfold Obligations.ReadsOfRuns
  intro h
  obtain ⟨-, -, -, hdesc, -⟩ := h listedTwice listedTwice_calm
  obtain ⟨t, ht, hu, -⟩ := hdesc 7 1 0 0 [] listedTwice_awaits rfl rfl
  have hl := listedTwice_listed
  have hr : (t.runs : List (Nat × Run)).length = 2 := by
    rw [congrArg State.runs hu]
    rfl
  rw [ht] at hl
  exact absurd (hr.symm.trans hl) (by decide)

/-- Context 3 RUNNING with another context's operation 64 among its parked ones, a COPY on channel 0 before operation 65 of context 1, whose event finds event queue 0
unwritable; that queue holds an event of context 3 already. No word of O26 excludes it. -/
def foreignParked : State :=
  { State.reset with
    runs := [(3, { (default : Run) with st := .running, parkedOps := [64] })]
    chans := [(0, { (default : Chan) with ops := [64, 65] })]
    wqs := [(0, { (default : Wq) with eqEn := true })]
    eqs := [(0, { (default : Evq) with st := .active, held := [⟨0, 0, 0, 0, .entry 3⟩] })]
    ops := [(64, { (default : Op) with live := true, eng := .bulk }), (65, { (default : Op) with live := true, opcode := 0x31, tag := 1 })] }

theorem foreignParked_calm : foreignParked.calm := by decide

/-- The error cancels operation 64, channel 0 goes on with operation 65, whose event cannot be written: the events held are given up, and with context 3's the context
itself is freed. -/
theorem foreignParked_freed :
    (match exec (.seqCtxEcc 3) foreignParked with | .next t => (t.runs.look 3).st | _ => .ending) = .free := by decide +kernel

/-- Refutes O26: an uncorrectable error in context 3, with a parked operation that is not its own, leaves the context FREE and not ENDING. -/
theorem not_parkingAndErrors : ¬ Obligations.ParkingAndErrors := by
  unfold Obligations.ParkingAndErrors
  intro h
  obtain ⟨-, -, -, -, -, -, hecc, -⟩ := h foreignParked foreignParked_calm
  obtain ⟨t, ht, hst, -⟩ := hecc 3 (by decide) rfl (by decide) rfl
  have hf := foreignParked_freed
  simp only [ht, hst, reduceCtorEq] at hf

end Sys2Proof.Machine
end

section
namespace Sys2Proof.Machine

/-! ### Accesses that the TLB translates at once (R218) -/

/-- A lookup that hits leaves the TLB alone, and reads nothing else. -/
theorem State.tlbLook_hit {s t : State} {p va pa : Nat} {k : AccKind} {ns : Bool} (ht : t.tlb = s.tlb) (h : (s.tlbLook p k va).2 = .hit pa ns) :
    t.tlbLook p k va = (t, .hit pa ns) := by
  unfold State.tlbLook at h ⊢
  dsimp only at h ⊢
  rw [ht]
  split at h
  · cases h
  · split at h
    · cases h
    · split at h
      · cases h
      · split at h
        · cases h
        · next h1 h2 h3 => rw [if_neg h1, if_neg h2, if_neg h3]; exact congrArg _ h
  · cases h

/-- An access has been taken on under a fresh number. -/
def State.accessing (s : State) (a : Access) : State := { s with nextId := s.nextId + 1, accs := s.accs.put s.nextId a }

theorem State.access_eq (s : State) (c : Client) (pasid dom : Nat) (k : AccKind) (sp : Bool) (ps : List (Nat × Nat)) (data : List Byte) :
    s.access c pasid dom k sp ps data = (s.nextId, State.accGo (pieceFuel ps) (s.accessing ⟨c, pasid, dom, k, sp, ps, ps, [], data, .idle⟩) s.nextId) := rfl

@[simp] theorem State.accessing_look (s : State) (a : Access) : (s.accessing a).accs.look s.nextId = a := Tab.look_put_self _ _ _

theorem State.accessing_put {s : State} {a b : Access} (ha : a ≠ default) (hb : b ≠ default) (r : Tab Word) :
    ({ s.accessing a with regs := r, accs := (s.accessing a).accs.put s.nextId b } : State) = State.accessing { s with regs := r } b := by
  simp only [State.accessing, Tab.put_put _ _ ha hb]

section
variable {t : State} {id pasid dom va n pa : Nat} {k : AccKind} {a : Access} (hl : t.accs.look id = a) (hp : (t.pas.look a.pasid).st = .active)
  (hd : (t.pas.look a.pasid).dom = some a.dom)
include hl hp hd

/-- A piece within one page that the TLB holds is translated, and the lookup counted (R218). -/
theorem State.accGo_hit (hs : a.spec = false) (he : a.pieces = [(va, n)]) (hc : (t.pas.look a.pasid).canonical va = true) (hb : va % 4096 + n ≤ 4096) (hn : 0 < n)
    (ht : (t.tlbLook a.pasid a.kind va).2 = .hit pa false) (f : Nat) :
    ∃ r, t.counted { t with regs := r } ∧
      State.accGo (f + 1) t id = State.accGo f { t with regs := r, accs := t.accs.put id { a with pieces := [], chunks := a.chunks ++ [(pa, n)] } } id := by
  obtain ⟨m, rfl⟩ : ∃ m, n = m + 1 := ⟨n - 1, by omega⟩
  have hm : min (m + 1) (4096 - va % 4096) = m + 1 := by omega
  obtain ⟨r, e, hr⟩ := State.counted_trans (t.counted_count 0x0300 (t.pas.look a.pasid).port 1 (some a.dom)) (State.counted_count _ 0x0301 (t.pas.look a.pasid).port 0 (some a.dom))
  refine ⟨r, ⟨r, rfl, hr⟩, ?_⟩
  rw [State.accGo]
  simp only [hl, hp, hd, hs, he, hc, hm, State.tlbLook_hit rfl ht, reduceCtorEq, bne_self_eq_false, Bool.or_false, Bool.not_true, Bool.false_eq_true, Bool.false_and,
    decide_false, ↓reduceIte, show b2n (Look.hit pa false == Look.miss) = 0 from rfl]
  rw [e]

/-- An access with every piece translated is issued. -/
theorem State.accGo_issue (he : a.pieces = []) (f : Nat) : State.accGo (f + 1) t id = t.accIssue id := by
  rw [State.accGo]
  simp [hl, hp, hd, he]

end

theorem Access.not_default {a : Access} (h : a.orig ≠ []) : a ≠ default := by
  rintro rfl
  exact h rfl

/-- An access to bytes of one page that the TLB holds is issued at once: the lookup is counted, and nothing else happens before. -/
theorem State.accGo_maps {s : State} {a : Access} {va n pa : Nat} (h : s.maps a.pasid a.dom a.kind va n pa) (hs : a.spec = false) (he : a.pieces = [(va, n)])
    (ho : a.orig ≠ []) (f : Nat) : ∃ t, s.counted t ∧
      State.accGo (f + 2) (s.accessing a) s.nextId = (t.accessing { a with pieces := [], chunks := a.chunks ++ [(pa, n)] }).accIssue s.nextId := by
  obtain ⟨ha, hd, hc, hb, hn, ht⟩ := h
  obtain ⟨r, ⟨r', e', hr⟩, e⟩ := State.accGo_hit (s.accessing_look a) ha hd hs he hc hb hn
    (congrArg Prod.snd (State.tlbLook_hit (s := s) (t := s.accessing a) rfl ht)) (f + 1)
  refine ⟨{ s with regs := r }, ⟨r, rfl, fun off ho => ?_⟩, ?_⟩
  · rw [show r = r' from congrArg State.regs e']
    exact hr off ho
  · rw [e, State.accessing_put (b := { a with pieces := [], chunks := a.chunks ++ [(pa, n)] }) (Access.not_default ho) (Access.not_default ho)]
    exact State.accGo_issue (State.accessing_look { s with regs := r } { a with pieces := [], chunks := a.chunks ++ [(pa, n)] }) ha hd rfl f

theorem State.access_maps {s : State} {pasid dom va n pa : Nat} {k : AccKind} (h : s.maps pasid dom k va n pa) (c : Client) (data : List Byte) :
    ∃ t, s.counted t ∧ s.access c pasid dom k false [(va, n)] data =
      (s.nextId, (t.accessing ⟨c, pasid, dom, k, false, [], [(va, n)], [(pa, n)], data, .idle⟩).accIssue s.nextId) := by
  obtain ⟨f, hf⟩ : ∃ f, pieceFuel [(va, n)] = f + 2 := ⟨n / 4096 + 3, by simp [pieceFuel]; omega⟩
  rw [State.access_eq, hf]
  obtain ⟨t, ht, e⟩ := State.accGo_maps (a := ⟨c, pasid, dom, k, false, [(va, n)], [(va, n)], [], data, .idle⟩) h rfl rfl (by simp) f
  exact ⟨t, ht, congrArg _ e⟩

/-- An output is put out, its bytes not counted yet (R500). -/
def State.said (s : State) (o : Out) : State := { s with outs := o :: s.outs }

theorem State.counted_out (s : State) (o : Out) : (s.said o).counted (s.out o) := by
  unfold State.out
  split
  · exact State.counted_count _ _ _ _ _
  · exact State.counted_count _ _ _ _ _
  · exact State.counted_refl _

theorem State.counted_said {s t : State} (h : s.counted t) (o : Out) : (s.said o).counted (t.said o) := by
  obtain ⟨r, rfl, hr⟩ := h
  exact ⟨r, rfl, hr⟩

theorem State.counted_accessing {s t : State} (h : s.counted t) (a : Access) : (s.accessing a).counted (t.accessing a) := by
  obtain ⟨r, rfl, hr⟩ := h
  exact ⟨r, rfl, hr⟩

theorem State.counted_updRun {s t : State} (h : s.counted t) (ctx : Nat) (f : Run → Run) : (s.updRun ctx f).counted (t.updRun ctx f) := by
  obtain ⟨r, rfl, hr⟩ := h
  exact ⟨r, rfl, hr⟩

theorem State.calm_said {s : State} (h : s.calm) (o : Out) : (s.said o).calm := State.calm_congr h rfl rfl rfl rfl rfl rfl rfl

theorem State.calm_accessing {s : State} (h : s.calm) (a : Access) : (s.accessing a).calm := State.calm_congr h rfl rfl rfl rfl rfl rfl rfl

theorem State.calm_accDrop {s : State} (h : s.calm) (k : Nat) : (s.accDrop k).calm := State.calm_congr h rfl rfl rfl rfl rfl rfl rfl

theorem State.counted_runs {s t : State} (h : s.counted t) : t.runs = s.runs := by
  obtain ⟨r, rfl, hr⟩ := h
  rfl

theorem State.nextId_counted {s t : State} (h : s.counted t) : t.nextId = s.nextId := by
  obtain ⟨r, rfl, hr⟩ := h
  rfl

/-- A read of one page of the host has been asked for (R93). -/
theorem State.access_read {s : State} {pasid dom va n pa : Nat} (h : s.maps pasid dom .read va n pa) (c : Client) :
    ∃ t, ((s.accessing ⟨c, pasid, dom, .read, false, [], [(va, n)], [(pa, n)], [], .issued⟩).said
      (.hostRead s.nextId (s.pas.look pasid).port (s.pas.look pasid).fn [(pa, n)])).counted t ∧ s.access c pasid dom .read false [(va, n)] [] = (s.nextId, t) := by
  obtain ⟨t, ht, e⟩ := State.access_maps h c []
  refine ⟨_, State.counted_trans (State.counted_said (State.counted_accessing ht _) _) (State.counted_out _ _), ?_⟩
  rw [e, State.accIssue, ← State.nextId_counted ht, State.accessing_look]
  have hd : (⟨c, pasid, dom, .read, false, [], [(va, n)], [(pa, n)], [], .idle⟩ : Access) ≠ default := Access.not_default (by simp)
  have hi : (⟨c, pasid, dom, .read, false, [], [(va, n)], [(pa, n)], [], .issued⟩ : Access) ≠ default := Access.not_default (by simp)
  obtain ⟨r, rfl, -⟩ := ht
  simp only [State.accessing, Tab.put_put _ _ hd hi]

/-- A host port open to a function is open whatever has been counted. -/
theorem State.portUp_counted {s t : State} (h : s.counted t) (p : Nat) : t.portUp p = s.portUp p := by
  have hs : t.sealed = s.sealed := congrArg (· != 0) (State.counted_get h (f := F.SEC_STATUS_SEALED) (by decide))
  have hm : t.mode = s.mode := State.counted_get h (f := F.DEV_MODE_MODE) (by decide)
  obtain ⟨r, rfl, -⟩ := h
  simp [State.portUp, hs, hm]

/-- A translated write is posted where its function may (R559). -/
theorem State.accIssue_write {t : State} {id : Nat} {a : Access} (hl : t.accs.look id = a) (hk : a.kind = .write) (hu : t.portUp (t.pas.look a.pasid).port = true)
    (hb : (t.fnOf (t.pas.look a.pasid).port (t.pas.look a.pasid).fn).bme = true) :
    t.accIssue id = (t.out (.hostWrite (t.pas.look a.pasid).port (t.pas.look a.pasid).fn a.chunks a.wdata)).later (.acc id (.ok [])) := by
  simp [State.accIssue, hl, hk, hu, hb, State.accEnd]

/-- A write of one page of the host has been posted, and its end is left for later (R93, R559). -/
theorem State.access_write {s : State} {pasid dom va n pa : Nat} (h : s.maps pasid dom .write va n pa) (hu : s.portUp (s.pas.look pasid).port = true)
    (hb : (s.fnOf (s.pas.look pasid).port (s.pas.look pasid).fn).bme = true) (c : Client) (bs : List Byte) :
    ∃ t, ((s.accessing ⟨c, pasid, dom, .write, false, [], [(va, n)], [(pa, n)], bs, .idle⟩).said
      (.hostWrite (s.pas.look pasid).port (s.pas.look pasid).fn [(pa, n)] bs)).counted t ∧
      s.access c pasid dom .write false [(va, n)] bs = (s.nextId, t.later (.acc s.nextId (.ok []))) := by
  obtain ⟨t, ht, e⟩ := State.access_maps h c bs
  refine ⟨_, State.counted_trans (State.counted_said (State.counted_accessing ht _) _) (State.counted_out _ _), ?_⟩
  have hp : t.pas = s.pas ∧ t.fns = s.fns := by obtain ⟨r, rfl, -⟩ := ht; exact ⟨rfl, rfl⟩
  rw [← State.nextId_counted ht] at e ⊢
  rw [e, State.accIssue_write (t.accessing_look _) rfl (by rw [← hu, ← State.portUp_counted ht, ← hp.1]; rfl) (by rw [← hb, ← hp.1]; simp only [State.fnOf, ← hp.2]; rfl)]
  obtain ⟨r, rfl, -⟩ := ht
  rfl

/-- ST's write has left: the run retires ST, and the access is forgotten (R93). -/
theorem State.accDone_st {u : State} {id ctx : Nat} (hc : (u.accs.look id).client = .st ctx) (ha : (u.runs.look ctx).await = some id) :
    u.accDone id (.ok []) = (((u.updRun ctx fun r => { r with await := none }).retire ctx ((u.runs.look ctx).pc + 1)).accDrop id) := by
  simp [State.accDone, hc, State.stDone, State.ownDone, ha]

theorem State.counted_accDrop {u v : State} (h : u.counted v) (k : Nat) : (u.accDrop k).counted (v.accDrop k) := by
  obtain ⟨r, rfl, hr⟩ := h
  exact ⟨r, rfl, hr⟩

section
variable {s : State} {ctx : Nat} {i : Ins}

/-- A register instruction that is due gives its result in its register (R131, R133). -/
theorem State.gives_reg (h : s.due ctx i) (hx : allowExt i.opcode = false) (h2 : i.opcode ≠ 2) {c : Instr} {v : Word} {f : Run → Run}
    (he : exec c s = .next (s.dexReg ctx i v).settle) (hf : f (s.runs.look ctx) = (s.runs.look ctx).setG i.rd v) : s.gives c (s.went ctx ((s.runs.look ctx).pc + 1) f) := by
  refine State.gives_went h he ?_ (by rw [hf, Run.setG_st]) (by rw [hf, Run.setG_preempt]) (by rw [hf, Run.setG_steps])
  rw [State.dexReg, State.size_of_due h hx h2, State.updRun_congr s hf.symm]

/-- LD of a host block blocks its run on the read (R93, R132). -/
theorem State.gives_ld_host (h : s.due ctx i) (ho : i.opcode = 0x04) {ptr words va pa : Nat} (hp : (s.runs.look ctx).params = .host ptr words)
    (hn : ((s.runs.look ctx).rg i.ra).toNat + i.imm < words) (hva : va = ptr + (((s.runs.look ctx).rg i.ra).toNat + i.imm) * 8)
    (hm : s.maps ((s.runs.look ctx).pasid.getD 0) (s.runs.look ctx).dom .read va 8 pa) :
    s.gives (.ld ctx) (((s.accessing ⟨.ld ctx, (s.runs.look ctx).pasid.getD 0, (s.runs.look ctx).dom, .read, false, [], [(va, 8)], [(pa, 8)], [], .issued⟩).said
        (.hostRead s.nextId (s.pas.look ((s.runs.look ctx).pasid.getD 0)).port (s.pas.look ((s.runs.look ctx).pasid.getD 0)).fn [(pa, 8)])).updRun ctx
      fun r => { r with await := some s.nextId, st := .blocked, block := .ld i.rd, nextPc := r.pc + 1, preempt := false }) := by
  subst hva
  obtain ⟨t, ht, e⟩ := State.access_read hm (.ld ctx)
  have hst := State.running_of_due h
  have hr := State.counted_runs ht
  refine State.gives_counted (State.counted_updRun ht _ _) (State.calm_congr (State.calm_of_due h) rfl rfl rfl rfl rfl rfl rfl) ?_
  rw [State.exec_due h (f := fun s => s.dexLd ctx) rfl, State.dexLd, State.dex_due h (by simp [ho])]
  simp only [hp, if_pos hn, State.runAccess, e]
  rw [State.updRun_updRun _ (by simp [hr, State.accessing, State.said, hst]) (by simp)]

theorem State.calm_counted {u v : State} (h : u.counted v) (hc : u.calm) : v.calm := by
  obtain ⟨r, rfl, hr⟩ := h
  exact State.calm_congr hc rfl rfl rfl rfl rfl rfl (hr _ (by decide))

/-- A write of the run itself that has been posted retires ST (R93). -/
theorem State.counted_stDone {u t : State} {k : Nat} (ht : u.counted t) (hc : (u.accs.look k).client = .st ctx) (hst : (u.runs.look ctx).st = .running)
    (hp : (u.runs.look ctx).preempt = false) (haw : (u.runs.look ctx).await = none) :
    ((u.went ctx ((u.runs.look ctx).pc + 1) id).accDrop k).counted ((t.updRun ctx fun r => { r with await := some k }).accDone k (.ok [])) := by
  have hr := State.counted_runs ht
  have ha : t.accs = u.accs := by obtain ⟨r, rfl, -⟩ := ht; rfl
  rw [State.accDone_st (ctx := ctx) (by simpa [ha] using hc) (by simp)]
  rw [State.updRun_updRun _ (by simp [hr, hst]) (by simp [hr, hst]), State.updRun_congr t (g := id) (by simp [hr, ← haw]), State.updRun_runs, Tab.look_upd_self, hr]
  refine State.counted_accDrop (State.counted_trans (State.counted_updRun ht ctx _) (State.counted_went (f := id) ?_ ?_ rfl _)) k
  · simp [hr, hst]
  · simp [hr, hp]

/-- ST to a host block retires once its write has been posted (R93, R132). -/
theorem State.gives_st_host (h : s.due ctx i) (ho : i.opcode = 0x05) {ptr words va pa : Nat} (hp : (s.runs.look ctx).params = .host ptr words)
    (hn : ((s.runs.look ctx).rg i.ra).toNat + i.imm < words) (hva : va = ptr + (((s.runs.look ctx).rg i.ra).toNat + i.imm) * 8)
    (hm : s.maps ((s.runs.look ctx).pasid.getD 0) (s.runs.look ctx).dom .write va 8 pa)
    (hu : s.portUp (s.pas.look ((s.runs.look ctx).pasid.getD 0)).port = true)
    (hb : (s.fnOf (s.pas.look ((s.runs.look ctx).pasid.getD 0)).port (s.pas.look ((s.runs.look ctx).pasid.getD 0)).fn).bme = true) :
    s.gives (.st ctx) ((((s.accessing ⟨.st ctx, (s.runs.look ctx).pasid.getD 0, (s.runs.look ctx).dom, .write, false, [], [(va, 8)], [(pa, 8)],
      leBytes ((s.runs.look ctx).rg i.rb).toNat 8, .idle⟩).said (.hostWrite (s.pas.look ((s.runs.look ctx).pasid.getD 0)).port
      (s.pas.look ((s.runs.look ctx).pasid.getD 0)).fn [(pa, 8)] (leBytes ((s.runs.look ctx).rg i.rb).toNat 8))).went ctx ((s.runs.look ctx).pc + 1) id).accDrop s.nextId) := by
  subst hva
  obtain ⟨t, ht, e⟩ := State.access_write hm hu hb (.st ctx) (leBytes ((s.runs.look ctx).rg i.rb).toNat 8)
  have haw : (s.runs.look ctx).await = none := h.1.2.2.2.1
  have hk := State.counted_stDone (k := s.nextId) ht (by simp [State.said, State.accessing]) (State.running_of_due h) (State.steady_of_due h) haw
  have hw : t.work = [] := by obtain ⟨r, rfl, -⟩ := ht; exact (State.calm_of_due h).1
  have hc := State.calm_counted hk (State.calm_accDrop (State.calm_went (State.calm_said (State.calm_accessing (State.calm_of_due h) _) _) _ _) _)
  refine State.gives_counted hk (State.calm_accDrop (State.calm_went (State.calm_said (State.calm_accessing (State.calm_of_due h) _) _) _ _) _) ?_
  rw [State.exec_due h (f := fun s => s.dexSt ctx) rfl, State.dexSt, State.dex_due h (by simp [ho])]
  simp only [hp, if_pos hn, State.runAccess, e]
  exact congrArg Host.Outcome.next (State.settle_later (w := .acc s.nextId (.ok [])) (s := t.updRun ctx fun r => { r with await := some s.nextId }) hw rfl hc)

/-- What a command's state has put out beside what stood is new. -/
theorem State.mem_newOuts {s u t : State} {o : Out} (h : u.upTo t) (ho : u.outs = o :: s.outs) : o ∈ s.newOuts t := by
  obtain ⟨-, -, hs | ⟨l, hs⟩⟩ := h
  · simp [State.newOuts, hs, ho]
  · simp [State.newOuts, hs, ho, show s.outs.length + 1 + 1 - s.outs.length = 2 by omega]

end

/-- Settles O15: on chip LD and ST change the run alone; in host memory each makes one access. -/
theorem parameterAccess : Obligations.ParameterAccess := by
  unfold Obligations.ParameterAccess
  intro s ctx i h
  refine ⟨fun ws ho hp hn => ?_, fun ws ho hp hn => ?_, fun ptr words pa ho hp hn hm => ?_, fun ptr words pa ho hp hn hm hu hb => ?_, fun ws ho hu hl hp hn => ?_⟩
  · refine State.gives_reg h (by rw [ho]; rfl) (by rw [ho]; decide) (v := ws.getD (((s.runs.look ctx).rg i.ra).toNat + i.imm) 0) ?_ rfl
    rw [State.exec_due h (f := fun s => s.dexLd ctx) rfl, State.dexLd, State.dex_due h (by simp [ho])]
    simp only [hp, if_pos hn]
  · refine State.gives_went h (State.exec_due h (f := fun s => s.dexSt ctx) rfl) ?_ rfl rfl rfl
    rw [State.dexSt, State.dex_due h (by simp [ho])]
    simp only [hp, if_pos hn]
    exact congrArg (State.retire · ctx _) (State.updRun_congr s rfl)
  · obtain ⟨t, ht, hu⟩ := State.gives_ld_host h ho hp hn rfl hm
    refine ⟨t, ht, State.mem_newOuts hu rfl, ?_⟩
    rw [congrArg State.runs hu.1]
    simp [State.accessing, State.said]
  · obtain ⟨t, ht, hu⟩ := State.gives_st_host h ho hp hn rfl hm hu hb
    refine ⟨t, ht, State.mem_newOuts hu rfl, ?_⟩
    rw [congrArg State.runs hu.1]
    simp [State.accDrop, State.said, State.accessing, State.went, State.running_of_due h]
  · refine State.gives_over (State.calm_of_due h) (State.running_of_due h) hu hl ?_
    rw [State.exec_due h (f := fun s => s.dexLd ctx) rfl, State.dexLd, State.dex_due h (by simp [ho])]
    simp only [hp, if_neg (Nat.not_lt.2 hn)]

end Sys2Proof.Machine
end

section
namespace Sys2Proof.Machine

/-! ### Issue of an operation (R75, R97) -/

/-- The run once its operation `o` has been issued in slot `n` with a status (R75, R82, R96). -/
def Run.issued (r : Run) (i : Ins) (o : Op) (n chk : Nat) : Run :=
  if o.nb then { r.setG 15 (g15 chk i.opcode 0) with
    pc := r.pc + i.size, steps := r.steps + 1, desc := none, opSeq := r.opSeq + 1
    rdPend := match o.rd with | some d => if d = 0 then r.rdPend else r.rdPend ++ [(d, n)] | none => r.rdPend }
  else { r with st := if o.opcode = 0x40 then .waiting else .blocked, block := .op n, nextPc := r.pc + i.size, steps := r.steps + 1, desc := none, opSeq := r.opSeq + 1 }

/-- The state once the operation has been issued, its step not counted yet. -/
def State.issued (s : State) (ctx n : Nat) (i : Ins) (o : Op) (chk : Nat) : State :=
  { s.updRun ctx (fun r => r.issued i o n chk) with ops := s.ops.put (ctx * 64 + n) o }

/-- Two changes of a record, neither of which forgets it, are one. -/
theorem Tab.upd_upd {α : Type} [DecidableEq α] [Inhabited α] (t : Tab α) {k : Nat} {f g : α → α} (hf : f (t.look k) ≠ default) (hg : g (f (t.look k)) ≠ default) :
    (t.upd k f).upd k g = t.upd k fun a => g (f a) := by
  simp only [Tab.upd, Tab.look_put_self, Tab.put_put _ _ hf hg]

section
variable {s : State} {ctx n : Nat} {i : Ins} {o : Op}

theorem Run.issued_st (r : Run) (chk : Nat) (h : r.st ≠ .free) : (r.issued i o n chk).st ≠ .free := by
  unfold Run.issued
  split
  · simpa using h
  · dsimp only
    split <;> simp

/-- With a slot free, an operation of a run that no preemption waits for is issued in the least one (R97). -/
theorem State.opIssue_slot (hs : s.freeSlot ctx = some n) (hst : (s.runs.look ctx).st = .running) (hp : (s.runs.look ctx).preempt = false) (chk : Nat) :
    ∃ t, (s.issued ctx n i o chk).counted t ∧ s.opIssue ctx i o chk = (some (ctx * 64 + n), t) := by
  have hu : ((({ s with ops := s.ops.put (ctx * 64 + n) o } : State).updRun ctx fun r => { r with opSeq := r.opSeq + 1 }).runs.look ctx) =
      { s.runs.look ctx with opSeq := (s.runs.look ctx).opSeq + 1 } := by
    rw [State.updRun_runs, Tab.look_upd_self]
  by_cases hnb : o.nb = true
  · obtain ⟨r, e, hr⟩ := State.retire_steady (s := ({ s with ops := s.ops.put (ctx * 64 + n) o } : State).updRun ctx fun r => { r with opSeq := r.opSeq + 1 }) (ctx := ctx)
      (by rw [hu]; exact hp) ((s.runs.look ctx).pc + i.size)
    refine ⟨{ s.issued ctx n i o chk with regs := r }, ⟨r, rfl, hr⟩, ?_⟩
    rw [State.opIssue, hs]
    dsimp only
    rw [if_pos hnb, hu]
    dsimp only
    rw [e]
    simp only [State.issued, State.updRun]
    refine congrArg (fun R => (some (ctx * 64 + n), ({ s with ops := s.ops.put (ctx * 64 + n) o, regs := r, runs := R } : State))) ?_
    rw [Tab.upd_upd s.runs (Run.not_default (by simp [hst])) (Run.not_default (by simp [hst])),
      Tab.upd_upd _ (Run.not_default (by simp [hst])) (Run.not_default ?_)]
    · refine Tab.upd_congr _ ?_
      rcases hrd : o.rd with _ | d
      · simp [Run.issued, hnb, hrd, hst, Run.setG_put]
      · by_cases hd : d = 0 <;> simp [Run.issued, hnb, hrd, hd, hst, Run.setG_put]
    · rcases o.rd with _ | d
      · simp [hst]
      · by_cases hd : d = 0 <;> simp [hd, hst]
  · obtain ⟨r, e, hr⟩ := State.count_form (({ s with ops := s.ops.put (ctx * 64 + n) o } : State).updRun ctx fun r => { r with opSeq := r.opSeq + 1 }) 0x0200 (s.runs.look ctx).cluster 1 (some (s.runs.look ctx).dom)
    refine ⟨{ s.issued ctx n i o chk with regs := r }, ⟨r, rfl, hr⟩, ?_⟩
    rw [State.opIssue, hs]
    dsimp only
    rw [if_neg hnb, hu]
    dsimp only
    rw [e]
    simp only [State.issued, State.updRun]
    refine congrArg (fun R => (some (ctx * 64 + n), ({ s with ops := s.ops.put (ctx * 64 + n) o, regs := r, runs := R } : State))) ?_
    rw [Tab.upd_upd _ (Run.not_default (by simp [hst])) (Run.not_default (by dsimp only; split <;> simp))]
    refine Tab.upd_congr _ ?_
    simp [Run.issued, hnb, hp]

/-- The least slot of a run with no operation (R97). -/
theorem State.freeSlot_unladen (hu : s.unladen ctx) : s.freeSlot ctx = some 0 := by
  have h0 : s.ops.look (ctx * 64 + 0) = default := Tab.look_absent (State.unladen_key hu (by decide))
  rw [State.freeSlot, show List.range 64 = 0 :: (List.range 63).map (· + 1) from rfl, List.find?_cons_of_pos (by rw [h0]; rfl)]

theorem State.yieldRun_steady (h : (s.runs.look ctx).preempt = false) : s.yieldRun ctx = s := by simp [State.yieldRun, h]

theorem State.ledger_doms {s t : State} (h : t.doms = s.doms) (d n a : Nat) : (t.ledger d n a).doms = (s.ledger d n a).doms := by
  unfold State.ledger
  rw [h]
  split
  · exact h
  · rfl

/-- An operation of a run with no other one that completes at issue, without an event and without a register of its own: what is left is its G15, its step, its
count in the ledger, and what its signal leaves of the counters (R81, R98, R160). -/
theorem State.opInstant_quiet (hu : s.unladen ctx) (hst : (s.runs.look ctx).st = .running) (hp : (s.runs.look ctx).preempt = false) (hlive : o.live = true)
    (hrd : o.rd = none) (htag : o.tag = 0) (hoc : o.opcode = i.opcode) (h70 : i.opcode ≠ 0x70) (h71 : i.opcode ≠ 0x71) (hnb : o.nb = i.nb) {x : Tab Ctr}
    (hc : ∀ t : State, t.ctrs = s.ctrs → t.ops = s.ops → (if o.sigl then t.ctrSignal o.lctr (s.runs.look ctx).dom else t) = { t with ctrs := x }) (st : Nat) :
    ({ s.wentOp ctx i st none 0 with ctrs := x } : State).counted (s.opInstant ctx i o st 0 none) := by
  obtain ⟨t, ⟨r, rfl, hr⟩, e⟩ := State.opIssue_slot (i := i) (o := o) (State.freeSlot_unladen hu) hst hp st
  have hops : (s.ops.put (ctx * 64 + 0) o).del (ctx * 64 + 0) = s.ops := by
    rw [Tab.del_put _ _ (Op.not_default hlive), Tab.del_absent (State.unladen_key hu (by decide))]
  refine ⟨r, ?_, fun off ho => ?_⟩
  · unfold State.opInstant
    rw [e]
    dsimp only
    rw [if_neg (by simp [htag, hoc, h70, h71]), State.ledger_form, hc]
    · rw [State.yieldRun_steady, State.wentOp, State.ledger_form (s.updRun ctx _)]
      · simp only [State.issued, State.updRun, hops]
        refine congrArg₂ (fun R D => ({ s with regs := r, runs := R, doms := D, ctrs := x } : State)) ?_ (State.ledger_doms (by rfl) _ _ _)
        rw [Tab.upd_upd _ (Run.not_default (Run.issued_st _ _ (by simp [hst])))
          (Run.not_default (by cases hi : o.nb <;> simp [hrd, Run.issued, hi, hst]))]
        refine Tab.upd_congr _ ?_
        cases hi : o.nb
        · by_cases h64 : i.opcode = 64 <;> simp [hrd, Run.issued, hi, ← hnb, hst, Run.setG_put, hoc, h64]
        · simp [hrd, Run.issued, hi, ← hnb, hst, Run.setG_put]
      · simp only [State.issued, State.updRun, Tab.look_upd_self]
        cases hi : o.nb <;> simp [hrd, Run.issued, hi, hp]
    · rfl
    · exact hops
  · rw [hr off ho, State.wentOp, State.ledger_form]
    rfl

/-- One that signals no counter leaves them all. -/
theorem State.opInstant_still (hu : s.unladen ctx) (hst : (s.runs.look ctx).st = .running) (hp : (s.runs.look ctx).preempt = false) (hlive : o.live = true)
    (hrd : o.rd = none) (htag : o.tag = 0) (hoc : o.opcode = i.opcode) (h70 : i.opcode ≠ 0x70) (h71 : i.opcode ≠ 0x71) (hnb : o.nb = i.nb) (hsig : o.sigl = false)
    (st : Nat) : (s.wentOp ctx i st none 0).counted (s.opInstant ctx i o st 0 none) := by
  have h := State.opInstant_quiet (x := s.ctrs) hu hst hp hlive hrd htag hoc h70 h71 hnb (fun t ht _ => by rw [hsig, ← ht]; rfl) st
  rwa [show ({ s.wentOp ctx i st none 0 with ctrs := s.ctrs } : State) = s.wentOp ctx i st none 0 by rw [State.wentOp, State.ledger_form]; rfl] at h

theorem State.calm_wentOp (h : s.calm) (st : Nat) (rd : Option Nat) (v : Word) : (s.wentOp ctx i st rd v).calm :=
  State.calm_ledger (State.calm_updRun h ctx _) _ _ _

theorem State.ledger_ctrs {s t : State} {x : Tab Ctr} (h : t = { s with ctrs := x }) (d n a : Nat) : t.ledger d n a = { s.ledger d n a with ctrs := x } := by
  subst h
  unfold State.ledger
  dsimp only
  split <;> rfl

theorem State.wentOp_ctrs (x : Tab Ctr) (st : Nat) (rd : Option Nat) (v : Word) :
    State.wentOp { s with ctrs := x } ctx i st rd v = { s.wentOp ctx i st rd v with ctrs := x } := by
  unfold State.wentOp
  refine State.ledger_ctrs ?_ _ _ _
  rfl

theorem State.withSlot_free (hs : s.freeSlot ctx = some n) (k : State → State) : s.withSlot ctx k = k s := by simp [State.withSlot, hs]

/-- An operation is accepted where a slot is free and no run waits for room (R97). -/
theorem State.accept_slot (hq : s.roomQ = []) (hs : s.freeSlot ctx = some n) (hst : (s.runs.look ctx).st = .running) (hp : (s.runs.look ctx).preempt = false)
    (k : State → Nat → State) : ∃ t, (s.issued ctx n i o stOk).counted t ∧ s.accept ctx i o k = k t (ctx * 64 + n) := by
  obtain ⟨t, ht, e⟩ := State.opIssue_slot (i := i) (o := o) hs hst hp stOk
  refine ⟨t, ht, ?_⟩
  rw [State.accept, State.roomTaken_none hq, e]

theorem State.accepted_eq (hnb : o.nb = i.nb) (h40 : o.opcode ≠ 0x40) : s.accepted ctx n i o = s.issued ctx n i o stOk := by
  unfold State.accepted State.issued Run.issued
  simp only [hnb, h40, if_false] <;> rfl

/-- An operation that is not REVOKE leaves a calm state calm. -/
theorem State.calm_issued (h : s.calm) (h84 : o.opcode ≠ 0x84) (chk : Nat) : (s.issued ctx n i o chk).calm := by
  obtain ⟨h1, h2, h3, h4, h5, h6, h7⟩ := h
  exact ⟨h1, h2, h3, h4, Tab.keysOf_put_nil _ h5 (by simp [h84]), h6, h7⟩

end

/-! ### WAIT, SIGNAL, CSET and FENCE (R148 to R150) -/

section
variable {s : State} {ctx : Nat} {i : Ins}

/-- An operation of an instruction without an extension word has no signal, no tag and no register. -/
theorem Ins.plain_of_due (h : s.due ctx i) (hx : allowExt i.opcode = false) : i.tag = 0 ∧ i.sigl = false := by
  have he := Ins.ext_of_flags (State.flagsOk_of_due h) hx
  exact ⟨by simp [Ins.tag, he], Ins.sigl_of_flags (State.flagsOk_of_due h) he⟩

/-- The operation of a WAIT (R148). -/
def waitOp (r : Run) (i : Ins) (target : Word) : Op :=
  { mkOp r i .ctr with
    arg := i.imm % 65536, x := { (default : Xfer) with operand := target }, due := if wbits (r.rg i.rb) 31 0 = 0 then 0 else wbits (r.rg i.rb) 31 0 + 1 }

/-- An operation has the flags of its instruction, and no register of its own. -/
abbrev Op.flagged (o : Op) (i : Ins) : Prop := o.live = true ∧ o.rd = none ∧ o.tag = i.tag ∧ o.opcode = i.opcode ∧ o.nb = i.nb ∧ o.sigl = i.sigl

theorem Op.flagged_mkOp (r : Run) (i : Ins) (e : Engine) : (mkOp r i e).flagged i := ⟨rfl, rfl, rfl, rfl, rfl, rfl⟩

theorem Op.flagged_waitOp (r : Run) (i : Ins) (w : Word) : (waitOp r i w).flagged i := ⟨rfl, rfl, rfl, rfl, rfl, rfl⟩

/-- An operation of a plain instruction that completes at issue gives its G15 and its step. -/
theorem State.gives_still (h : s.due ctx i) (hu : s.unladen ctx) (hx : allowExt i.opcode = false) (h70 : i.opcode ≠ 0x70) (h71 : i.opcode ≠ 0x71) {c : Instr} {o : Op}
    {st : Nat} (ho : o.flagged i) (he : exec c s = .next (s.opInstant ctx i o st 0 none).settle) : s.gives c (s.wentOp ctx i st none 0) := by
  obtain ⟨htag, hsig⟩ := Ins.plain_of_due h hx
  obtain ⟨hl, hrd, ht, hoc, hnb, hs⟩ := ho
  exact State.gives_counted (State.opInstant_still hu (State.running_of_due h) (State.steady_of_due h) hl hrd (ht.trans htag) hoc h70 h71 hnb (hs.trans hsig) st)
    (State.calm_wentOp (State.calm_of_due h) _ _ _) he

/-- The counters with a new value in one. -/
def ctrsWith (t : Tab Ctr) (c : Nat) (f : Word → Word) : Tab Ctr := t.upd c fun v => { v with val := f v.val }

/-- SIGNAL and CSET set the counter of the run's domain, on which no WAIT waits, and complete (R149). -/
theorem State.gives_counter (h : s.due ctx i) (hu : s.unladen ctx) {oc : Nat} (ho : i.opcode = oc) (hoc : oc = 0x41 ∨ oc = 0x42) {f : Run → Ins → Word → Word} {c : Instr}
    (he : exec c s = .next (s.dexCounter ctx oc f).settle) (hd : (s.ctrs.look (i.imm % 65536)).dom = some (s.runs.look ctx).dom) (hw : s.unwaited (i.imm % 65536)) :
    s.gives c { s.wentOp ctx i stOk none 0 with ctrs := s.ctrs.upd (i.imm % 65536) fun v => { v with val := f (s.runs.look ctx) i v.val } } := by
  have hx : allowExt i.opcode = false ∧ i.opcode ≠ 0x70 ∧ i.opcode ≠ 0x71 := by
    rw [ho]
    rcases hoc with rfl | rfl <;> exact ⟨rfl, by decide, by decide⟩
  obtain ⟨hx, h70, h71⟩ := hx
  obtain ⟨htag, hsig⟩ := Ins.plain_of_due h hx
  have hput : s.ctrPut (i.imm % 65536) { s.ctrs.look (i.imm % 65536) with val := f (s.runs.look ctx) i (s.ctrs.look (i.imm % 65536)).val } =
      { s with ctrs := ctrsWith s.ctrs (i.imm % 65536) (f (s.runs.look ctx) i) } :=
    State.waitEval_unwaited hw
  have hk := State.opInstant_still (s := { s with ctrs := ctrsWith s.ctrs (i.imm % 65536) (f (s.runs.look ctx) i) }) (o := mkOp (s.runs.look ctx) i .ctr) hu (State.running_of_due h) (State.steady_of_due h) rfl rfl htag rfl
    h70 h71 rfl hsig stOk
  rw [State.wentOp_ctrs] at hk
  refine State.gives_counted hk (State.calm_congr (State.calm_wentOp (State.calm_of_due h) stOk none 0) rfl rfl rfl rfl rfl rfl rfl) ?_
  rw [he, State.dexCounter, State.dex_due h (by simp [ho])]
  simp only [State.withSlot_free (State.freeSlot_unladen hu), hput]
  rw [if_neg (by simp [hd])]

/-- The target of a WAIT (R148). -/
theorem Ins.waitTarget_toNat {w w2 : Word} (hi : i = Ins.of w w2) (v : Word) :
    (if i.opf % 2 = 1 then BitVec.ofNat 64 (i.imm / 65536) else v).toNat = if i.opf % 2 = 1 then i.imm / 65536 else v.toNat := by
  have hm : i.imm < 2 ^ 32 := by rw [hi]; exact wbits_lt w 31 0
  split
  · rw [BitVec.toNat_ofNat]
    omega
  · rfl

/-- The run waits for a counter, a target and the stage of its timeout. -/
def Run.waitingOn (r : Run) (w : Nat × Nat × Nat) : Run := { r with waitOn := some w }

/-- A WAIT whose counter is short of its target leaves its run WAITING (R100, R148). -/
theorem State.gives_wait (h : s.due ctx i) (hu : s.unladen ctx) (ho : i.opcode = 0x40) (hd : (s.ctrs.look (i.imm % 65536)).dom = some (s.runs.look ctx).dom)
    {target wait : Nat} (ht : target = if i.opf % 2 = 1 then i.imm / 65536 else ((s.runs.look ctx).rg i.ra).toNat)
    (hlt : (s.ctrs.look (i.imm % 65536)).val.toNat < target) (hw : wait = wbits ((s.runs.look ctx).rg i.rb) 31 0) :
    s.gives (.wait ctx) ((s.accepted ctx 0 i { mkOp (s.runs.look ctx) i .ctr with
        arg := i.imm % 65536, x := { (default : Xfer) with operand := BitVec.ofNat 64 target }, due := if wait = 0 then 0 else wait + 1 }).updRun ctx fun r =>
      { r with st := .waiting, waitOn := some (i.imm % 65536, target, if wait = 0 then 0 else s.now + wait) }) := by
  have hs := State.freeSlot_unladen hu
  have hst := State.running_of_due h
  have hnb : i.nb = false := Ins.nb_of_flags (State.flagsOk_of_due h) (by rw [ho]; rfl)
  have hto := Ins.waitTarget_toNat h.1.2.2.2.2.2.2.2.2 ((s.runs.look ctx).rg i.ra)
  have htw : (if i.opf % 2 = 1 then BitVec.ofNat 64 (i.imm / 65536) else (s.runs.look ctx).rg i.ra) = BitVec.ofNat 64 target := by
    rw [ht]
    split
    · rfl
    · simp
  rw [← ht] at hto
  obtain ⟨t, htc, e⟩ := State.accept_slot (i := i) (o := waitOp (s.runs.look ctx) i (BitVec.ofNat 64 target)) (State.calm_of_due h).2.2.1 hs hst (State.steady_of_due h)
    fun s _ => s.updRun ctx fun r => { r with waitOn := some (i.imm % 65536, target, if wait = 0 then 0 else s.now + wait) }
  have hnow : t.now = s.now := State.counted_get htc (by decide)
  have hk := State.counted_updRun htc ctx fun r => r.waitingOn (i.imm % 65536, target, if wait = 0 then 0 else s.now + wait)
  have hc := State.calm_updRun (State.calm_issued (n := 0) (i := i) (o := waitOp (s.runs.look ctx) i (BitVec.ofNat 64 target)) (ctx := ctx) (State.calm_of_due h) (by simp [waitOp, mkOp, ho]) stOk) ctx fun r => r.waitingOn (i.imm % 65536, target, if wait = 0 then 0 else s.now + wait)
  have hg : (s.issued ctx 0 i (waitOp (s.runs.look ctx) i (BitVec.ofNat 64 target)) stOk).updRun ctx (fun r => r.waitingOn (i.imm % 65536, target, if wait = 0 then 0 else s.now + wait)) =
      (s.accepted ctx 0 i (waitOp (s.runs.look ctx) i (BitVec.ofNat 64 target))).updRun ctx fun r =>
        { r with st := .waiting, waitOn := some (i.imm % 65536, target, if wait = 0 then 0 else s.now + wait) } := by
    have ho' : (waitOp (s.runs.look ctx) i (BitVec.ofNat 64 target)).nb = false ∧ (waitOp (s.runs.look ctx) i (BitVec.ofNat 64 target)).opcode = 0x40 := ⟨hnb, ho⟩
    simp only [State.issued, State.accepted, State.updRun, Run.issued, Run.waitingOn, ho', hnb, Bool.false_eq_true, if_false, if_true]
    refine congrArg (fun R => ({ s with ops := s.ops.put (ctx * 64 + 0) (waitOp (s.runs.look ctx) i (BitVec.ofNat 64 target)), runs := R } : State)) ?_
    rw [Tab.upd_upd _ (Run.not_default (by simp)) (Run.not_default (by simp)), Tab.upd_upd _ (Run.not_default (by simp)) (Run.not_default (by simp))]
  rw [hg] at hk hc
  subst hw
  refine State.gives_counted hk hc ?_
  rw [State.exec_due h (f := fun s => s.dexWait ctx) rfl, State.dexWait, State.dex_due h (by simp [ho])]
  simp only [State.withSlot_free hs, hto]
  rw [if_neg (by simp [hd]), if_neg (by omega), htw]
  refine congrArg (fun t : State => Host.Outcome.next t.settle) (e.trans ?_)
  rw [hnow]
  rfl

/-- Settles O17: what completes at issue by what is left of such an operation, a WAIT short of its target by its acceptance. -/
theorem counterInstructions : Obligations.CounterInstructions := by
  unfold Obligations.CounterInstructions
  intro s ctx i h hu
  have hs := State.freeSlot_unladen hu
  have ht := Ins.waitTarget_toNat h.1.2.2.2.2.2.2.2.2 ((s.runs.look ctx).rg i.ra)
  refine ⟨fun ho hd hle => ?_, fun target wait ho hd htg hlt hwt => ?_, fun ho hd hw => ?_, fun ho hd hw => ?_, fun ho hd => ?_, fun ho => ?_⟩
  · refine State.gives_still h hu (by rw [ho]; rfl) (by simp [ho]) (by simp [ho])
      (Op.flagged_waitOp (s.runs.look ctx) i (if i.opf % 2 = 1 then BitVec.ofNat 64 (i.imm / 65536) else (s.runs.look ctx).rg i.ra)) ?_
    rw [State.exec_due h (f := fun s => s.dexWait ctx) rfl, State.dexWait, State.dex_due h (by simp [ho])]
    simp only [State.withSlot_free hs, hd, ne_eq, not_true, if_false, ht, if_pos hle] <;> rfl
  · exact State.gives_wait h hu ho hd htg hlt hwt
  · exact State.gives_counter h hu ho (.inl rfl) (State.exec_due h (f := fun s => s.dexCounter ctx 0x41 fun r i v => v + (if i.opf % 2 = 1 then r.rg i.ra else 1)) rfl) hd hw
  · exact State.gives_counter h hu ho (.inr rfl) (State.exec_due h (f := fun s => s.dexCounter ctx 0x42 fun r i _ => r.rg i.ra) rfl) hd hw
  · refine State.gives_still h hu (by rw [ho]; rfl) (by simp [ho]) (by simp [ho]) (Op.flagged_mkOp (s.runs.look ctx) i .ctr) ?_
    rw [State.exec_due h (f := fun s => s.dexCounter ctx 0x42 fun r i _ => r.rg i.ra) rfl, State.dexCounter, State.dex_due h (by simp [ho])]
    simp only [State.withSlot_free hs, if_pos hd]
  · refine State.gives_still h hu (by rw [ho]; rfl) (by simp [ho]) (by simp [ho]) (Op.flagged_mkOp (s.runs.look ctx) i .fence) ?_
    rw [State.exec_due h (f := fun s => s.dexFence ctx) rfl, State.dexFence, State.dex_due h (by simp [ho])]
    simp only [State.withSlot_free hs, State.opsOf_unladen hu, List.isEmpty_nil, if_true]

end

end Sys2Proof.Machine
end

section
namespace Sys2Proof.Machine

/-! ### Events behind one that is being written (R199) -/

section
variable {s : State} {e k st bytes : Nat} {o : Op}

/-- While an event is being written, the next one stays where it is. -/
theorem State.eqPump_writing (h : (s.eqs.look e).writing = true) : s.eqPump e = s := by
  unfold State.eqPump
  dsimp only
  split
  · rfl
  · rw [if_pos (by simp [h])]

/-- An event of a queue whose events have one ahead is held, and the event queue looked at later. -/
theorem State.wqEvent_held {q : Nat} (h : s.eventsTo q e) (ev : Ev) :
    s.wqEvent q ev = ({ s with eqs := s.eqs.put e { s.eqs.look e with held := (s.eqs.look e).held ++ [ev] } } : State).later (.eqPump e) := by
  obtain ⟨hen, hq, he, hst, -, -⟩ := h
  subst he
  simp [State.wqEvent, hen, hq, State.evPost, hst]

/-- Holding it behind that one is all that settling does about it. -/
theorem State.settle_held (hc : s.calm) (hw : (s.eqs.look e).writing = true) (ev : Ev) :
    (({ s with eqs := s.eqs.put e { s.eqs.look e with held := (s.eqs.look e).held ++ [ev] } } : State).later (.eqPump e)).settle =
      ({ s with eqs := s.eqs.put e { s.eqs.look e with held := (s.eqs.look e).held ++ [ev] } } : State).settle :=
  State.settle_later (by exact hc.1) (State.eqPump_writing (by simp [hw])) (State.calm_congr hc rfl rfl rfl rfl rfl rfl rfl)

/-- The outcome of an operation that has none yet. -/
theorem State.opFin_none (ho : s.ops.look k = o) (hl : o.live = true) (hf : o.fin = none) (he : o.eng ≠ .bulk) (v : Option Word) :
    s.opFin k st bytes v = { s with ops := s.ops.put k { o with fin := some (st, bytes, v) } } := by
  simp [State.opFin, ho, hl, hf, he]

/-- Reporting an operation with a tag writes its event (R85, R196). -/
theorem State.opReport_tagged (ho : s.ops.look k = o) (hl : o.live = true) (hf : o.fin = some (st, bytes, none)) (hr : o.reporting = false) (hn : o.noCtr = false)
    (he : (s.runs.look (k / 64)).st ≠ .ending) (hp : (s.runs.look (k / 64)).st ≠ .parked) (h31 : o.opcode ≠ 0x31) (h70 : o.opcode ≠ 0x70) (h71 : o.opcode ≠ 0x71)
    (ht : o.tag ≠ 0) :
    s.opReport k = ({ s with ops := s.ops.put k { o with reporting := true } } : State).wqEvent (s.runs.look (k / 64)).wq
      (mkEv s 2 st o.opcode (s.runs.look (k / 64)).wq o.pc bytes (s.runs.look (k / 64)).idx (BitVec.ofNat 64 o.tag) (.op k)) := by
  simp [State.opReport, ho, hl, hf, hr, hn, he, hp, h31, h70, h71, ht] <;> rfl

/-- Finishing and reporting it at once. -/
theorem State.opDone_tagged (ho : s.ops.look k = o) (hl : o.live = true) (hf : o.fin = none) (hr : o.reporting = false) (hn : o.noCtr = false) (heng : o.eng ≠ .bulk)
    (he : (s.runs.look (k / 64)).st ≠ .ending) (hp : (s.runs.look (k / 64)).st ≠ .parked) (h31 : o.opcode ≠ 0x31) (h70 : o.opcode ≠ 0x70) (h71 : o.opcode ≠ 0x71)
    (ht : o.tag ≠ 0) :
    s.opDone k st bytes none = ({ s with ops := s.ops.put k { o with fin := some (st, bytes, none), reporting := true } } : State).wqEvent (s.runs.look (k / 64)).wq
      (mkEv s 2 st o.opcode (s.runs.look (k / 64)).wq o.pc bytes (s.runs.look (k / 64)).idx (BitVec.ofNat 64 o.tag) (.op k)) := by
  rw [State.opDone, State.opFin_none ho hl hf heng]
  refine (State.opReport_tagged (s := { s with ops := s.ops.put k { o with fin := some (st, bytes, none) } }) (o := { o with fin := some (st, bytes, none) }) (Tab.look_put_self _ _ _) hl rfl hr hn he hp h31 h70 h71 ht).trans ?_
  simp only [Tab.put_put _ _ (Op.not_default (o := { o with fin := some (st, bytes, none) }) hl) (Op.not_default (o := { o with fin := some (st, bytes, none), reporting := true }) hl)] <;> rfl

end

/-! ### Completion signals of EPSET (R98, R99, R195) -/

section
variable {s : State} {ctx : Nat} {i : Ins}

/-- The endpoint entry EPSET writes (R336). -/
theorem State.epWrite_fields (s : State) (n : Nat) (w : Word) :
    s.epWrite n (wbits w 31 0) = { s with eps := s.eps.put n (wbits w 17 0 + wbits w 31 31 * 2 ^ 31) } := by
  have h : wbits w 31 0 % 2 ^ 18 + wbits w 31 0 / 2 ^ 31 % 2 * 2 ^ 31 = wbits w 17 0 + wbits w 31 31 * 2 ^ 31 := by
    simp only [wbits, bitsOf]
    omega
  rw [State.epWrite, h]

/-- A step of EPSET whose counter is not its domain's, or is. -/
theorem State.exec_epset (h : s.due ctx i) (hu : s.unladen ctx) (ho : i.opcode = 0x88) :
    exec (.epset ctx) s = .next (if s.lctrOk (s.runs.look ctx) i = true then
      (s.epWrite (wbits ((s.runs.look ctx).rg i.ra) 19 0) (wbits ((s.runs.look ctx).rg i.rb) 31 0)).opInstant ctx i (mkOp (s.runs.look ctx) i .none) stOk 0 none
    else s.opInstant ctx i (mkOp (s.runs.look ctx) i .none) stRights 0 none).settle := by
  have hf : i.opf = 0 := by
    have := Ins.opf_of_flags (State.flagsOk_of_due h)
    simpa [ho, allowOpf] using this
  rw [State.exec_due h (f := fun s => s.dexEpset ctx) rfl, State.dexEpset, State.dexPriv, State.dex_due h (by simp [ho])]
  simp only [hf, ne_eq, not_true, if_false, State.withSlot_free (State.freeSlot_unladen hu)]
  by_cases hl : s.lctrOk (s.runs.look ctx) i = true
  · simp [hl, State.dexNow]
  · simp [hl]

theorem State.ledger_eps {s t : State} {x : Tab Nat} (h : t = { s with eps := x }) (d n a : Nat) : t.ledger d n a = { s.ledger d n a with eps := x } := by
  subst h
  unfold State.ledger
  dsimp only
  split <;> rfl

theorem State.wentOp_eps (x : Tab Nat) (st : Nat) (rd : Option Nat) (v : Word) :
    State.wentOp { s with eps := x } ctx i st rd v = { s.wentOp ctx i st rd v with eps := x } := by
  unfold State.wentOp
  refine State.ledger_eps ?_ _ _ _
  rfl

/-- A counter on which no WAIT waits is advanced by its domain's signal, and nothing else happens (R99). -/
theorem State.ctrSignal_unwaited {t : State} {c dom : Nat} (hd : (t.ctrs.look c).dom = some dom) (hw : t.unwaited c) :
    t.ctrSignal c dom = { t with ctrs := t.ctrs.upd c fun v => { v with val := v.val + 1 } } := by
  rw [State.ctrSignal, if_pos hd]
  exact State.waitEval_unwaited hw

/-- EPSET that signals a counter of its domain (R98). -/
theorem State.gives_epset_signal (h : s.due ctx i) (hu : s.unladen ctx) (ho : i.opcode = 0x88) (hs : i.sigl = true) (ht : i.tag = 0)
    (hd : (s.ctrs.look i.lctr).dom = some (s.runs.look ctx).dom) (hw : s.unwaited i.lctr) {x : Tab Nat}
    (hx : s.epWrite (wbits ((s.runs.look ctx).rg i.ra) 19 0) (wbits ((s.runs.look ctx).rg i.rb) 31 0) = { s with eps := x }) :
    s.gives (.epset ctx) { s.wentOp ctx i stOk none 0 with eps := x, ctrs := s.ctrs.upd i.lctr fun v => { v with val := v.val + 1 } } := by
  have hl : s.lctrOk (s.runs.look ctx) i = true := by simp [State.lctrOk, hd]
  have hc : ∀ t : State, t.ctrs = s.ctrs → t.ops = s.ops →
      (if i.sigl then t.ctrSignal i.lctr (s.runs.look ctx).dom else t) = { t with ctrs := s.ctrs.upd i.lctr fun v => { v with val := v.val + 1 } } := by
    intro t hct hot
    rw [if_pos hs, State.ctrSignal_unwaited (by rw [hct, hd]) (by rw [State.unwaited, hot]; exact hw), hct]
  have hk := State.opInstant_quiet (s := { s with eps := x }) (o := mkOp (s.runs.look ctx) i .none) hu (State.running_of_due h) (State.steady_of_due h) rfl rfl ht rfl
    (by simp [ho]) (by simp [ho]) rfl hc stOk
  rw [State.wentOp_eps] at hk
  refine State.gives_counted hk (State.calm_congr (State.calm_wentOp (State.calm_of_due h) stOk none 0) rfl rfl rfl rfl rfl rfl rfl) ?_
  rw [State.exec_epset h hu ho, if_pos hl, hx]

/-- EPSET whose counter is another domain's (R125). -/
theorem State.gives_epset_rights (h : s.due ctx i) (hu : s.unladen ctx) (ho : i.opcode = 0x88) (hs : i.sigl = true) (ht : i.tag = 0)
    (hd : (s.ctrs.look i.lctr).dom ≠ some (s.runs.look ctx).dom) : s.gives (.epset ctx) (s.wentOp ctx i stRights none 0) := by
  have hc : ∀ t : State, t.ctrs = s.ctrs → t.ops = s.ops → (if i.sigl then t.ctrSignal i.lctr (s.runs.look ctx).dom else t) = { t with ctrs := s.ctrs } := by
    intro t hct _
    rw [if_pos hs, State.ctrSignal, if_neg (by rwa [hct]), ← hct]
  have hk := State.opInstant_quiet (o := mkOp (s.runs.look ctx) i .none) hu (State.running_of_due h) (State.steady_of_due h) rfl rfl ht rfl
    (by simp [ho]) (by simp [ho]) rfl hc stRights
  rw [← State.wentOp_ctrs] at hk
  refine State.gives_counted hk (State.calm_wentOp (State.calm_of_due h) stRights none 0) ?_
  rw [State.exec_epset h hu ho, if_neg (by simp [State.lctrOk, hs, hd])]

theorem Run.issued_facts {r : Run} {n chk : Nat} {o : Op} (hst : r.st = .running) (h40 : o.opcode ≠ 0x40) :
    (r.issued i o n chk).wq = r.wq ∧ (r.issued i o n chk).idx = r.idx ∧ (r.issued i o n chk).steps = r.steps + 1 ∧
    (r.issued i o n chk).st = if o.nb then .running else .blocked := by
  cases hn : o.nb <;> simp [Run.issued, hn, hst, Run.setG_put, h40]

theorem State.timeWord_counted {s t : State} (h : s.counted t) : t.timeWord = s.timeWord := by
  rw [State.timeWord, State.timeWord, State.frac, State.frac, State.now, State.now, State.counted_get h (by decide), State.counted_get h (by decide)]

/-- The state while a finished operation is reported. -/
def State.reporting (s : State) (k : Nat) (o : Op) (st : Nat) : State := { s with ops := s.ops.put k { o with fin := some (st, 0, none), reporting := true } }

/-- An operation with a tag that completes at issue is in its slot until its event is visible, which waits behind the one being written (R85, R196, R199). -/
theorem State.opInstant_held (hc : s.calm) (hu : s.unladen ctx) (hst : (s.runs.look ctx).st = .running) (hp : (s.runs.look ctx).preempt = false) {e st : Nat} {o : Op}
    (he : s.eventsTo (s.runs.look ctx).wq e) (hl : o.live = true) (hf : o.fin = none) (hr : o.reporting = false) (hn : o.noCtr = false) (heng : o.eng ≠ .bulk)
    (ht : o.tag ≠ 0) (hop : o.opcode ∉ [0x31, 0x40, 0x70, 0x71, 0x84]) {ev : Ev}
    (hev : ev = mkEv s 2 st o.opcode (s.runs.look ctx).wq o.pc 0 (s.runs.look ctx).idx (BitVec.ofNat 64 o.tag) (.op (ctx * 64))) :
    ∃ u : State, u.calm ∧ u.eqs = s.eqs.put e { s.eqs.look e with held := (s.eqs.look e).held ++ [ev] } ∧ u.runs = s.runs.upd ctx (fun r => r.issued i o 0 st) ∧
      (s.opInstant ctx i o st 0 none).settle = u.settle := by
  simp only [List.mem_cons, List.not_mem_nil, or_false, not_or] at hop
  obtain ⟨h31, h40, h70, h71, h84⟩ := hop
  obtain ⟨t, htc, e1⟩ := State.opIssue_slot (i := i) (o := o) (State.freeSlot_unladen hu) hst hp st
  obtain ⟨hwq, hidx, -, hst'⟩ := Run.issued_facts (i := i) (n := 0) (chk := st) hst h40
  have hk : (ctx * 64 + 0) / 64 = ctx := by omega
  have hr' : t.runs.look ((ctx * 64 + 0) / 64) = (s.runs.look ctx).issued i o 0 st := by
    rw [hk, State.counted_runs htc]
    simp [State.issued]
  have hrn : ((s.runs.look ctx).issued i o 0 st).st ≠ .ending ∧ ((s.runs.look ctx).issued i o 0 st).st ≠ .parked := by
    rw [hst']
    split <;> exact ⟨by simp, by simp⟩
  have hev' : ev = mkEv t 2 st o.opcode (s.runs.look ctx).wq o.pc 0 (s.runs.look ctx).idx (BitVec.ofNat 64 o.tag) (.op (ctx * 64 + 0)) := by
    rw [hev, mkEv, mkEv, State.timeWord_counted htc]
    rfl
  have hops : t.ops.look (ctx * 64 + 0) = o := by
    obtain ⟨r, rfl, -⟩ := htc
    exact Tab.look_put_self _ _ _
  have hd := State.opDone_tagged (st := st) (bytes := 0) hops hl hf hr hn heng (by rw [hr']; exact hrn.1) (by rw [hr']; exact hrn.2) h31 h70 h71 ht
  rw [hr', hwq, hidx, ← hev'] at hd
  have hsame : t.wqs = s.wqs ∧ t.eqs = s.eqs ∧ t.runs = s.runs.upd ctx fun r => r.issued i o 0 st := by
    obtain ⟨r, rfl, -⟩ := htc
    exact ⟨rfl, rfl, rfl⟩
  obtain ⟨hw, hq, hrr⟩ := hsame
  have hbe : (t.reporting (ctx * 64 + 0) o st).eventsTo (s.runs.look ctx).wq e := by
    simpa only [State.reporting, State.eventsTo, hw, hq] using he
  have hbc : (t.reporting (ctx * 64 + 0) o st).calm := by
    obtain ⟨h1, h2, h3, h4, h5, h6, h7⟩ := State.calm_counted htc (State.calm_issued hc h84 st)
    exact ⟨h1, h2, h3, h4, Tab.keysOf_put_nil _ h5 (by simp), h6, h7⟩
  refine ⟨{ t.reporting (ctx * 64 + 0) o st with eqs := t.eqs.put e { t.eqs.look e with held := (t.eqs.look e).held ++ [ev] } }, State.calm_congr hbc rfl rfl rfl rfl rfl rfl rfl, ?_, hrr, ?_⟩
  · rw [hq]
  · rw [State.opInstant, e1]
    dsimp only
    rw [if_pos (by simp [ht]), hd, ← State.reporting, State.wqEvent_held hbe, State.settle_held hbc hbe.2.2.2.2.1]
    rfl

/-- EPSET with a tag queues its event (R195, R196). -/
theorem State.completes_epset_event (h : s.due ctx i) (hu : s.unladen ctx) (ho : i.opcode = 0x88) (hs : i.sigl = false) (ht : i.tag ≠ 0) {e : Nat} {ev : Ev}
    (he : s.eventsTo (s.runs.look ctx).wq e) {x : Tab Nat}
    (hx : s.epWrite (wbits ((s.runs.look ctx).rg i.ra) 19 0) (wbits ((s.runs.look ctx).rg i.rb) 31 0) = { s with eps := x })
    (hev : ev = mkEv s 2 stOk 0x88 (s.runs.look ctx).wq (s.runs.look ctx).pc 0 (s.runs.look ctx).idx (BitVec.ofNat 64 i.tag) (.op (ctx * 64))) :
    s.completes (.epset ctx) fun t => (t.eqs.look e).held = (s.eqs.look e).held ++ [ev] ∧ (t.runs.look ctx).steps = (s.runs.look ctx).steps + 1 := by
  have hl : s.lctrOk (s.runs.look ctx) i = true := by simp [State.lctrOk, hs]
  have hst := State.running_of_due h
  obtain ⟨u, hc, heqs, hruns, hset⟩ := State.opInstant_held (s := { s with eps := x }) (i := i) (o := mkOp (s.runs.look ctx) i .none)
    (State.calm_congr (State.calm_of_due h) rfl rfl rfl rfl rfl rfl rfl) hu hst (State.steady_of_due h) he rfl rfl rfl rfl (by simp [mkOp]) ht
    (st := stOk) (by simp [mkOp, ho]) (ev := ev) (by rw [hev, ← ho]; rfl)
  obtain ⟨t, hn, hu, -⟩ := State.gives_settle (by rw [State.exec_epset h hu ho, if_pos hl, hx, hset]) hc
  refine ⟨t, hn, ?_, ?_⟩
  · rw [congrArg State.eqs hu]
    simp only [heqs, Tab.look_put_self]
  · rw [congrArg State.runs hu]
    simp only [hruns, Tab.look_upd_self]
    exact (Run.issued_facts hst (by simp [mkOp, ho])).2.2.1

/-- Settles O23: EPSET's counter and its event are those of an operation that completes at issue. -/
theorem completionSignals : Obligations.CompletionSignals := by
  unfold Obligations.CompletionSignals
  intro s ctx i h hu ho hx
  refine ⟨fun hs ht hd hw => ?_, fun hs ht hd => State.gives_epset_rights h hu ho hs ht hd, fun e ev he hs ht hev => ?_⟩
  · exact State.gives_epset_signal h hu ho hs ht hd hw (State.epWrite_fields s _ _)
  · exact State.completes_epset_event h hu ho hs ht he (State.epWrite_fields s _ _) (hev.trans rfl)

end

end Sys2Proof.Machine
end

section
namespace Sys2Proof.Machine

/-! ### Several deferred happenings -/

theorem drain_step (n : Nat) {s : State} {w : Work} {ws : List Work} (h : s.work = w :: ws) : drain (n + 1) s = drain n (State.workOne { s with work := ws } w) := by
  rw [drain, h]

/-- Once nothing is left, draining on changes nothing. -/
theorem drain_done {n m : Nat} (hnm : n ≤ m) (s : State) (h : (drain n s).work = []) : drain m s = drain n s := by
  induction n generalizing m s with
  | zero => exact drain_nil m s h
  | succ n ih =>
    obtain ⟨m, rfl⟩ : ∃ l, m = l + 1 := ⟨m - 1, by omega⟩
    unfold drain at h ⊢
    split
    · rfl
    · next w ws hw =>
      rw [hw] at h
      exact ih (by omega) _ h

/-- What drains to a calm state settles on it. -/
theorem State.settle_drain {s t : State} (n : Nat) (hn : n ≤ 2 ^ 24) (h : drain n s = t) (ht : t.calm) : s.settle = t.settle := by
  have hr : rounds 256 s = t := by
    unfold rounds
    rw [drain_done hn s (by rw [h]; exact ht.1), h, State.follow_calm t ht]
    simp [ht.1]
  unfold State.settle
  rw [hr, rounds_calm 256 t ht]

/-- With no channel and nothing displaced, an operation that ends leaves no channel. -/
theorem State.sweep_none {s : State} (hu : s.unbound = []) (hc : s.chans = []) : s.sweep = s := by
  cases s
  cases hu
  cases hc
  rfl

/-! ### An operation's local completion (R81, R98, R197) -/

/-- The run that waited for an operation, once that has completed: RD, G15 and the program counter (R81, R82). -/
def Run.completed (r : Run) (o : Op) (n st bytes : Nat) (val : Option Word) : Run :=
  { (match o.rd with | some d => (if d = 0 then r else { (r.setG d (val.getD 0)) with rdPend := r.rdPend.filter (·.2 != n) }) | none => r).setG 15 (g15 st o.opcode bytes) with
    pc := r.nextPc }

section
variable {s : State} {ctx n st bytes : Nat} {o : Op} {v : Option Word}

/-- The operation leaves its slot, its run becomes READY past it, and the ledger counts it (R77, R448). -/
def State.completedOp (s : State) (ctx n : Nat) (o : Op) (st bytes : Nat) (val : Option Word) : State :=
  { (s.updRun ctx fun r => { r.completed o n st bytes val with st := .ready, block := .none, waitOn := none, readySeq := s.readyCtr }).ledger (s.runs.look ctx).dom ldOps 1 with
    ops := s.ops.del (ctx * 64 + n), readyCtr := s.readyCtr + 1 }

theorem State.opsOf_del (h : s.opsOf ctx = [ctx * 64 + n]) {t : State} (ht : t.ops = s.ops.del (ctx * 64 + n)) : t.opsOf ctx = [] := by
  have e : t.opsOf ctx = (s.opsOf ctx).filter (· ≠ ctx * 64 + n) := by
    simp only [State.opsOf, Tab.keysOf, ht, Tab.del, Tab.put, Tab.putD, if_pos, Tab.drop, List.filter_filter, List.filter_map]
    congr 1
    refine List.filter_congr fun e _ => ?_
    by_cases he : e.1 = ctx * 64 + n
    · simp [he]
    · simp [bne_iff_ne.2 he, he, Bool.and_comm]
  rw [e, h]
  simp

/-- A run that blocks or waits becomes READY (R77). -/
theorem State.unblock_waiting (h : (s.runs.look ctx).st = .blocked ∨ (s.runs.look ctx).st = .waiting) :
    s.unblock ctx = { s.updRun ctx fun r => { r with st := .ready, block := .none, waitOn := none, readySeq := s.readyCtr } with readyCtr := s.readyCtr + 1 } := by
  unfold State.unblock
  simp only [if_pos h] <;> rfl

theorem Run.completed_st (r : Run) (o : Op) (n st bytes : Nat) (val : Option Word) : (r.completed o n st bytes val).st = r.st := by
  unfold Run.completed
  dsimp only
  rcases o.rd with _ | d
  · simp
  · by_cases hd : d = 0 <;> simp [hd]

theorem State.opSeen_blocking (hn : n < 64) (ho : s.ops.look (ctx * 64 + n) = o) (hl : o.live = true) (hf : o.fin = some (st, bytes, v)) (hs : o.sigl = false)
    (h31 : o.opcode ≠ 0x31) (h71 : o.opcode ≠ 0x71) (hst : (s.runs.look ctx).st = .blocked ∨ (s.runs.look ctx).st = .waiting) (hb : (s.runs.look ctx).block = .op n)
    (hops : ∀ t : State, t.ops = s.ops.del (ctx * 64 + n) → t.opsOf ctx = []) :
    s.opSeen (ctx * 64 + n) = (s.completedOp ctx n o st bytes v).later (.room o.eng) := by
  have hk : (ctx * 64 + n) / 64 = ctx ∧ (ctx * 64 + n) % 64 = n := by omega
  have hne : ¬ ((s.runs.look ctx).st = .ending ∨ ((s.runs.look ctx).st = .parked ∧ (s.runs.look ctx).prev = .ending)) := by
    rcases hst with h | h <;> simp [h]
  have hnp : (s.runs.look ctx).st ≠ .parked := by
    rcases hst with h | h <;> simp [h]
  obtain ⟨t, ht⟩ : ∃ t, t = ({ s with ops := s.ops.del (ctx * 64 + n) } : State).ledger (s.runs.look ctx).dom ldOps 1 := ⟨_, rfl⟩
  have hm : ∀ m, t.ledger (s.runs.look ctx).dom m 0 = t := fun m => by simp [State.ledger]
  unfold State.opSeen
  simp only [ho, hf, hl, hk, hs, h31, h71, Bool.not_true, Bool.false_eq_true, if_false, false_and, decide_false, ← ht, hm, show b2n false = 0 from rfl, Bool.false_and, if_neg hne, hb, true_or, if_true, decide_true, Bool.true_or]
  have hF : ∀ F : Run → Run, F (s.runs.look ctx) = (s.runs.look ctx).completed o n st bytes v →
      (((t.updRun ctx F).unblock ctx).fenceEval ctx).later (.room o.eng) = (s.completedOp ctx n o st bytes v).later (.room o.eng) := by
    intro F hF
    rw [State.ledger_form] at ht
    have hst' : ((t.updRun ctx F).runs.look ctx).st = (s.runs.look ctx).st := by
      rw [ht, State.updRun_runs, Tab.look_upd_self, hF, Run.completed_st]
    rw [State.unblock_waiting (by rw [hst']; exact hst), State.fenceEval_none]
    · subst ht
      refine congrArg (State.later · (.room o.eng)) ?_
      rw [State.completedOp, State.ledger_form (s.updRun ctx _)]
      simp only [State.updRun]
      refine congrArg₂ (fun R D => ({ s with runs := R, doms := D, ops := s.ops.del (ctx * 64 + n), readyCtr := s.readyCtr + 1 } : State)) ?_ (State.ledger_doms (by rfl) _ _ _)
      rw [Tab.upd_upd _ (Run.not_default ?_) (Run.not_default (by simp))]
      · exact Tab.upd_congr _ (by rw [hF])
      · rw [hF, Run.completed_st]
        rcases hst with h | h <;> simp [h]
    · refine hops _ ?_
      rw [ht]
      rfl
  refine hF _ ?_
  rcases hrd : o.rd with _ | d
  · simp [Run.completed, hrd, hnp]
  · by_cases hd : d = 0 <;> simp [Run.completed, hrd, hnp, hd]

/-- A finished operation without a tag is reported and then seen: nothing is written (R85, R98). -/
theorem State.opReport_untagged (ho : s.ops.look (ctx * 64 + n) = o) (hn : n < 64) (hl : o.live = true) (hf : o.fin = some (st, bytes, v)) (hr : o.reporting = false)
    (hnc : o.noCtr = false) (ht : o.tag = 0) (h31 : o.opcode ≠ 0x31) (h70 : o.opcode ≠ 0x70) (h71 : o.opcode ≠ 0x71)
    (hst : (s.runs.look ctx).st = .blocked ∨ (s.runs.look ctx).st = .waiting) :
    s.opReport (ctx * 64 + n) = ({ s with ops := s.ops.put (ctx * 64 + n) { o with reporting := true } } : State).later (.evSeen (.op (ctx * 64 + n))) := by
  have hk : (ctx * 64 + n) / 64 = ctx := by omega
  have hne : (s.runs.look ctx).st ≠ .ending ∧ (s.runs.look ctx).st ≠ .parked := by
    rcases hst with h | h <;> simp [h]
  simp [State.opReport, ho, hl, hf, hr, hnc, hne, hk, h31, h70, h71, ht]

theorem Tab.keysOf_del_nil {α : Type} [DecidableEq α] [Inhabited α] {t : Tab α} {p : α → Bool} (k : Nat) (h : t.keysOf p = []) : (t.del k).keysOf p = [] := by
  simp only [Tab.keysOf, List.map_eq_nil_iff, List.filter_eq_nil_iff, Tab.del, Tab.put, Tab.putD, if_pos, Tab.drop] at h ⊢
  exact fun e he => h e (List.mem_of_mem_filter he)

theorem State.calm_completedOp (h : s.calm) (val : Option Word) : (s.completedOp ctx n o st bytes val).calm := by
  obtain ⟨h1, h2, h3, h4, h5, h6, h7⟩ := h
  rw [State.completedOp, State.ledger_form]
  exact ⟨h1, h2, h3, h4, Tab.keysOf_del_nil _ h5, h6, h7⟩

/-- What is left of an operation's completion does not hang on its record. -/
theorem State.completedOp_put (hl : o.live = true) (r : Bool) (f : Option (Nat × Nat × Option Word)) :
    State.completedOp { s with ops := s.ops.put (ctx * 64 + n) { o with reporting := r, fin := f } } ctx n { o with reporting := r, fin := f } st bytes v =
      s.completedOp ctx n o st bytes v := by
  rw [State.completedOp, State.completedOp, State.ledger_form, State.ledger_form (s.updRun ctx _)]
  simp only [State.updRun, Tab.del_put _ _ (Op.not_default (o := { o with reporting := r, fin := f }) hl)]
  exact congrArg (fun D => ({ s with runs := _, doms := D, ops := s.ops.del (ctx * 64 + n), readyCtr := s.readyCtr + 1 } : State)) (State.ledger_doms (by rfl) _ _ _)

theorem drain_later (m : Nat) {s : State} (h : s.work = []) (w : Work) : drain (m + 1) (s.later w) = drain m (State.workOne s w) := by
  have e : ({ s.later w with work := [] } : State) = s := by cases s; cases h; rfl
  rw [drain_step m (s := s.later w) (w := w) (ws := []) (by simp [h]), e]

/-- Room that appears where no channel works is nothing to wait for. -/
theorem drain_room (m : Nat) {s : State} {e : Engine} {ws : List Work} (h : s.work = .room e :: ws) (hu : s.unbound = []) (hc : s.chans = []) :
    drain (m + 1) s = drain m { s with work := ws } := by
  rw [drain_step m h]
  exact congrArg (drain m) (State.sweep_none hu hc)

/-- The state of an operation that has its outcome and is reported settles on its completion. -/
theorem State.drain_seen (hw : s.work = []) (hu : s.unbound = []) (hch : s.chans = []) (hn : n < 64) (ho : s.ops.look (ctx * 64 + n) = o) (hl : o.live = true)
    (hf : o.fin = some (st, bytes, v)) (hs : o.sigl = false) (h31 : o.opcode ≠ 0x31) (h71 : o.opcode ≠ 0x71)
    (hst : (s.runs.look ctx).st = .blocked ∨ (s.runs.look ctx).st = .waiting) (hb : (s.runs.look ctx).block = .op n)
    (hops : ∀ t : State, t.ops = s.ops.del (ctx * 64 + n) → t.opsOf ctx = []) :
    drain 2 (s.later (.evSeen (.op (ctx * 64 + n)))) = s.completedOp ctx n o st bytes v := by
  have hx : (s.completedOp ctx n o st bytes v).work = [] ∧ (s.completedOp ctx n o st bytes v).unbound = [] ∧ (s.completedOp ctx n o st bytes v).chans = [] := by
    rw [State.completedOp, State.ledger_form]
    exact ⟨hw, hu, hch⟩
  rw [drain_later 1 hw, State.workOne, State.evSeen, State.opSeen_blocking hn ho hl hf hs h31 h71 hst hb hops, drain_later 0 hx.1, State.workOne, State.sweep_none hx.2.1 hx.2.2, drain]

/-- Reporting a finished operation settles on its completion. -/
theorem State.drain_reported (hc : s.calm) (hu : s.unbound = []) (hch : s.chans = []) (hn : n < 64) (hops : s.opsOf ctx = [ctx * 64 + n]) (hl : o.live = true)
    (hs : o.sigl = false) (h31 : o.opcode ≠ 0x31) (h71 : o.opcode ≠ 0x71)
    (hst : (s.runs.look ctx).st = .blocked ∨ (s.runs.look ctx).st = .waiting) (hb : (s.runs.look ctx).block = .op n) :
    drain 2 (({ s with ops := s.ops.put (ctx * 64 + n) { o with reporting := true, fin := some (st, bytes, v) } } : State).later (.evSeen (.op (ctx * 64 + n)))) =
      s.completedOp ctx n o st bytes v := by
  rw [← State.completedOp_put hl true (some (st, bytes, v))]
  refine State.drain_seen hc.1 hu hch hn (Tab.look_put_self _ _ _) hl rfl hs h31 h71 hst hb fun t ht => ?_
  exact State.opsOf_del hops (ht.trans (Tab.del_put _ _ (Op.not_default hl)))

/-- Room that appears before it makes no difference. -/
theorem State.settle_room {w : Work} {e : Engine} {t : State} (hw : s.work = []) (hu : s.unbound = []) (hch : s.chans = []) (h : drain 2 (s.later w) = t) (ht : t.calm) :
    ((s.later (.room e)).later w).settle = t.settle := by
  refine State.settle_drain 3 (by decide) ?_ ht
  rw [drain_room 2 (s := (s.later (.room e)).later w) (e := e) (ws := [w]) (by simp [hw]) hu hch, ← h]
  simp only [State.later, hw, List.nil_append]

/-- Finishing and reporting an operation without a tag settles on its completion. -/
theorem State.settle_opDone (hc : s.calm) (hu : s.unbound = []) (hch : s.chans = []) (hn : n < 64) (hops : s.opsOf ctx = [ctx * 64 + n])
    (ho : s.ops.look (ctx * 64 + n) = o) (hl : o.live = true) (hf : o.fin = none) (hr : o.reporting = false) (hnc : o.noCtr = false) (ht : o.tag = 0)
    (hs : o.sigl = false) (h31 : o.opcode ≠ 0x31) (h70 : o.opcode ≠ 0x70) (h71 : o.opcode ≠ 0x71)
    (hst : (s.runs.look ctx).st = .blocked ∨ (s.runs.look ctx).st = .waiting) (hb : (s.runs.look ctx).block = .op n) :
    (s.opDone (ctx * 64 + n) st bytes v).settle = (s.completedOp ctx n o st bytes v).settle := by
  have hd := State.drain_reported (st := st) (bytes := bytes) (v := v) hc hu hch hn hops hl hs h31 h71 hst hb
  have hcc := State.calm_completedOp (ctx := ctx) (n := n) (o := o) (st := st) (bytes := bytes) hc v
  have hpp := Tab.put_put s.ops (ctx * 64 + n) (Op.not_default (o := { o with fin := some (st, bytes, v) }) hl)
    (Op.not_default (o := { o with reporting := true, fin := some (st, bytes, v) }) hl)
  have hrep : ∀ t : State, t.ops = s.ops.put (ctx * 64 + n) { o with fin := some (st, bytes, v) } → t.runs = s.runs →
      t.opReport (ctx * 64 + n) =
        ({ t with ops := s.ops.put (ctx * 64 + n) { o with reporting := true, fin := some (st, bytes, v) } } : State).later (.evSeen (.op (ctx * 64 + n))) := by
    intro t hto htr
    rw [State.opReport_untagged (s := t) (o := { o with fin := some (st, bytes, v) }) (by rw [hto, Tab.look_put_self]) hn hl rfl hr hnc ht h31 h70 h71 (by rw [htr]; exact hst)]
    simp only [hto, hpp]
  rw [State.opDone]
  by_cases he : o.eng = .bulk
  · have hfin : s.opFin (ctx * 64 + n) st bytes v = ({ s with ops := s.ops.put (ctx * 64 + n) { o with fin := some (st, bytes, v) } } : State).later (.room .bulk) := by
      simp [State.opFin, ho, hl, hf, he]
    rw [hfin, hrep (({ s with ops := s.ops.put (ctx * 64 + n) { o with fin := some (st, bytes, v) } } : State).later (.room .bulk)) rfl rfl]
    exact State.settle_room (e := .bulk) (s := { s with ops := s.ops.put (ctx * 64 + n) { o with reporting := true, fin := some (st, bytes, v) } }) hc.1 hu hch hd hcc
  · rw [State.opFin_none ho hl hf he, hrep { s with ops := s.ops.put (ctx * 64 + n) { o with fin := some (st, bytes, v) } } rfl rfl]
    exact State.settle_drain 2 (by decide) hd hcc

/-- A command that finishes the one operation of a run gives what is left of its completion. -/
theorem State.gives_completed {c : Instr} (hc : s.calm) (he : exec c s = .next (s.completedOp ctx n o st bytes v).settle) : s.gives c (s.completedOp ctx n o st bytes v) :=
  State.gives_settle he (State.calm_completedOp hc v)

/-- What such a state holds of the run. -/
theorem State.completedOp_facts (s : State) (ctx n : Nat) (o : Op) (st bytes : Nat) (v : Option Word) :
    (s.completedOp ctx n o st bytes v).ops = s.ops.del (ctx * 64 + n) ∧ (s.completedOp ctx n o st bytes v).runs.look ctx =
      { (s.runs.look ctx).completed o n st bytes v with st := .ready, block := .none, waitOn := none, readySeq := s.readyCtr } := by
  rw [State.completedOp, State.ledger_form]
  exact ⟨rfl, by simp only [State.updRun, Tab.look_upd_self]⟩

theorem Run.completed_g15 {r : Run} (h : r.st ≠ .parked) (o : Op) (n st bytes : Nat) (v : Option Word) : (r.completed o n st bytes v).rg 15 = g15 st o.opcode bytes := by
  refine Run.rg_setG_self _ (by decide) ?_
  rcases o.rd with _ | d
  · exact h
  · by_cases hd : d = 0 <;> simpa [hd] using h

theorem Run.completed_rd {r : Run} (h : r.st ≠ .parked) {o : Op} {d : Nat} (hd : o.rd = some d) (h0 : d ≠ 0) (h15 : d ≠ 15) (n st bytes : Nat) (w : Word) :
    (r.completed o n st bytes (some w)).rg d = w := by
  have hr : (r.setG d w).rg d = w := Run.rg_setG_self w h0 h
  simp only [Run.completed, hd, if_neg h0, Option.getD_some]
  exact (Run.rg_setG_other _ (Ne.symm h15) (by simpa using h)).trans hr

end

section
variable {s : State} {ctx : Nat}

/-- Reporting the entry of a run whose context is to be freed (R105). -/
theorem State.runFree_ending (hk : ctx < 8192) (hst : (s.runs.look ctx).st = .ending) (hrep : (s.runs.look ctx).reported = false) (hops : s.opsOf ctx = [])
    (hq : (s.runs.look ctx).wq ≠ 4) (hr : (s.wqs.look (s.runs.look ctx).wq).st = .running) :
    s.runFree ctx = if (s.runs.look ctx).evmode = 2 ∨ ((s.runs.look ctx).evmode = 1 ∧ (s.runs.look ctx).endSt ≠ stOk) then
        (s.updRun ctx fun r => { r with reported := true }).wqEvent (s.runs.look ctx).wq
          (entryEv s (s.runs.look ctx).wq (s.runs.look ctx).endSt (s.runs.look ctx).pc (s.runs.look ctx).idx (s.runs.look ctx).etag (.entry ctx))
      else (s.updRun ctx fun r => { r with reported := true }).later (.evSeen (.entry ctx)) := by
  have hs : ctx ≠ sbCtx := by simp only [sbCtx]; omega
  unfold State.runFree
  simp only [hst, hrep, hops, hs, hq, List.isEmpty_nil, bne_self_eq_false, Bool.or_false, Bool.not_true, Bool.false_eq_true, if_false, Wq.stopping, State.updRun_wqs, hr]
  rw [if_neg (by decide : ¬ (WqSt.running == WqSt.stopping) = true)]
  rfl

/-- A run whose entry asks for no event frees its context (R105, R117, R180). -/
theorem State.gives_runFree (hc : s.calm) (hk : ctx < 8192) (hst : (s.runs.look ctx).st = .ending) (hrep : (s.runs.look ctx).reported = false)
    (hops : s.opsOf ctx = []) (hq : (s.runs.look ctx).wq ≠ 4) (hr : (s.wqs.look (s.runs.look ctx).wq).st = .running) (hev : (s.runs.look ctx).evmode = 0)
    (hct : (s.runs.look ctx).ctrEn = false) :
    s.gives (.runFree ctx) { s with runs := s.runs.del ctx, gens := s.gens.put ctx ((s.gens.look ctx + 1) % 65536) } := by
  have hcalm := State.calm_congr hc (t := { s with runs := s.runs.del ctx, gens := s.gens.put ctx ((s.gens.look ctx + 1) % 65536) }) rfl rfl rfl rfl rfl rfl rfl
  refine State.gives_settle ?_ hcalm
  have he : exec (.runFree ctx) s = .next (s.runFree ctx).settle := ended_fabric hc (okRun_of_le (by omega)) fun s => s.runFree ctx
  rw [he, State.runFree_ending hk hst hrep hops hq hr, if_neg (by simp [hev])]
  refine congrArg Host.Outcome.next (State.settle_later hc.1 ?_ hcalm)
  have hd : (s.runs.upd ctx fun r => { r with reported := true }).del ctx = s.runs.del ctx := Tab.del_put _ _ (Run.not_default (by simp [hst]))
  rw [State.workOne, State.evSeen, State.entrySeen]
  simp [hct, State.freeCtx, hd]

/-- One whose entry asks for an event holds it behind the one being written (R196, R199). -/
theorem State.completes_runFree_event (hc : s.calm) (hk : ctx < 8192) (hst : (s.runs.look ctx).st = .ending) (hrep : (s.runs.look ctx).reported = false)
    (hops : s.opsOf ctx = []) (hr : (s.wqs.look (s.runs.look ctx).wq).st = .running) {e : Nat} {ev : Ev} (he : s.eventsTo (s.runs.look ctx).wq e)
    (hm : (s.runs.look ctx).evmode = 2)
    (hev : ev = entryEv s (s.runs.look ctx).wq (s.runs.look ctx).endSt (s.runs.look ctx).pc (s.runs.look ctx).idx (s.runs.look ctx).etag (.entry ctx)) :
    s.completes (.runFree ctx) fun t => (t.eqs.look e).held = (s.eqs.look e).held ++ [ev] ∧ (t.runs.look ctx).reported = true := by
  have hb : (s.updRun ctx fun r => { r with reported := true }).eventsTo (s.runs.look ctx).wq e := he
  have hbc : (s.updRun ctx fun r => { r with reported := true }).calm := State.calm_updRun hc _ _
  have hx : exec (.runFree ctx) s = .next (s.runFree ctx).settle := ended_fabric hc (okRun_of_le (by omega)) fun s => s.runFree ctx
  rw [State.runFree_ending hk hst hrep hops he.2.1 hr, if_pos (.inl hm), ← hev, State.wqEvent_held hb, State.settle_held hbc he.2.2.2.2.1] at hx
  obtain ⟨t, ht, hu, -⟩ := State.gives_settle hx (State.calm_congr hbc rfl rfl rfl rfl rfl rfl rfl)
  refine ⟨t, ht, ?_, ?_⟩
  · rw [congrArg State.eqs hu]
    simp
  · rw [congrArg State.runs hu]
    simp

end

section
variable {s : State} {ctx n : Nat} {o : Op} (hc : s.calm) (hu : s.unbound = []) (hch : s.chans = []) (hk : ctx ≤ 8192) (hn : n < 64)
  (hops : s.opsOf ctx = [ctx * 64 + n]) (ho : s.ops.look (ctx * 64 + n) = o) (hl : o.live = true) (hr : o.reporting = false) (hnc : o.noCtr = false) (ht : o.tag = 0)
  (hs : o.sigl = false) (hb : (s.runs.look ctx).block = .op n)
include hc hu hch hk hn hops ho hl hr hnc ht hs hb

/-- OP_LOCAL_COMPLETION of an operation its run waits for (R81, R98). -/
theorem State.gives_localCompletion {st bytes : Nat} {v : Option Word} (hf : o.fin = some (st, bytes, v)) (h31 : o.opcode ≠ 0x31) (h70 : o.opcode ≠ 0x70)
    (h71 : o.opcode ≠ 0x71) (hst : (s.runs.look ctx).st = .blocked) : s.gives (.opLocalCompletion ctx n) (s.completedOp ctx n o st bytes v) := by
  have he : exec (.opLocalCompletion ctx n) s = .next (s.opReport (ctx * 64 + n)).settle :=
    ended_fabric hc (by simp [okRun_of_le hk, okSlot, hn]) fun s => s.opReport (ctx * 64 + n)
  have hrep : ({ o with reporting := true } : Op) = { o with reporting := true, fin := some (st, bytes, v) } := by rw [← hf]
  refine State.gives_completed hc ?_
  rw [he, State.opReport_untagged ho hn hl hf hr hnc ht h31 h70 h71 (.inl hst), hrep,
    State.settle_drain 2 (by decide) (State.drain_reported hc hu hch hn hops hl hs h31 h71 (.inl hst) hb) (State.calm_completedOp hc v)]

/-- A WAIT whose timer has run out short of its target (R101). -/
theorem State.gives_waitTimeout (hf : o.fin = none) (hoc : o.opcode = 0x40) (hdue : o.due = 1) (hst : (s.runs.look ctx).st = .waiting)
    (hd : (s.ctrs.look o.arg).dom = some (s.runs.look ctx).dom) (hlt : (s.ctrs.look o.arg).val.toNat < o.x.operand.toNat) :
    s.gives (.waitTimeout ctx) (s.completedOp ctx n o stTimeout 0 none) := by
  have he : exec (.waitTimeout ctx) s = .next (s.waitTimeout ctx).settle := ended_fabric hc (okRun_of_le hk) fun s => s.waitTimeout ctx
  have hw : s.waitTimeout ctx = s.opDone (ctx * 64 + n) stTimeout 0 none := by
    simp [State.waitTimeout, hops, ho, hoc, hf, hdue, hd, Nat.not_le.2 hlt]
  refine State.gives_completed hc ?_
  rw [he, hw, State.settle_opDone hc hu hch hn hops ho hl hf hr hnc ht hs (by simp [hoc]) (by simp [hoc]) (by simp [hoc]) (.inr hst) hb]

/-- A LOCK whose timer has run out while another owner holds it (R155). -/
theorem State.gives_lockTimeout {w : Owner} (hf : o.fin = none) (hoc : o.opcode = 0x60) (hdue : o.due = 1) (hst : (s.runs.look ctx).st = .blocked)
    (how : (s.locks.look o.arg).owner = some w) : s.gives (.lockTimeout ctx) (s.completedOp ctx n o stTimeout 0 (some (BitVec.ofNat 64 w.master))) := by
  have he : exec (.lockTimeout ctx) s = .next (s.lockTimeout ctx).settle := ended_fabric hc (okRun_of_le hk) fun s => s.lockTimeout ctx
  have hw : s.lockTimeout ctx = s.opDone (ctx * 64 + n) stTimeout 0 (some (BitVec.ofNat 64 w.master)) := by
    simp [State.lockTimeout, hops, ho, hoc, hf, hdue, how]
  refine State.gives_completed hc ?_
  rw [he, hw, State.settle_opDone hc hu hch hn hops ho hl hf hr hnc ht hs (by simp [hoc]) (by simp [hoc]) (by simp [hoc]) (.inl hst) hb]

end

/-- What a command that completes a run's one operation leaves of the run and its operations. -/
theorem State.completes_completed {s : State} {c : Instr} {ctx n st bytes : Nat} {o : Op} {v : Option Word} (h : s.gives c (s.completedOp ctx n o st bytes v))
    (hops : s.opsOf ctx = [ctx * 64 + n]) {p : State → Prop}
    (hp : ∀ t : State, t.runs.look ctx = { (s.runs.look ctx).completed o n st bytes v with st := .ready, block := .none, waitOn := none, readySeq := s.readyCtr } →
      t.opsOf ctx = [] → p t) : s.completes c p := by
  obtain ⟨t, ht, hu, -⟩ := h
  obtain ⟨hto, htr⟩ := State.completedOp_facts s ctx n o st bytes v
  refine ⟨t, ht, hp t ?_ (State.opsOf_del hops ?_)⟩
  · rw [congrArg State.runs hu, ← htr]
  · rw [congrArg State.ops hu, ← hto]

/-- Settles O25: the operations by what is left of one that completes, the ends of runs by what RUN_FREE does. -/
theorem operationEnds : Obligations.OperationEnds := by
  unfold Obligations.OperationEnds
  intro s hc hu hch
  refine ⟨?_, ?_, ?_, fun ctx hk hst hrep hops hq hr hev hct => State.gives_runFree hc hk hst hrep hops hq hr hev hct,
    fun ctx e ev hk hst hrep hops hr he hm hev => State.completes_runFree_event hc hk hst hrep hops hr he hm (hev.trans rfl)⟩
  · intro ctx n st bytes hk hn hops hl hf hr hnc ht hs hrd hoc hst hb
    have h := State.gives_localCompletion hc hu hch hk hn hops rfl hl hr hnc ht hs hb hf (by simp [hoc]) (by simp [hoc]) (by simp [hoc]) hst
    simpa only [State.completedOp, Run.completed, hrd, hoc] using h
  · intro ctx n hk hn hops hl hf hoc hdue ht hs hnc hr hrd hst hb hd hlt
    refine State.completes_completed (State.gives_waitTimeout hc hu hch hk hn hops rfl hl hr hnc ht hs hb hf hoc hdue hst hd hlt) hops fun t htr hto => ?_
    have hp : (s.runs.look ctx).st ≠ .parked := by simp [hst]
    rw [htr]
    refine ⟨rfl, ?_, rfl, rfl, hto⟩
    exact (Run.completed_g15 hp _ n stTimeout 0 none).trans (by rw [hoc])
  · intro ctx n d w hk hn hops hl hf hoc hdue ht hs hnc hr hrd h0 h15 hst hb how
    refine State.completes_completed (State.gives_lockTimeout hc hu hch hk hn hops rfl hl hr hnc ht hs hb hf hoc hdue hst how) hops fun t htr hto => ?_
    have hp : (s.runs.look ctx).st ≠ .parked := by simp [hst]
    rw [htr]
    refine ⟨rfl, ?_, ?_, rfl, hto⟩
    · exact (Run.completed_g15 hp _ n stTimeout 0 _).trans (by rw [hoc])
    · exact Run.completed_rd hp hrd h0 h15 n stTimeout 0 _

end Sys2Proof.Machine
end

section
namespace Sys2Proof.Machine

/-! ### The operands of a data operation (R123, R124, R183) -/

section
variable {s : State} {ctx : Nat} {i : Ins}

/-- A descriptor at hand is taken as it is (R91, R123). -/
theorem State.withDesc_hasDesc {m : Nat} {ws : List Word} (h : s.hasDesc ctx i m ws) (k : State → List Word → State) :
    s.withDesc ctx (s.runs.look ctx) i m k = k s ws := by
  obtain ⟨-, hd⟩ := h
  unfold State.descOf at hd
  unfold State.withDesc
  dsimp only at hd ⊢
  rcases hdesc : (s.runs.look ctx).desc with _ | d
  · rcases hp : (s.runs.look ctx).params with _ | ⟨ptr, words⟩ | m'
    · simp [hdesc, hp] at hd
    · simp [hdesc, hp] at hd
    · simp only [hdesc, hp, Option.ite_none_right_eq_some, Option.some.injEq] at hd
      obtain ⟨hle, rfl⟩ := hd
      simp only [if_pos hle]
  · simp only [hdesc, Option.some.injEq] at hd
    rw [hd]

/-- A local address field that resolves is used as it resolves (R183 to R185). -/
theorem State.withJob_resolves {a : Word} {len la : Nat} {frs : List (Nat × Nat)} (h : s.resolves ctx a len frs la)
    (k : State → List (Nat × Nat) → Nat → State) : s.withJob ctx (s.runs.look ctx) a len k = k s frs la := by
  unfold State.resolves State.localOf at h
  unfold State.withJob
  dsimp only at h ⊢
  split at h
  · next hj =>
    obtain ⟨rfl, rfl⟩ : [] = frs ∧ a.toNat = la := by simpa using h
    rw [if_pos hj]
  · next hj =>
    split at h
    · cases h
    · next hf =>
      rw [if_neg hj, if_neg (by simpa using hf)]
      rcases hw : fragWalk (s.runs.look ctx).frags 16 (s.runs.look ctx).fragPtr (s.runs.look ctx).fragCount 0 with ⟨va, m⟩ | _ | _ | fs <;> rw [hw] at h
      · cases h
      · cases h
      · cases h
      · simp only [Option.ite_none_right_eq_some, Option.some.injEq, Prod.mk.injEq] at h
        obtain ⟨hle, rfl, rfl⟩ := h
        simp only [if_neg (Nat.not_lt.2 hle)]

/-- An endpoint field with a defined function and channel names them (R124). -/
theorem epField_defined {w : Word} (hf : wbits w 27 20 ≤ 128) (hc : wbits w 29 28 ≤ 1) :
    epField w = some (wbits w 19 0, wbits w 27 20, wbits w 29 28) := if_pos ⟨hf, hc⟩

end

/-! ### A remote operation bound to its channel (R125, R297, R391) -/

/-- Opcodes of the operations on remote data: PUT, GET, PUTX, GETX, AMO, AMOF and SEND. -/
def remoteData : List Nat := [0x20, 0x21, 0x22, 0x23, 0x24, 0x25, 0x30]

theorem remoteData_facts {oc : Nat} (h : oc ∈ remoteData) : oc ≠ 0x26 ∧ oc ≠ 0x31 ∧ oc ≠ 0x40 ∧ oc ≠ 0x51 ∧ oc ≠ 0x52 ∧ oc ≠ 0x84 := by
  revert oc
  decide

/-- An operation as its instruction issues it: nothing of it is formed, finished or failed. -/
abbrev Op.unformed (o : Op) (i : Ins) : Prop :=
  o.live = true ∧ o.nb = i.nb ∧ o.opcode = i.opcode ∧ o.fin = none ∧ o.failSt = none ∧ o.allFormed = false

theorem Op.unformed_bulkOp (r : Run) (i : Ins) (x : Xfer) : (bulkOp r i x).unformed i := ⟨rfl, rfl, rfl, rfl, rfl, rfl⟩

section
variable {s : State} {ctx n c p : Nat} {i : Ins} {o : Op}

/-- The one operation of a channel that may form no packet yet waits for the pair channel (R298, R391). -/
theorem State.workOne_form_full {k : Nat} (hch : (s.chans.look c).ops = [k]) (ho : s.ops.look k = o) (hu : o.unformed i) (hoc : i.opcode ∈ remoteData)
    (hp : s.psnRoom (s.ptx.look o.src.1) = false) : State.workOne s (.form c) = s := by
  obtain ⟨hl, -, hoi, hfin, hfail, hall⟩ := hu
  obtain ⟨h26, h31, -, h51, h52, -⟩ := remoteData_facts hoc
  have hsends : o.sends = true := by simp [Op.sends, hoi, h26, h31, h51, h52]
  have hform : s.opForm (o.x.total + 3) k false = s := by simp [State.opForm, ho, hl, hfin, hp]
  have hfe : s.failEnd c k = s := by simp [State.failEnd, ho, hfail]
  have hchan : s.chanForm c false = s := by
    simp [State.chanForm, hch, State.chanForm.go, ho, hl, hfin, hsends, hform, hfe, hall]
  rw [State.workOne, hchan, State.poolStart, hch]
  simp [ho, hoi, h31]

/-- What follows the acceptance of a remote operation: its send record is named, and it is bound to channel `c` (R297, R390). -/
def State.startRemote (s : State) (r : Run) (x : Xfer) (c k : Nat) : State :=
  ((s.txRecord r.port r.fn x.node x.func x.chan).1.updOp k fun o =>
    { o with src := ((s.txRecord r.port r.fn x.node x.func x.chan).2, 0), opid := o.newId k }).bindTo k c

/-- A remote operation that passes the checks of R125 is accepted. -/
theorem State.dexRemote_accept (hc : s.channelFor ctx n c i (some p)) (hr : s.reaches ctx o.x.node o.x.func o.x.chan p) :
    s.dexRemote ctx (s.runs.look ctx) i o = s.accept ctx i o fun t k => t.startRemote (s.runs.look ctx) o.x c k := by
  obtain ⟨hpas, hlctr, hpd, hslot, hroom, -⟩ := hc
  obtain ⟨hep, hkey, rfl, -, hlive, hsync, -⟩ := hr
  unfold State.dexRemote State.dataGate
  rw [if_neg (by simpa using fun hn => by simp [hn] at hpas), if_neg (by simp [hlctr]), if_neg (by simp [hpd])]
  dsimp only
  rw [if_neg (by simp [Option.isSome_iff_ne_none.1 hep]), if_neg (by simp [Option.isSome_iff_ne_none.1 hkey]), if_neg (by simp [hsync]), if_neg (by simp [hsync]), if_neg (by simp [hlive]),
    State.withSlot_free hslot, hroom]
  rfl

/-- A recorded pair channel is used as it is (R390). -/
theorem State.startRemote_live {r : Run} {x : Xfer} (hl : (s.ptx.look (pairKey r.port r.fn x.node x.func x.chan)).live = true) (k : Nat) :
    s.startRemote r x c k = (s.updOp k fun o => { o with src := (pairKey r.port r.fn x.node x.func x.chan, 0), opid := o.newId k }).bindTo k c := by
  rw [State.startRemote, State.txRecord, if_pos hl]

/-- What binding adds to an operation that has been issued. -/
theorem State.bindTo_issued (hl : o.live = true) (hnb : o.nb = i.nb) (h40 : o.opcode ≠ 0x40) :
    (((s.issued ctx n i o stOk).updOp (ctx * 64 + n) fun o => { o with src := (p, 0), opid := o.newId (ctx * 64 + n) }).bindTo (ctx * 64 + n) c) =
      (s.boundTo ctx n c i { o with src := (p, 0) }).later (.form c) := by
  have hb : (s.issued ctx n i o stOk) = s.accepted ctx n i o := (State.accepted_eq hnb h40).symm
  have hops : (((s.ops.put (ctx * 64 + n) o).upd (ctx * 64 + n) fun o => { o with src := (p, 0), opid := o.newId (ctx * 64 + n) }).upd (ctx * 64 + n) fun o =>
      { o with bound := some c }) = s.ops.put (ctx * 64 + n) { o with src := (p, 0), opid := o.newId (ctx * 64 + n), bound := some c } := by
    rw [Tab.upd_upd _ (Op.not_default (by simpa using hl)) (Op.not_default (by simpa using hl)), Tab.upd, Tab.look_put_self,
      Tab.put_put _ _ (Op.not_default hl) (Op.not_default (by exact hl))]
  rw [hb]
  simp only [State.bindTo, State.updOp, State.updChan, State.boundTo, State.accepted, State.later, hops] <;> rfl

/-- A remote operation that passes its checks is accepted, and bound to the channel, where it waits to be formed (R125, R297). -/
theorem State.dexRemote_bound (h : s.due ctx i) (hc : s.channelFor ctx n c i (some p)) (hr : s.reaches ctx o.x.node o.x.func o.x.chan p) (hu : o.unformed i)
    (hoc : i.opcode ∈ remoteData) :
    ∃ t, (s.boundTo ctx n c i { o with src := (p, 0) }).counted t ∧ s.dexRemote ctx (s.runs.look ctx) i o = t.later (.form c) := by
  obtain ⟨hl, hnb, hoi, -⟩ := hu
  obtain ⟨-, -, h40, -⟩ := remoteData_facts hoc
  obtain ⟨t, ⟨r, rfl, hreg⟩, e⟩ := State.accept_slot (i := i) (o := o) (State.calm_of_due h).2.2.1 hc.2.2.2.1 (State.running_of_due h) (State.steady_of_due h)
    fun t k => t.startRemote (s.runs.look ctx) o.x c k
  have ha := (State.dexRemote_accept hc hr).trans e
  obtain ⟨-, -, hp, -, hlive, -⟩ := hr
  rw [hp] at hlive
  refine ⟨{ s.boundTo ctx n c i { o with src := (p, 0) } with regs := r }, ⟨r, rfl, hreg⟩, ha.trans ?_⟩
  refine (State.startRemote_live (s := { s.issued ctx n i o stOk with regs := r }) hlive _).trans ?_
  rw [← hp]
  exact congrArg (fun t : State => { t with regs := r }) (State.bindTo_issued hl hnb (hoi ▸ h40))

theorem State.calm_accepted (h : s.calm) (hnb : o.nb = i.nb) (h40 : o.opcode ≠ 0x40) (h84 : o.opcode ≠ 0x84) : (s.accepted ctx n i o).calm := by
  rw [State.accepted_eq hnb h40]
  exact State.calm_issued h h84 stOk

theorem State.calm_boundTo (h : s.calm) (hnb : o.nb = i.nb) (h40 : o.opcode ≠ 0x40) (h84 : o.opcode ≠ 0x84) : (s.boundTo ctx n c i o).calm :=
  State.calm_congr (State.calm_accepted (o := { o with opid := o.newId (ctx * 64 + n), bound := some c }) h hnb h40 h84) rfl rfl rfl rfl rfl rfl rfl

theorem State.psnRoom_counted {t : State} (h : s.counted t) (x : PairTx) : t.psnRoom x = s.psnRoom x := by
  have hn : t.now = s.now := State.counted_get h (by decide)
  have hl : t.lifetime = s.lifetime := by
    unfold State.lifetime State.atLeast
    rw [State.counted_get h (by decide)]
  rw [State.psnRoom, hn, hl, State.psnRoom]

/-- The command of a remote operation whose pair channel is at its limit leaves it bound, with nothing sent (R391). -/
theorem State.gives_remote {f : State → State} (hf : f s = s.dexRemote ctx (s.runs.look ctx) i o) {cmd : Instr} (he : exec cmd s = ended (okRun ctx) (s.fabric f))
    (h : s.due ctx i) (hc : s.channelFor ctx n c i (some p)) (hr : s.reaches ctx o.x.node o.x.func o.x.chan p) (hu : o.unformed i) (hoc : i.opcode ∈ remoteData) :
    s.gives cmd (s.boundTo ctx n c i { o with src := (p, 0) }) := by
  obtain ⟨t, ht, e⟩ := State.dexRemote_bound h hc hr hu hoc
  obtain ⟨-, -, -, -, -, hempty⟩ := id hc
  obtain ⟨-, -, -, -, -, -, hfull⟩ := hr
  obtain ⟨hl, hnb, hoi, hrest⟩ := id hu
  obtain ⟨-, -, h40, -, -, h84⟩ := remoteData_facts hoc
  have hcalm : (s.boundTo ctx n c i { o with src := (p, 0) }).calm := State.calm_boundTo (State.calm_of_due h) hnb (hoi ▸ h40) (hoi ▸ h84)
  have hroom := (State.psnRoom_counted ht (s.ptx.look p)).trans hfull
  refine State.gives_counted ht hcalm ?_
  rw [State.exec_due h he, hf, e]
  obtain ⟨r, rfl, hreg⟩ := ht
  have hcalm' := State.calm_counted ⟨r, rfl, hreg⟩ hcalm
  refine congrArg Host.Outcome.next (State.settle_later hcalm'.1 ?_ hcalm')
  refine State.workOne_form_full (k := ctx * 64 + n) (o := { o with src := (p, 0), opid := o.newId (ctx * 64 + n), bound := some c }) (i := i) ?_ ?_ hu hoc hroom
  · simp [State.boundTo, hempty]
  · simp [State.boundTo, State.accepted] <;> rfl

end

/-! ### The instructions on remote data (R136 to R145) -/

section
variable {s : State} {ctx oc la m : Nat} {i : Ins} {ws : List Word} {frs : List (Nat × Nat)} (h : s.due ctx i) (ho : i.opcode = oc)
  (hf : wbits (ws.getD 0 0) 27 20 ≤ 128) (hc : wbits (ws.getD 0 0) 29 28 ≤ 1)

/-- The target that a descriptor names: node, function and channel of its endpoint field, key and offset. -/
def targetOf (ws : List Word) : Xfer :=
  { (default : Xfer) with
    node := wbits (ws.getD 0 0) 19 0, func := wbits (ws.getD 0 0) 27 20, chan := wbits (ws.getD 0 0) 29 28, key := ws.getD 1 0, roff := (ws.getD 2 0).toNat }

include h ho hf hc

/-- PUT and GET of local memory (R136, R138). -/
theorem State.dexPutGet_local (hd : s.hasDesc ctx i 5 ws) (hinl : oc = 0x20 → i.opf % 2 = 0)
    (hj : s.resolves ctx (ws.getD 3 0) (wbits (ws.getD 4 0) 31 0) frs la) :
    s.dexPutGet ctx oc = s.dexRemote ctx (s.runs.look ctx) i
      (bulkOp (s.runs.look ctx) i { targetOf ws with total := wbits (ws.getD 4 0) 31 0, la := la, frs := frs }) := by
  have hin : (oc == 0x20 && i.opf % 2 == 1) = false := by
    rw [Bool.and_eq_false_imp]
    intro he
    rw [hinl (by simpa using he)]
    rfl
  rw [State.dexPutGet, State.dex_due h (by simp [ho]), State.withDesc_hasDesc hd]
  dsimp only
  rw [epField_defined hf hc, hin]
  dsimp only
  rw [if_neg (by simp), if_neg (by simp)]
  exact State.withJob_resolves hj _

/-- PUT of G[RB], whose bytes the operation holds already (R137). -/
theorem State.dexPutGet_inline (hd : s.hasDesc ctx i 5 ws) (hoc : oc = 0x20) (hopf : i.opf = 1) (h1 : 1 ≤ wbits (ws.getD 4 0) 31 0) (h8 : wbits (ws.getD 4 0) 31 0 ≤ 8) :
    s.dexPutGet ctx oc = s.dexRemote ctx (s.runs.look ctx) i
      { bulkOp (s.runs.look ctx) i { targetOf ws with
          total := wbits (ws.getD 4 0) 31 0, inl := some (leBytes ((s.runs.look ctx).rg i.rb).toNat (wbits (ws.getD 4 0) 31 0)) } with
        acc := leBytes ((s.runs.look ctx).rg i.rb).toNat (wbits (ws.getD 4 0) 31 0) } := by
  have hlen : ((wbits (ws.getD 4 0) 31 0 == 0) || decide (wbits (ws.getD 4 0) 31 0 > 8)) = false := by
    rw [Bool.or_eq_false_iff]
    exact ⟨beq_false_of_ne (Nat.one_le_iff_ne_zero.1 h1), decide_eq_false (Nat.not_lt.2 h8)⟩
  have hin : (oc == 0x20 && i.opf % 2 == 1) = true := by simp [hoc, hopf]
  rw [State.dexPutGet, State.dex_due h (by simp [ho]), State.withDesc_hasDesc hd]
  dsimp only
  rw [epField_defined hf hc, hin, hlen]
  rfl

/-- PUTX and GETX (R139). -/
theorem State.dexIndexed_accept (hd : s.hasDesc ctx i 6 ws) {count esize : Nat} (hn : count = wbits (ws.getD 5 0) 31 0) (he : esize = wbits (ws.getD 5 0) 44 32)
    (h4 : (ws.getD 4 0).toNat % 4 = 0) (h1 : 1 ≤ esize) (h4096 : esize ≤ 4096) (hmax : count * esize ≤ 0xFFFFFFFF)
    (hj : s.resolves ctx (ws.getD 3 0) (if i.opf % 2 = 1 then count * esize else 0) frs la) :
    s.dexIndexed ctx oc = s.dexRemote ctx (s.runs.look ctx) i (bulkOp (s.runs.look ctx) i { targetOf ws with
      la := la, frs := frs, total := count * esize, esize := esize, count := count, itab := (ws.getD 4 0).toNat, mode := if i.opf % 2 = 1 then 2 else 1 }) := by
  rw [State.dexIndexed, State.dex_due h (by simp [ho]), State.withDesc_hasDesc hd]
  dsimp only
  rw [epField_defined hf hc, ← hn, ← he]
  dsimp only
  rw [if_neg (by omega)]
  exact State.withJob_resolves hj _

/-- An operand of AMO, of the width its descriptor names (R141). -/
def amoOperand (w32 : Bool) (v : Word) : Word := if w32 then v &&& 0xFFFFFFFF else v

/-- AMO and AMOF (R141, R142). -/
theorem State.dexAmo_accept (hd : s.hasDesc ctx i 3 ws) (hopf : if wbit (ws.getD 0 0) 32 then i.opf ≠ 1 ∧ i.opf ≠ 11 else i.opf ≠ 2) :
    s.dexAmo ctx oc = s.dexRemote ctx (s.runs.look ctx) i { bulkOp (s.runs.look ctx) i { targetOf ws with
        total := if wbit (ws.getD 0 0) 32 then 4 else 8, sub := i.opf, w32 := wbit (ws.getD 0 0) 32, fetch := oc == 0x25
        operand := amoOperand (wbit (ws.getD 0 0) 32) ((s.runs.look ctx).rg i.rb), cmp := amoOperand (wbit (ws.getD 0 0) 32) ((s.runs.look ctx).rg i.rc) } with
      rd := if oc = 0x25 then some i.rd else none } := by
  have hsub : (wbit (ws.getD 0 0) 32 && (i.opf == 1 || i.opf == 11) || !wbit (ws.getD 0 0) 32 && i.opf == 2) = false := by
    generalize wbit (ws.getD 0 0) 32 = w at hopf
    cases w <;> simpa using hopf
  rw [State.dexAmo, State.dex_due h (by simp [ho]), State.withDesc_hasDesc hd]
  dsimp only
  rw [epField_defined hf hc]
  dsimp only
  rw [hsub]
  rfl

/-- SEND (R145). -/
theorem State.dexSend_accept (hoc : oc = 0x30) (hd : s.hasDesc ctx i 4 ws) (hj : s.resolves ctx (ws.getD 2 0) (wbits (ws.getD 3 0) 31 0) frs la) :
    s.dexSend ctx = s.dexRemote ctx (s.runs.look ctx) i
      { bulkOp (s.runs.look ctx) i { (default : Xfer) with
          node := wbits (ws.getD 0 0) 19 0, func := wbits (ws.getD 0 0) 27 20, chan := wbits (ws.getD 0 0) 29 28, ctx := wbits (ws.getD 0 0) 47 32, tag := ws.getD 1 0
          la := la, frs := frs, total := wbits (ws.getD 3 0) 31 0 } with
        arg := if wbits (ws.getD 3 0) 31 0 ≤ s.eagerLimit then 0 else 1 } := by
  rw [State.dexSend, State.dex_due h (by simp [ho, hoc]), State.withDesc_hasDesc hd]
  dsimp only
  rw [epField_defined hf hc]
  exact State.withJob_resolves hj _

end

/-- Settles O19: each instruction is a remote operation with what its descriptor says, and its command leaves it bound to the channel. -/
theorem remoteDataInstructions : Obligations.RemoteDataInstructions := by
  unfold Obligations.RemoteDataInstructions
  intro s ctx i ws n c p la frs h hch hr hf hc
  refine ⟨fun ho hopf hd hj => ?_, fun ho hopf hd h1 h8 => ?_, fun ho hd hj => ?_, fun count esize ho hd hn he h4 h1 h4096 hmax hj => ?_,
    fun count esize ho hd hn he h4 h1 h4096 hmax hj => ?_, fun ho hd hopf => ?_, fun ho hd hopf => ?_, fun ho hd hj => ?_⟩
  · exact (State.gives_remote (f := fun s => s.dexPutGet ctx 0x20) (State.dexPutGet_local h ho hf hc hd (fun _ => by rw [hopf]) hj) (cmd := .put ctx) rfl
      h hch hr (Op.unformed_bulkOp _ _ _) (by rw [ho]; decide) :)
  · exact (State.gives_remote (f := fun s => s.dexPutGet ctx 0x20) (State.dexPutGet_inline h ho hf hc hd rfl hopf h1 h8) (cmd := .put ctx) rfl
      h hch hr ⟨rfl, rfl, rfl, rfl, rfl, rfl⟩ (by rw [ho]; decide) :)
  · exact (State.gives_remote (f := fun s => s.dexPutGet ctx 0x21) (State.dexPutGet_local h ho hf hc hd (fun hx => by cases hx) hj) (cmd := .get ctx) rfl
      h hch hr (Op.unformed_bulkOp _ _ _) (by rw [ho]; decide) :)
  · exact (State.gives_remote (f := fun s => s.dexIndexed ctx 0x22) (State.dexIndexed_accept h ho hf hc hd hn he h4 h1 h4096 hmax hj) (cmd := .putx ctx) rfl
      h hch hr (Op.unformed_bulkOp _ _ _) (by rw [ho]; decide) :)
  · exact (State.gives_remote (f := fun s => s.dexIndexed ctx 0x23) (State.dexIndexed_accept h ho hf hc hd hn he h4 h1 h4096 hmax hj) (cmd := .getx ctx) rfl
      h hch hr (Op.unformed_bulkOp _ _ _) (by rw [ho]; decide) :)
  · exact (State.gives_remote (f := fun s => s.dexAmo ctx 0x24) (State.dexAmo_accept h ho hf hc hd hopf) (cmd := .amo ctx) rfl
      h hch hr ⟨rfl, rfl, rfl, rfl, rfl, rfl⟩ (by rw [ho]; decide) :)
  · exact (State.gives_remote (f := fun s => s.dexAmo ctx 0x25) (State.dexAmo_accept h ho hf hc hd hopf) (cmd := .amof ctx) rfl
      h hch hr ⟨rfl, rfl, rfl, rfl, rfl, rfl⟩ (by rw [ho]; decide) :)
  · exact (State.gives_remote (f := fun s => s.dexSend ctx) (State.dexSend_accept h ho hf hc rfl hd hj) (cmd := .send ctx) rfl
      h hch hr ⟨rfl, rfl, rfl, rfl, rfl, rfl⟩ (by rw [ho]; decide) :)

end Sys2Proof.Machine
end

section
namespace Sys2Proof.Machine

/-! ### Register instructions and branches (R131 to R135) -/

section
variable {s : State} {ctx : Nat} {i : Ins} (h : s.due ctx i)
include h

/-- LDQ takes two words of the program (R84). -/
theorem State.size_of_ldq (ho : i.opcode = 0x02) : i.size = 2 := by
  obtain ⟨⟨-, -, -, -, -, -, -, -, hi⟩, -⟩ := h
  have hz : i.size = if i.ext || i.opcode == 2 then 2 else 1 := by rw [hi]; rfl
  simp [hz, ho]

/-- LDQ loads the word that follows it (R131). -/
theorem State.gives_ldq (ho : i.opcode = 0x02) :
    s.gives (.ldq ctx) (s.went ctx ((s.runs.look ctx).pc + 2) fun r => r.setG i.rd i.w2) := by
  refine State.gives_went h (State.exec_due h (f := fun s => s.dexLdq ctx) rfl) ?_ (Run.setG_st _ _ _) (Run.setG_preempt _ _ _) (Run.setG_steps _ _ _)
  rw [State.dexLdq, State.dex_due h (by simp [ho]), State.dexReg, State.size_of_ldq h ho]

/-- An arithmetic instruction writes its result of G[RA] and X (R133). -/
theorem State.gives_alu {oc : Nat} (ho : i.opcode = oc) (hx : allowExt oc = false) (h2 : oc ≠ 2) {c : Instr} {f : Word → Word → Word} {g : Run → Word}
    (hc : exec c s = ended (okRun ctx) (s.fabric fun s => s.dexAlu ctx oc f)) (hg : g (s.runs.look ctx) = f ((s.runs.look ctx).rg i.ra) (i.x (s.runs.look ctx))) :
    s.gives c (s.went ctx ((s.runs.look ctx).pc + 1) fun r => r.setG i.rd (g r)) := by
  refine State.gives_reg h (by rw [ho, hx]) (by rw [ho]; exact h2) (v := g (s.runs.look ctx)) ?_ rfl
  rw [State.exec_due h hc, State.dexAlu, State.dex_due h (by simp [ho]), hg]
  rfl

/-- A branch changes the program counter alone (R134). -/
theorem State.gives_jump {c : Instr} {b taken : Bool} (he : exec c s = .next (s.dexJump ctx (s.runs.look ctx) i b).settle) (hb : b = taken) :
    s.gives c (s.went ctx (if taken = true then i.imm % 65536 else (s.runs.look ctx).pc + 1) id) := by
  subst hb
  refine State.gives_counted (State.retire_steady (State.steady_of_due h) _) (State.calm_went (State.calm_of_due h) _ id) ?_
  rw [he, State.dexJump]

end

/-- The low six bits of a shift count are the count modulo 64. -/
theorem wbits_count (w : Word) : wbits w 5 0 = w.toNat % 64 := by simp [wbits, bitsOf]

theorem shl_count (a x : Word) : a <<< wbits x 5 0 = BitVec.ofNat 64 (a.toNat * 2 ^ (x.toNat % 64)) := by
  rw [wbits_count]
  apply BitVec.eq_of_toNat_eq
  simp [BitVec.toNat_shiftLeft, Nat.shiftLeft_eq]

theorem shr_count (a x : Word) : a >>> wbits x 5 0 = BitVec.ofNat 64 (a.toNat / 2 ^ (x.toNat % 64)) := by
  rw [wbits_count]
  apply BitVec.eq_of_toNat_eq
  rw [BitVec.toNat_ushiftRight, Nat.shiftRight_eq_div_pow, BitVec.toNat_ofNat, Nat.mod_eq_of_lt (Nat.lt_of_le_of_lt (Nat.div_le_self _ _) a.isLt)]

/-- Settles O13: LDQ, LDI and MOV by their words, the arithmetic instructions by their function of G[RA] and X. -/
theorem registerInstructions : Obligations.RegisterInstructions := by
  unfold Obligations.RegisterInstructions
  intro s ctx i h
  refine ⟨fun ho => ?_, fun ho => ?_, fun ho => ?_, fun ho => ?_, fun ho => ?_, fun ho => ?_, fun ho => ?_, fun ho => ?_, fun ho => ?_, fun ho => ?_⟩
  · exact State.gives_ldq h ho
  · refine State.gives_reg h (by rw [ho]; rfl) (by rw [ho]; decide) (v := i.simm) ?_ rfl
    rw [State.exec_due h (f := fun s => s.dexLdi ctx) rfl, State.dexLdi, State.dex_due h (by simp [ho])]
  · exact State.gives_alu h ho rfl (by decide) rfl rfl
  · exact State.gives_alu h ho rfl (by decide) rfl rfl
  · exact State.gives_alu h ho rfl (by decide) rfl rfl
  · exact State.gives_alu h ho rfl (by decide) rfl rfl
  · exact State.gives_alu h ho rfl (by decide) rfl rfl
  · exact State.gives_alu h ho rfl (by decide) rfl (shl_count _ _).symm
  · exact State.gives_alu h ho rfl (by decide) rfl (shr_count _ _).symm
  · refine State.gives_reg h (by rw [ho]; rfl) (by rw [ho]; decide) (v := (s.runs.look ctx).rg i.ra) ?_ rfl
    rw [State.exec_due h (f := fun s => s.dexMov ctx) rfl, State.dexMov, State.dex_due h (by simp [ho])]

/-- The condition of BRS on the status in G15 and the code it names (R135). -/
def brsTaken (opf st code : Nat) : Bool :=
  match opf with
  | 0 => st == code
  | 1 => st != code
  | _ => st != 0

theorem State.dexBrs_due {s : State} {ctx : Nat} {i : Ins} (h : s.due ctx i) (ho : i.opcode = 0x12) :
    s.dexBrs ctx = s.dexJump ctx (s.runs.look ctx) i (brsTaken i.opf (wbits ((s.runs.look ctx).rg 15) 7 0) (bitsOf i.imm 23 16)) := by
  unfold State.dexBrs
  exact (State.dex_due h (by simp [ho]) _).trans rfl

/-- Settles O14: each branch retires by its condition. -/
theorem branches : Obligations.Branches := by
  unfold Obligations.Branches
  intro s ctx i h
  refine ⟨fun ho => ?_, fun ho => ?_, fun ho => ?_⟩
  · refine State.gives_jump h (taken := true) ?_ rfl
    rw [State.exec_due h (f := fun s => s.dexBr ctx) rfl, State.dexBr, State.dex_due h (by simp [ho])]
  · refine State.gives_jump h (b := brcTaken i.opf ((s.runs.look ctx).rg i.ra) ((s.runs.look ctx).rg i.rb)) ?_ ?_
    · rw [State.exec_due h (f := fun s => s.dexBrc ctx) rfl, State.dexBrc, State.dex_due h (by simp [ho])]
    · refine Bool.eq_iff_iff.2 ?_
      unfold brcTaken
      split <;> simp [BitVec.ult, BitVec.slt]
  · refine State.gives_jump h (b := brsTaken i.opf (wbits ((s.runs.look ctx).rg 15) 7 0) (bitsOf i.imm 23 16)) ?_ ?_
    · rw [State.exec_due h (f := fun s => s.dexBrs ctx) rfl, State.dexBrs_due h ho]
    · have hc : bitsOf i.imm 23 16 = i.imm / 65536 % 256 := by simp [bitsOf, Nat.shiftRight_eq_div_pow]
      refine Bool.eq_iff_iff.2 ?_
      rw [hc]
      rcases i.opf with _ | _ | k <;> simp [brsTaken, stOk]

/-! ### Tolls (R414, R415, R420) -/

/-- Metering takes the tokens of a burst's colour (R415). -/
theorem Toll.meter_cases (t : Toll) (b : Nat) (pre : Colour) :
    (t.meter b pre = (.red, t) ∧ (pre = .red ∨ t.tp < b)) ∨
    (t.meter b pre = (.yellow, { t with tp := t.tp - b }) ∧ pre ≠ .red ∧ b ≤ t.tp) ∨
    (t.meter b pre = (.green, { t with tp := t.tp - b, tc := t.tc - b }) ∧ pre ≠ .red ∧ b ≤ t.tp ∧ b ≤ t.tc) := by
  unfold Toll.meter
  by_cases hr : pre = .red ∨ t.tp < b
  · simp [hr]
  · by_cases hy : pre = .yellow ∨ t.tc < b
    · simp only [if_neg hr, if_pos hy]
      simp only [not_or, not_lt] at hr
      simp [hr]
    · simp only [if_neg hr, if_neg hy]
      simp only [not_or, not_lt] at hr hy
      simp [hr, hy]

/-- Settles O40: refill and TOLLSET cut the tokens to the burst sizes, metering takes no more than there are. -/
theorem tollsStayWithinTheirBursts : Obligations.TollsStayWithinTheirBursts := by
  unfold Obligations.TollsStayWithinTheirBursts
  refine ⟨fun t hc hp => ?_, fun t b pre hc hp => ?_, fun t hc hp => ?_, fun t ws hn => ?_⟩
  · unfold Toll.refill
    split
    · simp
      omega
    · simp [hc, hp]
  · obtain ⟨he, hb⟩ | ⟨he, hr, hb⟩ | ⟨he, hr, hb, hb'⟩ := t.meter_cases b pre
    · simp [he, hc, hp, hb]
    · simp [he, hr]
      omega
    · simp [he, hr]
      omega
  · unfold Toll.commit
    split
    · next hn => exact ⟨hc, hp, hn⟩
    · dsimp only
      split
      · exact ⟨le_rfl, le_rfl, rfl⟩
      · exact ⟨min_le_right _ _, min_le_right _ _, rfl⟩
  · unfold Toll.commit
    rw [hn]
    dsimp only
    split
    · exact ⟨le_max_right _ _, le_max_right _ _, le_max_right _ _, rfl, fun _ _ => ⟨rfl, rfl⟩⟩
    · next he =>
      simp only [Bool.and_eq_true, Bool.not_eq_true', not_and] at he
      exact ⟨le_max_right _ _, le_max_right _ _, le_max_right _ _, rfl, fun hon hoff => absurd hoff (he hon)⟩

end Sys2Proof.Machine
end

section
namespace Sys2Proof.Machine

/-! ### Refutation: messages of a device that was draining -/

/-- Router 9 in Degraded, entered from Drain (R527), so that Drain's rules govern its work (R534). Function 2 of its port 1 is endpoint 7; a pair channel from endpoint 4 stands at
PSN 100, domain 5 has key 11, and match context 6 is the function's. -/
def degradedDrain : State :=
  { (((({ State.reset with hold := .none }.put F.DEV_MODE_MODE 4).put F.DEV_MODE_RETURN 3).put F.RTC_SELF_ROUTER_ID 9).put F.MAT_CTRL_SPEC_EN 0) with
    quiet := false
    ports := [(1, { (default : HostPort) with up := true })]
    eps := [(4, 2 ^ 31 + 6), (7, 2 ^ 31 + 2 ^ 16 + 9)]
    doms := [(5, { (default : Dom) with st := .keyed, cur := some 11 })]
    mctx := [(6, { (default : Mctx) with st := .enabled, port := 1, fn := 2, dom := 5 })]
    prx := [(pairKey 1 2 4 3 1, { (default : PairRx) with live := true, port := 1, fn := 2, node := 4, func := 3, chan := 1, dom := 5, expected := 100, srcInc := 8 })] }

/-- The whole eager message of 3 bytes for context 6, at PSN 100, its tag under the domain's key. -/
def eagerOf3 : Packet :=
  { (default : Packet) with
    dstRouter := 9, dstNode := 7, dstFunc := 2, srcNode := 4, srcFunc := 3, domain := 5, inter := 9, psn := 100, srcInc := 8, op := .eager, chan := 1
    first := true, last := true, len := 3, raddr := packW [(0, 3), (32, 6)], rkey := 77, opid := 8, payload := [1, 2, 3], crcOk := true
    sealed := ⟨11, dataIv 4 3 7 2 (pktCode .eager 1) 100 8 0 0, true⟩ }

theorem degradedDrain_calm : degradedDrain.calm := by decide

theorem degradedDrain_delivers : degradedDrain.delivers eagerOf3 (pairKey 1 2 4 3 1) 1 := by decide +kernel

/-- It refuses the message (R532), and holds nothing under its number. -/
theorem degradedDrain_refuses :
    (match exec (.eagerArrival eagerOf3) degradedDrain with | .next t => (t.msgs.look (msgKey (pairKey 1 2 4 3 1) 100)).live | _ => true) = false := by
  decide +kernel

/-- Refutes O35: a device that is Degraded from Drain refuses the first packet of an eager message (R532, R534), so that no message waits for its walk. -/
theorem not_messagesAndMatching : ¬ Obligations.MessagesAndMatching := by
  unfold Obligations.MessagesAndMatching
  intro h
  obtain ⟨heager, -⟩ := h degradedDrain degradedDrain_calm
  obtain ⟨t, ht, hu, -⟩ := heager eagerOf3 (pairKey 1 2 4 3 1) 1 6 degradedDrain_delivers rfl rfl rfl (by decide) (by decide) rfl rfl rfl rfl (by decide)
  have hn := degradedDrain_refuses
  have hm : (t.msgs.look (msgKey (pairKey 1 2 4 3 1) 100)).live = true := by
    have hx := congrArg State.msgs hu
    dsimp only at hx
    rw [hx, eagerOf3, Tab.look_put_self]
  rw [ht] at hn
  exact absurd (hm.symm.trans hn) (by decide)

/-! ### Refutation: CANCEL of a run with a register pending -/

/-- Context 3 RUNNING at a CANCEL of G[1] into G[3]; G5 is pending for slot 0, in which no operation is outstanding. No word of O20 excludes it. -/
def pendingRegister : State :=
  { State.reset with
    hold := .none
    runs := [(3, { (default : Run) with
      st := .running, limit := 100, prog := .inline [packW [(56, 0x32), (44, 1), (32, 3)]], rdPend := [(5, 0)] })] }

theorem pendingRegister_due : pendingRegister.due 3 (Ins.of (packW [(56, 0x32), (44, 1), (32, 3)]) 0) := by decide +kernel

/-- The slot that CANCEL passes through clears what was pending for it. -/
theorem pendingRegister_cleared :
    (match exec (.cancel 3) pendingRegister with | .next t => (t.runs.look 3).rdPend | _ => [(5, 0)]) = [] := by decide +kernel

/-- Refutes O20: a CANCEL whose handle names no receive completes in slot 0 and takes the register pending for that slot off, where the statement leaves all but G[RD] and G15. -/
theorem not_localDataInstructions : ¬ Obligations.LocalDataInstructions := by
  unfold Obligations.LocalDataInstructions
  intro h
  obtain ⟨-, -, hcancel, -⟩ := h pendingRegister 3 _ [] pendingRegister_due
  obtain ⟨t, ht, hu, -⟩ := hcancel rfl rfl rfl (.inl rfl)
  have hc := pendingRegister_cleared
  have hr : (t.runs.look 3).rdPend = [(5, 0)] := by
    rw [congrArg State.runs hu, State.wentOp, State.ledger_form]
    rfl
  rw [ht] at hc
  exact absurd (hr.symm.trans hc) (by decide)

end Sys2Proof.Machine
end

section
namespace Sys2Proof.Machine

/-! ### The operations of a run with a single one -/

/-- A record that is the only one of its kind is listed alone once it is written. -/
theorem Tab.filter_ins_alone {α : Type} {t : Tab α} {k : Nat} {v : α} {q : Nat × α → Bool} (h : t.filter q = []) (hq : q (k, v) = true) :
    (Tab.ins t k v).filter q = [(k, v)] := by
  induction t with
  | nil => simp [Tab.ins, hq]
  | cons e t ih =>
    obtain ⟨i, c⟩ := e
    simp only [List.filter_eq_nil_iff, List.mem_cons, forall_eq_or_imp] at h
    obtain ⟨he, ht⟩ := h
    have ht' := List.filter_eq_nil_iff.2 ht
    by_cases h1 : k < i
    · simp [Tab.ins, h1, hq, he, ht']
    · by_cases h2 : k = i
      · subst h2
        simp [Tab.ins, hq, ht']
      · simp [Tab.ins, h1, h2, he, ih ht']

section
variable {s : State} {ctx n : Nat} {i : Ins} {o : Op}

/-- An operation issued by a run without one is its only one (R97). -/
theorem State.opsOf_put (hu : s.unladen ctx) (hn : n < 64) (hl : o.live = true) {t : State} (ht : t.ops = s.ops.put (ctx * 64 + n) o) :
    t.opsOf ctx = [ctx * 64 + n] := by
  have hk : (ctx * 64 + n) / 64 = ctx := by omega
  have hnone : s.ops.filter (fun e => (e.2.live && e.1 / 64 == ctx)) = [] := by
    refine List.filter_eq_nil_iff.2 fun e he hq => List.filter_eq_nil_iff.1 hu e he ?_
    simp only [Bool.and_eq_true] at hq
    exact hq.2
  have hput : s.ops.put (ctx * 64 + n) o = Tab.ins s.ops (ctx * 64 + n) o := by simp [Tab.put, Tab.putD, Op.not_default hl]
  have hone := Tab.filter_ins_alone (k := ctx * 64 + n) (v := o) hnone (by simp [hl, hk])
  simp only [State.opsOf, Tab.keysOf, ht, hput, List.filter_map, List.filter_filter]
  refine (congrArg (List.map Prod.fst) (Eq.trans ?_ hone))
  exact List.filter_congr fun e _ => by simp [Bool.and_comm]

end

/-! ### LOCK and UNLOCK (R155, R157, R488, R490) -/

section
variable {s : State} {ctx n k : Nat} {i : Ins} {w : Owner}

/-- A free lock that is not reserved for another is granted (R488). -/
theorem State.lockAsk_free {run : Option Nat} (ho : (s.locks.look n).owner = none) (hr : (s.locks.look n).resv = none ∨ (s.locks.look n).resv = some w) :
    s.lockAsk n w run = (s.lockGrant n w run, some (s.locks.look n).aband, 0) := by
  unfold State.lockAsk
  rcases hr with hr | hr <;> simp [ho, hr]

/-- A LOCK that is granted completes at once (R155). -/
theorem State.lockOp_free (try' : Bool) (ho : (s.locks.look n).owner = none)
    (hr : (s.locks.look n).resv = none ∨ (s.locks.look n).resv = some (s.runOwner (k / 64))) :
    s.lockOp k n try' = (s.lockGrant n (s.runOwner (k / 64)) (some (k / 64))).opDone k (if (s.locks.look n).aband then stLockAband else stOk) 0 (some 0) := by
  simp only [State.lockOp, State.lockAsk_free ho hr]

/-- The operation of a LOCK (R155). -/
def lockReq (r : Run) (i : Ins) : Op :=
  { mkOp r i .lock with arg := i.imm % 64, rd := some i.rd, due := if wbits (r.rg i.ra) 31 0 = 0 then 0 else wbits (r.rg i.ra) 31 0 + 1 }

theorem State.dexLock_due (h : s.due ctx i) (hs : s.freeSlot ctx = some n) (ho : i.opcode = 0x60) :
    s.dexLock ctx = s.accept ctx i (lockReq (s.runs.look ctx) i) fun s k => s.lockOp k (i.imm % 64) (i.opf % 2 == 1) := by
  rw [State.dexLock, State.dex_due h (by simp [ho]), State.withSlot_free hs]
  rfl

theorem State.completedOp_locks (s : State) (ctx n : Nat) (o : Op) (st bytes : Nat) (v : Option Word) : (s.completedOp ctx n o st bytes v).locks = s.locks := by
  rw [State.completedOp, State.ledger_form]
  rfl

/-- The run of an operation that has completed goes on behind it, its registers those the completion wrote (R81). -/
theorem State.completedOp_run (s : State) (ctx n : Nat) (o : Op) (st bytes : Nat) (v : Option Word) :
    ((s.completedOp ctx n o st bytes v).runs.look ctx).st = .ready ∧ ((s.completedOp ctx n o st bytes v).runs.look ctx).pc = (s.runs.look ctx).nextPc ∧
    ∀ m, ((s.completedOp ctx n o st bytes v).runs.look ctx).rg m = ((s.runs.look ctx).completed o n st bytes v).rg m := by
  rw [(State.completedOp_facts s ctx n o st bytes v).2]
  exact ⟨rfl, rfl, fun _ => rfl⟩

theorem State.counted_completedOp {u v : State} (h : u.counted v) (ctx n : Nat) (o : Op) (st bytes : Nat) (w : Option Word) :
    (u.completedOp ctx n o st bytes w).counted (v.completedOp ctx n o st bytes w) := by
  obtain ⟨r, rfl, hr⟩ := h
  refine ⟨r, ?_, fun off ho => ?_⟩
  · rw [State.completedOp, State.completedOp, State.ledger_form, State.ledger_form (u.updRun ctx _)]
    exact congrArg (fun D => ({ u with regs := r, runs := _, doms := D, ops := u.ops.del (ctx * 64 + n), readyCtr := u.readyCtr + 1 } : State)) (State.ledger_doms (by rfl) _ _ _)
  · rw [hr off ho, State.completedOp, State.ledger_form]
    rfl

/-- The state while a LOCK that is granted stands in slot 0. -/
def State.lockIssued (s : State) (ctx : Nat) (i : Ins) : State :=
  (s.issued ctx 0 i (lockReq (s.runs.look ctx) i) stOk).lockGrant (i.imm % 64) (s.runOwner ctx) (some ctx)

theorem State.lockIssued_run (s : State) (ctx : Nat) (i : Ins) :
    (s.lockIssued ctx i).runs.look ctx = (s.runs.look ctx).issued i (lockReq (s.runs.look ctx) i) 0 stOk := by
  simp [State.lockIssued, State.lockGrant, State.issued]

/-- The run while it waits for its LOCK (R96). -/
theorem Run.issued_lock (r : Run) (hnb : i.nb = false) (ho : i.opcode = 0x60) (m : Nat) :
    r.issued i (lockReq r i) m stOk =
      { r with st := .blocked, block := .op m, nextPc := r.pc + i.size, steps := r.steps + 1, desc := none, opSeq := r.opSeq + 1 } := by
  simp [Run.issued, lockReq, mkOp, hnb, ho]

theorem State.counted_lockGrant {u v : State} (h : u.counted v) (n : Nat) (w : Owner) (run : Option Nat) : (u.lockGrant n w run).counted (v.lockGrant n w run) := by
  obtain ⟨r, rfl, hr⟩ := h
  exact ⟨r, rfl, hr⟩

/-- LOCK of a free lock completes with the lock the run's queue's (R155, R488). -/
theorem State.gives_lock (h : s.due ctx i) (hu : s.unladen ctx) (hub : s.unbound = []) (hch : s.chans = []) (ho : i.opcode = 0x60)
    (hf : (s.locks.look (i.imm % 64)).owner = none)
    (hr : (s.locks.look (i.imm % 64)).resv = none ∨ (s.locks.look (i.imm % 64)).resv = some (s.runOwner ctx)) :
    s.gives (.lock ctx) ((s.lockIssued ctx i).completedOp ctx 0 (lockReq (s.runs.look ctx) i)
      (if (s.locks.look (i.imm % 64)).aband then stLockAband else stOk) 0 (some 0)) := by
  obtain ⟨htag, hsig⟩ := Ins.plain_of_due h (by rw [ho]; rfl)
  have hnb : i.nb = false := Ins.nb_of_flags (State.flagsOk_of_due h) (by rw [ho]; rfl)
  have hslot := State.freeSlot_unladen hu
  have hk : (ctx * 64 + 0) / 64 = ctx := by omega
  obtain ⟨t, ht, e⟩ := State.accept_slot (i := i) (o := lockReq (s.runs.look ctx) i) (State.calm_of_due h).2.2.1 hslot (State.running_of_due h)
    (State.steady_of_due h) fun s k => s.lockOp k (i.imm % 64) (i.opf % 2 == 1)
  have hcalm : (s.lockIssued ctx i).calm :=
    State.calm_congr (State.calm_issued (ctx := ctx) (n := 0) (i := i) (o := lockReq (s.runs.look ctx) i) (State.calm_of_due h) (by simp [lockReq, mkOp, ho]) stOk)
      rfl rfl rfl rfl rfl rfl rfl
  have hc : (s.lockIssued ctx i).counted (t.lockGrant (i.imm % 64) (s.runOwner ctx) (some ctx)) := State.counted_lockGrant ht _ _ _
  have hsame : t.locks = s.locks ∧ t.runOwner ctx = (s.issued ctx 0 i (lockReq (s.runs.look ctx) i) stOk).runOwner ctx ∧
      t.ops = s.ops.put (ctx * 64 + 0) (lockReq (s.runs.look ctx) i) ∧ t.unbound = s.unbound ∧ t.chans = s.chans := by
    obtain ⟨r, rfl, -⟩ := ht
    exact ⟨rfl, rfl, rfl, rfl, rfl⟩
  obtain ⟨hlocks, hown, hops, hunb, hchans⟩ := hsame
  have hown' : t.runOwner ctx = s.runOwner ctx := by
    rw [hown]
    simp [State.runOwner, State.issued, Run.issued_lock _ hnb ho]
  have hrun := (congrArg (fun R => Tab.look R ctx) (State.counted_runs hc)).trans ((State.lockIssued_run s ctx i).trans (Run.issued_lock _ hnb ho 0))
  have hgrant := State.lockOp_free (s := t) (k := ctx * 64 + 0) (n := i.imm % 64) (i.opf % 2 == 1) (by rw [hlocks]; exact hf) (by rw [hlocks, hk, hown']; exact hr)
  rw [hlocks, hk, hown'] at hgrant
  refine State.gives_counted (State.counted_completedOp hc _ _ _ _ _ _) (State.calm_completedOp hcalm _) ?_
  rw [State.exec_due h (f := fun s => s.dexLock ctx) rfl, State.dexLock_due h hslot ho, e, hgrant,
    State.settle_opDone (s := t.lockGrant (i.imm % 64) (s.runOwner ctx) (some ctx)) (o := lockReq (s.runs.look ctx) i) (State.calm_counted hc hcalm) (hunb.trans hub) (hchans.trans hch) (by decide)
      (State.opsOf_put hu (by decide) rfl hops) (by rw [show (t.lockGrant (i.imm % 64) (s.runOwner ctx) (some ctx)).ops = _ from hops, Tab.look_put_self]) rfl rfl rfl
      rfl htag hsig (by simp [lockReq, mkOp, ho]) (by simp [lockReq, mkOp, ho]) (by simp [lockReq, mkOp, ho]) (.inl (by rw [hrun])) (by rw [hrun])]

/-- What LOCK of a free lock leaves (R155, R488). -/
theorem State.completes_lock (h : s.due ctx i) (hu : s.unladen ctx) (hub : s.unbound = []) (hch : s.chans = []) (ho : i.opcode = 0x60)
    (hf : (s.locks.look (i.imm % 64)).owner = none)
    (hr : (s.locks.look (i.imm % 64)).resv = none ∨ (s.locks.look (i.imm % 64)).resv = some (s.runOwner ctx)) :
    s.completes (.lock ctx) fun t =>
      (t.locks.look (i.imm % 64)).owner = some (s.runOwner ctx) ∧ (t.locks.look (i.imm % 64)).run = some ctx ∧ (t.locks.look (i.imm % 64)).aband = false ∧
      (t.locks.look (i.imm % 64)).resv = none ∧ (t.runs.look ctx).st = .ready ∧ (t.runs.look ctx).pc = (s.runs.look ctx).pc + 1 ∧
      (t.runs.look ctx).rg 15 = g15 (if (s.locks.look (i.imm % 64)).aband then stLockAband else stOk) 0x60 0 ∧
      (i.rd ≠ 15 → (t.runs.look ctx).rg i.rd = 0) := by
  have hnb : i.nb = false := Ins.nb_of_flags (State.flagsOk_of_due h) (by rw [ho]; rfl)
  have hsize : i.size = 1 := State.size_of_due h (by rw [ho]; rfl) (by simp [ho])
  have hrun := (State.lockIssued_run s ctx i).trans (Run.issued_lock _ hnb ho 0)
  have hnp : ((s.lockIssued ctx i).runs.look ctx).st ≠ .parked := by simp [hrun]
  obtain ⟨hst, hpc, hrg⟩ := State.completedOp_run (s.lockIssued ctx i) ctx 0 (lockReq (s.runs.look ctx) i)
    (if (s.locks.look (i.imm % 64)).aband then stLockAband else stOk) 0 (some 0)
  rw [hrun, hsize] at hpc
  obtain ⟨t, ht, hut, -⟩ := State.gives_lock h hu hub hch ho hf hr
  have hl := congrArg State.locks hut
  have hrs := congrArg State.runs hut
  dsimp only at hl hrs
  rw [State.completedOp_locks] at hl
  refine ⟨t, ht, ?_⟩
  dsimp only
  rw [hl, hrs, hst, hpc, hrg, hrg]
  simp only [State.lockIssued, State.lockGrant, State.issued, Tab.look_upd_self, true_and]
  refine ⟨(Run.completed_g15 hnp _ _ _ _ _).trans (by rw [show (lockReq (s.runs.look ctx) i).opcode = 0x60 from ho]), fun h15 => ?_⟩
  by_cases h0 : i.rd = 0
  · rw [h0]
    rfl
  · exact Run.completed_rd hnp rfl h0 h15 _ _ _ _

/-- A lock after its release: free, or kept for the candidate it noted (R157, R490). -/
def HLock.released (l : HLock) : HLock :=
  { l with
    owner := none, run := none, aband := false, notified := 0, boost := false
    resv := if l.waiting then some l.cand else none, resvLeft := if l.waiting then 2 else 0 }

/-- Freeing a lock that no operation waits for changes its record and the boosts of the queues (R157, R490). -/
theorem State.lockFree_held (ho : (s.locks.look n).owner = some w) (hw : s.lockWaiters n = []) :
    ∃ q, s.lockFree n false = { s with locks := (s.locks.put n (s.locks.look n).released).upd n fun l => { l with waiters := [] }, wqs := q } := by
  have hb : ∀ t : State, ∃ q, t.boostSet (some w) = { t with wqs := q } := fun t => by
    unfold State.boostSet
    dsimp only
    split
    · exact ⟨_, rfl⟩
    · exact ⟨_, rfl⟩
  have hp : ∀ t : State, t.lockWaiters n = [] → t.lockPolls n = { t with locks := t.locks.upd n fun l => { l with waiters := [] } } := fun t ht => by
    simp [State.lockPolls, ht]
  obtain ⟨q, hq⟩ := hb { s with locks := s.locks.put n (s.locks.look n).released }
  refine ⟨q, ?_⟩
  have hf : s.lockFree n false = (({ s with locks := s.locks.put n (s.locks.look n).released } : State).boostSet (some w)).lockPolls n := by
    simp only [State.lockFree, ho]
    rfl
  rw [hf, hq, hp _ (by simpa [State.lockWaiters, HLock.released] using hw)]

/-- What UNLOCK of a lock its queue holds leaves (R157, R490). -/
theorem State.completes_unlock (h : s.due ctx i) (hu : s.unladen ctx) (ho : i.opcode = 0x61) (hown : (s.locks.look (i.imm % 64)).owner = some (s.runOwner ctx))
    (hw : s.lockWaiters (i.imm % 64) = []) :
    s.completes (.unlock ctx) fun t =>
      (t.locks.look (i.imm % 64)).owner = none ∧ (t.locks.look (i.imm % 64)).run = none ∧ (t.locks.look (i.imm % 64)).aband = false ∧
      (t.locks.look (i.imm % 64)).resv = (if (s.locks.look (i.imm % 64)).waiting then some (s.locks.look (i.imm % 64)).cand else none) ∧
      (t.runs.look ctx).st = .running ∧ (t.runs.look ctx).pc = (s.runs.look ctx).pc + 1 ∧ (t.runs.look ctx).rg 15 = g15 stOk 0x61 0 := by
  obtain ⟨htag, hsig⟩ := Ins.plain_of_due h (by rw [ho]; rfl)
  have hst := State.running_of_due h
  have hsize : i.size = 1 := State.size_of_due h (by rw [ho]; rfl) (by simp [ho])
  obtain ⟨q, hq⟩ := State.lockFree_held hown hw
  obtain ⟨s', hs'⟩ : ∃ s', s' = s.lockFree (i.imm % 64) false := ⟨_, rfl⟩
  have hsame : s'.runs = s.runs ∧ s'.unladen ctx ∧ s'.calm ∧
      s'.locks = (s.locks.put (i.imm % 64) (s.locks.look (i.imm % 64)).released).upd (i.imm % 64) fun l => { l with waiters := [] } := by
    rw [hs', hq]
    exact ⟨rfl, hu, State.calm_congr (State.calm_of_due h) rfl rfl rfl rfl rfl rfl rfl, rfl⟩
  obtain ⟨hruns, hu', hc', hlocks⟩ := hsame
  have he : exec (.unlock ctx) s = .next (s'.opInstant ctx i (mkOp (s.runs.look ctx) i .lock) stOk 0 none).settle := by
    rw [State.exec_due h (f := fun s => s.dexUnlock ctx) rfl, State.dexUnlock, State.dex_due h (by simp [ho])]
    simp only [State.withSlot_free (State.freeSlot_unladen hu), if_pos hown, hs']
  have hk := State.opInstant_still (o := mkOp (s.runs.look ctx) i .lock) hu' (by rw [hruns]; exact hst) (by rw [hruns]; exact State.steady_of_due h) rfl rfl htag rfl
    (by simp [ho]) (by simp [ho]) rfl hsig stOk
  obtain ⟨t, ht, hut, -⟩ := State.gives_counted hk (State.calm_wentOp hc' _ _ _) he
  have hl := congrArg State.locks hut
  have hr := congrArg State.runs hut
  rw [State.wentOp, State.ledger_form] at hl hr
  dsimp only [State.updRun] at hl hr
  refine ⟨t, ht, ?_⟩
  dsimp only
  rw [hl, hr, hlocks, hruns]
  simp only [Tab.look_upd_self, Tab.look_put_self, HLock.released, true_and]
  refine ⟨by simpa using hst, by rw [hsize], ?_⟩
  exact (Run.rg_setG_self _ (by decide) (by simp [hst])).trans (by rw [ho])

end

/-! ### EVENT and TRAP (R158, R159) -/

section
variable {s : State} {ctx e k bytes : Nat} {i : Ins} {o : Op}

/-- The state while the operation of an EVENT or a TRAP waits for its event to be visible. -/
def State.announcing (s : State) (k bytes : Nat) (o : Op) : State := { s with ops := s.ops.put k { o with fin := some (stOk, bytes, none), reporting := true } }

/-- Reporting an EVENT or a TRAP writes its event, with the word and bytes it names, whatever its tag (R158, R159). -/
theorem State.opReport_event (ho : s.ops.look k = o) (hl : o.live = true) (hf : o.fin = some (stOk, bytes, none)) (hr : o.reporting = false) (hn : o.noCtr = false)
    (he : (s.runs.look (k / 64)).st ≠ .ending) (hp : (s.runs.look (k / 64)).st ≠ .parked) (hop : o.opcode = 0x70 ∨ o.opcode = 0x71) :
    s.opReport k = ({ s with ops := s.ops.put k { o with reporting := true } } : State).wqEvent (s.runs.look (k / 64)).wq
      (mkEv s (if o.opcode = 0x70 then 4 else 5) stOk o.opcode (s.runs.look (k / 64)).wq o.pc bytes (s.runs.look (k / 64)).idx o.x.tag (.op k)) := by
  have h31 : o.opcode ≠ 0x31 := by rcases hop with hop | hop <;> simp [hop]
  simp [State.opReport, ho, hl, hf, hr, hn, he, hp, h31, hop] <;> rfl

/-- Finishing and reporting it at once. -/
theorem State.opDone_event (ho : s.ops.look k = o) (hl : o.live = true) (hf : o.fin = none) (hr : o.reporting = false) (hn : o.noCtr = false) (heng : o.eng ≠ .bulk)
    (he : (s.runs.look (k / 64)).st ≠ .ending) (hp : (s.runs.look (k / 64)).st ≠ .parked) (hop : o.opcode = 0x70 ∨ o.opcode = 0x71) :
    s.opDone k stOk bytes none = (s.announcing k bytes o).wqEvent (s.runs.look (k / 64)).wq
      (mkEv s (if o.opcode = 0x70 then 4 else 5) stOk o.opcode (s.runs.look (k / 64)).wq o.pc bytes (s.runs.look (k / 64)).idx o.x.tag (.op k)) := by
  have hput := Tab.put_put s.ops k (Op.not_default (o := { o with fin := some (stOk, bytes, none) }) hl)
    (Op.not_default (o := { o with fin := some (stOk, bytes, none), reporting := true }) hl)
  rw [State.opDone, State.opFin_none ho hl hf heng, State.announcing, ← hput]
  exact State.opReport_event (s := { s with ops := s.ops.put k { o with fin := some (stOk, bytes, none) } }) (Tab.look_put_self _ _ _) hl rfl hr hn he hp hop

/-- The event of an EVENT or a TRAP waits behind the one being written (R158, R159, R199). -/
theorem State.opInstant_announced (h : s.due ctx i) (hu : s.unladen ctx) (he : s.eventsTo (s.runs.look ctx).wq e)
    (hl : o.live = true) (hf : o.fin = none) (hr : o.reporting = false) (hn : o.noCtr = false) (heng : o.eng ≠ .bulk) (hop : o.opcode = 0x70 ∨ o.opcode = 0x71) {ev : Ev}
    (hev : ev = mkEv s (if o.opcode = 0x70 then 4 else 5) stOk o.opcode (s.runs.look ctx).wq o.pc bytes (s.runs.look ctx).idx o.x.tag (.op (ctx * 64))) :
    ∃ u : State, u.calm ∧ u.eqs = s.eqs.put e { s.eqs.look e with held := (s.eqs.look e).held ++ [ev] } ∧ u.runs = s.runs.upd ctx (fun r => r.issued i o 0 stOk) ∧
      (s.opInstant ctx i o stOk bytes none).settle = u.settle := by
  have hst := State.running_of_due h
  have hne : o.opcode ≠ 0x40 ∧ o.opcode ≠ 0x84 := by rcases hop with hop | hop <;> simp [hop]
  obtain ⟨t, htc, hi⟩ := State.opIssue_slot (i := i) (o := o) (State.freeSlot_unladen hu) hst (State.steady_of_due h) stOk
  obtain ⟨hwq, hidx, -, hst'⟩ := Run.issued_facts (i := i) (n := 0) (chk := stOk) hst hne.1
  have hk : (ctx * 64 + 0) / 64 = ctx := by omega
  have hsame : t.wqs = s.wqs ∧ t.eqs = s.eqs ∧ t.ops = s.ops.put (ctx * 64 + 0) o ∧ t.runs = s.runs.upd ctx fun r => r.issued i o 0 stOk := by
    obtain ⟨r, rfl, -⟩ := htc
    exact ⟨rfl, rfl, rfl, rfl⟩
  obtain ⟨hwqs, heqs, hops, hruns⟩ := hsame
  have hrun : t.runs.look ((ctx * 64 + 0) / 64) = (s.runs.look ctx).issued i o 0 stOk := by rw [hk, hruns, Tab.look_upd_self]
  have hlive : ((s.runs.look ctx).issued i o 0 stOk).st ≠ .ending ∧ ((s.runs.look ctx).issued i o 0 stOk).st ≠ .parked := by
    rw [hst']
    split <;> exact ⟨by simp, by simp⟩
  have hd := State.opDone_event (s := t) (bytes := bytes) (by rw [hops, Tab.look_put_self]) hl hf hr hn heng (by rw [hrun]; exact hlive.1) (by rw [hrun]; exact hlive.2) hop
  have hev' : ev = mkEv t (if o.opcode = 0x70 then 4 else 5) stOk o.opcode (s.runs.look ctx).wq o.pc bytes (s.runs.look ctx).idx o.x.tag (.op (ctx * 64 + 0)) := by
    rw [hev, mkEv, mkEv, State.timeWord_counted htc]
    rfl
  rw [hrun, hwq, hidx, ← hev'] at hd
  have hbe : (t.announcing (ctx * 64 + 0) bytes o).eventsTo (s.runs.look ctx).wq e := by
    simpa only [State.announcing, State.eventsTo, hwqs, heqs] using he
  have hbc : (t.announcing (ctx * 64 + 0) bytes o).calm := by
    obtain ⟨h1, h2, h3, h4, h5, h6, h7⟩ := State.calm_counted htc (State.calm_issued (State.calm_of_due h) hne.2 stOk)
    exact ⟨h1, h2, h3, h4, Tab.keysOf_put_nil _ h5 (by simp), h6, h7⟩
  refine ⟨{ t.announcing (ctx * 64 + 0) bytes o with eqs := t.eqs.put e { t.eqs.look e with held := (t.eqs.look e).held ++ [ev] } },
    State.calm_congr hbc rfl rfl rfl rfl rfl rfl rfl, by rw [heqs], hruns, ?_⟩
  rw [State.opInstant, hi]
  dsimp only
  rw [if_pos (by rcases hop with hop | hop <;> simp [hop]), hd, State.wqEvent_held hbe, State.settle_held hbc hbe.2.2.2.2.1]
  rfl

/-- The operation of an EVENT or a TRAP, with the word it announces (R158, R159). -/
def eventOp (r : Run) (i : Ins) : Op := { mkOp r i .event with x := { (default : Xfer) with tag := r.rg i.ra } }

/-- What EVENT and TRAP leave: their event behind the one being written, and their run after its step (R158, R159). -/
theorem State.completes_event (h : s.due ctx i) (hu : s.unladen ctx) (he : s.eventsTo (s.runs.look ctx).wq e) (hop : i.opcode = 0x70 ∨ i.opcode = 0x71) {c : Instr} {ev : Ev}
    (hx : exec c s = .next (s.opInstant ctx i (eventOp (s.runs.look ctx) i) stOk bytes none).settle)
    (hev : ev = mkEv s (if i.opcode = 0x70 then 4 else 5) stOk i.opcode (s.runs.look ctx).wq (s.runs.look ctx).pc bytes (s.runs.look ctx).idx ((s.runs.look ctx).rg i.ra)
      (.op (ctx * 64))) :
    s.completes c fun t => (t.eqs.look e).held = (s.eqs.look e).held ++ [ev] ∧ (t.runs.look ctx).st = (if i.nb then .running else .blocked) ∧
      (t.runs.look ctx).steps = (s.runs.look ctx).steps + 1 := by
  obtain ⟨u, hc, heqs, hruns, hset⟩ := State.opInstant_announced (o := eventOp (s.runs.look ctx) i) (bytes := bytes) h hu he rfl rfl rfl rfl (by simp [eventOp, mkOp]) hop hev
  obtain ⟨-, -, hsteps, hst⟩ := Run.issued_facts (i := i) (n := 0) (chk := stOk) (o := eventOp (s.runs.look ctx) i) (State.running_of_due h)
    (by rcases hop with hop | hop <;> simp [eventOp, mkOp, hop])
  rw [hset] at hx
  obtain ⟨t, ht, hut, -⟩ := State.gives_settle hx hc
  have hq := congrArg State.eqs hut
  have hr := congrArg State.runs hut
  dsimp only at hq hr
  refine ⟨t, ht, ?_⟩
  dsimp only
  rw [hq, hr, heqs, hruns, Tab.look_put_self, Tab.look_upd_self]
  exact ⟨rfl, hst, hsteps⟩

end

/-- Settles O18: what a LOCK that is granted, an UNLOCK and an announced event leave. -/
theorem locksAndEventsOfRuns : Obligations.LocksAndEventsOfRuns := by
  unfold Obligations.LocksAndEventsOfRuns
  intro s ctx i h hu
  have hs := State.freeSlot_unladen hu
  refine ⟨fun hub hch ho hf hr => State.completes_lock h hu hub hch ho hf hr, fun ho hown hw => State.completes_unlock h hu ho hown hw, fun ho hown => ?_,
    fun e ev he ho hev => ?_, fun e ev he ho hev => ?_⟩
  · refine State.gives_still h hu (by rw [ho]; rfl) (by simp [ho]) (by simp [ho]) (Op.flagged_mkOp (s.runs.look ctx) i .lock) ?_
    rw [State.exec_due h (f := fun s => s.dexUnlock ctx) rfl, State.dexUnlock, State.dex_due h (by simp [ho])]
    simp only [State.withSlot_free hs, if_neg hown]
  · refine State.completes_event (bytes := wbits ((s.runs.look ctx).rg i.rb) 31 0) h hu he (.inl ho) ?_ ?_
    · rw [State.exec_due h (f := fun s => s.dexEvent ctx) rfl, State.dexEvent, State.dex_due h (by simp [ho]), State.withSlot_free hs]
      rfl
    · have hlt := wbits_lt ((s.runs.look ctx).rg i.rb) 31 0
      rw [hev, mkEv, ho, Nat.min_eq_left (by omega)]
      rfl
  · have hnb : i.nb = false := Ins.nb_of_flags (State.flagsOk_of_due h) (by rw [ho]; rfl)
    have hc := State.completes_event (c := .trap ctx) (bytes := i.imm) h hu he (.inr ho) (by
      rw [State.exec_due h (f := fun s => s.dexTrap ctx) rfl, State.dexTrap, State.dex_due h (by simp [ho]), State.withSlot_free hs]
      rfl) (ev := ev) (by
      rw [hev, mkEv, ho]
      rfl)
    simpa only [hnb, Bool.false_eq_true, if_false] using hc

end Sys2Proof.Machine
end

section
namespace Sys2Proof

/-- A change of a record that has just been written is one write. -/
theorem Tab.upd_put {α : Type} [DecidableEq α] [Inhabited α] (t : Tab α) (k : Nat) {a : α} {f : α → α} (ha : a ≠ default) (hf : f a ≠ default) :
    (t.put k a).upd k f = t.put k (f a) := by
  rw [Tab.upd, Tab.look_put_self, Tab.put_put t k ha hf]

end Sys2Proof

namespace Sys2Proof.Machine

/-! ### Queue command sets (R205) -/

section
variable {s : State} {r index : Nat}

/-- A register command set's command on a device that may carry it out ends by settling what it does (R447, R454). -/
theorem State.ended_command (h : s.mayCommand) {ok : Bool} (hk : ok = true) (k : State → State) : ended ok (s.command k) = .next (k s).settle := by
  obtain ⟨hc, hl, -, ht⟩ := h
  have e : s.command k = s.fabric k := by
    obtain ⟨-, -, -, -, -, -, hh⟩ := hc
    rw [State.command, State.fabric_on _ _ hh, State.fabric_on _ _ hh, hl, State.tdiWatch_unlocked ht]
    exact if_neg Bool.false_ne_true
  rw [e, ended_fabric hc hk]

/-- A queue command set that a command has written its OP and INDEX to. -/
def State.queAsked (s : State) (r op index : Nat) : State := (s.put (F.QUE_CMD_OP r) op).put (F.QUE_CMD_INDEX r) index

theorem State.queAsked_get (s : State) (op : Nat) {f : Fld} (hf : f.off ≠ 0x100010 + r * 0x40) : (s.queAsked r op index).get f = s.get f := by
  rw [State.queAsked, State.get_put_off _ _ hf, State.get_put_off _ _ hf]

@[simp] theorem State.queAsked_wqs (s : State) (op : Nat) : (s.queAsked r op index).wqs = s.wqs := by
  rw [State.queAsked, State.put_wqs, State.put_wqs]
@[simp] theorem State.queAsked_eqs (s : State) (op : Nat) : (s.queAsked r op index).eqs = s.eqs := by
  rw [State.queAsked, State.put_eqs, State.put_eqs]
@[simp] theorem State.queAsked_pas (s : State) (op : Nat) : (s.queAsked r op index).pas = s.pas := by
  rw [State.queAsked, State.put_pas, State.put_pas]
@[simp] theorem State.queAsked_fns (s : State) (op : Nat) : (s.queAsked r op index).fns = s.fns := by
  rw [State.queAsked, State.put_fns, State.put_fns]
@[simp] theorem State.queAsked_runs (s : State) (op : Nat) : (s.queAsked r op index).runs = s.runs := by
  rw [State.queAsked, State.put_runs, State.put_runs]
@[simp] theorem State.queAsked_locks (s : State) (op : Nat) : (s.queAsked r op index).locks = s.locks := by
  rw [State.queAsked, State.put_locks, State.put_locks]

theorem State.queAsked_fnDom (s : State) (op port fn : Nat) : (s.queAsked r op index).fnDom port fn = s.fnDom port fn := by
  rw [State.fnDom, State.fnOf, State.queAsked_fns, State.fnDom, State.fnOf]

/-- OP and INDEX leave every set's BUSY. -/
theorem State.queAsked_busy (s : State) (op j : Nat) : (s.queAsked r op index).get (F.QUE_CMD_BUSY j) = s.get (F.QUE_CMD_BUSY j) := by
  rw [State.queAsked, State.get_put_other _ _ (by simp [Fld.ok]) (by simp [Fld.ok]) (by simp), State.get_put_other _ _ (by simp [Fld.ok]) (by simp [Fld.ok]) (by simp)]

theorem State.calm_queAsked (h : s.calm) (op : Nat) : (s.queAsked r op index).calm :=
  State.calm_put (State.calm_put h _ (by dsimp only; omega)) _ (by dsimp only; omega)

theorem State.calm_queResult (h : s.calm) (res : Nat) : (s.queResult r res).calm :=
  State.calm_put (State.calm_put h _ (by dsimp only; omega)) _ (by dsimp only; omega)

/-- While no set is busy a set carries its command out (R205). -/
theorem State.queueCmd_idle (h : s.mayCommand) (hr : s.setsIdle r) (op : Nat) (k : State → State) : s.queueCmd r op index k = k (s.queAsked r op index) := by
  obtain ⟨-, -, hh, -⟩ := h
  obtain ⟨hr, hb⟩ := hr
  have hf : ∀ j < 5, (s.queAsked r op index).flag (F.QUE_CMD_BUSY j) = false := fun j hj => by rw [State.flag, State.queAsked_busy, hb j hj]; rfl
  have hs : s.flag (F.QUE_CMD_BUSY r) = false := by rw [State.flag, hb r hr]; rfl
  have ho : ((List.range 5).any fun j => j != r && (s.queAsked r op index).flag (F.QUE_CMD_BUSY j) && (s.queAsked r op index).get (F.QUE_CMD_INDEX j) == index &&
      (decide (op ≤ 4) == decide ((s.queAsked r op index).get (F.QUE_CMD_OP j) ≤ 4))) = false := by
    rw [List.any_eq_false]
    intro j hj
    simp [hf j (List.mem_range.1 hj)]
  unfold State.queueCmd
  rw [if_neg (by simp [hs]), if_neg (by simp [hh])]
  exact if_neg (by rw [← State.queAsked, ho]; exact Bool.false_ne_true)

/-- A state with other work queues. -/
def State.withWqs (s : State) (x : Tab Wq) : State := { s with wqs := x }

/-- A state with other event queues. -/
def State.withEqs (s : State) (x : Tab Evq) : State := { s with eqs := x }

theorem State.withWqs_put (s : State) (x : Tab Wq) (f : Fld) (n : Nat) : (s.withWqs x).put f n = (s.put f n).withWqs x := rfl

theorem State.withEqs_put (s : State) (x : Tab Evq) (f : Fld) (n : Nat) : (s.withEqs x).put f n = (s.put f n).withEqs x := rfl

@[simp] theorem State.withWqs_wqs (s : State) (x : Tab Wq) : (s.withWqs x).wqs = x := rfl

theorem State.withWqs_withWqs (s : State) (x y : Tab Wq) : (s.withWqs x).withWqs y = s.withWqs y := rfl

theorem State.withWqs_look_put (s : State) (x : Tab Wq) (q : Nat) (w : Wq) : (s.withWqs (x.put q w)).wqs.look q = w := Tab.look_put_self _ _ _

/-- A set answers beside the change of a queue. -/
theorem State.withWqs_queResult (s : State) (x : Tab Wq) (res : Nat) : (s.withWqs x).queResult r res = (s.queResult r res).withWqs x := by
  rw [State.queResult, State.withWqs_put, State.withWqs_put, State.queResult]

theorem State.withEqs_queResult (s : State) (x : Tab Evq) (res : Nat) : (s.withEqs x).queResult r res = (s.queResult r res).withEqs x := by
  rw [State.queResult, State.withEqs_put, State.withEqs_put, State.queResult]

theorem State.calm_withWqs (h : s.calm) (x : Tab Wq) : (s.withWqs x).calm := State.calm_congr h rfl rfl rfl rfl rfl rfl rfl

theorem State.calm_withEqs (h : s.calm) (x : Tab Evq) : (s.withEqs x).calm := State.calm_congr h rfl rfl rfl rfl rfl rfl rfl

theorem State.queDone_eq (s : State) (op : Nat) : s.queDone r op index = (s.queAsked r op index).queResult r 0 := by
  rw [State.queDone, State.queResult, State.queAsked]

theorem State.calm_queDone (h : s.calm) (op : Nat) : (s.queDone r op index).calm := by
  rw [State.queDone_eq]
  exact State.calm_queResult (State.calm_queAsked h op) 0

/-! ### CREATE_WQ and START_WQ (R168 to R170, R190) -/

theorem State.fnBad_queAsked (s : State) (op fn : Nat) : (s.queAsked r op index).fnBad (s.get (F.QUE_CMD_ARG1_PORT r)) fn = s.fnBad (s.get (F.QUE_CMD_ARG1_PORT r)) fn := by
  have hp : s.get (F.QUE_CMD_ARG1_PORT r) < 4 := wbits_lt _ 21 20
  rw [State.fnBad, State.fnBad, State.queAsked_get _ _ (by dsimp only; omega)]

/-- A queue as CREATE_WQ records it from a set's arguments and the control block (R168, R169). -/
def createdWq (adr pasid port fn : Nat) (ws : List Word) : Wq :=
  { Wq.config { (default : Wq) with qcb := adr, pasid := pasid, port := port, fn := fn, st := .stopped, c := (ws.getD 1 0).toNat % 2 ^ 32 } ws with
    prod := (ws.getD 1 0).toNat % 2 ^ 32 }

/-- CREATE_WQ of a FREE queue whose function and domain agree records it STOPPED (R168, R169, R561). -/
theorem State.createWq_records (h : s.mayCommand) (hr : s.setsIdle r) {ws : List Word} {d : Nat} {w : Wq} (h4 : index ≠ 4) (hf : (s.wqs.look index).st = .free)
    (ha : s.get (F.QUE_CMD_ARG0_ADDR r) % 64 = 0) (hn : s.get (F.QUE_CMD_ARG1_FUNCTION r) ≤ s.get (F.DEV_HOSTPORT_NUMVF (s.get (F.QUE_CMD_ARG1_PORT r))))
    (hp : (s.pas.look (s.get (F.QUE_CMD_ARG1_PASID r))).dom = some d) (hd : s.fnDom (s.get (F.QUE_CMD_ARG1_PORT r)) (s.get (F.QUE_CMD_ARG1_FUNCTION r)) = some d)
    (h3 : index ≤ 3 → s.get (F.QUE_CMD_ARG1_FUNCTION r) = 0 ∧ s.get (F.QUE_CMD_ARG1_PORT r) = index ∧ d = 0) (hk : qcbFieldsOk ws = true)
    (hw : w = createdWq (s.get (F.QUE_CMD_ARG0_ADDR r)) (s.get (F.QUE_CMD_ARG1_PASID r)) (s.get (F.QUE_CMD_ARG1_PORT r)) (s.get (F.QUE_CMD_ARG1_FUNCTION r)) ws)
    (he : w.eqEn = true → (s.eqs.look w.eq).st = .active ∧ (s.eqs.look w.eq).dom = d) :
    s.createWq r index (.ok ws) = (s.queDone r 0 index).withWqs (s.wqs.put index w) := by
  have hb : s.fnBad (s.get (F.QUE_CMD_ARG1_PORT r)) (s.get (F.QUE_CMD_ARG1_FUNCTION r)) = false := by simpa [State.fnBad] using hn
  rw [State.createWq, State.queueCmd_idle h hr, State.queDone_eq, ← State.withWqs_queResult, ← State.queAsked_wqs (r := r) (index := index) s 0]
  rw [← State.queAsked_eqs (r := r) (index := index) s 0] at he
  rw [← State.queAsked_wqs (r := r) (index := index) s 0] at hf
  rw [← State.queAsked_pas (r := r) (index := index) s 0] at hp
  simp (disch := (dsimp only; omega)) only [State.queAsked_get, State.fnBad_queAsked, hb, State.queAsked_fnDom, hd]
  generalize s.queAsked r 0 index = v at *
  generalize s.get (F.QUE_CMD_ARG0_ADDR r) = adr at *
  generalize s.get (F.QUE_CMD_ARG1_PASID r) = pasid at *
  generalize s.get (F.QUE_CMD_ARG1_PORT r) = port at *
  generalize s.get (F.QUE_CMD_ARG1_FUNCTION r) = fn at *
  rw [hp, if_neg (by simp [hf, h4]), if_neg (by simp [ha]), if_neg (by simpa [and_assoc] using h3)]
  have hq : ¬ (!qcbFieldsOk ws || (w.eqEn && (v.eqs.look w.eq).st != .active)) = true := by simpa [hk] using fun e => (he e).1
  have hm : ¬ (w.eqEn && some (v.eqs.look w.eq).dom != some d) = true := by simpa using fun e => (he e).2
  subst hw
  exact (if_neg hq).trans (if_neg hm)

/-- A PRODUCER that is at most a ring ahead is taken, and the queue scheduled if it is ahead (R172, R176). -/
theorem State.prodSeen_within {q p : Nat} (h : fwd 32 (s.wqs.look q).c p ≤ 2 ^ (s.wqs.look q).log2) :
    s.prodSeen q p = s.withWqs (s.wqs.upd q fun w => { w with prod := p, sched := decide (fwd 32 w.c p ≠ 0) || w.rang }) := if_neg (Nat.not_lt.2 h)

theorem Wq.not_default {w : Wq} (h : w.st ≠ .free) : w ≠ default := by
  rintro rfl
  exact h rfl

theorem Wq.config_eqEn (w : Wq) (ws : List Word) : (w.config ws).eqEn = wbit (ws.getD 3 0) 62 := rfl

theorem Wq.config_own (w : Wq) (ws : List Word) : (w.config ws).own = wbit (ws.getD 3 0) 5 := rfl

/-- A queue as START_WQ leaves it in doorbell mode, for a PRODUCER `p` (R170, R176). -/
def Wq.started (w : Wq) (ws : List Word) (p : Nat) : Wq :=
  { w.config ws with st := .running, found := none, prod := p, sched := decide (fwd 32 w.c p ≠ 0) || w.rang }

/-- START_WQ of a STOPPED queue takes its control block and the queue RUNNING (R170, R176, R190). -/
theorem State.startWq_runs (h : s.mayCommand) (hr : s.setsIdle r) {ws : List Word} (h4 : index ≠ 4) (hs : (s.wqs.look index).st = .stopped)
    (hk : qcbFieldsOk ws = true) (he : wbit (ws.getD 3 0) 62 = false) (ho : wbit (ws.getD 3 0) 5 = false)
    (hf : fwd 32 (s.wqs.look index).c ((ws.getD 0 0).toNat % 2 ^ 32) ≤ 2 ^ wbits (ws.getD 3 0) 4 0) :
    s.startWq r index (.ok ws) = (s.queDone r 1 index).withWqs (s.wqs.upd index fun w => w.started ws ((ws.getD 0 0).toNat % 2 ^ 32)) := by
  rw [State.startWq, State.queueCmd_idle h hr, State.queDone_eq, ← State.withWqs_queResult, ← State.queAsked_wqs (r := r) (index := index) s 1]
  rw [← State.queAsked_wqs (r := r) (index := index) s 1] at hs hf
  generalize s.queAsked r 1 index = v at *
  have hq : ¬ (!qcbFieldsOk ws || (((v.wqs.look index).config ws).eqEn && (v.eqs.look ((v.wqs.look index).config ws).eq).st != .active)) = true := by
    rw [Wq.config_eqEn, he, hk]
    simp
  have hn : ¬ ((v.wqs.look index).config ws).own = true := by rw [Wq.config_own, ho]; exact Bool.false_ne_true
  dsimp only
  rw [if_neg (by simp [hs, h4]), if_neg hq, if_neg hn]
  show ((v.withWqs (v.wqs.put index { (v.wqs.look index).config ws with st := .running, sched := false, found := none })).queResult r 0).prodSeen index
    ((ws.getD 0 0).toNat % 2 ^ 32) = _
  rw [State.withWqs_queResult, State.withWqs_queResult, State.prodSeen_within (by rw [State.withWqs_look_put]; exact hf), State.withWqs_wqs, State.withWqs_withWqs,
    Tab.upd_put _ _ (Wq.not_default (by simp)) (Wq.not_default (by simp))]
  rfl

/-! ### CREATE_EQ and DESTROY_EQ (R198, R205) -/

theorem State.sameRegs_trans {s t u : State} (h : s.sameRegs t) (h' : t.sameRegs u) : s.sameRegs u := by
  obtain ⟨q, rfl, hq⟩ := h
  obtain ⟨r, rfl, hr⟩ := h'
  exact ⟨r, rfl, fun off => (hr off).trans (hq off)⟩

theorem State.sameRegs_withEqs {s t : State} (h : s.sameRegs t) (x : Tab Evq) : (s.withEqs x).sameRegs (t.withEqs x) := by
  obtain ⟨q, rfl, hq⟩ := h
  exact ⟨q, rfl, hq⟩

theorem Fld.into_comm {f g : Fld} (hf : f.ok) (hg : g.ok) (h : g.hi < f.lo ∨ f.hi < g.lo) (w : Word) (m n : Nat) :
    g.into (f.into w m) n = f.into (g.into w n) m := by
  apply BitVec.eq_of_getLsbD_eq
  intro i hi
  rw [Fld.getLsbD_into _ _ _ _ hg.1 hi, Fld.getLsbD_into _ _ _ _ hf.1 hi, Fld.getLsbD_into _ _ _ _ hf.1 hi, Fld.getLsbD_into _ _ _ _ hg.1 hi]
  have hd : ¬ ((f.lo ≤ i ∧ i ≤ f.hi) ∧ g.lo ≤ i ∧ i ≤ g.hi) := by omega
  split_ifs <;> tauto

/-- Two fields of one register may be set in either order. -/
theorem State.sameRegs_put_comm (s : State) {f g : Fld} (m n : Nat) (ho : g.off = f.off) (hf : f.ok) (hg : g.ok) (h : g.hi < f.lo ∨ f.hi < g.lo) :
    ((s.put f m).put g n).sameRegs ((s.put g n).put f m) := by
  refine ⟨_, rfl, fun off => ?_⟩
  show ((s.put g n).put f m).reg off = _
  by_cases e : off = f.off
  · subst e
    rw [State.reg_put_self, State.reg_put_at _ _ ho, State.reg_put_at _ _ ho, State.reg_put_self, Fld.into_comm hf hg h]
  · rw [State.reg_put_other _ _ _ e, State.reg_put_other _ _ _ (by omega), State.reg_put_other _ _ _ (by omega), State.reg_put_other _ _ _ e]

/-- CREATE_EQ records its slot of the VF's window before it answers. -/
theorem State.sameRegs_vfslot (s : State) (n : Nat) :
    ((s.queResult r 0).put (F.QUE_CMD_VFSLOT r) n).sameRegs ((s.put (F.QUE_CMD_VFSLOT r) n).queResult r 0) := by
  have hf : (F.QUE_CMD_VFSLOT r).ok := by simp [Fld.ok]
  rw [State.queResult, State.queResult]
  exact State.sameRegs_trans
    (State.sameRegs_put_comm (f := F.QUE_CMD_RESULT r) (g := F.QUE_CMD_VFSLOT r) _ 0 n rfl (by simp [Fld.ok]) hf (by simp))
    (State.sameRegs_put (State.sameRegs_put_comm (f := F.QUE_CMD_BUSY r) (g := F.QUE_CMD_VFSLOT r) s 0 n rfl (by simp [Fld.ok]) hf (by simp)) _ _)

/-- A queue command set of CREATE_EQ, with the VF's slot it names. -/
def State.slotAsked (s : State) (r index slot : Nat) : State := (s.queAsked r 5 index).put (F.QUE_CMD_VFSLOT r) slot

theorem State.slotAsked_get (s : State) (slot : Nat) {f : Fld} (hf : f.off ≠ 0x100010 + r * 0x40) : (s.slotAsked r index slot).get f = s.get f := by
  rw [State.slotAsked, State.get_put_off _ _ hf, State.queAsked_get _ _ hf]

@[simp] theorem State.slotAsked_eqs (s : State) (slot : Nat) : (s.slotAsked r index slot).eqs = s.eqs := by
  rw [State.slotAsked, State.put_eqs, State.queAsked_eqs]

theorem State.slotAsked_fnDom (s : State) (slot port fn : Nat) : (s.slotAsked r index slot).fnDom port fn = s.fnDom port fn := by
  rw [← State.queAsked_fnDom (r := r) (index := index) s 5, State.fnDom, State.fnOf, State.slotAsked, State.put_fns, State.fnDom, State.fnOf]

theorem State.slotAsked_fnBad (s : State) (slot fn : Nat) :
    (s.slotAsked r index slot).fnBad (s.get (F.QUE_CMD_ARG1_PORT r)) fn = s.fnBad (s.get (F.QUE_CMD_ARG1_PORT r)) fn := by
  have hp : s.get (F.QUE_CMD_ARG1_PORT r) < 4 := wbits_lt _ 21 20
  rw [State.fnBad, State.fnBad, State.slotAsked_get _ _ (by dsimp only; omega)]

/-- CREATE_EQ of a FREE event queue whose arguments are in range and whose function has a domain records it ACTIVE (R198, R205, R561). -/
theorem State.createEq_records (h : s.mayCommand) (hr : s.setsIdle r) {slot d : Nat} (hi : index < 16384) (hf : (s.eqs.look index).st = .free)
    (ha : s.get (F.QUE_CMD_ARG0_ADDR r) % 4096 = 0) (h6 : 6 ≤ s.get (F.QUE_CMD_ARG1_LOG2_SIZE r)) (h20 : s.get (F.QUE_CMD_ARG1_LOG2_SIZE r) ≤ 20)
    (hn : s.get (F.QUE_CMD_ARG1_FUNCTION r) ≤ s.get (F.DEV_HOSTPORT_NUMVF (s.get (F.QUE_CMD_ARG1_PORT r)))) (hc : s.get (F.QUE_CMD_ARG1_MOD_COUNT r) ≠ 0)
    (hv : s.get (F.QUE_CMD_ARG1_VECTOR r) < (if s.get (F.QUE_CMD_ARG1_FUNCTION r) = 0 then 2048 else 64))
    (hu : s.get (F.QUE_CMD_ARG1_FUNCTION r) = 0 ∨
      (s.eqs.vals.any fun q => q.st != .free && q.port == s.get (F.QUE_CMD_ARG1_PORT r) && q.fn == s.get (F.QUE_CMD_ARG1_FUNCTION r) && q.vfslot == some slot) = false)
    (hd : s.fnDom (s.get (F.QUE_CMD_ARG1_PORT r)) (s.get (F.QUE_CMD_ARG1_FUNCTION r)) = some d) :
    s.createEq r index slot = ((s.slotAsked r index slot).queResult r 0).withEqs (s.eqs.put index { (default : Evq) with
        st := .active, pasid := s.get (F.QUE_CMD_ARG1_PASID r), port := s.get (F.QUE_CMD_ARG1_PORT r), fn := s.get (F.QUE_CMD_ARG1_FUNCTION r), dom := d
        base := s.get (F.QUE_CMD_ARG0_ADDR r), log2 := s.get (F.QUE_CMD_ARG1_LOG2_SIZE r), vector := s.get (F.QUE_CMD_ARG1_VECTOR r)
        modCount := s.get (F.QUE_CMD_ARG1_MOD_COUNT r), modStages := s.get (F.QUE_CMD_ARG1_MOD_STAGES r)
        vfslot := if s.get (F.QUE_CMD_ARG1_FUNCTION r) = 0 then none else some slot }) := by
  have hb : s.fnBad (s.get (F.QUE_CMD_ARG1_PORT r)) (s.get (F.QUE_CMD_ARG1_FUNCTION r)) = false := by simpa [State.fnBad] using hn
  rw [State.createEq, State.queueCmd_idle h hr, ← State.slotAsked]
  rw [← State.slotAsked_eqs (r := r) (index := index) s slot] at hf hu ⊢
  simp (disch := (dsimp only; omega)) only [State.slotAsked_get, State.slotAsked_fnBad, State.slotAsked_fnDom, hb, hd]
  generalize s.slotAsked r index slot = v at *
  generalize s.get (F.QUE_CMD_ARG0_ADDR r) = adr at *
  generalize s.get (F.QUE_CMD_ARG1_LOG2_SIZE r) = log2 at *
  generalize s.get (F.QUE_CMD_ARG1_PORT r) = port at *
  generalize s.get (F.QUE_CMD_ARG1_FUNCTION r) = fn at *
  generalize s.get (F.QUE_CMD_ARG1_VECTOR r) = vec at *
  generalize s.get (F.QUE_CMD_ARG1_MOD_COUNT r) = cnt at *
  rw [if_neg (by omega), if_neg (by simp [hf]), if_neg ?_, ← State.withEqs_queResult, State.withEqs]
  simpa [ha, h6, h20, hc, hv] using fun h0 => hu.resolve_left h0

/-- DESTROY_EQ of an event queue that nothing names and that holds no event forgets it (R205). -/
theorem State.destroyEq_forgets (h : s.mayCommand) (hr : s.setsIdle r) (hi : index < 16384) (hf : (s.eqs.look index).st ≠ .free) (hh : (s.eqs.look index).held = [])
    (hw : (s.wqs.vals.any fun w => w.st != .free && w.eqEn && w.eq == index) = false) (hp : (s.pas.vals.any fun p => p.st != .free && p.faultEq == index) = false) :
    s.destroyEq r index = (s.queDone r 6 index).withEqs (s.eqs.del index) := by
  rw [State.destroyEq, State.queueCmd_idle h hr, State.queDone_eq, ← State.withEqs_queResult]
  rw [← State.queAsked_eqs (r := r) (index := index) s 6] at hf hh ⊢
  rw [← State.queAsked_wqs (r := r) (index := index) s 6] at hw
  rw [← State.queAsked_pas (r := r) (index := index) s 6] at hp
  generalize s.queAsked r 6 index = v at *
  dsimp only
  rw [if_neg (by omega), if_neg (by simp [hf, hh, hw, hp]), State.withEqs]

end

end Sys2Proof.Machine
end

section
namespace Sys2Proof.Machine

/-! ### What leaves the queues and their command sets alone -/

/-- The registers of the queue command sets, and DEV_MODE. -/
def queueReg (off : Nat) : Prop := off = 0x10000 ∨ (0x100000 ≤ off ∧ off < 0x100140)

/-- `s` has the work queues and the command sets of `a`, and whatever waits in `a` for a condition waits in `s`. -/
structure State.sameQueues (a s : State) : Prop where
  wqs : s.wqs = a.wqs
  ops : s.ops = a.ops
  pdOver : s.pdOver = a.pdOver
  roomQ : s.roomQ = a.roomQ
  hold : s.hold = a.hold
  reg : ∀ off, queueReg off → s.reg off = a.reg off

section
variable {a s t : State}

theorem State.sameQueues_refl (s : State) : s.sameQueues s := ⟨rfl, rfl, rfl, rfl, rfl, fun _ _ => rfl⟩

theorem State.sameQueues_trans (h : a.sameQueues s) (h' : s.sameQueues t) : a.sameQueues t :=
  ⟨h'.wqs.trans h.wqs, h'.ops.trans h.ops, h'.pdOver.trans h.pdOver, h'.roomQ.trans h.roomQ, h'.hold.trans h.hold, fun off ho => (h'.reg off ho).trans (h.reg off ho)⟩

theorem State.sameQueues_get (h : a.sameQueues s) {f : Fld} (hf : queueReg f.off) : s.get f = a.get f := by rw [State.get, h.reg _ hf, State.get]

/-- The same queues have other records beside them. -/
theorem State.sameQueues_same (h : a.sameQueues s) (e : (t.wqs, t.ops, t.pdOver, t.roomQ, t.hold, t.regs) = (s.wqs, s.ops, s.pdOver, s.roomQ, s.hold, s.regs)) :
    a.sameQueues t := by
  simp only [Prod.mk.injEq] at e
  obtain ⟨hw, ho, hp, hr, hh, hg⟩ := e
  exact ⟨hw.trans h.wqs, ho.trans h.ops, hp.trans h.pdOver, hr.trans h.roomQ, hh.trans h.hold, fun off hq => (State.reg_congr hg off).trans (h.reg off hq)⟩

theorem State.sameQueues_counted (h : a.sameQueues s) (hc : s.counted t) : a.sameQueues t := by
  obtain ⟨r, rfl, hr⟩ := hc
  exact ⟨h.wqs, h.ops, h.pdOver, h.roomQ, h.hold, fun off ho => (hr off (by simp only [queueReg] at ho; omega)).trans (h.reg off ho)⟩

theorem State.sameQueues_put (h : a.sameQueues s) {f : Fld} (n : Nat) (hf : ¬ queueReg f.off) : a.sameQueues (s.put f n) :=
  ⟨h.wqs, h.ops, h.pdOver, h.roomQ, h.hold, fun off ho => (State.reg_put_other _ _ _ (by rintro rfl; exact hf ho)).trans (h.reg off ho)⟩

/-- A field of a command set may be set on either side. -/
theorem State.sameQueues_put_put (h : a.sameQueues s) (f : Fld) (n : Nat) (hf : queueReg f.off) : (a.put f n).sameQueues (s.put f n) := by
  refine ⟨h.wqs, h.ops, h.pdOver, h.roomQ, h.hold, fun off ho => ?_⟩
  by_cases e : off = f.off
  · subst e
    rw [State.reg_put_self, State.reg_put_self, h.reg _ hf]
  · rw [State.reg_put_other _ _ _ e, State.reg_put_other _ _ _ e, h.reg off ho]

theorem State.sameQueues_withWqs (h : a.sameQueues s) (x : Tab Wq) : (a.withWqs x).sameQueues (s.withWqs x) :=
  ⟨rfl, h.ops, h.pdOver, h.roomQ, h.hold, h.reg⟩

/-- A fault of class 0 or 1 changes what the collector records, and the reactions under way (R511, R514). -/
theorem State.sameQueues_fltAt (s : State) {src : Nat} (syn : Word) (port : Option Nat) (hs : src < 512) (hc : fltClass src ≠ some 2) :
    s.sameQueues (s.fltAt src syn port) ∧ (s.fltAt src syn port).work = s.work := by
  obtain ⟨⟨r, o, hi, f, i, d, n, e⟩, hr⟩ := s.noted_occur src syn false port hs
  have hq : s.sameQueues (s.occur src syn false port).1 := by
    refine ⟨by rw [e], by rw [e], by rw [e], by rw [e], by rw [e], fun off ho => hr off ?_ ?_⟩
    · simp only [queueReg, following] at ho ⊢; omega
    · simp only [queueReg] at ho; omega
  have hw : (s.occur src syn false port).1.work = s.work := by rw [e]
  unfold State.fltAt
  dsimp only
  rw [if_neg (by simp [hc])]
  split
  · exact ⟨hq, hw⟩
  · exact ⟨State.sameQueues_same hq rfl, hw⟩

end

end Sys2Proof.Machine
end

section
namespace Sys2Proof.Machine

/-! ### An access, whatever becomes of it (R209 to R231, R559) -/

/-- Access `id` of engine `c` is being translated, beside the queues of `a`. -/
structure State.accOpen (a s : State) (id : Nat) (c : Client) : Prop where
  same : a.sameQueues s
  work : s.work = a.work
  client : (s.accs.look id).client = c

/-- Access `id` of engine `c` has been taken as far as it goes: it waits for the host, or its end is left for later. -/
structure State.accLeft (a s : State) (id : Nat) (c : Client) : Prop where
  same : a.sameQueues s
  work : s.work = a.work ∨ ∃ r, s.work = a.work ++ [.acc id r]
  client : (s.accs.look id).client = c

section
variable {a s t : State} {id : Nat} {c : Client}

theorem State.accOpen.left (h : a.accOpen s id c) : a.accLeft s id c := ⟨h.same, .inl h.work, h.client⟩

theorem State.accOpen.ended (h : a.accOpen s id c) (r : AccRes) : a.accLeft (s.accEnd id r) id c :=
  ⟨State.sameQueues_same h.same rfl, .inr ⟨r, by rw [State.accEnd, State.later_work, h.work]⟩, h.client⟩

theorem State.accOpen.counted (h : a.accOpen s id c) (hc : s.counted t) : a.accOpen t id c := by
  refine ⟨State.sameQueues_counted h.same hc, ?_, ?_⟩ <;> obtain ⟨r, rfl, -⟩ := hc
  · exact h.work
  · exact h.client

theorem State.accOpen.out (h : a.accOpen s id c) (o : Out) : a.accOpen (s.out o) id c :=
  State.accOpen.counted (s := s.said o) ⟨State.sameQueues_same h.same rfl, h.work, h.client⟩ (s.counted_out o)

theorem State.accOpen.same' (h : a.accOpen s id c) (e : (t.wqs, t.ops, t.pdOver, t.roomQ, t.hold, t.regs) = (s.wqs, s.ops, s.pdOver, s.roomQ, s.hold, s.regs))
    (ew : t.work = s.work) (ea : t.accs = s.accs) : a.accOpen t id c := ⟨State.sameQueues_same h.same e, ew.trans h.work, by rw [ea]; exact h.client⟩

theorem State.accOpen.field (h : a.accOpen s id c) (f : Fld) (n : Nat) (hf : ¬ queueReg f.off) : a.accOpen (s.put f n) id c :=
  ⟨State.sameQueues_put h.same n hf, h.work, h.client⟩

/-- The access itself changes, for the same engine. -/
theorem State.accOpen.put (h : a.accOpen s id c) (x : Access) (hx : x.client = c) : a.accOpen { s with accs := s.accs.put id x } id c :=
  ⟨State.sameQueues_same h.same rfl, h.work, by rw [Tab.look_put_self]; exact hx⟩

theorem State.accLeft_ite {p : Prop} [Decidable p] {x y : State} (hx : a.accLeft x id c) (hy : a.accLeft y id c) : a.accLeft (if p then x else y) id c := by
  split
  · exact hx
  · exact hy

theorem State.accOpen_ite {p : Prop} [Decidable p] {x y : State} (hx : a.accOpen x id c) (hy : a.accOpen y id c) : a.accOpen (if p then x else y) id c := by
  split
  · exact hx
  · exact hy

theorem State.accOpen.tlbLook (h : a.accOpen s id c) (pasid : Nat) (kind : AccKind) (va : Nat) : a.accOpen (s.tlbLook pasid kind va).1 id c := by
  unfold State.tlbLook
  dsimp only
  split
  · exact h
  · split
    · exact h
    · split
      · exact h
      · split
        · exact h
        · exact h
  · exact h.same' rfl rfl rfl

theorem State.accOpen.fault (h : a.accOpen s id c) (cause level : Nat) : a.accLeft (s.accFault id cause level) id c := by
  have hb : a.accOpen (s.bump F.MMU_FAULT_COUNT_COUNT 1) id c := h.field _ _ (by simp [queueReg])
  exact (State.accOpen_ite h (hb.counted (State.counted_count _ _ _ _ _))).ended _

theorem State.accOpen.walkRead (h : a.accOpen s id c) {wid : Nat} {w : Walk} (e : s.walkRead wid w = some t) : a.accOpen t id c := by
  unfold State.walkRead at e
  dsimp only at e
  split at e
  · obtain rfl := Option.some.inj e
    exact State.accOpen.out (State.accOpen.counted (s := { s with walks := s.walks.put wid w }) (h.same' rfl rfl rfl) (State.counted_count _ _ _ _ _)) _
  · cases e

theorem State.accOpen.issue (h : a.accOpen s id c) : a.accLeft (s.accIssue id) id c := by
  unfold State.accIssue
  dsimp only
  split
  · exact State.accLeft_ite ((h.out _).ended _) (h.ended _)
  · exact h.ended _
  · exact ((h.put _ (by exact h.client)).out _).left

theorem State.accOpen.go (fuel : Nat) (h : a.accOpen s id c) : a.accLeft (State.accGo fuel s id) id c := by
  induction fuel generalizing s with
  | zero => exact h.left
  | succ fuel ih =>
    unfold State.accGo
    extract_lets x p
    refine State.accLeft_ite (h.ended _) (State.accLeft_ite (h.ended _) ?_)
    split
    · exact h.issue
    · exact ih (h.put _ (by exact h.client))
    · next va n rest _ =>
      refine State.accLeft_ite (h.fault _ _) ?_
      have hl := h.tlbLook x.pasid x.kind va
      split
      next u l e =>
      rw [e] at hl
      extract_lets v
      have hv : a.accOpen v id c := State.accOpen_ite hl ((hl.counted (State.counted_count _ _ _ _ _)).counted (State.counted_count _ _ _ _ _))
      split
      · exact hv.fault _ _
      · exact State.accLeft_ite (hv.fault _ _) (ih (hv.put _ (by exact h.client)))
      · split
        · exact (hv.put _ (by exact h.client)).left
        · refine State.accLeft_ite (hv.put _ (by exact h.client)).left ?_
          have hn : a.accOpen v.newId.2 id c := hv.same' rfl rfl rfl
          split
          next wid u e =>
          rw [e] at hn
          extract_lets w
          split
          · exact ((hn.walkRead ‹_›).put _ (by exact h.client)).left
          · exact hn.fault _ _

/-- An access that begins leaves the queues alone, and at most its own end for later. -/
theorem State.access_left (s : State) (c : Client) (pasid dom : Nat) (k : AccKind) (sp : Bool) (ps : List (Nat × Nat)) (data : List Byte) :
    s.accLeft (s.access c pasid dom k sp ps data).2 s.nextId c := by
  rw [State.access_eq]
  exact State.accOpen.go _ ⟨State.sameQueues_same s.sameQueues_refl rfl, rfl, by rw [State.accessing_look]⟩

theorem State.accLeft.withWqs (h : a.accLeft s id c) (x : Tab Wq) : (a.withWqs x).accLeft (s.withWqs x) id c := ⟨State.sameQueues_withWqs h.same x, h.work, h.client⟩

theorem State.accLeft.put (h : a.accLeft s id c) (f : Fld) (n : Nat) (hf : queueReg f.off) : (a.put f n).accLeft (s.put f n) id c :=
  ⟨State.sameQueues_put_put h.same f n hf, h.work, h.client⟩

theorem State.accLeft.queResult (h : a.accLeft s id c) {r : Nat} (hr : r < 5) (res : Nat) : (a.queResult r res).accLeft (s.queResult r res) id c :=
  (h.put _ _ (by simp only [queueReg]; omega)).put _ _ (by simp only [queueReg]; omega)

end

end Sys2Proof.Machine
end

section
namespace Sys2Proof.Machine

/-! ### The end of a command whose last work leaves a reaction under way (R514) -/

/-- Nothing waits for a condition, whatever reactions are under way. -/
def State.atRest (s : State) : Prop := s.pdOver = [] ∧ s.roomQ = [] ∧ s.revoking = [] ∧ s.mode ≠ 3 ∧ s.hold = .none

theorem State.atRest_of_calm {s : State} (h : s.calm) : s.atRest := by
  obtain ⟨-, hp, hr, -, hv, hm, hh⟩ := h
  exact ⟨hp, hr, hv, hm, hh⟩

theorem State.atRest_same {a s : State} (h : a.sameQueues s) (ha : a.atRest) : s.atRest := by
  obtain ⟨hp, hr, hv, hm, hh⟩ := ha
  refine ⟨h.pdOver.trans hp, h.roomQ.trans hr, ?_, ?_, h.hold.trans hh⟩
  · rw [State.revoking, h.ops]; exact hv
  · rw [State.mode, State.sameQueues_get h (.inl rfl)]; exact hm

theorem State.follow_atRest {s : State} (h : s.atRest) : s.follow = s := by
  obtain ⟨hp, hr, hv, hm, hh⟩ := h
  have e : (s.pdAttempt.wakeRoom).revokeCheck = s := by rw [State.pdAttempt_nil s hp, State.wakeRoom_nil s hr, State.revokeCheck_nil s hv]
  simp [State.follow, hh, e, hm]

/-- Settling what drains to a state at rest leaves that state's queues and command sets. -/
theorem State.sameQueues_settle {s t : State} (n : Nat) (hn : n ≤ 2 ^ 24) (h : drain n s = t) (hw : t.work = []) (ht : t.atRest) : t.sameQueues s.settle := by
  have hr : rounds 256 s = t := by
    unfold rounds
    rw [drain_done hn s (by rw [h]; exact hw), h, State.follow_atRest ht]
    simp [hw]
  have h1 : t.sameQueues ({ t with work := [] } : State).reactionsEnd := State.sameQueues_same t.sameQueues_refl rfl
  have h2 : t.sameQueues (({ t with work := [] } : State).reactionsEnd.put F.DEV_BRINGUP_SYNC (b2n ({ t with work := [] } : State).reactionsEnd.synced)) :=
    State.sameQueues_put h1 _ (by simp [queueReg])
  have he : s.settle = (({ t with work := [] } : State).reactionsEnd.put F.DEV_BRINGUP_SYNC (b2n ({ t with work := [] } : State).reactionsEnd.synced)).errPin := by
    unfold State.settle
    rw [hr]
    exact congrArg State.errPin (if_pos (h1.hold.trans ht.2.2.2.2))
  rw [he]
  generalize ({ t with work := [] } : State).reactionsEnd.put F.DEV_BRINGUP_SYNC _ = u at h2
  obtain ⟨r, o, e⟩ := State.edge_errPin u.edge_refl
  refine State.sameQueues_trans h2 ⟨by rw [e], by rw [e], by rw [e], by rw [e], by rw [e], fun off ho => State.errPin_reg u ?_⟩
  rintro rfl
  simp [queueReg] at ho

/-! ### The stop of a queue without live runs (R189 to R192) -/

/-- An entry whose run never started, whose completion the queue owes (R190, R191). -/
def Owed.unread (e : Owed) : Prop := e.ctx = none ∧ e.ready = true ∧ e.posted = false

/-- The completions owed for `n` entries from index `c` on that are passed over. -/
def owedUnread (c n firstSt firstTag : Nat) : List Owed :=
  (List.range n).map fun i => ⟨(c + i) % 2 ^ 32, none, if i = 0 then firstSt else stAborted, 0, if i = 0 then firstTag else 0, true, none, true, false⟩

theorem owedUnread_unread {c n st tag : Nat} {e : Owed} (h : e ∈ owedUnread c n st tag) : e.unread := by
  obtain ⟨i, -, rfl⟩ := List.mem_map.1 h
  exact ⟨rfl, rfl, rfl⟩

/-- A queue that stops without a live run and passes `skip` entries over. -/
def Wq.halting (w : Wq) (after : WqSt) (skip firstSt firstTag : Nat) (byCmd : Option Nat) : Wq :=
  { w with
    st := .stopping, owed := owedUnread w.c skip firstSt firstTag, after := after, byCmd := byCmd, c := (w.c + skip) % 2 ^ 32, sched := false, found := none, turn := 0
    reading := false, busLogged := decide (after = .error ∧ w.err = stBus) }

section
variable {s : State} {q r : Nat}

theorem State.liveOf_vacant (hr : s.runs = []) : s.liveOf q = [] := by
  rw [State.liveOf, hr]
  rfl

theorem State.wqStop_vacant (hr : s.runs = []) (after : WqSt) (skip firstSt firstTag : Nat) (byCmd : Option Nat) :
    s.wqStop q after skip firstSt firstTag byCmd =
      (s.withWqs (s.wqs.put q ((s.wqs.look q).halting after skip firstSt firstTag byCmd))).later (.wqPump q) := by
  unfold State.wqStop
  dsimp only
  rw [State.liveOf_vacant hr, State.liveOf_vacant (by exact hr)]
  rfl

/-- The queue posts the completion of an entry that never ran; without an event queue its event is visible at once (R191, R196). -/
theorem State.wqPump_posts {x : Tab Wq} {w : Wq} {e : Owed} {rest : List Owed} (hs : w.st = .stopping) (ho : w.owed = e :: rest) (hu : e.unread) (he : w.eqEn = false) :
    (s.withWqs (x.put q w)).wqPump q = (s.withWqs (x.put q { w with owed := { e with posted := true } :: rest })).later (.evSeen (.owed q)) := by
  obtain ⟨hc, hr, hp⟩ := hu
  unfold State.wqPump
  simp only [State.withWqs_look_put]
  rw [if_neg (by simp [hs]), ho]
  dsimp only
  rw [if_neg (by simp [hr, hp]), hc, Option.isSome_none, if_neg Bool.false_ne_true, if_pos rfl, State.withWqs_wqs, Tab.put_put _ _ (Wq.not_default (by simp [hs])) (Wq.not_default (by simp [hs]))]
  unfold State.wqEvent
  simp [he, entryEv, mkEv, State.withWqs]

theorem State.owedSeen_next {x : Tab Wq} {w : Wq} {e : Owed} {rest : List Owed} (hs : w.st = .stopping) (ho : w.owed = e :: rest) (hc : e.ctx = none) :
    (s.withWqs (x.put q w)).owedSeen q = (s.withWqs (x.put q { w with owed := rest })).later (.wqPump q) := by
  unfold State.owedSeen
  rw [State.withWqs_look_put]
  dsimp only
  rw [ho]
  dsimp only
  rw [hc, State.withWqs_wqs, Tab.put_put _ _ (Wq.not_default (by simp [hs])) (Wq.not_default (by simp [hs]))]
  rfl

/-- The owed completions of entries that never ran are reported one after the other (R191). -/
theorem drain_owed (hw : s.work = []) {x : Tab Wq} {w : Wq} (hs : w.st = .stopping) (he : w.owed ≠ [] → w.eqEn = false) (hu : ∀ e ∈ w.owed, e.unread)
    (m : Nat) :
    drain (2 * w.owed.length + m) ((s.withWqs (x.put q w)).later (.wqPump q)) = drain m ((s.withWqs (x.put q { w with owed := [] })).later (.wqPump q)) := by
  obtain ⟨l, hl⟩ : ∃ l, w.owed = l := ⟨_, rfl⟩
  induction l generalizing w with
  | nil =>
    have e : ({ w with owed := [] } : Wq) = w := by rw [← hl]
    rw [e, hl, List.length_nil, Nat.mul_zero, Nat.zero_add]
  | cons e rest ih =>
    have he := he (by simp [hl])
    rw [hl] at hu
    have hue := hu e List.mem_cons_self
    have hn := ih (w := { w with owed := rest }) hs (fun _ => he) (fun x hx => hu x (List.mem_cons_of_mem _ hx)) rfl
    rw [hl, List.length_cons, show 2 * (rest.length + 1) + m = 2 * rest.length + m + 1 + 1 by omega, drain_later _ (by exact hw),
      show State.workOne (s.withWqs (x.put q w)) (.wqPump q) = _ from State.wqPump_posts hs hl hue he, drain_later _ (by exact hw)]
    exact (congrArg (drain _) (State.owedSeen_next (e := { e with posted := true }) (by exact hs) rfl hue.1)).trans hn

/-- The queue has reported everything: CONSUMER is written, and the command that stopped the queue succeeds (R191). -/
theorem State.wqStopped_left {x : Tab Wq} {w : Wq} (hr : r < 5) (hb : w.byCmd = some r) (ha : w.after ≠ .error) :
    ∃ y : Tab Wq, y.look q = (if w.after = .free then default else { w with st := w.after, byCmd := none }) ∧
      ((s.withWqs y).queResult r 0).accLeft ((s.withWqs (x.put q w)).wqStopped q) s.nextId (.qcbWr q) := by
  have hl : (s.withWqs (x.put q w)).accLeft ((s.withWqs (x.put q w)).writeConsumer q) s.nextId (.qcbWr q) := State.access_left _ _ _ _ _ _ _ _
  generalize hv : s.withWqs (x.put q w) = v at hl
  have hq : (v.writeConsumer q).wqs.look q = w := by rw [hl.same.wqs, ← hv, State.withWqs_look_put]
  unfold State.wqStopped
  dsimp only
  rw [hq, if_neg ha, hb]
  dsimp only
  generalize v.writeConsumer q = u at *
  refine ⟨if w.after = .free then (u.wqs.put q { w with st := w.after, byCmd := none }).del q else u.wqs.put q { w with st := w.after, byCmd := none }, ?_, ?_⟩
  · split
    · rw [Tab.look_del, if_pos rfl]
    · rw [Tab.look_put_self]
  · have hy : ∀ y, ((s.withWqs y).queResult r 0).accLeft ((u.withWqs y).queResult r 0) s.nextId (.qcbWr q) := fun y => by
      have := (hl.withWqs y).queResult hr 0
      rwa [← hv] at this
    split
    · have e : ((u.withWqs (u.wqs.put q { w with st := w.after, byCmd := none })).queResult r 0).withWqs
          (((u.withWqs (u.wqs.put q { w with st := w.after, byCmd := none })).queResult r 0).wqs.del q) =
          (u.withWqs ((u.wqs.put q { w with st := w.after, byCmd := none }).del q)).queResult r 0 := by
        rw [State.withWqs_queResult, State.withWqs_queResult, State.withWqs_withWqs, State.withWqs_wqs]
      have := hy ((u.wqs.put q { w with st := w.after, byCmd := none }).del q)
      rwa [← e] at this
    · exact hy _

end

end Sys2Proof.Machine
end

section
namespace Sys2Proof.Machine

/-! ### STOP_WQ, RESET_WQ and DESTROY_WQ (R190, R191, R560) -/

section
variable {s : State} {q r index : Nat}

/-- A CONSUMER write that ends for a queue that has stopped may be logged, and leaves the queue as it stands (R191, R192). -/
theorem State.qcbWrDone_stopped (h : (s.wqs.look q).st ≠ .running) (r : AccRes) :
    ∃ y : Tab Wq, ((y.look q).st = (s.wqs.look q).st ∧ (y.look q).c = (s.wqs.look q).c ∧ (y.look q).owed = (s.wqs.look q).owed) ∧
      (s.withWqs y).sameQueues (s.qcbWrDone q r) ∧ (s.qcbWrDone q r).work = s.work := by
  have hsame : ∃ y : Tab Wq, ((y.look q).st = (s.wqs.look q).st ∧ (y.look q).c = (s.wqs.look q).c ∧ (y.look q).owed = (s.wqs.look q).owed) ∧
      (s.withWqs y).sameQueues s ∧ s.work = s.work := ⟨s.wqs, ⟨rfl, rfl, rfl⟩, s.sameQueues_refl, rfl⟩
  unfold State.qcbWrDone
  dsimp only
  split
  · exact hsame
  · rw [if_neg h]
    split
    · refine ⟨s.wqs.put q { s.wqs.look q with busLogged := true }, by simp, ?_⟩
      split
      · exact State.sameQueues_fltAt (s.withWqs _) _ _ (by decide) (by decide)
      · exact ⟨State.sameQueues_refl _, rfl⟩
    · exact hsame

theorem State.accDone_qcbWr {id : Nat} (h : (s.accs.look id).client = .qcbWr q) (r : AccRes) : s.accDone id r = (s.qcbWrDone q r).accDrop id := by
  simp [State.accDone, h]

/-- The CONSUMER write of a queue that has stopped comes to its end, or waits for the host. -/
theorem State.drain_qcbWr {a u : State} {id : Nat} (h : a.accLeft u id (.qcbWr q)) (hw : a.work = []) (hn : (a.wqs.look q).st ≠ .running) :
    ∃ y : Tab Wq, ((y.look q).st = (a.wqs.look q).st ∧ (y.look q).c = (a.wqs.look q).c ∧ (y.look q).owed = (a.wqs.look q).owed) ∧
      (a.withWqs y).sameQueues (drain 1 u) ∧ (drain 1 u).work = [] := by
  obtain ⟨hs, hu, hc⟩ := h
  rw [hw] at hu
  rcases hu with hu | ⟨r, hu⟩
  · rw [drain_nil 1 u hu]
    exact ⟨a.wqs, ⟨rfl, rfl, rfl⟩, hs, hu⟩
  · have hs' : a.sameQueues { u with work := [] } := State.sameQueues_same hs rfl
    obtain ⟨y, hy, hq, hk⟩ := State.qcbWrDone_stopped (s := { u with work := [] }) (q := q) (by rw [hs'.wqs]; exact hn) r
    rw [hs'.wqs] at hy
    have e : drain 1 u = (({ u with work := [] } : State).qcbWrDone q r).accDrop id := by
      rw [drain_step 0 hu]
      exact State.accDone_qcbWr (s := { u with work := [] }) hc r
    rw [e]
    exact ⟨y, hy, State.sameQueues_same (State.sameQueues_trans (State.sameQueues_withWqs hs' y) hq) rfl, hk⟩

theorem State.queResult_work (s : State) (res : Nat) : (s.queResult r res).work = s.work := by rw [State.queResult, State.put_work, State.put_work]

theorem State.queResult_wqs (s : State) (res : Nat) : (s.queResult r res).wqs = s.wqs := by rw [State.queResult, State.put_wqs, State.put_wqs]

theorem State.queResult_busy (s : State) (res : Nat) : (s.queResult r res).get (F.QUE_CMD_BUSY r) = 0 := by
  rw [State.queResult, State.get_put_other _ _ (by simp [Fld.ok]) (by simp [Fld.ok]) (by simp), State.get_put_fits _ (by simp [Fld.ok]) (by simp)]

theorem State.queResult_result (s : State) {res : Nat} (h : res < 256) : (s.queResult r res).get (F.QUE_CMD_RESULT r) = res := by
  rw [State.queResult, State.get_put_fits _ (by simp [Fld.ok]) (by simpa using h)]

theorem State.atRest_put (hs : s.atRest) (f : Fld) (n : Nat) (hf : 0x10000 ≠ f.off) : (s.put f n).atRest := by
  obtain ⟨hp, hr, hv, hm, hh⟩ := hs
  exact ⟨hp, hr, hv, by rw [State.mode, State.get_put_off _ _ hf]; exact hm, hh⟩

theorem State.atRest_queResult (hs : s.atRest) (res : Nat) : (s.queResult r res).atRest :=
  State.atRest_put (State.atRest_put hs _ _ (by dsimp only; omega)) _ _ (by dsimp only; omega)

theorem State.withWqs_get (s : State) (x : Tab Wq) (f : Fld) : (s.withWqs x).get f = s.get f := rfl

theorem State.atRest_withWqs (hs : s.atRest) (x : Tab Wq) : (s.withWqs x).atRest := hs

/-- The queue has reported its last completion, and its CONSUMER write is over: what the command has come to (R191, R205). -/
theorem State.drain_stopped (hw : s.work = []) (hs : s.atRest) (hr : r < 5) {x : Tab Wq} {w : Wq} (hst : w.st = .stopping) (ho : w.owed = []) (hb : w.byCmd = some r)
    (ha : w.after = .stopped ∨ w.after = .free) :
    ∃ t, drain 2 ((s.withWqs (x.put q w)).later (.wqPump q)) = t ∧ t.work = [] ∧ t.atRest ∧ (t.wqs.look q).st = w.after ∧
      (w.after = .stopped → (t.wqs.look q).c = w.c) ∧ (t.wqs.look q).owed = [] ∧ t.get (F.QUE_CMD_BUSY r) = 0 ∧ t.get (F.QUE_CMD_RESULT r) = 0 := by
  obtain ⟨y, hy, hl⟩ := State.wqStopped_left (s := s) (q := q) (x := x) hr hb (by rcases ha with ha | ha <;> simp [ha])
  have hp : State.workOne (s.withWqs (x.put q w)) (.wqPump q) = (s.withWqs (x.put q w)).wqStopped q := by
    show State.wqPump _ q = _
    simp [State.wqPump, hst, ho]
  rw [drain_later 1 (by exact hw), hp]
  generalize (s.withWqs (x.put q w)).wqStopped q = u at hl
  have hyst : (y.look q).st = w.after := by
    rw [hy]
    split
    · next hf => exact hf.symm
    · rfl
  have hyo : (y.look q).owed = [] := by
    rw [hy]
    split
    · rfl
    · exact ho
  have hyc : w.after = .stopped → (y.look q).c = w.c := fun h => by rw [hy, if_neg (by simp [h])]
  have hq : (((s.withWqs y).queResult r 0).wqs.look q) = y.look q := by rw [State.queResult_wqs, State.withWqs_wqs]
  obtain ⟨z, hz, hd, hk⟩ := State.drain_qcbWr hl (by rw [State.queResult_work]; exact hw) (by rw [hq, hyst]; rcases ha with ha | ha <;> simp [ha])
  rw [hq, hyst, hyo] at hz
  obtain ⟨hzs, hzc, hzo⟩ := hz
  have hg : ∀ f : Fld, queueReg f.off → (drain 1 u).get f = ((s.withWqs y).queResult r 0).get f := fun f hf => by
    rw [State.sameQueues_get hd hf, State.withWqs_get]
  have hres : ((s.withWqs y).queResult r 0).atRest := State.atRest_queResult (State.atRest_withWqs hs y) 0
  refine ⟨_, rfl, hk, State.atRest_same hd (State.atRest_withWqs hres z), ?_, fun h => ?_, ?_, ?_, ?_⟩
  · rw [hd.wqs, State.withWqs_wqs, hzs]
  · rw [hd.wqs, State.withWqs_wqs, hzc, hyc h]
  · rw [hd.wqs, State.withWqs_wqs, hzo]
  · rw [hg _ (by simp only [queueReg]; omega), State.queResult_busy]
  · rw [hg _ (by simp only [queueReg]; omega), State.queResult_result _ (by decide)]

/-- A queue that stops for a command comes to its end: what it owes is reported, CONSUMER written, and the command answered (R190, R191, R205). -/
theorem State.settle_halting (hw : s.work = []) (hs : s.atRest) (hr : r < 5) {x : Tab Wq} {w : Wq} (hst : w.st = .stopping) (he : w.owed ≠ [] → w.eqEn = false)
    (hu : ∀ e ∈ w.owed, e.unread) (hb : w.byCmd = some r) (ha : w.after = .stopped ∨ w.after = .free) {u : State} {n : Nat} (hn : n ≤ 2 ^ 24)
    (hd : drain n u = drain (2 * w.owed.length + 2) ((s.withWqs (x.put q w)).later (.wqPump q))) :
    (u.settle.wqs.look q).st = w.after ∧ (w.after = .stopped → (u.settle.wqs.look q).c = w.c) ∧ (u.settle.wqs.look q).owed = [] ∧
      u.settle.get (F.QUE_CMD_BUSY r) = 0 ∧ u.settle.get (F.QUE_CMD_RESULT r) = 0 := by
  obtain ⟨t, ht, hk, hrest, hst', hc, ho, hbusy, hres⟩ := State.drain_stopped (q := q) (x := x) (w := { w with owed := [] }) hw hs hr hst rfl hb ha
  have hq := State.sameQueues_settle n hn ((hd.trans (drain_owed hw hst he hu 2)).trans ht) hk hrest
  rw [hq.wqs, State.sameQueues_get hq (by simp only [queueReg]; omega), State.sameQueues_get hq (by simp only [queueReg]; omega)]
  exact ⟨hst', hc, ho, hbusy, hres⟩

/-- A queue command set whose command goes on beyond its own step (R205). -/
def State.queBusy (s : State) (r op index : Nat) : State := (s.queAsked r op index).put (F.QUE_CMD_BUSY r) 1

theorem State.calm_queBusy (h : s.calm) (op : Nat) : (s.queBusy r op index).calm := State.calm_put (State.calm_queAsked h op) _ (by dsimp only; omega)

theorem State.queBusy_runs (s : State) (op : Nat) : (s.queBusy r op index).runs = s.runs := by rw [State.queBusy, State.put_runs, State.queAsked_runs]

theorem State.queBusy_wqs (s : State) (op : Nat) : (s.queBusy r op index).wqs = s.wqs := by rw [State.queBusy, State.put_wqs, State.queAsked_wqs]

theorem State.queBusy_locks (s : State) (op : Nat) : (s.queBusy r op index).locks = s.locks := by rw [State.queBusy, State.put_locks, State.queAsked_locks]

/-- STOP_WQ of a RUNNING queue without live runs stops it; entries not read stay (R190). -/
theorem State.stopWq_halts (h : s.mayCommand) (hr : s.setsIdle r) (h4 : index ≠ 4) (hs : (s.wqs.look index).st = .running) (hv : s.runs = []) :
    s.stopWq r index = ((s.queBusy r 2 index).withWqs (s.wqs.put index ((s.wqs.look index).halting .stopped 0 0 0 (some r)))).later (.wqPump index) := by
  rw [State.stopWq, State.queueCmd_idle h hr]
  rw [if_neg (by simp [hs, h4]), ← State.queBusy, State.wqStop_vacant (by rw [State.queBusy_runs, hv]), State.queBusy_wqs]

theorem State.withWqs_runs (s : State) (x : Tab Wq) : (s.withWqs x).runs = s.runs := rfl

theorem State.withWqs_later (s : State) (x : Tab Wq) (w : Work) : (s.withWqs x).later w = (s.later w).withWqs x := rfl

/-- A queue that has read another PRODUCER. -/
def Wq.withProd (w : Wq) (p : Nat) : Wq := { w with prod := p }

/-- RESET_WQ and DESTROY_WQ of a queue without live runs stop it and pass over the entries up to PRODUCER (R190, R560). -/
theorem State.resetWq_halts (h : s.mayCommand) (hr : s.setsIdle r) (h4 : index ≠ 4) (hs : (s.wqs.look index).st = .running ∨ (s.wqs.look index).st = .stopped)
    (hv : s.runs = []) {p : Nat} (hp : p < 2 ^ 32) (hf : fwd 32 (s.wqs.look index).c p ≤ 2 ^ (s.wqs.look index).log2) (destroy : Bool) :
    s.resetWq r index (.ok [BitVec.ofNat 64 p]) destroy =
      (((s.queBusy r (if destroy then 4 else 3) index).later (.wqReset index)).withWqs ((s.wqs.put index ((s.wqs.look index).withProd p)).put index
        (((s.wqs.look index).withProd p).halting (if destroy then .free else .stopped) (fwd 32 (s.wqs.look index).c p) stAborted 0 (some r)))).later (.wqPump index) := by
  have hp' : (([BitVec.ofNat 64 p] : List Word).headD 0).toNat % 2 ^ 32 = p := by
    rw [List.headD_cons, BitVec.toNat_ofNat]
    omega
  rw [State.resetWq, State.queueCmd_idle h hr, State.queBusy]
  rw [← State.queAsked_wqs (r := r) (index := index) s (if destroy then 4 else 3)] at hs hf ⊢
  rw [← State.queAsked_runs (r := r) (index := index) s (if destroy then 4 else 3)] at hv
  generalize s.queAsked r (if destroy then 4 else 3) index = v at *
  dsimp only
  rw [if_neg (by rcases hs with hs | hs <;> simp [hs, h4]), hp', Nat.min_eq_left hf]
  show (((v.withWqs (v.wqs.put index ((v.wqs.look index).withProd p))).put (F.QUE_CMD_BUSY r) 1).later (.wqReset index)).wqStop index _ _ _ _ _ = _
  rw [State.withWqs_put, State.withWqs_later, State.wqStop_vacant (by rw [State.withWqs_runs, State.later_runs, State.put_runs, hv]), State.withWqs_look_put, State.withWqs_wqs, State.withWqs_withWqs]

theorem State.lockOwnersDie_none (h : s.locks = []) (p : Owner → Bool) : s.lockOwnersDie p = s := by
  rw [State.lockOwnersDie, h]
  rfl

/-- Without a lock, a reset queue has none to lose (R491). -/
theorem drain_wqReset (hw : s.work = []) (hl : s.locks = []) (x : Tab Wq) (w : Work) (m : Nat) :
    drain (m + 1) (((s.later (.wqReset q)).withWqs x).later w) = drain m ((s.withWqs x).later w) := by
  have e : ({ ((s.later (.wqReset q)).withWqs x).later w with work := [w] } : State) = (s.withWqs x).later w := by
    simp only [State.later, State.withWqs, hw, List.nil_append]
  have hk : (((s.later (.wqReset q)).withWqs x).later w).work = [.wqReset q, w] := by
    simp [State.later, State.withWqs, hw]
  rw [drain_step m hk, e]
  exact congrArg (drain m) (State.lockOwnersDie_none (by exact hl) _)

theorem owedUnread_length (c n st tag : Nat) : (owedUnread c n st tag).length = n := by simp [owedUnread]

/-- STOP_WQ of an idle queue completes with the queue STOPPED at its CONSUMER (R190). -/
theorem State.completes_stopWq (h : s.mayCommand) (hr : s.setsIdle r) (hi : index < 65536) (h4 : index ≠ 4) (hs : (s.wqs.look index).st = .running) (hv : s.runs = []) :
    s.completes (.stopWq r index) fun t =>
      (t.wqs.look index).st = .stopped ∧ (t.wqs.look index).c = (s.wqs.look index).c % 2 ^ 32 ∧ (t.wqs.look index).owed = [] ∧
      t.get (F.QUE_CMD_BUSY r) = 0 ∧ t.get (F.QUE_CMD_RESULT r) = 0 := by
  refine ⟨_, State.ended_command h (by simp [okSet, ok16, hr.1, hi]) _, ?_⟩
  rw [State.stopWq_halts h hr h4 hs hv]
  have hc := State.calm_queBusy (r := r) (index := index) h.1 2
  obtain ⟨hst, hcc, ho, hb, hres⟩ := State.settle_halting (q := index) (x := s.wqs) (w := (s.wqs.look index).halting .stopped 0 0 0 (some r)) hc.1 (State.atRest_of_calm hc) hr.1 rfl
    (fun hn => absurd rfl hn) (fun e he => owedUnread_unread he) rfl (.inl rfl) (by simp [Wq.halting, owedUnread_length]) rfl
  exact ⟨hst, hcc rfl, ho, hb, hres⟩

/-- RESET_WQ and DESTROY_WQ of an idle queue whose PRODUCER is at most one entry ahead complete, and the entry is passed over (R190, R560). -/
theorem State.settle_resetWq (h : s.mayCommand) (hr : s.setsIdle r) (h4 : index ≠ 4) (hs : (s.wqs.look index).st = .running ∨ (s.wqs.look index).st = .stopped)
    (hv : s.runs = []) (hl : s.locks = []) (he : (s.wqs.look index).eqEn = false) {p : Nat} (hp : p < 2 ^ 32) (hf : fwd 32 (s.wqs.look index).c p ≤ 1) (destroy : Bool) :
    let t := (s.resetWq r index (.ok [BitVec.ofNat 64 p]) destroy).settle
    (t.wqs.look index).st = (if destroy then .free else .stopped) ∧
      (destroy = false → (t.wqs.look index).c = ((s.wqs.look index).c + fwd 32 (s.wqs.look index).c p) % 2 ^ 32) ∧ (t.wqs.look index).owed = [] ∧
      t.get (F.QUE_CMD_BUSY r) = 0 ∧ t.get (F.QUE_CMD_RESULT r) = 0 := by
  intro t
  have hc := State.calm_queBusy (r := r) (index := index) h.1 (if destroy then 4 else 3)
  have e : t = _ := congrArg State.settle (State.resetWq_halts h hr h4 hs hv hp (hf.trans Nat.one_le_two_pow) destroy)
  obtain ⟨hst, hcc, ho, hb, hres⟩ := State.settle_halting (q := index) (x := s.wqs.put index ((s.wqs.look index).withProd p))
    (w := ((s.wqs.look index).withProd p).halting (if destroy then .free else .stopped) (fwd 32 (s.wqs.look index).c p) stAborted 0 (some r)) hc.1 (State.atRest_of_calm hc) hr.1 rfl
    (fun _ => he) (fun e he => owedUnread_unread he) rfl (by cases destroy <;> simp [Wq.halting]) (by simp only [Wq.halting, owedUnread_length]; omega)
    (drain_wqReset hc.1 (by rw [State.queBusy_locks, hl]) _ _ _)
  rw [e]
  exact ⟨hst, fun hd => hcc (by simp [Wq.halting, hd]), ho, hb, hres⟩

end

/-- Settles O27: each command by what it leaves of its set and its queue; a stop by what the queue still owes and its CONSUMER write. -/
theorem queueCommands : Obligations.QueueCommands := by
  unfold Obligations.QueueCommands
  intro s r index h hr hi
  have hok : (okSet r && ok16 index) = true := by simp [okSet, ok16, hr.1, hi]
  have hx := fun (c : Instr) (k : State → State) {ok : Bool} (hk : ok = true) (he : exec c s = ended ok (s.command k)) => he.trans (State.ended_command h hk k)
  refine ⟨?_, ?_, fun h4 hs hv => State.completes_stopWq h hr hi h4 hs hv, ?_, ?_, ?_, ?_⟩
  · intro ws d w h4 hf ha hn hp hd h3 hk hw he
    refine State.gives_settle ?_ (State.calm_withWqs (State.calm_queDone h.1 0) _)
    rw [hx (.createWq r index (.ok ws)) (fun s => s.createWq r index (.ok ws)) hok rfl, State.createWq_records h hr h4 hf ha hn hp hd h3 hk hw he, State.withWqs]
  · intro ws h4 hs hk he ho hf
    refine State.gives_settle ?_ (State.calm_withWqs (State.calm_queDone h.1 1) _)
    rw [hx (.startWq r index (.ok ws)) (fun s => s.startWq r index (.ok ws)) hok rfl, State.startWq_runs h hr h4 hs hk he ho hf]
    simp only [Wq.started, Wq.config, ho, he, State.withWqs]
  · intro p h4 hs hv hl he hp hf
    obtain ⟨hst, hc, ho, hb, hres⟩ := State.settle_resetWq h hr h4 (.inl hs) hv hl he hp hf false
    exact ⟨_, hx (.resetWq r index _) (fun s => s.resetWq r index _ false) hok rfl, hst, hc rfl, ho, hb, hres⟩
  · intro p h4 hs hv hl he hp hf
    obtain ⟨hst, -, -, hb, hres⟩ := State.settle_resetWq h hr h4 (.inr hs) hv hl he hp hf true
    exact ⟨_, hx (.destroyWq r index _) (fun s => s.resetWq r index _ true) hok rfl, hst, hb, hres⟩
  · intro slot d hi hs hf ha h6 h20 hn hc hv hu hd
    have hr' := State.sameRegs_vfslot (r := r) (s.queAsked r 5 index) slot
    rw [← State.queDone_eq, ← State.slotAsked] at hr'
    refine State.gives_sameRegs (State.sameRegs_withEqs hr' _) ?_
      (State.calm_withEqs (State.calm_put (State.calm_queDone (r := r) (index := index) h.1 5) _ (by dsimp only; omega)) _)
    rw [hx (.createEq r index slot) (fun s => s.createEq r index slot) (by simp [okSet, okEq, okVfSlot, hr.1, hi, hs]) rfl,
      State.createEq_records h hr hi hf ha h6 h20 hn hc hv hu hd]
  · intro hi hf hh hw hp
    refine State.gives_settle ?_ (State.calm_withEqs (State.calm_queDone h.1 6) _)
    rw [hx (.destroyEq r index) (fun s => s.destroyEq r index) (by simp [okSet, okEq, hr.1, hi]) rfl, State.destroyEq_forgets h hr hi hf hh hw hp, State.withEqs]

end Sys2Proof.Machine
end

section
namespace Sys2Proof

/-- A record that differs from an unlisted one is listed. -/
theorem Tab.mem_keys_of_look {α : Type} [DecidableEq α] [Inhabited α] {t : Tab α} {k : Nat} (h : t.look k ≠ default) : k ∈ t.keys := by
  by_contra hk
  refine h (Tab.look_absent fun e he hek => hk ?_)
  exact List.mem_map.2 ⟨e, he, hek⟩

end Sys2Proof

namespace Sys2Proof.Machine

/-! ### Reads of a queue's ring and control block (R171, R172) -/

section
variable {s : State} {q : Nat}

/-- An access translates alike where the address spaces and the TLB are the same (R218). -/
theorem State.maps_congr {t : State} {pasid dom va n pa : Nat} {k : AccKind} (h : s.maps pasid dom k va n pa) (hp : t.pas = s.pas) (ht : t.tlb = s.tlb) :
    t.maps pasid dom k va n pa := by
  obtain ⟨ha, hd, hc, hb, hn, hk⟩ := h
  exact ⟨by rw [hp]; exact ha, by rw [hp]; exact hd, by rw [hp]; exact hc, hb, hn, congrArg Prod.snd (State.tlbLook_hit ht hk)⟩

theorem State.maps_withWqs {pasid dom va n pa : Nat} {k : AccKind} (h : s.maps pasid dom k va n pa) (x : Tab Wq) : (s.withWqs x).maps pasid dom k va n pa :=
  State.maps_congr h rfl rfl

/-- A queue has asked the host for a part of its ring or control block. -/
def State.qReading (s : State) (q : Nat) (c : Client) (va len pa : Nat) : State :=
  ((s.withWqs (s.wqs.upd q fun w => { w with reading := true })).accessing
    ⟨c, (s.wqs.look q).pasid, (s.pas.look (s.wqs.look q).pasid).dom.getD 0, .read, false, [], [(va, len)], [(pa, len)], [], .issued⟩).said
    (.hostRead s.nextId (s.pas.look (s.wqs.look q).pasid).port (s.pas.look (s.wqs.look q).pasid).fn [(pa, len)])

theorem State.counted_qRead {c : Client} {va len pa : Nat}
    (h : s.maps (s.wqs.look q).pasid ((s.pas.look (s.wqs.look q).pasid).dom.getD 0) .read va len pa) : (s.qReading q c va len pa).counted (s.qRead q c va len) := by
  obtain ⟨t, ht, e⟩ := State.access_read (State.maps_withWqs h (s.wqs.upd q fun w => { w with reading := true })) c
  have he : s.qRead q c va len = t := congrArg Prod.snd e
  rw [he]
  exact ht

theorem State.calm_qReading (h : s.calm) (c : Client) (va len pa : Nat) : (s.qReading q c va len pa).calm :=
  State.calm_said (State.calm_accessing (State.calm_withWqs h _) _) _

theorem State.qReading_wqs (c : Client) (va len pa : Nat) : (s.qReading q c va len pa).wqs = s.wqs.upd q fun w => { w with reading := true } := rfl

/-! ### Turns (R172, R187) -/

/-- A queue whose turn has begun (R187). -/
def Wq.begun (w : Wq) : Wq := { w with used := w.used + 1, turn := w.burst, took := false, rang := false }

theorem State.running_of_eligible (h : s.eligible q = true) : (s.wqs.look q).st = .running := by
  simp only [State.eligible, Bool.and_eq_true, beq_iff_eq] at h
  exact h.1.1.1.1.1.1

/-- A turn of a queue that is first in its class and has seen no entry reads PRODUCER (R172, R187). -/
theorem State.wqTurn_reads (ho : (s.wqs.look q).own = false) (hc : (s.wqs.look q).c = (s.wqs.look q).prod) (he : s.eligible q = true)
    (hb : (s.wqs.look q).boost = true ∨ (s.wqs.keys.any fun j => (s.wqs.look j).boost && s.eligible j) = false)
    (hu : (s.wqs.look q).used < max (s.wqs.look q).weight 1) :
    s.wqTurn q = (s.withWqs (s.wqs.upd q Wq.begun)).qRead q (.prod q) (s.wqs.look q).qcb 4 := by
  have hst := State.running_of_eligible he
  have hd : s.wqs.look q ≠ default := Wq.not_default (by simp [hst])
  unfold State.wqTurn
  extract_lets cls higher spent s1 w s2
  have hh : ¬ (!s.eligible q || higher) = true := by
    rcases hb with hb | hb <;> simp [he, higher, hb]
  have hsp : ¬ spent = true := by
    rw [Bool.not_eq_true]
    refine List.all_eq_false.2 ⟨q, List.mem_filter.2 ⟨Tab.mem_keys_of_look hd, by simp [he]⟩, by simpa only [decide_eq_true_eq, ge_iff_le, not_le] using hu⟩
  have h1 : s1 = s := if_neg hsp
  clear_value s1
  subst h1
  rw [if_neg hh, if_neg (Nat.not_le.2 hu), if_pos (by simp [w, ho, hc])]
  show (s1.withWqs ((s1.wqs.put q { s1.wqs.look q with used := (s1.wqs.look q).used + 1, turn := (s1.wqs.look q).burst, took := false }).upd q
    fun w => { w with rang := false })).qRead q (.prod q) (s1.wqs.look q).qcb 4 = _
  rw [Tab.upd_put _ _ (Wq.not_default (by simp [hst])) (Wq.not_default (by simp [hst])), Tab.upd]
  rfl

/-- A turn without further entries that took none ends (R173). -/
theorem State.turnNext_idle (ho : (s.wqs.look q).own = false) (hc : (s.wqs.look q).c = (s.wqs.look q).prod) (hk : (s.wqs.look q).took = false) :
    s.turnNext q = s.withWqs (s.wqs.upd q fun w => { w with turn := 0, took := false }) := by
  have he : s.turnEnd q = s.withWqs (s.wqs.upd q fun w => { w with turn := 0, took := false }) := if_neg (by simp [hk])
  unfold State.turnNext
  dsimp only
  rw [if_neg (show ¬ (s.wqs.look q).own = true by simp [ho]), if_pos hc, ite_self, he]

/-- A turn goes on with the entry at C, which PRODUCER is ahead of (R171, R187, R188). -/
theorem State.turnNext_reads (hs : (s.wqs.look q).st = .running) (ho : (s.wqs.look q).own = false) (hc : (s.wqs.look q).c ≠ (s.wqs.look q).prod)
    (ht : (s.wqs.look q).turn ≠ 0) (hl : s.liveCount q < (s.wqs.look q).conc) (hf : s.freeContext.isSome = true) :
    s.turnNext q = s.qRead q (.entry q) ((s.wqs.look q).slotVa (s.wqs.look q).c) 64 := by
  unfold State.turnNext
  dsimp only
  rw [if_neg (by simpa [hs, ht, Nat.not_le.2 hl] using Option.isSome_iff_ne_none.1 hf), if_neg (show ¬ (s.wqs.look q).own = true by simp [ho]), if_neg hc]

/-- PRODUCER's value has been taken in a turn, which goes on (R172, R187). -/
def Wq.seen (w : Wq) (p : Nat) : Wq := { w with reading := false, prod := p, sched := decide (fwd 32 w.c p ≠ 0) || w.rang }

theorem State.prodDone_within (hs : (s.wqs.look q).st = .running) {p : Nat} (hp : p < 2 ^ 32) (hd : fwd 32 (s.wqs.look q).c p ≤ 2 ^ (s.wqs.look q).log2) :
    s.prodDone q (.ok [BitVec.ofNat 64 p]) = (s.withWqs (s.wqs.upd q fun w => w.seen p)).turnNext q := by
  have hp' : (([BitVec.ofNat 64 p] : List Word).headD 0).toNat % 2 ^ 32 = p := by
    rw [List.headD_cons, BitVec.toNat_ofNat]
    omega
  have hv : (s.withWqs (s.wqs.upd q fun w => { w with reading := false })).prodSeen q p = s.withWqs (s.wqs.upd q fun w => w.seen p) := by
    rw [State.prodSeen_within (by rw [State.withWqs_wqs, Tab.look_upd_self]; exact hd), State.withWqs_withWqs, State.withWqs_wqs,
      Tab.upd_upd _ (Wq.not_default (by simp [hs])) (Wq.not_default (by simp [hs]))]
    rfl
  unfold State.prodDone
  dsimp only
  rw [Tab.look_upd_self, if_neg (by simp [hs]), hp']
  show (if (((s.withWqs (s.wqs.upd q fun w => { w with reading := false })).prodSeen q p).wqs.look q).st = .running then
    ((s.withWqs (s.wqs.upd q fun w => { w with reading := false })).prodSeen q p).turnNext q else _) = _
  rw [hv, if_pos (by rw [State.withWqs_wqs, Tab.look_upd_self]; exact hs)]

/-- A read in flight that returns as much as was asked for is left for its engine (R172, R178). -/
theorem State.readBack_issued {id : Nat} {mine : Client → Bool} {ws : List Word} (h : (s.accs.look id).st = .issued) (hm : mine (s.accs.look id).client = true)
    (hl : ws.length = (chunkLen (s.accs.look id).orig + 7) / 8) : s.readBack id mine (.ok ws) = s.later (.acc id (.ok ws)) := by
  unfold State.readBack State.accReturn
  dsimp only
  rw [if_pos hl, if_pos (by simp [h, hm])]
  rfl

/-- PRODUCER has returned, and is at most a ring ahead (R172). -/
theorem exec_producerReadReturn (hc : s.calm) {id va p : Nat} (hi : (s.accs.look id).st = .issued) (hcl : (s.accs.look id).client = .prod q)
    (ho : (s.accs.look id).orig = [(va, 4)]) : exec (.producerReadReturn id (.ok [BitVec.ofNat 64 p])) s = .next (s.later (.acc id (.ok [BitVec.ofNat 64 p]))).settle := by
  show ended true (s.fabric _) = _
  rw [ended_fabric hc rfl, State.readBack_issued hi (by rw [hcl]) (by rw [ho]; simp [chunkLen])]

theorem State.accDone_prod {id : Nat} (h : (s.accs.look id).client = .prod q) (r : AccRes) : s.accDone id r = (s.prodDone q r).accDrop id := by
  simp [State.accDone, h]

theorem fwd_self (c : Nat) : fwd 32 c c = 0 := by
  unfold fwd
  omega

/-- A PRODUCER that is not ahead ends the turn (R172). -/
theorem State.gives_producer_idle (hc : s.calm) {id va p : Nat} (hi : (s.accs.look id).st = .issued) (hcl : (s.accs.look id).client = .prod q)
    (ho : (s.accs.look id).orig = [(va, 4)]) (hs : (s.wqs.look q).st = .running) (hw : (s.wqs.look q).own = false) (hp : p < 2 ^ 32) (hpc : p = (s.wqs.look q).c)
    (hk : (s.wqs.look q).took = false) :
    s.gives (.producerReadReturn id (.ok [BitVec.ofNat 64 p])) { s with
      wqs := s.wqs.upd q fun w => { w with reading := false, prod := p, sched := w.rang, turn := 0, took := false }, accs := s.accs.del id } := by
  have hd : fwd 32 (s.wqs.look q).c p = 0 := by rw [← hpc, fwd_self]
  have hn : s.wqs.look q ≠ default := Wq.not_default (by simp [hs])
  have hu : ((s.withWqs (s.wqs.upd q fun w => w.seen p)).turnNext q).accDrop id = { s with
      wqs := s.wqs.upd q fun w => { w with reading := false, prod := p, sched := w.rang, turn := 0, took := false }, accs := s.accs.del id } := by
    have hl : (s.withWqs (s.wqs.upd q fun w => w.seen p)).wqs.look q = (s.wqs.look q).seen p := by rw [State.withWqs_wqs, Tab.look_upd_self]
    rw [State.turnNext_idle (by rw [hl]; exact hw) (by rw [hl]; exact hpc.symm) (by rw [hl]; exact hk), State.withWqs_withWqs, State.withWqs_wqs,
      Tab.upd_upd _ (Wq.not_default (by simp [Wq.seen, hs])) (Wq.not_default (by simp [Wq.seen, hs])),
      Tab.upd_congr _ (g := fun w => { w with reading := false, prod := p, sched := w.rang, turn := 0, took := false }) (by simp [Wq.seen, hd])]
    rfl
  have hq := State.calm_congr (t := { s with
      wqs := s.wqs.upd q fun w => { w with reading := false, prod := p, sched := w.rang, turn := 0, took := false }, accs := s.accs.del id }) hc rfl rfl rfl rfl rfl rfl rfl
  refine State.gives_settle ?_ hq
  rw [exec_producerReadReturn hc hi hcl ho]
  refine congrArg _ (State.settle_later hc.1 ?_ hq)
  show s.accDone id _ = _
  rw [State.accDone_prod hcl, State.prodDone_within hs hp (by rw [hd]; exact Nat.zero_le _), hu]

/-- A PRODUCER that is ahead has the entry at C read (R171, R187). -/
theorem State.gives_producer_ahead (hc : s.calm) {id va p pa : Nat} (hi : (s.accs.look id).st = .issued) (hcl : (s.accs.look id).client = .prod q)
    (ho : (s.accs.look id).orig = [(va, 4)]) (hs : (s.wqs.look q).st = .running) (hw : (s.wqs.look q).own = false) (hp : p < 2 ^ 32)
    (h0 : fwd 32 (s.wqs.look q).c p ≠ 0) (hd : fwd 32 (s.wqs.look q).c p ≤ 2 ^ (s.wqs.look q).log2) (ht : (s.wqs.look q).turn ≠ 0)
    (hl : s.liveCount q < (s.wqs.look q).conc) (hf : s.freeContext.isSome = true)
    (hm : s.maps (s.wqs.look q).pasid ((s.pas.look (s.wqs.look q).pasid).dom.getD 0) .read ((s.wqs.look q).slotVa (s.wqs.look q).c) 64 pa) :
    s.gives (.producerReadReturn id (.ok [BitVec.ofNat 64 p]))
      (((s.withWqs (s.wqs.upd q fun w => w.seen p)).qReading q (.entry q) ((s.wqs.look q).slotVa (s.wqs.look q).c) 64 pa).accDrop id) := by
  have hlk : (s.withWqs (s.wqs.upd q fun w => w.seen p)).wqs.look q = (s.wqs.look q).seen p := by rw [State.withWqs_wqs, Tab.look_upd_self]
  have hlive : (s.withWqs (s.wqs.upd q fun w => w.seen p)).liveCount q = s.liveCount q := by
    simp only [State.liveCount, State.liveOf, hlk]
    rfl
  have hne : (s.wqs.look q).c ≠ p := by
    rintro rfl
    exact h0 (fwd_self _)
  have hn : (s.withWqs (s.wqs.upd q fun w => w.seen p)).turnNext q =
      (s.withWqs (s.wqs.upd q fun w => w.seen p)).qRead q (.entry q) ((s.wqs.look q).slotVa (s.wqs.look q).c) 64 := by
    rw [State.turnNext_reads (by rw [hlk]; exact hs) (by rw [hlk]; exact hw) (by rw [hlk]; exact hne) (by rw [hlk]; exact ht) (by rw [hlive, hlk]; exact hl) (by exact hf), hlk]
    rfl
  have hr := State.counted_accDrop (State.counted_qRead (s := s.withWqs (s.wqs.upd q fun w => w.seen p)) (q := q) (c := .entry q)
    (va := (s.wqs.look q).slotVa (s.wqs.look q).c) (len := 64) (pa := pa) (by rw [hlk]; exact State.maps_withWqs hm _)) id
  have hq := State.calm_accDrop (State.calm_qReading (q := q) (State.calm_withWqs hc (s.wqs.upd q fun w => w.seen p)) (.entry q) ((s.wqs.look q).slotVa (s.wqs.look q).c) 64 pa) id
  refine State.gives_counted hr hq ?_
  rw [exec_producerReadReturn hc hi hcl ho]
  refine congrArg _ (State.settle_later hc.1 ?_ (State.calm_counted hr hq))
  show s.accDone id _ = _
  rw [State.accDone_prod hcl, State.prodDone_within hs hp hd, hn]

/-- A queue whose poll interval has begun anew (R178). -/
def Wq.polled (w : Wq) : Wq := { w with pollLeft := w.poll }

/-- OWNERSHIP_POLL of a queue whose interval is over reads the header at C (R178). -/
theorem State.ownPoll_reads (hs : (s.wqs.look q).st = .running) (ho : (s.wqs.look q).own = true) (hr : (s.wqs.look q).reading = false)
    (hf : (s.wqs.look q).found = none) (ht : (s.wqs.look q).turn = 0) (hp : (s.wqs.look q).pollLeft = 0) (hm : s.mayStart q = true) :
    s.ownPoll q = (s.withWqs (s.wqs.upd q Wq.polled)).qRead q (.hdr q) ((s.wqs.look q).slotVa (s.wqs.look q).c) 8 := by
  unfold State.ownPoll
  dsimp only
  rw [if_pos (by simp [hs, ho, hr, hf, ht, hp, hm])]
  rfl

end

end Sys2Proof.Machine
end

section
namespace Sys2Proof.Machine

/-! ### An entry that starts its run (R173, R180, R188) -/

section
variable {s : State} {q ctx : Nat}

/-- A queue whose read has returned. -/
def Wq.idle (w : Wq) : Wq := { w with reading := false }

/-- A queue whose entry at C has been taken (R173). -/
def Wq.taken (w : Wq) : Wq := { w with reading := false, c := (w.c + 1) % 2 ^ 32, turn := w.turn - 1, took := true, found := none }

theorem State.entryRun_withWqs {x : Tab Wq} (hp : (x.look q).port = (s.wqs.look q).port) (hf : (x.look q).fn = (s.wqs.look q).fn)
    (ha : (x.look q).pasid = (s.wqs.look q).pasid) (i : Nat) (ws : List Word) : (s.withWqs x).entryRun q i ws = s.entryRun q i ws := by
  have hl : (s.withWqs x).stepLimit q = s.stepLimit q := by rw [State.stepLimit, State.withWqs_get, State.stepLimit]
  simp only [State.entryRun, State.withWqs_wqs, hp, hf, ha, hl]
  rfl

theorem State.entryRun_dom (i : Nat) (ws : List Word) : (s.entryRun q i ws).dom = (s.pas.look (s.wqs.look q).pasid).dom.getD 0 := rfl

/-- An entry without parameter words gives its run none (R180). -/
theorem State.entryRun_noParams (i : Nat) {ws : List Word} (h : wbits (ws.getD 0 0) 54 42 = 0) : (s.entryRun q i ws).params = .none := if_pos h

/-- An inline entry carries its program (R180). -/
theorem State.entryRun_inline (i : Nat) {ws : List Word} (h : wbits (ws.getD 0 0) 62 61 = 0) :
    (s.entryRun q i ws).prog = .inline ((ws.drop 1).take (wbits (ws.getD 0 0) 60 58)) := if_pos (by rw [h]; rfl)

/-- A run that starts, and what is counted with it, change the run's context, gatherer values and the order of READY runs alone (R77). -/
theorem State.startRun_counted (s : State) (ctx : Nat) (x : Run) (ev i n : Nat) (d : Option Nat) :
    ∃ runs k st cl res seq img, ({ s with runs := runs, readyCtr := k } : State).counted ((s.startRun ctx x).count ev i n d) ∧ (st = RunSt.running ∨ st = RunSt.ready) ∧
      runs.look ctx = { x with st := st, cluster := cl, resid := res, readySeq := seq, image := img } := by
  obtain ⟨r, runs, k, st, cl, res, seq, img, e, hr, hst, hx⟩ := s.startRun_form ctx x
  refine ⟨runs, k, st, cl, res, seq, img, State.counted_trans ⟨r, e, hr⟩ (State.counted_count _ _ _ _ _), hst, hx⟩

/-- A queue's entry has been taken and its run is in a context, counted (R173, R188). -/
def State.entryTaken (s : State) (q ctx d : Nat) (ws : List Word) : State :=
  ((s.withWqs (s.wqs.upd q Wq.taken)).startRun ctx (s.entryRun q (s.wqs.look q).c ws)).count 0x0100 q 1 (some d)

/-- A well-formed entry of an ACTIVE address space starts its run in the free context, and the turn goes on (R173, R180, R188). -/
theorem State.entryDone_starts (hs : (s.wqs.look q).st = .running) (ho : (s.wqs.look q).own = false) (hf : s.freeContext = some ctx) {d : Nat} {ws : List Word}
    (hp : (s.pas.look (s.wqs.look q).pasid).st = .active) (hd : (s.pas.look (s.wqs.look q).pasid).dom = some d) (hk : s.entryOk d ws = true) :
    s.entryDone q (.ok ws) = (s.entryTaken q ctx d ws).turnNext q := by
  have hrun : (s.withWqs (s.wqs.upd q Wq.idle)).entryRun q (s.wqs.look q).c ws = s.entryRun q (s.wqs.look q).c ws :=
    State.entryRun_withWqs (by rw [Tab.look_upd_self]; rfl) (by rw [Tab.look_upd_self]; rfl) (by rw [Tab.look_upd_self]; rfl) _ ws
  have hdom : (s.entryRun q (s.wqs.look q).c ws).dom = d := by rw [State.entryRun_dom, hd]; rfl
  have hw : (s.wqs.upd q Wq.idle).put q (s.wqs.look q).taken = s.wqs.upd q Wq.taken :=
    Tab.put_put _ _ (Wq.not_default (by simp [Wq.idle, hs])) (Wq.not_default (by simp [Wq.taken, hs]))
  have hpas : (s.entryTaken q ctx d ws).pas = s.pas := by
    obtain ⟨runs, k, -, -, -, -, -, ⟨r, e, -⟩, -, -⟩ := (s.withWqs (s.wqs.upd q Wq.taken)).startRun_counted ctx (s.entryRun q (s.wqs.look q).c ws) 0x0100 q 1 (some d)
    rw [State.entryTaken, e]
    rfl
  unfold State.entryDone
  extract_lets v w
  have hlk : w = (s.wqs.look q).idle := Tab.look_upd_self s.wqs q Wq.idle
  have hv : v = s.withWqs (s.wqs.upd q Wq.idle) := rfl
  clear_value w v
  subst hlk
  have hX : ((v.withWqs (v.wqs.put q (s.wqs.look q).taken)).startRun ctx (v.entryRun q (s.wqs.look q).c ws)).count 0x0100 q 1
      (some (v.entryRun q (s.wqs.look q).c ws).dom) = s.entryTaken q ctx d ws := by
    rw [hv, hrun, hdom, State.withWqs_withWqs, State.withWqs_wqs, hw, State.entryTaken]
  rw [if_neg (by simp [Wq.idle, hs])]
  dsimp only
  rw [if_neg (by simp [Wq.idle, ho]), show v.freeContext = some ctx by rw [hv]; exact hf]
  show (let x := ((v.withWqs (v.wqs.put q (s.wqs.look q).taken)).startRun ctx (v.entryRun q (s.wqs.look q).c ws)).count 0x0100 q 1
                   (some (v.entryRun q (s.wqs.look q).c ws).dom)
        State.turnNext (if (x.pas.look (s.wqs.look q).pasid).st != .active || (x.pas.look (s.wqs.look q).pasid).dom.isNone then x.endRun ctx stAborted true
          else if v.entryOk (v.entryRun q (s.wqs.look q).c ws).dom ws then x else x.endRun ctx stIllegal false) q) = _
  rw [hX]
  dsimp only
  rw [if_neg (by simp [hpas, hp, hd]), if_pos (by rw [hv, hrun, hdom]; exact hk)]

/-- A turn that may take no more entries ends (R187). -/
theorem State.turnNext_spent (ht : (s.wqs.look q).turn = 0) : s.turnNext q = s.turnEnd q := by
  unfold State.turnNext
  dsimp only
  rw [if_pos (by simp [ht])]

/-- A queue whose turn is over (R173). -/
def Wq.rested (w : Wq) : Wq := { w with turn := 0, took := false }

/-- A turn that took entries ends by writing CONSUMER (R173, R191). -/
theorem State.turnEnd_took (hk : (s.wqs.look q).took = true) : s.turnEnd q = (s.withWqs (s.wqs.upd q Wq.rested)).writeConsumer q := if_pos hk

/-- A turn has ended with its last entry: the run is in a context, the queue rests and its CONSUMER is written (R173, R188, R191). -/
def State.entryServed (s : State) (q d pa : Nat) (runs : Tab Run) (k : Nat) : State :=
  ({ s with wqs := s.wqs.upd q fun w => w.taken.rested, runs := runs, readyCtr := k }.accessing
    ⟨.qcbWr q, (s.wqs.look q).pasid, d, .write, false, [], [((s.wqs.look q).qcb + 8, 4)], [(pa, 4)], leBytes (((s.wqs.look q).c + 1) % 2 ^ 32) 4, .idle⟩).said
    (.hostWrite (s.pas.look (s.wqs.look q).pasid).port (s.pas.look (s.wqs.look q).pasid).fn [(pa, 4)] (leBytes (((s.wqs.look q).c + 1) % 2 ^ 32) 4))

theorem State.calm_entryServed (h : s.calm) (d pa : Nat) (runs : Tab Run) (k : Nat) : (s.entryServed q d pa runs k).calm :=
  State.calm_congr h rfl rfl rfl rfl rfl rfl rfl

theorem State.entryServed_client (d pa : Nat) (runs : Tab Run) (k : Nat) : ((s.entryServed q d pa runs k).accs.look s.nextId).client = .qcbWr q := by
  simp only [State.entryServed, State.said, State.accessing, Tab.look_put_self]

theorem State.entryServed_wqs (d pa : Nat) (runs : Tab Run) (k : Nat) : (s.entryServed q d pa runs k).wqs = s.wqs.upd q fun w => w.taken.rested := rfl

/-- The last entry of a turn starts its run, and CONSUMER is written (R173, R188, R191). -/
theorem State.entryDone_last (hs : (s.wqs.look q).st = .running) (ho : (s.wqs.look q).own = false) (ht : (s.wqs.look q).turn = 1) (hf : s.freeContext = some ctx)
    {d pa : Nat} {ws : List Word} (hp : (s.pas.look (s.wqs.look q).pasid).st = .active) (hd : (s.pas.look (s.wqs.look q).pasid).dom = some d)
    (hk : s.entryOk d ws = true) (hm : s.maps (s.wqs.look q).pasid d .write ((s.wqs.look q).qcb + 8) 4 pa)
    (hu : s.portUp (s.pas.look (s.wqs.look q).pasid).port = true) (hb : (s.fnOf (s.pas.look (s.wqs.look q).pasid).port (s.pas.look (s.wqs.look q).pasid).fn).bme = true) :
    ∃ runs k st cl res seq img t, (st = RunSt.running ∨ st = RunSt.ready) ∧
      runs.look ctx = { s.entryRun q (s.wqs.look q).c ws with st := st, cluster := cl, resid := res, readySeq := seq, image := img } ∧
      (s.entryServed q d pa runs k).counted t ∧ s.entryDone q (.ok ws) = t.later (.acc s.nextId (.ok [])) := by
  obtain ⟨runs, k, st, cl, res, seq, img, hc, hst, hr⟩ :=
    (s.withWqs (s.wqs.upd q Wq.taken)).startRun_counted ctx (s.entryRun q (s.wqs.look q).c ws) 0x0100 q 1 (some d)
  rw [State.entryDone_starts hs ho hf hp hd hk]
  change State.counted _ (s.entryTaken q ctx d ws) at hc
  generalize s.entryTaken q ctx d ws = v at hc
  have hw : v.wqs = s.wqs.upd q Wq.taken := by obtain ⟨r, rfl, -⟩ := hc; rfl
  have hl : v.wqs.look q = (s.wqs.look q).taken := by rw [hw, Tab.look_upd_self]
  have hx : v.wqs.upd q Wq.rested = s.wqs.upd q fun w => w.taken.rested := by
    rw [hw, Tab.upd_upd _ (Wq.not_default (by simp [Wq.taken, hs])) (Wq.not_default (by simp [Wq.taken, Wq.rested, hs]))]
  rw [State.turnNext_spent (by simp [hl, Wq.taken, ht]), State.turnEnd_took (by simp [hl, Wq.taken]), hx]
  have hv : ({ s with wqs := s.wqs.upd q fun w => w.taken.rested, runs := runs, readyCtr := k } : State).counted (v.withWqs (s.wqs.upd q fun w => w.taken.rested)) := by
    obtain ⟨r, rfl, hr⟩ := hc
    exact ⟨r, rfl, hr⟩
  generalize v.withWqs (s.wqs.upd q fun w => w.taken.rested) = x at hv
  have hup : x.portUp (s.pas.look (s.wqs.look q).pasid).port = true := (State.portUp_counted hv _).trans hu
  obtain ⟨hxw, hxp, hxt, hxf, hxn⟩ : x.wqs = (s.wqs.upd q fun w => w.taken.rested) ∧ x.pas = s.pas ∧ x.tlb = s.tlb ∧ x.fns = s.fns ∧ x.nextId = s.nextId := by
    obtain ⟨r, rfl, -⟩ := hv
    exact ⟨rfl, rfl, rfl, rfl, rfl⟩
  obtain ⟨t, htc, e⟩ := State.access_write (State.maps_congr hm hxp hxt) (by rw [hxp]; exact hup) (by simp only [State.fnOf, hxf, hxp]; exact hb) (.qcbWr q)
    (leBytes (((s.wqs.look q).c + 1) % 2 ^ 32) 4)
  refine ⟨runs, k, st, cl, res, seq, img, t, hst, hr, State.counted_trans ?_ htc, ?_⟩
  · rw [hxp]
    exact State.counted_said (State.counted_accessing hv _) _
  · rw [State.writeConsumer, hxp, hxw, Tab.look_upd_self]
    show (x.access (.qcbWr q) (s.wqs.look q).pasid ((s.pas.look (s.wqs.look q).pasid).dom.getD 0) .write false [((s.wqs.look q).qcb + 8, 4)]
      (leBytes (((s.wqs.look q).c + 1) % 2 ^ 32) 4)).2 = _
    rw [hd, Option.getD_some, e, hxn]

/-- A CONSUMER write that has been posted is forgotten (R191). -/
theorem State.accDone_written {id : Nat} (h : (s.accs.look id).client = .qcbWr q ∨ (s.accs.look id).client = .none) (ws : List Word) :
    s.accDone id (.ok ws) = s.accDrop id := by
  rcases h with h | h
  · rw [State.accDone_qcbWr h]
    rfl
  · simp [State.accDone, h]

theorem State.accDone_entry {id : Nat} (h : (s.accs.look id).client = .entry q) (r : AccRes) : s.accDone id r = (s.entryDone q r).accDrop id := by
  simp [State.accDone, h]

/-- An entry has returned (R173). -/
theorem exec_entryReadReturn (hc : s.calm) {id va : Nat} {ws : List Word} (hi : (s.accs.look id).st = .issued) (hcl : (s.accs.look id).client = .entry q)
    (ho : (s.accs.look id).orig = [(va, 64)]) (hl : ws.length = 8) : exec (.entryReadReturn id (.ok ws)) s = .next (s.later (.acc id (.ok ws))).settle := by
  show ended true (s.fabric _) = _
  rw [ended_fabric hc rfl, State.readBack_issued hi (by rw [hcl]) (by rw [ho, hl]; simp [chunkLen])]

/-- The read of an entry whose turn ends with it comes to a run and a CONSUMER write (R173, R188, R191). -/
theorem State.gives_entry_last (hc : s.calm) {id d pa va : Nat} {ws : List Word} (hi : (s.accs.look id).st = .issued) (hcl : (s.accs.look id).client = .entry q)
    (hor : (s.accs.look id).orig = [(va, 64)]) (hlen : ws.length = 8) (hs : (s.wqs.look q).st = .running) (ho : (s.wqs.look q).own = false)
    (ht : (s.wqs.look q).turn = 1) (hf : s.freeContext = some ctx) (hp : (s.pas.look (s.wqs.look q).pasid).st = .active)
    (hd : (s.pas.look (s.wqs.look q).pasid).dom = some d) (hk : s.entryOk d ws = true) (hm : s.maps (s.wqs.look q).pasid d .write ((s.wqs.look q).qcb + 8) 4 pa)
    (hu : s.portUp (s.pas.look (s.wqs.look q).pasid).port = true) (hb : (s.fnOf (s.pas.look (s.wqs.look q).pasid).port (s.pas.look (s.wqs.look q).pasid).fn).bme = true) :
    ∃ runs k st cl res seq img, (st = RunSt.running ∨ st = RunSt.ready) ∧
      runs.look ctx = { s.entryRun q (s.wqs.look q).c ws with st := st, cluster := cl, resid := res, readySeq := seq, image := img } ∧
      s.gives (.entryReadReturn id (.ok ws)) (((s.entryServed q d pa runs k).accDrop id).accDrop s.nextId) := by
  obtain ⟨runs, k, st, cl, res, seq, img, t, hst, hr, htc, e⟩ := State.entryDone_last hs ho ht hf hp hd hk hm hu hb
  refine ⟨runs, k, st, cl, res, seq, img, hst, hr, ?_⟩
  have hq : (((s.entryServed q d pa runs k).accDrop id).accDrop s.nextId).calm := State.calm_accDrop (State.calm_accDrop (State.calm_entryServed hc d pa runs k) id) _
  have hcount := State.counted_accDrop (State.counted_accDrop htc id) s.nextId
  have hclient : ((t.accDrop id).accs.look s.nextId).client = .qcbWr q ∨ ((t.accDrop id).accs.look s.nextId).client = .none := by
    have ha : (t.accDrop id).accs = (s.entryServed q d pa runs k).accs.del id := by obtain ⟨r, rfl, -⟩ := htc; rfl
    rw [ha, Tab.look_del]
    split
    · exact .inr rfl
    · exact .inl (State.entryServed_client d pa runs k)
  have hdr : drain 2 (s.later (.acc id (.ok ws))) = (t.accDrop id).accDrop s.nextId := by
    have hwork : (t.accDrop id).work = [] := by obtain ⟨r, rfl, -⟩ := htc; exact hc.1
    have h1 : State.workOne s (.acc id (.ok ws)) = (t.accDrop id).later (.acc s.nextId (.ok [])) := by
      show s.accDone id (.ok ws) = _
      rw [State.accDone_entry hcl, e]
      rfl
    rw [drain_later 1 hc.1, h1, drain_later 0 hwork]
    exact State.accDone_written hclient []
  refine State.gives_counted hcount hq ?_
  rw [exec_entryReadReturn hc hi hcl hor hlen]
  exact congrArg _ (State.settle_drain 2 (by norm_num) hdr (State.calm_counted hcount hq))

theorem State.accDrop_wqs (id : Nat) : (s.accDrop id).wqs = s.wqs := rfl

theorem State.accDrop_runs (id : Nat) : (s.accDrop id).runs = s.runs := rfl

theorem State.accDrop_outs (id : Nat) : (s.accDrop id).outs = s.outs := rfl

theorem State.qReading_outs (c : Client) (va len pa : Nat) :
    (s.qReading q c va len pa).outs = .hostRead s.nextId (s.pas.look (s.wqs.look q).pasid).port (s.pas.look (s.wqs.look q).pasid).fn [(pa, len)] :: s.outs := rfl

theorem State.entryServed_runs (d pa : Nat) (runs : Tab Run) (k : Nat) : (s.entryServed q d pa runs k).runs = runs := rfl

theorem State.entryServed_outs (d pa : Nat) (runs : Tab Run) (k : Nat) : (s.entryServed q d pa runs k).outs =
    .hostWrite (s.pas.look (s.wqs.look q).pasid).port (s.pas.look (s.wqs.look q).pasid).fn [(pa, 4)] (leBytes (((s.wqs.look q).c + 1) % 2 ^ 32) 4) :: s.outs := rfl

theorem State.upTo_wqs {u t : State} (h : u.upTo t) : t.wqs = u.wqs := by rw [h.1]

theorem State.upTo_runs {u t : State} (h : u.upTo t) : t.runs = u.runs := by rw [h.1]

/-- A read of a queue that is all a command does. -/
theorem State.gives_qReading {u : State} {cmd : Instr} {c : Client} {va len pa : Nat} (hc : u.calm)
    (hm : u.maps (u.wqs.look q).pasid ((u.pas.look (u.wqs.look q).pasid).dom.getD 0) .read va len pa) (he : exec cmd s = .next (u.qRead q c va len).settle) :
    s.gives cmd (u.qReading q c va len pa) := State.gives_counted (State.counted_qRead hm) (State.calm_qReading hc c va len pa) he

/-- What a queue's read puts out is new. -/
theorem State.qReading_newOuts {u t : State} {c : Client} {va len pa : Nat} (h : (u.qReading q c va len pa).upTo t) (ho : u.outs = s.outs) :
    (.hostRead u.nextId (u.pas.look (u.wqs.look q).pasid).port (u.pas.look (u.wqs.look q).pasid).fn [(pa, len)]) ∈ s.newOuts t :=
  State.mem_newOuts h (by rw [← ho]; rfl)

/-- A turn of a queue that has seen no entry has PRODUCER read (R172, R187). -/
theorem State.wqTurn_completes (hc : s.calm) (hq : q < 65536) {pa : Nat} (ho : (s.wqs.look q).own = false) (hp : (s.wqs.look q).c = (s.wqs.look q).prod) (he : s.eligible q = true)
    (hb : (s.wqs.look q).boost = true ∨ (s.wqs.keys.any fun j => (s.wqs.look j).boost && s.eligible j) = false)
    (hu : (s.wqs.look q).used < max (s.wqs.look q).weight 1)
    (hm : s.maps (s.wqs.look q).pasid ((s.pas.look (s.wqs.look q).pasid).dom.getD 0) .read (s.wqs.look q).qcb 4 pa) :
    s.completes (.wqTurn q) fun t =>
      (.hostRead s.nextId (s.pas.look (s.wqs.look q).pasid).port (s.pas.look (s.wqs.look q).pasid).fn [(pa, 4)]) ∈ s.newOuts t ∧
      t.wqs = s.wqs.upd q fun w => { w with used := w.used + 1, turn := w.burst, took := false, rang := false, reading := true } := by
  have hst := State.running_of_eligible he
  have hl : (s.withWqs (s.wqs.upd q Wq.begun)).wqs.look q = (s.wqs.look q).begun := Tab.look_upd_self _ _ _
  obtain ⟨t, hx, hup⟩ := State.gives_qReading (s := s) (cmd := .wqTurn q) (c := .prod q)
    (State.calm_withWqs hc (s.wqs.upd q Wq.begun)) (by rw [hl]; exact State.maps_withWqs hm _)
    (by rw [← State.wqTurn_reads ho hp he hb hu]; exact ended_fabric hc (by simpa [ok16] using hq) _)
  have hout := State.qReading_newOuts (s := s) hup rfl
  rw [hl] at hout
  refine ⟨t, hx, hout, ?_⟩
  rw [State.upTo_wqs hup, State.qReading_wqs, State.withWqs_wqs, Tab.upd_upd _ (Wq.not_default (by simp [Wq.begun, hst])) (Wq.not_default (by simp [Wq.begun, hst]))]
  rfl

/-- OWNERSHIP_POLL has the header at C read (R178). -/
theorem State.ownershipPoll_completes (hc : s.calm) (hq : q < 65536) {pa : Nat} (hs : (s.wqs.look q).st = .running) (ho : (s.wqs.look q).own = true)
    (hr : (s.wqs.look q).reading = false) (hf : (s.wqs.look q).found = none) (ht : (s.wqs.look q).turn = 0) (hp : (s.wqs.look q).pollLeft = 0) (hy : s.mayStart q = true)
    (hm : s.maps (s.wqs.look q).pasid ((s.pas.look (s.wqs.look q).pasid).dom.getD 0) .read ((s.wqs.look q).slotVa (s.wqs.look q).c) 8 pa) :
    s.completes (.ownershipPoll q) fun t =>
      (.hostRead s.nextId (s.pas.look (s.wqs.look q).pasid).port (s.pas.look (s.wqs.look q).pasid).fn [(pa, 8)]) ∈ s.newOuts t ∧
      (t.wqs.look q).pollLeft = (s.wqs.look q).poll ∧ (t.wqs.look q).reading = true := by
  have hl : (s.withWqs (s.wqs.upd q Wq.polled)).wqs.look q = (s.wqs.look q).polled := Tab.look_upd_self _ _ _
  obtain ⟨t, hx, hup⟩ := State.gives_qReading (s := s) (cmd := .ownershipPoll q) (c := .hdr q)
    (State.calm_withWqs hc (s.wqs.upd q Wq.polled)) (by rw [hl]; exact State.maps_withWqs hm _)
    (by rw [← State.ownPoll_reads hs ho hr hf ht hp hy]; exact ended_fabric hc (by simpa [ok16] using hq) _)
  have hout := State.qReading_newOuts (s := s) hup rfl
  rw [hl] at hout
  have hw : t.wqs.look q = { (s.wqs.look q).polled with reading := true } := by rw [State.upTo_wqs hup, State.qReading_wqs, Tab.look_upd_self, hl]
  exact ⟨t, hx, hout, by rw [hw]; rfl, by rw [hw]⟩

end

/-- Settles O29: a turn is one access of the ring or the control block, and the last entry of a turn leaves its run in a context and CONSUMER written. -/
theorem queueService : Obligations.QueueService := by
  unfold Obligations.QueueService
  intro s q pa hc hq
  refine ⟨fun ho hp he hb hu hm => State.wqTurn_completes hc hq ho hp he hb hu hm, fun id va p hi hcl hor hs ho hp hpc hk => State.gives_producer_idle hc hi hcl hor hs ho hp hpc hk,
    ?_, ?_, fun hs ho hr hf ht hp hy hm => State.ownershipPoll_completes hc hq hs ho hr hf ht hp hy hm⟩
  · intro id va p hi hcl hor hs ho hp _ h0 hd ht hl hf hm
    obtain ⟨t, hx, hup⟩ := State.gives_producer_ahead hc hi hcl hor hs ho hp h0 hd ht hl hf hm
    have hlk : (s.withWqs (s.wqs.upd q fun w => w.seen p)).wqs.look q = (s.wqs.look q).seen p := by rw [State.withWqs_wqs, Tab.look_upd_self]
    have hw : t.wqs.look q = { (s.wqs.look q).seen p with reading := true } := by
      rw [State.upTo_wqs hup, State.accDrop_wqs, State.qReading_wqs, Tab.look_upd_self, hlk]
    have hout := State.mem_newOuts (s := s) hup (by rw [State.accDrop_outs, State.qReading_outs, hlk]; rfl)
    exact ⟨t, hx, hout, by rw [hw]; rfl, by rw [hw]; simp [Wq.seen, h0], by rw [hw], by rw [hw]; rfl⟩
  · intro id va ctx d ws hi hcl hor hlen hs ho hf hp hd hk hform hpw ht hm hu hb
    obtain ⟨runs, k, st, cl, res, seq, img, hst, hr, t, hx, hup⟩ := State.gives_entry_last hc hi hcl hor hlen hs ho ht hf hp hd hk hm hu hb
    have hw : t.wqs.look q = (s.wqs.look q).taken.rested := by
      rw [State.upTo_wqs hup, State.accDrop_wqs, State.accDrop_wqs, State.entryServed_wqs, Tab.look_upd_self]
    have hx' : t.runs.look ctx = { s.entryRun q (s.wqs.look q).c ws with st := st, cluster := cl, resid := res, readySeq := seq, image := img } := by
      rw [State.upTo_runs hup, State.accDrop_runs, State.accDrop_runs, State.entryServed_runs, hr]
    have hout := State.mem_newOuts (s := s) hup (by rw [State.accDrop_outs, State.accDrop_outs, State.entryServed_outs])
    refine ⟨t, hx, ?_⟩
    dsimp only
    rw [hw, hx']
    refine ⟨rfl, rfl, rfl, rfl, rfl, rfl, ?_, rfl, ?_, ?_, rfl, hst, rfl, rfl, hout⟩
    · show (s.entryRun q (s.wqs.look q).c ws).dom = d
      rw [State.entryRun_dom, hd, Option.getD_some]
    · exact State.entryRun_noParams (s := s) (q := q) (s.wqs.look q).c hpw
    · exact State.entryRun_inline (s := s) (q := q) (s.wqs.look q).c hform

end Sys2Proof.Machine
end

section
namespace Sys2Proof

/-- A table has an entry for each key that does not read as the default. -/
theorem Tab.le_length {α : Type} [DecidableEq α] [Inhabited α] {t : Tab α} {n : Nat} (h : ∀ j < n, t.look j ≠ default) : n ≤ t.length := by
  have hs : List.range n ⊆ t.keys := fun j hj => Tab.mem_keys_of_look (h j (List.mem_range.1 hj))
  simpa [Tab.keys] using (List.subperm_of_subset List.nodup_range hs).length_le

end Sys2Proof

namespace Sys2Proof.Machine

/-! ### Fills of the TLB (R219) -/

section
variable {s : State}

/-- The first invalid entry is free: those before it are all listed, so that the search reaches it. -/
theorem State.tlbFree_first {i : Nat} (hi : i < 4096) (hv : (s.tlb.look i).valid = false) (hb : ∀ j : Nat, j < i → (s.tlb.look j).valid = true) :
    s.tlbFree = some i := by
  have hl : i ≤ s.tlb.length := Tab.le_length fun j hj e => by have := hb j hj; rw [e] at this; cases this
  rw [State.tlbFree, List.find?_range_eq_some]
  exact ⟨by simp [hv], List.mem_range.2 (by omega), fun j hj => by simp [hb j hj]⟩

theorem State.tlbFree_full (h : ∀ j : Nat, j < 4096 → (s.tlb.look j).valid = true) : s.tlbFree = none := by
  rw [State.tlbFree, List.find?_range_eq_none]
  exact fun j hj => by simp [h j (by omega)]

theorem State.tlbFill_free {i : Nat} (h : s.tlbFree = some i) (e : Tlbe) : s.tlbFill e = { s with tlb := s.tlb.put i e } := by
  simp only [State.tlbFill, h]

theorem State.tlbFill_full (h : s.tlbFree = none) (e : Tlbe) :
    s.tlbFill e = { s with tlb := s.tlb.put (s.get F.MMU_TLB_LFSR_VALUE % 4096) e }.put F.MMU_TLB_LFSR_VALUE (lfsrStep (s.get F.MMU_TLB_LFSR_VALUE)) := by
  simp only [State.tlbFill, h]

end

/-! ### The replacement register (R219) -/

/-- The bit that a step shifts in. -/
def lfsrIn (v : Nat) : Bool := v.testBit 15 ^^ v.testBit 13 ^^ v.testBit 12 ^^ v.testBit 10

theorem lfsrStep_eq (v : Nat) : lfsrStep v = (2 * v + (lfsrIn v).toNat) % 2 ^ 16 := by
  have hb : (b2n (v.testBit 15) + b2n (v.testBit 13) + b2n (v.testBit 12) + b2n (v.testBit 10)) % 2 = (lfsrIn v).toNat := by
    unfold lfsrIn
    cases v.testBit 15 <;> cases v.testBit 13 <;> cases v.testBit 12 <;> cases v.testBit 10 <;> rfl
  rw [lfsrStep, hb, Nat.mul_comm v 2]
  rfl

theorem lfsrStep_lt (v : Nat) : lfsrStep v < 65536 := Nat.mod_lt _ (by decide)

theorem testBit_zero_lfsrStep (v : Nat) : (lfsrStep v).testBit 0 = lfsrIn v := by
  rw [lfsrStep_eq, Nat.testBit_mod_two_pow]
  cases lfsrIn v <;> simp

theorem testBit_succ_lfsrStep (v : Nat) {k : Nat} (hk : k < 15) : (lfsrStep v).testBit (k + 1) = v.testBit k := by
  have hd : (2 * v + (lfsrIn v).toNat) / 2 = v := by have := (lfsrIn v).toNat_lt; omega
  rw [lfsrStep_eq, Nat.testBit_mod_two_pow, Nat.testBit_succ, hd]
  simp [show k + 1 < 16 by omega]

/-- A step keeps bits 14 to 0 in bits 15 to 1, and with bits 13, 12 and 10 known bit 0 tells bit 15. -/
theorem lfsrStep_injective {v w : Nat} (hv : v < 65536) (hw : w < 65536) (h : lfsrStep v = lfsrStep w) : v = w := by
  have hlow : ∀ k < 15, v.testBit k = w.testBit k := fun k hk => by rw [← testBit_succ_lfsrStep v hk, h, testBit_succ_lfsrStep w hk]
  have htop : v.testBit 15 = w.testBit 15 := by
    have hin : lfsrIn v = lfsrIn w := by rw [← testBit_zero_lfsrStep, h, testBit_zero_lfsrStep]
    rw [lfsrIn, lfsrIn, hlow 13 (by decide), hlow 12 (by decide), hlow 10 (by decide)] at hin
    simpa using hin
  apply Nat.eq_of_testBit_eq
  intro i
  rcases lt_trichotomy i 15 with hi | rfl | hi
  · exact hlow i hi
  · exact htop
  · have hp : 65536 ≤ 2 ^ i := Nat.pow_le_pow_right (n := 2) (by decide) hi
    rw [Nat.testBit_lt_two_pow (by omega), Nat.testBit_lt_two_pow (by omega)]

/-- Settles O33: a fill by the search for a free entry, the register bit by bit; zero is its own step, so no other value steps to it. -/
theorem replacementRegister : Obligations.ReplacementRegister := by
  unfold Obligations.ReplacementRegister
  refine ⟨fun s e i hi hv hb => ?_, fun s e h => ?_, fun v k _ hk => testBit_succ_lfsrStep v hk, fun v => ⟨lfsrStep_lt v, testBit_zero_lfsrStep v⟩, fun v hp hv h0 => ?_,
    fun v w => lfsrStep_injective⟩
  · exact State.tlbFill_free (State.tlbFree_first hi hv hb) e
  · exact State.tlbFill_full (State.tlbFree_full h) e
  · exact absurd (lfsrStep_injective hv (by decide) (h0.trans (show 0 = lfsrStep 0 from rfl))) (by omega)

end Sys2Proof.Machine
end

section
namespace Sys2Proof.Machine

/-! ### Ends of invalidations (R225, R238) -/

section
variable {s : State}

theorem State.calm_asResult (h : s.calm) (r res : Nat) : (s.asResult r res).calm :=
  State.calm_put (State.calm_put h _ (by dsimp only; omega)) _ (by dsimp only; omega)

/-- An invalidation of a command set that waits for no access ends at once: it is forgotten, and its set answers (R225, R238). -/
theorem State.invalDone_set {id r : Nat} (hl : (s.invals.look id).live = true) (hw : (s.invals.look id).waits = []) (ho : (s.invals.look id).byOp = none)
    (hs : (s.invals.look id).bySet = some r) :
    s.invalDone id =
      if (s.invals.look id).cmd = 0 then { s with invals := s.invals.del id }.put (F.MMU_INV_BUSY r) 0
      else (if (s.invals.look id).cmd = 1 then { s with invals := s.invals.del id, pas := s.pas.del (s.invals.look id).pasid }
        else { s with invals := s.invals.del id }).asResult r 0 := by
  have hr : s.invalReady id = true := by simp [State.invalReady, hl, hw]
  unfold State.invalDone
  simp only [hr, ho, hs, Bool.not_true, Bool.false_eq_true, ↓reduceIte]

theorem State.exec_invalidationDone (h : s.calm) (id : Nat) : exec (.invalidationDone id) s = .next (s.invalDone id).settle := ended_fabric h rfl _

end

/-! ### Walks (R209 to R218) -/

theorem State.counted_symm {s t : State} (h : s.counted t) : t.counted s := by
  obtain ⟨r, rfl, hr⟩ := h
  exact ⟨s.regs, rfl, fun off ho => (hr off ho).symm⟩

/-- A command whose meaning is a calm state with an output, but for what was counted, gives that state with its output. -/
theorem State.gives_out {s u v : State} {c : Instr} {o : Out} (h : (u.said o).counted v) (hc : u.calm) (he : exec c s = .next v.settle) : s.gives c (u.out o) :=
  State.gives_counted (State.counted_trans (State.counted_symm (u.counted_out o)) h) (State.calm_counted (u.counted_out o) (State.calm_said hc o)) he

/-- The entry of a 4 KiB page that a walk fills from a leaf (R218). -/
def Walk.page (w : Walk) (e : Word) : Tlbe := ⟨true, w.pasid, w.va / 4096, 0, wbits e 51 12, wbit e 1, wbit e 2, wbit e 4, wbit e 8⟩

section
variable {s : State} {id port fn : Nat} {e : Word}

theorem State.exec_walkReadReturn (h : s.calm) (id : Nat) (r : ReadRes) : exec (.walkReadReturn id r) s = .next (s.walkReturn id r).settle := ended_fabric h rfl _

theorem State.exec_adCasReturn (h : s.calm) (id : Nat) (r : ReadRes) : exec (.adCasReturn id r) s = .next (s.casReturn id r).settle := ended_fabric h rfl _

/-- A walk's read that a window allows is issued (R229). -/
theorem State.walkRead_allowed {w : Walk} (hp : (s.pas.look w.pasid).port = port) (hf : (s.pas.look w.pasid).fn = fn) (ha : s.walkAllowed port w.entryAt = true) :
    ∃ t, s.walkRead id w = some t ∧ (({ s with walks := s.walks.put id w } : State).said (.hostRead id port fn [(w.entryAt, 8)])).counted t := by
  subst hp hf
  exact ⟨_, if_pos ha, State.counted_trans (State.counted_said (State.counted_count _ _ _ _ _) _) (State.counted_out _ _)⟩

section
variable (hl : (s.walks.look id).live = true) (ha : (s.pas.look (s.walks.look id).pasid).st = .active)
include hl ha

/-- An entry that comes back to a walk of an ACTIVE address space is looked at (R212). -/
theorem State.walkReturn_entry (hf : (s.walks.look id).leaf = none) : s.walkReturn id (.ok [e]) = s.walkEntry id e := by
  simp [State.walkReturn, hl, hf, ha]

/-- A mark that found the leaf as it was read ends the walk in the marked leaf (R214, R215). -/
theorem State.casReturn_marked (hf : (s.walks.look id).leaf = some e) (hk : (s.walks.look id).kind = .write) :
    s.casReturn id (.ok [e]) = s.walkLeaf id (e ||| 8 ||| 16) := by
  simp [State.casReturn, hl, hf, ha, hk]

/-- A mark that found another entry walks again from the root (R215). -/
theorem State.casReturn_again {o : Word} {w : Walk} {t : State} (hf : (s.walks.look id).leaf = some e) (ho : o ≠ e)
    (hr : (s.walks.look id).fails + 1 < max (s.get F.MMU_AD_CTRL_RETRY_LIMIT) 1) (hw : w = s.atRoot { s.walks.look id with fails := (s.walks.look id).fails + 1 })
    (ht : s.walkRead id w = some t) : s.casReturn id (.ok [o]) = t := by
  subst hw
  simp only [hl, hf] at ht
  unfold State.casReturn
  simp only [hl, hf, ha, List.headD_cons, if_neg ho, Bool.not_true, bne_self_eq_false, Bool.false_eq_true, ↓reduceIte]
  rw [if_neg (show ¬ (s.walks.look id).fails + 1 ≥ s.atLeast F.MMU_AD_CTRL_RETRY_LIMIT 1 from Nat.not_le.2 hr), ht]

end

/-- A present entry that is no leaf goes on to the next level (R209, R212). -/
theorem State.walkEntry_next {w : Walk} {t : State} (h0 : wbit e 0 = true) (h5 : wbit e 5 = false) (hv : (s.walks.look id).level ≠ 1)
    (hw : w = { s.walks.look id with level := (s.walks.look id).level - 1, table := wbits e 51 12 * 4096 }) (ht : s.walkRead id w = some t) :
    s.walkEntry id e = t := by
  subst hw
  simp [State.walkEntry, h0, h5, hv, ht]

section
variable (hv : (s.walks.look id).level = 1)
include hv

/-- A present leaf of the last level is checked (R212). -/
theorem State.walkEntry_leaf (h0 : wbit e 0 = true) (h5 : wbit e 5 = true) : s.walkEntry id e = s.walkLeafCheck id e := by
  simp [State.walkEntry, h0, h5, hv]

/-- A leaf that allows the access and has its marks ends the walk (R212, R214). -/
theorem State.walkLeafCheck_fills (hz : wbits e 7 6 = 0) (hr : (s.walks.look id).kind ≠ .write → wbit e 1 = true) (hA : wbit e 3 = true)
    (hw : (s.walks.look id).kind = .write ∨ (s.walks.look id).kind = .atomic → wbit e 2 = true ∧ wbit e 4 = true) : s.walkLeafCheck id e = s.walkLeaf id e := by
  have hread : ((s.walks.look id).kind != .write && !wbit e 1) = false := by simpa using hr
  have hwrite : (((s.walks.look id).kind == .write || (s.walks.look id).kind == .atomic) && !wbit e 2) = false := by simpa using fun k => (hw k).1
  have hdirty : (((s.walks.look id).kind == .write || (s.walks.look id).kind == .atomic) && !wbit e 4) = false := by simpa using fun k => (hw k).2
  unfold State.walkLeafCheck
  simp [hv, hz, hA, hread, hwrite, hdirty]

/-- A leaf that a write has yet to mark is marked by a compare and swap (R214). -/
theorem State.walkLeafCheck_marks (hz : wbits e 7 6 = 0) (hk : (s.walks.look id).kind = .write) (hW : wbit e 2 = true) (hm : (wbit e 3 && wbit e 4) = false)
    (hs : (s.walks.look id).spec = false) (hp : (s.pas.look (s.walks.look id).pasid).preset = false) (hport : (s.pas.look (s.walks.look id).pasid).port = port)
    (hfn : (s.pas.look (s.walks.look id).pasid).fn = fn) (ha : s.walkAllowed port (s.walks.look id).entryAt = true) :
    (({ s with walks := s.walks.put id { s.walks.look id with leaf := some e } } : State).said
      (.hostAtomic id port fn (s.walks.look id).entryAt 11 8 (e ||| 8 ||| 16) e)).counted (s.walkLeafCheck id e) := by
  subst hport hfn
  have he : s.walkLeafCheck id e = (State.count { s with walks := s.walks.put id { s.walks.look id with leaf := some e } } 0x0303
      (s.pas.look (s.walks.look id).pasid).port 1 (s.pas.look (s.walks.look id).pasid).dom).out
      (.hostAtomic id (s.pas.look (s.walks.look id).pasid).port (s.pas.look (s.walks.look id).pasid).fn (s.walks.look id).entryAt 11 8 (e ||| 8 ||| 16) e) := by
    have hmark : (!(!wbit e 3) && !(!wbit e 4)) = false := by simpa using hm
    unfold State.walkLeafCheck
    simp only [hv, hz, hk, hW, hs, hp, ha, hmark, beq_self_eq_true, Bool.true_or, Bool.true_and]
    simp
  rw [he]
  exact State.counted_trans (State.counted_said (State.counted_count _ _ _ _ _) _) (State.counted_out _ _)

/-- A walk that nothing waits for and that ends in a 4 KiB leaf fills the free entry (R218, R219). -/
theorem State.walkLeaf_page {i : Nat} (hacc : s.accs = []) (hi : s.tlbFree = some i) :
    s.walkLeaf id e = { s with tlb := s.tlb.put i ((s.walks.look id).page e), walks := s.walks.del id } := by
  have hp : pagesOf 0 = 1 := rfl
  unfold State.walkLeaf
  simp only [hv, Nat.sub_self, hp, Nat.div_one, Nat.mul_one, State.tlbFill_free hi]
  simp [State.walkOver, State.waiters, hacc, Tab.keysOf_nil, Walk.page]

end

end

/-- Settles O32: each return by the lemma of what the walk or the invalidation does next, on a calm state. -/
theorem walksAndInvalidations : Obligations.WalksAndInvalidations := by
  unfold Obligations.WalksAndInvalidations
  intro s h
  refine ⟨?_, ?_, ?_, ?_, ?_, ?_, ?_, ?_⟩
  · intro id r hl hw ho hs h0
    refine State.gives_settle ?_ (State.calm_put (State.calm_congr h rfl rfl rfl rfl rfl rfl rfl) _ (by dsimp only; omega))
    rw [State.exec_invalidationDone h, State.invalDone_set hl hw ho hs, if_pos h0]
  · intro id r hl hw ho hs h1
    refine State.gives_settle ?_ (State.calm_asResult (State.calm_congr h rfl rfl rfl rfl rfl rfl rfl) r 0)
    rw [State.exec_invalidationDone h, State.invalDone_set hl hw ho hs, if_neg (by omega), if_pos h1, State.asResult]
  · intro id r hl hw ho hs h2
    refine State.gives_settle ?_ (State.calm_asResult (State.calm_congr h rfl rfl rfl rfl rfl rfl rfl) r 0)
    rw [State.exec_invalidationDone h, State.invalDone_set hl hw ho hs, if_neg (by omega), if_neg (by omega), State.asResult]
  · intro id port fn entry e hl hf ha hp hfn h0 h5 hv he hwin
    subst he
    obtain ⟨t, ht, hc⟩ := State.walkRead_allowed (id := id) (w := { s.walks.look id with level := 2, table := wbits e 51 12 * 4096 }) hp hfn hwin
    refine State.gives_out hc (State.calm_congr h rfl rfl rfl rfl rfl rfl rfl) ?_
    rw [State.exec_walkReadReturn h, State.walkReturn_entry hl ha hf, State.walkEntry_next h0 h5 (by omega) (by rw [hv]) ht]
  · intro id i e hl hf ha hacc h0 h5 hz hv hr hA hw hi
    refine State.gives_settle ?_ (State.calm_congr h rfl rfl rfl rfl rfl rfl rfl)
    rw [State.exec_walkReadReturn h, State.walkReturn_entry hl ha hf, State.walkEntry_leaf hv h0 h5, State.walkLeafCheck_fills hv hz hr hA hw,
      State.walkLeaf_page hv hacc hi, Walk.page]
  · intro id port fn entry e hl hf hs ha hp hfn hpre h0 h5 hz hv hk hW hm he hwin
    have hen : (s.walks.look id).entryAt = entry := by rw [he, Walk.entryAt, hv]; rfl
    subst hen
    refine State.gives_out ?_ (State.calm_congr h rfl rfl rfl rfl rfl rfl rfl) (by rw [State.exec_walkReadReturn h, State.walkReturn_entry hl ha hf, State.walkEntry_leaf hv h0 h5])
    rw [show e ||| 24 = e ||| 8 ||| 16 from (BitVec.or_assoc e 8 16).symm]
    exact State.walkLeafCheck_marks hv hz hk hW hm hs hpre hp hfn hwin
  · intro id i e hl hf ha hacc hv hk hi
    have hD : wbit (e ||| 24) 4 = true := by simp [wbit]
    refine State.gives_settle ?_ (State.calm_congr h rfl rfl rfl rfl rfl rfl rfl)
    rw [State.exec_adCasReturn h, State.casReturn_marked hl ha hf hk, State.walkLeaf_page hv hacc hi, show e ||| 8 ||| 16 = e ||| 24 from BitVec.or_assoc e 8 16,
      Walk.page, hD]
  · intro id port fn e o w hl hf ho ha hp hfn hr hw hwin
    obtain ⟨t, ht, hc⟩ := State.walkRead_allowed (id := id) (port := port) (fn := fn) (w := w) (by rw [hw]; exact hp) (by rw [hw]; exact hfn) hwin
    refine State.gives_out hc (State.calm_congr h rfl rfl rfl rfl rfl rfl rfl) ?_
    rw [State.exec_adCasReturn h, State.casReturn_again hl ha hf ho hr hw ht]

end Sys2Proof.Machine
end

section
namespace Sys2Proof.Machine

/-! ### Bits, packed words and registers -/

theorem b2n_lt (b : Bool) : b2n b < 2 := by cases b <;> decide

theorem b2n_ne_zero (b : Bool) : (b2n b != 0) = b := by cases b <;> rfl

theorem toNat_packW_four (i j k l a b c d : Nat) : (packW [(i, a), (j, b), (k, c), (l, d)]).toNat = (a * 2 ^ i + b * 2 ^ j + c * 2 ^ k + d * 2 ^ l) % 2 ^ 64 := by
  simp [packW, Nat.shiftLeft_eq]

theorem State.edge_trans {s t u : State} (h : s.edge t) (h' : t.edge u) : s.edge u := by
  obtain ⟨q, o, rfl⟩ := h
  obtain ⟨q', o', rfl⟩ := h'
  exact ⟨q', o', rfl⟩

theorem State.calm_setReg {s : State} (h : s.calm) {off : Nat} (w : Word) (ho : 0x10000 ≠ off) : (s.setReg off w).calm :=
  State.calm_congr h rfl rfl rfl rfl rfl rfl (State.reg_setReg_other _ _ ho)

/-- A register may be set before a field of another one or after it. -/
theorem State.sameRegs_put_setReg (s : State) {f : Fld} (n : Nat) {off : Nat} (w : Word) (h : f.off ≠ off) :
    ((s.put f n).setReg off w).sameRegs ((s.setReg off w).put f n) := by
  refine ⟨_, rfl, fun o => ?_⟩
  show ((s.setReg off w).put f n).reg o = _
  by_cases e : o = off
  · subst e
    rw [State.reg_setReg_self, State.reg_put_other _ _ _ h.symm, State.reg_setReg_self]
  · rw [State.reg_setReg_other _ _ e]
    by_cases ef : o = f.off
    · subst ef
      rw [State.reg_put_self, State.reg_put_self, State.reg_setReg_other _ _ e]
    · rw [State.reg_put_other _ _ _ ef, State.reg_put_other _ _ _ ef, State.reg_setReg_other _ _ e]

/-! ### Address space and invalidation command sets (R224, R238) -/

section
variable {s : State} {r : Nat}

/-- A command of a command set gives the calm state that its operation leads to (R447, R454). -/
theorem State.gives_set {u : State} {c : Instr} {k : State → State} (h : s.mayCommand) (hr : r < 5) (he : exec c s = ended (okSet r) (s.command k)) (hk : k s = u)
    (hc : u.calm) : s.gives c u :=
  State.gives_settle (by rw [he, State.ended_command h (by simp [okSet, hr]), hk]) hc

/-- OP is no part of a set's arguments. -/
theorem State.get_putOp (s : State) (op : Nat) {f : Fld} (hf : f.off ≠ 0x300110 + r * 0x40) : (s.put (F.MMU_AS_CMD_OP r) op).get f = s.get f :=
  State.get_put_off s op hf

theorem State.flag_putOp (s : State) (op : Nat) {f : Fld} (hf : f.off ≠ 0x300110 + r * 0x40) : (s.put (F.MMU_AS_CMD_OP r) op).flag f = s.flag f := by
  rw [State.flag, State.get_putOp s op hf, State.flag]

/-- An idle set carries its command out on the PASID it names, for no invalidation of another set's command is in progress (R238). -/
theorem State.asCmd_idle (h : s.asIdle r) (op : Nat) (k : State → Nat → Pas → State) :
    s.asCmd r op k = k (s.put (F.MMU_AS_CMD_OP r) op) (s.get (F.MMU_AS_ARG1_PASID r)) (s.pas.look (s.get (F.MMU_AS_ARG1_PASID r))) := by
  obtain ⟨-, -, hb, -, hi, -, -⟩ := h
  have hf : s.flag (F.MMU_AS_CMD_BUSY r) = false := by rw [State.flag, hb]; rfl
  have hp : (s.put (F.MMU_AS_CMD_OP r) op).get (F.MMU_AS_ARG1_PASID r) = s.get (F.MMU_AS_ARG1_PASID r) := State.get_putOp _ _ (by dsimp only; omega)
  have hn : (s.put (F.MMU_AS_CMD_OP r) op).invals = [] := by rw [State.put_invals, hi]
  unfold State.asCmd
  rw [if_neg (by rw [hf]; exact Bool.false_ne_true), ← State.put_pas s (F.MMU_AS_CMD_OP r) op, ← hp]
  generalize s.put (F.MMU_AS_CMD_OP r) op = v at *
  dsimp only
  rw [hn]
  exact if_neg Bool.false_ne_true

/-- An invalidation that no walk and no access stands against drops what its scope covers, and waits for nothing (R224, R225). -/
theorem State.invalidate_idle (hw : s.walks = []) (ha : s.accs = []) (i : InvScope) {v : Inval} (hv : v.waits = []) : (s.invalidate i v).1 = s.invBegun i v := by
  obtain ⟨live, waits, byOp, bySet, cmd, pasid⟩ := v
  cases hv
  unfold State.invalidate
  simp [State.tlbDrop, State.newId, State.invBegun, hw, ha, Tab.keysOf_nil]

theorem State.invBegun_put (s : State) (f : Fld) (n : Nat) (i : InvScope) (v : Inval) : (s.put f n).invBegun i v = (s.invBegun i v).put f n := rfl

theorem State.calm_invBegun (h : s.calm) (i : InvScope) (v : Inval) : (s.invBegun i v).calm := State.calm_congr h rfl rfl rfl rfl rfl rfl rfl

theorem State.asDone_eq (s : State) (r op : Nat) : s.asDone r op = (s.put (F.MMU_AS_CMD_OP r) op).asResult r 0 := by rw [State.asDone, State.asResult]

theorem State.calm_asDone (h : s.calm) (op : Nat) : (s.asDone r op).calm := by
  rw [State.asDone_eq]
  exact State.calm_asResult (State.calm_put h _ (by dsimp only; omega)) r 0

/-- A state with other address spaces. -/
def State.withPas (s : State) (x : Tab Pas) : State := { s with pas := x }

theorem State.withPas_put (s : State) (x : Tab Pas) (f : Fld) (n : Nat) : (s.withPas x).put f n = (s.put f n).withPas x := rfl

theorem State.withPas_asResult (s : State) (x : Tab Pas) (res : Nat) : (s.withPas x).asResult r res = (s.asResult r res).withPas x := by
  rw [State.asResult, State.withPas_put, State.withPas_put, State.asResult]

theorem State.asDone_tlb (s : State) (r op : Nat) : (s.asDone r op).tlb = s.tlb := by rw [State.asDone, State.put_tlb, State.put_tlb, State.put_tlb]

theorem State.withPas_tlbDrop (s : State) (x : Tab Pas) (q : Tlbe → Bool) : (s.withPas x).tlbDrop q = { s with pas := x, tlb := s.tlb.filter fun e => !q e.2 } := rfl

theorem State.calm_pas_tlb (h : s.calm) (x : Tab Pas) (t : Tab Tlbe) : ({ s with pas := x, tlb := t } : State).calm := State.calm_congr h rfl rfl rfl rfl rfl rfl rfl

theorem State.withPas_tlbDrop_put (s : State) (x : Tab Pas) (q : Tlbe → Bool) (f : Fld) (n : Nat) :
    ((s.withPas x).tlbDrop q).put f n = ((s.put f n).withPas x).tlbDrop q := rfl

theorem State.withPas_tlbDrop_asResult (s : State) (x : Tab Pas) (q : Tlbe → Bool) (res : Nat) :
    ((s.withPas x).tlbDrop q).asResult r res = ((s.asResult r res).withPas x).tlbDrop q := by
  rw [State.asResult, State.withPas_tlbDrop_put, State.withPas_tlbDrop_put, State.asResult]

/-- Address spaces may change before the invalidation or after it. -/
theorem State.invalidate_withPas (hw : s.walks = []) (ha : s.accs = []) (x : Tab Pas) (i : InvScope) {v : Inval} (hv : v.waits = []) :
    ((s.withPas x).invalidate i v).1 = (s.invBegun i v).withPas x := by
  rw [State.invalidate_idle (s := s.withPas x) hw ha i hv]
  rfl

theorem State.calm_withPas (h : s.calm) (x : Tab Pas) : (s.withPas x).calm := State.calm_congr h rfl rfl rfl rfl rfl rfl rfl

/-! ### What each command does

The proofs name the state with OP written and go on with the name, so that nothing computes its registers. -/

theorem State.fnBad_putOp (s : State) (op fn : Nat) :
    (s.put (F.MMU_AS_CMD_OP r) op).fnBad (s.get (F.MMU_AS_ARG1_PORT r)) fn = s.fnBad (s.get (F.MMU_AS_ARG1_PORT r)) fn := by
  have hp : s.get (F.MMU_AS_ARG1_PORT r) < 4 := wbits_lt _ 21 20
  rw [State.fnBad, State.fnBad, State.get_putOp _ _ (by dsimp only; omega)]

/-- CREATE of a FREE PASID whose function and fault queue agree (R238, R561). -/
theorem State.asCreate_records (h : s.asIdle r) (hf : (s.pas.look (s.get (F.MMU_AS_ARG1_PASID r))).st = .free)
    (hn : s.get (F.MMU_AS_ARG1_FUNCTION r) ≤ s.get (F.DEV_HOSTPORT_NUMVF (s.get (F.MMU_AS_ARG1_PORT r))))
    (hq : (s.eqs.look (s.get (F.MMU_AS_ARG1_FAULT_EQ r))).st = .active) (hp : (s.eqs.look (s.get (F.MMU_AS_ARG1_FAULT_EQ r))).port = s.get (F.MMU_AS_ARG1_PORT r))
    (hu : (s.eqs.look (s.get (F.MMU_AS_ARG1_FAULT_EQ r))).fn = s.get (F.MMU_AS_ARG1_FUNCTION r)) (hc : s.pas.count (fun a => a.st != .free) < 16384) :
    s.asCreate r = (s.asDone r 0).withPas (s.pas.put (s.get (F.MMU_AS_ARG1_PASID r)) { (default : Pas) with
      st := .active, port := s.get (F.MMU_AS_ARG1_PORT r), fn := s.get (F.MMU_AS_ARG1_FUNCTION r), root := s.get (F.MMU_AS_ARG0_ROOT r) * 4096
      lv5 := s.flag (F.MMU_AS_ARG0_LEVELS5 r), preset := s.flag (F.MMU_AS_ARG0_PRESET r), retryAfter := max (s.get (F.MMU_AS_ARG1_RETRY_AFTER r)) 1
      faultEq := s.get (F.MMU_AS_ARG1_FAULT_EQ r), dom := none, seen := [] }) := by
  have hb : s.fnBad (s.get (F.MMU_AS_ARG1_PORT r)) (s.get (F.MMU_AS_ARG1_FUNCTION r)) = false := by simpa [State.fnBad] using hn
  rw [State.asCreate, State.asCmd_idle h, State.asDone_eq, ← State.withPas_asResult]
  rw [← State.put_eqs s (F.MMU_AS_CMD_OP r) 0] at hq hp hu
  rw [← State.put_pas s (F.MMU_AS_CMD_OP r) 0] at hf hc ⊢
  simp (disch := (dsimp only; omega)) only [State.get_putOp, State.flag_putOp, State.fnBad_putOp, hb, State.atLeast]
  generalize s.put (F.MMU_AS_CMD_OP r) 0 = v at *
  rw [if_neg (by simp [hf]), if_neg (by simp [hq, hp, hu]), if_neg (Nat.not_le.2 hc), State.withPas]

/-- DESTROY of an address space without work unbinds it and invalidates it (R207, R224, R238). -/
theorem State.asDestroy_begins (h : s.asIdle r) {p : Nat} (hp : s.get (F.MMU_AS_ARG1_PASID r) = p) (hf : (s.pas.look p).st ≠ .free)
    (hw : (s.wqs.vals.any fun w => w.st != .free && w.pasid == p) = false) (he : (s.eqs.vals.any fun q => q.st != .free && q.pasid == p) = false)
    (hr : (s.runs.vals.any fun x => x.st == .parked && x.pasid == some p) = false) :
    s.asDestroy r = (((s.invBegun (.pasid p) { (default : Inval) with bySet := some r, cmd := 1, pasid := p }).withPas
      (s.pas.put p { s.pas.look p with dom := none })).put (F.MMU_AS_CMD_OP r) 1).put (F.MMU_AS_CMD_BUSY r) 1 := by
  rw [State.asDestroy, State.asCmd_idle h, hp, State.withPas_put, ← State.invBegun_put]
  obtain ⟨-, -, -, -, -, hwk, hac⟩ := h
  rw [← State.put_wqs s (F.MMU_AS_CMD_OP r) 1] at hw
  rw [← State.put_eqs s (F.MMU_AS_CMD_OP r) 1] at he
  rw [← State.put_runs s (F.MMU_AS_CMD_OP r) 1] at hr
  rw [← State.put_walks s (F.MMU_AS_CMD_OP r) 1] at hwk
  rw [← State.put_accs s (F.MMU_AS_CMD_OP r) 1] at hac
  rw [← State.put_pas s (F.MMU_AS_CMD_OP r) 1] at hf ⊢
  generalize s.put (F.MMU_AS_CMD_OP r) 1 = v at *
  dsimp only
  rw [if_neg (by simp [hf, State.asUsed, hw, he, hr]), ← State.withPas, State.invalidate_withPas hwk hac _ _ rfl]

/-- CLEAR of an address space in ERROR (R231, R238). -/
theorem State.asClear_clears (h : s.asIdle r) {p : Nat} (hp : s.get (F.MMU_AS_ARG1_PASID r) = p) (hf : (s.pas.look p).st = .error) :
    s.asClear r = ((s.asDone r 2).withPas (s.pas.put p { s.pas.look p with st := .active })).tlbDrop (·.pasid == p) := by
  rw [State.asClear, State.asCmd_idle h, hp, State.asDone_eq, ← State.put_pas s (F.MMU_AS_CMD_OP r) 2]
  rw [← State.put_pas s (F.MMU_AS_CMD_OP r) 2] at hf
  generalize s.put (F.MMU_AS_CMD_OP r) 2 = v at *
  dsimp only
  rw [if_neg (by simp [hf]), ← State.withPas, State.withPas_tlbDrop_asResult]

/-- SET_ROOT of an ACTIVE address space replaces its root and format and invalidates it (R224, R238). -/
theorem State.asSetRoot_begins (h : s.asIdle r) {p : Nat} (hp : s.get (F.MMU_AS_ARG1_PASID r) = p) (hf : (s.pas.look p).st = .active) :
    s.asSetRoot r = (((s.invBegun (.pasid p) { (default : Inval) with bySet := some r, cmd := 2, pasid := p }).withPas (s.pas.put p { s.pas.look p with
      root := s.get (F.MMU_AS_ARG0_ROOT r) * 4096, lv5 := s.flag (F.MMU_AS_ARG0_LEVELS5 r), preset := s.flag (F.MMU_AS_ARG0_PRESET r) })).put
      (F.MMU_AS_CMD_OP r) 4).put (F.MMU_AS_CMD_BUSY r) 1 := by
  rw [State.asSetRoot, State.asCmd_idle h, hp, State.withPas_put, ← State.invBegun_put]
  simp (disch := (dsimp only; omega)) only [State.get_putOp, State.flag_putOp]
  obtain ⟨-, -, -, -, -, hwk, hac⟩ := h
  rw [← State.put_walks s (F.MMU_AS_CMD_OP r) 4] at hwk
  rw [← State.put_accs s (F.MMU_AS_CMD_OP r) 4] at hac
  rw [← State.put_pas s (F.MMU_AS_CMD_OP r) 4] at hf ⊢
  generalize s.put (F.MMU_AS_CMD_OP r) 4 = v at *
  rw [if_neg (by simp [hf]), ← State.withPas, State.invalidate_withPas hwk hac _ _ rfl]

/-- RETRY of an ACTIVE address space while nothing is held (R233, R364). -/
theorem State.asRetry_idle (h : s.asIdle r) (hf : (s.pas.look (s.get (F.MMU_AS_ARG1_PASID r))).st = .active) (hm : s.msgs = []) (hv : s.cvys = []) :
    s.asRetry r = s.asDone r 5 := by
  rw [State.asRetry, State.asCmd_idle h, State.asDone_eq]
  rw [← State.put_msgs s (F.MMU_AS_CMD_OP r) 5] at hm
  rw [← State.put_cvys s (F.MMU_AS_CMD_OP r) 5] at hv
  generalize s.put (F.MMU_AS_CMD_OP r) 5 = v at *
  dsimp only
  rw [if_neg (by simp [hf]), hm, Tab.keysOf_nil, List.foldl_nil, hv, Tab.keysOf_nil, List.foldl_nil]

theorem State.asRetry_refused (h : s.asIdle r) (hf : (s.pas.look (s.get (F.MMU_AS_ARG1_PASID r))).st ≠ .active) :
    s.asRetry r = (s.put (F.MMU_AS_CMD_OP r) 5).asResult r 1 := by
  rw [State.asRetry, State.asCmd_idle h]
  exact if_pos (by simpa using hf)

/-! ### QUERY (R238) -/

/-- A set's arguments as QUERY writes an address space into them. -/
def State.asShown (s : State) (r : Nat) (a : Pas) : State :=
  let v := ((s.put (F.MMU_AS_ARG0_PRESET r) (b2n a.preset)).put (F.MMU_AS_ARG0_LEVELS5 r) (b2n a.lv5)).put (F.MMU_AS_ARG0_ROOT r) (a.root / 4096)
  (((v.put (F.MMU_AS_ARG1_RETRY_AFTER r) a.retryAfter).put (F.MMU_AS_ARG1_FAULT_EQ r) a.faultEq).put (F.MMU_AS_ARG1_FUNCTION r) a.fn).put (F.MMU_AS_ARG1_PORT r) a.port

/-- MMU_AS_INFO_r of an address space that `n` TLB entries translate. -/
def Pas.info (a : Pas) (n : Nat) : Word := packW [(0, a.st.code), (2, b2n a.dom.isSome), (16, a.dom.getD 0 % 65536), (32, n)]

/-- A set that QUERY has answered, with an address space that `n` TLB entries translate (R238). -/
def State.queried (s : State) (r : Nat) (a : Pas) (n : Nat) : State :=
  (((s.put (F.MMU_AS_CMD_OP r) 3).asShown r a).setReg (0x300118 + 64 * r) (a.info n)).asResult r 0

theorem State.asQuery_free (h : s.asIdle r) (hf : (s.pas.look (s.get (F.MMU_AS_ARG1_PASID r))).st = .free) :
    s.asQuery r = ((s.put (F.MMU_AS_CMD_OP r) 3).setReg (0x300118 + 64 * r) 0).asResult r 0 := by
  rw [State.asQuery, State.asCmd_idle h]
  generalize s.put (F.MMU_AS_CMD_OP r) 3 = v
  exact if_pos hf

theorem State.asQuery_shows (h : s.asIdle r) {a : Pas} (ha : s.pas.look (s.get (F.MMU_AS_ARG1_PASID r)) = a) (hf : a.st ≠ .free) :
    ∃ n, s.asQuery r = s.queried r a n := by
  refine ⟨s.tlb.count fun t => t.valid && t.pasid == s.get (F.MMU_AS_ARG1_PASID r), ?_⟩
  rw [State.asQuery, State.asCmd_idle h, ha, State.queried, ← State.put_tlb s (F.MMU_AS_CMD_OP r) 3]
  generalize s.put (F.MMU_AS_CMD_OP r) 3 = v
  dsimp only
  rw [if_neg hf, State.asShown, Pas.info]

/-- The arguments that QUERY shows read as the address space, where it fits them. -/
theorem State.asShown_get {a : Pas} (hroot : a.root < 2 ^ 52) (hf : a.fn ≤ 128) (hp : a.port < 4) (hq : a.faultEq < 16384) :
    (s.asShown r a).get (F.MMU_AS_ARG0_ROOT r) = a.root / 4096 ∧ (s.asShown r a).flag (F.MMU_AS_ARG0_LEVELS5 r) = a.lv5 ∧
    (s.asShown r a).flag (F.MMU_AS_ARG0_PRESET r) = a.preset ∧ (s.asShown r a).get (F.MMU_AS_ARG1_PORT r) = a.port ∧
    (s.asShown r a).get (F.MMU_AS_ARG1_FUNCTION r) = a.fn ∧ (s.asShown r a).get (F.MMU_AS_ARG1_FAULT_EQ r) = a.faultEq := by
  have h5 := b2n_lt a.lv5
  have hs := b2n_lt a.preset
  simp (disch := (dsimp only [Fld.ok]; omega)) only [State.asShown, State.flag, State.get_put_fits, State.get_put_other, b2n_ne_zero, and_self]

/-- The fields of INFO: STATE, BOUND and DOMAIN (R238). -/
theorem Pas.info_fields {a : Pas} (ha : a.st = .active) (hd : a.dom.getD 0 < 65536) (n : Nat) :
    wbits (a.info n) 1 0 = 1 ∧ wbit (a.info n) 2 = a.dom.isSome ∧ wbits (a.info n) 31 16 = a.dom.getD 0 := by
  have hb := b2n_lt a.dom.isSome
  have hw := toNat_packW_four 0 2 16 32 a.st.code (b2n a.dom.isSome) (a.dom.getD 0 % 65536) n
  rw [← Pas.info, ha, show PasSt.code .active = 1 from rfl] at hw
  generalize a.info n = w at *
  generalize a.dom.getD 0 = d at *
  simp only [wbits, bitsOf, Nat.shiftRight_eq_div_pow, wbit, BitVec.getLsbD, Nat.testBit_eq_decide_div_mod_eq]
  generalize w.toNat = x at *
  have hx : x / 2 ^ 2 % 2 = b2n a.dom.isSome := by omega
  refine ⟨by omega, ?_, by omega⟩
  rw [hx]
  cases a.dom.isSome <;> rfl

theorem State.asResult_get (s : State) (res : Nat) {f : Fld} (hf : f.off ≠ 0x300110 + r * 0x40) : (s.asResult r res).get f = s.get f := by
  rw [State.asResult, State.get_put_off _ _ hf, State.get_put_off _ _ hf]

theorem State.asResult_reg (s : State) (res : Nat) {off : Nat} (h : off ≠ 0x300110 + r * 0x40) : (s.asResult r res).reg off = s.reg off := by
  rw [State.asResult, State.reg_put_other _ _ _ h, State.reg_put_other _ _ _ h]

/-- A set that has answered is not busy and shows its RESULT. -/
theorem State.asResult_answers (s : State) {res : Nat} (h : res < 256) :
    (s.asResult r res).get (F.MMU_AS_CMD_BUSY r) = 0 ∧ (s.asResult r res).get (F.MMU_AS_CMD_RESULT r) = res := by
  simp (disch := (dsimp only [Fld.ok]; omega)) only [State.asResult, State.get_put_fits, State.get_put_other, and_self]

theorem State.queried_get {a : Pas} {n : Nat} {f : Fld} (hi : f.off ≠ 0x300118 + 64 * r) (hc : f.off ≠ 0x300110 + r * 0x40) :
    (s.queried r a n).get f = ((s.put (F.MMU_AS_CMD_OP r) 3).asShown r a).get f := by
  rw [State.queried, State.asResult_get _ _ hc, State.get_setReg_off _ _ hi]

theorem State.queried_answers (s : State) (r : Nat) (a : Pas) (n : Nat) :
    (s.queried r a n).get (F.MMU_AS_CMD_BUSY r) = 0 ∧ (s.queried r a n).get (F.MMU_AS_CMD_RESULT r) = 0 := State.asResult_answers _ (by decide)

theorem State.queried_info (a : Pas) (n : Nat) : (s.queried r a n).reg (0x300118 + 64 * r) = a.info n := by
  rw [State.queried, State.asResult_reg _ _ (by omega), State.reg_setReg_self]

theorem State.edge_asResult {t : State} (h : s.edge t) (res : Nat) : s.edge (t.asResult r res) := State.edge_put _ _ (State.edge_put _ _ h)

theorem State.edge_asShown {t : State} (h : s.edge t) (a : Pas) : s.edge (t.asShown r a) :=
  State.edge_put _ _ <| State.edge_put _ _ <| State.edge_put _ _ <| State.edge_put _ _ <| State.edge_put _ _ <| State.edge_put _ _ <| State.edge_put _ _ h

theorem State.edge_queried (s : State) (r : Nat) (a : Pas) (n : Nat) : s.edge (s.queried r a n) :=
  State.edge_asResult (State.edge_setReg _ _ (State.edge_asShown (State.edge_put _ _ s.edge_refl) a)) 0

theorem State.calm_asShown (h : s.calm) (a : Pas) : (s.asShown r a).calm := by
  unfold State.asShown
  refine State.calm_put (State.calm_put (State.calm_put (State.calm_put (State.calm_put (State.calm_put (State.calm_put h _ ?_) _ ?_) _ ?_) _ ?_) _ ?_) _ ?_) _ ?_ <;>
    (dsimp only; omega)

theorem State.calm_queried (h : s.calm) (a : Pas) (n : Nat) : (s.queried r a n).calm :=
  State.calm_asResult (State.calm_setReg (State.calm_asShown (State.calm_put h _ (by dsimp only; omega)) a) _ (by omega)) r 0

/-- INFO may be written before the set answers or after it. -/
theorem State.sameRegs_asResult_info (s : State) (res : Nat) (w : Word) :
    ((s.asResult r res).setReg (0x300118 + 64 * r) w).sameRegs ((s.setReg (0x300118 + 64 * r) w).asResult r res) := by
  rw [State.asResult, State.asResult]
  exact State.sameRegs_trans (State.sameRegs_put_setReg _ _ _ (by dsimp only; omega)) (State.sameRegs_put (State.sameRegs_put_setReg _ _ _ (by dsimp only; omega)) _ _)

/-! ### Invalidation command sets (R224, R225) -/

/-- The scope that a set's SCOPE and operands name, none for an empty range (R224). -/
def invScope (p addr len scope : Nat) : Option InvScope :=
  match scope with
  | 0 => some .all
  | 1 => some (.pasid p)
  | 2 => some (.range p (addr / 4096) (addr / 4096))
  | _ => rangeScope p addr len

theorem State.invGo_idle (h : s.asIdle r) (scope : Nat) :
    s.invGo r scope = (invScope (s.get (F.MMU_INV_PASID r)) (s.get (F.MMU_INV_ADDR_ADDR r)) (s.get (F.MMU_INV_LEN_LEN r)) scope).elim (s.put (F.MMU_INV_SCOPE r) scope)
      fun i => (((s.put (F.MMU_INV_SCOPE r) scope).invalidate i { (default : Inval) with bySet := some r, pasid := s.get (F.MMU_INV_PASID r) }).1).put
        (F.MMU_INV_BUSY r) 1 := by
  obtain ⟨-, -, -, hb, -, -, -⟩ := h
  have hf : s.flag (F.MMU_INV_BUSY r) = false := by rw [State.flag, hb]; rfl
  have hp : (s.put (F.MMU_INV_SCOPE r) scope).get (F.MMU_INV_PASID r) = s.get (F.MMU_INV_PASID r) :=
    State.get_put_other _ _ (by simp [Fld.ok]) (by simp [Fld.ok]) (by simp)
  have ha : (s.put (F.MMU_INV_SCOPE r) scope).get (F.MMU_INV_ADDR_ADDR r) = s.get (F.MMU_INV_ADDR_ADDR r) := State.get_put_off _ _ (by simp)
  have hl : (s.put (F.MMU_INV_SCOPE r) scope).get (F.MMU_INV_LEN_LEN r) = s.get (F.MMU_INV_LEN_LEN r) := State.get_put_off _ _ (by simp)
  rw [State.invGo, if_neg (by rw [hf]; exact Bool.false_ne_true), ← hp, ← ha, ← hl]
  generalize s.put (F.MMU_INV_SCOPE r) scope = v
  rcases scope with _ | _ | _ | n
  · simp only [invScope, Option.elim_some]
  · simp only [invScope, Nat.zero_add, Option.elim_some]
  · simp only [invScope, Nat.zero_add, Nat.reduceAdd, Option.elim_some]
  · simp only [invScope]
    cases rangeScope _ _ _ with
    | none => rfl
    | some i => rfl

/-- A scope that holds something is invalidated, and the set is busy until that is done (R224, R225). -/
theorem State.invGo_begins (h : s.asIdle r) {scope : Nat} {i : InvScope}
    (hi : invScope (s.get (F.MMU_INV_PASID r)) (s.get (F.MMU_INV_ADDR_ADDR r)) (s.get (F.MMU_INV_LEN_LEN r)) scope = some i) :
    s.invGo r scope = ((s.invBegun i { (default : Inval) with bySet := some r, pasid := s.get (F.MMU_INV_PASID r) }).put (F.MMU_INV_SCOPE r) scope).put
      (F.MMU_INV_BUSY r) 1 := by
  rw [State.invGo_idle h, hi, Option.elim_some, ← State.invBegun_put]
  obtain ⟨-, -, -, -, -, hwk, hac⟩ := h
  rw [← State.put_walks s (F.MMU_INV_SCOPE r) scope] at hwk
  rw [← State.put_accs s (F.MMU_INV_SCOPE r) scope] at hac
  rw [State.invalidate_idle hwk hac i rfl]

theorem State.calm_invGo (h : s.calm) (i : InvScope) (v : Inval) (scope : Nat) : (((s.invBegun i v).put (F.MMU_INV_SCOPE r) scope).put (F.MMU_INV_BUSY r) 1).calm :=
  State.calm_put (State.calm_put (State.calm_invBegun h i v) _ (by dsimp only; omega)) _ (by dsimp only; omega)

theorem State.calm_asBegun (h : s.calm) (x : Tab Pas) (i : InvScope) (v : Inval) (op : Nat) :
    ((((s.invBegun i v).withPas x).put (F.MMU_AS_CMD_OP r) op).put (F.MMU_AS_CMD_BUSY r) 1).calm :=
  State.calm_put (State.calm_put (State.calm_withPas (State.calm_invBegun h i v) x) _ (by dsimp only; omega)) _ (by dsimp only; omega)

/-- QUERY of an ACTIVE address space completes in the state that shows it. -/
theorem State.completes_query (h : s.asIdle r) {a : Pas} (ha : s.pas.look (s.get (F.MMU_AS_ARG1_PASID r)) = a) (hs : a.st = .active) (hroot : a.root < 2 ^ 52)
    (halign : a.root % 4096 = 0) (hf : a.fn ≤ 128) (hp : a.port < 4) (hq : a.faultEq < 16384) (hd : a.dom.getD 0 < 65536) :
    s.completes (.mmuQuery r) fun t =>
      t = { s with regs := t.regs, outs := t.outs } ∧ t.get (F.MMU_AS_ARG0_ROOT r) * 4096 = a.root ∧ t.flag (F.MMU_AS_ARG0_LEVELS5 r) = a.lv5 ∧
      t.flag (F.MMU_AS_ARG0_PRESET r) = a.preset ∧ t.get (F.MMU_AS_ARG1_PORT r) = a.port ∧ t.get (F.MMU_AS_ARG1_FUNCTION r) = a.fn ∧
      t.get (F.MMU_AS_ARG1_FAULT_EQ r) = a.faultEq ∧ t.get (F.MMU_AS_CMD_RESULT r) = 0 ∧ t.get (F.MMU_AS_CMD_BUSY r) = 0 ∧
      wbits (t.reg (0x300118 + 64 * r)) 1 0 = 1 ∧ wbit (t.reg (0x300118 + 64 * r)) 2 = a.dom.isSome ∧
      wbits (t.reg (0x300118 + 64 * r)) 31 16 = a.dom.getD 0 := by
  have ⟨hm, hr, _⟩ := h
  obtain ⟨n, hv⟩ := State.asQuery_shows h ha (by rw [hs]; decide)
  have hc := State.calm_queried (r := r) hm.1 a n
  obtain ⟨groot, g5, gpre, gport, gfn, gfeq⟩ := State.asShown_get (s := s.put (F.MMU_AS_CMD_OP r) 3) (r := r) hroot hf hp hq
  obtain ⟨gbusy, gres⟩ := s.queried_answers r a n
  obtain ⟨q, o, he⟩ := State.edge_trans (State.edge_queried s r a n) (State.edge_settle _ hc)
  obtain ⟨ist, ibound, idom⟩ := Pas.info_fields hs hd n
  refine ⟨(s.queried r a n).settle, by rw [← hv]; exact State.ended_command hm (by simp [okSet, hr]) _, by rw [he], ?_⟩
  rw [State.settle_reg _ hc (by omega) (by omega), State.queried_info]
  simp (disch := (dsimp only; omega)) only [State.flag, State.settle_get _ hc, gbusy, gres, State.queried_get, groot, gport, gfn, gfeq, true_and]
  exact ⟨by omega, g5, gpre, ist, ibound, idom⟩

end

/-- Settles O31: an idle set carries its command out at once, and where it invalidates, no walk and no access is in the way. -/
theorem addressSpaceCommands : Obligations.AddressSpaceCommands := by
  unfold Obligations.AddressSpaceCommands
  intro s r p h
  have ⟨hm, hr, _⟩ := h
  have ⟨hc, _⟩ := hm
  refine ⟨?_, ?_, ?_, ?_, ?_, ?_, ?_, ?_, ?_, ?_, ?_, ?_, ?_⟩
  · rintro rfl hf hn hq hp hu hcount
    exact State.gives_set hm hr rfl (by rw [State.asCreate_records h hf hn hq hp hu hcount, State.withPas]) (State.calm_withPas (State.calm_asDone hc 0) _)
  · intro hp hf hw he hx
    exact State.gives_set hm hr rfl (by rw [State.asDestroy_begins h hp hf hw he hx, State.withPas]) (State.calm_asBegun hc _ _ _ 1)
  · intro hp hf
    exact State.gives_set hm hr rfl (by rw [State.asClear_clears h hp hf, State.withPas_tlbDrop, State.asDone_tlb]) (State.calm_pas_tlb (State.calm_asDone hc 2) _ _)
  · rintro rfl hf
    refine State.gives_sameRegs (t := s.asQuery r) ?_ (State.ended_command hm (by simp [okSet, hr]) _) (State.calm_setReg (State.calm_asDone hc 3) _ (by omega))
    rw [State.asQuery_free h hf, State.asDone_eq]
    exact State.sameRegs_asResult_info _ 0 0
  · rintro rfl hs hroot halign hf hp hq - hd
    exact State.completes_query h rfl hs hroot halign hf hp hq hd
  · intro hp hf
    exact State.gives_set hm hr rfl (by rw [State.asSetRoot_begins h hp hf, State.withPas]) (State.calm_asBegun hc _ _ _ 4)
  · rintro rfl hf hmsg hcvy
    exact State.gives_set hm hr rfl (State.asRetry_idle h hf hmsg hcvy) (State.calm_asDone hc 5)
  · rintro rfl hf
    exact State.gives_set hm hr rfl (by rw [State.asRetry_refused h hf, State.asResult])
      (State.calm_asResult (State.calm_put hc _ (by dsimp only; omega)) r 1)
  · rintro rfl
    exact State.gives_set hm hr rfl (State.invGo_begins h rfl) (State.calm_invGo hc _ _ 0)
  · rintro rfl
    exact State.gives_set hm hr rfl (State.invGo_begins h rfl) (State.calm_invGo hc _ _ 1)
  · rintro rfl
    exact State.gives_set hm hr rfl (State.invGo_begins h rfl) (State.calm_invGo hc _ _ 2)
  · rintro n rfl hn
    refine State.gives_set hm hr rfl (State.invGo_begins h ?_) (State.calm_invGo hc _ _ 3)
    rw [hn]
    rfl
  · intro hn
    refine State.gives_set hm hr rfl ?_ (State.calm_put hc _ (by dsimp only; omega))
    rw [State.invGo_idle h, hn]
    rfl

end Sys2Proof.Machine
end

section
namespace Sys2Proof.Machine

/-! ### Match context command sets (R269) -/

section
variable {s : State} {r c : Nat}

/-- A state with other match contexts. -/
def State.withMctx (s : State) (x : Tab Mctx) : State := { s with mctx := x }

theorem State.withMctx_put (s : State) (x : Tab Mctx) (f : Fld) (n : Nat) : (s.withMctx x).put f n = (s.put f n).withMctx x := rfl

theorem State.withMctx_matResult (s : State) (x : Tab Mctx) (res : Nat) : (s.withMctx x).matResult r res = (s.matResult r res).withMctx x := by
  rw [State.matResult, State.withMctx_put, State.matResult]

theorem State.calm_withMctx (h : s.calm) (x : Tab Mctx) : (s.withMctx x).calm := State.calm_congr h rfl rfl rfl rfl rfl rfl rfl

theorem State.calm_matResult (h : s.calm) (res : Nat) : (s.matResult r res).calm := State.calm_put h _ (by dsimp only; omega)

/-- A context command set that has been asked `op` and has answered `res`. -/
def State.matAnswered (s : State) (r op res : Nat) : State := (s.put (F.MAT_CTX_CMD_OP r) op).matResult r res

theorem State.matAnswered_eq (s : State) (r op res : Nat) : s.matAnswered r op res = (s.put (F.MAT_CTX_CMD_OP r) op).put (F.MAT_CTX_CMD_RESULT r) res := by
  rw [State.matAnswered, State.matResult]

theorem State.matAnswered_mctx (s : State) (r op res : Nat) : (s.matAnswered r op res).mctx = s.mctx := by
  rw [State.matAnswered_eq, State.put_mctx, State.put_mctx]

theorem State.matAnswered_preds (s : State) (r op res : Nat) : (s.matAnswered r op res).preds = s.preds := by
  rw [State.matAnswered_eq, State.put_preds, State.put_preds]

theorem State.calm_matAnswered (h : s.calm) (op res : Nat) : (s.matAnswered r op res).calm :=
  State.calm_matResult (State.calm_put h _ (by dsimp only; omega)) res

/-- An idle set carries its command out on the context it names. -/
theorem State.matCmd_idle (h : s.ctxIdle r c) (op : Nat) (k : State → Nat → Mctx → State) :
    s.matCmd r op k = k (s.put (F.MAT_CTX_CMD_OP r) op) c (s.mctx.look c) := by
  obtain ⟨-, -, hb, hc⟩ := h
  have hf : s.flag (F.MAT_CTX_CMD_BUSY r) = false := by rw [State.flag, hb]; rfl
  have hn : (s.put (F.MAT_CTX_CMD_OP r) op).get (F.MAT_CTX_CMD_CONTEXT r) = c := by
    rw [State.get_put_other _ _ (by simp [Fld.ok]) (by simp [Fld.ok]) (by simp), hc]
  rw [State.matCmd, if_neg (by rw [hf]; exact Bool.false_ne_true)]
  dsimp only
  rw [hn, State.put_mctx]

/-! ### CREATE (R241, R269) -/

/-- A set's arguments are in range: pages, ring, pool and slot sizes, and a function of its host port. -/
def State.ctxArgsOk (s : State) (r : Nat) : Prop :=
  s.get (F.MAT_CTX_ARG0_POOL_BASE r) % 4096 = 0 ∧ s.get (F.MAT_CTX_ARG1_SPILL_BASE r) % 4096 = 0 ∧ 2 ≤ s.get (F.MAT_CTX_ARG2_ONCHIP_RES r) ∧
  6 ≤ s.get (F.MAT_CTX_ARG2_SPILL_LOG2 r) ∧ s.get (F.MAT_CTX_ARG2_SPILL_LOG2 r) ≤ 20 ∧ s.get (F.MAT_CTX_ARG2_POOL_LOG2 r) ≤ 16 ∧
  12 ≤ s.get (F.MAT_CTX_ARG2_SLOT_LOG2 r) ∧ s.get (F.MAT_CTX_ARG2_SLOT_LOG2 r) ≤ 16 ∧
  s.get (F.MAT_CTX_ARG3_FUNCTION r) ≤ s.get (F.DEV_HOSTPORT_NUMVF (s.get (F.MAT_CTX_ARG3_PORT r)))

/-- The on-chip entries that contexts hold (R241). -/
def State.ctxEntries (s : State) : Nat := s.mctx.vals.foldl (fun n x => if x.st = .free then n else n + x.res) 0

/-- The ENABLED and empty context that a set's arguments describe, in domain `d`. -/
def State.ctxOf (s : State) (r d : Nat) : Mctx := { (default : Mctx) with
  st := .enabled, port := s.get (F.MAT_CTX_ARG3_PORT r), fn := s.get (F.MAT_CTX_ARG3_FUNCTION r), pasid := s.get (F.MAT_CTX_ARG3_PASID r), dom := d
  poolBase := s.get (F.MAT_CTX_ARG0_POOL_BASE r), spillBase := s.get (F.MAT_CTX_ARG1_SPILL_BASE r), spec := s.flag (F.MAT_CTX_ARG2_SPEC r)
  res := s.get (F.MAT_CTX_ARG2_ONCHIP_RES r), spillLog2 := s.get (F.MAT_CTX_ARG2_SPILL_LOG2 r), poolLog2 := s.get (F.MAT_CTX_ARG2_POOL_LOG2 r)
  slotLog2 := s.get (F.MAT_CTX_ARG2_SLOT_LOG2 r) }

theorem State.fnBad_putMatOp (s : State) (op fn : Nat) :
    (s.put (F.MAT_CTX_CMD_OP r) op).fnBad (s.get (F.MAT_CTX_ARG3_PORT r)) fn = s.fnBad (s.get (F.MAT_CTX_ARG3_PORT r)) fn := by
  have hp : s.get (F.MAT_CTX_ARG3_PORT r) < 4 := wbits_lt _ 21 20
  rw [State.fnBad, State.fnBad, State.get_put_off _ _ (by dsimp only; omega)]

/-- CREATE of a FREE context whose arguments are in range, whose entries fit, and whose address space is the function's and has a domain. -/
theorem State.ctxCreate_records (h : s.ctxIdle r c) {d : Nat} {p : Pas} (hf : (s.mctx.look c).st = .free) (ha : s.ctxArgsOk r)
    (ht : s.ctxEntries + s.get (F.MAT_CTX_ARG2_ONCHIP_RES r) ≤ 262144) (hp : s.pas.look (s.get (F.MAT_CTX_ARG3_PASID r)) = p)
    (hport : p.port = s.get (F.MAT_CTX_ARG3_PORT r)) (hfn : p.fn = s.get (F.MAT_CTX_ARG3_FUNCTION r)) (hst : p.st ≠ .free) (hd : p.dom = some d) :
    s.ctxCreate r = (s.matAnswered r 0 0).withMctx (s.mctx.put c (s.ctxOf r d)) := by
  obtain ⟨hpool, hspill, hres, hsl, hsl', hpl, htl, htl', hn⟩ := ha
  have hb : s.fnBad (s.get (F.MAT_CTX_ARG3_PORT r)) (s.get (F.MAT_CTX_ARG3_FUNCTION r)) = false := by simpa [State.fnBad] using hn
  rw [State.ctxCreate, State.matCmd_idle h, State.matAnswered, ← State.withMctx_matResult]
  rw [← State.put_pas s (F.MAT_CTX_CMD_OP r) 0] at hp
  rw [State.ctxEntries, ← State.put_mctx s (F.MAT_CTX_CMD_OP r) 0] at ht
  rw [← State.put_mctx s (F.MAT_CTX_CMD_OP r) 0] at hf ⊢
  simp (disch := (dsimp only [Fld.ok]; omega)) only [State.get_put_off, State.flag_put_other, State.fnBad_putMatOp, hb]
  generalize s.put (F.MAT_CTX_CMD_OP r) 0 = v at *
  rw [if_neg (by simp [hf]), if_neg (by simp; omega), if_neg (Nat.not_lt.2 ht), hp, if_pos ⟨hport, hfn, hst⟩, hd]
  rfl

theorem State.ctxCreate_refused (h : s.ctxIdle r c) (hf : (s.mctx.look c).st ≠ .free) : s.ctxCreate r = s.matAnswered r 0 1 := by
  rw [State.ctxCreate, State.matCmd_idle h]
  exact if_pos (by simpa using hf)

/-! ### DESTROY (R258) -/

theorem Mctx.ne_default_of_st {x : Mctx} (h : x.st ≠ .free) : x ≠ default := by
  rintro rfl
  exact h rfl

/-- A context that is changed and then forgotten is forgotten. -/
theorem Mctx.del_upd (t : Tab Mctx) {f : Mctx → Mctx} (h : (f (t.look c)).st ≠ .free) : (t.upd c f).del c = t.del c :=
  Tab.del_put t c (Mctx.ne_default_of_st h)

/-- With no message under matching there is none to refuse. -/
theorem State.nackMsgs_none (h : s.msgs = []) (p : Msg → Bool) : s.nackMsgs p = s := by
  rw [State.nackMsgs, h, Tab.keysOf_nil, List.foldl_nil]

/-- With no receive posted none completes. -/
theorem State.dropAllPosted_none (h : (s.mctx.look c).allPosted = []) (st : Nat) :
    s.dropAllPosted c st = s.updCtx c fun x => { x with posted := [], postedSpill := [], pheads := 0 } := by
  rw [State.dropAllPosted, h, List.foldl_nil]

/-- With no unexpected member no rendezvous request is answered. -/
theorem State.dropAllUnexp_none (h : (s.mctx.look c).allUnexp = []) :
    s.dropAllUnexp c = s.updCtx c fun x => { x with unexp := [], unexpSpill := [], uheads := 0, slots := [] } := by
  rw [State.dropAllUnexp, h, List.filter_nil, List.foldl_nil]

/-- A state that has forgotten a context and the predictor entries of it. -/
def State.withoutCtx (s : State) (c : Nat) : State := { s with mctx := s.mctx.del c, preds := s.preds.filter fun e => e.2.ctx != c }

theorem State.calm_withoutCtx (h : s.calm) : (s.withoutCtx c).calm := State.calm_congr h rfl rfl rfl rfl rfl rfl rfl

/-- A change of the context before it is forgotten is lost. -/
theorem State.withoutCtx_updCtx (s : State) {f : Mctx → Mctx} (h : (f (s.mctx.look c)).st ≠ .free) : (s.updCtx c f).withoutCtx c = s.withoutCtx c := by
  rw [State.withoutCtx, State.withoutCtx, State.updCtx, Mctx.del_upd _ h]

theorem State.withoutCtx_put (s : State) (f : Fld) (n : Nat) : (s.withoutCtx c).put f n = (s.put f n).withoutCtx c := rfl

theorem State.withoutCtx_matResult (s : State) (res : Nat) : (s.withoutCtx c).matResult r res = (s.matResult r res).withoutCtx c := by
  rw [State.matResult, State.withoutCtx_put, State.matResult]

/-- What DESTROY does with a context's messages and members is nothing where there are none. -/
theorem State.withoutCtx_emptied (hf : (s.mctx.look c).st ≠ .free) (hm : s.msgs = []) (hp : (s.mctx.look c).allPosted = []) (hu : (s.mctx.look c).allUnexp = [])
    (p : Msg → Bool) (st : Nat) : (((s.nackMsgs p).dropAllPosted c st).dropAllUnexp c).withoutCtx c = s.withoutCtx c := by
  rw [State.nackMsgs_none hm, State.dropAllPosted_none hp, State.dropAllUnexp_none, State.withoutCtx_updCtx, State.withoutCtx_updCtx]
  · exact hf
  · rw [State.updCtx, Tab.look_upd_self]
    exact hf
  · rw [State.updCtx, Tab.look_upd_self]
    exact hu

theorem State.ctxDestroy_forgets (h : s.ctxIdle r c) (hf : (s.mctx.look c).st ≠ .free) (hm : s.msgs = []) (hp : (s.mctx.look c).allPosted = [])
    (hu : (s.mctx.look c).allUnexp = []) : s.ctxDestroy r = (s.matAnswered r 1 0).withoutCtx c := by
  rw [State.ctxDestroy, State.matCmd_idle h, State.matAnswered]
  rw [← State.put_msgs s (F.MAT_CTX_CMD_OP r) 1] at hm
  rw [← State.put_mctx s (F.MAT_CTX_CMD_OP r) 1] at hf hp hu ⊢
  generalize s.put (F.MAT_CTX_CMD_OP r) 1 = v at *
  rw [if_neg hf, ← State.withoutCtx_matResult, ← State.withoutCtx_emptied hf hm hp hu (fun m => m.ctx == c) stCancelled, State.withoutCtx]

/-! ### CLEAR (R245) -/

/-- A context as CLEAR leaves it: ENABLED and empty. -/
def Mctx.cleared (x : Mctx) : Mctx :=
  { x with st := .enabled, posted := [], postedSpill := [], unexp := [], unexpSpill := [], pheads := 0, uheads := 0, slots := [], loading := none }

theorem State.ctxClear_clears (h : s.ctxIdle r c) (hf : (s.mctx.look c).st = .error) :
    s.ctxClear r = (s.matAnswered r 2 0).withMctx (s.mctx.upd c Mctx.cleared) := by
  rw [State.ctxClear, State.matCmd_idle h, if_neg (by simp [hf]), State.matAnswered, ← State.withMctx_matResult, State.updCtx, State.put_mctx]
  rfl

theorem State.ctxClear_refused (h : s.ctxIdle r c) (hf : (s.mctx.look c).st ≠ .error) : s.ctxClear r = s.matAnswered r 2 1 := by
  rw [State.ctxClear, State.matCmd_idle h]
  exact if_pos (by simpa using hf)

/-! ### QUERY (R269) -/

/-- A set's MAT_CTX_INFO as QUERY writes an ENABLED context into it. -/
def State.ctxShown (s : State) (r : Nat) (x : Mctx) : State :=
  let v := (s.put (F.MAT_CTX_INFO_DOMAIN r) x.dom).put (F.MAT_CTX_INFO_STATE r) 1
  (v.put (F.MAT_CTX_INFO_POSTED r) (min x.allPosted.length 0xFFFFF)).put (F.MAT_CTX_INFO_UNEXPECTED r) (min x.allUnexp.length 0xFFFFF)

/-- A set that QUERY has answered with an ENABLED context. -/
def State.ctxQueried (s : State) (r : Nat) (x : Mctx) : State := ((s.put (F.MAT_CTX_CMD_OP r) 3).ctxShown r x).matResult r 0

theorem State.ctxQuery_shows (h : s.ctxIdle r c) (hf : (s.mctx.look c).st = .enabled) : s.ctxQuery r = s.ctxQueried r (s.mctx.look c) := by
  rw [State.ctxQuery, State.matCmd_idle h, hf]
  rfl

/-- INFO reads as the context, where its domain and the lengths of its lists fit. -/
theorem State.ctxShown_get {x : Mctx} (hd : x.dom < 65536) (hp : x.allPosted.length < 2 ^ 20) (hu : x.allUnexp.length < 2 ^ 20) :
    (s.ctxShown r x).get (F.MAT_CTX_INFO_DOMAIN r) = x.dom ∧ (s.ctxShown r x).get (F.MAT_CTX_INFO_STATE r) = 1 ∧
    (s.ctxShown r x).get (F.MAT_CTX_INFO_POSTED r) = x.allPosted.length ∧ (s.ctxShown r x).get (F.MAT_CTX_INFO_UNEXPECTED r) = x.allUnexp.length := by
  simp (disch := (dsimp only [Fld.ok]; omega)) only [State.ctxShown, State.get_put_fits, State.get_put_other, true_and]
  exact ⟨Nat.min_eq_left (by omega), Nat.min_eq_left (by omega)⟩

theorem State.ctxQueried_get (s : State) (x : Mctx) {f : Fld} (hf : f.off ≠ 0x401020 + r * 0x40) :
    (s.ctxQueried r x).get f = ((s.put (F.MAT_CTX_CMD_OP r) 3).ctxShown r x).get f := State.get_put_off _ _ hf

theorem State.ctxQueried_result (s : State) (r : Nat) (x : Mctx) : (s.ctxQueried r x).get (F.MAT_CTX_CMD_RESULT r) = 0 :=
  State.get_put_fits _ (by simp [Fld.ok]) (by simp)

theorem State.edge_ctxQueried (s : State) (r : Nat) (x : Mctx) : s.edge (s.ctxQueried r x) :=
  State.edge_put _ _ <| State.edge_put _ _ <| State.edge_put _ _ <| State.edge_put _ _ <| State.edge_put _ _ <| State.edge_put _ _ s.edge_refl

theorem State.calm_ctxShown (h : s.calm) (x : Mctx) : (s.ctxShown r x).calm := by
  unfold State.ctxShown
  refine State.calm_put (State.calm_put (State.calm_put (State.calm_put h _ ?_) _ ?_) _ ?_) _ ?_ <;> (dsimp only; omega)

theorem State.calm_ctxQueried (h : s.calm) (x : Mctx) : (s.ctxQueried r x).calm :=
  State.calm_matResult (State.calm_ctxShown (State.calm_put h _ (by dsimp only; omega)) x) 0

/-- QUERY of an ENABLED context completes in the state that shows it. -/
theorem State.completes_ctxQuery (h : s.ctxIdle r c) {x : Mctx} (hx : s.mctx.look c = x) (hst : x.st = .enabled) (hd : x.dom < 65536)
    (hp : x.allPosted.length < 2 ^ 20) (hu : x.allUnexp.length < 2 ^ 20) :
    s.completes (.matQuery r) fun t =>
      t = { s with regs := t.regs, outs := t.outs } ∧ t.get (F.MAT_CTX_INFO_DOMAIN r) = x.dom ∧ t.get (F.MAT_CTX_INFO_STATE r) = 1 ∧
      t.get (F.MAT_CTX_INFO_POSTED r) = x.allPosted.length ∧ t.get (F.MAT_CTX_INFO_UNEXPECTED r) = x.allUnexp.length ∧ t.get (F.MAT_CTX_CMD_RESULT r) = 0 := by
  have ⟨hm, hr, _⟩ := h
  subst hx
  have hc := State.calm_ctxQueried (r := r) hm.1 (s.mctx.look c)
  obtain ⟨q, o, he⟩ := State.edge_trans (State.edge_ctxQueried s r (s.mctx.look c)) (State.edge_settle _ hc)
  obtain ⟨gdom, gst, gposted, gunexp⟩ := State.ctxShown_get (s := s.put (F.MAT_CTX_CMD_OP r) 3) (r := r) hd hp hu
  refine ⟨(s.ctxQueried r (s.mctx.look c)).settle, by rw [← State.ctxQuery_shows h hst]; exact State.ended_command hm (by simp [okSet, hr]) _, by rw [he], ?_⟩
  simp (disch := (dsimp only; omega)) only [State.settle_get _ hc, State.ctxQueried_result, State.ctxQueried_get, gdom, gst, gposted, gunexp, and_self]

end

/-- Settles O34: an idle set carries its command out at once, and a context without messages and members has nothing to give up. -/
theorem matchContextCommands : Obligations.MatchContextCommands := by
  unfold Obligations.MatchContextCommands
  intro s r c h
  have ⟨hm, hr, _⟩ := h
  have ⟨hc, _⟩ := hm
  refine ⟨?_, ?_, ?_, ?_, ?_, ?_⟩
  · intro d hf hpool hspill hres hsl hsl' hpl htl htl' hn ht hport hfn hst hd
    have ha : s.ctxArgsOk r := ⟨hpool, hspill, hres, hsl, hsl', hpl, htl, htl', hn⟩
    rw [← State.matAnswered_eq]
    exact State.gives_set hm hr rfl (State.ctxCreate_records h hf ha ht rfl hport hfn hst hd) (State.calm_withMctx (State.calm_matAnswered hc 0 0) _)
  · intro hf
    rw [← State.matAnswered_eq]
    exact State.gives_set hm hr rfl (State.ctxCreate_refused h hf) (State.calm_matAnswered hc 0 1)
  · intro hf hmsg hp hps hu hus
    have hposted : (s.mctx.look c).allPosted = [] := by rw [Mctx.allPosted, hp, hps]; rfl
    have hunexp : (s.mctx.look c).allUnexp = [] := by rw [Mctx.allUnexp, hu, hus]; rfl
    rw [← State.matAnswered_eq, ← State.matAnswered_mctx s r 1 0, ← State.matAnswered_preds s r 1 0]
    exact State.gives_set hm hr rfl (State.ctxDestroy_forgets h hf hmsg hposted hunexp) (State.calm_withoutCtx (State.calm_matAnswered hc 1 0))
  · intro hf
    rw [← State.matAnswered_eq]
    exact State.gives_set hm hr rfl (State.ctxClear_clears h hf) (State.calm_withMctx (State.calm_matAnswered hc 2 0) _)
  · intro hf
    rw [← State.matAnswered_eq]
    exact State.gives_set hm hr rfl (State.ctxClear_refused h hf) (State.calm_matAnswered hc 2 1)
  · intro hst hd hp hu
    exact State.completes_ctxQuery h rfl hst hd hp hu

end Sys2Proof.Machine
end

section
namespace Sys2Proof.Machine

/-! ### Refutation: remote requests of a device that was draining -/

/-- The device that is Degraded from Drain, its key table enabled and no entry of it cached. -/
def degradedKeys : State := degradedDrain.put F.RMA_KTAB_CTRL_EN 1

/-- The first packet of a PUT of 3 bytes on its pair channel, under a key of INDEX 0. -/
def firstPut : Packet := { eagerOf3 with op := .put, sealed := ⟨11, dataIv 4 3 7 2 (pktCode .put 1) 100 8 0 0, true⟩ }

theorem degradedKeys_calm : degradedKeys.calm := by decide

theorem degradedKeys_delivers : degradedKeys.delivers firstPut (pairKey 1 2 4 3 1) 1 := by decide +kernel

/-- It refuses the PUT with DOMAIN_DOWN (R532), and nobody waits for the key's entry. -/
theorem degradedKeys_refuses :
    (match exec (.putArrival firstPut) degradedKeys with | .next t => t.kwait | _ => [(0, .pair 0)]) = [] := by decide +kernel

/-- Refutes O36: a device that is Degraded from Drain refuses the first packet of a PUT (R532, R534), before it looks for the key. -/
theorem not_remoteRequestsAtTheTarget : ¬ Obligations.RemoteRequestsAtTheTarget := by
  unfold Obligations.RemoteRequestsAtTheTarget
  intro h
  obtain ⟨-, -, -, -, hread, -⟩ := h degradedKeys firstPut (pairKey 1 2 4 3 1) 1 (keyIndex firstPut.rkey) 0 0 0 default degradedKeys_calm degradedKeys_delivers rfl rfl (by decide)
  obtain ⟨t, ht, hu, -⟩ := hread rfl (by decide) (by decide) rfl rfl
  have hn := degradedKeys_refuses
  have hw : t.kwait = [(keyIndex firstPut.rkey, .pair (pairKey 1 2 4 3 1))] := by
    rw [congrArg State.kwait hu]
    exact State.out_kwait _ _
  rw [ht] at hn
  exact absurd (hw.symm.trans hn) (by decide)

end Sys2Proof.Machine
end

section
namespace Sys2Proof.Machine

/-! ### What answering a packet changes -/

/-- The states differ in what sends answers and settles accounts alone: gatherer counts, ledgers, injection queues, and control packets. -/
def State.replied (s t : State) : Prop :=
  (∃ r d j i c w, t = { s with regs := r, doms := d, inj := j, rin := i, ctlSent := c, ctlWait := w }) ∧
  ∀ off, off < 0x52000 ∨ 0x52800 ≤ off → t.reg off = s.reg off

section
variable {s t u : State}

theorem State.replied_refl (s : State) : s.replied s := ⟨⟨_, _, _, _, _, _, rfl⟩, fun _ _ => rfl⟩

theorem State.replied_trans (h : s.replied t) (h' : t.replied u) : s.replied u := by
  obtain ⟨⟨r, d, j, i, c, w, rfl⟩, hr⟩ := h
  obtain ⟨⟨r', d', j', i', c', w', rfl⟩, hr'⟩ := h'
  exact ⟨⟨r', d', j', i', c', w', rfl⟩, fun off ho => (hr' off ho).trans (hr off ho)⟩

theorem State.replied_of_counted (h : s.counted t) : s.replied t := by
  obtain ⟨r, rfl, hr⟩ := h
  exact ⟨⟨r, _, _, _, _, _, rfl⟩, hr⟩

theorem State.calm_replied (h : s.replied t) (hc : s.calm) : t.calm := by
  obtain ⟨⟨r, d, j, i, c, w, rfl⟩, hr⟩ := h
  exact State.calm_congr hc rfl rfl rfl rfl rfl rfl (hr _ (by decide))

theorem State.replied_ledger (s : State) (dom n amount : Nat) : s.replied (s.ledger dom n amount) := by
  rw [State.ledger_form]
  exact ⟨⟨_, _, _, _, _, _, rfl⟩, fun _ _ => rfl⟩

theorem State.replied_inject (s : State) (p : Packet) (cls : Nat) (scav : Bool) : s.replied (s.inject p cls scav) :=
  ⟨⟨_, _, _, _, _, _, rfl⟩, fun _ _ => rfl⟩

theorem State.replied_toRouter (s : State) (cls : Nat) (b : UnitBody) : s.replied (s.toRouter cls b) := ⟨⟨_, _, _, _, _, _, rfl⟩, fun _ _ => rfl⟩

theorem State.replied_respond (s : State) (k : Nat) (req : Packet) (op : PktOp) (raddr : Nat) (payload : List Byte) (last : Bool) :
    s.replied (s.respond k req op raddr payload last) := by
  unfold State.respond
  extract_lets r
  split
  · split
    · exact s.replied_refl
    · exact s.replied_inject _ _ _
  · exact s.replied_refl

theorem State.replied_sendCtl (s : State) (port fn node func chan dom : Nat) (kind : CtlKind) (psn status : Nat) (arg : Word) (body : List Word) (dstInc : Nat) :
    s.replied (s.sendCtl port fn node func chan dom kind psn status arg body dstInc) := by
  unfold State.sendCtl
  extract_lets key
  split
  · split
    · exact s.replied_refl
    · extract_lets
      split
      · exact ⟨⟨_, _, _, _, _, _, rfl⟩, fun _ _ => rfl⟩
      · have hsent : ∀ x, s.replied { s with ctlSent := x } := fun x => ⟨⟨_, _, _, _, _, _, rfl⟩, fun _ _ => rfl⟩
        exact State.replied_trans (State.replied_trans (hsent _) (State.replied_of_counted (State.counted_count _ _ _ _ _))) (State.replied_toRouter _ _ _)
  · exact s.replied_refl

theorem State.replied_prx (h : s.replied t) : t.prx = s.prx := by obtain ⟨⟨_, _, _, _, _, _, rfl⟩, -⟩ := h; rfl

/-- A state with other receive records. -/
def State.withPrx (s : State) (x : Tab PairRx) : State := { s with prx := x }

theorem State.calm_withPrx (h : s.calm) (x : Tab PairRx) : (s.withPrx x).calm := State.calm_congr h rfl rfl rfl rfl rfl rfl rfl

theorem State.replied_withPrx (h : s.replied t) (x : Tab PairRx) : (s.withPrx x).replied (t.withPrx x) := by
  obtain ⟨⟨r, d, j, i, c, w, rfl⟩, hr⟩ := h
  exact ⟨⟨r, d, j, i, c, w, rfl⟩, hr⟩

end

/-! ### A packet that has been handled (R393, R395) -/

/-- The record once its packet has been handled, with what acknowledgement it owes. -/
def PairRx.handled (r : PairRx) (owed : Nat) : PairRx :=
  { r with expected := (r.expected + 1) % 2 ^ 24, cur := none, st := .idle, heldAge := 0, owedAcks := owed, keyVer := none }

section
variable {s : State} {k : Nat}

/-- An idle pair channel has no packet to hand over. -/
theorem State.pairNext_idle (h : s.rxIdle k) : s.pairNext k = s := by
  obtain ⟨-, hh, hd⟩ := h
  have hp : s.rxPop k = (s, none) := by
    unfold State.rxPop
    simp only [hh, hd, List.find?_nil, ite_self]
  simp only [State.pairNext, hp, ite_self]

/-- The record moves on by one, whatever is answered, and the next packet is looked at. -/
theorem State.rxHandled_moves (hd : (s.prx.look k).curDup = false) (last : Bool) :
    ∃ (t : State) (x : Tab PairRx) (n : Nat), s.rxHandled k last = t.later (.pairNext k) ∧ (s.withPrx x).replied t ∧ x.look k = (s.prx.look k).handled n := by
  unfold State.rxHandled
  extract_lets r psn v w
  have hv : s.replied v := by
    unfold v
    split
    · exact s.replied_refl
    · exact s.replied_ledger _ _ _
  rw [if_neg (by simp [r, hd])]
  have hw : (s.withPrx w.prx).replied w := State.replied_withPrx hv w.prx
  have hl : w.prx.look k = (s.prx.look k).handled ((s.prx.look k).owedAcks + 1) := by
    simp [w, State.updRx, State.replied_prx hv, PairRx.handled]
  split
  · refine ⟨_, (w.prx.upd k fun r => { r with owedAcks := 0 }), 0, rfl, ?_, ?_⟩
    · exact State.replied_trans (State.replied_withPrx hw _) (State.replied_sendCtl _ _ _ _ _ _ _ _ _ _ _ _ _)
    · rw [Tab.look_upd_self, hl]
      rfl
  · exact ⟨w, w.prx, _, rfl, hw, hl⟩

end

/-! ### Atomics (R289 to R292) -/

section
variable {s : State} {line k pa x old : Nat} {ks : List Nat} {p : Packet}

/-- The pair channel at the head of a line's queue is the atomic that waits for the lock, or holds it. -/
theorem State.lineHolder_head (hq : (s.lines.look line).q = k :: ks) (hp : (s.prx.look k).cur = some p)
    (hs : (s.prx.look k).st = .lineWait x pa ∨ (s.prx.look k).st = .line x pa) : s.lineHolder line = some (k, p, pa) := by
  rcases hs with hs | hs <;> simp only [State.lineHolder, hq, hp, hs]

/-- The atomic `p` of pair channel `k` holds a line, before the channels of `ks`, at a physical address. -/
abbrev State.holdsLine (s : State) (line k : Nat) (ks : List Nat) (p : Packet) (x pa : Nat) : Prop :=
  (s.lines.look line).q = k :: ks ∧ (s.lines.look line).granted = true ∧ (s.prx.look k).cur = some p ∧ (s.prx.look k).st = .line x pa

/-- The pair channel holds no packet beside `p`, which is no duplicate and signals no counter. -/
abbrev State.handlesAlone (s : State) (k : Nat) (p : Packet) : Prop :=
  (s.prx.look k).held = [] ∧ (s.prx.look k).dups = [] ∧ (s.prx.look k).curDup = false ∧ p.sigr = false

/-- The head of a line's queue has taken the lock on a path (R289, R291). -/
def State.lineTaken (s : State) (line k pa : Nat) (atHost : Bool) : State :=
  { s with
    prx := s.prx.upd k fun r => { r with st := .line line pa }
    lines := s.lines.put line { s.lines.look line with granted := true, pa := pa, atomicOp := atHost } }

theorem State.calm_lineTaken (h : s.calm) (atHost : Bool) : (s.lineTaken line k pa atHost).calm := State.calm_congr h rfl rfl rfl rfl rfl rfl rfl

section
variable (hq : (s.lines.look line).q = k :: ks) (hg : (s.lines.look line).granted = false) (hp : (s.prx.look k).cur = some p) (hs : (s.prx.look k).st = .lineWait x pa)
include hq hg hp hs

/-- The grant of a free line: which path it takes, and what it asks of the host there. -/
theorem State.lineGrant_head {atHost : Bool} {o : Out}
    (hn : ((s.get F.RMA_ATOMIC_CTRL_ATOMICOP).testBit (s.prx.look k).port && (amoSub p == 0 || amoSub p == 10 || (amoSub p == 11 && !amoW32 p))) = atHost)
    (ho : o = if atHost then .hostAtomic (2 ^ 60 + line) (s.prx.look k).port (s.prx.look k).fn pa (amoSub p) (amoBytes p) (BitVec.ofNat 64 (ofBytes (p.payload.take 8)))
        (BitVec.ofNat 64 (ofBytes ((p.payload.drop 8).take 8))) else .hostRead (2 ^ 60 + line) (s.prx.look k).port (s.prx.look k).fn [(pa / 8 * 8, 8)]) :
    ((s.lineTaken line k pa atHost).said o).counted (s.lineGrant line) := by
  have hcount := State.counted_said (State.counted_count (s.lineTaken line k pa atHost) (if atHost then 0x0501 else 0x0502) (s.prx.look k).port 1 (some (s.prx.look k).dom)) o
  have he : s.lineGrant line = ((s.lineTaken line k pa atHost).count (if atHost then 0x0501 else 0x0502) (s.prx.look k).port 1 (some (s.prx.look k).dom)).out o := by
    unfold State.lineGrant
    extract_lets l
    rw [if_neg (by simp [l, hg, hq]), State.lineHolder_head hq hp (.inl hs), ho]
    simp only [hn]
    cases atHost <;> rfl
  rw [he]
  exact State.counted_trans hcount (State.counted_out _ _)

end

/-- The head's operation is over: the lock is free for the next, and the result of an AMOF is kept (R290, R292). -/
def State.amoOver (s : State) (line k : Nat) (p : Packet) (old : Nat) : State :=
  { s.lineFree line with
    amoRes := if amoFetch p then s.amoRes.put (amoKey k p.psn) ⟨k, p.psn, BitVec.ofNat 64 old, 2 * s.lifetime, false⟩ else s.amoRes }

theorem State.calm_amoOver (h : s.calm) (line k : Nat) (p : Packet) (old : Nat) : (s.amoOver line k p old).calm :=
  State.calm_congr h rfl rfl rfl rfl rfl rfl rfl

theorem State.lifetime_congr {s t : State} (h : t.regs = s.regs) : t.lifetime = s.lifetime := by
  rw [State.lifetime, State.atLeast, State.get_congr h, State.lifetime, State.atLeast]

/-- Beside the answer and the pair channel's next packet, an atomic that finishes leaves its line free and its result kept. -/
theorem State.amoFinish_replies (s : State) (line k : Nat) {p : Packet} (old : Nat) (hsig : p.sigr = false) :
    ∃ v, (s.amoOver line k p old).replied v ∧ s.amoFinish line k p old = v.rxHandled k p.last := by
  have hl : (s.lineFree line).lifetime = s.lifetime := State.lifetime_congr rfl
  have hr : (s.lineFree line).amoRes = s.amoRes := rfl
  unfold State.amoFinish State.amoOver State.remoteSignal
  by_cases hf : amoFetch p = true
  · simp only [hf, hsig, hl, hr, ↓reduceIte, Bool.false_and, Bool.false_eq_true]
    exact ⟨_, State.replied_respond _ _ _ _ _ _ _, rfl⟩
  · simp only [hf, hsig, ↓reduceIte, Bool.false_and, Bool.false_eq_true]
    exact ⟨_, State.replied_refl _, rfl⟩

/-- An atomic of an idle pair channel finishes: the line is free, the result kept, the record moved on; what else changes answers it. -/
theorem State.amoFinish_settles (hc : s.calm) (hk : s.handlesAlone k p) (line old : Nat) :
    ∃ (u : State) (x : Tab PairRx) (n : Nat), (s.amoFinish line k p old).settle = u.settle ∧ u.calm ∧ ((s.amoOver line k p old).withPrx x).replied u ∧
      x.look k = (s.prx.look k).handled n := by
  obtain ⟨hh, hdup, hd, hsig⟩ := hk
  obtain ⟨v, hv, he⟩ := s.amoFinish_replies line k old hsig
  have hprx : v.prx = s.prx := (State.replied_prx hv).trans rfl
  obtain ⟨u, x, n, hu, hur, hx⟩ := State.rxHandled_moves (s := v) (k := k) (by rw [hprx]; exact hd) p.last
  have hall := State.replied_trans (State.replied_withPrx hv x) hur
  rw [hprx] at hx
  have huc : u.calm := State.calm_replied hall (State.calm_withPrx (State.calm_amoOver hc line k p old) x)
  have hidle : u.rxIdle k := by
    have hl : u.prx.look k = (s.prx.look k).handled n := by rw [State.replied_prx hall]; exact hx
    rw [State.rxIdle, hl]
    exact ⟨rfl, hh, hdup⟩
  exact ⟨u, x, n, by rw [he, hu, State.settle_later (w := .pairNext k) huc.1 (State.pairNext_idle hidle) huc], huc, hall, hx⟩

/-- What a finished atomic leaves of its line, its pair channel, its result and the outputs. -/
theorem State.amoFinish_leaves (hc : s.calm) (hk : s.handlesAlone k p) (hq : (s.lines.look line).q = k :: ks) (old : Nat) :
    ∃ u : State, (s.amoFinish line k p old).settle = u.settle ∧ u.calm ∧ u.outs = s.outs ∧
      (u.settle.lines.look line).q = ks ∧ (u.settle.lines.look line).granted = false ∧ (u.settle.prx.look k).cur = none ∧
      (u.settle.prx.look k).expected = ((s.prx.look k).expected + 1) % 2 ^ 24 ∧
      (amoFetch p = true → u.settle.amoRes.look (amoKey k p.psn) = ⟨k, p.psn, BitVec.ofNat 64 old, 2 * s.lifetime, false⟩) := by
  obtain ⟨u, x, n, he, huc, hu, hx⟩ := State.amoFinish_settles hc hk line old
  have hprx : u.prx.look k = (s.prx.look k).handled n := by rw [State.replied_prx hu]; exact hx
  obtain ⟨⟨r, d, j, i, c, w, hform⟩, -⟩ := hu
  have hlines : u.lines.look line = { s.lines.look line with q := ks, granted := false } := by
    rw [hform]
    simp [State.withPrx, State.amoOver, State.lineFree, hq]
  refine ⟨u, he, huc, by rw [hform]; rfl, ?_⟩
  rw [State.settle_lines _ huc, State.settle_prx _ huc, State.settle_amoRes _ huc, hlines, hprx]
  refine ⟨rfl, rfl, rfl, rfl, fun hf => ?_⟩
  rw [hform]
  simp [State.withPrx, State.amoOver, hf]

end

end Sys2Proof.Machine
end

section
namespace Sys2Proof.Machine

/-! ### What the host returns to an atomic (R290, R291) -/

section
variable {s : State} {line k pa x old : Nat} {ks : List Nat} {p : Packet}

theorem State.exec_lineLockGrant (h : s.calm) (line : Nat) : exec (.lineLockGrant line) s = .next (s.lineGrant line).settle := ended_fabric h rfl _

theorem State.exec_atomicReadReturn (h : s.calm) (line : Nat) (r : ReadRes) : exec (.atomicReadReturn line r) s = .next (s.amoRead line r).settle :=
  ended_fabric h rfl _

theorem State.exec_atomicopComplete (h : s.calm) (line : Nat) (r : ReadRes) : exec (.atomicopComplete line r) s = .next (s.amoNative line r).settle :=
  ended_fabric h rfl _

theorem State.exec_amoResultExpiry (h : s.calm) (key : Nat) : exec (.amoResultExpiry key) s = .next (s.amoExpire key).settle := ended_fabric h rfl _

theorem amoBytes_wide (hw : amoW32 p = false) : amoBytes p = 8 := by simp [amoBytes, hw]

/-- A word is its value modulo 64 bits. -/
theorem toNat_mod_word (ho : old < 2 ^ 64) : (BitVec.ofNat 64 old).toNat % 2 ^ (8 * 8) = old := by
  simp only [BitVec.toNat_ofNat]
  omega

/-- The word that a 64-bit atomic's read returns is replaced by its result, and the atomic finishes (R290). -/
theorem State.amoRead_word (hl : s.holdsLine line k ks p x pa) (ha : (s.lines.look line).atomicOp = false) (hw : amoW32 p = false) (ho : old < 2 ^ 64) :
    s.amoRead line (.ok [BitVec.ofNat 64 old]) = (s.out (.hostWrite (s.prx.look k).port (s.prx.look k).fn [(pa, 8)]
      (leBytes (amoResult (amoSub p) 64 old (ofBytes (p.payload.take 8)) (ofBytes ((p.payload.drop 8).take 8))) 8))).amoFinish line k p old := by
  obtain ⟨hq, hg, hp, hs⟩ := hl
  unfold State.amoRead
  extract_lets l
  rw [if_neg (by simp [l, hg, ha]), State.lineHolder_head hq hp (.inr hs)]
  simp only [amoBytes_wide hw, hw, List.headD_cons, Bool.false_and, Bool.false_eq_true, ↓reduceIte, toNat_mod_word ho]

/-- An AtomicOp's completion of a 64-bit atomic returns its old value, and the atomic finishes (R291). -/
theorem State.amoNative_word (hl : s.holdsLine line k ks p x pa) (ha : (s.lines.look line).atomicOp = true) (hw : amoW32 p = false) (ho : old < 2 ^ 64) :
    s.amoNative line (.ok [BitVec.ofNat 64 old]) = s.amoFinish line k p old := by
  obtain ⟨hq, hg, hp, hs⟩ := hl
  unfold State.amoNative
  extract_lets l
  rw [if_neg (by simp [l, hg, ha]), State.lineHolder_head hq hp (.inr hs)]
  simp only [amoBytes_wide hw, List.headD_cons, toNat_mod_word ho]

/-- The read's return of a 64-bit atomic writes the new value, and the atomic finishes (R290, R292). -/
theorem State.completes_amoRead (h : s.calm) (hl : s.holdsLine line k ks p x pa)
    (ha : (s.lines.look line).atomicOp = false) (hw : amoW32 p = false) (ho : old < 2 ^ 64) (hk : s.handlesAlone k p) :
    s.completes (.atomicReadReturn line (.ok [BitVec.ofNat 64 old])) fun t =>
      (.hostWrite (s.prx.look k).port (s.prx.look k).fn [(pa, 8)]
        (leBytes (amoResult (amoSub p) 64 old (ofBytes (p.payload.take 8)) (ofBytes ((p.payload.drop 8).take 8))) 8)) ∈ s.newOuts t ∧
      (t.lines.look line).q = ks ∧ (t.lines.look line).granted = false ∧ (t.prx.look k).cur = none ∧ (t.prx.look k).expected = ((s.prx.look k).expected + 1) % 2 ^ 24 ∧
      (amoFetch p = true → t.amoRes.look (amoKey k p.psn) = ⟨k, p.psn, BitVec.ofNat 64 old, 2 * s.lifetime, false⟩) := by
  have he := (State.exec_atomicReadReturn h line _).trans (congrArg (fun t : State => Host.Outcome.next t.settle) (State.amoRead_word hl ha hw ho))
  generalize Out.hostWrite (s.prx.look k).port (s.prx.look k).fn [(pa, 8)] _ = o at he ⊢
  obtain ⟨r, hform, hreg⟩ := s.counted_out o
  have hlife : (s.out o).lifetime = s.lifetime := by
    rw [State.lifetime, State.atLeast, State.counted_get (s.counted_out o) (by decide)]
    rfl
  have hu := State.amoFinish_leaves (s := s.out o) (k := k) (line := line) (p := p) (ks := ks) (State.calm_counted (s.counted_out o) (State.calm_said h o))
    (by rw [State.handlesAlone, State.out_prx]; exact hk) (by rw [State.out_lines]; exact hl.1) old
  obtain ⟨u, hst, huc, houts, hleft⟩ := hu
  rw [hlife, State.out_prx] at hleft
  refine ⟨_, he.trans (by rw [hst]), State.mem_newOuts (State.upTo_settle u huc) ?_, hleft⟩
  rw [houts, hform]
  rfl

/-- A result that is acknowledged, or kept for its time, is forgotten (R292). -/
theorem State.amoExpire_due {key : Nat} {a : AmoRes} (hf : (s.amoRes.find? fun e => e.1 == key) = some (key, a)) (hd : a.left = 0 ∨ a.acked = true) :
    s.amoExpire key = { s with amoRes := s.amoRes.del key } := by
  simp only [State.amoExpire, hf, if_pos hd]

end

/-! ### Responses at the requester (R402) -/

section
variable {s : State} {p : Packet} {j ch va port : Nat} {x : TxPkt}

theorem State.exec_getRespArrival (h : s.calm) (hk : okPacket p = true) (ho : p.op = .getResp) : exec (.getRespArrival p) s = .next (s.getResp p).settle := by
  refine (ended_fabric h hk _).trans ?_
  rw [if_pos ho]

theorem State.exec_amoRespArrival (h : s.calm) (hk : okPacket p = true) (ho : p.op = .amoResp) : exec (.amoRespArrival p) s = .next (s.amoRespIn p).settle := by
  refine (ended_fabric h hk _).trans ?_
  rw [if_pos ho]

/-- A response reaches the device's endpoint on a port, young and intact, and its tag verifies (R402, R403). -/
abbrev State.takesResp (s : State) (p : Packet) (port : Nat) : Prop :=
  p.crcOk = true ∧ s.endpoint p.dstNode = some (s.self, port) ∧ s.quiet = false ∧ s.age p.birth ≤ s.lifetime ∧ s.tagOk p = true

/-- A response that passes its checks, and whose operation sent the packet that it answers, goes to that operation (R402). -/
theorem State.respMatch_found (hr : s.takesResp p port)
    (hj : (s.ops.keysOf fun o => o.live && o.fin.isNone && o.eng == .bulk && o.src.1 / 4 * 4 == pairKey port p.dstFunc p.srcNode p.srcFunc 0 &&
      (if p.op = .rgetResp then o.opcode == 0x31 && o.x.sub == wbits p.opid 31 0
        else o.opid == wbits p.opid 31 0 && (if p.op = .amoResp then o.opcode == 0x25 else o.opcode == 0x21 || o.opcode == 0x23))) = [j])
    (hx : ((s.ptx.look (s.ops.look j).src.1).pkts.find? fun x => x.op == j && x.psn == p.psn) = some x) (f : State → Nat → Nat → State) :
    s.respMatch p f = f s j x.loff := by
  obtain ⟨hc, he, hq, ha, ht⟩ := hr
  unfold State.respMatch
  simp only [he, hc, hq, ht, hj, hx, Nat.not_lt.2 ha, bne_self_eq_false, decide_false, Bool.or_self, Bool.not_true, Bool.false_eq_true, ↓reduceIte]

/-- Data within one page and one burst is placed by one burst (R297). -/
theorem cutBursts_one {size : Nat} (mk : Nat → Nat → Nat → List Byte → Burst) (off : Nat) {data : List Byte} (h0 : 0 < data.length) (hs : data.length ≤ size)
    (hp : va % 4096 + data.length ≤ 4096) : cutBursts size mk (data.length + 1) [(va, data.length)] off data = [mk off va data.length data] := by
  have hm : min (min size data.length) (4096 - va % 4096) = data.length := by omega
  have hn : data.length ≠ 0 := by omega
  have hrest : ∀ f va o d, cutBursts size mk f [(va, 0)] o d = [] := by
    intro f va o d
    cases f with
    | zero => rfl
    | succ f => cases f <;> rfl
  rw [cutBursts]
  simp only [hn, hm, if_false, List.take_length, Nat.sub_self, hrest]

/-- A response's data that is within its request's range and not placed yet is put in front of the channel's bursts (R298, R402). -/
theorem State.getResp_places (hm : ∀ f : State → Nat → Nat → State, s.respMatch p f = f s j x.loff) (h0 : 0 < p.payload.length) (hs : p.payload.length ≤ s.burstSize ch)
    (hp : va % 4096 + p.payload.length ≤ 4096) (hlo : x.loff ≤ wbits p.raddr 31 0) (hhi : wbits p.raddr 31 0 + p.payload.length ≤ (s.ops.look j).x.total)
    (hcov : covered (s.ops.look j).got (wbits p.raddr 31 0) p.payload.length = false) (hb : (s.ops.look j).bound = some ch) (hbs : (s.chans.look ch).bursts = [])
    (hjs : (s.chans.look ch).jumped = []) (hl : (s.ops.look j).localAt (wbits p.raddr 31 0) p.payload.length = [(va, p.payload.length)]) :
    s.getResp p = { s with
      chans := s.chans.upd ch fun x => { x with
        jumped := [{ (default : Burst) with
          id := x.nextId, op := j, kind := .placeResp p.psn, off := wbits p.raddr 31 0, len := p.payload.length, pieces := [(va, p.payload.length)], data := p.payload }]
        nextId := x.nextId + 1 } } := by
  have hne : p.payload.isEmpty = false := List.isEmpty_eq_false_iff.2 (List.ne_nil_of_length_pos h0)
  have hplace : s.getResp p = s.placeResp j p (wbits p.raddr 31 0) := by
    unfold State.getResp
    rw [hm]
    simp [hb, hbs, hjs, hcov, hlo, hhi]
  rw [hplace, State.placeResp]
  simp only [hb, hne, hl, Bool.false_eq_true, ↓reduceIte]
  rw [cutBursts_one _ _ h0 hs hp, State.jump, List.foldl_cons, List.foldl_nil, State.updChan, Tab.upd_congr]
  rw [hjs, List.nil_append]

/-- A control packet leaves for an endpoint, under a domain with a key, as the first of its kind and PSN in the stage (R388, R443). -/
theorem State.sentCtl_sendCtl {port fn node func chan dom psn status dstInc : Nat} {kind : CtlKind} {arg : Word} {body : List Word} (h : s.answers node dom) :
    (s.sendCtl port fn node func chan dom kind psn status arg body dstInc).sentCtl kind psn node func = true := by
  obtain ⟨hq, hc, hn, hk⟩ := h
  obtain ⟨e, he⟩ := Option.isSome_iff_exists.1 hn
  obtain ⟨key, hkey⟩ := Option.isSome_iff_exists.1 hk
  unfold State.sendCtl
  simp only [he, hkey, hq, hc, List.contains_nil, Bool.false_eq_true, ↓reduceIte]
  simp [State.sentCtl, State.toRouter]

/-- An AMOF whose response has come: it has its outcome, and its packets no longer name it (R402). -/
def State.amoAnswered (s : State) (j : Nat) (v : Word) : State :=
  ({ s with ops := s.ops.put j { s.ops.look j with fin := some (stOk, 8, some v) } }).txForget (s.ops.look j).src.1 j

/-- Nothing is left to do for it but, on the bulk mover, to look for waiters for room. -/
theorem State.opFin_answered (hl : (s.ops.look j).live = true) (hf : (s.ops.look j).fin = none) (v : Word) :
    (s.opFin j stOk 8 (some v)).txForget (s.ops.look j).src.1 j = s.amoAnswered j v ∨
      (s.opFin j stOk 8 (some v)).txForget (s.ops.look j).src.1 j = (s.amoAnswered j v).later (.room .bulk) := by
  unfold State.opFin
  extract_lets o
  rw [if_pos (by simp [o, hl, hf])]
  split
  · exact .inr rfl
  · exact .inl rfl

theorem State.calm_amoAnswered (h : s.calm) (v : Word) : (s.amoAnswered j v).calm := by
  obtain ⟨hw, hp, hr, ha, hv, hm, hh⟩ := h
  exact ⟨hw, hp, hr, ha, Tab.keysOf_put_nil j hv (by simp), hm, hh⟩

theorem State.sentCtl_congr {t : State} (h : t.rin = s.rin) (kind : CtlKind) (psn node func : Nat) : t.sentCtl kind psn node func = s.sentCtl kind psn node func := by
  rw [State.sentCtl, h, State.sentCtl]

/-- A happening that a command left stays through what it answers. -/
theorem State.replied_later {a b : State} {w : Work} (ha : a.work = []) (h : (a.later w).replied b) : b.work = [w] ∧ a.replied { b with work := [] } := by
  obtain ⟨⟨r, d, j, i, c, y, rfl⟩, hr⟩ := h
  cases a
  cases ha
  exact ⟨rfl, ⟨r, d, j, i, c, y, rfl⟩, hr⟩

/-- What answers an operation that has ended settles on itself: with no channel and nothing displaced, nobody waits for room (R303). -/
theorem State.settle_replied_room {a b : State} {e : Engine} (ha : a.calm) (hn : a.noChannelWork) (h : (a.later (.room e)).replied b) :
    ∃ t, b.settle = t.settle ∧ a.replied t ∧ t.rin = b.rin := by
  obtain ⟨hu, hch⟩ := hn
  obtain ⟨hb, ht⟩ := State.replied_later ha.1 h
  have hsweep : ({ b with work := [] } : State).sweep = { b with work := [] } := by
    obtain ⟨⟨_, _, _, _, _, _, rfl⟩, -⟩ := h
    exact State.sweep_none hu hch
  exact ⟨_, State.settle_single hb hsweep (State.calm_replied ht ha), ht, rfl⟩

/-- The requester ends the operation and acknowledges its response. -/
theorem State.amoRespIn_answers (hr : s.takesResp p port) (hm : ∀ f : State → Nat → Nat → State, s.respMatch p f = f s j x.loff)
    (hw : (s.ops.look j).x.w32 = false) :
    s.amoRespIn p = ((s.opFin j stOk 8 (some (BitVec.ofNat 64 (ofBytes (p.payload.take 8))))).txForget (s.ops.look j).src.1 j).ackResp p := by
  obtain ⟨hc, -, hq, ha, ht⟩ := hr
  unfold State.amoRespIn
  rw [hm]
  simp [hc, hq, ht, ha, hw]

/-- The acknowledgement of a response leaves for its sender (R402). -/
theorem State.ackResp_sends {u : State} {r : Nat} (he : u.endpoint p.dstNode = some (r, port)) (h : u.answers p.srcNode p.domain) :
    u.replied (u.ackResp p) ∧ (u.ackResp p).sentCtl .ack p.psn p.srcNode p.srcFunc = true := by
  unfold State.ackResp
  rw [he]
  exact ⟨State.replied_sendCtl _ _ _ _ _ _ _ _ _ _ _ _ _, State.sentCtl_sendCtl h⟩

/-- An AMOF's response gives the operation its outcome, and is acknowledged (R402). -/
theorem State.completes_amoResp (h : s.calm) (hk : okPacket p = true) (hop : p.op = .amoResp) (hr : s.takesResp p port)
    (hm : ∀ f : State → Nat → Nat → State, s.respMatch p f = f s j x.loff) (hn : s.noChannelWork) (hl : (s.ops.look j).live = true)
    (hf : (s.ops.look j).fin = none) (hw : (s.ops.look j).x.w32 = false) (ha : s.answers p.srcNode p.domain) :
    s.completes (.amoRespArrival p) fun t =>
      (t.ops.look j).fin = some (stOk, 8, some (BitVec.ofNat 64 (ofBytes (p.payload.take 8)))) ∧ t.sentCtl .ack p.psn p.srcNode p.srcFunc = true := by
  have hin := State.amoRespIn_answers hr hm hw
  generalize BitVec.ofNat 64 (ofBytes (p.payload.take 8)) = v at hin ⊢
  have hcalm := State.calm_amoAnswered (j := j) h v
  obtain ⟨-, he, -⟩ := hr
  have hsettle : ∃ t, (s.amoRespIn p).settle = t.settle ∧ (s.amoAnswered j v).replied t ∧ t.sentCtl .ack p.psn p.srcNode p.srcFunc = true := by
    rcases State.opFin_answered hl hf v with hfin | hfin
    · rw [hin, hfin]
      exact ⟨_, rfl, State.ackResp_sends (u := s.amoAnswered j v) he ha⟩
    · rw [hin, hfin]
      obtain ⟨hr, hsent⟩ := State.ackResp_sends (u := (s.amoAnswered j v).later (.room .bulk)) he ha
      obtain ⟨t, hst, hrt, hrin⟩ := State.settle_replied_room hcalm hn hr
      exact ⟨t, hst, hrt, (State.sentCtl_congr hrin _ _ _ _).trans hsent⟩
  obtain ⟨t, hst, hr, hsent⟩ := hsettle
  have htc := State.calm_replied hr hcalm
  refine ⟨t.settle, by rw [State.exec_amoRespArrival h hk hop, hst], ?_, (State.sentCtl_congr (State.settle_rin _ htc) _ _ _ _).trans hsent⟩
  rw [State.settle_ops _ htc]
  obtain ⟨⟨r, d, i, c, w, y, rfl⟩, -⟩ := hr
  simp [State.amoAnswered, State.txForget]

end

/-! ### The key table (R275) -/

section
variable {s : State}

theorem State.exec_keyTableReadReturn (h : s.calm) {i : Nat} (hi : i < 2 ^ 24) (r : ReadRes) :
    exec (.keyTableReadReturn i r) s = .next (s.ktabReturn i r).settle := ended_fabric h (decide_eq_true hi) _

theorem State.calm_kfill (h : s.calm) (i : Nat) (e : KeyEnt) : (s.kfill i e).calm := by
  unfold State.kfill
  extract_lets e' t mates u
  have hu : u.calm := by
    unfold u
    split
    · exact State.calm_congr h rfl rfl rfl rfl rfl rfl rfl
    · split
      · exact State.calm_congr h rfl rfl rfl rfl rfl rfl rfl
      · exact State.calm_congr h rfl rfl rfl rfl rfl rfl rfl
  exact State.calm_congr hu rfl rfl rfl rfl rfl rfl rfl

theorem State.prx_kfill (s : State) (i : Nat) (e : KeyEnt) : (s.kfill i e).prx = s.prx := by
  unfold State.kfill
  extract_lets e' t mates u
  show u.prx = s.prx
  unfold u
  split
  · rfl
  · split <;> rfl

/-- A state with other waiters for the key table. -/
def State.withKwait (s : State) (x : List (Nat × KeyWait)) : State := { s with kwait := x }

@[simp] theorem State.withKwait_inc (s : State) (x : List (Nat × KeyWait)) : (s.withKwait x).inc = s.inc := rfl
@[simp] theorem State.withKwait_integ (s : State) (x : List (Nat × KeyWait)) (i : Nat) (l : List Word) : (s.withKwait x).integ i l = s.integ i l := rfl
@[simp] theorem State.withKwait_flag (s : State) (x : List (Nat × KeyWait)) (f : Fld) : (s.withKwait x).flag f = s.flag f := rfl

/-- An entry that passes its tag fills the cache; a pair channel that no longer waits for it does nothing (R274, R275). -/
theorem State.ktabReturn_fills {i k : Nat} {ws : List Word} {e : KeyEnt} (he : e = KeyEnt.ofWords ws) (ht : e.epoch ≠ s.inc ∨ s.integ i e.head = tagOfWords ws)
    (hen : s.flag F.RMA_KTAB_CTRL_EN = true) (hw : s.kwait = [(i, KeyWait.pair k)]) (hk : (s.prx.look k).st ≠ .key) :
    s.ktabReturn i (.ok ws) = (s.withKwait []).kfill i e := by
  subst he
  unfold State.ktabReturn
  extract_lets kws t
  have hkws : kws = [KeyWait.pair k] := by simp [kws, hw]
  rw [if_neg (by simp [hkws]), hkws]
  dsimp -zeta only
  extract_lets e bad u e' v
  have ht0 : t = s.withKwait [] := by simp [t, hw, State.withKwait]
  have hbad : bad = false := by
    unfold bad
    rcases ht with h | h <;> simp [e, ht0, h]
  have hv : v = (s.withKwait []).kfill i e := by simp [v, u, e', hbad, ht0, hen]
  have hst : (v.prx.look k).st ≠ .key := by rw [hv, State.prx_kfill]; exact hk
  exact (if_neg hst).trans hv

theorem rowAt_rmaKtabCtrl : rowAt 0x500000 = some ⟨"RMA_KTAB_CTRL", 0x500000, [], [⟨0, 0, .rw, 0, .live⟩]⟩ := rfl

/-- A write of RMA_KTAB_CTRL enables the key table or empties its cache (R275). -/
theorem State.regWrite_rmaKtabCtrl {o : Origin} (hw : s.mayWrite o 0x500000) (v : Word) : s.regWrite o 0x500000 8 v = s.ktabEnable (wbit v 0) := by
  obtain ⟨ho, hv, hl, -, -⟩ := hw
  have hr := rowAt_rmaKtabCtrl
  rw [State.regWrite_named_high ho hv hl (by decide) (by decide) (by decide) hr]
  simp [State.regPut, fieldBits, hr, wbit]

theorem State.exec_keyTableEnableWrite {o : Origin} (hw : s.mayWrite o 0x500000) (ho : okOrigin o = true) (v : Word) :
    exec (.keyTableEnableWrite o v) s = .next (s.ktabEnable (wbit v 0)).settle := by
  rw [← State.regWrite_rmaKtabCtrl hw v]
  exact ended_true _ _ ho

end

/-! ### The statement -/

/-- Settles O37: a grant and what ends it by the head of the line's queue, a response by the operation that it matches, the key table by its entry. -/
theorem atomicsAndResponses : Obligations.AtomicsAndResponses := by
  unfold Obligations.AtomicsAndResponses
  intro s h
  refine ⟨?_, ?_, ?_, ?_, ?_, ?_, ?_, ?_, ?_, ?_⟩
  · intro line k pa x ks p hq hg hp hs hn _
    exact State.gives_out (State.lineGrant_head (atHost := false) hq hg hp hs (by simp [hn]) rfl) (State.calm_lineTaken h _) (State.exec_lineLockGrant h line)
  · intro line k pa x ks p hq hg hp hs hn hsub
    refine State.gives_out (State.lineGrant_head (atHost := true) hq hg hp hs ?_ rfl) (State.calm_lineTaken h _) (State.exec_lineLockGrant h line)
    rcases hsub with hsub | hsub | ⟨hsub, hw⟩
    · simp [hn, hsub]
    · simp [hn, hsub]
    · simp [hn, hsub, hw]
  · intro line k pa x old ks p hq hg ha hp hs hh hdup hd hsig hw ho
    exact State.completes_amoRead h ⟨hq, hg, hp, hs⟩ ha hw ho ⟨hh, hdup, hd, hsig⟩
  · intro line k pa x old ks p hq hg ha hp hs hh hdup hd hsig hw ho
    obtain ⟨u, he, -, -, hleft⟩ := State.amoFinish_leaves h ⟨hh, hdup, hd, hsig⟩ hq old
    exact ⟨_, by rw [State.exec_atomicopComplete h, State.amoNative_word ⟨hq, hg, hp, hs⟩ ha hw ho, he], hleft⟩
  · intro key a hf hd
    exact State.gives_settle (by rw [State.exec_amoResultExpiry h, State.amoExpire_due hf hd]) (State.calm_congr h rfl rfl rfl rfl rfl rfl rfl)
  · intro p j ch va port x hk hop hc he hq ha ht h0 hsz hpg hj hx hlo hhi hcov hb hbs hjs hl
    have hm := State.respMatch_found ⟨hc, he, hq, ha, ht⟩ (by simpa [hop] using hj) hx
    exact State.gives_settle (by rw [State.exec_getRespArrival h hk hop, State.getResp_places hm h0 hsz hpg hlo hhi hcov hb hbs hjs hl])
      (State.calm_congr h rfl rfl rfl rfl rfl rfl rfl)
  · intro p j port x hk hop hc he hq ha ht hu hch hj hl hf hx hw hs hn hkey
    have hm := State.respMatch_found ⟨hc, he, hq, ha, ht⟩ (by simpa [hop] using hj) hx
    exact State.completes_amoResp h hk hop ⟨hc, he, hq, ha, ht⟩ hm ⟨hu, hch⟩ hl hf hw ⟨hq, hs, hn, hkey⟩
  · intro i k ws e hi he ht hen hw hk
    refine State.gives_settle (by rw [State.exec_keyTableReadReturn h hi, State.ktabReturn_fills he ht hen hw hk]; rfl) (State.calm_kfill ?_ i e)
    exact State.calm_congr h rfl rfl rfl rfl rfl rfl rfl
  · intro o v hw ho hv
    refine State.gives_settle (by rw [State.exec_keyTableEnableWrite hw ho, hv]; rfl) (State.calm_put ?_ _ (by decide))
    exact State.calm_congr h rfl rfl rfl rfl rfl rfl rfl
  · intro o v hw ho hv hen
    refine State.gives_settle ?_ (State.calm_put (State.calm_put h _ (by decide)) _ (by decide))
    rw [State.exec_keyTableEnableWrite hw ho, hv, State.ktabEnable, if_pos rfl, hen, if_neg (by decide)]

end Sys2Proof.Machine
end

section
namespace Sys2Proof

/-- Where no listed record satisfies `p`, and the default does not, no record does. -/
theorem Tab.look_of_keysOf_nil {α : Type} [DecidableEq α] [Inhabited α] {t : Tab α} {p : α → Bool} (h : t.keysOf p = []) (hd : p default = false) (k : Nat) :
    p (t.look k) = false := by
  induction t with
  | nil => exact hd
  | cons e t ih =>
    obtain ⟨j, a⟩ := e
    have ha : p a = false := Bool.eq_false_iff.2 fun hp => by simp [Tab.keysOf, hp] at h
    have ht : Tab.keysOf t p = [] := by simpa [Tab.keysOf, List.filter_cons, ha] using h
    by_cases hj : j = k
    · simpa [Tab.look, Tab.lookD, hj] using ha
    · simpa [Tab.look, Tab.lookD, hj] using ih ht

end Sys2Proof

namespace Sys2Proof.Machine

/-! ### Changes of channels and of their operations (R295 to R299) -/

section
variable {s t : State}

theorem State.counted_updChan (h : s.counted t) (c : Nat) (f : Chan → Chan) : (s.updChan c f).counted (t.updChan c f) := by
  obtain ⟨r, rfl, hr⟩ := h
  exact ⟨r, rfl, hr⟩

theorem State.counted_ledger (h : s.counted t) (dom n amount : Nat) : (s.ledger dom n amount).counted (t.ledger dom n amount) := by
  obtain ⟨r, rfl, hr⟩ := h
  unfold State.ledger
  dsimp only
  split
  · exact ⟨r, rfl, hr⟩
  · exact ⟨r, rfl, hr⟩

theorem State.chans_counted (h : s.counted t) : t.chans = s.chans := by
  obtain ⟨r, rfl, -⟩ := h
  rfl

/-- Two changes of a channel that agree on it are one. -/
theorem State.updChan_congr (s : State) {c : Nat} {f g : Chan → Chan} (h : f (s.chans.look c) = g (s.chans.look c)) : s.updChan c f = s.updChan c g := by
  simp only [State.updChan, Tab.upd_congr _ h]

theorem State.calm_updChan (h : s.calm) (c : Nat) (f : Chan → Chan) : (s.updChan c f).calm := State.calm_congr h rfl rfl rfl rfl rfl rfl rfl

/-- A state with other tolls. -/
def State.withTolls (s : State) (x : Tab Toll) : State := { s with tolls := x }

theorem State.calm_withTolls (h : s.calm) (x : Tab Toll) : (s.withTolls x).calm := State.calm_congr h rfl rfl rfl rfl rfl rfl rfl

theorem State.counted_withTolls (h : s.counted t) (x : Tab Toll) : (s.withTolls x).counted (t.withTolls x) := by
  obtain ⟨r, rfl, hr⟩ := h
  exact ⟨r, rfl, hr⟩

@[simp] theorem State.accDrop_chans (s : State) (k : Nat) : (s.accDrop k).chans = s.chans := rfl

/-- A REVOKE that waits for packets in flight (R276). -/
def Op.revokes (o : Op) : Bool := o.live && o.fin.isNone && o.opcode == 0x84 && o.opf == 1 && decide (o.arg > 0)

theorem State.revoking_eq (s : State) : s.revoking = s.ops.keysOf Op.revokes := rfl

/-- A change that makes no REVOKE of an operation leaves a calm state calm. -/
theorem State.calm_updOp (h : s.calm) (k : Nat) {f : Op → Op} (hf : (f (s.ops.look k)).revokes = (s.ops.look k).revokes) : (s.updOp k f).calm := by
  obtain ⟨hw, hp, hr, ha, hv, hm, hh⟩ := h
  rw [State.revoking_eq] at hv
  exact ⟨hw, hp, hr, ha, Tab.keysOf_put_nil k hv (hf.trans (Tab.look_of_keysOf_nil hv rfl k)), hm, hh⟩

end

/-! ### Grants (R297 to R299, R413, R415, R417) -/

section
variable {s : State} {c port pasid dom n : Nat} {b : Burst}

/-- Read burst `b` is the one that channel `c` issues next, for a run that stands there, and no channel of a higher priority competes (R299). -/
abbrev State.mayGrant (s : State) (c : Nat) (b : Burst) (port pasid dom : Nat) : Prop :=
  s.chanReady c = some b ∧ s.burstHome c b = (port, pasid, dom) ∧ s.outranked c port = false ∧ b.kind = .read

theorem State.exec_burstGrant (h : s.calm) (hc : c ≤ 127) : exec (.burstGrant c) s = .next (s.burstGrant c).settle :=
  ended_fabric h (decide_eq_true (by omega)) _

/-- A burst has joined those that a channel has issued, under the channel's next number (R298). -/
def Chan.joined (ch : Chan) (b : Burst) : Chan :=
  { ch with bursts := ch.bursts ++ [{ b with id := ch.nextId, issued := true, scav := false, faulted := none }], nextId := ch.nextId + 1 }

/-- A read burst has joined its channel's bursts, and its operation has asked for its bytes (R298). -/
def State.joined (s : State) (c : Nat) (b : Burst) : State :=
  { s with ops := s.ops.upd b.op fun o => { o with asked := o.asked + b.len }, chans := s.chans.upd c fun ch => ch.joined b }

theorem State.joined_eq (s : State) (c : Nat) (b : Burst) :
    s.joined c b = (s.updChan c fun ch => ch.joined b).updOp b.op fun o => { o with asked := o.asked + b.len } := rfl

theorem State.calm_joined (h : s.calm) (c : Nat) (b : Burst) : (s.joined c b).calm :=
  State.calm_updOp (State.calm_updChan h c fun ch => ch.joined b) b.op (f := fun o => { o with asked := o.asked + b.len }) rfl

theorem State.counted_joined {t : State} (h : s.counted t) (c : Nat) (b : Burst) : (s.joined c b).counted (t.joined c b) := by
  obtain ⟨r, rfl, hr⟩ := h
  exact ⟨r, rfl, hr⟩

/-- With no burst put in front of those not issued, a read burst takes the channel's next number, and its bytes are asked for (R297, R298). -/
theorem State.burstIssue_read (hh : s.burstHome c b = (port, pasid, dom)) (hk : b.kind = .read) (hj : (s.chans.look c).jumped = []) :
    ∃ t, s.counted t ∧
      s.burstIssue c b false = ((t.joined c b).access (.burst c (s.chans.look c).nextId) pasid dom .read false b.pieces b.data).2 := by
  have ht := State.counted_trans (s.counted_count 0x0600 c 1 (some dom)) (State.counted_count _ 0x0601 c b.len (some dom))
  refine ⟨_, ht, ?_⟩
  unfold State.burstIssue
  simp only [hh, hj, hk, List.any_nil, Bool.false_eq_true, ↓reduceIte, BurstKind.writes]
  rw [State.updChan_congr (g := fun ch => ch.joined b) _ (by rw [State.chans_counted ht]; simp only [Chan.joined, hk]),
    ← State.joined_eq]

/-- The arbiter grants the burst of a channel that is ready and not outranked, as its toll colours it (R299, R413). -/
theorem State.burstGrant_metered (hg : s.mayGrant c b port pasid dom) {t : State} {col : Colour} {toll : Option Nat}
    (hm : s.metered dom 0 b.len (s.precolour (s.opRun b.op).wq) = (t, col, toll)) :
    s.burstGrant c = match col with
      | .green => t.burstIssue c b false
      | .yellow => t.burstIssue c b (match toll with | some n => t.tolls.look n | none => default).demote
      | .red =>
        if (match toll with | some n => t.tolls.look n | none => default).red = 1 then t.failFrom b.op b.off stNoRes
        else (t.updChan c fun ch => { ch with deferred := toll }).ledger dom ldRed 1 := by
  obtain ⟨hr, hh, ho, hk⟩ := hg
  unfold State.burstGrant
  simp only [hr, hh, ho, hk, BurstKind.tollClass, hm, Bool.false_eq_true, ↓reduceIte, beq_self_eq_true, Bool.and_true, decide_eq_true_eq]
  cases col <;> rfl

theorem State.metered_off (h : s.flag F.TOL_CTRL_METER_EN = false) (dom cls bytes pre : Nat) : s.metered dom cls bytes pre = (s, .green, none) := by
  simp [State.metered, h]

theorem Toll.meter_short {x : Toll} {bytes : Nat} (h : x.tp < bytes) (pre : Colour) : x.meter bytes pre = (.red, x) := if_pos (.inr h)

/-- A toll that has met one more red burst (R415). -/
def Toll.metRed (x : Toll) : Toll := { x with reds := satAdd 32 x.reds 1 }

/-- A toll without tokens for a burst colours it red, counts it, and keeps its tokens (R415). -/
theorem State.metered_red {cls bytes : Nat} (h : s.flag F.TOL_CTRL_METER_EN = true) (hn : s.tollOf dom cls = some n) (hb : (s.tolls.look n).tp < bytes) (pre : Nat) :
    ∃ t, s.counted t ∧ s.metered dom cls bytes pre = (t.withTolls (s.tolls.put n (s.tolls.look n).metRed), .red, some n) := by
  refine ⟨_, s.counted_count 0x0A02 n 1 (some dom), ?_⟩
  have hm : ∀ u : State, s.counted u → u.tolls = s.tolls := by rintro _ ⟨r, rfl, -⟩; rfl
  simp only [State.metered, h, hn, Toll.meter_short hb, ↓reduceIte, hm _ (s.counted_count 0x0A02 n 1 (some dom))]
  rfl

/-- Toll `n` has coloured a burst of channel `c` red, and the channel waits for it (R415, R417). -/
def State.deferring (s : State) (c n : Nat) : State :=
  { s with tolls := s.tolls.put n (s.tolls.look n).metRed, chans := s.chans.upd c fun ch => { ch with deferred := some n } }

theorem State.deferring_eq (s : State) (c n : Nat) :
    s.deferring c n = (s.withTolls (s.tolls.put n (s.tolls.look n).metRed)).updChan c fun ch => { ch with deferred := some n } := rfl

/-- A granted read burst of an operation reads its piece, which the TLB translates (R297 to R299). -/
theorem State.gives_grant (h : s.calm) (hc : c ≤ 127) (hg : s.mayGrant c b port pasid dom) (hj : (s.chans.look c).jumped = []) (hm : s.flag F.TOL_CTRL_METER_EN = false)
    {va m pa : Nat} (hp : b.pieces = [(va, m)]) (hd : b.data = []) (hx : s.maps pasid dom .read va m pa) :
    s.gives (.burstGrant c) ((s.joined c b).asked (.burst c (s.chans.look c).nextId) pasid dom va m pa) := by
  obtain ⟨-, hh, -, hk⟩ := id hg
  obtain ⟨t, ht, he⟩ := State.burstIssue_read hh hk hj
  have htp : t.pas = s.pas ∧ t.tlb = s.tlb ∧ t.nextId = s.nextId := by obtain ⟨r, rfl, -⟩ := ht; exact ⟨rfl, rfl, rfl⟩
  obtain ⟨hpas, htlb, hid⟩ := htp
  obtain ⟨v, hv, hacc⟩ := State.access_read (State.maps_congr (t := t.joined c b) hx hpas htlb) (.burst c (s.chans.look c).nextId)
  rw [hp, hd, hacc] at he
  have hread := State.counted_said (State.counted_accessing (State.counted_joined ht c b)
    ⟨.burst c (s.chans.look c).nextId, pasid, dom, .read, false, [], [(va, m)], [(pa, m)], [], .issued⟩)
    (.hostRead s.nextId (s.pas.look pasid).port (s.pas.look pasid).fn [(pa, m)])
  have hpas' : (t.joined c b).pas = s.pas := hpas
  have hid' : (t.joined c b).nextId = s.nextId := hid
  rw [hpas', hid'] at hv
  refine State.gives_out (State.counted_trans hread hv) (State.calm_accessing (State.calm_joined h c b) _) ?_
  rw [State.exec_burstGrant h hc, State.burstGrant_metered hg (State.metered_off hm _ _ _ _)]
  exact congrArg (fun u : State => Host.Outcome.next u.settle) he

/-- A read burst that its toll meters red, where the toll does not drop, defers its channel (R413, R415, R417). -/
theorem State.gives_deferred (h : s.calm) (hc : c ≤ 127) (hg : s.mayGrant c b port pasid dom) (hm : s.flag F.TOL_CTRL_METER_EN = true)
    (hn : s.tollOf dom 0 = some n) (hb : (s.tolls.look n).tp < b.len) (hd : (s.tolls.look n).red ≠ 1) :
    s.gives (.burstGrant c) ((s.deferring c n).ledger dom ldRed 1) := by
  obtain ⟨t, ht, he⟩ := State.metered_red hm hn hb (s.precolour (s.opRun b.op).wq)
  rw [State.deferring_eq]
  refine State.gives_counted (State.counted_ledger (State.counted_updChan (State.counted_withTolls ht _) c _) dom ldRed 1)
    (State.calm_ledger (State.calm_updChan (State.calm_withTolls h _) c _) dom ldRed 1) ?_
  have hl : ((t.withTolls (s.tolls.put n (s.tolls.look n).metRed)).tolls.look n).red ≠ 1 := by simpa [State.withTolls, Toll.metRed] using hd
  rw [State.exec_burstGrant h hc, State.burstGrant_metered hg he]
  dsimp only
  rw [if_neg hl]

end

/-! ### Reads of the register form that return (R297, R309) -/

section
variable {s : State} {c id bid d : Nat} {b : Burst}

theorem State.exec_burstComplete (h : s.calm) (hc : c ≤ 127) (r : DataRes) : exec (.burstComplete c bid r) s = .next (s.burstBack c bid r).settle :=
  ended_fabric h (decide_eq_true (by omega)) _

theorem State.accDone_burst (h : (s.accs.look id).client = .burst c bid) (r : AccRes) : s.accDone id r = (s.burstDone c bid r).accDrop id := by
  simp [State.accDone, h]

/-- The one access of burst `bid` of channel `c` has been issued (R222). -/
abbrev State.inFlight (s : State) (c bid id : Nat) : Prop :=
  (s.accs.keysOf fun a => a.client == .burst c bid) = [id] ∧ (s.accs.look id).st = .issued ∧ (s.accs.look id).client = .burst c bid

/-- The bytes that a burst's read asked for are left for its channel. -/
theorem State.burstBack_bytes (hi : s.inFlight c bid id) {bs : List Byte} (hl : bs.length = chunkLen (s.accs.look id).orig) :
    s.burstBack c bid (.ok bs) = s.later (.acc id (.bytes bs)) := by
  obtain ⟨hi, hs, hcl⟩ := hi
  simp [State.burstBack, hi, hl, State.accReturn, hs, hcl, State.accEnd]

/-- So is a failure of a burst's access on the bus. -/
theorem State.burstBack_busErr (hi : s.inFlight c bid id) : s.burstBack c bid .busErr = s.later (.acc id .busErr) := by
  obtain ⟨hi, hs, hcl⟩ := hi
  simp [State.burstBack, hi, State.accReturn, hs, hcl, State.accEnd]

/-- A channel without one of its bursts. -/
def Chan.without (ch : Chan) (bid : Nat) : Chan := { ch with bursts := ch.bursts.filter fun x => x.id != bid }

/-- The write of a register-form read's bytes stands in front of the bursts that a channel has not issued (R297). -/
def Chan.writing (ch : Chan) (b : Burst) (d : Nat) (bs : List Byte) : Chan :=
  { ch with
    jumped := ch.jumped ++ [{ b with id := ch.nextId, kind := .rfWr, pieces := [(d, b.len)], data := bs, issued := false }], nextId := ch.nextId + 1 }

section
variable (hf : ((s.chans.look c).bursts.find? fun x => x.id == bid) = some b) (hb : b.id = bid) (hk : b.kind = .rfRd d)
include hf hb hk

/-- A register-form read that has its bytes becomes the write of them, in front of the bursts not issued (R297). -/
theorem State.burstDone_rfRd_bytes (bs : List Byte) :
    s.burstDone c bid (.bytes bs) = (s.updChan c fun ch => ch.without bid).updChan c fun ch => ch.writing b d bs := by
  subst hb
  simp only [State.burstDone, hf, State.burstOk, hk, State.burstDrop, State.jump, List.foldl_cons, List.foldl_nil]
  rfl

/-- A register-form read that fails on the bus fails its transfer from its first byte on (R309). -/
theorem State.burstDone_rfRd_busErr : s.burstDone c bid .busErr = (s.updChan c fun ch => ch.without bid).rfBus c b.off := by
  subst hb
  simp only [State.burstDone, hf, State.burstBus, hk, State.burstDrop]
  rfl

end

/-- A channel of the register form whose transfer has failed on the bus at byte `off`, with no burst before it under way (R309). -/
def Chan.busHalted (ch : Chan) (off : Nat) : Chan :=
  { ch with bytes := min ch.bytes off, lastSt := stBus, bursts := [], jumped := [], parked := false, act := .halted }

/-- A transfer that ends without a message leaves its channel idle, and its one access is forgotten (R308). -/
theorem State.rfEnd_silent (st : Nat) (ha : s.accs.keysOf (fun a => match a.client with | .burst x _ => x == c | _ => false) = [id])
    (hq : (s.chans.look c).set.irqEn = false) :
    s.rfEnd c st = (s.accDrop id).updChan c fun ch => { ch with lastSt := st, bursts := [], jumped := [], parked := false, act := .idle } := by
  unfold State.rfEnd
  extract_lets ch gone u p v
  have hg : gone = [id] := ha
  rw [if_neg (by simp [ch, hq])]
  simp only [v, u, hg, List.foldl_cons, List.foldl_nil]

/-- A transfer without bursts and without message halts BUS_ERROR at the failing byte, and its one access is forgotten (R309). -/
theorem State.rfBus_alone (off : Nat) (hb : (s.chans.look c).bursts = []) (hj : (s.chans.look c).jumped = []) (hq : (s.chans.look c).set.irqEn = false)
    (ha : s.accs.keysOf (fun a => match a.client with | .burst x _ => x == c | _ => false) = [id]) :
    ∃ x : Tab Chan, s.rfBus c off = { s.accDrop id with chans := x } ∧ x.look c = (s.chans.look c).busHalted off := by
  have hend := State.rfEnd_silent (s := s.updChan c fun ch => { ch with bytes := min ch.bytes off }) (c := c) (id := id) stBus ha (by simpa using hq)
  refine ⟨((s.chans.upd c fun ch => { ch with bytes := min ch.bytes off }).upd c
    fun ch => { ch with lastSt := stBus, bursts := [], jumped := [], parked := false, act := .idle }).upd c fun ch => { ch with act := .halted }, ?_, ?_⟩
  · rw [State.rfBus]
    simp only [hb, hj, List.append_nil, List.filter_nil, List.foldl_nil, hend]
    simp only [State.updChan, State.accDrop]
  · simp [Chan.busHalted]

/-- Register-form read `bid` of channel `c` is over, with its access, and the write of its bytes stands in its place (R297). -/
def State.readTurned (s : State) (c bid id : Nat) (b : Burst) (d : Nat) (bs : List Byte) : State :=
  { s with accs := s.accs.del id, chans := (s.chans.upd c fun ch => ch.without bid).upd c fun ch => ch.writing b d bs }

theorem State.readTurned_eq (s : State) (c bid id : Nat) (b : Burst) (d : Nat) (bs : List Byte) :
    s.readTurned c bid id b d bs = ((s.updChan c fun ch => ch.without bid).updChan c fun ch => ch.writing b d bs).accDrop id := by
  simp only [State.readTurned, State.updChan, State.accDrop]

/-- A read burst that completes in the register form becomes the write of its bytes (R297). -/
theorem State.gives_rfRd_bytes (h : s.calm) (hc : c ≤ 127) (hi : s.inFlight c bid id) {bs : List Byte} (hl : bs.length = chunkLen (s.accs.look id).orig)
    (hf : ((s.chans.look c).bursts.find? fun x => x.id == bid) = some b) (hb : b.id = bid) (hk : b.kind = .rfRd d) :
    s.gives (.burstComplete c bid (.ok bs)) (s.readTurned c bid id b d bs) := by
  have ⟨_, _, hcl⟩ := hi
  have hq : (s.readTurned c bid id b d bs).calm := State.calm_congr h rfl rfl rfl rfl rfl rfl rfl
  refine State.gives_settle ?_ hq
  rw [State.exec_burstComplete h hc, State.burstBack_bytes hi hl]
  refine congrArg _ (State.settle_later h.1 ?_ hq)
  show s.accDone id _ = _
  rw [State.accDone_burst hcl, State.burstDone_rfRd_bytes hf hb hk, State.readTurned_eq]

/-- A channel's only read burst fails on the bus, and the transfer halts with the bytes before it (R309). -/
theorem State.completes_rfRd_busErr (h : s.calm) (hc : c ≤ 127) (ha : s.accs.keysOf (fun a => match a.client with | .burst x _ => x == c | _ => false) = [id])
    (hi : s.inFlight c bid id) (hbs : (s.chans.look c).bursts = [b]) (hb : b.id = bid) (hk : b.kind = .rfRd d) (hj : (s.chans.look c).jumped = [])
    (hq : (s.chans.look c).set.irqEn = false) :
    s.completes (.burstComplete c bid .busErr) fun t =>
      t = { s with accs := t.accs, chans := t.chans, regs := t.regs, outs := t.outs } ∧ t.chans.look c = (s.chans.look c).busHalted b.off := by
  have ⟨_, _, hcl⟩ := hi
  have hf : ((s.chans.look c).bursts.find? fun x => x.id == bid) = some b := by simp [hbs, hb]
  obtain ⟨x, hx, hxc⟩ := State.rfBus_alone (s := s.updChan c fun ch => ch.without bid) (c := c) (id := id) b.off
    (by simp [Chan.without, hbs, hb]) (by simpa [Chan.without] using hj) (by simpa [Chan.without] using hq) ha
  have hdone : s.accDone id .busErr = { (s.accDrop id).accDrop id with chans := x } := by
    rw [State.accDone_burst hcl, State.burstDone_rfRd_busErr hf hb hk, hx]
    rfl
  have hu : ({ (s.accDrop id).accDrop id with chans := x } : State).calm := State.calm_congr h rfl rfl rfl rfl rfl rfl rfl
  refine ⟨_, by rw [State.exec_burstComplete h hc, State.burstBack_busErr hi, State.settle_later (w := .acc id .busErr) h.1 hdone hu], ?_, ?_⟩
  · obtain ⟨r, o, he⟩ := State.edge_settle _ hu
    rw [he]
    rfl
  · rw [State.settle_chans _ hu]
    simpa [Chan.busHalted, Chan.without] using hxc

end

/-! ### Parking and binding (R302, R303) -/

section
variable {s : State} {c k : Nat}

theorem State.exec_channelPark (h : s.calm) (hc : c ≤ 127) : exec (.channelPark c) s = .next (s.chanPark c).settle := ended_fabric h (decide_eq_true (by omega)) _

theorem State.exec_operationBind (h : s.calm) : exec .operationBind s = .next s.operationBind.settle := ended_fabric h rfl _

/-- The only operation of a channel displaces none (R303). -/
theorem State.displace_alone (h : (s.chans.look c).ops = [k]) : s.displace c k = s.updChan c id := by
  unfold State.displace
  extract_lets ch behind u
  have hb : behind = [] := by simp [behind, ch, h]
  simp only [u, hb, List.foldl_nil]
  exact s.updChan_congr (by simp)

theorem Chan.not_default_of_parked {ch : Chan} (h : ch.parked = true) : ch ≠ default := by
  rintro rfl
  cases h

/-- A channel parks at its first burst, a read that met a translation fault, and the run of the burst's operation has the fault on record (R302). -/
theorem State.chanPark_first {b : Burst} {bs : List Burst} {cause level va ctx : Nat} (hb : (s.chans.look c).bursts = b :: bs)
    (hf : b.faulted = some (cause, level, va)) (hp : (s.chans.look c).parked = false) (hr : s.regform c = false) (hk : b.kind = .read) (hx : ctx = b.op / 64)
    (ho : (s.chans.look c).ops = [b.op]) :
    s.chanPark c = { s with
      chans := s.chans.upd c fun ch => { ch with parked := true, parkOp := s.handle ctx }
      runs := s.runs.upd ctx fun r => { r with
        parkedOps := r.parkedOps ++ [b.op], faults := r.faults ++ [⟨1, cause, level, 0, va, (s.ops.look b.op).pc⟩] } } := by
  subst hx
  have hfirst : (s.chans.look c).bursts.find? (·.faulted.isSome) = some b := by simp [hb, hf]
  have hearlier : (s.chans.look c).bursts.takeWhile (·.id != b.id) = [] := by simp [hb]
  have hparked : (s.chans.upd c fun ch => { ch with parked := true, parkOp := s.handle (b.op / 64) }).upd c id =
      s.chans.upd c fun ch => { ch with parked := true, parkOp := s.handle (b.op / 64) } :=
    Tab.upd_upd _ (Chan.not_default_of_parked rfl) (Chan.not_default_of_parked rfl)
  unfold State.chanPark
  simp only [hfirst, hearlier, hp, hr, hk, hf, BurstKind.writes, List.any_nil, Bool.or_false, Bool.false_eq_true, ↓reduceIte, Option.getD_some]
  rw [State.displace_alone (by simpa using ho)]
  simp only [State.updChan, State.updRun, hparked]

/-- A COPY alone on its channel forms no packet (R143, R298). -/
theorem State.workOne_form_copy (hc : (s.chans.look c).ops = [k]) (ho : (s.ops.look k).opcode = 0x26) (hf : (s.ops.look k).failSt = none) :
    State.workOne s (.form c) = s := by
  have hchan : s.chanForm c false = s := by
    simp [State.chanForm, hc, State.chanForm.go, Op.sends, ho, State.failEnd, hf]
  rw [State.workOne, hchan, State.poolStart, hc]
  simp [ho]

/-- Operation `k`, the first of those unbound, has taken a channel without operations, and those of `ks` wait on (R303). -/
def State.tookChannel (s : State) (k c : Nat) (ks : List Nat) : State :=
  { s with
    unbound := ks, ops := s.ops.upd k fun o => { o with bound := some c }, chans := s.chans.upd c fun ch => { ch with ops := [k] } }

@[simp] theorem State.tookChannel_ops (s : State) (k c : Nat) (ks : List Nat) : (s.tookChannel k c ks).ops = s.ops.upd k fun o => { o with bound := some c } := rfl
@[simp] theorem State.tookChannel_chans (s : State) (k c : Nat) (ks : List Nat) : (s.tookChannel k c ks).chans = s.chans.upd c fun ch => { ch with ops := [k] } := rfl

theorem State.calm_tookChannel (h : s.calm) (k c : Nat) (ks : List Nat) : (s.tookChannel k c ks).calm :=
  State.calm_congr (State.calm_updOp h k (f := fun o => { o with bound := some c }) rfl) rfl rfl rfl rfl rfl rfl rfl

/-- The first unbound operation takes the channel chosen for it, whose operations then form what they can (R298, R303). -/
theorem State.operationBind_alone {ks : List Nat} (hu : s.unbound = k :: ks) (hp : s.pickChan (s.opRun k).wq (s.ops.look k).pair = some c)
    (hc : (s.chans.look c).ops = []) : s.operationBind = (s.tookChannel k c ks).later (.form c) := by
  have hch : s.chans.upd c (fun ch => { ch with ops := ch.ops ++ [k] }) = s.chans.upd c fun ch => { ch with ops := [k] } :=
    Tab.upd_congr _ (by rw [hc, List.nil_append])
  simp only [State.operationBind, hu, hp, State.bindTo, State.updChan, State.updOp, hch]
  rfl

/-- A COPY that is the first unbound operation is bound, and that is all (R303). -/
theorem State.gives_bind_copy (h : s.calm) {ks : List Nat} (hu : s.unbound = k :: ks) (hp : s.pickChan (s.opRun k).wq (s.ops.look k).pair = some c)
    (hc : (s.chans.look c).ops = []) (ho : (s.ops.look k).opcode = 0x26) (hf : (s.ops.look k).failSt = none) :
    s.gives .operationBind (s.tookChannel k c ks) := by
  have hq := State.calm_tookChannel h k c ks
  refine State.gives_settle ?_ hq
  rw [State.exec_operationBind h, State.operationBind_alone hu hp hc,
    State.settle_later hq.1 (State.workOne_form_copy (k := k) (by simp) (by simpa using ho) (by simpa using hf)) hq]

end

/-! ### The statement -/

/-- Settles O38: a grant by its burst and its toll, a return by the burst that waits for it, a park and a binding by the operation that is alone on its channel. -/
theorem channelsAndBursts : Obligations.ChannelsAndBursts := by
  unfold Obligations.ChannelsAndBursts
  intro s c h hc
  refine ⟨?_, ?_, ?_, ?_, ?_, ?_⟩
  · intro b port pasid dom va n pa hr hh ho hk hj hm hp hd hx
    exact State.gives_grant h hc ⟨hr, hh, ho, hk⟩ hj hm hp hd hx
  · intro b port pasid dom n hr hh ho hk hm hn hb hd
    exact State.gives_deferred h hc ⟨hr, hh, ho, hk⟩ hm hn hb hd
  · intro id bid d b bs hi hs hcl hl hf hb hk
    exact State.gives_rfRd_bytes h hc ⟨hi, hs, hcl⟩ hl hf hb hk
  · intro id bid d b ha hi hs hcl hbs hb hk hj hq
    obtain ⟨t, he, ht, hch⟩ := State.completes_rfRd_busErr h hc ha ⟨hi, hs, hcl⟩ hbs hb hk hj hq
    exact ⟨t, he, ht, by rw [hch]; exact ⟨rfl, rfl, rfl, rfl, rfl⟩⟩
  · intro b bs cause level va ctx hb hf hp hr hk hx ho
    exact State.gives_settle (by rw [State.exec_channelPark h hc, State.chanPark_first hb hf hp hr hk hx ho])
      (State.calm_congr h rfl rfl rfl rfl rfl rfl rfl)
  · intro k ks hu hp hops ho hf
    exact State.gives_bind_copy h hu hp hops ho hf

end Sys2Proof.Machine
end
